-- ==== Sys2Proof/Word.lean ====
section
/-!
DEFINITION. The words of the engine: bytes, 32-bit register words, binary32 and binary64 bit
patterns, and instants of engine time.
-/

namespace Sys2Proof

/-- One byte of a record, a frame or a DOMAIN. -/
abbrev Byte := BitVec 8

/-- One 32-bit register of BAR0 (R385). -/
abbrev Word := BitVec 32

/-- The bit pattern of an IEEE 754 binary32 number (R123, R408). -/
abbrev F32 := BitVec 32

/-- The bit pattern of an IEEE 754 binary64 number (R127, R128, R230). -/
abbrev F64 := BitVec 64

/-- An instant of engine time in units of 2^-16 ns since the TIME96 epoch (R224). -/
abbrev Instant := Nat

/-- A sparse table: strictly rising keys, no entry equal to the table's default. -/
abbrev SMap (α : Type) := List (Nat × α)

end Sys2Proof
end

