-- ==== Sys2Proof/Syntax.lean ====
section
/-!
DEFINITION. The commands of the engine, one constructor for each row of spec/opcode_table.json, and
the types of their operands. The table gives its rows no bits and no operands; the operands are the
model's reading of what each row needs (log 15). An `Instant` operand is in units of 2^-16 ns.
-/

namespace Sys2Proof

/-- The two Anvils (R282). -/
inductive Anvil where
  | a
  | b
  deriving DecidableEq, Repr

/-- The host links, each with its own latch of the time registers (R226, R382). -/
inductive Link where
  | bar0
  | mailbox (ring : Nat)
  | spi
  | mgt (port : Nat)
  | internal
  deriving DecidableEq, Repr

/-- Who makes a register write: BAR0 directly, or a session through REG_DATA (R23, R438). -/
inductive Writer where
  | bar0
  | session (n : Nat)
  deriving DecidableEq, Repr

/-- The owning blocks of settings (R22, R240, R266, R486). -/
inductive Block where
  | elementLoop
  | pathTrim
  | planner
  | watchSchedule
  | channels
  | timeBlock
  | ptp
  | dispatch
  | eventBlock
  | thermal
  | hkc
  | banks
  | matrix
  | calibration
  | keeper
  | forgePower
  | fabric
  | audit
  | hostLinks
  | trust
  | lifeCycle
  | hallmark
  deriving DecidableEq, Repr

/-- The blocks that hold a shadow copy (R21, R26): TIME_SET (R235), a beacon (R253), a port's gate
list (R433), the watch schedule (R114), the clear table (R205). -/
inductive ShadowBlock where
  | timeSet
  | beacon (j : Nat)
  | gate (p : Nat)
  | schedule
  | clearTable
  deriving DecidableEq, Repr

/-- The fault causes of an element, in bit order (R141). -/
inductive FaultBit where
  | track
  | senseRange
  | driveSat
  | window
  | channel
  | settleTimeout
  | stateCheck
  | failstaticDrift
  deriving DecidableEq, Repr

/-- The fault causes of a channel pair, in bit order (R202). -/
inductive ChanCause where
  | readback
  | short
  | openLine
  | ladder
  deriving DecidableEq, Repr

/-- What puts an AUX output in FAULT (R216). -/
inductive AuxCause where
  | readback
  | currentLimit
  | supply
  deriving DecidableEq, Repr

/-- One lane's report for a period (R150, R151): the cycle of its last code and the elements whose
slots it did not complete. -/
structure LaneReport where
  anvil : Anvil
  lane : Nat
  completion : Nat
  lateElems : List Nat
  deriving DecidableEq, Repr

/-- One Anvil's heartbeat as the arbiter received it (R284): whether it and the period's codes arrived, the period count
that it carries, SELFCHECK, and whether the Anvil missed the relayed heartbeats of 2 periods. -/
structure BeatReport where
  anvil : Anvil
  arrived : Bool
  count : Nat
  selfcheck : Bool
  peerLoss : Bool
  deriving DecidableEq, Repr

/-- Which table holds a private-port word that failed its check (R364). -/
inductive SramUser where
  | element (e : Nat)
  | profile (p : Nat)
  | notch (n : Nat)
  | leg (id : Nat)
  | clear (e : Nat)
  deriving DecidableEq, Repr

/-- A private-port read that found an error (R364). -/
structure SramErr where
  bank : Nat
  word : Nat
  double : Bool
  user : SramUser
  deriving DecidableEq, Repr

/-- What reaches the engine at a transit or hold boundary: the demodulator's transit values, as capacitance codes, of
the window that ends at a transit boundary (R196; an element not listed repeats its last), lane reports, heartbeats, the codes that a faulty Anvil writes in place of the
law's, measured read-back means in mV (R199), carrier returns in Q0.16 (R219), private-port errors (R364). -/
structure PeriodInput where
  samples : List (Nat × Nat) := []
  lanes : List LaneReport := []
  beats : List BeatReport := []
  badCodes : List (Anvil × Nat × Nat) := []
  readbacks : List (Nat × Nat) := []
  auxReadbacks : List (Nat × Nat) := []
  carriers : List (Nat × Nat) := []
  sramErrs : List SramErr := []
  deriving DecidableEq, Repr

/-- A best master's data set, as in PTP_MASTER_DS (R243). -/
structure MasterDs where
  gm : Nat
  priority1 : Nat
  clockClass : Nat
  accuracy : Nat
  variance : Nat
  priority2 : Nat
  steps : Nat
  deriving DecidableEq, Repr

/-- What an Announce carries beside its data set: its UTC part (R227), the port that sent it and its logAnnounceInterval
(R239, R241). -/
structure UtcInfo where
  source : Nat
  interval : Int
  offset : Int
  valid : Bool
  leap61 : Bool
  leap59 : Bool
  deriving DecidableEq, Repr

/-- Bits of a stored audit record flipped in the ring as it is read (R277). -/
structure Damage where
  seq : Nat
  byte : Nat
  mask : Byte
  deriving DecidableEq, Repr

/-- One unit's measured result: its deviations in the order of R323's row for the type, and its
user-layer entry (R312, R314). -/
structure CalUnit where
  unit : Nat
  dev : List Int
  body : List Byte
  deriving DecidableEq, Repr

/-- The results of a run's measuring (R318, R323). -/
structure CalOutcome where
  units : List CalUnit
  deriving DecidableEq, Repr

/-- The conditions of a zone (R333, R334). -/
inductive ThmCond where
  | warn
  | hot
  | crit
  | rate1
  | rate10
  | blind
  deriving DecidableEq, Repr

/-- What SECDED finds in the words of a read (R364, R369), with the word's number in the access. -/
inductive MemErr where
  | ok
  | single (word : Nat)
  | double (word : Nat)
  deriving DecidableEq, Repr

/-- The word an error lies in. -/
def MemErr.word : MemErr → Option Nat
  | .ok => none
  | .single w => some w
  | .double w => some w

/-- The two atomics (R363). -/
inductive AtomicOp where
  | add
  | swap
  deriving DecidableEq, Repr

/-- A transaction outstanding when its master is reset (R378). -/
structure Burst where
  addr : Nat
  write : Bool
  done : Nat
  total : Nat
  data : List Byte
  deriving DecidableEq, Repr

/-- Why a session closes, in the order of R487's codes. -/
inductive CloseReason where
  | peerClose
  | idle
  | v2Disabled
  | ringStopped
  | forgeRestart
  | transportError
  deriving DecidableEq, Repr

/-- The state of the PCIe link (R13, R384). -/
inductive PcieLink where
  | down
  | l0
  | l1
  | l1sub
  deriving DecidableEq, Repr

/-- The commands of the engine. -/
inductive Instr where
  /-- TRANSIT_BOUNDARY (R20). A 250 ns transit period boundary of engine time is reached. -/
  | transitBoundary (inp : PeriodInput)
  /-- HOLD_BOUNDARY (R20). An 8 µs hold period boundary is reached. -/
  | holdBoundary (inp : PeriodInput)
  /-- TRIM_BOUNDARY (R20). A 128 µs trim period boundary is reached. -/
  | trimBoundary
  /-- LIVE_SETTING_APPLY (R21). A live setting written earlier comes into force at its block's next period boundary. -/
  | liveSettingApply (b : Block)
  /-- SHADOW_COMMIT_APPLY (R26). A shadow snapshot taken by a commit write is transferred at the owning block's next boundary. -/
  | shadowCommitApply (b : ShadowBlock)
  /-- REGISTER_WRITE (R23). A write to a register that has no row of its own is applied atomically or rejected whole with WRITE_REJECT. -/
  | registerWrite (w : Writer) (offset : Nat) (value : Word)
  /-- FORGE_TIMED_WAKE (R11). A timed commit or schedule start falls due within FORGE_TIMED_LEAD and wakes the Forge. -/
  | forgeTimedWake
  /-- FORGE_LANES_READY (R11). The transit lanes become ready at most 6 µs after a wake request. -/
  | forgeLanesReady
  /-- FORGE_CORES_RESUMED (R11). The management cores resume at most 20 µs after a wake request. -/
  | forgeCoresResumed
  /-- FORGE_SLEEP_START (R12). The sleep conditions have held for FORGE_SLEEP_DELAY and the Forge begins to sleep. -/
  | forgeSleepStart
  /-- FORGE_SLEEP_COMPLETE (R12). Forge sleep completes, and banks with RET_WITH_FORGE enter retention. -/
  | forgeSleepComplete
  /-- LANE_RETIRE (R152). A lane whose margin stayed below 10 % for 3 periods is retired and its slots move to a spare. -/
  | laneRetire (anvil : Anvil) (lane : Nat)
  /-- SETTLE_TIMEOUT (R134). An element has not settled 100 µs after its reference reached the target and enters FAULTED. -/
  | settleTimeout (e : Nat)
  /-- ELEM_FAULT (R141). A fault cause reaches its count or condition and the element enters FAULTED at 0 V. -/
  | elemFault (e : Nat) (cause : FaultBit)
  /-- REROUTE_PLAN_COMPLETE (R71). The re-route plan completes and either commits immediately or leaves legs DEGRADED. -/
  | reroutePlanComplete (planNs : Nat)
  /-- PLAN_QUERY (R79). Change records are planned against the planned configuration without commit. -/
  | planQuery (ses : Nat) (value : List Byte) (planNs : Nat)
  /-- BATCH_SUBMIT (R82). A batch header and change records are submitted, validated and sent to planning. -/
  | batchSubmit (ses : Nat) (value : List Byte)
  /-- BATCH_PLAN_COMPLETE (R84). A batch's plan completes and the batch becomes PENDING, HELD or FAILED. -/
  | batchPlanComplete (id : Nat) (planNs : Nat)
  /-- ROUTE_IMAGE_COMPLETE (R77). The route image of the next batch is complete in the inactive copy. -/
  | routeImageComplete
  /-- BATCH_FIRE (R89). A BATCH_FIRE names the HELD batch, which is processed within 1 µs for commit. -/
  | batchFire (ses : Nat) (id : Nat)
  /-- BATCH_CANCEL (R98). A BATCH_CANCEL withdraws a PENDING or HELD batch, or returns NOT_ELIGIBLE. -/
  | batchCancel (ses : Nat) (id : Nat)
  /-- BATCH_COMMIT (R90). At T0 the route tables swap, the generation advances and trajectories start. -/
  | batchCommit
  /-- BATCH_SETTLE_LIMIT (R95). T0 + 100 µs passes with a leg unsettled and the batch closes LATE_SETTLED. -/
  | batchSettleLimit (id : Nat)
  /-- CFG_BODY_WRITE (R104). A stored configuration body is written and its compile starts. -/
  | cfgBodyWrite (ses : Nat) (c : Nat) (value : List Byte)
  /-- CFG_COMPILE_DONE (R104). A configuration compile ends READY or INVALID and raises 0x618. -/
  | cfgCompileDone (c : Nat) (compileNs : Nat)
  /-- SCHED_ARM (R109). ARM validates the shadow schedule, makes it active and computes the start. -/
  | schedArm (ses : Nat)
  /-- SCHED_COMMIT (R114). COMMIT validates the shadow table and base and schedules the change. -/
  | schedCommit (ses : Nat)
  /-- SCHED_STOP_AT_CYCLE_END (R116). The schedule is stopped at the end of the current cycle. -/
  | schedStopAtCycleEnd (ses : Nat)
  /-- SCHED_STOP_NOW (R116). The schedule is stopped with no further boundary committed. -/
  | schedStopNow (ses : Nat)
  /-- SCHED_IMAGE_COPY_START (R110). At the latest 4 µs before the start, the copy of watch 0's route image begins. -/
  | schedImageCopyStart
  /-- SCHED_START (R110). The start instant arrives, watch 0 commits and the schedule becomes RUNNING. -/
  | schedStart
  /-- WATCH_BOUNDARY_COMMIT (R111). A watch boundary commits a stored configuration as a batch of MODE WATCH. -/
  | watchBoundaryCommit
  /-- SCHED_CHANGE_APPLY (R114). A committed schedule change takes effect and raises SCHED_CHANGED. -/
  | schedChangeApply
  /-- ELEM_MODE_WRITE (R139). A host write of PARKED, HOLD or MANUAL to ELEM_MODE is accepted or refused. -/
  | elemModeWrite (ses : Nat) (e : Nat) (value : Nat)
  /-- ELEM_TARGET_SET_WRITE (R130). A target for a leg-free element in HOLD takes effect at the next hold boundary. -/
  | elemTargetSetWrite (ses : Nat) (e : Nat) (value : Nat)
  /-- ELEM_MANUAL_CODE_WRITE (R139). A drive code for MANUAL mode is accepted within CHAN_CLEAR_LIMIT or as session 31 allows. -/
  | elemManualCodeWrite (ses : Nat) (e : Nat) (value : Nat)
  /-- ELEM_FAULT_CLEAR (R143). A write of 1 to ELEM_FAULT_CLEAR requests an extra read-back to clear the fault. -/
  | elemFaultClear (ses : Nat) (e : Nat) (value : Nat)
  /-- FAULT_CLEAR_READBACK (R204). The extra read-back completes, and the clear is accepted with 0x715 or refused. -/
  | faultClearReadback (e : Nat) (mv : Nat) (shortNow openNow : Bool)
  /-- FABRIC_CLEAR_ASSERT (R207). FABRIC_CLEAR_N is recognised low; loops freeze and channels drive their clear codes. -/
  | fabricClearAssert (edge : Instant)
  /-- FABRIC_CLEAR_RELEASE (R144). FABRIC_CLEAR_N is recognised high; elements resume with hand-overs. -/
  | fabricClearRelease (edge : Instant)
  /-- AUX_CLEAR_RETURN (R207). AUX outputs following the clear return to AUX_VALUE at the first hold boundary after release. -/
  | auxClearReturn
  /-- BUOY_SAMPLE (R162). A buoy converter takes a power sample of its detectors. -/
  | buoySample (c : Nat) (i : Nat) (codes : List Nat)
  /-- OVERPOWER_CLEAR (R163). A detector has read below +19.5 dBm for 1 ms and its OVERPOWER bit clears. -/
  | overpowerClear (d : Nat)
  /-- LIGHT_ON (R48). Light at a port detector rises through its threshold and is stamped and recorded. -/
  | lightOn (d : Nat) (capture : Instant)
  /-- LIGHT_OFF (R48). Light at a port detector falls through threshold less hysteresis and is recorded. -/
  | lightOff (d : Nat) (capture : Instant)
  /-- THRESHOLD_CHANGE_CROSSING (R164). A new threshold puts present power on its other side and a flagged light event is recorded. -/
  | thresholdChangeCrossing (d : Nat)
  /-- TRIM_QUALIFIED (R173). A QUALIFYING leg has been lit without interruption for 2 µs. -/
  | trimQualified (leg : Nat)
  /-- SPLIT_UNBALANCED (R176). d_eta exceeds SPLIT_ALARM at 16 consecutive steps and 0x662 is raised. -/
  | splitUnbalanced (e : Nat)
  /-- TRIM_LOSS_DRIFT (R179). LEG_LOSS exceeds its baseline plus the limit at 16 trim boundaries and 0x660 is raised. -/
  | trimLossDrift (leg : Nat)
  /-- BUOY_SLOW (R180). A converter late in two consecutive trim periods is marked SLOW and its legs are suspended. -/
  | buoySlow (c : Nat)
  /-- BUOY_RESTORED (R180). A converter with no late hold period in a whole trim period is restored. -/
  | buoyRestored (c : Nat)
  /-- COMPENSATION_APPLY (R339). At the next hold boundary an element's compensated terms take effect with a hand-over. -/
  | compensationApply (e : Nat)
  /-- CHANNEL_FAULT (R202). A confirmed mismatch, short, open or ladder fault latches a channel fault. -/
  | channelFault (e : Nat) (cause : ChanCause)
  /-- LADDER_CELL_RETIRE (R192). A ladder level deviates at 2 consecutive checks, and its cell is retired and replaced. -/
  | ladderCellRetire (level : Nat)
  /-- LADDER_SELECTION_CHANGE (R193). A ladder selection change takes effect at a transit boundary under the deglitcher. -/
  | ladderSelectionChange
  /-- LADDER_UV (R194). VHV stays below 38.0 V for 10 µs; channels go to 0 V and elements fault. -/
  | ladderUv
  /-- LADDER_RESTART (R195). VHV has been good for 100 ms and the ladder restarts and checks its levels. -/
  | ladderRestart (deviates : List Nat)
  /-- LADDER_REGULATING (R209). The ladder regulates after firmware enables it, and the clear table is loaded. -/
  | ladderRegulating
  /-- CLEAR_COMMIT (R205). Both clear-table shadows are validated and committed, or refused with RANGE. -/
  | clearCommit (ses : Nat) (value : Nat)
  /-- CLEAR_TABLE_APPLY (R206). The new clear table takes effect at the next hold boundary. -/
  | clearTableApply
  /-- CHAN_SPAN_WRITE (R211). A span change takes a PARKED channel to 0 V at the next hold boundary. -/
  | chanSpanWrite (ses : Nat) (e : Nat) (value : Nat)
  /-- CHAN_SPAN_DWELL_END (R211). The 10 µs dwell ends and the new span drives the clear code. -/
  | chanSpanDwellEnd (e : Nat)
  /-- AUX_CONFIG_WRITE (R214). An AUX_CONFIG write sets AUX_VALUE to 0 and requests a range change. -/
  | auxConfigWrite (ses : Nat) (aux : Nat) (value : Nat)
  /-- AUX_DWELL_START (R214). At the first hold boundary the output steps to the safe value in DWELL. -/
  | auxDwellStart (aux : Nat)
  /-- AUX_STAGE_SWITCH (R214). 1 µs into the dwell the stage switches to the new range. -/
  | auxStageSwitch (aux : Nat)
  /-- AUX_RANGE_ENABLE (R214). 10 µs into the dwell the new range is enabled and the output moves to its value. -/
  | auxRangeEnable (aux : Nat)
  /-- AUX_VALUE_WRITE (R215). A new AUX_VALUE takes effect at the next hold boundary under AUX_SLEW. -/
  | auxValueWrite (ses : Nat) (aux : Nat) (value : Nat)
  /-- AUX_FAULT (R216). A confirmed mismatch, lasting current limit or supply fault puts an AUX output in FAULT. -/
  | auxFault (aux : Nat) (cause : AuxCause)
  /-- AUX_COMPLIANCE (R216). An I250 output saturates and sets COMPLIANCE. -/
  | auxCompliance (aux : Nat)
  /-- AUX_COMPLIANCE_CLEAR (R216). COMPLIANCE clears after 1 ms within compliance. -/
  | auxComplianceClear (aux : Nat)
  /-- TIME_PLL_LOCK (R225). The time PLL locks after VAUX good and the counter starts from the calendar or 0. -/
  | timePllLock
  /-- TIME_NOW_NS_READ (R226). A read of TIME_NOW_NS returns nanoseconds and latches seconds and fraction. -/
  | timeNowNsRead (l : Link) (at_ : Instant)
  /-- PTP_SYNC_RECEIVE (R229). A Sync message is received on the selected port and yields a servo offset. -/
  | ptpSyncReceive (p : Nat) (twoStep : Bool) (seq : Nat) (offset : Int)
  /-- PTP_FOLLOW_UP_RECEIVE (R229). A Follow_Up completes a two-step Sync offset. -/
  | ptpFollowUpReceive (p : Nat) (seq : Nat) (correction : Int)
  /-- TIME_STEP_APPLY (R233). A waiting step or load is applied at a transit boundary. -/
  | timeStepApply
  /-- STEP_DEFER_TIMEOUT (R234). A step has been deferred for TIME_STEP_DEFER_MAX and becomes forced. -/
  | stepDeferTimeout
  /-- TIME_FORCE (R234). A write of FORCE forces a waiting step or load. -/
  | timeForce (w : Writer)
  /-- TIME_LOAD (R235). A write of LOAD commits TIME_SET to be loaded like a step. -/
  | timeLoad (w : Writer)
  /-- CAL_WRITE (R246). A host request writes the calendar at the next second boundary. -/
  | calWrite (w : Writer)
  /-- CALENDAR_WRITE (R246). The calendar is written from the counter at a second boundary. -/
  | calendarWrite
  /-- PPS_IN_EDGE (R244). A rising edge on PPS_IN is stamped and gives a servo offset. -/
  | ppsInEdge (stamp : Instant)
  /-- PPS_LOST (R232). No PPS_IN edge has been recognised for 1.5 s. -/
  | ppsLost
  /-- REFCLK_LOST (R245). REFCLK_IN is lost, and the PLL moves to the TCXO. -/
  | refclkLost
  /-- REFCLK_RESTORED (R245). REFCLK_IN has been good for 10 s, and the PLL returns to it. -/
  | refclkRestored
  /-- PTP_ANNOUNCE_RECEIVE (R241). An Announce message updates the best master and the port selection. -/
  | ptpAnnounceReceive (p : Nat) (ds : MasterDs) (utc : UtcInfo)
  /-- ANNOUNCE_RECEIPT_TIMEOUT (R240). Announce receipt times out and the port moves to LISTENING. -/
  | announceReceiptTimeout (p : Nat)
  /-- PTP_SEL_HOLD_EXPIRE (R241). A better port has stayed best for PTP_SEL_HOLD and is selected. -/
  | ptpSelHoldExpire
  /-- PTP_DELAY_REQ_SEND (R239). The port transmits a Delay_Req or Pdelay_Req. -/
  | ptpDelayReqSend (p : Nat) (seq : Nat) (egress : Instant)
  /-- PTP_DELAY_RESP_RECEIVE (R240). A Delay_Resp or Pdelay_Resp yields a path delay measurement:
  `delay` is the measurement, or where the port sends two-step twice it with the egress stamp left out. -/
  | ptpDelayRespReceive (p : Nat) (seq : Nat) (delay : Int)
  /-- PTP_PDELAY_REQ_RECEIVE (R239). A Pdelay_Req is received and answered with Pdelay_Resp. -/
  | ptpPdelayReqReceive (p : Nat) (seq : Nat) (egress : Instant)
  /-- TXQ_STALE_RETIRE (R255). A transmit-queue entry unclaimed for 1 s is retired. -/
  | txqStaleRetire (p : Nat)
  /-- UTC_OFFSET_CHANGE (R227). A leap second falls at the end of the UTC day and the UTC offset changes. -/
  | utcOffsetChange
  /-- MGT_LINK_CHANGE (R240). A management port's link goes up or down. -/
  | mgtLinkChange (p : Nat) (up : Bool)
  /-- TS_IN_EDGE (R249). An edge on a TS_IN input is captured into its FIFO or counted missed. -/
  | tsInEdge (i : Nat) (rising : Bool) (stamp : Instant)
  /-- TIME_CAP_NS_READ (R248). A read pops the oldest capture entry and latches its other fields. -/
  | timeCapNsRead (i : Nat)
  /-- BEACON_ARM (R253). ARM commits a beacon's shadow settings and schedules its pulses. -/
  | beaconArm (w : Writer) (j : Nat)
  /-- BEACON_STOP (R253). STOP ends the beacon's pulse at the next transit boundary. -/
  | beaconStop (j : Nat)
  /-- BEACON_EDGE (R252). A beacon output edge falls at its programmed engine time. -/
  | beaconEdge (j : Nat)
  /-- AUDIT_TRANSFER (R270). The audit engine moves buffered records to the LPDDR5X ring. -/
  | auditTransfer (n : Nat)
  /-- AUDIT_GAP_RECORD (R270). Space returns after drops, or Watch returns, and a GAP record is written. -/
  | auditGapRecord
  /-- CHECKPOINT_SIGN (R268). A block's hash is computed and its CHECKPOINT and SIGNATURE records written. -/
  | checkpointSign
  /-- AUDIT_EXPORT_READ (R271). A session reads its next chunk of audit records, each checked for CHECK_FAIL. -/
  | auditExportRead (ses : Nat) (damage : List Damage)
  /-- AUDIT_EXPORT_ACK (R272). Records up to the written SEQ are released from the ring. -/
  | auditExportAck (ses : Nat) (seq : Nat)
  /-- AUDIT_READ_FROM_WRITE (R271). A session moves its audit read position. -/
  | auditReadFromWrite (ses : Nat) (seq : Nat)
  /-- SEAL_COMPLETE (R276). The SEAL record of a tamper is completed when the audit engine next runs. -/
  | sealComplete
  /-- HM_OPEN (R266). OPEN folds the context and opens a host Hallmark channel. -/
  | hmOpen (c : Nat)
  /-- HM_ABORT (R266). ABORT discards the running value and closes the channel. -/
  | hmAbort (c : Nat)
  /-- HM_DATA_B (R266). A byte is fed to the host Hallmark channel. -/
  | hmDataB (w : Writer) (c : Nat) (value : Word)
  /-- HM_DATA_H (R266). A half-word is fed to the host Hallmark channel. -/
  | hmDataH (w : Writer) (c : Nat) (value : Word)
  /-- HM_DATA_W (R266). A word is fed to the host Hallmark channel. -/
  | hmDataW (w : Writer) (c : Nat) (value : Word)
  /-- HM_RESULT_READ (R266). A read waits for BUSY to clear and returns the check value. -/
  | hmResultRead (c : Nat)
  /-- ANVIL_HEARTBEAT_LOSS (R290). Heartbeats of 2 consecutive periods are missing and the Anvil is declared failed. -/
  | anvilHeartbeatLoss (anvil : Anvil)
  /-- SIGNATURE_MISMATCH (R291). Signatures of a period differ, and the arbiter decides which Anvil failed. -/
  | signatureMismatch (aImpl bImpl : Nat)
  /-- FAILOVER (R293). The standby's first codes are applied and FAILOVER is stamped. -/
  | failover
  /-- ANVIL_SELFTEST_DONE (R296). A reset Anvil's self-test ends; it enters RESYNC or goes OUT. -/
  | anvilSelftestDone (anvil : Anvil) (pass : Bool)
  /-- RESYNC_COPY_DONE (R296). The private-memory image has been copied into the resyncing Anvil. -/
  | resyncCopyDone (ok : Bool)
  /-- RESYNC_LIVE (R296). Replay reaches the live period and the Anvil computes live periods. -/
  | resyncLive (ok : Bool)
  /-- ANVIL_STANDBY (R296). 16 consecutive matching signatures bring the Anvil to STANDBY. -/
  | anvilStandby (anvil : Anvil)
  /-- KPR_REVERT (R298). After the hold-off, drive returns to Anvil A at a matching hold boundary. -/
  | kprRevert
  /-- KPR_SWAP (R300). The host requests drive to move to the standby. -/
  | kprSwap (ses : Nat) (value : Nat)
  /-- KPR_RESTART (R300). The named Anvil is reset and resynchronised. -/
  | kprRestart (ses : Nat) (value : Nat)
  /-- KPR_REMOVE (R300). The named Anvil goes to OUT, after a swap if active. -/
  | kprRemove (ses : Nat) (value : Nat)
  /-- REBUILD_COMPLETE (R303). A rebuilding Anvil completes and becomes ACTIVE, leaving FAIL_STATIC. -/
  | rebuildComplete (anvil : Anvil)
  /-- KEEPER_LOST (R305). The arbiter is lost and the drive selector latches its source. -/
  | keeperLost
  /-- NO_DRIVE_SOURCE (R305). The latched source delivers no codes for 2 periods. -/
  | noDriveSource
  /-- KEEPER_RESTORED (R305). The reset arbiter checks 16 hold periods and resumes its state. -/
  | keeperRestored
  /-- KEEPER_LEAVE_INIT (R306). After Watch power-up self-tests, the arbiter leaves INIT. -/
  | keeperLeaveInit
  /-- CAL_RUN (R319). A calibration run is requested and started, or refused. -/
  | calRun (ses : Nat) (value : List Byte) (planNs : Nat)
  /-- CAL_ABORT (R319). The run in progress ends with HOST_ABORT. -/
  | calAbort (ses : Nat) (value : Nat)
  /-- CAL_PRECONDITION_FAIL (R321). A precondition fails during a run, which aborts with nothing stored. -/
  | calPreconditionFail (reason : Nat) (unit : Nat)
  /-- CAL_MEASURE_DONE (R323). Measuring ends and results are checked for plausibility. -/
  | calMeasureDone (res : CalOutcome)
  /-- CAL_STORE_DONE (R316). The standby slot has been written and read back. -/
  | calStoreDone (verified : Bool)
  /-- CAL_SWAP (R316). Stored results become active at the first hold boundary after read-back. -/
  | calSwap
  /-- CAL_USER_CLEAR (R326). A neutral user slot is stored for the type. -/
  | calUserClear (ses : Nat) (type_ : Nat)
  /-- THM_SAMPLE (R330). Every sensor is sampled once per millisecond and its values and rates formed. -/
  | thmSample (samples : List (Nat × Int))
  /-- THM_SENSOR_SUSPECT (R331). A sensor differing from its neighbours for 1,000 samples becomes suspect. -/
  | thmSensorSuspect (i : Nat)
  /-- THM_SENSOR_RESTORED (R331). A suspect sensor agreeing for 10,000 samples is restored. -/
  | thmSensorRestored (i : Nat)
  /-- THM_CONDITION_CHANGE (R334). A zone condition comes into force or clears after 16 samples. -/
  | thmConditionChange (z : Nat) (c : ThmCond)
  /-- THM_TRIP (R337). The hardware trip fires and every channel drives its clear code. -/
  | thmTrip (i : Nat)
  /-- THM_TRIP_POWER_OFF (R337). 100 µs after the trip the Watch and Forge domains switch off. -/
  | thmTripPowerOff
  /-- THM_RESTART_READY (R338). Temperatures have held low for 60 s and restart is ready. -/
  | thmRestartReady
  /-- THM_RESTART (R338). A RESTART write powers Watch up after a trip. -/
  | thmRestart (w : Writer)
  /-- FAN_RPM_UPDATE (R341). Each second the fan RPM is updated from tach edges. -/
  | fanRpmUpdate (f : Nat) (edges : Nat)
  /-- THM_FAN_STALL (R341). A fan below STALL_RPM at 2 updates is stalled. -/
  | thmFanStall (f : Nat)
  /-- THM_FAN_RESTORED (R341). A stalled fan reaches STALL_RPM at 2 updates. -/
  | thmFanRestored (f : Nat)
  /-- HKC_ARM_WRITE (R345). ARM starts or ends a converter's sequence operation. -/
  | hkcArmWrite (n : Nat) (value : Bool)
  /-- HKC_SOFT_TRIG (R345). START on HKC_SOFT_TRIG triggers the sequence. -/
  | hkcSoftTrig (n : Nat)
  /-- HKC_TIMER_TRIGGER (R345). The converter timer expires and triggers the sequence. -/
  | hkcTimerTrigger (n : Nat)
  /-- HKC_FAN_EDGE_TRIGGER (R345). A fan PWM edge triggers the sequence. -/
  | hkcFanEdgeTrigger (n : Nat) (f : Nat) (rising : Bool)
  /-- HKC_TRIGGER_EFFECT (R345). The trigger delay expires and the sequence starts or the trigger is missed. -/
  | hkcTriggerEffect (n : Nat)
  /-- HKC_CONVERSION_DONE (R344). A conversion ends and its result replaces HKC_DATA. -/
  | hkcConversionDone (n : Nat) (microvolt : Int) (gapNs : Nat)
  /-- HKC_INJ_START (R347). An injected conversion is made pending. -/
  | hkcInjStart (w : Writer) (n : Nat) (value : Word)
  /-- HKC_DATA_READ (R346). A read returns the result and clears VALID and OVERRUN. -/
  | hkcDataRead (n : Nat)
  /-- HKC_CLR_COUNTS (R350). OVERRUN_COUNT and TRIG_MISSED are cleared. -/
  | hkcClrCounts (n : Nat)
  /-- BANK_OWNER_WRITE (R358). A new owner is written and a bank hand-over starts. -/
  | bankOwnerWrite (w : Writer) (b : Nat) (value : Word)
  /-- BANK_HANDOVER_DONE (R358). The old owner's transactions retire and OWNER changes. -/
  | bankHandoverDone (b : Nat)
  /-- BANK_HANDOVER_TIMEOUT (R359). The hand-over has not drained in 10 µs and is abandoned. -/
  | bankHandoverTimeout (b : Nat)
  /-- BANK_RET_WRITE (R361). RET is written to put a bank into retention or wake it. -/
  | bankRetWrite (w : Writer) (b : Nat) (ret : Bool)
  /-- BANK_RETENTION_ENTER (R361). With no transaction outstanding, the bank enters retention. -/
  | bankRetentionEnter (b : Nat)
  /-- BANK_WAKE_DONE (R362). A retained bank completes its wake and stalled accesses proceed. -/
  | bankWakeDone (b : Nat)
  /-- MATRIX_READ (R373). A master's read transaction is served by its target. -/
  | matrixRead (m : Nat) (addr : Nat) (beats : Nat) (err : MemErr)
  /-- MATRIX_WRITE (R373). A master's write burst is served by its target. -/
  | matrixWrite (m : Nat) (addr : Nat) (data : List Byte) (strobes : List Bool) (err : MemErr)
  /-- MATRIX_ATOMIC (R363). An ADD or SWAP atomic is performed on a bank word. -/
  | matrixAtomic (m : Nat) (addr : Nat) (op : AtomicOp) (operand : Word)
  /-- PRIVATE_PORT_WRITE (R356). The active Anvil writes bank 42 through its private port. -/
  | privatePortWrite (anvil : Anvil) (addr : Nat) (value : Word)
  /-- PROOF_WINDOW_START (R365). At PROOF_INTERVAL the Proof engine borrows the next window. -/
  | proofWindowStart
  /-- PROOF_WINDOW_DONE (R365). The window's march or read-only pass completes. -/
  | proofWindowDone (found : MemErr)
  /-- MASTER_RESET (R378). A matrix master is reset with transactions outstanding. -/
  | masterReset (m : Nat) (bursts : List Burst)
  /-- MASTER_RESET_DRAIN_DONE (R378). Every pre-reset ID has retired and the master is accepted again. -/
  | masterResetDrainDone (m : Nat)
  /-- BANK_ERR_COUNT_WRITE (R379). A write clears both error counts of a bank. -/
  | bankErrCountWrite (b : Nat)
  /-- MTX_CONFLICT_WRITE (R380). A write clears a conflict counter. -/
  | mtxConflictWrite (m : Nat) (g : Nat)
  /-- DDR_PATROL_SCRUB (R369). The patrol scrubber reads and corrects LPDDR5X words. -/
  | ddrPatrolScrub (addr : Nat) (err : MemErr)
  /-- BAR2_READ (R386). A BAR2 read reaches banks 56–59, or returns all-ones while the Forge is not awake. -/
  | bar2Read (offset : Nat) (len : Nat) (err : MemErr)
  /-- BAR2_WRITE (R386). A BAR2 write reaches banks 56–59, or is discarded while the Forge is not awake. -/
  | bar2Write (offset : Nat) (data : List Byte) (strobes : List Bool) (err : MemErr)
  /-- MBX_REQ_TAIL (R390). The doorbell write announces new request descriptors. -/
  | mbxReqTail (r : Nat) (tail : Nat)
  /-- MBX_DESCRIPTOR_FETCH (R390). With a completion entry and pool room free, a descriptor and its frame are fetched. -/
  | mbxDescriptorFetch (r : Nat) (desc : List Byte) (frame : List Byte)
  /-- MBX_CPL_HEAD (R390). Host software frees consumed completion entries. -/
  | mbxCplHead (r : Nat) (head : Nat)
  /-- MBX_EN_WRITE (R390). EN starts or stops a ring and opens or closes its session. -/
  | mbxEnWrite (w : Writer) (r : Nat) (value : Word)
  /-- MBX_DMA_ERROR (R390). A host DMA error halts the ring. -/
  | mbxDmaError (r : Nat)
  /-- AEX_EN_WRITE (R393). EN starts or stops audit export by DMA. -/
  | aexEnWrite (w : Writer) (value : Word)
  /-- AEX_CHUNK_WRITE (R393). A chunk that fits is written to the export ring and MBX_AEX_WR advances. -/
  | aexChunkWrite (damage : List Damage)
  /-- MBX_AEX_RD (R393). Host software marks export ring space consumed. -/
  | mbxAexRd (rd : Nat)
  /-- TCP_CONNECT (R395). A TCP connection arrives and takes a free session or is refused. -/
  | tcpConnect (p : Nat)
  /-- TLS_HANDSHAKE (R396). The TLS handshake completes with a validated client or is refused. -/
  | tlsHandshake (p : Nat) (peer : List Byte) (anchor : Option Nat) (failed : Bool)
  /-- SESSION_CLOSE (R487). A session closes by peer, idle, disable, ring stop, Forge restart or transport error. -/
  | sessionClose (ses : Nat) (reason : CloseReason)
  /-- V2_SESSION_IDLE (R395). A v2 session has received no frame for V2_IDLE seconds and ends. -/
  | v2SessionIdle (ses : Nat)
  /-- V2_FRAME_RECEIVE (R402). A JOP v2 datagram arrives and is checked, de-duplicated and queued or dropped. -/
  | v2FrameReceive (p : Nat) (peer : List Byte) (frame : List Byte)
  /-- V3_FRAME_RECEIVE (R402). A JOP v3 frame arrives on the TLS stream and is checked and queued or dropped. -/
  | v3FrameReceive (ses : Nat) (frame : List Byte)
  /-- NETWORK_ECHO (R394). ARP, neighbour discovery or ICMP echo is answered in Hearth. -/
  | networkEcho (p : Nat) (request : List Byte)
  /-- SPI_REQUEST (R398). A REQUEST opcode carries a v1 request. -/
  | spiRequest (bytes : List Byte) (complete : Bool)
  /-- SPI_RESPONSE (R397). A RESPONSE opcode reads the pending v1 response. -/
  | spiResponse (complete : Bool)
  /-- SPI_EVENT (R397). An EVENT opcode reads one event record. -/
  | spiEvent (complete : Bool)
  /-- SPI_TIME (R397). A TIME opcode returns the latched TIME96. -/
  | spiTime (at_ : Instant)
  /-- JOP_READ (R404). A READ returns an object's value or a segment of its snapshot. -/
  | jopRead (ses : Nat) (index : Nat) (sub : Nat) (offset : Nat) (want : Nat)
  /-- JOP_WRITE (R407). A WRITE to an object with no row of its own is judged and applied. -/
  | jopWrite (ses : Nat) (index : Nat) (sub : Nat) (offset : Nat) (more : Bool) (value : List Byte)
  /-- JOP_SUBSCRIBE (R405). SUBSCRIBE adds event source ranges to a v3 session's set. -/
  | jopSubscribe (ses : Nat) (ranges : List Byte)
  /-- JOP_UNSUBSCRIBE (R405). UNSUBSCRIBE removes event source ranges from the set. -/
  | jopUnsubscribe (ses : Nat) (ranges : List Byte)
  /-- JOP_PING (R400). PING returns the engine's TIME96. -/
  | jopPing (ses : Nat)
  /-- DEDUP_EXPIRE (R403). A kept response expires 10 s after sending. -/
  | dedupExpire
  /-- SNAPSHOT_DISCARD (R404). A DOMAIN read snapshot is discarded 2 s after its last segment read. -/
  | snapshotDiscard (ses : Nat)
  /-- SEGMENT_ASSEMBLY_TIMEOUT (R404). A segmented write pauses over 2 s and its assembly is discarded. -/
  | segmentAssemblyTimeout (ses : Nat)
  /-- STORED_WRITE_COMPLETE (R410). A stored object's value reaches the flash journal and the write completes. -/
  | storedWriteComplete (ses : Nat)
  /-- REG_DATA_READ (R413). A read of REG_DATA reads the register at the session's REG_OFFSET. -/
  | regDataRead (ses : Nat)
  /-- REG_DATA_WRITE (R413). A write of REG_DATA writes the register at REG_OFFSET as a BAR0 write. -/
  | regDataWrite (ses : Nat) (value : Word)
  /-- SUMMARY_READ (R414). SUMMARY returns a snapshot of the whole engine at one transit boundary. -/
  | summaryRead (ses : Nat)
  /-- EVENT_REDELIVER (R416). Held event records after FROM_SEQ are re-delivered to the writing session. -/
  | eventRedeliver (ses : Nat) (value : List Byte)
  /-- POOL_ADMIT (R427). A waiting frame is admitted to the buffer pool when room and quota allow. -/
  | poolAdmit (ses : Nat) (len : Nat)
  /-- REQUEST_ELIGIBLE (R424). A queue head's shaping time on the wheel arrives. -/
  | requestEligible (ses : Nat) (control : Bool)
  /-- REQUEST_SERVE (R425). With an execution slot free, the dispatch serves the eligible head with the least finish tag. -/
  | requestServe
  /-- REQUEST_COMPLETE (R427). A response is passed to its link and the frame's buffers return to the pool. -/
  | requestComplete (ses : Nat) (control : Bool)
  /-- QSAMPLE (R426). Every QSAMPLE_PERIOD the queues' depth and delay are sampled. -/
  | qsample
  /-- QSTATS_READ (R426). A read returns the queue accumulations and restarts them. -/
  | qstatsRead (ses : Nat) (of_ : Nat)
  /-- GATE_COMMIT (R433). A gate control list is validated and committed. -/
  | gateCommit (ses : Nat) (p : Nat) (value : Nat)
  /-- GATE_ENABLE_WRITE (R433). GATE_ENABLE is set and a committed list is scheduled. -/
  | gateEnableWrite (ses : Nat) (p : Nat) (value : Nat)
  /-- GATE_LIST_APPLY (R433). A committed gate list takes effect on its grid. -/
  | gateListApply (p : Nat)
  /-- GATE_REALIGN (R434). After a step the gate list realigns to its grid in the new time. -/
  | gateRealign (p : Nat)
  /-- GATE_ENTRY_ADVANCE (R431). A gate entry's interval ends and the next entry's gates apply. -/
  | gateEntryAdvance (p : Nat)
  /-- EGRESS_FRAME_START (R432). The head frame of the highest open class that fits its window starts transmission. -/
  | egressFrameStart (p : Nat) (cls : Nat) (len : Nat)
  /-- EVT_Q_DATA0_READ (R440). A read of DATA0 pops the head record into the latch. -/
  | evtQData0Read (q : Nat)
  /-- EVT_Q_RD_WRITE (R440). Host software frees host-ring event records. -/
  | evtQRdWrite (q : Nat) (rd : Nat)
  /-- EVT_SEQ_LO_READ (R443). A read of EVT_SEQ_LO latches EVT_SEQ_HI. -/
  | evtSeqLoRead
  /-- VAUX_GOOD (R446). VAUX becomes good and Hearth starts. -/
  | vauxGood (vbat : Bool) (epochNow : Instant)
  /-- VAUX_LOST (R448). VAUX is lost and every domain stops within 10 µs. -/
  | vauxLost (vbat : Bool)
  /-- VMAIN_GOOD (R451). VMAIN becomes good and Watch and Forge start up. -/
  | vmainGood
  /-- BOOT_IMAGE_VERIFY (R457). The boot ROM chooses and verifies a firmware image. -/
  | bootImageVerify
  /-- FIRMWARE_RUNNING (R451). Firmware runs, restores audit and calibration and enables the ladder. -/
  | firmwareRunning (selftest : Bool)
  /-- STARTUP_COMPLETE (R451). Configurations are recompiled and sessions are accepted. -/
  | startupComplete
  /-- VMAIN_LOST (R448). VMAIN is lost and the hold-up store carries the flush. -/
  | vmainLost
  /-- VMAIN_FLUSH_DONE (R448). The flush ends and Watch and Forge switch off. -/
  | vmainFlushDone
  /-- MOD_RESET_ASSERT (R452). MOD_RESET_N is recognised low; flush and reset of every domain. -/
  | modResetAssert
  /-- MOD_RESET_RELEASE (R452). MOD_RESET_N rises and start-up follows. -/
  | modResetRelease
  /-- PERST_ASSERT (R453). PERST_N is recognised low; PCIe endpoint, rings and their sessions reset. -/
  | perstAssert
  /-- PERST_RELEASE (R453). PERST_N rises and the PCIe endpoint restarts. -/
  | perstRelease
  /-- LC_SW_RESET_MODULE (R454). A keyed software reset acts as MOD_RESET_N. -/
  | lcSwResetModule (w : Writer) (key : Nat)
  /-- LC_SW_RESET_WATCH (R454). A keyed software reset restarts Watch as after STOP-3. -/
  | lcSwResetWatch (w : Writer) (key : Nat)
  /-- LC_SW_RESET_FORGE (R454). A keyed software reset restarts the Forge cores and closes sessions 1–28. -/
  | lcSwResetForge (w : Writer) (key : Nat)
  /-- BOOT_RECOVERY_LOAD (R457). A write of LC_REC_LEN loads a recovery image by DMA in NO_IMAGE. -/
  | bootRecoveryLoad (len : Nat) (image : List Byte)
  /-- FW_UPDATE_START (R458). The unused image slot is erased. -/
  | fwUpdateStart (ses : Nat) (value : Nat)
  /-- FW_UPDATE_DATA (R458). Image data is written into the slot at an offset. -/
  | fwUpdateData (ses : Nat) (value : List Byte)
  /-- FW_UPDATE_COMMIT (R458). The slot is checked and, if valid, named by BOOT_PREF. -/
  | fwUpdateCommit (ses : Nat) (value : Nat)
  /-- FW_CONFIRM (R458). FUSED_SVN is raised to the running image's SVN. -/
  | fwConfirm (ses : Nat) (value : Nat)
  /-- LC_REQUEST (R460). A life-cycle transition is requested with the nonce and carried out. -/
  | lcRequest (ses : Nat) (value : List Byte)
  /-- LC_SHUTDOWN (R463). The epoch is closed and the flush made in preparation for power removal. -/
  | lcShutdown (ses : Nat) (value : Nat)
  /-- TAMPER (R464). A tamper source fires; Quench banks are wiped and the chain sealed. -/
  | tamper (sources : Nat) (at_ : Instant)
  /-- PCIE_LINK_STATE_CHANGE (R13). The PCIe link enters or leaves L0, L1 or an L1 substate, or goes up or down, which decides whether the endpoint's high-speed path sleeps with the Forge. -/
  | pcieLinkStateChange (st : PcieLink)
  /-- LC_TRANSITION_COMPLETE (R461). A life-cycle transition finishes, up to 200 ms after its request: the new state is journalled, the new epoch opens and LC_CHANGED is raised. -/
  | lcTransitionComplete
  /-- SHUTDOWN_READY (R463). The flush made for LC_SHUTDOWN ends and 0x086 SHUTDOWN_READY is raised while circuits stay lit. -/
  | shutdownReady
  /-- MOD_RESET_FLUSH_DONE (R452). The flush that a recognised MOD_RESET_N started ends; if the pin has already risen, start-up begins, and otherwise every domain stays held in reset. -/
  | modResetFlushDone  deriving DecidableEq, Repr

end Sys2Proof
end

