-- ==== Sys2Proof/Decode.lean ====
section
/-!
DEFINITION. The words that spell commands: spec/opcode_table.json gives no row bits, so no word spells
one (log 15).
-/

namespace Sys2Proof

/-- The command that a word of `nbits` bits spells by the opcode table's bits: none, since the table
gives its rows no bits. -/
def decodeTableWord (_nbits _w : Nat) : Option Instr := none

end Sys2Proof
end

