-- ==== Sys2Proof/Machine/State.lean ====
section
/-!
DEFINITION. The state of the engine as plain data: every register, queue, counter, mode, pin and
buffer that the spec names, its reset value as the default of its field, and the queue of waiting
commands. A table over numbered things is a sparse map whose unlisted entries are the thing's reset.
-/

namespace Sys2Proof.Machine

/-- What stops the machine with a fault. Nothing in the spec stops the engine: every error it
describes is an event, a sticky bit, a latched cause or a status, so no meaning raises one. -/
inductive Fault where
  /-- Raised by nobody; kept so that the type is not empty. Safe: it never occurs. -/
  | none
  deriving DecidableEq, Repr

/-- Why a command has no meaning. -/
inductive Refusal where
  /-- Raised by the dispatch for a command that the model does not give a meaning. Safe: the run stops. -/
  | notModelled (mnemonic : String)
  deriving DecidableEq, Repr

/-! ### Time (08) -/

/-- Time quality (R238). -/
inductive Quality where
  | freerun
  | calendarSeeded
  | holdover
  | locked
  deriving DecidableEq, Repr

/-- A waiting step or load (R233, R235). `o` is in units of 2^-16 ns. -/
inductive TimeReq where
  | step (o : Int)
  | load (t : Instant)
  deriving DecidableEq, Repr

/-- The latched halves of TIME_NOW of one host link (R226). -/
structure Latch where
  sec : Nat := 0
  frac : Nat := 0
  deriving DecidableEq, Repr

/-- The time counter, servo, calendar and their status (R224 to R247). -/
structure TimeSt where
  running : Bool := false
  /-- The present instant of engine time in units of 2^-32 ns since the epoch: that of the last transit boundary (R20). -/
  count : Nat := 0
  /-- The counter after its last tick: a nanosecond count with 32 fraction bits since the epoch (R225). -/
  ticks : Nat := 0
  /-- Step-free elapsed time since the counter started, in units of 2^-16 ns (R236). -/
  elapsed : Nat := 0
  /-- By how much stretched transit periods, and hold periods, exceeded their length so far: the step-free sequence counts
  each as one period (R236). -/
  slackT : Nat := 0
  slackH : Nat := 0
  /-- Elapsed instants at which the periods in progress began (R236), and the numbers of the hold and
  trim period that began there (R20). -/
  transitStart : Nat := 0
  holdStart : Nat := 0
  trimStart : Nat := 0
  holdNo : Nat := 0
  trimNo : Nat := 0
  quality : Quality := .freerun
  freqNow : Int := 0
  /-- The f in force from the next transit boundary (R228). -/
  freqNext : Int := 0
  freqF : F64 := 0
  integ : F64 := 0
  holdFreq : Int := 0
  /-- f of the last 64 offsets used, newest first (R231). -/
  recentF : List Int := []
  goodRun : Nat := 0
  badRun : Nat := 0
  locked : Bool := false
  refPresent : Bool := false
  /-- No dt yet for the next offset (R230). -/
  noDt : Bool := true
  /-- The first offset after a step or load is discarded (R230). -/
  discardNext : Bool := false
  lastUsed : Nat := 0
  req : Option TimeReq := none
  /-- When the waiting load was committed (R26, R235). -/
  reqAt : Nat := 0
  deferred : Bool := false
  deferSince : Nat := 0
  forced : Bool := false
  atLimit : Bool := false
  /-- 0x10C has been raised since the last lock, or there has been none (R230). -/
  atLimitRaised : Bool := true
  /-- The servo has locked since power-up: TIME_HOLD_FREQ stands (R230). -/
  everLocked : Bool := false
  offsetLast : Int := 0
  stepCount : Nat := 0
  lastStep : Int := 0
  utcOffset : Int := 0
  utcValid : Bool := false
  leap61 : Bool := false
  leap59 : Bool := false
  /-- The source of the last offset taken: 0 none, 1 MGT0, 2 MGT1, 3 PPS_IN (R242). -/
  ref : Nat := 0
  clkActive : Nat := 0
  calValid : Bool := false
  calValue : Instant := 0
  calWritePending : Bool := false
  calLastWrite : Nat := 0
  ppsLast : Option Nat := none
  latches : SMap Latch := []
  deriving DecidableEq, Repr

/-- One entry of a transmit time-stamp queue (R255). -/
structure TxStamp where
  stamp : Instant
  seq : Nat
  msg : Nat
  domain : Nat
  at_ : Nat
  deriving DecidableEq, Repr

/-- A master that a port hears (R241): its last Announce, and when it came. -/
structure Foreign where
  ds : MasterDs
  utc : UtcInfo
  at_ : Nat
  deriving DecidableEq, Repr

/-- One PTP engine (R239 to R243, R255). -/
structure PtpPort where
  state : Nat := 3
  linkUp : Bool := false
  master : Option MasterDs := none
  utc : Option UtcInfo := none
  /-- The masters heard, one entry for each sending port. -/
  foreign : List Foreign := []
  delays : List Int := []
  rejects : Nat := 0
  offsets : Nat := 0
  offset : Int := 0
  pendingSync : Option (Nat × Int) := none
  txq : List TxStamp := []
  txOvf : Nat := 0
  txOverflow : Bool := false
  txStale : Nat := 0
  /-- The entry that the last Pdelay_Resp_Follow_Up was made from (R255). -/
  followUp : Option TxStamp := none
  deriving DecidableEq, Repr

/-- The selection between the two ports (R241). -/
structure PtpSel where
  selected : Option Nat := none
  better : Option (Nat × Nat) := none
  gm : Nat := 0
  deriving DecidableEq, Repr

/-- One capture input (R248, R249). -/
structure Capture where
  fifo : List (Instant × Bool) := []
  missed : Nat := 0
  ovf : Nat := 0
  overflow : Bool := false
  last : Option Instant := none
  latched : Option (Instant × Bool) := none
  deriving DecidableEq, Repr

/-- A beacon's settings (R252, R253). -/
structure BeaconCfg where
  mode : Nat := 0
  polarity : Bool := false
  sec : Nat := 0
  ns : Nat := 0
  period : Nat := 0
  width : Nat := 0
  deriving DecidableEq, Repr

/-- One beacon output (R252 to R254). `next` is the start of its next pulse, `fall` the end of the one in
progress. -/
structure Beacon where
  active : BeaconCfg := {}
  snapshot : Option (BeaconCfg × Instant) := none
  /-- Elapsed instant of the ARM write that took the snapshot (R26, R253). -/
  snapAt : Nat := 0
  state : Nat := 0
  next : Option Instant := none
  fall : Option Instant := none
  /-- STOP waits for the next transit boundary. -/
  stopping : Bool := false
  /-- A step moved the grid; the next pulse sets REALIGNED. -/
  realign : Bool := false
  late : Bool := false
  realigned : Bool := false
  deriving DecidableEq, Repr

/-! ### Forge, supplies, boot, life-cycle (01, 16) -/

/-- FORGE_STATE (R15). -/
inductive ForgeState where
  | asleep
  | waking
  | awake
  | sleeping
  deriving DecidableEq, Repr

/-- The Forge's power state (R11 to R15). -/
structure Forge where
  state : ForgeState := .asleep
  lanesReady : Bool := false
  /-- Elapsed instant at which the transit lanes became ready (R14). -/
  lanesReadyAt : Nat := 0
  coresReady : Bool := false
  wakeCount : Nat := 0
  lastWake : Instant := 0
  idleSince : Nat := 0
  /-- The arbiter holds the Forge awake for a resynchronisation (R296). -/
  resyncHold : Bool := false
  deriving DecidableEq, Repr

/-- Supplies, domains and reset pins (R10, R446 to R453). -/
structure Power where
  vaux : Bool := true
  vmain : Bool := false
  vhv : Bool := false
  vbat : Bool := true
  watchOn : Bool := false
  forgeOn : Bool := false
  /-- A flush runs: 1 for loss of VMAIN, 2 for MOD_RESET_N, 3 for LC_SHUTDOWN (R448, R452, R463). -/
  flush : Nat := 0
  modResetLow : Bool := false
  modResetHeld : Bool := false
  perstLow : Bool := false
  pcie : PcieLink := .down
  pciePathOn : Bool := false
  resetCause : Nat := 1
  vauxLostSinceWatch : Bool := true
  deriving DecidableEq, Repr

/-- One firmware image slot (R455, R456): the stored bytes, or the image programmed at manufacture (log 64).
An erased slot takes update data. -/
structure Image where
  bytes : List Byte := []
  factory : Bool := false
  erased : Bool := false
  deriving DecidableEq, Repr

/-- Boot and firmware update (R455 to R458). -/
structure Boot where
  imageA : Image := { factory := true }
  imageB : Image := {}
  pref : Nat := 0
  running : Nat := 0
  bootField : Nat := 0
  verified : Bool := false
  firmware : Bool := false
  started : Bool := false
  calUsable : Bool := true
  /-- The firmware's self-test passed (R209). -/
  selftest : Bool := false
  fusedSvn : Nat := 0
  deriving DecidableEq, Repr

/-- LC_STATE (R459). -/
inductive LcState where
  | blank
  | provisioned
  | deployed
  | decommissioned
  | rma
  deriving DecidableEq, Repr

/-- Life-cycle, keys and tamper (R459 to R465). -/
structure Life where
  state : LcState := .blank
  nonceNo : Nat := 0
  target : Option LcState := none
  /-- The generation number of the audit key held, and whether a TLS key is held. -/
  auditKey : Option Nat := none
  tlsKey : Bool := false
  keyNo : Nat := 0
  /-- The session whose request the transition in progress answers. -/
  asker : Nat := 0
  tamperNow : Nat := 0
  tamperCount : Nat := 0
  tamperLast : Instant := 0
  tamperSources : Nat := 0
  deriving DecidableEq, Repr

/-! ### Circuits and routes (03) -/

/-- KIND of a circuit slot (R51). -/
inductive Kind where
  | free
  | p2p
  | group
  | leg
  deriving DecidableEq, Repr

/-- The state of a fabric element in a route (R32): a split names its leg weights on the cross side
and below it, so that its target coupling is their quotient (R66). -/
inductive RState where
  | bar
  | cross
  | split (crossW totalW : Nat)
  deriving DecidableEq, Repr

/-- One slot of a configuration: the canonical record (R75); of a leg the line bits 9 to 1 that its path
takes between the two halves of the fabric, which with its ports fix the path (R30); of a group, for each
split element, the bar and cross choices of the trace back to its shadow port, one bit a stage (R37). -/
structure Slot where
  kind : Kind := .free
  flags : Nat := 0
  north : Nat := 0xFFFF
  south : Nat := 0xFFFF
  group : Nat := 0xFFFF
  legCount : Nat := 0
  weight : Nat := 0
  mid : Nat := 0
  traces : List (Nat × Nat) := []
  /-- Which making of its ID this is: a circuit broken and made again in one batch is another circuit. -/
  made : Nat := 0
  deriving DecidableEq, Repr

/-- A configuration: circuit slots and the route table's states; an element not listed is in bar. -/
structure Cfg where
  slots : SMap Slot := []
  routes : SMap RState := []
  deriving DecidableEq, Repr

/-- A proposal of the planner: middle lines by leg, choices of traces by split element. -/
abbrev Proposal := List (Nat × Nat) × List (Nat × Nat)

/-- STATE of a circuit slot (R80). -/
inductive CState where
  | free
  | pending
  | moving
  | settled
  | degraded
  deriving DecidableEq, Repr

/-- TRIM_STATE (R172). -/
inductive TrimState where
  | off
  | qualifying
  | settling
  | trimming
  | suspended
  deriving DecidableEq, Repr

/-- What the engine keeps about a leg or group beside its configuration (R80, R186). -/
structure LegSt where
  state : CState := .free
  genMade : Nat := 0
  genMoved : Nat := 0
  moveCount : Nat := 0
  bidirOk : Option Bool := none
  affected : Bool := false
  trim : TrimState := .off
  /-- Bit 0 OVERPOWER, 1 BUOY_SLOW, 2 DISABLED (R186). -/
  cause : Nat := 0
  qualAt : Nat := 0
  qualified : Bool := false
  settlingAt : Nat := 0
  trimmingAt : Nat := 0
  toSettling : Bool := false
  loss : Int := 0
  baseline : Option Int := none
  lossRun : Nat := 0
  lossRaised : Bool := false
  lossClear : Nat := 0
  share : Nat := 0
  /-- Of the last 32 hold periods, newest first, the sum of the codes of samples 2 to 9 that makes m(h),
  with the dither amplitude of the period; none where the period may enter no correlation. -/
  window : List (Option (Int × Nat)) := []
  /-- The hold period of the trim period that is the leg's update slot (R169), and the updates to issue
  in it: element, step, whether of a split element. -/
  slot : Nat := 0
  updates : List (Nat × Int × Bool) := []
  deriving DecidableEq, Repr

/-- A change record (R54). -/
structure ChangeRec where
  op : Nat
  reqFlags : Nat
  circuit : Nat
  north : Nat
  south : Nat
  cflags : Nat
  legCount : Nat
  legWeight : Nat
  maxDisturb : Nat
  legSouth : List Nat
  legWeights : List Nat
  deriving DecidableEq, Repr

/-- A record result of a plan (R61). -/
structure RecResult where
  status : Nat := 0
  outcome : Nat := 0
  reason : Nat := 0
  circuit : Nat := 0xFFFF
  legs : List Nat := []
  changed : Nat := 0
  splits : Nat := 0
  /-- The other legs that the record's placement moves. -/
  moves : List Nat := []
  deriving DecidableEq, Repr

/-- A disturbance list entry (R62). -/
structure Disturb where
  leg : Nat
  south : Nat
  estHit : Nat
  elements : Nat
  flags : Nat
  deriving DecidableEq, Repr

/-- A plan result (R61) with the configuration that it would put in force. -/
structure Plan where
  status : Nat := 0
  outcome : Nat := 0
  reason : Nat := 0
  results : List RecResult := []
  disturb : List Disturb := []
  moved : Nat := 0
  notchDelta : Int := 0
  notchPeakFree : Int := 0
  planTime : Nat := 0
  basis : Nat := 0
  /-- The configuration planned against, and the one that the plan leaves. -/
  before : Cfg := {}
  after : Cfg := {}
  deriving DecidableEq, Repr

/-- The planner's counters and each session's last plan (R79). -/
structure Planner where
  count : Nat := 0
  timeMax : Nat := 0
  results : SMap Plan := []
  /-- A re-route plan is in progress over these affected legs (R70). -/
  reroute : Option (List Nat) := none
  retry : Bool := false
  deriving DecidableEq, Repr

/-! ### Batches and the schedule (04) -/

/-- STATE of a batch (R84). -/
inductive BState where
  | planning
  | pending
  | held
  | moving
  | settled
  | lateSettled
  | failed
  | cancelled
  deriving DecidableEq, Repr

/-- One leg of a committed batch (R94, R96). -/
structure BatchLeg where
  leg : Nat
  south : Nat
  /-- The elements on its path that the batch commanded and that have not settled. -/
  waiting : List Nat := []
  settledAt : Option Nat := none
  superseded : Bool := false
  unsettled : Bool := false
  broken : Bool := false
  /-- The elements of its path: its former one where it is broken. -/
  path : List Nat := []
  light : Option Instant := none
  deriving DecidableEq, Repr

/-- A batch (R81 to R102). T0 is an instant; `t0Elapsed` its step-free instant. -/
structure Batch where
  id : Nat
  mode : Nat := 0
  state : BState := .planning
  flags : Nat := 0
  session : Nat := 0
  tag : Nat := 0
  tReq : Instant := 0
  t0 : Instant := 0
  t0Elapsed : Nat := 0
  generation : Nat := 0
  settleNs : Option Nat := none
  legs : List BatchLeg := []
  lateLegs : Nat := 0
  darkLegs : Nat := 0
  superseded : Nat := 0
  legCount : Nat := 0
  status : Nat := 0
  origin : Nat := 0
  records : List ChangeRec := []
  /-- The legs that a batch of the engine's own moves (R70, R322). -/
  moves : List Nat := []
  plan : Plan := {}
  imageReady : Bool := false
  fired : Bool := false
  late : Bool := false
  /-- The legs of a re-route with the FAULTED element that each was planned to leave (R70, R261). -/
  faults : List (Nat × Nat) := []
  /-- The circuits that its commit puts under BIDIR_CHECK (R73). -/
  checks : List Nat := []
  /-- The watch and configuration of a watch boundary (R111). -/
  watch : Option (Nat × Nat) := none
  deriving DecidableEq, Repr

/-- A watch entry (R106). -/
structure Watch where
  config : Nat
  flags : Nat
  duration : Nat
  reserved : Nat := 0
  deriving DecidableEq, Repr

/-- SCHED_STATE (R119). -/
inductive SchedState where
  | idle
  | armed
  | running
  | stopping
  deriving DecidableEq, Repr

/-- A committed schedule change not yet in force (R114). -/
structure SchedChange where
  table : List Watch
  base : Instant
  baseChanged : Bool
  at_ : Instant
  deriving DecidableEq, Repr

/-- The watch schedule (R106 to R119). -/
structure Sched where
  state : SchedState := .idle
  shadowTable : List Watch := []
  shadowBase : Instant := 0
  table : List Watch := []
  base : Instant := 0
  /-- The base last written to the shadow when the active one was taken (R114). -/
  setBase : Instant := 0
  start : Instant := 0
  next : Instant := 0
  watchNow : Nat := 0
  cycleCount : Nat := 0
  reject : Nat := 0
  late : Nat := 0
  auditLoad : Nat := 0
  auditBudget : Nat := 0
  change : Option SchedChange := none
  /-- A stop at the end of the cycle is asked for, with its 0x615 reason. -/
  stopAtEnd : Option Nat := none
  /-- No further boundary commits, with the reason (R116). -/
  stopNow : Option Nat := none
  imageReady : Bool := false
  imageCopy : Bool := false
  realign : Bool := false
  deriving DecidableEq, Repr

/-- A stored configuration (R104, R105, R119). -/
structure StoredCfg where
  body : List Byte := []
  state : Nat := 0
  reason : Nat := 0
  legs : Nat := 0
  splits : Nat := 0
  compileNs : Nat := 0
  image : Cfg := {}
  deriving DecidableEq, Repr

/-! ### Elements, lanes, channels (05, 07) -/

/-- ELEM_MODE (R136). -/
inductive EMode where
  | parked
  | hold
  | transit
  | trim
  | manual
  | faulted
  deriving DecidableEq, Repr

/-- A base trajectory (R128): the elapsed instant of its time zero, the base state there, its target
and its phases, each a jerk in full travel per µs³ and a duration in µs, fixed when it is planned. -/
structure Traj where
  start : Nat := 0
  p0 : F64 := 0
  v0 : F64 := 0
  a0 : F64 := 0
  target : Nat := 0
  phases : List (F64 × F64) := []
  deriving DecidableEq, Repr

/-- A zero-vibration shaper (R129). -/
structure Shaper where
  a1 : F64
  a2 : F64
  tau : F64
  deriving DecidableEq, Repr

/-- One tunable element and its loop (R120 to R156). -/
structure Elem where
  mode : EMode := .parked
  /-- A mode that takes effect at the next hold boundary (R137, R139). -/
  nextMode : Option EMode := none
  /-- ELEM_MODE writes that wait for a hold boundary later than their instants, newest first: the mode to change to,
  none for the present one, and the elapsed instant of the write (R25, R28). -/
  modeAsks : List (Option EMode × Nat) := []
  target : Nat := 0
  targetSet : Nat := 0
  /-- Targets for the next hold boundary in the order of the input sequence, newest first; one of
  ELEM_TARGET_SET carries the elapsed instant of its write (R28, R130). -/
  targetPending : List (Nat × Option Nat) := []
  /-- Transit samples of the last two transit boundaries, with their elapsed instants (R122). -/
  tWord : Option (Nat × Int) := none
  tWordPrev : Option (Nat × Int) := none
  /-- FABRIC_CLEAR_N: a commit during the freeze commanded the element (R144). -/
  resume : Bool := false
  /-- A cleared fault waits for the transit lanes (R143). -/
  toTransit : Bool := false
  manualCode : Nat := 0
  notch : Option Nat := none
  word : Int := 0
  /-- The last transit values of the demodulator, newest first: at most the 16 that a hold sample averages (R196). -/
  values : List Nat := []
  /-- The last hold sample, formed in every mode (R196). -/
  holdWord : Int := 0
  /-- The sense word before `word`. -/
  wordPrev : Int := 0
  /-- A hand-over waits for the loop's next update (R145); false marks one into another rate, which has no
  previous sample. -/
  rehand : Option Bool := none
  /-- The position held until that hand-over, where it is not the target (R146). -/
  heldAt : Option Nat := none
  error : Int := 0
  code : Nat := 0
  nextCode : Nat := 0
  /-- The same update's code without dither: an element that leaves TRIM at the boundary carries it (R137, R166). -/
  plainCode : Nat := 0
  /-- The code for the next boundary carries a dither. -/
  dithered : Bool := false
  late : Bool := false
  fallback : Bool := false
  satHi : Bool := false
  satLo : Bool := false
  settled : Bool := false
  fall : Bool := false
  clamped : Bool := false
  frozen : Bool := false
  /-- The channel carries its clear code: it was driving it, and no loop code has replaced it yet (R206, R207). -/
  onClear : Bool := false
  /-- The mode until the next transit boundary of an element that has just entered FAULTED (R137). -/
  wasMode : Option EMode := none
  causes : Nat := 0
  clearAsked : Option Nat := none
  /-- Elapsed instant of that ELEM_FAULT_CLEAR write (R204). -/
  clearAt : Nat := 0
  lastSettle : Instant := 0
  lastSettleTarget : Nat := 0
  lateCount : Nat := 0
  moveCount : Nat := 0
  faultCount : Nat := 0
  xPrev : F32 := 0
  iAcc : F32 := 0
  dropRate : Bool := false
  trackRun : Nat := 0
  senseRun : Nat := 0
  satRun : Nat := 0
  windowRun : Nat := 0
  winRun : Nat := 0
  reachedAt : Option Nat := none
  /-- The base trajectories since the reference was last at rest, newest first: the shaper's delayed
  term follows their history (R131). Empty while the reference rests at the target. -/
  trajs : List Traj := []
  shaper : Option Shaper := none
  /-- Profile limits V, A, J at transit and hold rate kept from before a change, until the reference
  is at rest (R133); empty where the profile's own are in force. -/
  limits : List F32 := []
  offset : Int := 0
  inTrimFor : Nat := 0
  dEta : Int := 0
  etaRun : Nat := 0
  rangeRun : Nat := 0
  etaRaised : Bool := false
  limitRaised : Bool := false
  tq : Option Int := none
  tqNext : Option Int := none
  reserved : Bool := false
  /-- A reserved element was PARKED when its run started (R322). -/
  parkAfter : Bool := false
  deriving DecidableEq, Repr

/-- One channel pair (R188 to R211). -/
structure Chan where
  e1 : Int := 0
  e2 : Int := 0
  e3 : Int := 0
  levels : List Nat := []
  causes : Nat := 0
  readV : Nat := 0
  readExp : Nat := 0
  readTime : Instant := 0
  readCount : Nat := 0
  readDeferred : Nat := 0
  readPending : Bool := false
  deferred : Bool := false
  retake : Bool := false
  /-- The calibrated voltages in mV of the levels output in this hold period's read-back window, as they then stood. -/
  window : Option (List Int) := none
  /-- Elapsed instant at which the last read-back window ended, its transit value repeated and marked so (R199). -/
  repeatAt : Option Nat := none
  /-- The last read-back mismatched (R199). -/
  mismatch : Bool := false
  carrier : Nat := 0
  openRun : Nat := 0
  span : Nat := 0
  spanNext : Option Nat := none
  dwellAt : Option Nat := none
  deriving DecidableEq, Repr

/-- One notch slot (R127, R158); coefficients and states of the transit and hold sets. -/
structure Notch where
  owner : Nat := 0xFFFF
  use : Nat := 0
  freq : F32 := 0
  coefT : List F32 := []
  coefH : List F32 := []
  s1 : F32 := 0
  s2 : F32 := 0
  bypassH : Bool := false
  leaving : Bool := false
  deriving DecidableEq, Repr

/-- A lane's state (R159). -/
inductive LaneKind where
  | working
  | spare
  | spareActive
  | retired
  deriving DecidableEq, Repr

/-- One lane of an Anvil (R148 to R154). -/
structure Lane where
  kind : LaneKind := .working
  carries : Nat := 0xFF
  least : Nat := 100
  margin : Nat := 100
  lowRun : Nat := 0
  lateCount : Nat := 0
  lateAt : Option Nat := none
  leastAt : Nat := 0
  deriving DecidableEq, Repr

/-- The ladder (R191 to R195, R220). `levels` are calibrated voltages in mV. -/
structure Ladder where
  state : Nat := 0
  selection : List Nat := []
  /-- The calibrated voltage of each selected level in mV (R191). -/
  levels : List Int := []
  /-- The selection has been loaded since Watch powered up (R209). -/
  loaded : Bool := false
  retired : List Nat := []
  spares : Nat := 8
  pendingSel : Option (List Nat) := none
  /-- A calibration swap that waits for its hold boundary: the selection, and the error of each cell at each level in
  mV as a run measured it, by 16 times the cell plus the level; none for a clear (R191, R193, R326). -/
  calSel : Option (List Nat × Option (List Int)) := none
  /-- The errors of the last ladder calibration; empty where the factory's stand (R192). -/
  errs : List Int := []
  /-- A restart after LADDER_FAIL has still to pass its check (R195). -/
  checking : Bool := false
  deglitchAt : Option Nat := none
  replacedAt : Option Nat := none
  deriving DecidableEq, Repr

/-- The clear table and FABRIC_CLEAR_N (R205 to R208, R220, R221). -/
structure ClearT where
  table : SMap Nat := []
  aux : SMap Nat := []
  shadow : SMap Nat := []
  shadowAux : SMap Nat := []
  waiting : Option (SMap Nat × SMap Nat) := none
  /-- Elapsed instant of the CLEAR_COMMIT that waits (R26, R206). -/
  waitingAt : Nat := 0
  reject : Nat := 0xFFFFFFFF
  asserted : Bool := false
  auxFollowing : Bool := false
  /-- Elapsed instant of the recognition of the last rising edge (R207). -/
  releasedAt : Nat := 0
  count : Nat := 0
  last : Instant := 0
  loaded : Bool := false
  deriving DecidableEq, Repr

/-- AUX_STATE (R213). -/
inductive AuxState where
  | off
  | dwell
  | active
  | fault
  | clear
  deriving DecidableEq, Repr

/-- One AUX output (R212 to R216). -/
structure Aux where
  config : Nat := 0
  wanted : Nat := 0
  changing : Bool := false
  /-- Elapsed instant of the AUX_CONFIG write that waits (R28). -/
  changeAt : Nat := 0
  /-- The code that the output was moving to when that write came: it does so until the range change begins (R214). -/
  before : Nat := 0
  dwellAt : Option Nat := none
  switched : Bool := false
  value : Nat := 0
  /-- AUX_VALUE writes that wait, newest first, with their elapsed instants (R25, R28). -/
  valueNext : List (Nat × Nat) := []
  state : AuxState := .off
  compliance : Bool := false
  currentLimit : Bool := false
  readPending : Bool := false
  readback : Nat := 0
  /-- The last read-back mismatched (R216). -/
  mismatch : Bool := false
  /-- From power-up the output drives its clear code until an AUX_VALUE takes effect (R209). -/
  atClear : Bool := false
  now : Nat := 0
  complianceAt : Nat := 0
  e1 : Int := 0
  e2 : Int := 0
  e3 : Int := 0
  levels : List Nat := []
  window : Option (List Nat) := none
  deriving DecidableEq, Repr

/-! ### Buoys and ports (06) -/

/-- One port detector: its comparator and its converter channel (R161 to R164). -/
structure Det where
  lit : Bool := false
  overpower : Bool := false
  below : Option Nat := none
  samples : List Nat := []
  power : Int := -10240
  /-- Means of the last 16 hold periods, newest first, in 2^-16 dBm; none where there is none. -/
  periods : List (Option Int) := []
  /-- The boundary at which a changed LIGHT_THRESHOLD came into force, until its crossing is recorded (R164). -/
  threshAt : Option Nat := none
  latch : List Instant := []
  deriving DecidableEq, Repr

/-- One buoy converter (R180). -/
structure Buoy where
  slow : Bool := false
  lateNow : Bool := false
  latePrev : Bool := false
  deriving DecidableEq, Repr

/-- One port: north ports 0 to 1,023, south ports 1,024 to 2,047 (R177, R185). -/
structure Port where
  /-- ATTEN_NOW once the equaliser has moved it; none while it equals ATTEN_SET. -/
  atten : Option Nat := none
  eqLimit : Bool := false
  lossDrift : Bool := false
  lightEvents : Nat := 0
  deriving DecidableEq, Repr

/-! ### Audit (09) -/

/-- An audit record (R259) without SEQ and CHECK. -/
structure ABody where
  time : Instant
  quality : Nat
  type_ : Nat
  flags : Nat
  payload : List Byte
  deriving DecidableEq, Repr

/-- A numbered and checked audit record (R259, R270). -/
structure ARec where
  seq : Nat
  body : ABody
  check : Nat
  deriving DecidableEq, Repr

/-- The audit chain (R259 to R281, R485). -/
structure Audit where
  epoch : Nat := 0
  count : Nat := 0
  buffer : List ARec := []
  ring : List ARec := []
  released : Nat := 0
  lost : Nat := 0
  checkFails : Nat := 0
  dropped : Nat := 0
  dropFirst : Instant := 0
  dropLast : Instant := 0
  /-- Happenings counted while Watch is off (R270). -/
  offCount : Nat := 0
  offFirst : Instant := 0
  offLast : Instant := 0
  watchWasOff : Bool := false
  headHash : List Byte := []
  prevHead : List Byte := []
  lastSigned : Option (Nat × List Byte) := none
  sealSig : List Byte := []
  lastCheckpoint : List ARec := []
  /-- The last four CHECKPOINT records with their SIGNATURE records, oldest first, and those of the flush (R273). -/
  checkpoints : List ARec := []
  flushCkpts : List ARec := []
  /-- Bits of records that have flipped in the ring (R277). -/
  damage : List Damage := []
  sealDue : Option (Nat × Instant) := none
  sealed : Bool := false
  nearFull : Bool := false
  full : Bool := false
  flushed : List ARec := []
  /-- The check value of each flushed record, through channel 4 (R264, R273). -/
  flushChecks : List Nat := []
  flushHead : List Byte := []
  flushLost : Nat := 0
  hasFlush : Bool := false
  /-- The epoch was open at the flush, so that boot closes it (R274). -/
  flushOpen : Bool := false
  /-- No epoch is open: before the first BOOT record, and after an orderly shutdown (R275). -/
  closed : Bool := true
  /-- Records that wait for Watch and for the next BOOT record (R238; log 17). -/
  waiting : List ABody := []
  /-- The records moved to the ring after the last CHECKPOINT, and after the last signed one. -/
  sinceCkpt : List ARec := []
  sinceSigned : List ARec := []
  deriving DecidableEq, Repr

/-- A host Hallmark channel (R264, R266). -/
structure HmChan where
  isOpen : Bool := false
  crc : Nat := 0xFFFFFFFF
  deriving DecidableEq, Repr

/-! ### Keeper (10) -/

/-- KPR_STATE (R287). -/
inductive KState where
  | init
  | duplexA
  | duplexB
  | simplexA
  | simplexB
  | failStatic
  deriving DecidableEq, Repr

/-- ANVIL_STATE (R288). -/
inductive AState where
  | off
  | selftest
  | resync
  | standby
  | active
  | failed
  | out
  deriving DecidableEq, Repr

/-- One Anvil as the arbiter sees it (R284, R288, R308, R310). -/
structure AnvilSt where
  state : AState := .off
  cause : Nat := 0
  failTime : Instant := 0
  /-- Elapsed instants of the failures of the last 60 minutes (R299). -/
  fails : List Nat := []
  resyncNs : Nat := 0
  resyncStart : Nat := 0
  standbySince : Instant := 0
  peerLoss : Bool := false
  selfcheck : Bool := false
  /-- LATE slots of the period last reported, and of the one in progress. -/
  lateSlots : Nat := 0
  lateNow : Nat := 0
  /-- Consecutive periods whose heartbeat was missing or carried a wrong count (R290), and periods since one arrived, at
  most 2 (R284, R285). -/
  missed : Nat := 0
  silent : Nat := 0
  /-- Implausible codes (R286), and the codes that differ from the law's, which make its signature differ: of the period
  in progress, and of the one last reported (R284). -/
  implNow : Nat := 0
  implausible : Nat := 0
  oddNow : List (Nat × Nat) := []
  odd : List (Nat × Nat) := []
  /-- Step of R296 reached: 0 none, 1 copy, 2 replay, 3 live. -/
  step : Nat := 0
  rebuilding : Bool := false
  retried : Bool := false
  deriving DecidableEq, Repr

/-- What a period's reports say where its signatures differ (R291): the implausible codes and SELFCHECK of A and of B. -/
structure SignReport where
  aImpl : Nat
  bImpl : Nat
  aSelf : Bool
  bSelf : Bool
  deriving DecidableEq, Repr

/-- The Keeper (R282 to R311). -/
structure Keeper where
  state : KState := .init
  alive : Bool := false
  lastCause : Nat := 0
  a : AnvilSt := {}
  b : AnvilSt := {}
  matched : Nat := 0
  /-- A period of the hold period in progress did not match. -/
  unmatched : Bool := false
  /-- The reports of the period last reported, where its signatures differ, and those whose decision takes effect at this
  boundary (R291, R293). -/
  differ : Option SignReport := none
  verdict : Option SignReport := none
  /-- Elapsed instant of the heartbeats last taken. -/
  beatAt : Nat := 0
  /-- The codes of the hold period in progress are repeated ones (R285, R295). -/
  repeated : Bool := false
  /-- Hold periods that the restarted arbiter has checked since its loss (R305). -/
  checked : Nat := 0
  /-- The Anvil commanded to take drive, with the cause and when it was lost (R293). -/
  takeover : Option (Anvil × Nat × Nat) := none
  lastGood : Nat := 0
  swapAsked : Bool := false
  /-- Elapsed instant of the write that asked for it (R28). -/
  swapAt : Nat := 0
  removeAfter : Option Anvil := none
  revertAt : Option (Instant × Nat) := none
  moved : Bool := false
  failovers : Nat := 0
  lastFailover : Instant := 0
  interruptNs : Nat := 0
  mismatches : Nat := 0
  heldCodes : Nat := 0
  lostCount : Nat := 0
  losses : List Nat := []
  /-- The source that the selector latched when the arbiter was lost (R305): 0 A, 1 B, 0xFF none. -/
  latched : Nat := 0xFF
  linkSuspect : Bool := false
  noSource : Bool := false
  entry : SMap Int := []
  /-- Elements at hold rate take their failover hand-over at the next hold boundary (R294). -/
  handHold : Bool := false
  history : List ARec := []
  deriving DecidableEq, Repr

/-! ### Calibration (11) -/

/-- One flash slot of a calibration type (R313). -/
structure CalSlot where
  seq : Nat := 0
  /-- Its bytes were written whole. -/
  valid : Bool := false
  /-- TIME, UNIT_FIRST and UNIT_COUNT of its header, and its CHECK (R313). -/
  time : Instant := 0
  first : Nat := 0
  count : Nat := 0
  check : Nat := 0
  temp : Int := 0
  entries : SMap (List Byte) := []
  deriving DecidableEq, Repr

/-- One calibration type (R312 to R327). -/
structure CalType where
  runs : Nat := 0
  successes : Nat := 0
  lastTime : Instant := 0
  lastResult : Nat := 0
  lastReason : Nat := 0
  user0 : CalSlot := {}
  user1 : CalSlot := {}
  /-- The user slot in force. -/
  inForce : Option Nat := none
  userLost : Bool := false
  /-- The factory slots whose check failed (R317). -/
  factoryBad : List Nat := []
  deriving DecidableEq, Repr

/-- A run in progress (R319). -/
structure CalRunSt where
  type_ : Nat
  flags : Nat
  first : Nat
  count : Nat
  source : Nat
  refPower : Int
  started : Instant
  results : List CalUnit := []
  temp : Int := 0
  slot : Nat := 0
  clear : Bool := false
  stored : Bool := false
  sourcePower : Int := 0
  failovers : Nat := 0
  /-- The time that the plan of its batch takes (R322). -/
  planNs : Nat := 0
  deriving DecidableEq, Repr

/-- Calibration (R312 to R327). -/
structure Cal where
  state : Nat := 0
  run : Option CalRunSt := none
  step : Nat := 0
  steps : Nat := 0
  /-- Hold boundaries since the run began to measure (R318). -/
  ticks : Nat := 0
  /-- The elements of runs that have ended, each to be moved to its route target in turn (R322). -/
  freeing : List Nat := []
  /-- The level whose in-service cell a LADDER run has substituted, and that cell (R318). -/
  subst : Option (Nat × Nat) := none
  /-- Notch slots kept for the swap of a run that sets ELEM_NOTCH_NEED to ALWAYS (R324). -/
  notches : Nat := 0
  /-- Types whose neutral slot is to be stored once the run in progress has ended (R326). -/
  queued : List Nat := []
  types : SMap CalType := []
  deriving DecidableEq, Repr

/-! ### Temperature, fans, converters (12) -/

/-- One temperature sensor (R329 to R331); values in Q8.8 °C, histories newest first. -/
structure Sensor where
  v : Int := 0
  sample : Int := 0
  values : List Int := []
  filtered : List Int := []
  suspect : Bool := false
  offRun : Nat := 0
  onRun : Nat := 0
  deriving DecidableEq, Repr

/-- One condition of a zone (R334). -/
structure CondSt where
  force : Bool := false
  upRun : Nat := 0
  downRun : Nat := 0
  deriving DecidableEq, Repr

/-- One zone (R333, R334). -/
structure Zone where
  warn : CondSt := {}
  hot : CondSt := {}
  crit : CondSt := {}
  rate1 : CondSt := {}
  rate10 : CondSt := {}
  blind : Bool := false
  deriving DecidableEq, Repr

/-- The thermal block (R329 to R342). -/
structure Thermal where
  sensors : SMap Sensor := []
  zones : SMap Zone := []
  stage : Nat := 0
  stageZone : Nat := 0
  rateCause : Bool := false
  /-- The number of the millisecond of the last sample, counted from 1 (R330). -/
  sampleNo : Nat := 0
  trip : Bool := false
  tripAt : Option Nat := none
  tripSensor : Nat := 0
  tripTemp : Int := 0
  tripTime : Instant := 0
  tripNs : Nat := 0
  tripRun : Nat := 0
  predictRun : Nat := 0
  coolSince : Option Nat := none
  restartReady : Bool := false
  deriving DecidableEq, Repr

/-- One fan (R340, R341). -/
structure Fan where
  duty : Nat := 255
  rpm : Nat := 0
  stall : Bool := false
  lowRun : Nat := 0
  goodRun : Nat := 0
  /-- The number of the second of the last update, counted from 1 (R341). -/
  second : Nat := 0
  deriving DecidableEq, Repr

/-- A conversion of a housekeeping converter (R344, R347). -/
structure Conv where
  /-- The elapsed instant at which its sampling begins. -/
  start : Nat
  /-- ARM 0 has ended its sequence (R345). -/
  last : Bool := false
  input : Nat
  gain : Nat
  sample : Nat
  level : Nat
  entry : Nat
  injected : Bool
  deriving DecidableEq, Repr

/-- One housekeeping converter (R343 to R350). `trigs` are the elapsed instants at which triggers take effect;
`timerAt` is that of the timer's next. -/
structure Hkc where
  armed : Bool := false
  seqPos : Option Nat := none
  current : Option Conv := none
  inject : Option Conv := none
  trigs : List Nat := []
  timerAt : Nat := 0
  /-- The last fan edge that triggered it (R345). -/
  edgeAt : Option Nat := none
  heldTrig : Bool := false
  missed : Nat := 0
  missedRaised : Bool := false
  overruns : Nat := 0
  overrunRaised : Bool := false
  calActive : Bool := false
  calWaiting : Bool := false
  /-- The injected conversion was pending as the calibration run started, and goes ahead of it (R349). -/
  injectFirst : Bool := false
  /-- The last conversion was over range, and its sampling ended at this elapsed instant (R348). -/
  overRangeLast : Option Nat := none
  valid : Bool := false
  overrun : Bool := false
  suspect : Bool := false
  overRange : Bool := false
  injected : Bool := false
  entry : Nat := 0
  code : Nat := 0
  deriving DecidableEq, Repr

/-! ### Memory and matrix (13) -/

/-- One SRAM bank's controller (R352 to R368, R379). An owner of `none` is that of R353. `stalled` holds
the transactions that wait for a hand-over or a wake. -/
structure Bank where
  owner : Option Nat := none
  pendingSince : Option Nat := none
  timeout : Bool := false
  power : Nat := 0
  retainedByForge : Bool := false
  proofFault : Bool := false
  borrowed : Option Nat := none
  ceCount : Nat := 0
  ueCount : Nat := 0
  /-- BANK_LAST_ERR: VALID; then UNCORR, REQUESTER and WORD. -/
  errValid : Bool := false
  lastErr : Bool × Nat × Nat := (false, 0, 0)
  stalled : List Instr := []
  deriving DecidableEq, Repr

/-- The Proof engine (R365 to R368). -/
structure Proof where
  bank : Nat := 0
  window : Nat := 0
  active : Bool := false
  passes : Nat := 0
  yields : Nat := 0
  faults : Nat := 0
  yieldRun : Nat := 0
  startedAt : Option Nat := none
  deriving DecidableEq, Repr

/-- One entry of MTX_RESET_LOG (R378, R380). -/
structure ResetLog where
  valid : Bool := true
  master : Nat
  target : Nat
  done : Nat
  total : Nat
  addr : Nat
  ns : Nat
  deriving DecidableEq, Repr

/-- The matrix (R371 to R380). -/
structure Matrix where
  decodeErr : Bool := false
  decodeMaster : Nat := 0
  decodeAddr : Nat := 0
  draining : List Nat := []
  /-- Transactions of a draining master that are not accepted yet (R378). -/
  stalled : List Instr := []
  log : List ResetLog := []
  conflicts : SMap Nat := []
  deriving DecidableEq, Repr

/-! ### Host links and the dispatch (14, 15) -/

/-- An event record (R436). -/
structure ERec where
  seq : Nat
  time : Instant
  quality : Nat
  flags : Nat
  source : Nat
  payload : List Byte
  deriving DecidableEq, Repr

/-- One mailbox ring (R390, R391). -/
structure Mbx where
  running : Bool := false
  halted : Bool := false
  dmaErr : Bool := false
  reqHead : Nat := 0
  cplTail : Nat := 0
  phase : Bool := true
  /-- Completions written, newest first: TAG, RSP_LEN, STATUS, PHASE (R389). -/
  completions : List (Nat × Nat × Nat × Bool) := []
  vectors : Nat := 0
  deriving DecidableEq, Repr

/-- The audit export ring (R393). -/
structure Aex where
  wr : Nat := 0
  chunks : List (Nat × Nat) := []
  deriving DecidableEq, Repr

/-- A request waiting or in execution (R418 to R428). -/
structure Req where
  reqId : Nat := 0
  op : Nat := 0
  index : Nat := 0
  sub : Nat := 0
  flags : Nat := 0
  offset : Nat := 0
  want : Nat := 0
  payload : List Byte := []
  len : Nat := 0
  check : Nat := 0
  arrived : Nat := 0
  buffers : Nat := 1
  tag : Nat := 0
  rspCap : Nat := 0
  deriving DecidableEq, Repr

/-- Happenings counted by the second of engine time, for the events that report the preceding second's
(R423, R438). `second` is the second of the last one plus 1. -/
structure PerSecond where
  second : Nat := 0
  count : Nat := 0
  prev : Nat := 0
  deriving DecidableEq, Repr

/-- One queue of a session (R418, R424, R425, R426). -/
structure Queue where
  waiting : List Req := []
  executing : Option Req := none
  start : Nat := 0
  finish : Nat := 0
  eligible : Option Nat := none
  samples : Nat := 0
  depthMin : Nat := 0
  depthMax : Nat := 0
  depthSum : Nat := 0
  delayMin : Nat := 0
  delayMax : Nat := 0
  delaySum : Nat := 0
  deriving DecidableEq, Repr

/-- A response given to a session (R406). -/
structure Resp where
  status : Nat := 0
  data : List Byte := []
  total : Nat := 0
  deriving DecidableEq, Repr

/-- One session (R382 to R416, R418 to R429). -/
structure Session where
  isOpen : Bool := false
  link : Nat := 0
  role : Nat := 0
  peer : List Byte := []
  opened : Instant := 0
  requests : Nat := 0
  drops : Nat := 0
  dedupHits : Nat := 0
  regOffset : Nat := 0
  lastBatch : Nat := 0
  auditPos : Nat := 0
  skipped : Nat := 0
  subs : List (Nat × Nat) := []
  sendq : List ERec := []
  lostBefore : Bool := false
  evtDrops : Nat := 0
  snapshot : Option (Nat × List Byte × Nat) := none
  assembly : Option (Nat × List Byte × Nat) := none
  redeliver : Nat × Nat × Nat := (0, 0, 0)
  control : Queue := {}
  query : Queue := {}
  reqTokens : Nat := 0
  moveTokens : Nat := 0
  filledAt : Nat := 0
  nextEligible : Nat := 0
  policed : Nat := 0
  policedSec : PerSecond := {}
  quotaDrops : Nat := 0
  quotaSec : PerSecond := {}
  held : Nat := 0
  lastFrame : Nat := 0
  storing : Option (Nat × List Byte) := none
  /-- The stream is not read: its next frame waits for the pool (R428). -/
  stalled : Bool := false
  /-- A TCP connection on this port holds the session while its handshake runs (R395). -/
  taken : Option Nat := none
  /-- Buffers that the pool has given to a waiting frame that is not received yet (R427, R428). -/
  admitted : Nat := 0
  resp : Option Resp := none
  deriving DecidableEq, Repr

/-- A kept response (R403). -/
structure Kept where
  key : List Byte
  reqId : Nat
  len : Nat
  check : Nat
  resp : Option Resp
  sentAt : Nat
  deriving DecidableEq, Repr

/-- The SPI link (R397 to R399). -/
structure Spi where
  busy : Bool := false
  resp : Option (List Byte) := none
  rejected : Bool := false
  framing : Bool := false
  redeliver : List Nat := []
  deriving DecidableEq, Repr

/-- The dispatch (R419, R425 to R427). -/
structure Disp where
  vtime : Nat := 0
  lowRaised : Bool := false
  policedTotal : Nat := 0
  /-- Elapsed instant of the last queue sample (R426). -/
  sampledAt : Nat := 0
  /-- JOP_DROPS of MGT0 and MGT1: v2 frames dropped that belong to no session (R402). -/
  portDrops0 : Nat := 0
  portDrops1 : Nat := 0
  deriving DecidableEq, Repr

/-- A gate control list in force or committed (R431, R433). -/
structure GateList where
  base : Instant := 0
  entries : List (Nat × Nat) := []
  deriving DecidableEq, Repr

/-- One port's egress gates (R430 to R435). -/
structure Gate where
  enable : Bool := false
  active : Option GateList := none
  committed : Option GateList := none
  changeAt : Instant := 0
  reject : Nat := 0
  entry : Nat := 0
  entryEnd : Instant := 0
  waits : Nat := 0
  oversize : Nat := 0
  oversizeSec : PerSecond := {}
  held : Bool := false
  sent : Nat := 0
  deriving DecidableEq, Repr

/-- One event queue (R440, R441). -/
structure EvQueue where
  records : List ERec := []
  latch : Option ERec := none
  lost : Nat := 0
  overflow : Bool := false
  lostBefore : Bool := false
  wr : Nat := 0
  deriving DecidableEq, Repr

/-- The event block (R436 to R444). `limits` holds, per limited source, the last interval used. -/
structure Events where
  started : Bool := false
  last : Nat := 0
  /-- The highest sequence number delivered to any queue (R414). -/
  delivered : Nat := 0
  history : List ERec := []
  seqHi : Nat := 0
  /-- The 40 ns Hearth cycle of the last record, and the first number that a record of that cycle may still take:
  records of one cycle are numbered in ascending source order (R437). -/
  cycle : Nat := 0
  cycleFrom : Nat := 0
  irqSrc : Bool := false
  vectors : List Nat := []
  limits : SMap Nat := []
  deriving DecidableEq, Repr

/-! ### Settings and output -/

/-- A live write that waits for its block's boundary (R21, R25, R28). -/
structure LiveWrite where
  block : Block
  isReg : Bool
  key : Nat
  value : Nat
  /-- Elapsed instant at which the write completed. -/
  at_ : Nat
  /-- The session of a per-session setting (AUDIT_READ_FROM). -/
  ses : Nat := 0
  deriving DecidableEq, Repr

/-- The answer to the last read or request: the block's output port (log 14). -/
structure Out where
  data : Nat := 0
  status : Nat := 0
  bytes : List Byte := []
  deriving DecidableEq, Repr

/-- The whole state of the engine. -/
structure State where
  pending : List Instr := []
  time : TimeSt := {}
  ptp0 : PtpPort := {}
  ptp1 : PtpPort := {}
  ptpSel : PtpSel := {}
  caps : SMap Capture := []
  beacons : SMap Beacon := []
  forge : Forge := {}
  power : Power := {}
  boot : Boot := {}
  life : Life := {}
  genEpoch : Nat := 0
  genCount : Nat := 0
  digest : List Byte := []
  digests : List (Nat × Instant × List Byte) := []
  active : Cfg := {}
  image : Option (Nat × SMap RState) := none
  legs : SMap LegSt := []
  planner : Planner := {}
  batches : List Batch := []
  closed : List Batch := []
  nextBatch : Nat := 1
  lateBatches : Nat := 0
  commitCount : Nat := 0
  sched : Sched := {}
  cfgs : SMap StoredCfg := []
  elems : SMap Elem := []
  loopsStarted : Bool := false
  lateSkips : Nat := 0
  notches : SMap Notch := []
  lanesA : SMap Lane := []
  lanesB : SMap Lane := []
  chans : SMap Chan := []
  ladder : Ladder := {}
  mismatchesCleared : Nat := 0
  clear : ClearT := {}
  aux : SMap Aux := []
  dets : SMap Det := []
  buoys : SMap Buoy := []
  ports : SMap Port := []
  windowsDiscarded : Nat := 0
  /-- DITHER_AMPL of the codes applied in the hold period in progress, and of those being computed (R122). -/
  ampNow : Nat := 131
  ampNext : Nat := 131
  audit : Audit := {}
  hm6 : HmChan := {}
  hm7 : HmChan := {}
  keeper : Keeper := {}
  cal : Cal := {}
  thermal : Thermal := {}
  fans : SMap Fan := []
  hkc0 : Hkc := {}
  hkc1 : Hkc := {}
  /-- Profiles whose SRAM word firmware rewrites, with the elapsed instant of the error (R364). -/
  rewriting : List (Nat × Nat) := []
  mem : List Host.Cell := []
  ddr : List Host.Cell := []
  banks : SMap Bank := []
  proof : Proof := {}
  matrix : Matrix := {}
  mbx : SMap Mbx := []
  aex : Aex := {}
  sessions : SMap Session := []
  kept : List Kept := []
  spi : Spi := {}
  bar2Sleep : Nat := 0
  disp : Disp := {}
  gate0 : Gate := {}
  gate1 : Gate := {}
  queues : SMap EvQueue := []
  events : Events := {}
  objs : SMap Nat := []
  blobs : SMap (List Byte) := []
  regs : SMap Nat := []
  shadowRegs : SMap Nat := []
  live : List LiveWrite := []
  reject : List Nat := []
  out : Out := {}
  freeCtr : Nat := 0
  deriving DecidableEq, Repr

/-- The engine right after reset: VAUX has become good and Hearth has just started, the time PLL has
not locked, VMAIN and VHV are absent (R446, R451; log 1). Every field is its structure's default. -/
def State.reset : State := {}

end Sys2Proof.Machine
end

