-- ==== Sys2Proof/Config.lean ====
section
/-!
DEFINITION. What an implementation fixes or the spec leaves open, as constants without a body: no
proof can see their values.
-/

namespace Sys2Proof

/-- Free values: where the spec leaves a value open and the engine goes on (log 12). -/
opaque Config.freeNat : Nat → Nat

/-! ### The factory layer (R312; log 3) -/

/-- The factory value of a scalar setting, by index * 256 + sub-index. -/
opaque Config.factoryObj : Nat → Nat

/-- A field of a factory calibration entry (R314): type plus 16 times the factory slot, unit, byte offset, bytes; unit
0xFFFF stands for the slot's header (R313). -/
opaque Config.factoryField : Nat → Nat → Nat → Nat → Nat

/-- A factory constant of an object that no run changes (pigtail losses and delays, the largest clear
codes, temperature coefficients, serial numbers), by index, sub-index and byte offset. -/
opaque Config.factoryConst : Nat → Nat → Nat → Nat

/-- A constant of bytes whose length the spec leaves open (the serial number, certificates),
by index * 256 + sub-index and, of a certificate, the number of the key that it certifies. -/
opaque Config.factoryBytes : Nat → Nat → List Byte

/-- By how many parts in 10^9 the calendar's crystal runs fast over an elapsed time: R246 bounds it to 20,000 (log 80). -/
opaque Config.calDrift : Nat → Int

/-- The flash byte address at which item `n` of a flush stands in its area: R273 gives no layout (log 80). -/
opaque Config.flushPlace : Nat → Nat

/-- The pigtail variant set at manufacture (R2, R3): bare ribbons, HKF1024-RBC. -/
opaque Config.bareRibbon : Bool

/-! ### Transcendental functions (R127, R129, R175, R177; log 10) -/

/-- Which of the two binary64 numbers beside its exact value a transcendental function gives: the greater in magnitude.
Arguments: the function (0 exp, 1 power of ten, 2 sin, 3 cos) and its argument. -/
opaque Config.f64Up : Nat → F64 → Bool

/-- Travel that the sense converter finds in units of 2^-8 travel LSB where the two entries of the capacitance map are
equal and a line between them has no slope: the spec states no result (R197; log 77). Arguments: the element and the
capacitance. -/
opaque Config.flatTravel : Nat → Nat → Int

/-! ### The planner's searches (R57, R70, R104; log 8). A proposal names the middle lines of legs and the
choices on the traces back from split elements, by split element. The model judges every proposal itself, and
where none serves it tries every one. -/

/-- Which of the legal paths from a north to a south port the first search finds. -/
opaque Config.pathChoice : Machine.Cfg → Nat → Nat → Nat

/-- The plans that search 1, 2 or 3 comes upon for a record, given the configuration, the FAULTED set and the
free notch slots. -/
opaque Config.propose : Nat → Machine.Cfg → List Nat → Nat → Machine.ChangeRec → List Machine.Proposal

/-- The plans that search 1, 2 or 3 comes upon for the re-route of legs. -/
opaque Config.proposeReroute : Nat → Machine.Cfg → List Nat → Nat → List Nat → List Machine.Proposal

/-- The plans that the compile of a stored configuration comes upon. -/
opaque Config.proposeCompile : Machine.Cfg → List Nat → Nat → List Machine.Proposal

/-! ### Keys (R268, R269; log 11) -/

/-- The Ed25519 public key of the key pair generated as number `k`. -/
opaque Config.edPublic : Nat → Nat

/-- The Ed25519 signature of a message under the private key generated as number `k`. -/
opaque Config.edSignature : Nat → List Byte → Nat

/-- A signature by Pelliotte is good: over the first 52 bytes of a firmware image under the fused firmware key
(0), or over the serial number and a nonce for RMA (1): kind, message, signature (R456, R460). -/
opaque Config.pelliotteSigned : Nat → List Byte → List Byte → Bool

/-- LC_NONCE after `n` requests (R460). -/
opaque Config.nonce : Nat → Nat

end Sys2Proof
end

