-- ==== Sys2Proof/Machine/Ops.lean ====
section
/-!
DEFINITION. The named operations that the meanings are built from: sparse tables, byte strings,
addressed memory, instants, and the views of the state that many blocks share.
-/

namespace Sys2Proof.Machine

/-- What a step answers. -/
abbrev Outcome := Host.Outcome State Fault Refusal

/-! ### Sparse tables -/

/-- The entry of key `k`, or the table's default. -/
def mapGet {α : Type} (m : SMap α) (k : Nat) (d : α) : α :=
  match m with
  | [] => d
  | (j, v) :: rest => if j = k then v else mapGet rest k d

/-- Remove the entry of key `k`. -/
def mapErase {α : Type} (m : SMap α) (k : Nat) : SMap α :=
  match m with
  | [] => []
  | (j, v) :: rest => if j = k then mapErase rest k else (j, v) :: mapErase rest k

/-- Put `v` at key `k` of a table whose keys rise. -/
def mapPut {α : Type} (m : SMap α) (k : Nat) (v : α) : SMap α :=
  match m with
  | [] => [(k, v)]
  | (j, w) :: rest =>
    if k < j then (k, v) :: (j, w) :: rest
    else if k = j then (k, v) :: rest
    else (j, w) :: mapPut rest k v

/-- Write `v` at key `k`; writing the default `d` removes the entry. -/
def mapSet {α : Type} [DecidableEq α] (m : SMap α) (k : Nat) (v d : α) : SMap α :=
  if v = d then mapErase m k else mapPut m k v

/-- The keys of a table strictly rise from `lo` on, and no entry equals the default. -/
def mapWfFrom {α : Type} [DecidableEq α] (d : α) (lo : Nat) (m : SMap α) : Bool :=
  match m with
  | [] => true
  | (j, v) :: rest => decide (lo ≤ j) && decide (v ≠ d) && mapWfFrom d (j + 1) rest

/-! ### Memory: 131,072 words of each SRAM bank and the LPDDR5X (R352, R369, R372) -/

/-- What an address that the list does not name reads as: 0 (R352 for the SRAM; log 4 for LPDDR5X). -/
def memDefault : Byte := 0

/-- The canonical form of a memory: addresses strictly rising, no entry equal to `memDefault`. -/
def Memory.wf (m : List Host.Cell) : Bool := mapWfFrom memDefault 0 m

/-- The byte at address `a`. -/
def memRead (m : List Host.Cell) (a : Nat) : Byte := mapGet m a memDefault

/-- Write one byte, keeping the canonical form. -/
def memWrite (m : List Host.Cell) (a : Nat) (b : Byte) : List Host.Cell := mapSet m a b memDefault

/-- `n` bytes from address `a` up. -/
def memReadN (m : List Host.Cell) (a : Nat) : Nat → List Byte
  | 0 => []
  | n + 1 => memRead m a :: memReadN m (a + 1) n

/-- Write bytes from address `a` up. -/
def memWriteList (m : List Host.Cell) (a : Nat) (bs : List Byte) : List Host.Cell :=
  match bs with
  | [] => m
  | b :: rest => memWriteList (memWrite m a b) (a + 1) rest

/-- Write the bytes whose strobe is set; a missing strobe is set (R373). -/
def memWriteStrobed (m : List Host.Cell) (a : Nat) (bs : List Byte) (st : List Bool) : List Host.Cell :=
  match bs, st with
  | [], _ => m
  | b :: rest, [] => memWriteStrobed (memWrite m a b) (a + 1) rest []
  | b :: rest, e :: es => memWriteStrobed (if e then memWrite m a b else m) (a + 1) rest es

/-- Zero `n` bytes from address `a` up: every entry of the range goes. -/
def memZero (m : List Host.Cell) (a n : Nat) : List Host.Cell :=
  m.filter fun c => decide (c.1 < a ∨ a + n ≤ c.1)

/-! ### Byte strings, little-endian (R3) -/

/-- The `n` bytes of `v`, least significant first. -/
def leBytes : Nat → Nat → List Byte
  | 0, _ => []
  | n + 1, v => BitVec.ofNat 8 v :: leBytes n (v / 256)

/-- The number that bytes spell, least significant first. -/
def leNat : List Byte → Nat
  | [] => 0
  | b :: rest => b.toNat + 256 * leNat rest

/-- The number at byte `off`, `n` bytes wide. -/
def leAt (bs : List Byte) (off n : Nat) : Nat := leNat ((bs.drop off).take n)

/-- Two's complement of `v` in `w` bits. -/
def intBits (w : Nat) (v : Int) : Nat := (v % (2 ^ w : Nat)).toNat

/-- The signed number that the low `w` bits of `n` spell. -/
def bitsInt (w n : Nat) : Int :=
  if (n % 2 ^ w).testBit (w - 1) then ((n % 2 ^ w : Nat) : Int) - (2 ^ w : Nat) else ((n % 2 ^ w : Nat) : Int)

/-- Bits `lo` to `lo + w - 1` of `n`. -/
def field (n lo w : Nat) : Nat := n / 2 ^ lo % 2 ^ w

/-- `n` with bits `lo` to `lo + w - 1` replaced by `v`. -/
def setField (n lo w v : Nat) : Nat := n - field n lo w * 2 ^ lo + v % 2 ^ w * 2 ^ lo

/-- 1 for true. -/
def bit (b : Bool) : Nat := if b then 1 else 0

/-- `n` with bit `i` set. -/
def orBit (n i : Nat) : Nat := if n.testBit i then n else n + 2 ^ i

/-- `n` with bit `i` clear. -/
def clrBit (n i : Nat) : Nat := if n.testBit i then n - 2 ^ i else n

/-- How many times `p` holds in a list. -/
def countWhere {α : Type} (p : α → Bool) : List α → Nat
  | [] => 0
  | x :: rest => (if p x then 1 else 0) + countWhere p rest

/-- The numbers from `a` up, `n` of them. -/
def numbers (a : Nat) : Nat → List Nat
  | 0 => []
  | n + 1 => a :: numbers (a + 1) n

/-- Apply `f` for each of a list of items. -/
def forEach {α : Type} (f : α → State → State) (l : List α) (s : State) : State :=
  match l with
  | [] => s
  | x :: rest => forEach f rest (f x s)

/-- Insert into a strictly rising list of numbers. -/
def insertNum (k : Nat) : List Nat → List Nat
  | [] => [k]
  | j :: rest => if k < j then k :: j :: rest else if k = j then j :: rest else j :: insertNum k rest

/-- Sort a list of numbers, dropping repeats. -/
def sortNums (l : List Nat) : List Nat := l.foldl (fun acc k => insertNum k acc) []

/-- A number limited to a range. -/
def clampInt (lo hi v : Int) : Int := if v < lo then lo else if hi < v then hi else v

/-- Round `a / b` to nearest, ties away from zero, for `b > 0`. -/
def roundDiv (a b : Int) : Int :=
  if 0 ≤ a then (2 * a + b) / (2 * b) else -((2 * (-a) + b) / (2 * b))

/-- The integer root of degree 2 or 3, bit by bit from `k` down. -/
def rootBits (deg n : Nat) : Nat → Nat → Nat
  | 0, acc => if (acc + 1) ^ deg ≤ n then acc + 1 else acc
  | k + 1, acc => rootBits deg n k (if (acc + 2 ^ (k + 1)) ^ deg ≤ n then acc + 2 ^ (k + 1) else acc)

/-! ### Instants (R20, R224, R225) -/

/-- Units of engine time in one nanosecond. -/
def nsUnits : Nat := 65536

/-- The counter's instant in units of 2^-16 ns: its 16 upper fraction bits (R224, R225). -/
def State.now (s : State) : Instant := s.time.count / 65536

/-- The whole nanoseconds of the counter. -/
def State.nowNs (s : State) : Nat := s.time.count / 4294967296

/-- The nanoseconds of an instant. -/
def instNs (t : Instant) : Nat := t / 65536

/-- The instant of a count of nanoseconds. -/
def nsInst (n : Nat) : Instant := n * 65536

/-- TIME96 in its 12 bytes: seconds, nanoseconds, fraction (R224). -/
def time96Bytes (t : Instant) : List Byte :=
  leBytes 6 (t / 65536 / 1000000000) ++ leBytes 4 (t / 65536 % 1000000000) ++ leBytes 2 (t % 65536)

/-- The instant that 12 bytes of TIME96 spell. -/
def time96Of (bs : List Byte) : Instant :=
  leAt bs 0 6 * 65536000000000 + leAt bs 6 4 * 65536 + leAt bs 10 2

/-- The nanosecond field of 12 bytes of TIME96 is one of a time (R224). -/
def time96Ok (bs : List Byte) : Bool := leAt bs 6 4 < 1000000000

/-- A fresh free value, and the state with the counter of free values advanced (log 12). -/
def State.takeFree (s : State) : Nat × State :=
  (Config.freeNat s.freeCtr, { s with freeCtr := s.freeCtr + 1 })

end Sys2Proof.Machine
end

