-- ==== Sys2Proof/Machine/Crypto.lean ====
section
/-!
DEFINITION. The Hallmark check value (R263), SHA-256 (R267), and the engine's Ed25519 signatures over
keys whose values no host can see (R268, log 11).
-/

namespace Sys2Proof.Machine

/-! ### CRC-32C (R263) -/

/-- One bit of a CRC step. -/
def crcBit (crc : Nat) : Nat :=
  if crc % 2 = 1 then (crc / 2) ^^^ 0x82F63B78 else crc / 2

/-- Feed one byte to the running value. -/
def crcStep (crc : Nat) (b : Byte) : Nat :=
  crcBit (crcBit (crcBit (crcBit (crcBit (crcBit (crcBit (crcBit (crc ^^^ b.toNat))))))))

/-- Feed bytes in order. -/
def crcFeed (crc : Nat) (bs : List Byte) : Nat :=
  match bs with
  | [] => crc
  | b :: rest => crcFeed (crcStep crc b) rest

/-- The running value after folding a 64-bit context into the initial value. -/
def crcOpen (ctx : Nat) : Nat := crcFeed 0xFFFFFFFF (leBytes 8 ctx)

/-- The check value of data under a context. -/
def crc32c (ctx : Nat) (bs : List Byte) : Nat := crcFeed (crcOpen ctx) bs ^^^ 0xFFFFFFFF

/-! ### SHA-256 (FIPS 180-4, named by R267) -/

/-- No number from 2 on divides `n` before `n` itself. -/
def isPrime (n : Nat) : Bool := (numbers 2 (n - 2)).all fun d => decide (n % d ≠ 0)

/-- The first `n` primes; the 64th is 311. -/
def firstPrimes (n : Nat) : List Nat := ((numbers 2 310).filter isPrime).take n

/-- The first 32 bits of the fractional part of the `k`-th root of `p`: every number that FIPS 180-4 asks for here
is such a part, with a whole part below 32. -/
def rootWord (k p : Nat) : Nat := rootBits k (p * 2 ^ (32 * k)) 36 0 % 2 ^ 32

/-- The round constants: of the cube roots of the first 64 primes. -/
def shaK : List Nat := (firstPrimes 64).map (rootWord 3)

/-- Rotate a 32-bit word right. -/
def rotr (x n : Nat) : Nat := x / 2 ^ n + x % 2 ^ n * 2 ^ (32 - n)

/-- Addition of 32-bit words. -/
def add32 (x y : Nat) : Nat := (x + y) % 4294967296

/-- The eight working words. -/
structure ShaSt where
  a : Nat
  b : Nat
  c : Nat
  d : Nat
  e : Nat
  f : Nat
  g : Nat
  h : Nat
  deriving DecidableEq, Repr

/-- The initial hash value: of the square roots of the first eight primes. -/
def shaInit : ShaSt :=
  let w (i : Nat) : Nat := rootWord 2 ((firstPrimes 8).getD i 0)
  ⟨w 0, w 1, w 2, w 3, w 4, w 5, w 6, w 7⟩

/-- One round. -/
def shaRound (s : ShaSt) (k w : Nat) : ShaSt :=
  let s1 := rotr s.e 6 ^^^ rotr s.e 11 ^^^ rotr s.e 25
  let ch := (s.e &&& s.f) ^^^ ((0xFFFFFFFF - s.e) &&& s.g)
  let t1 := add32 (add32 (add32 s.h s1) (add32 ch k)) w
  let s0 := rotr s.a 2 ^^^ rotr s.a 13 ^^^ rotr s.a 22
  let maj := (s.a &&& s.b) ^^^ (s.a &&& s.c) ^^^ (s.b &&& s.c)
  ⟨add32 t1 (add32 s0 maj), s.a, s.b, s.c, add32 s.d t1, s.e, s.f, s.g⟩

/-- The next word of the message schedule from the last sixteen. -/
def shaNext (ws : List Nat) : Nat :=
  let w15 := ws.getD 1 0
  let w2 := ws.getD 14 0
  let g0 := rotr w15 7 ^^^ rotr w15 18 ^^^ (w15 / 8)
  let g1 := rotr w2 17 ^^^ rotr w2 19 ^^^ (w2 / 1024)
  add32 (add32 (ws.getD 0 0) g0) (add32 (ws.getD 9 0) g1)

/-- The rounds of one block over the remaining constants; `ws` is the window of sixteen words. -/
def shaRounds (ks ws : List Nat) (s : ShaSt) : ShaSt :=
  match ks with
  | [] => s
  | k :: rest => shaRounds rest (ws.drop 1 ++ [shaNext ws]) (shaRound s k (ws.getD 0 0))

/-- The big-endian words of bytes, at most `n`. -/
def beWords : Nat → List Byte → List Nat
  | 0, _ => []
  | n + 1, bs => leNat (bs.take 4).reverse :: beWords n (bs.drop 4)

/-- Fold one 64-byte block into the hash. -/
def shaBlock (s : ShaSt) (blk : List Byte) : ShaSt :=
  let r := shaRounds shaK (beWords 16 blk) s
  ⟨add32 s.a r.a, add32 s.b r.b, add32 s.c r.c, add32 s.d r.d,
   add32 s.e r.e, add32 s.f r.f, add32 s.g r.g, add32 s.h r.h⟩

/-- Fold `n` blocks. -/
def shaBlocks : Nat → List Byte → ShaSt → ShaSt
  | 0, _, s => s
  | n + 1, bs, s => shaBlocks n (bs.drop 64) (shaBlock s (bs.take 64))

/-- The message with its padding: a one bit, zeros, and its length in bits, big-endian. -/
def shaPad (bs : List Byte) : List Byte :=
  bs ++ [0x80#8] ++ List.replicate ((119 - bs.length % 64) % 64) 0#8 ++ (leBytes 8 (bs.length * 8)).reverse

/-- SHA-256 of a byte string, 32 bytes. -/
def sha256 (bs : List Byte) : List Byte :=
  let p := shaPad bs
  let s := shaBlocks (p.length / 64) p shaInit
  [s.a, s.b, s.c, s.d, s.e, s.f, s.g, s.h].flatMap fun w => (leBytes 4 w).reverse

/-! ### The signing key (R268, R269) -/

/-- The 32 bytes of the public key of generation `k`. -/
def publicKey (k : Nat) : List Byte := leBytes 32 (Config.edPublic k)

/-- The key ID: the first 8 bytes of SHA-256 over the public key (R268). -/
def keyId (k : Nat) : List Byte := (sha256 (publicKey k)).take 8

/-- The device certificate of key generation `k` (R269): an X.509 certificate that holds the public key; the bytes
around the key are the factory's (log 11). -/
def deviceCert (k : Nat) : List Byte :=
  Config.factoryBytes 0x180005 (2 * k) ++ publicKey k ++ Config.factoryBytes 0x180005 (2 * k + 1)

/-- The 64 bytes of the Ed25519 signature of `msg` under key `k`. -/
def edSign (k : Nat) (msg : List Byte) : List Byte := leBytes 64 (Config.edSignature k msg)

end Sys2Proof.Machine
end

