-- ==== Sys2Proof/Machine/ObjDict.lean ====
section
/-!
DEFINITION. The object dictionary (R411): for each index:sub its type, access, store, default, range
and setting class, from the object tables of the chapters, and the scalar settings' values.
-/

namespace Sys2Proof.Machine

/-- The types of R408. -/
inductive OType where
  | bool | u8 | u16 | u32 | u64 | i16 | i32 | i64 | f32 | time96
  | octet (n : Nat)
  | str
  | domain
  deriving DecidableEq, Repr

/-- The access codes of R6. -/
inductive OAcc where
  | const | ro | rw | wo
  deriving DecidableEq, Repr

/-- The setting classes of R21. -/
inductive OClass where
  | none | live | shadowed | quiescent
  deriving DecidableEq, Repr

/-- One row of an object table. A range of numbers is inclusive; an F32's is in bit patterns. `factory`
marks a default from the factory calibration layer (R312). -/
structure ObjRow where
  sub : Nat
  type_ : OType
  acc : OAcc
  stored : Bool
  dflt : Nat
  lo : Int
  hi : Int
  cls : OClass
  factory : Bool
  deriving DecidableEq, Repr

/-- The objects of `count` indices from `first` on. -/
structure ObjGroup where
  first : Nat
  count : Nat
  rows : List ObjRow
  deriving DecidableEq, Repr

/-- The objects at 0x1000 (R412). -/
def objs1000 : List ObjRow := [
  ⟨0x01, .str, .const, false, 0, 0, 0, .none, false⟩,  -- VENDOR
  ⟨0x02, .str, .const, false, 0, 0, 0, .none, false⟩,  -- PART
  ⟨0x03, .str, .const, false, 0, 0, 0, .none, false⟩,  -- ORDER_CODE
  ⟨0x04, .str, .const, false, 0, 0, 0, .none, false⟩,  -- SERIAL
  ⟨0x05, .u16, .const, false, 0, 0, 65535, .none, false⟩,  -- HW_REV
  ⟨0x06, .u32, .ro, false, 0, 0, 4294967295, .none, false⟩,  -- FW_VERSION
  ⟨0x07, .u16, .const, false, 0, 0, 65535, .none, false⟩]  -- PCI_VENDOR_ID

/-- The objects at 0x1100 (R45). -/
def objs1100 : List ObjRow := [
  ⟨0x01, .u32, .const, false, 0, 0, 4294967295, .none, false⟩,  -- FABRIC_DELAY_1550
  ⟨0x02, .u32, .const, false, 0, 0, 4294967295, .none, false⟩,  -- FABRIC_DELAY_1310
  ⟨0x03, .u16, .const, false, 0, 0, 65535, .none, false⟩,  -- FABRIC_DELAY_SPREAD
  ⟨0x04, .u16, .rw, true, 6400, 0, 6400, .live, false⟩,  -- IDLE_PORT_ATTEN
  ⟨0x05, .bool, .ro, false, 0, 0, 1, .none, false⟩]  -- REST_PATTERN

/-- The objects at 0x1200 (R15). -/
def objs1200 : List ObjRow := [
  ⟨0x01, .u32, .rw, true, 10000, 100, 60000000, .live, false⟩,  -- FORGE_SLEEP_DELAY
  ⟨0x02, .bool, .rw, true, 0, 0, 1, .live, false⟩,  -- FORGE_KEEP_WARM
  ⟨0x03, .u8, .ro, false, 0, 0, 255, .none, false⟩,  -- FORGE_STATE
  ⟨0x04, .u32, .ro, false, 0, 0, 4294967295, .none, false⟩,  -- FORGE_WAKE_COUNT
  ⟨0x05, .time96, .ro, false, 0, 0, 0, .none, false⟩,  -- FORGE_LAST_WAKE
  ⟨0x06, .u32, .const, false, 50, 0, 4294967295, .none, false⟩]  -- FORGE_TIMED_LEAD

/-- The objects at 0x1300 (R413). -/
def objs1300 : List ObjRow := [
  ⟨0x01, .u32, .rw, false, 0, 0, 67108860, .live, false⟩,  -- REG_OFFSET
  ⟨0x02, .u32, .rw, false, 0, 0, 4294967295, .live, false⟩,  -- REG_DATA
  ⟨0x03, .time96, .ro, false, 0, 0, 0, .none, false⟩,  -- TIME_NOW
  ⟨0x04, .u8, .ro, false, 0, 0, 255, .none, false⟩]  -- TIME_NOW_QUALITY

/-- The objects at 0x1400 (R412). -/
def objs1400 : List ObjRow := [
  ⟨0x01, .u8, .rw, true, 1, 0, 2, .quiescent, false⟩,  -- SPI_ROLE
  ⟨0x02, .u8, .rw, true, 2, 0, 2, .quiescent, false⟩,  -- PCIE_ROLE
  ⟨0x03, .u8, .rw, true, 0, 0, 2, .live, false⟩,  -- V2_ROLE
  ⟨0x04, .bool, .rw, true, 1, 0, 1, .live, false⟩,  -- V2_ENABLE
  ⟨0x05, .u16, .rw, true, 60, 5, 3600, .live, false⟩,  -- V2_IDLE
  ⟨0x06, .bool, .rw, true, 1, 0, 1, .live, false⟩,  -- SPI_RESP_IRQ
  ⟨0x07, .u32, .ro, false, 0, 0, 4294967295, .none, false⟩,  -- BAR2_SLEEP_ACCESSES
  ⟨0x10, .u8, .rw, true, 2, 0, 3, .quiescent, false⟩,  -- MGT_MODE
  ⟨0x11, .u8, .rw, true, 2, 0, 3, .quiescent, false⟩,  -- MGT_MODE
  ⟨0x12, .u8, .rw, true, 0, 0, 2, .quiescent, false⟩,  -- MGT_FEC
  ⟨0x13, .u8, .rw, true, 0, 0, 2, .quiescent, false⟩,  -- MGT_FEC
  ⟨0x14, (.octet 6), .const, false, 0, 0, 0, .none, false⟩,  -- MGT_MAC
  ⟨0x15, (.octet 6), .const, false, 0, 0, 0, .none, false⟩,  -- MGT_MAC
  ⟨0x16, (.octet 12), .rw, true, 0, 0, 0, .quiescent, false⟩,  -- MGT_IPV4
  ⟨0x17, (.octet 12), .rw, true, 0, 0, 0, .quiescent, false⟩,  -- MGT_IPV4
  ⟨0x18, (.octet 33), .rw, true, 0, 0, 0, .quiescent, false⟩,  -- MGT_IPV6
  ⟨0x19, (.octet 33), .rw, true, 0, 0, 0, .quiescent, false⟩,  -- MGT_IPV6
  ⟨0x1A, .u16, .rw, true, 0, 0, 4094, .quiescent, false⟩,  -- MGT_VLAN
  ⟨0x1B, .u16, .rw, true, 0, 0, 4094, .quiescent, false⟩,  -- MGT_VLAN
  ⟨0x1C, .u8, .ro, false, 0, 0, 255, .none, false⟩,  -- MGT_LINK
  ⟨0x1D, .u8, .ro, false, 0, 0, 255, .none, false⟩]  -- MGT_LINK

/-- The objects at 0x1500 to 0x151F (R412). -/
def objs1500 : List ObjRow := [
  ⟨0x01, .u8, .ro, false, 0, 0, 255, .none, false⟩,  -- SES_STATE
  ⟨0x02, .u8, .ro, false, 0, 0, 255, .none, false⟩,  -- SES_LINK
  ⟨0x03, .u8, .ro, false, 0, 0, 255, .none, false⟩,  -- SES_ROLE
  ⟨0x04, (.octet 40), .ro, false, 0, 0, 0, .none, false⟩,  -- SES_PEER
  ⟨0x05, .time96, .ro, false, 0, 0, 0, .none, false⟩,  -- SES_OPENED
  ⟨0x06, .u32, .ro, false, 0, 0, 4294967295, .none, false⟩,  -- SES_REQUESTS
  ⟨0x07, .u32, .ro, false, 0, 0, 4294967295, .none, false⟩,  -- JOP_DROPS
  ⟨0x08, .u32, .ro, false, 0, 0, 4294967295, .none, false⟩]  -- DEDUP_HITS

/-- The objects at 0x1600 (R412). -/
def objs1600 : List ObjRow := [
  ⟨0x10, .domain, .rw, true, 0, 0, 0, .live, false⟩,  -- TLS_ANCHOR
  ⟨0x11, .domain, .rw, true, 0, 0, 0, .live, false⟩,  -- TLS_ANCHOR
  ⟨0x12, .domain, .rw, true, 0, 0, 0, .live, false⟩,  -- TLS_ANCHOR
  ⟨0x13, .domain, .rw, true, 0, 0, 0, .live, false⟩,  -- TLS_ANCHOR
  ⟨0x14, .domain, .rw, true, 0, 0, 0, .live, false⟩,  -- TLS_ANCHOR
  ⟨0x15, .domain, .rw, true, 0, 0, 0, .live, false⟩,  -- TLS_ANCHOR
  ⟨0x16, .domain, .rw, true, 0, 0, 0, .live, false⟩,  -- TLS_ANCHOR
  ⟨0x17, .domain, .rw, true, 0, 0, 0, .live, false⟩,  -- TLS_ANCHOR
  ⟨0x20, .u8, .rw, true, 0, 0, 2, .live, false⟩,  -- TLS_ANCHOR_ROLE
  ⟨0x21, .u8, .rw, true, 0, 0, 2, .live, false⟩,  -- TLS_ANCHOR_ROLE
  ⟨0x22, .u8, .rw, true, 0, 0, 2, .live, false⟩,  -- TLS_ANCHOR_ROLE
  ⟨0x23, .u8, .rw, true, 0, 0, 2, .live, false⟩,  -- TLS_ANCHOR_ROLE
  ⟨0x24, .u8, .rw, true, 0, 0, 2, .live, false⟩,  -- TLS_ANCHOR_ROLE
  ⟨0x25, .u8, .rw, true, 0, 0, 2, .live, false⟩,  -- TLS_ANCHOR_ROLE
  ⟨0x26, .u8, .rw, true, 0, 0, 2, .live, false⟩,  -- TLS_ANCHOR_ROLE
  ⟨0x27, .u8, .rw, true, 0, 0, 2, .live, false⟩]  -- TLS_ANCHOR_ROLE

/-- The objects at 0x1800 (R465). -/
def objs1800 : List ObjRow := [
  ⟨0x01, .u8, .ro, true, 0, 0, 255, .none, false⟩,  -- LC_STATE
  ⟨0x02, .u64, .ro, false, 0, 0, 18446744073709551615, .none, false⟩,  -- LC_NONCE
  ⟨0x03, .domain, .wo, false, 0, 0, 0, .live, false⟩,  -- LC_REQUEST
  ⟨0x04, .bool, .wo, false, 0, 0, 1, .live, false⟩,  -- LC_SHUTDOWN
  ⟨0x05, .domain, .ro, false, 0, 0, 0, .none, false⟩,  -- DEVICE_CERT
  ⟨0x06, .domain, .ro, false, 0, 0, 0, .none, false⟩,  -- TLS_CERT
  ⟨0x07, .domain, .ro, false, 0, 0, 0, .none, false⟩]  -- IDENTITY_CHAIN

/-- The objects at 0x1810 (R465). -/
def objs1810 : List ObjRow := [
  ⟨0x01, .u8, .ro, true, 0, 0, 255, .none, false⟩,  -- BOOT_PREF
  ⟨0x02, .u8, .ro, false, 0, 0, 255, .none, false⟩,  -- BOOT_IMAGE
  ⟨0x03, .u8, .ro, false, 0, 0, 255, .none, false⟩,  -- FUSED_SVN
  ⟨0x04, .domain, .ro, false, 0, 0, 0, .none, false⟩,  -- IMAGE_INFO
  ⟨0x05, .bool, .wo, false, 0, 0, 1, .live, false⟩,  -- FW_UPDATE_START
  ⟨0x06, .domain, .wo, false, 0, 0, 0, .live, false⟩,  -- FW_UPDATE_DATA
  ⟨0x07, .bool, .wo, false, 0, 0, 1, .live, false⟩,  -- FW_UPDATE_COMMIT
  ⟨0x08, .bool, .wo, false, 0, 0, 1, .live, false⟩]  -- FW_CONFIRM

/-- The objects at 0x1820 (R465). -/
def objs1820 : List ObjRow := [
  ⟨0x01, .u8, .rw, true, 0, 0, 1, .live, false⟩,  -- LC_TAMPER_MASK
  ⟨0x02, .u32, .ro, true, 0, 0, 4294967295, .none, false⟩,  -- TAMPER_COUNT
  ⟨0x03, .time96, .ro, true, 0, 0, 0, .none, false⟩,  -- TAMPER_LAST
  ⟨0x04, .u8, .ro, true, 0, 0, 255, .none, false⟩]  -- TAMPER_LAST_SOURCES

/-- The objects at 0x2000 (R79). -/
def objs2000 : List ObjRow := [
  ⟨0x01, .domain, .wo, false, 0, 0, 0, .live, false⟩,  -- PLAN_QUERY
  ⟨0x02, .domain, .ro, false, 0, 0, 0, .none, false⟩,  -- PLAN_RESULT
  ⟨0x03, .u8, .rw, true, 1, 0, 2, .quiescent, false⟩,  -- REROUTE_POLICY
  ⟨0x04, .bool, .rw, true, 0, 0, 1, .quiescent, false⟩,  -- REROUTE_ALLOW_DISTURB
  ⟨0x05, .u16, .ro, false, 0, 0, 65535, .none, false⟩,  -- NOTCH_FREE
  ⟨0x06, .u16, .ro, false, 0, 0, 65535, .none, false⟩,  -- NOTCH_SPLIT_USED
  ⟨0x07, .u16, .ro, false, 0, 0, 65535, .none, false⟩,  -- NOTCH_HELD
  ⟨0x08, .u16, .ro, false, 0, 0, 65535, .none, false⟩,  -- LEGS_ACTIVE
  ⟨0x09, .u32, .ro, false, 0, 0, 4294967295, .none, false⟩,  -- PLAN_COUNT
  ⟨0x0A, .u32, .ro, false, 0, 0, 4294967295, .none, false⟩,  -- PLAN_TIME_MAX
  ⟨0x0B, .u16, .ro, false, 0, 0, 65535, .none, false⟩,  -- ROUTE_STALE_ENTRIES
  ⟨0x0C, .u16, .ro, false, 0, 0, 65535, .none, false⟩]  -- DEGRADED_COUNT

/-- The objects at 0x2001 (R79). -/
def objs2001 : List ObjRow := [
  ⟨0x01, .u64, .ro, false, 0, 0, 18446744073709551615, .none, false⟩,  -- CONFIG_GENERATION
  ⟨0x02, (.octet 32), .ro, false, 0, 0, 0, .none, false⟩,  -- CONFIG_DIGEST
  ⟨0x03, .u32, .ro, true, 0, 0, 4294967295, .none, false⟩,  -- GEN_EPOCH
  ⟨0x04, .u64, .ro, false, 0, 0, 18446744073709551615, .none, false⟩,  -- PLANNED_GENERATION
  ⟨0x05, .domain, .ro, false, 0, 0, 0, .none, false⟩]  -- DIGEST_HISTORY

/-- The objects at 0x2100 (R119). -/
def objs2100 : List ObjRow := [
  ⟨0x01, .u8, .wo, false, 0, 1, 4, .live, false⟩,  -- SCHED_CONTROL
  ⟨0x02, .u8, .ro, false, 0, 0, 255, .none, false⟩,  -- SCHED_STATE
  ⟨0x03, .time96, .rw, false, 0, 0, 0, .shadowed, false⟩,  -- SCHED_BASE
  ⟨0x04, .domain, .rw, false, 0, 0, 0, .shadowed, false⟩,  -- SCHED_TABLE
  ⟨0x05, .u8, .rw, true, 0, 0, 2, .quiescent, false⟩,  -- SCHED_FAULT_ACTION
  ⟨0x06, .u8, .ro, false, 0, 0, 255, .none, false⟩,  -- SCHED_REJECT
  ⟨0x07, .u64, .ro, false, 0, 0, 18446744073709551615, .none, false⟩,  -- SCHED_CYCLE_NS
  ⟨0x08, .u64, .ro, false, 0, 0, 18446744073709551615, .none, false⟩,  -- SCHED_CYCLE_COUNT
  ⟨0x09, .u8, .ro, false, 0, 0, 255, .none, false⟩,  -- SCHED_WATCH_NOW
  ⟨0x0A, .time96, .ro, false, 0, 0, 0, .none, false⟩,  -- SCHED_NEXT_BOUNDARY
  ⟨0x0B, .time96, .ro, false, 0, 0, 0, .none, false⟩,  -- SCHED_START_TIME
  ⟨0x0C, .time96, .ro, false, 0, 0, 0, .none, false⟩,  -- SCHED_ACTIVE_BASE
  ⟨0x0D, .u32, .ro, false, 0, 0, 4294967295, .none, false⟩,  -- SCHED_AUDIT_LOAD
  ⟨0x0E, .u32, .ro, false, 0, 0, 4294967295, .none, false⟩,  -- SCHED_AUDIT_BUDGET
  ⟨0x0F, .u32, .ro, false, 0, 0, 4294967295, .none, false⟩,  -- SCHED_LATE_WATCHES
  ⟨0x10, .time96, .ro, false, 0, 0, 0, .none, false⟩,  -- SCHED_CHANGE_AT
  ⟨0x13, .time96, .ro, false, 0, 0, 0, .none, false⟩,  -- shadow of SCHED_BASE
  ⟨0x14, .domain, .ro, false, 0, 0, 0, .none, false⟩]  -- shadow of SCHED_TABLE

/-- The objects at 0x2200 (R101). -/
def objs2200 : List ObjRow := [
  ⟨0x01, .domain, .wo, false, 0, 0, 0, .live, false⟩,  -- BATCH_SUBMIT
  ⟨0x02, .u32, .ro, false, 0, 0, 4294967295, .none, false⟩,  -- BATCH_LAST_ID
  ⟨0x03, .u32, .wo, false, 0, 0, 4294967295, .live, false⟩,  -- BATCH_FIRE
  ⟨0x04, .u32, .wo, false, 0, 0, 4294967295, .live, false⟩,  -- BATCH_CANCEL
  ⟨0x05, .u8, .ro, false, 0, 0, 255, .none, false⟩,  -- BATCH_PENDING_COUNT
  ⟨0x06, .domain, .ro, false, 0, 0, 0, .none, false⟩,  -- BATCH_STATUS
  ⟨0x07, .time96, .ro, false, 0, 0, 0, .none, false⟩,  -- BATCH_NEXT_T0
  ⟨0x08, .u32, .ro, false, 0, 0, 4294967295, .none, false⟩,  -- BATCH_LATE_COUNT
  ⟨0x09, .u32, .ro, false, 0, 0, 4294967295, .none, false⟩]  -- BATCH_COMMIT_COUNT

/-- The objects at 0x2400 to 0x243F (R119). -/
def objs2400 : List ObjRow := [
  ⟨0x01, .domain, .rw, true, 0, 0, 0, .quiescent, false⟩,  -- CFG_BODY
  ⟨0x02, .u8, .ro, false, 0, 0, 255, .none, false⟩,  -- CFG_STATE
  ⟨0x03, .u8, .ro, false, 0, 0, 255, .none, false⟩,  -- CFG_REASON
  ⟨0x04, .u16, .ro, false, 0, 0, 65535, .none, false⟩,  -- CFG_LEGS
  ⟨0x05, .u16, .ro, false, 0, 0, 65535, .none, false⟩,  -- CFG_SPLITS
  ⟨0x06, (.octet 32), .ro, false, 0, 0, 0, .none, false⟩,  -- CFG_CIRCUIT_DIGEST
  ⟨0x07, .u32, .ro, false, 0, 0, 4294967295, .none, false⟩]  -- CFG_COMPILE_TIME

/-- The objects at 0x2800 to 0x2FFF (R186, R80). -/
def objs2800 : List ObjRow := [
  ⟨0x01, .u8, .ro, false, 0, 0, 255, .none, false⟩,  -- KIND
  ⟨0x02, .u8, .ro, false, 0, 0, 255, .none, false⟩,  -- FLAGS
  ⟨0x03, .u16, .ro, false, 65535, 0, 65535, .none, false⟩,  -- NORTH
  ⟨0x04, .u16, .ro, false, 65535, 0, 65535, .none, false⟩,  -- SOUTH
  ⟨0x05, .u16, .ro, false, 65535, 0, 65535, .none, false⟩,  -- GROUP
  ⟨0x06, .u8, .ro, false, 0, 0, 255, .none, false⟩,  -- LEG_COUNT
  ⟨0x07, .u8, .ro, false, 0, 0, 255, .none, false⟩,  -- LEG_WEIGHT
  ⟨0x08, .u8, .ro, false, 0, 0, 255, .none, false⟩,  -- STATE
  ⟨0x09, .u8, .ro, false, 0, 0, 255, .none, false⟩,  -- LIGHT
  ⟨0x0A, .u64, .ro, false, 0, 0, 18446744073709551615, .none, false⟩,  -- GEN_MADE
  ⟨0x0B, .u64, .ro, false, 0, 0, 18446744073709551615, .none, false⟩,  -- GEN_MOVED
  ⟨0x0C, .domain, .ro, false, 0, 0, 0, .none, false⟩,  -- PATH
  ⟨0x0D, .domain, .ro, false, 0, 0, 0, .none, false⟩,  -- SHADOWS
  ⟨0x0E, .u32, .ro, false, 0, 0, 4294967295, .none, false⟩,  -- MOVE_COUNT
  ⟨0x10, .u8, .ro, false, 0, 0, 255, .none, false⟩,  -- TRIM_STATE
  ⟨0x11, .u8, .ro, false, 0, 0, 255, .none, false⟩,  -- TRIM_CAUSE
  ⟨0x12, .i16, .ro, false, 0, (-32768), 32767, .none, false⟩,  -- LEG_LOSS
  ⟨0x13, .i16, .ro, false, 0, (-32768), 32767, .none, false⟩,  -- LOSS_BASELINE
  ⟨0x14, .u16, .ro, false, 0, 0, 65535, .none, false⟩,  -- MEASURED_SHARE
  ⟨0x15, .domain, .ro, false, 0, 0, 0, .none, false⟩]  -- TRIM_OFFSETS

/-- The objects at 0x3000 (R243). -/
def objs3000 : List ObjRow := [
  ⟨0x01, .u8, .rw, true, 0, 0, 2, .quiescent, false⟩,  -- PTP_PROFILE
  ⟨0x02, (.octet 8), .const, false, 0, 0, 0, .none, false⟩,  -- PTP_CLOCK_IDENTITY
  ⟨0x03, .u8, .ro, false, 255, 0, 255, .none, false⟩,  -- PTP_SELECTED_PORT
  ⟨0x04, .u16, .rw, true, 2, 0, 3600, .live, false⟩,  -- PTP_SEL_HOLD
  ⟨0x05, (.octet 8), .ro, false, 0, 0, 0, .none, false⟩]  -- PTP_GM_IDENTITY

/-- The objects at 0x3010 to 0x3011 (R243). -/
def objs3010 : List ObjRow := [
  ⟨0x01, .bool, .rw, true, 0, 0, 1, .live, false⟩,  -- PTP_ENABLE
  ⟨0x02, .u8, .rw, true, 0, 0, 2, .quiescent, false⟩,  -- PTP_TRANSPORT
  ⟨0x03, .u8, .rw, true, 0, 0, 127, .quiescent, false⟩,  -- PTP_DOMAIN
  ⟨0x04, .bool, .rw, true, 1, 0, 1, .quiescent, false⟩,  -- PTP_TWO_STEP
  ⟨0x05, .u8, .rw, true, 0, 0, 1, .quiescent, false⟩,  -- PTP_L2_ADDRESS
  ⟨0x06, .u8, .rw, true, 128, 1, 255, .live, false⟩,  -- PTP_LOCAL_PRIORITY
  ⟨0x07, .i32, .rw, true, 0, (-2147483648), 2147483647, .live, false⟩,  -- PTP_ASYMMETRY
  ⟨0x08, .u8, .ro, false, 3, 0, 255, .none, false⟩,  -- PTP_PORT_STATE
  ⟨0x09, (.octet 18), .ro, false, 0, 0, 0, .none, false⟩,  -- PTP_MASTER_DS
  ⟨0x0A, .i64, .ro, false, 0, (-9223372036854775808), 9223372036854775807, .none, false⟩,  -- PTP_OFFSET
  ⟨0x0B, .i64, .ro, false, 0, (-9223372036854775808), 9223372036854775807, .none, false⟩]  -- PTP_MEAN_PATH_DELAY

/-- The objects at 0x3100 (R280). -/
def objs3100 : List ObjRow := [
  ⟨0x01, .u64, .ro, false, 0, 0, 18446744073709551615, .none, false⟩,  -- AUDIT_SEQ_NEXT
  ⟨0x02, .u32, .ro, true, 0, 0, 4294967295, .none, false⟩,  -- AUDIT_EPOCH
  ⟨0x03, .u64, .ro, false, 0, 0, 18446744073709551615, .none, false⟩,  -- AUDIT_RELEASED
  ⟨0x04, .u64, .wo, false, 0, 0, 18446744073709551615, .live, false⟩,  -- AUDIT_EXPORT_ACK
  ⟨0x05, .domain, .ro, false, 0, 0, 0, .none, false⟩,  -- AUDIT_EXPORT
  ⟨0x06, .u64, .rw, false, 0, 0, 18446744073709551615, .live, false⟩,  -- AUDIT_READ_FROM
  ⟨0x07, .u8, .rw, true, 0, 0, 1, .live, false⟩,  -- AUDIT_FULL_POLICY
  ⟨0x08, .u32, .rw, true, 1048576, 65536, 16777216, .live, false⟩,  -- AUDIT_RESERVE
  ⟨0x09, .u32, .ro, false, 0, 0, 4294967295, .none, false⟩,  -- AUDIT_RING_USED
  ⟨0x0A, .u16, .ro, false, 0, 0, 65535, .none, false⟩,  -- AUDIT_BUFFERED
  ⟨0x0B, .u64, .ro, true, 0, 0, 18446744073709551615, .none, false⟩,  -- AUDIT_LOST
  ⟨0x0C, .u32, .ro, false, 0, 0, 4294967295, .none, false⟩,  -- AUDIT_CHECK_FAILS
  ⟨0x0D, (.octet 32), .ro, false, 0, 0, 0, .none, false⟩,  -- AUDIT_PUBLIC_KEY
  ⟨0x0E, (.octet 8), .ro, false, 0, 0, 0, .none, false⟩,  -- AUDIT_KEY_ID
  ⟨0x0F, .u8, .ro, false, 0, 0, 255, .none, false⟩,  -- AUDIT_STATE
  ⟨0x10, .domain, .ro, false, 0, 0, 0, .none, false⟩,  -- AUDIT_LAST_CHECKPOINT
  ⟨0x11, .u8, .ro, false, 0, 0, 255, .none, false⟩]  -- AUDIT_CONDITIONS

/-- The objects at 0x3200 (R327). -/
def objs3200 : List ObjRow := [
  ⟨0x01, .domain, .wo, false, 0, 0, 0, .live, false⟩,  -- CAL_RUN
  ⟨0x02, .bool, .wo, false, 0, 0, 1, .live, false⟩,  -- CAL_ABORT
  ⟨0x03, .u8, .ro, false, 0, 0, 255, .none, false⟩,  -- CAL_STATE
  ⟨0x04, .u8, .ro, false, 0, 0, 255, .none, false⟩,  -- CAL_ACTIVE_TYPE
  ⟨0x05, .u32, .ro, false, 0, 0, 4294967295, .none, false⟩,  -- CAL_STEP
  ⟨0x06, .u32, .ro, false, 0, 0, 4294967295, .none, false⟩,  -- CAL_STEPS
  ⟨0x07, .u8, .wo, false, 0, 1, 8, .quiescent, false⟩]  -- CAL_USER_CLEAR

/-- The objects at 0x3210 to 0x3219 (R327). -/
def objs3210 : List ObjRow := [
  ⟨0x01, .u32, .ro, true, 0, 0, 4294967295, .none, false⟩,  -- CAL_RUNS
  ⟨0x02, .u32, .ro, true, 0, 0, 4294967295, .none, false⟩,  -- CAL_SUCCESSES
  ⟨0x03, .time96, .ro, true, 0, 0, 0, .none, false⟩,  -- CAL_LAST_TIME
  ⟨0x04, .u8, .ro, true, 0, 0, 255, .none, false⟩,  -- CAL_LAST_RESULT
  ⟨0x05, .u8, .ro, true, 0, 0, 255, .none, false⟩,  -- CAL_LAST_REASON
  ⟨0x06, .u32, .ro, false, 0, 0, 4294967295, .none, false⟩,  -- CAL_FACTORY_SEQ
  ⟨0x07, .u32, .ro, false, 0, 0, 4294967295, .none, false⟩,  -- CAL_USER_SEQ
  ⟨0x08, .u8, .ro, false, 255, 0, 255, .none, false⟩,  -- CAL_USER_SLOT
  ⟨0x09, .u8, .ro, false, 0, 0, 255, .none, false⟩]  -- CAL_STATUS

/-- The objects at 0x3400 (R308). -/
def objs3400 : List ObjRow := [
  ⟨0x01, .u8, .ro, false, 0, 0, 255, .none, false⟩,  -- KPR_STATE
  ⟨0x02, .u8, .ro, false, 255, 0, 255, .none, false⟩,  -- KPR_ACTIVE
  ⟨0x03, .u8, .const, false, 0, 0, 255, .none, false⟩,  -- KPR_MAIN
  ⟨0x04, .u32, .rw, true, 10, 1, 3600, .live, false⟩,  -- KPR_REVERT_HOLDOFF
  ⟨0x05, .bool, .rw, true, 1, 0, 1, .live, false⟩,  -- KPR_AUTO_RESTART
  ⟨0x06, .u32, .rw, true, 262143, 65536, 1048575, .live, false⟩,  -- KPR_STEP_T
  ⟨0x07, .u32, .rw, true, 131071, 16384, 1048575, .live, false⟩,  -- KPR_STEP_H
  ⟨0x08, .u16, .rw, true, 1311, 328, 6554, .live, false⟩,  -- KPR_FAILSTATIC_DRIFT
  ⟨0x09, .bool, .wo, false, 0, 0, 1, .live, false⟩,  -- KPR_SWAP
  ⟨0x0A, .u8, .wo, false, 0, 0, 1, .live, false⟩,  -- KPR_RESTART
  ⟨0x0B, .u8, .wo, false, 0, 0, 1, .live, false⟩,  -- KPR_REMOVE
  ⟨0x0C, .u32, .ro, false, 0, 0, 4294967295, .none, false⟩,  -- KPR_FAILOVER_COUNT
  ⟨0x0D, .time96, .ro, false, 0, 0, 0, .none, false⟩,  -- KPR_LAST_FAILOVER
  ⟨0x0E, .u32, .ro, false, 0, 0, 4294967295, .none, false⟩,  -- KPR_LAST_INTERRUPT_NS
  ⟨0x0F, .u32, .ro, false, 0, 0, 4294967295, .none, false⟩,  -- KPR_MISMATCH_COUNT
  ⟨0x10, .u32, .ro, false, 0, 0, 4294967295, .none, false⟩,  -- KPR_HELD_CODES
  ⟨0x11, .u32, .ro, false, 0, 0, 4294967295, .none, false⟩,  -- KPR_LOST_COUNT
  ⟨0x12, .time96, .ro, false, 0, 0, 0, .none, false⟩,  -- KPR_REVERT_AT
  ⟨0x13, .domain, .ro, false, 0, 0, 0, .none, false⟩]  -- KPR_HISTORY

/-- The objects at 0x3410 to 0x3411 (R308). -/
def objs3410 : List ObjRow := [
  ⟨0x01, .u8, .ro, false, 0, 0, 255, .none, false⟩,  -- ANVIL_STATE
  ⟨0x02, .u8, .ro, false, 0, 0, 255, .none, false⟩,  -- ANVIL_LAST_CAUSE
  ⟨0x03, .time96, .ro, false, 0, 0, 0, .none, false⟩,  -- ANVIL_FAIL_TIME
  ⟨0x04, .u8, .ro, false, 0, 0, 255, .none, false⟩,  -- ANVIL_FAIL_COUNT
  ⟨0x05, .u32, .ro, false, 0, 0, 4294967295, .none, false⟩,  -- ANVIL_RESYNC_NS
  ⟨0x06, .time96, .ro, false, 0, 0, 0, .none, false⟩]  -- ANVIL_STANDBY_SINCE

/-- The objects at 0x3500 (R429). -/
def objs3500 : List ObjRow := [
  ⟨0x01, .u32, .rw, true, 1000, 100, 1000000, .live, false⟩,  -- QSAMPLE_PERIOD
  ⟨0x02, .u16, .ro, false, 4096, 0, 65535, .none, false⟩,  -- POOL_FREE
  ⟨0x03, .u16, .rw, true, 256, 0, 4096, .live, false⟩,  -- POOL_LOW_WATER
  ⟨0x04, .u32, .ro, false, 0, 0, 4294967295, .none, false⟩]  -- POLICED_TOTAL

/-- The objects at 0x3510 to 0x352F (R429). -/
def objs3510 : List ObjRow := [
  ⟨0x01, .u32, .rw, true, 100000, 1, 1000000, .live, false⟩,  -- REQ_RATE
  ⟨0x02, .u16, .rw, true, 1024, 1, 65535, .live, false⟩,  -- REQ_BURST
  ⟨0x03, .u32, .rw, true, 5000000, 1, 100000000, .live, false⟩,  -- MOVE_RATE
  ⟨0x04, .u32, .rw, true, 21504, 21, 1048576, .live, false⟩,  -- MOVE_BURST
  ⟨0x05, .u32, .rw, true, 0, 0, 1000000, .live, false⟩,  -- SHAPE_RATE
  ⟨0x06, .u8, .rw, true, 16, 1, 255, .live, false⟩,  -- WEIGHT_CTRL
  ⟨0x07, .u8, .rw, true, 16, 1, 255, .live, false⟩,  -- WEIGHT_QUERY
  ⟨0x08, .u16, .rw, true, 256, 2, 4096, .live, false⟩,  -- QUOTA
  ⟨0x09, .u16, .ro, false, 0, 0, 65535, .none, false⟩,  -- BUFFERS_HELD
  ⟨0x0A, .u32, .ro, false, 0, 0, 4294967295, .none, false⟩,  -- POLICED_COUNT
  ⟨0x0B, .u32, .ro, false, 0, 0, 4294967295, .none, false⟩,  -- QUOTA_DROPS
  ⟨0x0C, .domain, .ro, false, 0, 0, 0, .none, false⟩,  -- QSTATS
  ⟨0x0D, .u32, .ro, false, 0, 0, 4294967295, .none, false⟩]  -- EVT_DROPS

/-- The objects at 0x3530 (R444). -/
def objs3530 : List ObjRow := [
  ⟨0x01, .domain, .rw, true, 0, 0, 0, .live, false⟩,  -- EVT_MAP
  ⟨0x02, .u64, .ro, false, 0, 0, 18446744073709551615, .none, false⟩,  -- EVT_SEQ_LAST
  ⟨0x03, .u64, .ro, false, 0, 0, 18446744073709551615, .none, false⟩]  -- EVT_HISTORY_OLDEST

/-- The objects at 0x3540 to 0x3541 (R435). -/
def objs3540 : List ObjRow := [
  ⟨0x01, .bool, .rw, true, 0, 0, 1, .live, false⟩,  -- GATE_ENABLE
  ⟨0x02, .time96, .rw, true, 0, 0, 0, .shadowed, false⟩,  -- GATE_BASE
  ⟨0x03, .domain, .rw, true, 0, 0, 0, .shadowed, false⟩,  -- GATE_LIST
  ⟨0x04, .u8, .wo, false, 0, 0, 1, .live, false⟩,  -- GATE_COMMIT
  ⟨0x05, .u8, .ro, false, 0, 0, 255, .none, false⟩,  -- GATE_REJECT
  ⟨0x06, .time96, .ro, false, 0, 0, 0, .none, false⟩,  -- GATE_CHANGE_AT
  ⟨0x07, .u8, .ro, false, 0, 0, 255, .none, false⟩,  -- GATE_ENTRY_NOW
  ⟨0x08, .u32, .ro, false, 0, 0, 4294967295, .none, false⟩,  -- GATE_WAITS
  ⟨0x09, .u32, .ro, false, 0, 0, 4294967295, .none, false⟩,  -- GATE_OVERSIZE_DROPS
  ⟨0x0A, .time96, .ro, false, 0, 0, 0, .none, false⟩,  -- GATE_BASE_SHADOW
  ⟨0x0B, .domain, .ro, false, 0, 0, 0, .none, false⟩]  -- GATE_LIST_SHADOW

/-- The objects at 0x4000 to 0x47FF (R185, R45). -/
def objs4000 : List ObjRow := [
  ⟨0x01, .u8, .const, false, 0, 0, 255, .none, false⟩,  -- PORT_SIDE
  ⟨0x02, .u16, .const, false, 0, 0, 65535, .none, false⟩,  -- PORT_NUMBER
  ⟨0x03, .u8, .const, false, 0, 0, 255, .none, false⟩,  -- CONNECTOR
  ⟨0x04, .u8, .const, false, 0, 0, 255, .none, false⟩,  -- FIBRE
  ⟨0x05, .u32, .const, false, 0, 0, 4294967295, .none, false⟩,  -- DELAY_1550
  ⟨0x06, .u32, .const, false, 0, 0, 4294967295, .none, false⟩,  -- DELAY_1310
  ⟨0x07, .u8, .ro, false, 0, 0, 255, .none, false⟩,  -- PORT_ROLE
  ⟨0x10, .i16, .rw, true, 59136, (-7680), 0, .live, false⟩,  -- THRESH_IN
  ⟨0x11, .i16, .rw, true, 59136, (-7680), 0, .live, false⟩,  -- THRESH_OUT
  ⟨0x12, .i16, .ro, false, 55296, (-32768), 32767, .none, false⟩,  -- POWER_IN
  ⟨0x13, .i16, .ro, false, 55296, (-32768), 32767, .none, false⟩,  -- POWER_OUT
  ⟨0x14, .u8, .ro, false, 0, 0, 255, .none, false⟩,  -- LIGHT
  ⟨0x15, .u8, .rw, true, 0, 0, 1, .live, false⟩,  -- ATTEN_MODE
  ⟨0x16, .u16, .rw, true, 0, 0, 6400, .live, false⟩,  -- ATTEN_SET
  ⟨0x17, .i16, .rw, true, 64768, (-7680), 5120, .live, false⟩,  -- EQ_TARGET
  ⟨0x18, .u16, .ro, false, 0, 0, 65535, .none, false⟩,  -- ATTEN_NOW
  ⟨0x19, .u8, .ro, false, 0, 0, 255, .none, false⟩,  -- PORT_FLAGS
  ⟨0x1A, .u16, .const, false, 0, 0, 65535, .none, false⟩,  -- PIGTAIL_LOSS
  ⟨0x1B, .u32, .ro, false, 0, 0, 4294967295, .none, false⟩]  -- LIGHT_EVENTS

/-- The objects at 0x5000 to 0x503F (R157). -/
def objs5000 : List ObjRow := [
  ⟨0x01, .f32, .rw, true, 0, 4286578687, 2139095039, .live, true⟩,  -- KP_T
  ⟨0x02, .f32, .rw, true, 0, 4286578687, 2139095039, .live, true⟩,  -- KI_T
  ⟨0x03, .f32, .rw, true, 0, 4286578687, 2139095039, .live, true⟩,  -- KD_T
  ⟨0x04, .f32, .rw, true, 0, 4286578687, 2139095039, .live, true⟩,  -- KV_T
  ⟨0x05, .f32, .rw, true, 0, 4286578687, 2139095039, .live, true⟩,  -- KA_T
  ⟨0x06, .f32, .rw, true, 0, 4286578687, 2139095039, .live, true⟩,  -- KP_H
  ⟨0x07, .f32, .rw, true, 0, 4286578687, 2139095039, .live, true⟩,  -- KI_H
  ⟨0x08, .f32, .rw, true, 0, 4286578687, 2139095039, .live, true⟩,  -- KD_H
  ⟨0x09, .f32, .rw, true, 0, 4286578687, 2139095039, .live, true⟩,  -- KV_H
  ⟨0x0A, .f32, .rw, true, 0, 4286578687, 2139095039, .live, true⟩,  -- KA_H
  ⟨0x0B, .f32, .rw, true, 0, 4286578687, 2139095039, .live, true⟩,  -- I_LIM
  ⟨0x0C, .u16, .rw, true, 0, 0, 65535, .quiescent, true⟩,  -- TRAVEL_MIN
  ⟨0x0D, .u16, .rw, true, 0, 0, 65535, .quiescent, true⟩,  -- TRAVEL_MAX
  ⟨0x0E, .f32, .rw, true, 0, 4286578687, 2139095039, .live, true⟩,  -- VMAX_T
  ⟨0x0F, .f32, .rw, true, 0, 4286578687, 2139095039, .live, true⟩,  -- AMAX_T
  ⟨0x10, .f32, .rw, true, 0, 4286578687, 2139095039, .live, true⟩,  -- JMAX_T
  ⟨0x11, .f32, .rw, true, 0, 4286578687, 2139095039, .live, true⟩,  -- VMAX_H
  ⟨0x12, .f32, .rw, true, 0, 4286578687, 2139095039, .live, true⟩,  -- AMAX_H
  ⟨0x13, .f32, .rw, true, 0, 4286578687, 2139095039, .live, true⟩,  -- JMAX_H
  ⟨0x14, .u32, .rw, true, 0, 0, 1048575, .live, true⟩,  -- DRIVE_MAX
  ⟨0x15, .u16, .rw, true, 0, 1, 4096, .live, true⟩,  -- SETTLE_WIN
  ⟨0x16, .u8, .rw, true, 0, 1, 8, .live, true⟩,  -- SETTLE_COUNT
  ⟨0x17, .u16, .rw, true, 0, 0, 65535, .live, true⟩,  -- ERR_LIMIT
  ⟨0x18, .u8, .rw, true, 0, 1, 255, .live, true⟩,  -- ERR_PERIODS
  ⟨0x19, .u8, .rw, true, 0, 1, 255, .live, true⟩,  -- SAT_PERIODS
  ⟨0x1A, .u8, .rw, true, 0, 0, 1, .live, true⟩,  -- SHAPING
  ⟨0x1B, .f32, .rw, true, 0, 1056964608, 1112014848, .live, true⟩,  -- NOTCH_Q
  ⟨0x1C, .u16, .ro, false, 0, 0, 65535, .none, false⟩]  -- PROF_USERS

/-- The objects at 0x5080 (R159). -/
def objs5080 : List ObjRow := [
  ⟨0x01, .bool, .ro, false, 0, 0, 1, .none, false⟩,  -- LOOPS_STARTED
  ⟨0x02, .u16, .ro, false, 0, 0, 65535, .none, false⟩,  -- LOOP_COUNT_TRANSIT
  ⟨0x03, .u16, .ro, false, 0, 0, 65535, .none, false⟩,  -- LOOP_COUNT_FAULTED
  ⟨0x04, .u16, .ro, false, 0, 0, 65535, .none, false⟩,  -- LOOP_TABLE_STALE
  ⟨0x05, .u16, .ro, false, 0, 0, 65535, .none, false⟩,  -- LOOP_FALLBACK_ELEMENTS
  ⟨0x06, .u32, .ro, false, 0, 0, 4294967295, .none, false⟩]  -- LATE_COMPARE_SKIPS

/-- The objects at 0x5090 to 0x5091 (R159). -/
def objs5090 : List ObjRow := [
  ⟨0x01, .domain, .ro, false, 0, 0, 0, .none, false⟩,  -- LANE_TABLE
  ⟨0x02, .u8, .ro, false, 4, 0, 255, .none, false⟩,  -- LANE_SPARES_T
  ⟨0x03, .u8, .ro, false, 2, 0, 255, .none, false⟩,  -- LANE_SPARES_H
  ⟨0x04, .u8, .ro, false, 6, 0, 255, .none, false⟩]  -- LANE_HOLD_WORKING

/-- The objects at 0x5200 (R184). -/
def objs5200 : List ObjRow := [
  ⟨0x01, .bool, .rw, true, 1, 0, 1, .live, false⟩,  -- TRIM_ENABLE
  ⟨0x02, .u16, .rw, true, 131, 33, 328, .live, false⟩,  -- DITHER_AMPL
  ⟨0x03, .f32, .rw, true, 1157234688, 0, 1184645120, .live, false⟩,  -- TRIM_GAIN
  ⟨0x04, .f32, .rw, true, 973279855, 0, 1028443341, .live, false⟩,  -- TRIM_DEADBAND
  ⟨0x05, .u16, .rw, true, 66, 1, 328, .live, false⟩,  -- TRIM_STEP_MAX
  ⟨0x06, .u16, .rw, true, 1311, 0, 6554, .live, false⟩,  -- TRIM_RANGE
  ⟨0x07, .f32, .rw, true, 1061158912, 0, 1065353216, .live, false⟩,  -- SPLIT_GAIN
  ⟨0x08, .f32, .rw, true, 981668463, 0, 1028443341, .live, false⟩,  -- SPLIT_DEADBAND
  ⟨0x09, .u16, .rw, true, 328, 1, 1311, .live, false⟩,  -- SPLIT_STEP_MAX
  ⟨0x0A, .u16, .rw, true, 3277, 0, 13107, .live, false⟩,  -- SPLIT_RANGE
  ⟨0x0B, .f32, .rw, true, 1028443341, 1000593162, 1056964608, .live, false⟩,  -- SPLIT_ALARM
  ⟨0x0C, .f32, .rw, true, 1056964608, 0, 1065353216, .live, false⟩,  -- EQ_GAIN
  ⟨0x0D, .u16, .rw, true, 64, 1, 512, .live, false⟩,  -- EQ_STEP_MAX
  ⟨0x0E, .u16, .rw, true, 128, 16, 2560, .live, false⟩,  -- LOSS_DRIFT_LIMIT
  ⟨0x0F, .u16, .ro, false, 0, 0, 65535, .none, false⟩,  -- TRIM_LEGS
  ⟨0x10, .u16, .ro, false, 0, 0, 65535, .none, false⟩,  -- TRIM_SUSPENDED_LEGS
  ⟨0x11, (.octet 16), .ro, false, 0, 0, 0, .none, false⟩,  -- BUOY_SLOW_MASK
  ⟨0x12, .u32, .ro, false, 0, 0, 4294967295, .none, false⟩]  -- TRIM_WINDOWS_DISCARDED

/-- The objects at 0x5300 (R220). -/
def objs5300 : List ObjRow := [
  ⟨0x01, .u8, .ro, false, 0, 0, 255, .none, false⟩,  -- LADDER_STATE
  ⟨0x02, (.octet 16), .ro, false, 0, 0, 0, .none, false⟩,  -- LADDER_SELECTION
  ⟨0x03, .domain, .ro, false, 0, 0, 0, .none, false⟩,  -- LADDER_LEVELS
  ⟨0x04, .u8, .ro, false, 8, 0, 255, .none, false⟩,  -- LADDER_SPARES
  ⟨0x05, .bool, .ro, false, 0, 0, 1, .none, false⟩,  -- FABRIC_CLEAR_STATE
  ⟨0x06, .u32, .ro, false, 0, 0, 4294967295, .none, false⟩,  -- FABRIC_CLEAR_COUNT
  ⟨0x07, .time96, .ro, false, 0, 0, 0, .none, false⟩,  -- FABRIC_CLEAR_LAST
  ⟨0x08, .u16, .ro, false, 0, 0, 65535, .none, false⟩,  -- CHAN_FAULTED
  ⟨0x09, .u32, .ro, false, 0, 0, 4294967295, .none, false⟩]  -- READBACK_MISMATCHES

/-- The objects at 0x5400 (R221). -/
def objs5400 : List ObjRow := [
  ⟨0x01, .domain, .rw, true, 0, 0, 0, .shadowed, false⟩,  -- CLEAR_TABLE
  ⟨0x02, .domain, .rw, true, 0, 0, 0, .shadowed, false⟩,  -- CLEAR_AUX
  ⟨0x03, .u8, .wo, false, 0, 0, 1, .live, false⟩,  -- CLEAR_COMMIT
  ⟨0x04, .domain, .ro, false, 0, 0, 0, .none, false⟩,  -- CLEAR_TABLE_SHADOW
  ⟨0x05, .domain, .ro, false, 0, 0, 0, .none, false⟩,  -- CLEAR_AUX_SHADOW
  ⟨0x06, .u16, .ro, false, 0, 0, 65535, .none, false⟩,  -- CLEAR_NONZERO
  ⟨0x07, .u32, .ro, false, 4294967295, 0, 4294967295, .none, false⟩]  -- CLEAR_REJECT

/-- The objects at 0x5500 to 0x550F (R222). -/
def objs5500 : List ObjRow := [
  ⟨0x01, .u8, .rw, true, 0, 0, 255, .live, false⟩,  -- AUX_CONFIG
  ⟨0x02, .u32, .rw, false, 0, 0, 1048575, .live, false⟩,  -- AUX_VALUE
  ⟨0x03, .u32, .rw, true, 0, 0, 4294967295, .live, false⟩,  -- AUX_SLEW
  ⟨0x04, .u8, .ro, false, 0, 0, 255, .none, false⟩,  -- AUX_STATE
  ⟨0x05, .u8, .ro, false, 0, 0, 255, .none, false⟩,  -- AUX_FLAGS
  ⟨0x06, .u16, .ro, false, 0, 0, 65535, .none, false⟩,  -- AUX_READBACK
  ⟨0x07, .u32, .ro, false, 0, 0, 4294967295, .none, false⟩]  -- AUX_OUTPUT_NOW

/-- The objects at 0x8000 to 0xADFF (R156, R219, R339). -/
def objs8000 : List ObjRow := [
  ⟨0x01, .u8, .const, false, 0, 0, 255, .none, false⟩,  -- ELEM_KIND
  ⟨0x02, .u8, .const, false, 0, 0, 255, .none, false⟩,  -- ELEM_STAGE
  ⟨0x03, .u16, .const, false, 0, 0, 65535, .none, false⟩,  -- ELEM_POSITION
  ⟨0x04, .u8, .rw, false, 0, 0, 5, .live, false⟩,  -- ELEM_MODE
  ⟨0x05, .u8, .rw, true, 0, 0, 63, .live, true⟩,  -- ELEM_PROFILE
  ⟨0x06, .u16, .ro, false, 65535, 0, 65535, .none, false⟩,  -- ELEM_NOTCH
  ⟨0x07, .u16, .ro, false, 0, 0, 65535, .none, false⟩,  -- ELEM_TARGET
  ⟨0x08, .u16, .rw, false, 0, 0, 65535, .live, false⟩,  -- ELEM_TARGET_SET
  ⟨0x09, .u32, .rw, false, 0, 0, 1048575, .live, false⟩,  -- ELEM_MANUAL_CODE
  ⟨0x0A, .u16, .ro, false, 0, 0, 65535, .none, false⟩,  -- ELEM_TRAVEL
  ⟨0x0B, .i32, .ro, false, 0, (-2147483648), 2147483647, .none, false⟩,  -- ELEM_ERROR
  ⟨0x0C, .u32, .ro, false, 0, 0, 4294967295, .none, false⟩,  -- ELEM_DRIVE_CODE
  ⟨0x0D, .u16, .ro, false, 0, 0, 65535, .none, false⟩,  -- ELEM_STATUS
  ⟨0x0E, .u16, .ro, false, 0, 0, 65535, .none, false⟩,  -- ELEM_FAULT_CAUSE
  ⟨0x0F, .bool, .wo, false, 0, 0, 1, .live, false⟩,  -- ELEM_FAULT_CLEAR
  ⟨0x10, .time96, .ro, false, 0, 0, 0, .none, false⟩,  -- ELEM_LAST_SETTLE
  ⟨0x11, .u16, .ro, false, 0, 0, 65535, .none, false⟩,  -- ELEM_LAST_SETTLE_TARGET
  ⟨0x12, .u32, .ro, false, 0, 0, 4294967295, .none, false⟩,  -- ELEM_LATE_COUNT
  ⟨0x13, .u32, .ro, false, 0, 0, 4294967295, .none, false⟩,  -- ELEM_MOVE_COUNT
  ⟨0x14, .u32, .ro, false, 0, 0, 4294967295, .none, false⟩,  -- ELEM_FAULT_COUNT
  ⟨0x15, .u8, .ro, false, 0, 0, 255, .none, false⟩,  -- ELEM_TRANSIT_LANE
  ⟨0x16, .u8, .ro, false, 0, 0, 255, .none, false⟩,  -- ELEM_HOLD_LANE
  ⟨0x20, .u16, .ro, true, 0, 0, 65535, .none, true⟩,  -- ELEM_BAR_TRAVEL
  ⟨0x21, .u16, .ro, true, 0, 0, 65535, .none, true⟩,  -- ELEM_CROSS_TRAVEL
  ⟨0x22, .domain, .ro, true, 0, 0, 0, .none, true⟩,  -- ELEM_ETA_MAP
  ⟨0x23, .domain, .ro, true, 0, 0, 0, .none, true⟩,  -- ELEM_RES_MAP
  ⟨0x24, .f32, .ro, true, 0, 4286578687, 2139095039, .none, true⟩,  -- ELEM_ZETA
  ⟨0x25, .u8, .ro, true, 0, 0, 255, .none, true⟩,  -- ELEM_NOTCH_NEED
  ⟨0x28, .domain, .ro, true, 0, 0, 0, .none, true⟩,  -- ELEM_FORCE_TABLE
  ⟨0x29, .domain, .ro, true, 0, 0, 0, .none, true⟩,  -- ELEM_HYST_TABLE
  ⟨0x30, .u8, .rw, true, 0, 0, 1, .quiescent, false⟩,  -- CHAN_SPAN
  ⟨0x31, .u32, .const, false, 0, 0, 4294967295, .none, false⟩,  -- CHAN_CLEAR_LIMIT
  ⟨0x32, .u8, .ro, false, 0, 0, 255, .none, false⟩,  -- CHAN_FAULT_CAUSE
  ⟨0x33, .u16, .ro, false, 0, 0, 65535, .none, false⟩,  -- CHAN_READBACK_V
  ⟨0x34, .u16, .ro, false, 0, 0, 65535, .none, false⟩,  -- CHAN_READBACK_EXP
  ⟨0x35, .time96, .ro, false, 0, 0, 0, .none, false⟩,  -- CHAN_READBACK_TIME
  ⟨0x36, .u32, .ro, false, 0, 0, 4294967295, .none, false⟩,  -- CHAN_READBACK_COUNT
  ⟨0x37, .u32, .ro, false, 0, 0, 4294967295, .none, false⟩,  -- CHAN_READBACK_DEFERRED
  ⟨0x38, .bool, .ro, false, 0, 0, 1, .none, false⟩,  -- CHAN_READBACK_PENDING
  ⟨0x39, .u16, .ro, false, 0, 0, 65535, .none, false⟩,  -- CHAN_CARRIER_AMPL
  ⟨0x3A, .u32, .ro, false, 0, 0, 4294967295, .none, false⟩,  -- CHAN_CLEAR_CODE
  ⟨0x3B, .domain, .ro, true, 0, 0, 0, .none, true⟩,  -- CHAN_CAP_MAP
  ⟨0x2A, .domain, .const, false, 0, 0, 0, .none, false⟩,  -- ELEM_TEMP_COEF
  ⟨0x2B, .i16, .ro, false, 0, (-32768), 32767, .none, false⟩]  -- ELEM_TEMP_IN_USE

/-- The objects at 0x5100 to 0x52FF (R158). -/
def objs5100 : List ObjRow := [
  ⟨0x01, .u16, .ro, false, 65535, 0, 65535, .none, false⟩,  -- NOTCH_OWNER
  ⟨0x02, .u8, .ro, false, 0, 0, 255, .none, false⟩,  -- NOTCH_USE
  ⟨0x03, .f32, .ro, false, 0, 4286578687, 2139095039, .none, false⟩,  -- NOTCH_FREQ
  ⟨0x04, .domain, .ro, false, 0, 0, 0, .none, false⟩,  -- NOTCH_COEF_T
  ⟨0x05, .domain, .ro, false, 0, 0, 0, .none, false⟩]  -- NOTCH_COEF_H

/-- The re-delivery objects (R416). -/
def objs1E00 : List ObjRow := [
  ⟨0x01, .domain, .wo, false, 0, 0, 0, .live, false⟩,  -- EVENT_REDELIVER
  ⟨0x02, .domain, .ro, false, 0, 0, 0, .none, false⟩]  -- EVENT_REDELIVER_RESULT

/-- The SUMMARY object (R414). -/
def objs1F00 : List ObjRow := [
  ⟨0x01, .domain, .ro, false, 0, 0, 0, .none, false⟩]  -- SUMMARY

/-- Every index that holds objects, the first match deciding: the trim settings stand before the
notch slots, whose slot 256 shares their index (log 16). -/
def objTable : List ObjGroup := [
  ⟨0x1000, 1, objs1000⟩,
  ⟨0x1100, 1, objs1100⟩,
  ⟨0x1200, 1, objs1200⟩,
  ⟨0x1300, 1, objs1300⟩,
  ⟨0x1400, 1, objs1400⟩,
  ⟨0x1500, 32, objs1500⟩,
  ⟨0x1600, 1, objs1600⟩,
  ⟨0x1800, 1, objs1800⟩,
  ⟨0x1810, 1, objs1810⟩,
  ⟨0x1820, 1, objs1820⟩,
  ⟨0x2000, 1, objs2000⟩,
  ⟨0x2001, 1, objs2001⟩,
  ⟨0x2100, 1, objs2100⟩,
  ⟨0x2200, 1, objs2200⟩,
  ⟨0x2400, 64, objs2400⟩,
  ⟨0x2800, 2048, objs2800⟩,
  ⟨0x3000, 1, objs3000⟩,
  ⟨0x3010, 2, objs3010⟩,
  ⟨0x3100, 1, objs3100⟩,
  ⟨0x3200, 1, objs3200⟩,
  ⟨0x3211, 9, objs3210⟩,
  ⟨0x3400, 1, objs3400⟩,
  ⟨0x3410, 2, objs3410⟩,
  ⟨0x3500, 1, objs3500⟩,
  ⟨0x3510, 32, objs3510⟩,
  ⟨0x3530, 1, objs3530⟩,
  ⟨0x3540, 2, objs3540⟩,
  ⟨0x4000, 2048, objs4000⟩,
  ⟨0x5000, 64, objs5000⟩,
  ⟨0x5080, 1, objs5080⟩,
  ⟨0x5090, 2, objs5090⟩,
  ⟨0x5200, 1, objs5200⟩,
  ⟨0x5300, 1, objs5300⟩,
  ⟨0x5400, 1, objs5400⟩,
  ⟨0x5500, 16, objs5500⟩,
  ⟨0x8000, 11776, objs8000⟩,
  ⟨0x5100, 512, objs5100⟩,
  ⟨0x1E00, 1, objs1E00⟩,
  ⟨0x1F00, 1, objs1F00⟩]
/-- The group that holds an index. -/
def findGroup (ix : Nat) : List ObjGroup → Option ObjGroup
  | [] => none
  | g :: rest => if g.first ≤ ix ∧ ix < g.first + g.count then some g else findGroup ix rest

/-- The row of a sub-index. -/
def findRow (sub : Nat) : List ObjRow → Option ObjRow
  | [] => none
  | r :: rest => if r.sub = sub then some r else findRow sub rest

/-- The row of an index:sub; none where no object exists (R19, R411). -/
def objRow (ix sub : Nat) : Option ObjRow :=
  match findGroup ix objTable with
  | none => none
  | some g => findRow sub g.rows

/-- The highest sub-index defined at an index (R409). -/
def highestSub (ix : Nat) : Option Nat :=
  match findGroup ix objTable with
  | none => none
  | some g => some (g.rows.foldl (fun m r => max m r.sub) 0)

/-- The key of an index:sub in the tables of settings. -/
def objKey (ix sub : Nat) : Nat := ix * 256 + sub

/-- A row's default at an index: the table's, or the factory layer's, brought into the row's range, a
gain or limit to a positive number. Fabric elements reference profile 0 and port elements profile 1
(R157). -/
def rowDefault (r : ObjRow) (ix : Nat) : Nat :=
  if !r.factory then r.dflt
  else if r.sub = 5 ∧ 0x8000 ≤ ix then bit (decide (0xA600 ≤ ix))
  else if r.lo ≤ r.hi then
    (r.lo + ((Config.factoryObj (objKey ix r.sub) : Nat) : Int) % (r.hi - r.lo + 1)).toNat
  else 0x00800000 + Config.factoryObj (objKey ix r.sub) % 0x7E800000

/-- The default of an index:sub. -/
def objDefault (ix sub : Nat) : Nat :=
  match objRow ix sub with
  | none => 0
  | some r => rowDefault r ix

/-- The value in force of a scalar setting. -/
def State.obj (s : State) (ix sub : Nat) : Nat := mapGet s.objs (objKey ix sub) (objDefault ix sub)

/-- Set the value in force of a scalar setting. -/
def State.setObj (s : State) (ix sub v : Nat) : State :=
  { s with objs := mapSet s.objs (objKey ix sub) v (objDefault ix sub) }

/-- What the last write to a live scalar setting left, in force or waiting (R25). -/
def State.objLatest (s : State) (ix sub : Nat) : Nat :=
  s.live.foldl (fun v w => if !w.isReg ∧ w.key = objKey ix sub then w.value else v) (s.obj ix sub)

/-- A setting stands at 1 in force, or in a write that waits: a block that has started, or whose start has arrived,
counts as running (R22, R27). -/
def State.objOn (s : State) (ix sub : Nat) : Bool := decide (s.obj ix sub = 1) || decide (s.objLatest ix sub = 1)

/-- The signed value in force of an I16 setting. -/
def State.objI16 (s : State) (ix sub : Nat) : Int := bitsInt 16 (s.obj ix sub)

/-- The signed value in force of an I32 setting. -/
def State.objI32 (s : State) (ix sub : Nat) : Int := bitsInt 32 (s.obj ix sub)

/-- A stored setting of bytes (MGT_IPV4, MGT_IPV6, TLS_ANCHOR). -/
def State.blob (s : State) (ix sub : Nat) (d : List Byte) : List Byte := mapGet s.blobs (objKey ix sub) d

end Sys2Proof.Machine
end

