-- ==== Sys2Proof/Machine/RegMap.lean ====
section
/-!
DEFINITION. The writable registers of BAR0 (R257, R266, R310, R342, R350, R379, R380, R391, R393,
R443, R466): where each lies, which bits are settings and of which class, which start an action or
clear, and what they hold at reset. Read-only registers are computed from the state.
-/

namespace Sys2Proof.Machine

/-- One writable register, repeated `count` times at distance `stride`. Masks: `rw` the live and
quiescent settings, `quies` the quiescent ones among them, `shad` the shadowed fields, `act` the W1C
and W1S bits and write-only data. -/
structure RegRow where
  base : Nat
  stride : Nat
  count : Nat
  rw : Nat
  quies : Nat
  shad : Nat
  act : Nat
  block : Block
  deriving DecidableEq, Repr

/-- The time block's registers (R257). -/
def timeRegs : List RegRow := [
  ⟨0x30000C, 4, 1, 0, 0, 0, 0x80000000, .timeBlock⟩,      -- TIME_STATUS
  ⟨0x300010, 4, 1, 0x1F, 0x18, 0, 0x700, .timeBlock⟩,      -- TIME_CTRL
  ⟨0x300014, 4, 2, 0, 0, 0xFFFFFFFF, 0, .timeBlock⟩,       -- TIME_SET_SEC, TIME_SET_HI
  ⟨0x30001C, 4, 1, 0, 0, 0xFFFFFFFF, 0, .timeBlock⟩,       -- TIME_SET_NS
  ⟨0x300028, 4, 1, 0xFFFFFFFF, 0, 0, 0, .timeBlock⟩,       -- TIME_FREQ_SET
  ⟨0x300034, 4, 6, 0xFFFFFFFF, 0, 0, 0, .timeBlock⟩,       -- KP, KI, FREQ_LIMIT and the thresholds
  ⟨0x30004C, 4, 1, 0xFF, 0, 0, 0, .timeBlock⟩,             -- TIME_LOCK_COUNT
  ⟨0x300050, 4, 2, 0xFFFFFFFF, 0, 0, 0, .timeBlock⟩,       -- TIME_STEP_DEFER_MAX, TIME_PPS_DELAY
  ⟨0x300100, 0x20, 8, 7, 0, 0, 0, .timeBlock⟩,             -- TIME_CAP_CTRL
  ⟨0x300104, 0x20, 8, 0, 0, 0, 0x80, .timeBlock⟩,          -- TIME_CAP_STATUS
  ⟨0x300200, 0x20, 8, 0, 0, 7, 0x300, .timeBlock⟩,         -- BCN_CTRL
  ⟨0x300204, 0x20, 8, 0, 0, 0, 0x300, .timeBlock⟩,         -- BCN_STATUS
  ⟨0x300208, 0x20, 8, 0, 0, 0xFFFFFFFF, 0, .timeBlock⟩,    -- BCN_START_SEC
  ⟨0x30020C, 0x20, 8, 0, 0, 0xFFFF, 0, .timeBlock⟩,        -- BCN_START_HI
  ⟨0x300210, 0x20, 8, 0, 0, 0xFFFFFFFF, 0, .timeBlock⟩,    -- BCN_START_NS
  ⟨0x300214, 0x20, 8, 0, 0, 0xFFFFFFFF, 0, .timeBlock⟩,    -- BCN_PERIOD_LO
  ⟨0x300218, 0x20, 8, 0, 0, 0xFF, 0, .timeBlock⟩,          -- BCN_PERIOD_HI
  ⟨0x30021C, 0x20, 8, 0, 0, 0xFFFFFFFF, 0, .timeBlock⟩,    -- BCN_WIDTH
  ⟨0x300400, 0x10, 2, 0, 0, 0, 0x100, .timeBlock⟩]         -- PTP_TXQ_STATUS

/-- The Hallmark channels' registers (R266). -/
def hallmarkRegs : List RegRow := [
  ⟨0x380000, 0x20, 2, 0, 0, 0, 3, .hallmark⟩,              -- HM_CTRL
  ⟨0x380004, 0x20, 2, 0, 0, 0, 0x80000000, .hallmark⟩,     -- HM_STATUS
  ⟨0x380008, 0x20, 2, 0xFFFFFFFF, 0xFFFFFFFF, 0, 0, .hallmark⟩,  -- HM_CTX_LO
  ⟨0x38000C, 0x20, 2, 0xFFFFFFFF, 0xFFFFFFFF, 0, 0, .hallmark⟩,  -- HM_CTX_HI
  ⟨0x380010, 0x20, 2, 0, 0, 0, 0xFF, .hallmark⟩,           -- HM_DATA_B
  ⟨0x380014, 0x20, 2, 0, 0, 0, 0xFFFF, .hallmark⟩,         -- HM_DATA_H
  ⟨0x380018, 0x20, 2, 0, 0, 0, 0xFFFFFFFF, .hallmark⟩]     -- HM_DATA_W

/-- The Keeper's, thermal and converter registers (R310, R342, R350). -/
def hearthRegs : List RegRow := [
  ⟨0x340000, 4, 1, 0, 0, 0, 0x80004000, .keeper⟩,          -- KPR_STATUS
  ⟨0x360000, 4, 1, 0, 0, 0, 0x80000000, .thermal⟩,         -- THM_STATUS
  ⟨0x360004, 4, 1, 0xFF01, 0, 0, 2, .thermal⟩,             -- THM_CTRL
  ⟨0x360100, 0x20, 3, 1, 0, 0, 0, .thermal⟩,               -- THM_ZONE_CTRL
  ⟨0x360104, 0x20, 3, 0xFFFFFFFF, 0, 0, 0, .thermal⟩,      -- THM_ABS_A
  ⟨0x360108, 0x20, 3, 0xFFFF, 0, 0, 0, .thermal⟩,          -- THM_ABS_B
  ⟨0x36010C, 0x20, 3, 0xFFFFFFFF, 0, 0, 0, .thermal⟩,      -- THM_RATE
  ⟨0x360110, 0x20, 3, 0xFFFFFFFF, 0, 0, 0, .thermal⟩,      -- THM_FAN_T
  ⟨0x360200, 0x10, 4, 0xFFFFFF0F, 0, 0, 0, .thermal⟩,      -- THM_FAN_CTRL
  ⟨0x370000, 0x100, 2, 1, 0, 0, 4, .hkc⟩,                  -- HKC_CTRL
  ⟨0x370004, 0x100, 2, 0, 0, 0, 0x80000000, .hkc⟩,         -- HKC_STATUS
  ⟨0x370008, 0x100, 2, 0xFFFF0037, 0xFFFF0037, 0, 0, .hkc⟩,  -- HKC_TRIG
  ⟨0x37000C, 0x100, 2, 0xFFFFFFFF, 0xFFFFFFFF, 0, 0, .hkc⟩,  -- HKC_TIMER
  ⟨0x370010, 0x100, 2, 0x1F, 0x1F, 0, 0, .hkc⟩,            -- HKC_SEQ_LEN
  ⟨0x370014, 0x100, 2, 0, 0, 0, 1, .hkc⟩,                  -- HKC_SOFT_TRIG
  ⟨0x370018, 0x100, 2, 0xF371F, 0, 0, 0x80000000, .hkc⟩,   -- HKC_INJ
  ⟨0x370040, 4, 16, 0xF371F, 0xF371F, 0, 0, .hkc⟩,         -- HKC_ENTRY of converter 0
  ⟨0x370140, 4, 16, 0xF371F, 0xF371F, 0, 0, .hkc⟩]         -- HKC_ENTRY of converter 1

/-- The banks' and the matrix's registers (R379, R380). -/
def memoryRegs : List RegRow := [
  ⟨0x3A0000, 0x40, 64, 0xF031E, 0x300, 0, 0, .banks⟩,      -- BANK_CTRL
  ⟨0x3A0004, 0x40, 64, 0, 0, 0, 0xE0000000, .banks⟩,       -- BANK_STATUS
  ⟨0x3A0008, 0x40, 64, 0xFFFFFFFF, 0, 0, 0, .banks⟩,       -- BANK_ERR_COUNT
  ⟨0x3A000C, 0x40, 64, 0, 0, 0, 0x80000000, .banks⟩,       -- BANK_LAST_ERR
  ⟨0x3B0000, 4, 1, 3, 3, 0, 0, .matrix⟩,                   -- MTX_CTRL
  ⟨0x3B0004, 4, 1, 0, 0, 0, 0x80000100, .matrix⟩,          -- MTX_STATUS
  ⟨0x3B0010, 4, 1, 0xFFF, 0xFFF, 0, 0, .matrix⟩,           -- MTX_SLICE_BYPASS
  ⟨0x3B0040, 4, 1, 0xFFFF0001, 0, 0, 0, .matrix⟩,          -- PROOF_CTRL
  ⟨0x3B0080, 0x10, 8, 0, 0, 0, 0x80000000, .matrix⟩,       -- MTX_RESET_LOG word 0
  ⟨0x3B0100, 4, 96, 0xFFFFFFFF, 0, 0, 0, .matrix⟩]         -- MTX_CONFLICT

/-- The mailbox, export, event and life-cycle registers (R391, R393, R443, R466). -/
def hostRegs : List RegRow := [
  ⟨0x1000, 0x100, 4, 0x1FF0003, 0x1FF0000, 0, 0, .hostLinks⟩,          -- MBX_CTRL
  ⟨0x1004, 0x100, 4, 0, 0, 0, 0x80000004, .hostLinks⟩,                 -- MBX_STATUS
  ⟨0x1008, 0x100, 4, 0xFFFFF000, 0xFFFFF000, 0, 0, .hostLinks⟩,        -- MBX_REQ_BASE_LO
  ⟨0x100C, 0x100, 4, 0xFFFFFFFF, 0xFFFFFFFF, 0, 0, .hostLinks⟩,        -- MBX_REQ_BASE_HI
  ⟨0x1010, 0x100, 4, 0xF, 0xF, 0, 0, .hostLinks⟩,                      -- MBX_REQ_SIZE
  ⟨0x1014, 0x100, 4, 0xFFFFF000, 0xFFFFF000, 0, 0, .hostLinks⟩,        -- MBX_CPL_BASE_LO
  ⟨0x1018, 0x100, 4, 0xFFFFFFFF, 0xFFFFFFFF, 0, 0, .hostLinks⟩,        -- MBX_CPL_BASE_HI
  ⟨0x101C, 0x100, 4, 0xF, 0xF, 0, 0, .hostLinks⟩,                      -- MBX_CPL_SIZE
  ⟨0x1020, 0x100, 4, 0xFFF, 0, 0, 0, .hostLinks⟩,                      -- MBX_REQ_TAIL
  ⟨0x102C, 0x100, 4, 0xFFF, 0, 0, 0, .hostLinks⟩,                      -- MBX_CPL_HEAD
  ⟨0x1400, 4, 1, 0x1FF0001, 0x1FF0000, 0, 0, .hostLinks⟩,              -- MBX_AEX_CTRL
  ⟨0x1404, 4, 1, 0xFFF00000, 0xFFF00000, 0, 0, .hostLinks⟩,            -- MBX_AEX_BASE_LO
  ⟨0x1408, 4, 1, 0xFFFFFFFF, 0xFFFFFFFF, 0, 0, .hostLinks⟩,            -- MBX_AEX_BASE_HI
  ⟨0x140C, 4, 1, 0x7FF, 0x7FF, 0, 0, .hostLinks⟩,                      -- MBX_AEX_SIZE
  ⟨0x1414, 4, 1, 0x3FFFFFFF, 0, 0, 0, .hostLinks⟩,                     -- MBX_AEX_RD
  ⟨0x10000, 0x100, 8, 0x1FFF00F, 0x1FFF00C, 0, 0, .eventBlock⟩,        -- EVT_Q_CTRL
  ⟨0x10004, 0x100, 8, 0, 0, 0, 0xC0000000, .eventBlock⟩,               -- EVT_Q_STATUS
  ⟨0x10030, 0x100, 8, 0xFFFFFFC0, 0xFFFFFFC0, 0, 0, .eventBlock⟩,      -- EVT_Q_BASE_LO
  ⟨0x10034, 0x100, 8, 0xFFFFFFFF, 0xFFFFFFFF, 0, 0, .eventBlock⟩,      -- EVT_Q_BASE_HI
  ⟨0x1003C, 0x100, 8, 0xFFF, 0, 0, 0, .eventBlock⟩,                    -- EVT_Q_RD
  ⟨0x10800, 4, 1, 0, 0, 0, 0x100, .eventBlock⟩,                        -- EVT_IRQ
  ⟨0x11000, 4, 4096, 0xE70001FF, 0, 0, 0, .eventBlock⟩,                -- EVT_SRC_MAP
  ⟨0x20000, 4, 2048, 0xFFFFFFFF, 0, 0, 0, .hostLinks⟩,                 -- the MSI-X table
  ⟨0x30000, 4, 1, 0, 0, 0, 0x80000000, .lifeCycle⟩,                    -- LC_STATUS
  ⟨0x30004, 4, 1, 0, 0, 0, 0x3F, .lifeCycle⟩,                          -- LC_RESET_CAUSE
  ⟨0x30008, 4, 1, 0, 0, 0, 0xFF000007, .lifeCycle⟩,                    -- LC_SW_RESET
  ⟨0x30010, 4, 1, 0xFFFFFFC0, 0, 0, 0, .lifeCycle⟩,                    -- LC_REC_ADDR_LO
  ⟨0x30014, 4, 1, 0xFFFFFFFF, 0, 0, 0, .lifeCycle⟩,                    -- LC_REC_ADDR_HI
  ⟨0x30018, 4, 1, 0x1FFFFFF, 0, 0, 0, .lifeCycle⟩]                     -- LC_REC_LEN

/-- Every writable register. -/
def regTable : List RegRow := timeRegs ++ hallmarkRegs ++ hearthRegs ++ memoryRegs ++ hostRegs

/-- The offset is one of a row's registers. -/
def RegRow.has (r : RegRow) (off : Nat) : Bool :=
  decide (r.base ≤ off) && decide ((off - r.base) % r.stride = 0) && decide ((off - r.base) / r.stride < r.count)

/-- The row of a register. -/
def findReg (off : Nat) : List RegRow → Option RegRow
  | [] => none
  | r :: rest => if r.has off then some r else findReg off rest

/-- The row of the writable register at an offset. -/
def regRow (off : Nat) : Option RegRow := findReg off regTable

/-! ### Reset values -/

/-- The owner, SHARE and BANK_CTRL fields of a bank at Watch power-up (R353): owner, SHARE, PRIV_EN,
NEVER_BORROW, RET_WITH_FORGE, AUTO_WAKE. -/
def bankDefaults (b : Nat) : Nat × Nat × Bool × Bool × Bool × Bool :=
  if b < 40 then (2, 1, true, false, false, false)
  else if b < 42 then (8, 1, true, false, false, false)
  else if b = 42 then (2, 1, true, false, false, false)
  else if b = 43 then (10, 2, false, false, false, true)
  else if b < 48 then (2, 3, false, false, false, true)
  else if b < 56 then (2, 0, false, false, true, true)
  else if b < 60 then (3, 3, false, false, false, true)
  else if b = 60 then (2, 0, false, true, false, false)
  else if b = 61 then (6, 1, false, false, false, false)
  else (0xD, 0, false, true, false, false)

/-- BANK_CTRL of bank `b` at Watch power-up (R353). -/
def bankCtrlReset (b : Nat) : Nat :=
  match bankDefaults b with
  | (o, sh, priv, nb, rwf, aw) => o * 65536 + sh * 256 + bit priv * 32 + bit rwf * 16 + bit nb * 8 + bit aw * 4

/-- A zone's registers at reset (R342): THM_ABS_A, THM_ABS_B, THM_RATE, THM_FAN_T. -/
def zoneReset (z : Nat) : Nat × Nat × Nat × Nat :=
  if z = 0 then (112 * 16777216 + 105 * 256, 118 * 256, 512 * 65536 + 1280, 100 * 16777216 + 70 * 256)
  else if z = 1 then (85 * 16777216 + 80 * 256, 90 * 256, 256 * 65536 + 512, 80 * 16777216 + 55 * 256)
  else (80 * 16777216 + 75 * 256, 85 * 256, 128 * 65536 + 256, 70 * 16777216 + 45 * 256)

/-- The default QUEUE of a source (R439). -/
def defaultQueue (src : Nat) : Nat :=
  if src < 0x20 then 0 else if src < 0x60 then 6 else if src < 0x100 then 0
  else if src < 0x200 then 1 else if src < 0x220 then 2 else if src < 0x300 then 6
  else if src < 0x400 then 3 else if src < 0x500 then 4 else if src < 0x600 then 5
  else if src < 0x800 then 6 else 7

/-- The default map entry of a source (R439), in the format of EVT_SRC_MAP (R443). -/
def defaultMap (src : Nat) : Nat :=
  (if src = 0x344 ∨ src = 0x345 then 0 else 0x80000000)
  + (if src = 0x305 ∨ src = 0x201 ∨ src = 0x210 then 0x40000000 else 0)
  + defaultQueue src * 0x1000000

/-- What a setting register holds at reset. -/
def regReset (off : Nat) : Nat :=
  if off = 0x300034 then 0x3E800000        -- TIME_SERVO_KP 0.25
  else if off = 0x300038 then 0x3CA3D70A   -- TIME_SERVO_KI 0.02
  else if off = 0x30003C then 100000
  else if off = 0x300040 then 1000
  else if off = 0x300044 then 100
  else if off = 0x300048 then 250
  else if off = 0x30004C then 16
  else if off = 0x300050 then 60
  else if off = 0x360004 then 77 * 256 + 1
  else if 0x360100 ≤ off ∧ off < 0x360160 then
    let z := (off - 0x360100) / 0x20
    match zoneReset z with
    | (a, b, r, t) =>
      if off % 0x20 = 0 then 1 else if off % 0x20 = 4 then a else if off % 0x20 = 8 then b
      else if off % 0x20 = 0xC then r else if off % 0x20 = 0x10 then t else 0
  else if 0x360200 ≤ off ∧ off < 0x360240 ∧ off % 0x10 = 0 then 1000 * 65536 + 255 * 256 + 4 + 2 + 1
  else if off = 0x37000C ∨ off = 0x37010C then 25
  else if off = 0x370010 ∨ off = 0x370110 then 1
  else if 0x3A0000 ≤ off ∧ off < 0x3A1000 ∧ off % 0x40 = 0 then bankCtrlReset ((off - 0x3A0000) / 0x40)
  else if off = 0x3B0040 then 100 * 65536 + 1
  else if 0x1000 ≤ off ∧ off < 0x1400 ∧ (off % 0x100 = 0x10 ∨ off % 0x100 = 0x1C) then 8
  else if off = 0x140C then 64
  else if 0x10000 ≤ off ∧ off < 0x10800 ∧ off % 0x100 = 0 then (off - 0x10000) / 0x100 * 65536 + 12 * 4096 + 1
  else if 0x20000 ≤ off ∧ off < 0x22000 then (if off % 16 = 12 then 1 else 0)
  else if 0x11000 ≤ off ∧ off < 0x15000 then defaultMap ((off - 0x11000) / 4)
  else 0

/-- The value in force of a setting register. -/
def State.reg (s : State) (off : Nat) : Nat := mapGet s.regs off (regReset off)

/-- Set the value in force of a setting register. -/
def State.setReg (s : State) (off v : Nat) : State :=
  { s with regs := mapSet s.regs off v (regReset off) }

/-- The shadow value of a shadowed register (R24). -/
def State.shadowReg (s : State) (off : Nat) : Nat := mapGet s.shadowRegs off 0

/-! ### Waiting writes (R21, R25, R28) -/

/-- The bits of a register that wait for the boundary: its live settings; of BANK_CTRL all but NEW_OWNER, whose change
starts a hand-over (R358). -/
def RegRow.live (r : RegRow) : Nat := if r.block = .banks ∧ r.quies ≠ 0 then 0x1E else r.rw - r.quies

/-- A write of a live setting has completed and waits for its block's boundary. -/
def waitSetting (b : Block) (isReg : Bool) (key v ses : Nat) (s : State) : State :=
  { s with live := s.live ++ [⟨b, isReg, key, v, s.time.elapsed, ses⟩] }

/-- What the last write to a live register left, in force or waiting. -/
def State.latest (s : State) (off : Nat) : Nat :=
  match regRow off with
  | none => s.reg off
  | some r => s.live.foldl (fun v w =>
      if w.isReg ∧ w.key = off then v - (v &&& r.live) + (w.value &&& r.live) else v) (s.reg off)

/-- A bit of a register stands in force, or is set by a write that waits: a block that has started, or whose start
has arrived, counts as running (R22, R27). -/
def State.regOn (s : State) (off i : Nat) : Bool := (s.reg off).testBit i || (s.latest off).testBit i

/-- The map entry of a source in force; EN and IRQ of 0x201 and 0x210 read 1 (R439). -/
def State.mapEntry (s : State) (src : Nat) : Nat :=
  let m := s.reg (0x11000 + 4 * src)
  if src = 0x201 ∨ src = 0x210 then orBit (orBit m 31) 30 else m

end Sys2Proof.Machine
end

