-- ==== Sys2Proof/Machine/Events.lean ====
section
/-!
DEFINITION. Raising an event: its record, its queue, its vector, its subscriptions and its history
(R436 to R444), and the Forge wake request that many blocks make (R11).
-/

namespace Sys2Proof.Machine

/-- The code of a time quality (R238). -/
def Quality.code : Quality → Nat
  | .freerun => 0
  | .calendarSeeded => 1
  | .holdover => 2
  | .locked => 3

/-- The time quality in force. -/
def State.quality (s : State) : Nat := s.time.quality.code

/-- Bytes cut or filled with zeros to a length. -/
def padTo (n : Nat) (bs : List Byte) : List Byte := (bs ++ List.replicate n 0#8).take n

/-- One byte. -/
def byte (n : Nat) : Byte := BitVec.ofNat 8 n

/-- The 32 bytes of an event record (R436). -/
def ERec.bytes (r : ERec) : List Byte :=
  leBytes 8 r.seq ++ time96Bytes r.time ++ [byte r.quality, byte r.flags] ++ leBytes 2 r.source
    ++ padTo 8 r.payload

/-! ### Queues (R440, R441, R443) -/

/-- EVT_Q_CTRL of queue `q`. -/
def State.qCtrl (s : State) (q : Nat) : Nat := s.reg (0x10000 + 0x100 * q)

/-- EN of queue `q`. -/
def State.qEn (s : State) (q : Nat) : Bool := (s.qCtrl q).testBit 0

/-- MODE of queue `q`: 0 REGISTER, 1 HOST_RING, 2 SPI. -/
def State.qMode (s : State) (q : Nat) : Nat := field (s.qCtrl q) 2 2

/-- How many records queue `q` can hold: a host ring keeps one entry free. -/
def State.qCap (s : State) (q : Nat) : Nat :=
  if s.qMode q = 1 then 2 ^ field (s.qCtrl q) 12 4 - 1 else 4096

/-- Queue `q`. -/
def State.queue (s : State) (q : Nat) : EvQueue := mapGet s.queues q {}

/-- Replace queue `q`. -/
def State.setQueue (s : State) (q : Nat) (v : EvQueue) : State :=
  { s with queues := mapSet s.queues q v {} }

/-- Raise an MSI-X vector. -/
def raiseVector (v : Nat) (s : State) : State :=
  { s with events := { s.events with vectors := insertNum v s.events.vectors } }

/-- A record finds its queue full or disabled: it is dropped (R441). -/
def dropRecord (q : Nat) (s : State) : State :=
  let k := s.queue q
  s.setQueue q { k with lost := min (k.lost + 1) 0xFFFFFFFF, overflow := true, lostBefore := true }

/-- The write of a record into a host ring brings the PCIe link to L0 (R440), in which the endpoint's path is
powered (R13). -/
def ringLink (q : Nat) (s : State) : State :=
  if s.qMode q = 1 ∧ (s.power.pcie = .l1 ∨ s.power.pcie = .l1sub)
  then { s with power := { s.power with pcie := .l0, pciePathOn := true } } else s

/-- A record has been delivered to a queue: SUMMARY reports the highest number of one (R414). -/
def noteDelivered (seq : Nat) (s : State) : State :=
  { s with events := { s.events with delivered := max s.events.delivered seq } }

/-! ### The order of one Hearth cycle (R437) -/

/-- The 40 ns Hearth cycle of this instant, counted step-free. -/
def State.hearthCycle (s : State) : Nat := s.time.elapsed / (40 * 65536)

/-- How many records of this cycle a record of source `src` goes before: those of greater sources. -/
def State.behind (s : State) (src : Nat) : Nat :=
  if s.events.cycle = s.hearthCycle then
    (s.events.history.takeWhile fun r => decide (s.events.cycleFrom ≤ r.seq) && decide (src < r.source)).length
  else 0

/-- A record numbered `n` or above takes the next number. -/
def ERec.bump (n : Nat) (r : ERec) : ERec := if n ≤ r.seq then { r with seq := r.seq + 1 } else r

/-- The records numbered `n` or above take the next number, wherever they stand. -/
def bumpFrom (n : Nat) (s : State) : State :=
  { s with
    events := { s.events with
      history := s.events.history.map (ERec.bump n)
      delivered := if n ≤ s.events.delivered then s.events.delivered + 1 else s.events.delivered }
    queues := s.queues.map fun p => (p.1, { p.2 with records := p.2.records.map (ERec.bump n) })
    sessions := s.sessions.map fun p => (p.1, { p.2 with sendq := p.2.sendq.map (ERec.bump n) }) }

/-- A record joins a queue, before those of the `k` records it goes before that stand at its end. -/
def joinQueue (k : Nat) (r : ERec) (l : List ERec) : List ERec :=
  if k = 0 then l ++ [r]
  else
    let n := (l.reverse.takeWhile fun x => decide (r.seq < x.seq)).length
    l.take (l.length - n) ++ r :: l.drop (l.length - n)

/-- A record is taken from a destination: the numbers given so far stand. -/
def sealCycle (s : State) : State := { s with events := { s.events with cycleFrom := s.events.last + 1 } }

/-- A record enters its queue: LOST_BEFORE after a drop, and the queue's vector where it was empty. -/
def takeRecord (k' : Nat) (q : Nat) (r : ERec) (s : State) : State :=
  let k := s.queue q
  let r' := if k.lostBefore then { r with flags := orBit r.flags 3 } else r
  let s1 := s.setQueue q
    { k with records := joinQueue k' r' k.records, lostBefore := false,
             wr := if s.qMode q = 1 then (k.wr + 1) % 2 ^ field (s.qCtrl q) 12 4 else k.wr }
  let s2 := ringLink q (noteDelivered r.seq s1)
  if k.records.isEmpty then raiseVector (field (s.qCtrl q) 16 9) s2 else s2

/-- Queue `q` can take a record. -/
def State.qRoom (s : State) (q : Nat) : Bool := s.qEn q && decide ((s.queue q).records.length < s.qCap q)

/-! ### Subscriptions (R405, R441) -/

/-- A source lies in a session's set of subscriptions. -/
def subscribed (subs : List (Nat × Nat)) (src : Nat) : Bool :=
  subs.any fun r => decide (r.1 ≤ src) && decide (src ≤ r.2)

/-- Give a record to one session's send queue. -/
def sendTo (k : Nat) (r : ERec) (x : Session) : Session :=
  if x.isOpen && subscribed x.subs r.source then
    if x.sendq.length < 256 then
      { x with sendq := joinQueue k (if x.lostBefore then { r with flags := orBit r.flags 3 } else r) x.sendq,
               lostBefore := false }
    else { x with evtDrops := (x.evtDrops + 1) % 4294967296, lostBefore := true }
  else x

/-- Give a record to every subscribed session. -/
def sendAll (k : Nat) (r : ERec) (s : State) : State :=
  { s with sessions := s.sessions.map fun p => (p.1, sendTo k r p.2) }

/-! ### Raising (R437, R439) -/

/-- Raise a record of a source. The depth bounds the chain of overflow records: one for the record's
own queue, one for the queue of 0x011 (R441). -/
def raiseDepth (n : Nat) (src : Nat) (t : Instant) (flags : Nat) (payload : List Byte) (s : State) : State :=
  match n with
  | 0 => s
  | m + 1 =>
    if !s.events.started then s
    else
      let e := s.mapEntry src
      if !e.testBit 31 then s
      else
        let k := s.behind src
        let seq := s.events.last + 1 - k
        let r : ERec := ⟨seq, t, s.quality, flags, src, padTo 8 payload⟩
        let s0 := if k = 0 then s else bumpFrom seq s
        let s1 := { s0 with events := { s0.events with
                      last := s.events.last + 1
                      history := (s0.events.history.take k ++ r :: s0.events.history.drop k).take 65536
                      cycle := s.hearthCycle
                      cycleFrom := if s.events.cycle = s.hearthCycle then s.events.cycleFrom else s.events.last + 1
                      irqSrc := s.events.irqSrc || e.testBit 30 } }
        let s2 := if e.testBit 29 then raiseVector (field e 0 9) s1 else s1
        let s3 := sendAll k r s2
        let q := field e 24 3
        if s3.qRoom q then takeRecord k q r s3
        else
          let first := !(s3.queue q).overflow
          let s4 := dropRecord q s3
          if first then
            raiseDepth m 0x011 s4.now 0 (leBytes 4 q ++ leBytes 4 (s4.queue q).lost) s4
          else s4

/-- Raise an event with a time and flags of its own. -/
def raiseAt (src : Nat) (t : Instant) (flags : Nat) (payload : List Byte) (s : State) : State :=
  raiseDepth 3 src t flags payload s

/-- Raise an event that happens now. -/
def raiseEv (src : Nat) (payload : List Byte) (s : State) : State := raiseAt src s.now 0 payload s

/-- Raise an event that its rule limits to one in each interval of engine time (R437); `key` names the
source and unit. -/
def raiseLimited (key interval src : Nat) (payload : List Byte) (s : State) : State :=
  let n := s.nowNs / interval + 1
  if mapGet s.events.limits key 0 = n then s
  else raiseEv src payload { s with events := { s.events with limits := mapSet s.events.limits key n 0 } }

/-! ### The Forge wake request (R11, R12) -/

/-- A condition of R12 does not hold at this instant: the idle time before sleep starts anew. -/
def noteBusy (s : State) : State := { s with forge := { s.forge with idleSince := s.time.elapsed } }

/-- A wake cause: an asleep Forge wakes, a sleep in progress is reversed, and an awake Forge is not idle. -/
def wakeForge (s : State) : State :=
  if s.power.forgeOn ∧ (s.forge.state = .asleep ∨ s.forge.state = .sleeping) then
    { s with forge := { s.forge with
        state := .waking, lanesReady := false, coresReady := false
        wakeCount := (s.forge.wakeCount + 1) % 4294967296, lastWake := s.now } }
  else noteBusy s

/-- The Forge is awake. -/
def State.awake (s : State) : Bool := decide (s.forge.state = .awake)

/-- WRITE_REJECT of a block's status register, by the register's offset (R23). -/
def setReject (status : Nat) (s : State) : State := { s with reject := insertNum status s.reject }

/-- The session byte of a register write's event (R438). -/
def writerCode : Writer → Nat
  | .bar0 => 0xFF
  | .session n => n

/-- A register write is ignored: WRITE_REJECT is set and 0x010 is raised (R23). -/
def rejectWrite (status : Nat) (w : Writer) (offset : Nat) (s : State) : State :=
  raiseEv 0x010 (leBytes 4 offset ++ [byte (writerCode w)]) (setReject status s)

end Sys2Proof.Machine
end

