-- ==== Sys2Proof/Machine/Audit.lean ====
section
/-!
DEFINITION. The audit chain: records, the buffer in bank 61, the ring, checkpoints and their
signatures, and the closing of an epoch (R259 to R276).
-/

namespace Sys2Proof.Machine

/-! ### Records (R259, R260, R263) -/

/-- Bytes 0 to 59 of a record. -/
def recordBytes (seq : Nat) (b : ABody) : List Byte :=
  leBytes 8 seq ++ time96Bytes b.time ++ [byte b.quality, byte b.type_] ++ leBytes 2 b.flags
    ++ padTo 36 b.payload

/-- A numbered record with its check. -/
def makeRecord (seq : Nat) (b : ABody) : ARec := ⟨seq, b, crc32c seq (recordBytes seq b)⟩

/-- The 64 bytes of a record. -/
def ARec.bytes (r : ARec) : List Byte := recordBytes r.seq r.body ++ leBytes 4 r.check

/-- The bytes of a record as they read, with the flipped bits of a damaged one. -/
def damagedBytes (dm : List Damage) (r : ARec) : List Byte :=
  dm.foldl (fun bs d => if d.seq = r.seq then bs.set d.byte ((bs.getD d.byte 0#8) ^^^ d.mask) else bs) r.bytes

/-- A record's bytes fail their check under its expected SEQ. -/
def checkFails (seq : Nat) (bs : List Byte) : Bool := decide (crc32c seq (bs.take 60) ≠ leAt bs 60 4)

/-- The bytes of a record as the engine reads them (R268, R277). -/
def State.readRecord (s : State) (r : ARec) : List Byte := damagedBytes s.audit.damage r

/-- The SEQ of a count in an epoch (R260). -/
def auditSeq (epoch count : Nat) : Nat := epoch * 2 ^ 40 + count

/-- The next count that a record may take after `c`: three positions of each 259 are reserved (R260). -/
def nextCount (c : Nat) : Nat := if (c + 1) % 259 = 256 then c + 4 else c + 1

/-- A record's body as it happens now. -/
def State.body (s : State) (type_ : Nat) (payload : List Byte) : ABody :=
  ⟨s.now, s.quality, type_, 0, payload⟩

/-! ### The ring (R271, R272) -/

/-- The ring's capacity in records. -/
def ringSize : Nat := 134217728

/-- AUDIT_FULL_POLICY is STALL. -/
def State.auditStall (s : State) : Bool := decide (s.obj 0x3100 7 = 0)

/-- Put a record in its SEQ order. -/
def insertRec (r : ARec) : List ARec → List ARec
  | [] => [r]
  | q :: rest => if r.seq < q.seq then r :: q :: rest else q :: insertRec r rest

/-- The ring holds a free slot for a record, or overwrites one. -/
def State.ringRoom (s : State) : Bool :=
  decide (s.audit.ring.length < ringSize) || !s.auditStall

/-- SEQ of the oldest unreleased record. -/
def State.ringOldest (s : State) : Nat :=
  match s.audit.ring with
  | [] => 0
  | r :: _ => r.seq

/-- Place a record in the ring; under OVERWRITE a full ring loses its oldest record, which AUDIT_LOST
counts and the next chunk of every session that has not read it reports as SKIPPED. A record that an acknowledgement has covered is released as it
arrives. -/
def ringPut (r : ARec) (s : State) : State :=
  if r.seq ≤ s.audit.released then s
  else if s.audit.ring.length < ringSize ∨ s.auditStall then
    { s with audit := { s.audit with ring := insertRec r s.audit.ring } }
  else
    { s with
      audit := { s.audit with ring := insertRec r (s.audit.ring.drop 1), lost := s.audit.lost + 1 }
      sessions := s.sessions.map fun p =>
        (p.1, if p.2.isOpen ∧ p.2.auditPos ≤ s.ringOldest then { p.2 with skipped := p.2.skipped + 1 } else p.2) }

/-- SEQ of the last record of the newest CHECKPOINT and its SIGNATURE records. -/
def State.coveredTo (s : State) : Nat :=
  match s.audit.lastCheckpoint.getLast? with
  | none => 0
  | some r => r.seq

/-- Buffered records that no CHECKPOINT covers yet: a closing one covers those that wait in bank 61 too (R260). -/
def State.uncovered (s : State) : List ARec := s.audit.buffer.filter fun r => decide (s.coveredTo < r.seq)

/-- The records stand after the last CHECKPOINT, and after the last signed one. -/
def addSince (rs : List ARec) (s : State) : State :=
  { s with audit := { s.audit with
    sinceCkpt := s.audit.sinceCkpt ++ rs, sinceSigned := s.audit.sinceSigned ++ rs } }

/-- Move up to `n` buffered records to the ring in SEQ order. -/
def moveRecords : Nat → State → State
  | 0, s => s
  | n + 1, s =>
    match s.audit.buffer with
    | [] => s
    | r :: rest =>
      if s.ringRoom then
        let s1 := { s with audit := { s.audit with buffer := rest } }
        moveRecords n (ringPut r (if s.coveredTo < r.seq then addSince [r] s1 else s1))
      else s

/-! ### Checkpoints (R267, R268, R276) -/

/-- The flags of a signed or unsigned record: bit 2 UNSIGNED. -/
def State.signFlags (s : State) : Nat := if s.life.auditKey.isSome then 0 else 4

/-- The 64 signature bytes over a message, zeros without a key. -/
def State.signBytes (s : State) (msg : List Byte) : List Byte :=
  match s.life.auditKey with
  | some k => edSign k msg
  | none => List.replicate 64 0#8

/-- The key ID, zeros without a key. -/
def State.keyIdBytes (s : State) : List Byte :=
  match s.life.auditKey with
  | some k => keyId k
  | none => List.replicate 8 0#8

/-- The last `n` entries of a list. -/
def lastOf {α : Type} (n : Nat) (l : List α) : List α := l.drop (l.length - n)

/-- The two SIGNATURE records of a signature: its halves with those of the key ID. -/
def signatureRecords (s : State) (seq1 seq2 flags : Nat) (sig kid : List Byte) : List ARec :=
  [makeRecord seq1 ⟨s.now, s.quality, 0x81, flags, sig.take 32 ++ kid.take 4⟩,
   makeRecord seq2 ⟨s.now, s.quality, 0x81, flags, sig.drop 32 ++ kid.drop 4⟩]

/-- The ASCII bytes "HKF-SEAL" (R276). -/
def sealText : List Byte := [0x48#8, 0x4B#8, 0x46#8, 0x2D#8, 0x53#8, 0x45#8, 0x41#8, 0x4C#8]

/-- The block of a record (R260). -/
def ARec.block (r : ARec) : Nat := r.seq % 2 ^ 40 / 259

/-- Place a CHECKPOINT or SIGNATURE record: in the ring, or under STALL with the ring full in bank 61 (R272). -/
def placeSigned (r : ARec) (s : State) : State :=
  if s.ringRoom then ringPut r s else { s with audit := { s.audit with buffer := insertRec r s.audit.buffer } }

/-- Write the CHECKPOINT of `recs` as block `n` at `seq`, with its SIGNATURE records: the block hash, the
signature, the seal signature that stands ready from then on, and 0x063 for a record whose check fails. -/
def writeCheckpoint (recs : List ARec) (n seq : Nat) (partial_ : Bool) (s : State) : State :=
  let hash := sha256 (s.audit.headHash ++ recs.flatMap fun r => (s.readRecord r).take 60)
  let bad := recs.filter fun r => checkFails r.seq (s.readRecord r)
  let rest := s.audit.sinceCkpt.filter fun r => decide (r.block ≠ n)
  let flags := s.signFlags + (if partial_ then 8 else 0) + (if bad.isEmpty then 0 else 16)
  let ck := makeRecord seq ⟨s.now, s.quality, 0x80, flags, hash ++ leBytes 4 n⟩
  let sig := s.signBytes (recordBytes ck.seq ck.body)
  let sigs := signatureRecords s (seq + 1) (seq + 2) s.signFlags sig s.keyIdBytes
  let s1 := forEach placeSigned (ck :: sigs) s
  let s2 := { s1 with audit := { s1.audit with
      headHash := hash, prevHead := hash
      lastCheckpoint := ck :: sigs
      checkpoints := lastOf 12 (s1.audit.checkpoints ++ ck :: sigs)
      sinceCkpt := rest
      sinceSigned := if s.life.auditKey.isSome then sigs ++ rest
                     else s1.audit.sinceSigned ++ (ck :: sigs)
      lastSigned := if s.life.auditKey.isSome then some (seq, hash) else s1.audit.lastSigned
      sealSig := if s.life.auditKey.isSome then s.signBytes (sealText ++ leBytes 8 seq ++ hash)
                 else s1.audit.sealSig } }
  forEach (fun r => raiseEv 0x063 (leBytes 8 r.seq)) bad s2

/-- The records of block `n` that have reached the ring since the last CHECKPOINT. -/
def State.blockRecords (s : State) (n : Nat) : List ARec :=
  s.audit.sinceCkpt.filter fun r => decide (r.block = n)

/-- Block `n`'s 256 counts have all been given out. -/
def State.blockFull (s : State) (n : Nat) : Bool := decide (259 * n + 255 < s.audit.count)

/-- The block to sign next: the oldest of which records stand after the last CHECKPOINT, once its counts are given out
and none of its records waits in bank 61. Records that a STOP-3 trip lost (R270) hold no block up: its CHECKPOINT
covers those that are left, and a block of which none is left gets none (DESIGN CHOICE, log 80). -/
def State.blockDue (s : State) : Option Nat :=
  match s.audit.sinceCkpt with
  | [] => none
  | r :: _ => if s.blockFull r.block ∧ (s.audit.buffer.all fun q => decide (r.block < q.block)) then some r.block else none

/-- Sign the next block if it is whole (R268). -/
def signBlock (s : State) : State :=
  match s.blockDue with
  | none => s
  | some n =>
    if s.auditStall ∧ ringSize < s.audit.ring.length + 3 then s
    else writeCheckpoint (s.blockRecords n) n (auditSeq s.audit.epoch (259 * n + 256)) false s

/-- Write the CHECKPOINT of the oldest block that has none, as the epoch ends: a whole block's at its reserved counts,
the last block's, with PARTIAL, at the counts that follow its last record (R260). -/
def closeBlock (s : State) : State :=
  match s.audit.sinceCkpt with
  | [] => s
  | r :: _ =>
    let recs := s.blockRecords r.block
    let last := recs.foldl (fun m q => max m q.seq) r.seq
    if s.blockFull r.block then writeCheckpoint recs r.block (auditSeq s.audit.epoch (259 * r.block + 256)) false s
    else writeCheckpoint recs r.block (last + 1) true s

/-- Close the oldest blocks, up to `n`. -/
def closeBlocks : Nat → State → State
  | 0, s => s
  | n + 1, s => closeBlocks n (closeBlock s)

/-- Close the epoch (R260, R274, R275): what can move to the ring moves, and every block gets its CHECKPOINT, records
that find the ring full and wait in bank 61 included. -/
def closeEpoch (s : State) : State :=
  let s1 := moveRecords s.audit.buffer.length s
  let s2 := addSince s1.uncovered s1
  let s3 := closeBlocks s2.audit.sinceCkpt.length s2
  { s3 with audit := { s3.audit with closed := true } }

/-! ### The record builder (R270) -/

/-- Room in the audit buffer. -/
def State.bufferRoom (s : State) : Bool := decide (s.audit.buffer.length < 8192)

/-- Number a record, check it and put it in the buffer; 1,024 buffered records wake the Forge. KPR_HISTORY
keeps the last 16 FAILOVER records (R308). -/
def buildRecord (b : ABody) (s : State) : State :=
  let r := makeRecord (auditSeq s.audit.epoch s.audit.count) b
  let s1 := { s with
    audit := { s.audit with buffer := s.audit.buffer ++ [r], count := nextCount s.audit.count }
    keeper := if b.type_ = 9 then { s.keeper with history := (r :: s.keeper.history).take 16 } else s.keeper }
  if 1024 ≤ s1.audit.buffer.length then wakeForge s1 else noteBusy s1

/-- A BOOT record opens an epoch (R260): previous head hash, and LOST. -/
def openEpoch (lost : Nat) (s : State) : State :=
  let s1 := { s with audit := { s.audit with
    epoch := s.audit.epoch + 1, count := 0, closed := false
    headHash := padTo 32 s.audit.prevHead, sinceCkpt := [], flushLost := 0 } }
  buildRecord (s1.body 0x11 (padTo 32 s.audit.prevHead ++ leBytes 4 (min lost 0xFFFFFFFF))) s1

/-- The counts of the epoch are used up (R260): leave room for the closing checkpoint. -/
def State.epochFull (s : State) : Bool := decide (2 ^ 40 ≤ s.audit.count + 8)

/-- Write a GAP record where drops or a Watch that was off call for one and the buffer has room. -/
def gapIfDue (s : State) : State :=
  if s.audit.closed ∨ !s.power.watchOn ∨ !s.bufferRoom then s
  else if s.audit.watchWasOff then
    let p := leBytes 4 s.audit.offCount ++ time96Bytes s.audit.offFirst ++ time96Bytes s.audit.offLast ++ [1#8]
    let seq := auditSeq s.audit.epoch s.audit.count
    raiseEv 0x062 (leBytes 8 seq) (buildRecord (s.body 0x12 p) { s with audit := { s.audit with
      watchWasOff := false, offCount := 0, offFirst := 0, offLast := 0 } })
  else if s.audit.dropped = 0 then s
  else
    let p := leBytes 4 s.audit.dropped ++ time96Bytes s.audit.dropFirst ++ time96Bytes s.audit.dropLast ++ [0#8]
    let seq := auditSeq s.audit.epoch s.audit.count
    raiseEv 0x062 (leBytes 8 seq) (buildRecord (s.body 0x12 p) { s with audit := { s.audit with
      dropped := 0, dropFirst := 0, dropLast := 0 } })

/-- A record finds the buffer full (R270). -/
def dropAudit (t : Instant) (s : State) : State :=
  { s with audit := { s.audit with
    dropped := s.audit.dropped + 1
    dropFirst := if s.audit.dropped = 0 then t else s.audit.dropFirst
    dropLast := t } }

/-- A light, thermal or tamper happening while Watch is off is counted, and makes a GAP record due (R48, R270). -/
def countOff (t : Instant) (s : State) : State :=
  { s with audit := { s.audit with
    offCount := s.audit.offCount + 1
    offFirst := if s.audit.offCount = 0 then t else s.audit.offFirst
    offLast := t, watchWasOff := true } }

/-- Close a used-up epoch and open the next. -/
def turnEpoch (s : State) : State := if s.epochFull then openEpoch 0 (closeEpoch s) else s

/-- The happenings that Hearth counts while Watch is off: LIGHT, THERMAL_STAGE, TAMPER. -/
def countedOff (type_ : Nat) : Bool := decide (type_ = 0x06 ∨ type_ = 0x0B ∨ type_ = 0x0F)

/-- Give a record to the builder. -/
def auditBody (b : ABody) (s : State) : State :=
  if !s.power.watchOn then
    if countedOff b.type_ then countOff b.time s
    else { s with audit := { s.audit with waiting := s.audit.waiting ++ [b] } }
  else if s.audit.closed then { s with audit := { s.audit with waiting := s.audit.waiting ++ [b] } }
  else
    let s1 := gapIfDue (turnEpoch s)
    if s1.bufferRoom then buildRecord b s1 else dropAudit b.time s1

/-- Write a record of a type that happens now. -/
def audit (type_ : Nat) (payload : List Byte) (s : State) : State := auditBody (s.body type_ payload) s

/-- Write a record with a time and flags of its own. -/
def auditAt (t : Instant) (flags type_ : Nat) (payload : List Byte) (s : State) : State :=
  auditBody ⟨t, s.quality, type_, flags, payload⟩ s

/-- Give the builder the records that waited (R238; log 17). -/
def placeWaiting (s : State) : State :=
  forEach auditBody s.audit.waiting { s with audit := { s.audit with waiting := [] } }

/-! ### Conditions (R272, R485) -/

/-- Free slots of the ring. -/
def State.ringFree (s : State) : Nat := ringSize - s.audit.ring.length

/-- NEAR_FULL under STALL. -/
def State.auditNearFull (s : State) : Bool := s.auditStall && decide (s.ringFree ≤ s.obj 0x3100 8)

/-- FULL under STALL. -/
def State.auditFull (s : State) : Bool := s.auditStall && decide (s.ringFree = 0)

/-- AUDIT_CONDITIONS. -/
def State.auditConditions (s : State) : Nat :=
  bit s.auditNearFull + 2 * bit s.auditFull + 4 * bit (s.life.auditKey.isNone && s.audit.sealed)
    + 8 * bit (s.life.auditKey.isNone && !s.audit.sealed)

/-- AUDIT_STATE: FULL, NEAR_FULL, SEALED, UNSIGNED in that order of precedence. -/
def State.auditState (s : State) : Nat :=
  if s.auditFull then 2 else if s.auditNearFull then 1
  else if s.life.auditKey.isNone then (if s.audit.sealed then 3 else 4) else 0

/-- Raise 0x060 and 0x061 as the ring fills, and forget them as it empties. -/
def auditLevels (s : State) : State :=
  let used := leBytes 4 s.audit.ring.length
  let s1 := if s.auditNearFull ∧ !s.audit.nearFull then raiseEv 0x060 used s else s
  let s2 := if s.auditFull ∧ !s.audit.full then raiseEv 0x061 used s1 else s1
  { s2 with audit := { s2.audit with nearFull := s.auditNearFull, full := s.auditFull } }

end Sys2Proof.Machine
end

