-- ==== Sys2Proof/Machine/Float.lean ====
section
/-!
DEFINITION. IEEE 754 arithmetic on bit patterns: binary32 as the loop uses it (R124: nearest, ties to
even, subnormal results flushed to zero, no fusing) and binary64 (R127, R128, R230). Each operation
computes exactly and rounds once; a transcendental function gives one of the two numbers beside its value.
-/

namespace Sys2Proof.Machine

/-! ### Formats and rounding -/

/-- A binary format: precision with the hidden bit, width of the exponent, and whether subnormal
results are flushed. -/
structure Fmt where
  prec : Nat
  ew : Nat
  flush : Bool
  deriving DecidableEq, Repr

/-- binary32 under the rules of R124. -/
def fmt32 : Fmt := ⟨24, 8, true⟩

/-- binary64. -/
def fmt64 : Fmt := ⟨53, 11, false⟩

/-- A number: not a number, an infinity, or `(-1)^neg * mant * 2^exp`. -/
inductive FNum where
  | nan
  | inf (neg : Bool)
  | fin (neg : Bool) (mant : Nat) (exp : Int)
  deriving DecidableEq, Repr

/-- The exponent bias. -/
def Fmt.bias (f : Fmt) : Nat := 2 ^ (f.ew - 1) - 1

/-- The least exponent of a mantissa's unit. -/
def Fmt.emin (f : Fmt) : Int := 2 - (f.bias : Int) - (f.prec : Int)

/-- Read a bit pattern. -/
def Fmt.read (f : Fmt) (n : Nat) : FNum :=
  let m := n % 2 ^ (f.prec - 1)
  let e := n / 2 ^ (f.prec - 1) % 2 ^ f.ew
  let neg := n.testBit (f.prec - 1 + f.ew)
  if e = 2 ^ f.ew - 1 then (if m = 0 then .inf neg else .nan)
  else if e = 0 then .fin neg m f.emin
  else .fin neg (m + 2 ^ (f.prec - 1)) (f.emin + e - 1)

/-- The bit pattern of a sign, exponent field and mantissa field joined as one number. -/
def Fmt.pack (f : Fmt) (neg : Bool) (body : Nat) : Nat :=
  (if neg then 2 ^ (f.prec - 1 + f.ew) else 0) + body

/-- The pattern of infinity without its sign. -/
def Fmt.infBody (f : Fmt) : Nat := (2 ^ f.ew - 1) * 2 ^ (f.prec - 1)

/-- Divide by a power of two, to nearest, ties to even. -/
def roundShift (m k : Nat) : Nat :=
  if k = 0 then m
  else
    let q := m / 2 ^ k
    let r := m % 2 ^ k
    let h := 2 ^ (k - 1)
    if h < r then q + 1 else if r = h then q + q % 2 else q

/-- Round `(-1)^neg * m * 2^e` to the format. -/
def Fmt.round (f : Fmt) (neg : Bool) (m : Nat) (e : Int) : Nat :=
  if m = 0 then f.pack neg 0
  else
    let n : Int := Nat.log2 m + 1
    let sh := max (n - f.prec) (f.emin - e)
    let q := if 0 ≤ sh then roundShift m sh.toNat else m * 2 ^ (-sh).toNat
    let e' := (e + sh - f.emin).toNat
    if q < 2 ^ (f.prec - 1) then (if f.flush then f.pack neg 0 else f.pack neg q)
    else
      let body := e' * 2 ^ (f.prec - 1) + q
      if f.infBody ≤ body then f.pack neg f.infBody else f.pack neg body

/-- Write a number. -/
def Fmt.write (f : Fmt) : FNum → Nat
  | .nan => f.infBody + 2 ^ (f.prec - 2)
  | .inf neg => f.pack neg f.infBody
  | .fin neg m e => f.round neg m e

/-! ### Operations on numbers -/

/-- The signed mantissa of a number brought to exponent `e`, at most its own. -/
def alignTo (neg : Bool) (m : Nat) (e e0 : Int) : Int :=
  let v : Int := ((m * 2 ^ (e - e0).toNat : Nat) : Int)
  if neg then -v else v

/-- Addition; the sum of opposite equal numbers is +0. -/
def FNum.add (f : Fmt) : FNum → FNum → Nat
  | .fin sa ma ea, .fin sb mb eb =>
    let e := min ea eb
    let v := alignTo sa ma ea e + alignTo sb mb eb e
    if v = 0 then f.pack (sa && sb) 0
    else f.round (decide (v < 0)) v.natAbs e
  | .inf a, .inf b => if a = b then f.write (.inf a) else f.write .nan
  | .inf a, .fin _ _ _ => f.write (.inf a)
  | .fin _ _ _, .inf b => f.write (.inf b)
  | _, _ => f.write .nan

/-- The opposite number. -/
def FNum.neg : FNum → FNum
  | .nan => .nan
  | .inf s => .inf (!s)
  | .fin s m e => .fin (!s) m e

/-- Multiplication. -/
def FNum.mul (f : Fmt) : FNum → FNum → Nat
  | .fin sa ma ea, .fin sb mb eb => f.round (sa != sb) (ma * mb) (ea + eb)
  | .inf a, .inf b => f.write (.inf (a != b))
  | .inf a, .fin s m _ => if m = 0 then f.write .nan else f.write (.inf (a != s))
  | .fin s m _, .inf b => if m = 0 then f.write .nan else f.write (.inf (s != b))
  | _, _ => f.write .nan

/-- Division, with two guard bits and a sticky bit beyond the precision. -/
def FNum.div (f : Fmt) : FNum → FNum → Nat
  | .fin sa ma ea, .fin sb mb eb =>
    if mb = 0 then (if ma = 0 then f.write .nan else f.write (.inf (sa != sb)))
    else
      let k := 2 * f.prec + 4
      let n := ma * 2 ^ k
      let q := n / mb
      f.round (sa != sb) (2 * q + bit (n % mb ≠ 0)) (ea - eb - k - 1)
  | .inf _, .inf _ => f.write .nan
  | .inf a, .fin s _ _ => f.write (.inf (a != s))
  | .fin s _ _, .inf b => f.write (.fin (s != b) 0 0)
  | _, _ => f.write .nan

/-- A root of degree 2 or 3 of a non-negative number, correctly rounded. -/
def FNum.root (f : Fmt) (deg : Nat) : FNum → Nat
  | .fin s m e =>
    if m = 0 then f.pack s 0
    else if s then f.write .nan
    else
      -- bring the exponent to a multiple of the degree with enough bits below
      let pad := deg * (f.prec + 2)
      let adj := ((e - pad) % deg).toNat
      let n := m * 2 ^ (pad + adj)
      let e' := (e - pad - adj) / deg
      let q := rootBits deg n (Nat.log2 n / deg + 1) 0
      f.round false (2 * q + bit (q ^ deg ≠ n)) (e' - 1)
  | .inf s => if s then f.write .nan else f.write (.inf false)
  | .nan => f.write .nan

/-- Comparison: none where a number is not a number. -/
def FNum.cmp : FNum → FNum → Option Ordering
  | .nan, _ => none
  | _, .nan => none
  | .inf a, .inf b => some (if a = b then .eq else if a then .lt else .gt)
  | .inf a, .fin _ _ _ => some (if a then .lt else .gt)
  | .fin _ _ _, .inf b => some (if b then .gt else .lt)
  | .fin sa ma ea, .fin sb mb eb =>
    let e := min ea eb
    some (compare (alignTo sa ma ea e) (alignTo sb mb eb e))

/-- The integer nearest to a number, ties to even; 0 for what is no finite number. -/
def FNum.roundInt : FNum → Int
  | .fin s m e =>
    let v : Nat := if 0 ≤ e then m * 2 ^ e.toNat else roundShift m (-e).toNat
    if s then -(v : Int) else v
  | _ => 0

/-- The greatest integer not above a number; 0 for what is no finite number. -/
def FNum.floorInt : FNum → Int
  | .fin s m e => if 0 ≤ e then alignTo s m e 0 else alignTo s m e e / 2 ^ (-e).toNat
  | _ => 0

/-! ### binary32 -/

/-- Read a binary32 pattern. DESIGN CHOICE: a subnormal operand reads as zero; R124 flushes subnormal results and says
nothing of operands (log 9). -/
def f32Num (a : F32) : FNum :=
  match fmt32.read a.toNat with
  | .fin s m e => if m < 2 ^ 23 then .fin s 0 e else .fin s m e
  | v => v

def f32Bits (n : Nat) : F32 := BitVec.ofNat 32 n
def f32Add (a b : F32) : F32 := f32Bits ((f32Num a).add fmt32 (f32Num b))
def f32Sub (a b : F32) : F32 := f32Bits ((f32Num a).add fmt32 (f32Num b).neg)
def f32Mul (a b : F32) : F32 := f32Bits ((f32Num a).mul fmt32 (f32Num b))
def f32Div (a b : F32) : F32 := f32Bits ((f32Num a).div fmt32 (f32Num b))
def f32Sqrt (a : F32) : F32 := f32Bits ((f32Num a).root fmt32 2)
def f32Neg (a : F32) : F32 := a ^^^ 0x80000000#32
def f32Lt (a b : F32) : Bool := decide ((f32Num a).cmp (f32Num b) = some .lt)
def f32Le (a b : F32) : Bool :=
  decide ((f32Num a).cmp (f32Num b) = some .lt) || decide ((f32Num a).cmp (f32Num b) = some .eq)
def f32Max (a b : F32) : F32 := if f32Lt a b then b else a
def f32Min (a b : F32) : F32 := if f32Lt b a then b else a
def f32Clamp (lo hi a : F32) : F32 := if f32Lt a lo then lo else if f32Lt hi a then hi else a
def f32Abs (a : F32) : F32 := a &&& 0x7FFFFFFF#32
/-- A whole number times a power of two, rounded to binary32. -/
def f32OfInt (v : Int) (e : Int := 0) : F32 := f32Bits (fmt32.round (decide (v < 0)) v.natAbs e)
def f32RoundInt (a : F32) : Int := (f32Num a).roundInt
def f32FloorInt (a : F32) : Int := (f32Num a).floorInt
/-- The pattern is a finite number. -/
def f32Finite (a : F32) : Bool :=
  match fmt32.read a.toNat with
  | .fin _ _ _ => true
  | _ => false

/-! ### binary64 -/

def f64Num (a : F64) : FNum := fmt64.read a.toNat
def f64Bits (n : Nat) : F64 := BitVec.ofNat 64 n
def f64Add (a b : F64) : F64 := f64Bits ((f64Num a).add fmt64 (f64Num b))
def f64Sub (a b : F64) : F64 := f64Bits ((f64Num a).add fmt64 (f64Num b).neg)
def f64Mul (a b : F64) : F64 := f64Bits ((f64Num a).mul fmt64 (f64Num b))
def f64Div (a b : F64) : F64 := f64Bits ((f64Num a).div fmt64 (f64Num b))
def f64Sqrt (a : F64) : F64 := f64Bits ((f64Num a).root fmt64 2)
def f64Cbrt (a : F64) : F64 := f64Bits ((f64Num a).root fmt64 3)
def f64Neg (a : F64) : F64 := a ^^^ 0x8000000000000000#64
def f64Abs (a : F64) : F64 := a &&& 0x7FFFFFFFFFFFFFFF#64
def f64Lt (a b : F64) : Bool := decide ((f64Num a).cmp (f64Num b) = some .lt)
def f64Le (a b : F64) : Bool :=
  decide ((f64Num a).cmp (f64Num b) = some .lt) || decide ((f64Num a).cmp (f64Num b) = some .eq)
def f64Max (a b : F64) : F64 := if f64Lt a b then b else a
def f64Min (a b : F64) : F64 := if f64Lt b a then b else a
def f64Clamp (lo hi a : F64) : F64 := if f64Lt a lo then lo else if f64Lt hi a then hi else a
/-- A whole number times a power of two, rounded to binary64. -/
def f64OfInt (v : Int) (e : Int := 0) : F64 := f64Bits (fmt64.round (decide (v < 0)) v.natAbs e)
/-- The quotient of two whole numbers, rounded to binary64. -/
def f64Ratio (a b : Int) : F64 := f64Div (f64OfInt a) (f64OfInt b)
def f64RoundInt (a : F64) : Int := (f64Num a).roundInt
def f64OfF32 (a : F32) : F64 := f64Bits (fmt64.write (f32Num a))
def f32OfF64 (a : F64) : F32 := f32Bits (fmt32.write (f64Num a))

/-- The constant 1. -/
def f64One : F64 := 0x3FF0000000000000#64

/-! ### Transcendental functions in fixed point with 256 bits of fraction (log 10) -/

/-- 1, π, ln 2 and ln 10 in units of 2^-256. -/
def fxOne : Int := 2 ^ 256
def fxPi : Int := 0x3243f6a8885a308d313198a2e03707344a4093822299f31d0082efa98ec4e6c89
def fxLn2 : Int := 0xb17217f7d1cf79abc9e3b39803f2f6af40f343267298b62d8a0d175b8baafa2c
def fxLn10 : Int := 0x24d763776aaa2b05ba95b58ae0b4c28a38a3fb3e76977e43a0f187a0807c0b5ca

/-- A product in fixed point. -/
def fxMul (a b : Int) : Int := a * b / fxOne

/-- A finite number in fixed point; 0 for any other. -/
def FNum.fixed : FNum → Int
  | .fin s m e => if 0 ≤ e + 256 then alignTo s m (e + 256) 0 else alignTo s m 0 0 / 2 ^ (-(e + 256)).toNat
  | _ => 0

/-- The sum of `n` terms of the series of e^x from term `k - 1` on. -/
def expSum (x : Int) : Nat → Int → Int → Int
  | 0, _, _ => 0
  | n + 1, k, term => term + expSum x n (k + 1) (fxMul term x / k)

/-- The sum of `n` terms of an alternating series, of which the first is the term of x^k, by -x². -/
def trigSum (xx : Int) : Nat → Int → Int → Int
  | 0, _, _ => 0
  | n + 1, k, term => term + trigSum xx n (k + 2) (-(fxMul term xx) / ((k + 1) * (k + 2)))

/-- The binary64 number that function `f` gives of `a` for a value of `v * 2^e`: the value itself where it is one, else a
number beside it (log 10). -/
def f64Beside (f : Nat) (a : F64) (v e : Int) : F64 :=
  let m := v.natAbs
  let sh := max (Nat.log2 m + 1 - 53) (fmt64.emin - e).toNat
  let q := m / 2 ^ sh
  let r := m % 2 ^ sh
  let near := 2 ^ sh / 2 ^ 40
  let up := decide (2 ^ sh ≤ r + near) || (decide (near < r) && Config.f64Up f a)
  f64Bits (fmt64.round (decide (v < 0)) (if up then q + 1 else q) (e + sh))

/-- e to a power in fixed point. -/
def f64ExpOf (f : Nat) (a : F64) (x : Int) : F64 :=
  if 800 * fxOne < x then f64Bits fmt64.infBody
  else if x < -800 * fxOne then 0
  else
    let k := (2 * x + fxLn2) / (2 * fxLn2)
    f64Beside f a (expSum (x - k * fxLn2) 64 1 fxOne) (k - 256)

/-- A function of what is no finite number: the value at the infinities, or not a number. -/
def f64Limit (a : F64) (low high : FNum) : Option F64 :=
  match f64Num a with
  | .nan => some (f64Bits (fmt64.write .nan))
  | .inf neg => some (f64Bits (fmt64.write (if neg then low else high)))
  | .fin _ _ _ => none

def f64Exp (a : F64) : F64 := (f64Limit a (.fin false 0 0) (.inf false)).getD (f64ExpOf 0 a (f64Num a).fixed)

def f64Pow10 (a : F64) : F64 :=
  (f64Limit a (.fin false 0 0) (.inf false)).getD (f64ExpOf 1 a (fxMul (f64Num a).fixed fxLn10))

/-- An angle within half a turn of 0. -/
def fxAngle (x : Int) : Int := x - (x + fxPi) / (2 * fxPi) * (2 * fxPi)

def f64Sin (a : F64) : F64 :=
  let x := fxAngle (f64Num a).fixed
  (f64Limit a .nan .nan).getD (f64Beside 2 a (trigSum (fxMul x x) 48 1 x) (-256))

def f64Cos (a : F64) : F64 :=
  let x := fxAngle (f64Num a).fixed
  (f64Limit a .nan .nan).getD (f64Beside 3 a (trigSum (fxMul x x) 48 0 fxOne) (-256))

end Sys2Proof.Machine
end

