-- ==== Sys2Proof/Machine/CalVals.lean ====
section
/-!
DEFINITION. Calibrated values in force (R312 to R315): the factory layer with the user layer's deltas
and selections, and the terms that the element loop and the planner take from them (R32, R125, R315,
R339).
-/

namespace Sys2Proof.Machine

/-! ### Fields (R312, R314) -/

/-- The state of a calibration type. -/
def State.calType (s : State) (t : Nat) : CalType := mapGet s.cal.types t {}

/-- Replace the state of a calibration type. -/
def State.setCalType (s : State) (t : Nat) (v : CalType) : State :=
  { s with cal := { s.cal with types := mapSet s.cal.types t v {} } }

/-- A user slot of a calibration type. -/
def CalType.slot (c : CalType) (n : Nat) : CalSlot := if n = 0 then c.user0 else c.user1

/-- SEQ of a factory slot (R313). -/
def factorySeq (t k : Nat) : Nat := Config.factoryField (t + 16 * k) 0xFFFF 8 4 % 4294967296

/-- The factory slot in force: the valid one, or of two the one with the higher SEQ (R317). -/
def CalType.factorySlot (c : CalType) (t : Nat) : Nat :=
  if c.factoryBad.contains 0 then 1 else if c.factoryBad.contains 1 then 0
  else if factorySeq t 0 < factorySeq t 1 then 1 else 0

/-- A field of a unit's entry in the factory slot in force. -/
def State.fac (s : State) (t u off n : Nat) : Nat :=
  Config.factoryField (t + 16 * (s.calType t).factorySlot t) u off n % 256 ^ n

/-- A valid factory slot exists (R317). -/
def CalType.factoryValid (c : CalType) : Bool := !(c.factoryBad.contains 0 && c.factoryBad.contains 1)

/-- Replace a user slot. -/
def CalType.setSlot (c : CalType) (n : Nat) (v : CalSlot) : CalType :=
  if n = 0 then { c with user0 := v } else { c with user1 := v }

/-- The user layer's entry of a unit; empty where the layer is neutral. -/
def State.userEntry (s : State) (t u : Nat) : List Byte :=
  match (s.calType t).inForce with
  | none => []
  | some n => mapGet ((s.calType t).slot n).entries u []

/-- An integer field of `n` bytes: the factory value plus the user's signed delta. -/
def State.calInt (s : State) (t u off n : Nat) : Nat :=
  (((s.fac t u off n : Int) + bitsInt (8 * n) (leAt (s.userEntry t u) off n)) % (256 ^ n : Nat)).toNat

/-- An F32 field: the factory value plus the user's delta in binary32. -/
def State.calF32 (s : State) (t u off : Nat) : F32 :=
  f32Add (f32Bits (s.fac t u off 4)) (f32Bits (leAt (s.userEntry t u) off 4))

/-- A selection byte: the user value, unless it is 0xFF or the layer is neutral. -/
def State.calSel (s : State) (t u off : Nat) : Nat :=
  match (s.userEntry t u).drop off with
  | [] => s.fac t u off 1
  | b :: _ => if b = 0xFF#8 then s.fac t u off 1 else b.toNat

/-- TEMP of the slot in force of a type, Q8.8 °C: the user slot's, else the factory slot's. -/
def State.calTemp (s : State) (t : Nat) : Int :=
  match (s.calType t).inForce with
  | none => bitsInt 16 (s.fac t 0xFFFF 28 2)
  | some n => ((s.calType t).slot n).temp

/-! ### What the converters take (R312, R318)

The codes that reach the model are those of the calibrated converters (R162, R199, R248), so these values act before them. -/

/-- The reference capacitor of a channel's sense converter. -/
def State.refCap (s : State) (e : Nat) : Nat := s.calSel 2 e 0 % 3

/-- The 8 delay cells of an interpolator, 4 bits each; a byte of two 0xF indices means the factory's. -/
def State.taps (s : State) (u : Nat) : List Nat :=
  (numbers 0 4).flatMap fun i => [s.calSel 3 u i % 16, s.calSel 3 u i / 16]

/-- The gain and offset in dB of a detector's buoy converter. -/
def State.buoyGain (s : State) (d : Nat) : F32 := s.calF32 7 d 0
def State.buoyOffset (s : State) (d : Nat) : F32 := s.calF32 7 d 4

/-- The gain and offset in codes of an AUX output in V5, V10 or I250 (`range` 0, 1, 2). -/
def State.auxGain (s : State) (a range : Nat) : F32 := s.calF32 8 a (8 * range)
def State.auxOffset (s : State) (a range : Nat) : F32 := s.calF32 8 a (8 * range + 4)

/-! ### Elements (R18, R157) -/

/-- 0 fabric, 1 north port, 2 south port (R156). -/
def elemKind (e : Nat) : Nat := if e < 9728 then 0 else if e < 10752 then 1 else 2

/-- The number of elements. -/
def elemCount : Nat := 11776

/-- The element at stage `st`, position `p`. -/
def elemAt (st p : Nat) : Nat := st * 512 + p

/-- An element's stage; 0xFF for port elements. -/
def elemStage (e : Nat) : Nat := if e < 9728 then e / 512 else 0xFF

/-- The port number `p` of R18's detectors: k for north, 1,024 + k for south. -/
def portElem (p : Nat) : Nat := 9728 + p

/-- The element's state. -/
def State.elem (s : State) (e : Nat) : Elem := mapGet s.elems e {}

/-- Replace the element's state. -/
def State.setElem (s : State) (e : Nat) (v : Elem) : State :=
  { s with elems := mapSet s.elems e v {} }

/-- The element's loop profile. -/
def State.profileOf (s : State) (e : Nat) : Nat := s.obj (0x8000 + e) 5

/-- A field of the element's loop profile. -/
def State.prof (s : State) (e sub : Nat) : Nat := s.obj (0x5000 + s.profileOf e) sub

/-- An F32 field of the element's loop profile. -/
def State.profF (s : State) (e sub : Nat) : F32 := f32Bits (s.prof e sub)

/-! ### Compensation (R339) -/

/-- kh and kt of ELEM_TEMP_COEF. -/
def tempCoef (e off : Nat) : F32 := f32Bits (Config.factoryConst (0x8000 + e) 0x2A off)

/-- The factor of every HOLD_SQ entry at the temperature in use. -/
def State.holdScale (s : State) (e : Nat) : F32 :=
  match (s.elem e).tq with
  | none => f32OfInt 1
  | some t => f32Add (f32OfInt 1) (f32Mul (tempCoef e 0) (f32OfInt (t - s.calTemp 5) (-8)))

/-- The shift of bar, cross and split travels at the temperature in use, LSB. -/
def State.travelShift (s : State) (e : Nat) : Int :=
  match (s.elem e).tq with
  | none => 0
  | some t => f32RoundInt (f32Mul (tempCoef e 4) (f32OfInt (t - s.calTemp 6) (-8)))

/-- A travel with the shift, kept within U16. -/
def State.shifted (s : State) (e : Nat) (t : Nat) : Nat :=
  (clampInt 0 65535 ((t : Int) + s.travelShift e)).toNat

/-! ### Travels and couplings (R32, R315) -/

/-- The factory's bar and cross travels: they lie in R32's ranges. -/
def State.facBar (s : State) (e : Nat) : Nat := s.fac 6 e 0 2 % 1312
def State.facCross (s : State) (e : Nat) : Nat := 43253 + s.fac 6 e 2 2 % 5244

/-- ELEM_BAR_TRAVEL. -/
def State.barTravel (s : State) (e : Nat) : Nat :=
  ((s.facBar e : Int) + bitsInt 16 (leAt (s.userEntry 6 e) 0 2)).toNat % 65536

/-- ELEM_CROSS_TRAVEL: the factory value lies in R32's range. -/
def State.crossTravel (s : State) (e : Nat) : Nat :=
  ((s.facCross e : Int) + bitsInt 16 (leAt (s.userEntry 6 e) 2 2)).toNat % 65536

/-- Entry `i` of ELEM_ETA_MAP, Q0.16. -/
def State.etaEntry (s : State) (e i : Nat) : Nat := s.calInt 6 e (4 + 2 * i) 2

/-- The travel of entry `i` of ELEM_ETA_MAP. -/
def etaTravel (i : Nat) : Nat := if i = 64 then 65535 else 1024 * i

/-- The coupling of an entry as a fraction. -/
def State.etaF (s : State) (e i : Nat) : F64 := f64OfInt (s.etaEntry e i) (-16)

/-- The coupling that the map gives at a travel. -/
def State.etaAt (s : State) (e t : Nat) : F64 :=
  let i := min (t / 1024) 63
  let f := f64Ratio ((t : Int) - etaTravel i) ((etaTravel (i + 1) : Int) - etaTravel i)
  f64Add (s.etaF e i) (f64Mul f (f64Sub (s.etaF e (i + 1)) (s.etaF e i)))

/-- Search the map's entries from `i` for the segment that reaches a coupling; `n` entries are left. -/
def State.etaSearch (s : State) (e : Nat) (eta : F64) (i : Nat) : Nat → Nat
  | 0 => etaTravel i
  | n + 1 =>
    if f64Le eta (s.etaF e (i + 1)) then
      let d := f64Sub (s.etaF e (i + 1)) (s.etaF e i)
      let w : Int := (etaTravel (i + 1) : Int) - etaTravel i
      (clampInt 0 65535 ((etaTravel i : Int)
        + clampInt 0 w (f64RoundInt (f64Div (f64Mul (f64Sub eta (s.etaF e i)) (f64OfInt w)) d)))).toNat
    else s.etaSearch e eta (i + 1) n

/-- The travel of a coupling, on the segment between bar and cross travel (R315). -/
def State.etaInverse (s : State) (e : Nat) (eta : F64) : Nat :=
  let i := s.barTravel e / 1024
  (clampInt (s.barTravel e) (s.crossTravel e) (s.etaSearch e eta i (min 64 (s.crossTravel e / 1024 + 1) - i))).toNat

/-- The slope of the map at a travel, per LSB; at an entry, that of the segment toward which `up` moves. -/
def State.etaSlope (s : State) (e t : Nat) (up : Bool) : F64 :=
  let i := if t % 1024 = 0 ∧ !up ∧ 0 < t then t / 1024 - 1 else min (t / 1024) 63
  f64Div (f64Sub (s.etaF e (i + 1)) (s.etaF e i)) (f64OfInt ((etaTravel (i + 1) : Int) - etaTravel i))

/-- The travel of a port attenuation in Q8.8 dB (R177): η = 1 − 10^(−a/10). -/
def State.attenTravel (s : State) (e a : Nat) : Nat :=
  s.etaInverse e (f64Sub f64One (f64Pow10 (f64Neg (f64Ratio a 2560))))

/-! ### Electrical terms (R125, R127, R129) -/

/-- HOLD_SQ entry `i` with its compensation. -/
def State.holdEntry (s : State) (e i : Nat) : F32 := f32Mul (s.calF32 5 e (8 * i)) (s.holdScale e)

/-- GAIN_SQ entry `i`. -/
def State.gainEntry (s : State) (e i : Nat) : F32 := s.calF32 5 e (8 * i + 4)

/-- Hysteresis entry `i` of the FALL or RISE table. -/
def State.hystEntry (s : State) (e : Nat) (fall : Bool) (i : Nat) : F32 :=
  s.calF32 5 e (512 + (if fall then 64 else 0) + 4 * i)

/-- The lookup of R125 in a table of `n + 1` entries. -/
def tableLookup (t : Nat → F32) (n : Nat) (p : F32) : F32 :=
  let u := f32Mul (f32Min (f32Max p 0) (f32OfInt 1)) (f32OfInt n)
  let i := min (f32FloorInt u).toNat (n - 1)
  let f := f32Sub u (f32OfInt i)
  f32Add (t i) (f32Mul f (f32Sub (t (i + 1)) (t i)))

/-- HOLD_SQ at a travel. -/
def State.holdSq (s : State) (e : Nat) (p : F32) : F32 := tableLookup (s.holdEntry e) 63 p

/-- GAIN_SQ at a travel. -/
def State.gainSq (s : State) (e : Nat) (p : F32) : F32 := tableLookup (s.gainEntry e) 63 p

/-- The hysteresis offset at a travel. -/
def State.hystSq (s : State) (e : Nat) (fall : Bool) (p : F32) : F32 := tableLookup (s.hystEntry e fall) 15 p

/-- ELEM_ZETA. -/
def State.zeta (s : State) (e : Nat) : F32 := s.calF32 5 e 672

/-- ELEM_NOTCH_NEED is ALWAYS. -/
def State.notchAlways (s : State) (e : Nat) : Bool := decide (s.calSel 5 e 676 = 1)

/-- The travel of entry `i` of ELEM_RES_MAP. -/
def resTravel (i : Nat) : Int := roundDiv (i * 65535) 7

/-- The resonance at a travel in kHz, interpolated linearly, in binary64. -/
def State.resonance (s : State) (e t : Nat) : F64 :=
  let i := if (t : Int) < resTravel 1 then 0 else if (t : Int) < resTravel 2 then 1
    else if (t : Int) < resTravel 3 then 2 else if (t : Int) < resTravel 4 then 3
    else if (t : Int) < resTravel 5 then 4 else if (t : Int) < resTravel 6 then 5 else 6
  let a := f64OfF32 (s.calF32 5 e (640 + 4 * i))
  let b := f64OfF32 (s.calF32 5 e (644 + 4 * i))
  f64Add a (f64Mul (f64Ratio ((t : Int) - resTravel i) (resTravel (i + 1) - resTravel i)) (f64Sub b a))

/-- CHAN_CLEAR_LIMIT (R205). -/
def clearLimit (e : Nat) : Nat := Config.factoryConst (0x8000 + e) 0x31 0 % 1048576

end Sys2Proof.Machine
end

