-- ==== Sys2Proof/Machine/Traj.lean ====
section
/-!
DEFINITION. The trajectory generator and the zero-vibration shaper (R128, R129, R131). Time is in µs
and travel in fractions of full travel, all in binary64. Where the spec gives no order of evaluation
the model's is its own (log 9).
-/

namespace Sys2Proof.Machine

/-- A base state: position, rate, acceleration. -/
structure Kin where
  p : F64 := 0
  v : F64 := 0
  a : F64 := 0
  deriving DecidableEq, Repr

/-- 1/2 and 1/6. -/
def f64Half : F64 := 0x3FE0000000000000#64
def f64Sixth : F64 := f64Ratio 1 6

/-- The state after a time `t` at jerk `j`. -/
def Kin.after (k : Kin) (j t : F64) : Kin :=
  let t2 := f64Mul t t
  { p := f64Add (f64Add (f64Add k.p (f64Mul k.v t)) (f64Mul (f64Mul k.a t2) f64Half))
           (f64Mul (f64Mul j (f64Mul t2 t)) f64Sixth)
    v := f64Add (f64Add k.v (f64Mul k.a t)) (f64Mul (f64Mul j t2) f64Half)
    a := f64Add k.a (f64Mul j t) }

/-- The state at the end of phases. -/
def Kin.run (k : Kin) : List (F64 × F64) → Kin
  | [] => k
  | (j, d) :: rest => (k.after j d).run rest

/-- The state a time `t` into phases; none past their end. -/
def Kin.at_ (k : Kin) (t : F64) : List (F64 × F64) → Option Kin
  | [] => none
  | (j, d) :: rest => if f64Lt t d then some (k.after j t) else (k.after j d).at_ (f64Sub t d) rest

/-- The total time of phases. -/
def phaseTime : List (F64 × F64) → F64
  | [] => 0
  | (_, d) :: rest => f64Add d (phaseTime rest)

/-! ### Planning (R128, R131) -/

/-- The limits of a move. -/
structure Lims where
  v : F64
  a : F64
  j : F64
  deriving DecidableEq, Repr

/-- The fastest phases from rate `v0` and acceleration `a0` to rate `v1` at zero acceleration, within
the limits of acceleration and jerk. -/
def rampPhases (l : Lims) (v0 a0 v1 : F64) : List (F64 × F64) :=
  -- the rate reached by taking the acceleration straight to zero
  let vs := f64Add v0 (f64Div (f64Mul a0 (f64Abs a0)) (f64Mul (f64OfInt 2) l.j))
  let up := f64Le vs v1
  let sgn (x : F64) : F64 := if up then x else f64Neg x
  let dv := sgn (f64Sub v1 v0)
  let a := sgn a0
  let pk := f64Sqrt (f64Max 0 (f64Add (f64Mul l.j dv) (f64Mul (f64Mul a a) f64Half)))
  let top := f64Min pk l.a
  let t1 := f64Max 0 (f64Div (f64Sub top a) l.j)
  let t3 := f64Div top l.j
  let used := f64Div (f64Sub (f64Mul (f64OfInt 2) (f64Mul top top)) (f64Mul a a)) (f64Mul (f64OfInt 2) l.j)
  let t2 := if f64Lt l.a pk then f64Max 0 (f64Div (f64Sub dv used) top) else 0
  [(sgn l.j, t1), (0, t2), (sgn (f64Neg l.j), t3)]

/-- The phases of a move that peaks at rate `vp`, without a cruise. -/
def peakPhases (l : Lims) (k : Kin) (vp : F64) : List (F64 × F64) :=
  rampPhases l k.v k.a vp ++ rampPhases l vp 0 0

/-- Halve an interval `n` times around the value at which a position that rises with it reaches a target. -/
def bisect (f : F64 → F64) (target : F64) : Nat → F64 → F64 → F64
  | 0, lo, _ => lo
  | n + 1, lo, hi =>
    let mid := f64Mul (f64Add lo hi) f64Half
    if f64Le (f mid) target then bisect f target n mid hi else bisect f target n lo mid

/-- The phases of a stop that first eases its braking to an acceleration `a`. -/
def easedPhases (l : Lims) (k : Kin) (a : F64) : List (F64 × F64) :=
  let t := f64Div (f64Sub a k.a) l.j
  let k1 := k.after l.j t
  (l.j, t) :: rampPhases l k1.v k1.a 0

/-- The shortest phases from a state to rest at a target that its firmest stop does not pass: a peak rate within
the limit, with a cruise where the limit is reached; where even taking the acceleration straight to zero leads
past the target, a braking that is eased. -/
def aheadPhases (l : Lims) (k : Kin) (target : F64) : List (F64 × F64) :=
  let lo := f64Max 0 (f64Add k.v (f64Div (f64Mul k.a (f64Abs k.a)) (f64Mul (f64OfInt 2) l.j)))
  let peakEnd (v : F64) : F64 := (k.run (peakPhases l k v)).p
  if f64Lt (peakEnd l.v) target then
    rampPhases l k.v k.a l.v ++ [(0, f64Div (f64Sub target (peakEnd l.v)) l.v)] ++ rampPhases l l.v 0 0
  else if f64Le (peakEnd lo) target then peakPhases l k (bisect peakEnd target 64 lo l.v)
  else easedPhases l k (bisect (fun a => (k.run (easedPhases l k a)).p) target 64 k.a 0)

/-- A base state seen from the other side, and phases turned round. -/
def Kin.flip (k : Kin) : Kin := ⟨f64Neg k.p, f64Neg k.v, f64Neg k.a⟩
def flipPhases (l : List (F64 × F64)) : List (F64 × F64) := l.map fun q => (f64Neg q.1, q.2)

/-- The shortest phases from a state to rest at a target: four equal jerk phases for a short move from rest; else
toward a target at or past the stopping point, or, for one that is passed, back to it (R128, R131). -/
def planPhases (l : Lims) (k : Kin) (target : F64) : List (F64 × F64) :=
  let d := f64Sub target k.p
  let fwd := f64Le 0 d
  let sgn (x : F64) : F64 := if fwd then x else f64Neg x
  let tj := f64Cbrt (f64Div (f64Abs d) (f64Mul (f64OfInt 2) l.j))
  if k.v = 0 ∧ k.a = 0 ∧ d = 0 then []
  else if k.v = 0 ∧ k.a = 0 ∧ f64Le (f64Mul l.j tj) l.a ∧ f64Le (f64Mul l.j (f64Mul tj tj)) l.v then
    [(sgn l.j, tj), (sgn (f64Neg l.j), f64Mul (f64OfInt 2) tj), (sgn l.j, tj)]
  else if f64Le (k.run (rampPhases l k.v k.a 0)).p target then aheadPhases l k target
  else flipPhases (aheadPhases l k.flip (f64Neg target))

/-! ### The base trajectory and the reference -/

/-- A travel in LSB as a fraction of full travel. -/
def travelF (t : Nat) : F64 := f64OfInt t (-16)

/-- The step-free clock of transit or of hold periods, in units of 2^-16 ns: each counts its own length, stretched or not
(R236). The trajectory generator, batch settle and the settle limit run on it. -/
def State.clock (s : State) (transit : Bool) : Nat :=
  s.time.elapsed - (if transit then s.time.slackT else s.time.slackH)

/-- Microseconds from one instant of a clock to another, in units of 2^-16 ns. -/
def usBetween (a b : Nat) : F64 := f64Div (f64OfInt (((b : Int) - a)) (-16)) (f64OfInt 1000)

/-- The base state that a trajectory gives at an elapsed instant at or after its time zero. -/
def Traj.at_ (t : Traj) (now : F64) : Kin :=
  match (Kin.mk t.p0 t.v0 t.a0).at_ now t.phases with
  | some k => k
  | none => ⟨travelF t.target, 0, 0⟩

/-- The base state at a time `back` µs before the elapsed instant `now`: of the newest trajectory begun
by then, and before the first its start position. -/
def baseAt (trajs : List Traj) (rest : Nat) (now : Nat) (back : F64) : Kin :=
  match trajs with
  | [] => ⟨travelF rest, 0, 0⟩
  | t :: older =>
    let u := f64Sub (usBetween t.start now) back
    if f64Le 0 u then t.at_ u
    else match older with
      | [] => ⟨t.p0, 0, 0⟩
      | _ :: _ => baseAt older rest now back

/-- The base trajectory has ended by an instant, `back` µs ago. -/
def baseDone (trajs : List Traj) (now : Nat) (back : F64) : Bool :=
  match trajs with
  | [] => true
  | t :: _ => f64Le (phaseTime t.phases) (f64Sub (usBetween t.start now) back)

/-- The shaper's delay, 0 without shaping. -/
def Elem.tau (x : Elem) : F64 :=
  match x.shaper with
  | none => 0
  | some h => h.tau

/-- The reference has reached its final target and rests there at an elapsed instant. -/
def Elem.atRest (x : Elem) (now : Nat) : Bool := baseDone x.trajs now x.tau

/-- The shaped reference at an elapsed instant: position, rate and acceleration (R129). -/
def Elem.reference (x : Elem) (now : Nat) : Kin :=
  if x.atRest now then ⟨travelF x.target, 0, 0⟩
  else
    let b := baseAt x.trajs x.target now 0
    match x.shaper with
    | none => b
    | some h =>
      let c := baseAt x.trajs x.target now h.tau
      ⟨f64Add (f64Mul h.a1 b.p) (f64Mul h.a2 c.p),
       f64Add (f64Mul h.a1 b.v) (f64Mul h.a2 c.v),
       f64Add (f64Mul h.a1 b.a) (f64Mul h.a2 c.a)⟩

/-- π in binary64. -/
def f64Pi : F64 := 0x400921FB54442D18#64

/-- The shaper of a move to a target (R129): none where SHAPING is OFF. -/
def State.shaperFor (s : State) (e target : Nat) : Option Shaper :=
  if s.prof e 0x1A = 0 then none
  else
    let z := f64OfF32 (s.zeta e)
    let k := f64Exp (f64Neg (f64Div (f64Mul z f64Pi) (f64Sqrt (f64Sub f64One (f64Mul z z)))))
    let den := f64Add f64One k
    -- kHz to µs: half a period is 500 / f
    some ⟨f64Div f64One den, f64Div k den, f64Div (f64OfInt 500) (s.resonance e target)⟩

/-- The limits of a move at transit or hold rate, those kept from before a change first (R133). -/
def State.limsFor (s : State) (e : Nat) (transit : Bool) : Lims :=
  let x := s.elem e
  let o := if transit then 0 else 3
  let g (i : Nat) : F64 := f64OfF32 (x.limits.getD (o + i) (s.profF e (0x0E + o + i)))
  ⟨g 0, g 1, g 2⟩

/-- A new target from an elapsed instant on: a re-plan from the base state there, or a move from rest
with a shaper of its own (R129, R131). -/
def State.startMove (s : State) (e target now : Nat) (transit : Bool) (from_ : Kin) (rest : Bool) (x : Elem) : Elem :=
  let t : Traj := { start := now, p0 := from_.p, v0 := from_.v, a0 := from_.a, target := target,
                    phases := planPhases (s.limsFor e transit) from_ (travelF target) }
  { x with
    target := target
    trajs := if rest then [t] else t :: x.trajs
    shaper := if rest then s.shaperFor e target else x.shaper
    winRun := 0
    settled := false
    reachedAt := none }

end Sys2Proof.Machine
end

