-- ==== Sys2Proof/Machine/Loop.lean ====
section
/-!
DEFINITION. The element position loop: one update (R123 to R126), the notch filter (R127), the
hand-over (R145, R146), the settle test (R134), the fault counts (R141), the plausibility of a code
(R286) and the lanes (R148 to R155).
-/

namespace Sys2Proof.Machine

/-! ### Gains and samples -/

/-- The gains of a rate (R157). -/
structure Gains where
  kp : F32
  ki : F32
  kd : F32
  kv : F32
  ka : F32
  invDt : F32
  deriving DecidableEq, Repr

/-- The gains of an element's profile at transit or hold rate; inv_dt is 4 or 0.125 per µs (R124). -/
def State.gains (s : State) (e : Nat) (transit : Bool) : Gains :=
  let o := if transit then 0 else 5
  ⟨s.profF e (1 + o), s.profF e (2 + o), s.profF e (3 + o), s.profF e (4 + o), s.profF e (5 + o),
   if transit then f32OfInt 4 else f32OfInt 1 (-3)⟩

/-- A sense word as measured travel: a fraction of full travel (R123). -/
def senseX (w : Int) : F32 := f32OfInt w (-24)

/-- Travel LSB as a fraction in binary32. -/
def lsbF (t : Int) : F32 := f32OfInt t (-16)

/-- The clamp of a sense word (R197). -/
def clampWord (w : Int) : Int := clampInt (-1048576) 17825792 w

/-! ### The sense converter (R196, R197) -/

/-- Entry `i` of CHAN_CAP_MAP. -/
def State.capEntry (s : State) (e i : Nat) : Nat := s.fac 9 e (4 * i) 4

/-- The segment of the map that serves a mean of `n` codes: the one whose entries bracket it, else the first or last. -/
def State.capSegment (s : State) (e sum n : Nat) : Nat :=
  let m (i : Nat) : Nat := n * s.capEntry e i
  match (numbers 0 32).filter fun i => decide (m i ≤ sum ∧ sum ≤ m (i + 1)) || decide (m (i + 1) ≤ sum ∧ sum ≤ m i) with
  | i :: _ => i
  | [] => if decide (m 0 ≤ m 32) = decide (sum < m 0) then 0 else 31

/-- Travel in units of 2^-8 LSB that the converter finds for a mean of `n` codes: the map's, with the gain and offset
in force (R315), to the nearest unit (log 77). -/
def State.travelOf (s : State) (e sum n : Nat) : Int :=
  let i := s.capSegment e sum n
  let a : Int := n * s.capEntry e i
  let d : Int := n * s.capEntry e (i + 1) - a
  if d = 0 then Config.flatTravel e sum
  else
    let t := f64Add (f64OfInt (524288 * i)) (f64Div (f64OfInt (524288 * (sum - a))) (f64OfInt d))
    f64RoundInt (f64Add (f64Mul t (f64OfF32 (s.calF32 2 e 4)))
      (f64Mul (f64OfInt 256) (f64OfF32 (s.calF32 2 e 8))))

/-- The sense word of a list of transit values; the last word where there is none. -/
def State.senseWord (s : State) (e : Nat) (values : List Nat) (last : Int) : Int :=
  if values.isEmpty then last else clampWord (s.travelOf e values.sum values.length)

/-! ### The notch (R127) -/

/-- The coefficients b0, b1, b2, a1, a2 at a sampling rate in kHz, and whether the set passes through. -/
def notchSet (f fs q : F64) : List F32 × Bool :=
  let fa := f64Abs (f64Sub f (f64Mul fs (f64OfInt (f64RoundInt (f64Div f fs)))))
  if f64Lt fa (f64OfInt 10) then ([f32OfInt 1, 0, 0, 0, 0], true)
  else
    let w0 := f64Div (f64Mul (f64Mul (f64OfInt 2) f64Pi) fa) fs
    let al := f64Div (f64Sin w0) (f64Mul (f64OfInt 2) q)
    let den := f64Add f64One al
    let b0 := f64Div f64One den
    let b1 := f64Div (f64Mul (f64OfInt (-2)) (f64Cos w0)) den
    let a2 := f64Div (f64Sub f64One al) den
    ([f32OfF64 b0, f32OfF64 b1, f32OfF64 b0, f32OfF64 b1, f32OfF64 a2], false)

/-- A notch slot assigned to an element at a frequency in kHz, with NOTCH_Q of its profile. -/
def State.makeNotch (s : State) (e use : Nat) (f : F64) : Notch :=
  let q := f64OfF32 (s.profF e 0x1B)
  let t := notchSet f (f64OfInt 4000) q
  let h := notchSet f (f64OfInt 125) q
  { owner := e, use := use, freq := f32OfF64 f, coefT := t.1, coefH := h.1, bypassH := h.2 }

/-- The coefficients of a rate. -/
def Notch.coef (n : Notch) (transit : Bool) (i : Nat) : F32 :=
  (if transit then n.coefT else n.coefH).getD i 0

/-- Notch slot `n`. -/
def State.notch (s : State) (n : Nat) : Notch := mapGet s.notches n {}

/-- Replace notch slot `n`. -/
def State.setNotch (s : State) (n : Nat) (v : Notch) : State :=
  { s with notches := mapSet s.notches n v {} }

/-- One step of the filter: its output and its slot. -/
def Notch.step (n : Notch) (transit : Bool) (w : F32) : F32 × Notch :=
  let c := n.coef transit
  let y := f32Add (f32Mul (c 0) w) n.s1
  let s1 := f32Add (f32Sub (f32Mul (c 1) w) (f32Mul (c 3) y)) n.s2
  let s2 := f32Sub (f32Mul (c 2) w) (f32Mul (c 4) y)
  (y, { n with s1 := s1, s2 := s2 })

/-! ### One update (R124) -/

/-- An element with its notch slot, as an update takes and leaves them. -/
structure LoopSt where
  x : Elem
  n : Option Notch

/-- The element and its notch slot. -/
def State.loopSt (s : State) (e : Nat) : LoopSt :=
  let x := s.elem e
  ⟨x, match x.notch with | none => none | some i => some (s.notch i)⟩

/-- Put an element and its notch slot back. -/
def State.putLoop (s : State) (e : Nat) (l : LoopSt) : State :=
  match l.x.notch, l.n with
  | some i, some v => (s.setNotch i v).setElem e l.x
  | _, _ => s.setElem e l.x

/-- 1,048,575 in binary32. -/
def codeScale : F32 := f32OfInt 1048575

/-- One loop update during the period that ends at the elapsed instant `next`, at transit or hold rate,
with a dither value: the code computed and the element with its new loop state. -/
def State.update (s : State) (e : Nat) (transit : Bool) (next : Nat) (dither : F32) (l : LoopSt) : Nat × LoopSt :=
  let g := s.gains e transit
  let x := senseX l.x.word
  let ref := l.x.reference next
  let r0 := f32OfF64 ref.p
  let vr := f32OfF64 ref.v
  let ar := f32OfF64 ref.a
  let r := f32Add r0 dither
  let fall := if f32Lt 0 vr then false else if f32Lt vr 0 then true else l.x.fall
  let et := f32Sub r x
  let d := if l.x.dropRate then 0 else f32Mul (f32Sub x l.x.xPrev) g.invDt
  let u1 := f32Mul g.kp et
  let u2 := f32Sub u1 (f32Mul g.kd d)
  let u3 := f32Add u2 (f32Mul g.kv vr)
  let u4 := f32Add u3 (f32Mul g.ka ar)
  let u := f32Add u4 l.x.iAcc
  let w1 := f32Add (s.holdSq e r) (f32Mul (s.gainSq e x) u)
  let w2 := f32Add w1 (s.hystSq e fall r)
  let (w, n') := match l.n with
    | none => (w2, none)
    | some n => let (y, n1) := n.step transit w2; (y, some n1)
  let c0 := (f32RoundInt (f32Mul (f32Sqrt (f32Max w 0)) codeScale)).toNat
  let top := s.prof e 0x14
  let hi := decide (top ≤ c0)
  let lo := f32Le w 0
  let c := min c0 top
  let lim := s.profF e 0x0B
  let i := if (hi && f32Lt 0 et) || (lo && f32Lt et 0) then l.x.iAcc
    else f32Clamp (f32Neg lim) lim (f32Add l.x.iAcc (f32Mul g.ki et))
  let off := f32Abs (f32Sub r0 x)
  (c, ⟨{ l.x with
        fall := fall
        iAcc := i
        xPrev := x
        dropRate := false
        satHi := hi
        satLo := lo
        error := f32RoundInt (f32Mul et (f32OfInt 16777216))
        trackRun := if f32Lt (lsbF (s.prof e 0x17)) off then l.x.trackRun + 1 else 0
        satRun := if hi then l.x.satRun + 1 else 0 }, n'⟩)

/-! ### The hand-over (R146) -/

/-- 0.005 of full travel in binary32. -/
def nearTarget : F32 := 0x3BA3D70A#32

/-- Preload the integrator and the notch for a starting reference and the outgoing code. -/
def State.preload (s : State) (e : Nat) (transit : Bool) (r0 : F32) (prev : Int) (l : LoopSt) : LoopSt :=
  let g := s.gains e transit
  let x := senseX l.x.word
  let xp := senseX prev
  let q := f32Div (f32OfInt l.x.code) codeScale
  let w := f32Mul q q
  let e0 := f32Sub r0 x
  let d0 := f32Mul (f32Sub x xp) g.invDt
  let need := f32Div (f32Sub (f32Sub w (s.holdSq e r0)) (s.hystSq e l.x.fall r0)) (s.gainSq e x)
  let want := f32Sub need (f32Sub (f32Mul g.kp e0) (f32Mul g.kd d0))
  let lim := s.profF e 0x0B
  let i := f32Clamp (f32Neg lim) lim want
  let n' := match l.n with
    | none => none
    | some n =>
      let c := n.coef transit
      let s2 := f32Sub (f32Mul (c 2) w) (f32Mul (c 4) w)
      some { n with s2 := s2, s1 := f32Add (f32Sub (f32Mul (c 1) w) (f32Mul (c 3) w)) s2 }
  ⟨{ l.x with iAcc := i, xPrev := xp, dropRate := false, clamped := decide (i ≠ want) || l.x.clamped,
              trackRun := 0, satRun := 0 }, n'⟩

/-- The starting reference: the held target where the travel is near it, else the travel (R146). -/
def startRef (held : Nat) (word : Int) : Option Nat :=
  if f32Le (f32Abs (f32Sub (lsbF held) (senseX word))) nearTarget then some held else none

/-- A hand-over into a rate with the position held until now and the target from now on: the reference
restarts from rest at the held target or at the travel, and the loop is preloaded for it. -/
def State.handOver (s : State) (e : Nat) (transit : Bool) (now held target : Nat) (prev : Int) (l : LoopSt) : LoopSt :=
  match startRef held l.x.word with
  | some h =>
    let x1 := if h = target then { l.x with trajs := [], shaper := none, target := target }
      else s.startMove e target now transit ⟨travelF h, 0, 0⟩ true l.x
    s.preload e transit (lsbF h) prev ⟨x1, l.n⟩
  | none =>
    let p := f64OfF32 (senseX l.x.word)
    s.preload e transit (senseX l.x.word) prev ⟨s.startMove e target now transit ⟨p, 0, 0⟩ true l.x, l.n⟩

/-- A hand-over that leaves the target as it is. -/
def State.handOverHere (s : State) (e : Nat) (transit : Bool) (now : Nat) (l : LoopSt) : LoopSt :=
  s.handOver e transit now l.x.target l.x.target l.x.wordPrev l

/-- The hand-over of a failover (R294): r0 is the reference that the generator gives for the boundary `next` at which
the incoming Anvil's code is applied, without a restart. -/
def State.handOverKeep (s : State) (e : Nat) (transit : Bool) (next : Nat) (l : LoopSt) : LoopSt :=
  s.preload e transit (f32OfF64 (l.x.reference next).p) l.x.wordPrev l

/-- A target that takes effect on a running loop without a change of mode (R130, R131). -/
def State.retarget (s : State) (e target now : Nat) (transit : Bool) (x : Elem) : Elem :=
  if x.target = target then x
  else if x.atRest now then s.startMove e target now transit ⟨travelF x.target, 0, 0⟩ true x
  else s.startMove e target now transit (baseAt x.trajs x.target now 0) false x

/-! ### Modes -/

/-- The element runs its loop in this mode. -/
def EMode.runs : EMode → Bool
  | .hold => true
  | .transit => true
  | .trim => true
  | _ => false

/-- ELEM_MODE. -/
def EMode.code : EMode → Nat
  | .parked => 0
  | .hold => 1
  | .transit => 2
  | .trim => 3
  | .manual => 4
  | .faulted => 5

/-- Elements in transit, in element order. -/
def State.transitElems (s : State) : List Nat :=
  (s.elems.filter fun p => decide (p.2.mode = .transit)).map fun p => p.1

/-- Some element is in TRANSIT. -/
def State.anyTransit (s : State) : Bool := s.elems.any fun p => decide (p.2.mode = .transit)

/-! ### Lanes (R148, R152 to R154, R159) -/

/-- A lane at reset: transit lanes 0 to 63 and hold lanes 128 to 133 work, the others are spares. -/
def laneReset (n : Nat) : Lane :=
  { kind := if n < 64 ∨ (128 ≤ n ∧ n < 134) then .working else .spare }

/-- The lanes of an Anvil. -/
def State.lanes (s : State) : Anvil → SMap Lane
  | .a => s.lanesA
  | .b => s.lanesB

/-- A lane of an Anvil; hold lanes are numbered from 0x80. -/
def State.lane (s : State) (v : Anvil) (n : Nat) : Lane := mapGet (s.lanes v) n (laneReset n)

/-- Replace a lane. -/
def State.setLane (s : State) (v : Anvil) (n : Nat) (l : Lane) : State :=
  { s with
    lanesA := if v = .a then mapSet s.lanesA n l (laneReset n) else s.lanesA
    lanesB := if v = .a then s.lanesB else mapSet s.lanesB n l (laneReset n) }

/-- The lane serves slots. -/
def Lane.works (l : Lane) : Bool := decide (l.kind = .working) || decide (l.kind = .spareActive)

/-- Working hold lanes, ascending. -/
def State.holdLanes (s : State) (v : Anvil) : List Nat :=
  (numbers 128 8).filter fun n => (s.lane v n).works

/-- Idle spares among `count` lanes from `first`. -/
def State.spares (s : State) (v : Anvil) (first count : Nat) : List Nat :=
  (numbers first count).filter fun n => decide ((s.lane v n).kind = .spare)

/-- The lane that carries the slots of lane `n`: itself while it works, else the spare that took them;
none where nothing does (R152). -/
def State.carrier (s : State) (v : Anvil) (n : Nat) : Option Nat :=
  if (s.lane v n).works then some n
  else ((numbers 64 4 ++ numbers 134 2).filter fun m =>
    decide ((s.lane v m).carries = n) && (s.lane v m).works).head?

/-- The transit lane that serves an element; none on a fallback (R148, R152, R153). -/
def State.transitLane (s : State) (v : Anvil) (e : Nat) : Option Nat := s.carrier v (e % 64)

/-- The hold lane that serves an element (R148, R152, R154). -/
def State.holdLane (s : State) (v : Anvil) (e : Nat) : Nat :=
  match s.carrier v (128 + e % 6) with
  | some n => n
  | none =>
    let l := s.holdLanes v
    l.getD (e % l.length) 128

/-- The drive source of a Keeper state (R287). -/
def KState.source : KState → Option Anvil
  | .duplexA => some .a
  | .simplexA => some .a
  | .duplexB => some .b
  | .simplexB => some .b
  | _ => none

/-- The Anvil whose codes, computed now, drive the channels: the commanded one during a take-over (R287,
R293). -/
def State.activeAnvil (s : State) : Option Anvil :=
  match s.keeper.takeover with
  | some t => some t.1
  | none => s.keeper.state.source

/-- The other Anvil. -/
def otherAnvil : Anvil → Anvil
  | .a => .b
  | .b => .a

/-- 0 for A, 1 for B. -/
def anvilNo : Anvil → Nat
  | .a => 0
  | .b => 1

/-- What the arbiter keeps about an Anvil. -/
def State.anvil (s : State) : Anvil → AnvilSt
  | .a => s.keeper.a
  | .b => s.keeper.b

/-- Replace what the arbiter keeps about an Anvil. -/
def State.setAnvil (s : State) (v : Anvil) (x : AnvilSt) : State :=
  { s with keeper := match v with
    | .a => { s.keeper with a := x }
    | .b => { s.keeper with b := x } }

/-- The element is updated at hold rate although in TRANSIT: its transit lane is retired with no spare
on the active Anvil (R153). -/
def State.onFallback (s : State) (e : Nat) : Bool :=
  match s.activeAnvil with
  | none => false
  | some v => (s.transitLane v e).isNone

/-- The element's current rate is the transit rate (R120). -/
def State.atTransitRate (s : State) (e : Nat) : Bool :=
  decide ((s.elem e).mode = .transit) && !s.onFallback e

/-- The step-free clock of an element's rate. -/
def State.loopClock (s : State) (e : Nat) : Nat := s.clock (s.atTransitRate e)

/-! ### Plausibility (R286) -/

/-- A code is implausible after code `cp` for an element with its present sense word. -/
def State.implausible (s : State) (e cp c : Nat) : Bool :=
  let x := s.elem e
  let step := if x.mode = .transit then s.obj 0x3400 6 else s.obj 0x3400 7
  decide (s.prof e 0x14 < c)
    || decide (step < (if c ≤ cp then cp - c else c - cp))
    || (decide (cp < c) && decide (((s.prof e 0x0D + s.prof e 0x15 : Nat) : Int) * 256 < x.word))

/-- The code that an Anvil wrote in place of the law's, where it is faulty. -/
def badCode (bad : List (Anvil × Nat × Nat)) (v : Anvil) (e c : Nat) : Nat :=
  match bad.filter fun b => decide (b.1 = v ∧ b.2.1 = e) with
  | [] => c
  | b :: _ => b.2.2

/-- The Anvil computes the live periods: it drives, stands by, or is resynchronised up to them. Its codes reach the drive
selector and its signatures are compared. -/
def AnvilSt.live (a : AnvilSt) : Bool :=
  decide (a.state = .active) || decide (a.state = .standby) || (decide (a.state = .resync) && decide (a.step = 3))

/-- Count an implausible code of an Anvil. -/
def countImplausible (v : Anvil) (s : State) : State :=
  s.setAnvil v { s.anvil v with implNow := (s.anvil v).implNow + 1 }

/-- A code that an Anvil wrote: one that is not the law's `c` changes its signature (R284). -/
def signCode (v : Anvil) (e c written : Nat) (s : State) : State :=
  if written = c then s else s.setAnvil v { s.anvil v with oddNow := (e, written) :: (s.anvil v).oddNow }

/-- Give the drive selector the codes of the Anvils that run for an element, given the law's code `c`: an implausible one
of the active Anvil is held and counted; the same implausible code of both raises 0x20E, and blames neither. -/
def selectCode (bad : List (Anvil × Nat × Nat)) (v : Anvil) (e c : Nat) (s : State) : State :=
  let x := s.elem e
  let o := otherAnvil v
  let runs := (s.anvil o).live
  let cv := badCode bad v e c
  let co := badCode bad o e c
  let iv := s.implausible e x.code cv
  let both := runs && iv && decide (co = cv)
  let s0 := signCode v e c cv (if runs then signCode o e c co s else s)
  let s1 := if iv && !both then countImplausible v s0 else s0
  let s2 := if runs && s.implausible e x.code co && !both then countImplausible o s1 else s1
  let s3 := if iv then
      { s2 with keeper := { s2.keeper with heldCodes := (s2.keeper.heldCodes + 1) % 4294967296 } } else s2
  let s4 := if both then raiseLimited 0x20E 1000000000 0x20E [] s3 else s3
  s4.setElem e { s4.elem e with nextCode := if iv then x.code else cv }

/-! ### Samples and the settle test (R134, R141) -/

/-- Take a sense word for an element: the word, and the runs of the causes that samples count. -/
def State.sample (s : State) (e : Nat) (w : Int) (x : Elem) : Elem :=
  let w := clampWord w
  let lo : Int := ((s.prof e 0x0C : Nat) : Int) - (s.prof e 0x15 : Nat)
  let hi : Int := ((s.prof e 0x0D : Nat) : Int) + (s.prof e 0x15 : Nat)
  { x with
    word := w
    wordPrev := x.word
    senseRun := if w < -1024 * 256 ∨ 66560 * 256 < w then x.senseRun + 1 else 0
    windowRun := if w < lo * 256 ∨ hi * 256 < w then x.windowRun + 1 else 0 }

/-- The sample lies within the settle window of the final target. -/
def State.inWindow (s : State) (e : Nat) (x : Elem) : Bool :=
  decide ((x.word - (x.target : Int) * 256).natAbs ≤ s.prof e 0x15 * 256)

/-- The settle test at a sample of elapsed instant `now`: whether the element settles, and the element
with its run of samples in the window. -/
def State.settleTest (s : State) (e now : Nat) (x : Elem) : Bool × Elem :=
  let run := if s.inWindow e x then x.winRun + 1 else 0
  let rest := x.atRest now
  (rest && decide (s.prof e 0x16 ≤ run) && !x.settled,
   { x with winRun := run, reachedAt := if rest then (match x.reachedAt with | none => some now | r => r) else none })

/-- The drive of an element that runs no loop: its clear code, its manual code, or 0 V. -/
def State.openCode (s : State) (e : Nat) : Nat :=
  let x := s.elem e
  match x.mode with
  | .parked => mapGet s.clear.table e 0
  | .manual => x.manualCode
  | _ => 0

end Sys2Proof.Machine
end

