-- ==== Sys2Proof/Machine/Fabric.lean ====
section
/-!
DEFINITION. The fabric's lines and paths (R29 to R31), circuits and their canonical records (R51 to R53,
R75), fan-out trees with their splits, shadow ports and traces (R37, R66), and what makes a configuration
legal.
-/

namespace Sys2Proof.Machine

/-! ### Lines and elements (R30) -/

/-- The bit in which the lines of a stage's pairs differ: |9 − s|. -/
def stageBit (st : Nat) : Nat := if st ≤ 9 then 9 - st else st - 9

/-- The position of the element that line `l` meets at a stage. -/
def posAt (st l : Nat) : Nat :=
  let b := stageBit st
  l / 2 ^ (b + 1) * 2 ^ b + l % 2 ^ b

/-- The element that line `l` meets at a stage. -/
def elemOn (st l : Nat) : Nat := elemAt st (posAt st l)

/-- The line that a stage's element pairs with `l`. -/
def partner (st l : Nat) : Nat := l ^^^ 2 ^ stageBit st

/-- The upper line of the element at a stage and position. -/
def upperLine (st p : Nat) : Nat :=
  let b := stageBit st
  p / 2 ^ b * 2 ^ (b + 1) + p % 2 ^ b

/-- The line of a path after a stage, for ports `n` and `d` and middle line bits `m` (bits 9 to 1). -/
def lineAfter (n d m st : Nat) : Nat :=
  if st ≤ 8 then
    let lo := 9 - st
    2 * m / 2 ^ lo * 2 ^ lo + n % 2 ^ lo
  else
    let hi := st - 8
    2 * m / 2 ^ hi * 2 ^ hi + d % 2 ^ hi

/-- The line of a path at the input of a stage. -/
def lineInto (n d m st : Nat) : Nat := if st = 0 then n else lineAfter n d m (st - 1)

/-! ### Uses of lines -/

/-- A light path's or a trace's use of a stage: the lines in and out, and whose it is. -/
structure Use where
  stage : Nat
  inL : Nat
  outL : Nat
  root : Nat
  deriving DecidableEq, Repr

/-- Two uses cannot stand together: one line carries one light, and only a group's own legs share one. -/
def Use.clash (u v : Use) : Bool :=
  decide (u.stage = v.stage) &&
    ((decide (u.inL = v.inL) && decide (u.root ≠ v.root))
      || (decide (u.outL = v.outL) && (decide (u.inL ≠ v.inL) || decide (u.root ≠ v.root))))

/-- The element of a use. -/
def Use.elem (u : Use) : Nat := elemOn u.stage u.inL

/-- The uses of a path. -/
def pathUses (n d m root : Nat) : List Use :=
  (numbers 0 19).map fun st => ⟨st, lineInto n d m st, lineAfter n d m st, root⟩

/-! ### Circuits -/

/-- Slot `id` of a configuration. -/
def Cfg.slot (c : Cfg) (id : Nat) : Slot := mapGet c.slots id {}

/-- Replace slot `id`. -/
def Cfg.setSlot (c : Cfg) (id : Nat) (v : Slot) : Cfg := { c with slots := mapSet c.slots id v {} }

/-- The slot is a leg: a P2P circuit or a LEG (R51). -/
def Slot.isLeg (x : Slot) : Bool := decide (x.kind = .p2p) || decide (x.kind = .leg)

/-- The legs of a configuration, by ascending ID. -/
def Cfg.legs (c : Cfg) : List (Nat × Slot) := c.slots.filter fun p => p.2.isLeg

/-- The legs of a group, by ascending ID. -/
def Cfg.groupLegs (c : Cfg) (g : Nat) : List (Nat × Slot) :=
  c.slots.filter fun p => decide (p.2.kind = .leg ∧ p.2.group = g)

/-- Whose light a leg carries: its group's, or its own. -/
def legRoot (id : Nat) (x : Slot) : Nat := if x.kind = .leg then x.group else id

/-- The uses of a leg. -/
def legUses (id : Nat) (x : Slot) : List Use := pathUses x.north x.south x.mid (legRoot id x)

/-- The 19 fabric elements of a leg's path, in stage order. -/
def Slot.fabricElems (x : Slot) : List Nat :=
  (numbers 0 19).map fun st => elemOn st (lineInto x.north x.south x.mid st)

/-- Every element of a leg's path: its port elements and its fabric elements (R31). -/
def Slot.pathElems (x : Slot) : List Nat :=
  portElem x.north :: portElem (1024 + x.south) :: x.fabricElems

/-- The leg's path passes an element. -/
def Slot.passes (x : Slot) (e : Nat) : Bool := x.isLeg && x.pathElems.contains e

/-- Legs whose path passes an element. -/
def Cfg.legsThrough (c : Cfg) (e : Nat) : List (Nat × Slot) := c.slots.filter fun p => p.2.passes e

/-- KIND (R51). -/
def Kind.code : Kind → Nat
  | .free => 0
  | .p2p => 1
  | .group => 2
  | .leg => 3

/-- FLAGS as they read: a LEG reads its group's, FANOUT is set on GROUP and LEG (R53). -/
def Cfg.flagsOf (c : Cfg) (id : Nat) : Nat :=
  let x := c.slot id
  match x.kind with
  | .free => 0
  | .p2p => x.flags % 4
  | .group => x.flags % 4 + 4
  | .leg => (c.slot x.group).flags % 4 + 4

/-- The circuit is PROTECTED. -/
def Cfg.protected_ (c : Cfg) (id : Nat) : Bool := (c.flagsOf id).testBit 0

/-- The canonical record of a slot (R75). -/
def Cfg.canonical (c : Cfg) (id : Nat) : List Byte :=
  let x := c.slot id
  leBytes 2 id ++ [BitVec.ofNat 8 x.kind.code, BitVec.ofNat 8 (c.flagsOf id)]
    ++ leBytes 2 x.north ++ leBytes 2 x.south ++ leBytes 2 x.group
    ++ [BitVec.ofNat 8 x.legCount, BitVec.ofNat 8 x.weight] ++ leBytes 4 0

/-- The canonical records of all slots. -/
def Cfg.canonicalAll (c : Cfg) : List Byte := (numbers 0 2048).flatMap c.canonical

/-- CONFIG_DIGEST of a generation (R75). -/
def Cfg.digest (c : Cfg) (gen : Nat) : List Byte := sha256 (leBytes 8 gen ++ c.canonicalAll)

/-- CFG_CIRCUIT_DIGEST (R105). -/
def Cfg.circuitDigest (c : Cfg) : List Byte := sha256 c.canonicalAll

/-! ### Splits and route states (R32, R37, R66) -/

/-- The split whose cross output takes `a` of `b` parts, in lowest terms. -/
def splitOf (a b : Nat) : RState := .split (a / Nat.gcd a b) (b / Nat.gcd a b)

/-- The state that a leg's path needs of its element at a stage, within its configuration. -/
def Cfg.legState (c : Cfg) (x : Slot) (st : Nat) : RState :=
  let i := lineInto x.north x.south x.mid st
  let o := lineAfter x.north x.south x.mid st
  let plain := if i = o then RState.bar else RState.cross
  if x.kind = .leg then
    let below := (c.groupLegs x.group).filter fun p =>
      decide (lineInto p.2.north p.2.south p.2.mid st = i)
    let crossing := below.filter fun p => decide (lineAfter p.2.north p.2.south p.2.mid st ≠ i)
    if crossing.isEmpty ∨ crossing.length = below.length then plain
    else splitOf ((crossing.map fun p => p.2.weight).sum) ((below.map fun p => p.2.weight).sum)
  else plain

/-- The state is a split. -/
def RState.isSplit : RState → Bool
  | .split _ _ => true
  | _ => false

/-- PATH's state code (R80). -/
def RState.code : RState → Nat
  | .bar => 0
  | .cross => 1
  | .split _ _ => 2

/-- The path of a leg: its elements and their states in stage order. -/
def Cfg.pathOf (c : Cfg) (id : Nat) : List (Nat × RState) :=
  let x := c.slot id
  if x.isLeg then (numbers 0 19).map fun st =>
    (elemOn st (lineInto x.north x.south x.mid st), c.legState x st)
  else []

/-- A leg's path as PATH shows it: its elements and their states, whatever a split's coupling (R80). -/
def Cfg.pathCodes (c : Cfg) (id : Nat) : List (Nat × Nat) := (c.pathOf id).map fun p => (p.1, p.2.code)

/-- The split elements of a group with the line on which light enters each, by leg and stage order. -/
def Cfg.groupSplits (c : Cfg) (g : Nat) : List (Nat × Nat) :=
  (c.groupLegs g).foldl (fun acc p =>
    (numbers 0 19).foldl (fun acc st =>
      let i := lineInto p.2.north p.2.south p.2.mid st
      if (c.legState p.2 st).isSplit ∧ !(acc.any fun q => decide (q.1 = elemOn st i)) then
        acc ++ [(elemOn st i, i)] else acc) acc) []

/-- The trace back from a split's second input: at each earlier stage the bit of `bits` chooses bar or
cross (R37). `l` is the line at the output of stage `k - 1`. Answers the shadow port and the uses. -/
def traceBack (root bits : Nat) : Nat → Nat → Nat × List Use
  | 0, l => (l, [])
  | k + 1, l =>
    let i := if bits.testBit k then partner k l else l
    let r := traceBack root bits k i
    (r.1, ⟨k, i, l, root⟩ :: r.2)

/-- The choices of a split's trace in a group's slot. -/
def Slot.traceBits (x : Slot) (e : Nat) : Nat :=
  match x.traces.filter fun t => decide (t.1 = e) with
  | [] => 0
  | t :: _ => t.2

/-- The traces of a group: for each split element its shadow port and the uses of the trace. Each trace
is its own: no other use shares its lines. -/
def Cfg.groupTraces (c : Cfg) (g : Nat) : List (Nat × Nat × List Use) :=
  (c.groupSplits g).map fun sp =>
    let st := sp.1 / 512
    let r := traceBack (4096 + sp.1) ((c.slot g).traceBits sp.1) st (partner st sp.2)
    (sp.1, r.1, r.2)

/-- The groups of a configuration. -/
def Cfg.groups (c : Cfg) : List Nat := (c.slots.filter fun p => decide (p.2.kind = .group)).map fun p => p.1

/-- SHADOWS of a group: its split elements with their shadow ports (R80). -/
def Cfg.shadowsOf (c : Cfg) (g : Nat) : List (Nat × Nat) := (c.groupTraces g).map fun t => (t.1, t.2.1)

/-- Every shadow port. -/
def Cfg.allShadows (c : Cfg) : List Nat := c.groups.flatMap fun g => (c.shadowsOf g).map fun t => t.2

/-- Every use of a line: of legs and of traces. -/
def Cfg.uses (c : Cfg) : List Use :=
  (c.legs.flatMap fun p => legUses p.1 p.2)
    ++ (c.groups.flatMap fun g => (c.groupTraces g).flatMap fun t => t.2.2)

/-- Put the states of a leg's path and then of the traces into the route table. -/
def Cfg.routeTable (c : Cfg) : SMap RState :=
  let legs := c.legs.foldl (fun m p =>
    (c.pathOf p.1).foldl (fun m es => mapSet m es.1 es.2 .bar) m) []
  c.groups.foldl (fun m g => (c.groupTraces g).foldl (fun m t =>
    t.2.2.foldl (fun m u => mapSet m u.elem (if u.inL = u.outL then .bar else .cross) .bar) m) m) legs

/-- The configuration with the route table that its circuits need. -/
def Cfg.routed (c : Cfg) : Cfg := { c with routes := c.routeTable }

/-- The state of a fabric element in the route table. -/
def Cfg.route (c : Cfg) (e : Nat) : RState := mapGet c.routes e .bar

/-- The split elements of a configuration. -/
def Cfg.splits (c : Cfg) : List Nat := (c.routes.filter fun p => p.2.isSplit).map fun p => p.1

/-- The elements whose state differs between two configurations. -/
def Cfg.changedElems (c d : Cfg) : List Nat :=
  sortNums (((c.routes.map fun p => p.1) ++ (d.routes.map fun p => p.1)).filter fun e =>
    decide (c.route e ≠ d.route e))

/-! ### Port roles (R39, R45, R52) -/

/-- PORT_ROLE of port `p`, 0 to 1,023 north, 1,024 to 2,047 south: 0 IDLE, 1 SOURCE, 2 LEG, 3 SHADOW. -/
def Cfg.portRole (c : Cfg) (p : Nat) : Nat :=
  if p < 1024 then
    if c.slots.any fun q => decide ((q.2.kind = .p2p ∨ q.2.kind = .group) ∧ q.2.north = p) then 1
    else if c.allShadows.contains p then 3 else 0
  else if c.legs.any fun q => decide (q.2.south = p - 1024) then 2 else 0

/-- The leg that ends at a south port. -/
def Cfg.legAt (c : Cfg) (south : Nat) : Option Nat :=
  ((c.legs.filter fun q => decide (q.2.south = south)).head?).map fun q => q.1

/-! ### What makes a configuration legal (R37, R52, R66) -/

/-- A split's target coupling lies within 0.10 to 0.90. -/
def RState.ratioOk : RState → Bool
  | .split a b => decide (b ≤ 10 * a) && decide (10 * a ≤ 9 * b)
  | _ => true

/-- Some pair of a list clashes. -/
def anyClash : List Use → Bool
  | [] => false
  | u :: rest => rest.any (fun v => u.clash v) || anyClash rest

/-- No number stands twice in a list. -/
def distinct : List Nat → Bool
  | [] => true
  | x :: rest => !rest.contains x && distinct rest

/-- The light paths and traces of a configuration stand together, and its shadow ports are idle and
distinct. -/
def Cfg.stands (c : Cfg) : Bool :=
  !anyClash c.uses
    && distinct c.allShadows
    && c.allShadows.all (fun p => c.slots.all fun q =>
        !decide ((q.2.kind = .p2p ∨ q.2.kind = .group) ∧ q.2.north = p))

/-- Every split's coupling lies in range (R66). -/
def Cfg.ratiosOk (c : Cfg) : Bool := c.routes.all fun p => p.2.ratioOk

/-- The configuration is legal. -/
def Cfg.legal (c : Cfg) : Bool := c.stands && c.ratiosOk

/-! ### Two configurations compared -/

/-- Two slots carry the same connection, made once. -/
def sameLeg (x y : Slot) : Bool :=
  x.isLeg && y.isLeg
    && decide (x.north = y.north ∧ x.south = y.south ∧ x.kind = y.kind ∧ x.group = y.group ∧ x.made = y.made)

/-- The groups that stand in both configurations and whose trace of some split differs: their shadow ports
change, and the held states count as their legs' paths (R37). -/
def retracedGroups (c d : Cfg) : List Nat :=
  c.groups.filter fun g =>
    decide ((d.slot g).kind = .group ∧ (d.slot g).made = (c.slot g).made) &&
      (c.groupTraces g).any fun t => (d.groupTraces g).any fun u => decide (u.1 = t.1 ∧ u.2 ≠ t.2)

/-- A configuration with the middle lines that its standing legs have in another: the splits and shares in which it
still differs from that one are part of the change of the groups themselves (R68). -/
def Cfg.inPlace (c d : Cfg) : Cfg :=
  { d with slots := d.slots.map fun p => if sameLeg (c.slot p.1) p.2 then (p.1, { p.2 with mid := (c.slot p.1).mid }) else p }

/-- The legs whose path differs in another configuration (R57, R62): the middle line, a held trace of its group,
or the state of an element on it, but for what a change of its group's legs and weights itself brings. -/
def movedLegs (c d : Cfg) : List Nat :=
  let re := retracedGroups c d
  let kept := c.inPlace d
  (c.legs.filter fun p =>
    let y := d.slot p.1
    sameLeg p.2 y && (decide (y.mid ≠ p.2.mid)
      || decide (p.2.kind = .leg) && (re.contains p.2.group || decide (kept.pathOf p.1 ≠ d.pathOf p.1)))).map fun p => p.1

/-- The circuits that another configuration puts under BIDIR_CHECK (R73). -/
def Cfg.newChecks (c d : Cfg) : List Nat :=
  (d.slots.filter fun p => decide (p.2.kind = .p2p ∨ p.2.kind = .group) && p.2.flags.testBit 1
    && !(decide ((c.slot p.1).made = p.2.made ∧ (c.slot p.1).kind = p.2.kind) && (c.slot p.1).flags.testBit 1)).map fun p => p.1

/-- The slots of a stored configuration take the makings of the circuits that stand in another (R111). -/
def Cfg.adopt (c d : Cfg) : Cfg :=
  { d with slots := d.slots.map fun p =>
      let x := c.slot p.1
      if p.2.kind = x.kind ∧ p.2.north = x.north ∧ p.2.south = x.south ∧ p.2.group = x.group
      then (p.1, { p.2 with made := x.made }) else p }

/-- The traces of a configuration that do not stand in another: for each its shadow port and its uses. -/
def Cfg.newTraces (c d : Cfg) : List (Nat × Nat × List Use) :=
  d.groups.flatMap fun g => (d.groupTraces g).filter fun t => !(c.groupTraces g).contains t

end Sys2Proof.Machine
end

