-- ==== Sys2Proof/Machine/Planner.lean ====
section
/-!
DEFINITION. Change records and the planner (R54 to R69): validation, the order of R56, the three
searches, outcomes and reasons, the notch budget, and the plan result with its disturbance list.
-/

namespace Sys2Proof.Machine

/-! ### Status codes (R406) -/

def stOk : Nat := 0
def stBusy : Nat := 1
def stDenied : Nat := 2
def stNoObject : Nat := 3
def stBadType : Nat := 4
def stRange : Nat := 5
def stPoliced : Nat := 6
def stLate : Nat := 7
def stBlocked : Nat := 8
def stDisturbing : Nat := 9
def stPrecondition : Nat := 10
def stCheckFail : Nat := 11
def stNotEligible : Nat := 12

/-- The status of a REASON (R59). -/
def reasonStatus (r : Nat) : Nat :=
  if r = 9 ∨ r = 10 ∨ r = 13 then stRange
  else if r = 1 then stBlocked
  else if r = 11 ∨ r = 14 then stDisturbing
  else if r = 0 then stOk
  else stNotEligible

/-! ### Change records (R54) -/

/-- Read a change record from its 32 bytes. -/
def parseRec (bs : List Byte) : ChangeRec :=
  { op := leAt bs 0 1, reqFlags := leAt bs 1 1, circuit := leAt bs 2 2, north := leAt bs 4 2
    south := leAt bs 6 2, cflags := leAt bs 8 1 % 4, legCount := leAt bs 9 1, legWeight := leAt bs 10 1
    maxDisturb := leAt bs 11 1
    legSouth := (numbers 0 8).map fun i => leAt bs (12 + 2 * i) 2
    legWeights := (numbers 0 8).map fun i => field (leAt bs 28 4) (4 * i) 4 }

/-- Read change records, 32 bytes each. -/
def parseRecs (bs : List Byte) : Nat → List ChangeRec
  | 0 => []
  | n + 1 => parseRec (bs.take 32) :: parseRecs (bs.drop 32) n

/-- ALLOW_DISTURB of a record. -/
def ChangeRec.allow (r : ChangeRec) : Bool := r.reqFlags.testBit 0

/-- A weight is 1 to 8. -/
def weightOk (w : Nat) : Bool := decide (1 ≤ w) && decide (w ≤ 8)

/-- A record passes validation: its fields lie in range (FIELD_RANGE of R59). -/
def ChangeRec.valid (r : ChangeRec) : Bool :=
  let named := decide (r.circuit < 2048)
  let northOk := decide (r.north < 1024)
  let southOk := decide (r.south < 1024)
  if r.op = 1 then (named || decide (r.circuit = 0xFFFF)) && northOk && southOk
  else if r.op = 2 then named
  else if r.op = 3 then
    (named || decide (r.circuit = 0xFFFF)) && northOk && decide (2 ≤ r.legCount) && decide (r.legCount ≤ 8)
      && (r.legSouth.take r.legCount).all (fun p => decide (p < 1024))
      && (r.legWeights.take r.legCount).all weightOk
  else if r.op = 4 then named && southOk && weightOk r.legWeight
  else if r.op = 5 then named && southOk
  else if r.op = 6 then named
  else if r.op = 7 then named && southOk && weightOk r.legWeight
  else false

/-! ### The planned configuration (R56) -/

/-- The batch is pending: PENDING or HELD (R84). -/
def Batch.pending (b : Batch) : Bool := decide (b.state = .pending) || decide (b.state = .held)

/-- Insert a batch in commit order: by T0, a HELD batch last, equals in order of submission (R85). -/
def insertBatch (b : Batch) : List Batch → List Batch
  | [] => [b]
  | c :: rest =>
    if (c.state = .held ∧ b.state ≠ .held) ∨ (c.state ≠ .held ∧ b.state ≠ .held ∧ b.t0 < c.t0)
    then b :: c :: rest else c :: insertBatch b rest

/-- The pending batches in commit order. -/
def State.pendingBatches (s : State) : List Batch :=
  (s.batches.filter fun b => b.pending).foldl (fun acc b => insertBatch b acc) []

/-- The pending batches that commit before an instant. -/
def State.pendingBefore (s : State) (t : Instant) : List Batch :=
  s.pendingBatches.filter fun b => decide (b.state = .pending ∧ b.t0 ≤ t)

/-- The configuration after batches in commit order. -/
def cfgAfter (c : Cfg) (bs : List Batch) : Cfg :=
  match bs.getLast? with
  | none => c
  | some b => b.plan.after

/-- The configuration planned against: the active one with every pending batch applied. -/
def State.plannedCfg (s : State) : Cfg := cfgAfter s.active s.pendingBatches

/-- CONFIG_GENERATION (R74). -/
def State.generation (s : State) : Nat := s.genEpoch * 2 ^ 40 + s.genCount

/-- The generation `n` commits on (R74). -/
def State.generationPlus (s : State) (n : Nat) : Nat :=
  if s.genCount + n < 2 ^ 40 then s.genEpoch * 2 ^ 40 + (s.genCount + n)
  else (s.genEpoch + 1) * 2 ^ 40 + (s.genCount + n - 2 ^ 40)

/-! ### Elements a plan may use (R57, R132, R140, R322) -/

/-- An element that the planner treats as FAULTED: FAULTED, in MANUAL, or reserved by a calibration run. -/
def State.shunned (s : State) (e : Nat) : Bool :=
  let x := s.elem e
  decide (x.mode = .faulted) || decide (x.mode = .manual) || x.reserved

/-- The FAULTED set as the planner sees it. -/
def State.shunnedSet (s : State) : List Nat :=
  (s.elems.filter fun p => decide (p.2.mode = .faulted) || decide (p.2.mode = .manual) || p.2.reserved).map
    fun p => p.1

/-- The travel of a coupling a to b of the cross side. -/
def State.splitTravel (s : State) (e a b : Nat) : Nat := s.etaInverse e (f64Ratio a b)

/-- The calibrated target of a fabric element in a state (R32, R339). -/
def State.stateTravel (s : State) (e : Nat) : RState → Nat
  | .bar => s.shifted e (s.barTravel e)
  | .cross => s.shifted e (s.crossTravel e)
  | .split a b => s.shifted e (s.splitTravel e a b)

/-- The target lies within the travel window of the element's profile (R132). -/
def State.inTravelWindow (s : State) (e t : Nat) : Bool :=
  decide (s.prof e 0x0C ≤ t) && decide (t ≤ s.prof e 0x0D)

/-- Port `p`, 0 to 1,023 north, 1,024 to 2,047 south. -/
def State.port (s : State) (p : Nat) : Port := mapGet s.ports p {}

/-- The attenuation of a port under a configuration, Q8.8 dB: idle, shadow, or its circuit's (R37, R39,
R177). -/
def State.attenNow (s : State) (c : Cfg) (p : Nat) : Nat :=
  match c.portRole p with
  | 0 => s.obj 0x1100 4
  | 3 => 0x1900
  | _ =>
    if s.obj (0x4000 + p) 0x15 = 1 ∧ 1024 ≤ p then ((s.port p).atten).getD (s.obj (0x4000 + p) 0x16)
    else s.obj (0x4000 + p) 0x16

/-- A fabric element can take a state: it is not shunned, and its target lies in its window. -/
def State.elemUsable (s : State) (e : Nat) (r : RState) : Bool :=
  !s.shunned e && s.inTravelWindow e (s.stateTravel e r)

/-- A port's element can take the attenuation that a configuration gives it. -/
def State.portUsable (s : State) (c : Cfg) (p : Nat) : Bool :=
  let e := portElem p
  !s.shunned e && s.inTravelWindow e (s.attenTravel e (s.attenNow c p))

/-- Every element of a leg's path is usable (R57, R132). -/
def State.pathUsable (s : State) (c : Cfg) (id : Nat) : Bool :=
  let x := c.slot id
  s.portUsable c x.north && s.portUsable c (1024 + x.south)
    && (c.pathOf id).all fun es => s.elemUsable es.1 es.2

/-- Every element of a trace is usable, its shadow port's among them. -/
def State.traceUsable (s : State) (c : Cfg) (t : Nat × Nat × List Use) : Bool :=
  s.portUsable c t.2.1 && t.2.2.all fun u => s.elemUsable u.elem (if u.inL = u.outL then .bar else .cross)

/-! ### The notch budget (R67) -/

/-- Elements that hold a slot permanently, and the slots that a run keeps for its swap (R324). -/
def State.notchHeld (s : State) : Nat := countWhere s.notchAlways (numbers 0 elemCount) + s.cal.notches

/-- The splits held at the peak of a batch from one configuration to another. -/
def peakSplits (c d : Cfg) : Nat :=
  c.splits.length + (d.splits.filter fun e => !c.splits.contains e).length

/-- The notch check of R67. -/
def State.notchOk (s : State) (c d : Cfg) : Bool := decide (peakSplits c d + s.notchHeld ≤ 512)

/-- Free notch slots at the peak. -/
def State.notchPeakFree (s : State) (c d : Cfg) : Int := 512 - ((peakSplits c d + s.notchHeld : Nat) : Int)

/-! ### A plan in progress -/

/-- The plan as its records are handled: the configuration so far, the results by record number, and
whether a record has been rejected. -/
structure PlanSt where
  cfg : Cfg
  results : SMap RecResult := []
  stopped : Bool := false

/-- The lowest free ID that is not among those taken. -/
def Cfg.lowestFree (c : Cfg) (taken : List Nat) : Nat :=
  ((numbers 0 2048).filter fun i => decide ((c.slot i).kind = .free) && !taken.contains i).headD 0xFFFF

/-- `n` lowest free IDs in order. -/
def Cfg.freeIds (c : Cfg) : Nat → List Nat → List Nat
  | 0, taken => taken
  | n + 1, taken => c.freeIds n (taken ++ [c.lowestFree taken])

/-- A record rejected with a reason. -/
def rejected (r : ChangeRec) (reason : Nat) : RecResult :=
  { status := reasonStatus reason, outcome := 4, reason := reason, circuit := r.circuit }

/-- Record `i` is rejected: the records after it are not evaluated. -/
def PlanSt.reject (p : PlanSt) (i : Nat) (r : ChangeRec) (reason : Nat) : PlanSt :=
  { p with results := mapPut p.results i (rejected r reason), stopped := true }

/-- Record `i` is done with a new configuration. -/
def PlanSt.done (p : PlanSt) (i : Nat) (c : Cfg) (res : RecResult) : PlanSt :=
  { p with cfg := c, results := mapPut p.results i { res with changed := (p.cfg.changedElems c).length } }

/-! ### Step 2: BREAK, DROP_LEG, SET_FLAGS, SET_WEIGHT (R55, R66, R68) -/

/-- Free slots. -/
def Cfg.freeSlots (c : Cfg) (ids : List Nat) : Cfg :=
  { c with slots := c.slots.filter fun p => !ids.contains p.1 }

/-- The traces of the splits that a group still has. -/
def Cfg.pruneTraces (c : Cfg) (g : Nat) : Cfg :=
  let sp := (c.groupSplits g).map fun q => q.1
  c.setSlot g { c.slot g with traces := (c.slot g).traces.filter fun t => sp.contains t.1 }

/-- The leg of a group at a south port. -/
def Cfg.groupLegAt (c : Cfg) (g south : Nat) : Option (Nat × Slot) :=
  ((c.groupLegs g).filter fun p => decide (p.2.south = south)).head?

/-- BREAK. -/
def planBreak (i : Nat) (r : ChangeRec) (p : PlanSt) : PlanSt :=
  match (p.cfg.slot r.circuit).kind with
  | .p2p => p.done i (p.cfg.freeSlots [r.circuit]).routed { circuit := r.circuit }
  | .group =>
    let ids := r.circuit :: (p.cfg.groupLegs r.circuit).map fun q => q.1
    p.done i (p.cfg.freeSlots ids).routed { circuit := r.circuit }
  | _ => p.reject i r 8

/-- A change of weights that the present tree meets: each split stays in range and in its window (R66). -/
def State.treeMeets (s : State) (c : Cfg) (g : Nat) : Bool :=
  c.legal && (c.groupLegs g).all fun l => (c.pathOf l.1).all fun es => s.inTravelWindow es.1 (s.stateTravel es.1 es.2)

/-- DROP_LEG. A SOUTH that is no leg of the group gives NO_CIRCUIT, a split that leaves its range
SPLIT_RATIO (log 70). -/
def planDrop (s : State) (i : Nat) (r : ChangeRec) (p : PlanSt) : PlanSt :=
  let g := p.cfg.slot r.circuit
  match g.kind, p.cfg.groupLegAt r.circuit r.south with
  | .group, some l =>
    if g.legCount ≤ 2 then p.reject i r 13
    else
      let c := (((p.cfg.freeSlots [l.1]).setSlot r.circuit { g with legCount := g.legCount - 1 }).pruneTraces
        r.circuit).routed
      if s.treeMeets c r.circuit then p.done i c { circuit := r.circuit, splits := (c.groupSplits r.circuit).length }
      else p.reject i r 9
  | _, _ => p.reject i r 8

/-- SET_FLAGS. -/
def planFlags (i : Nat) (r : ChangeRec) (p : PlanSt) : PlanSt :=
  let x := p.cfg.slot r.circuit
  if x.kind = .p2p ∨ x.kind = .group then
    p.done i (p.cfg.setSlot r.circuit { x with flags := r.cflags })
      { circuit := r.circuit, splits := (p.cfg.groupSplits r.circuit).length }
  else p.reject i r 8

/-- SET_WEIGHT. A SOUTH that is no leg of the group gives NO_CIRCUIT (log 70). -/
def planWeight (s : State) (i : Nat) (r : ChangeRec) (p : PlanSt) : PlanSt :=
  match (p.cfg.slot r.circuit).kind, p.cfg.groupLegAt r.circuit r.south with
  | .group, some l =>
    let c := (p.cfg.setSlot l.1 { l.2 with weight := r.legWeight }).routed
    if s.treeMeets c r.circuit then p.done i c { circuit := r.circuit, splits := (c.groupSplits r.circuit).length }
    else p.reject i r 9
  | _, _ => p.reject i r 8

/-! ### Step 3: MAKE, MAKE_GROUP, ADD_LEG (R57 to R59, R65) -/

/-- A north port is a source. -/
def Cfg.northUsed (c : Cfg) (n : Nat) : Bool :=
  c.slots.any fun q => decide ((q.2.kind = .p2p ∨ q.2.kind = .group) ∧ q.2.north = n)

/-- A south port terminates a leg. -/
def Cfg.southUsed (c : Cfg) (d : Nat) : Bool := c.legs.any fun q => decide (q.2.south = d)

/-! ### Proposals and the search for a plan (R57) -/

/-- Give a leg a middle line. -/
def Cfg.setMid (c : Cfg) (q : Nat × Nat) : Cfg :=
  if (c.slot q.1).isLeg then c.setSlot q.1 { c.slot q.1 with mid := q.2 % 512 } else c

/-- Give a split of a group the choices of its trace. -/
def Cfg.setTrace (c : Cfg) (g e bits : Nat) : Cfg :=
  c.setSlot g { c.slot g with traces := (e, bits) :: (c.slot g).traces.filter fun t => decide (t.1 ≠ e) }

/-- Every group's splits with the choices that stand, and the route table that the circuits need. -/
def Cfg.settled (c : Cfg) : Cfg :=
  (c.groups.foldl (fun d g =>
    d.setSlot g { d.slot g with traces := (d.groupSplits g).map fun sp => (sp.1, (d.slot g).traceBits sp.1) }) c).routed

/-- The splits of a configuration with their groups; with `fresh` those alone whose trace is not yet chosen. -/
def Cfg.traceKeys (c : Cfg) (fresh : Bool) : List (Nat × Nat) :=
  c.groups.flatMap fun g =>
    ((c.groupSplits g).filter fun sp => !fresh || !((c.slot g).traces.any fun t => decide (t.1 = sp.1))).map
      fun sp => (g, sp.1)

/-- Put a proposal into a configuration: middle lines of the legs that may move, choices of traces. -/
def Cfg.apply (c : Cfg) (legs : List Nat) (fresh : Bool) (prop : Proposal) : Cfg :=
  let c1 := (prop.1.filter fun q => legs.contains q.1).foldl Cfg.setMid c
  ((c1.traceKeys fresh).foldl (fun d k =>
    match prop.2.filter fun t => decide (t.1 = k.2) with
    | [] => d
    | t :: _ => d.setTrace k.1 k.2 t.2) c1).settled

/-- Try every middle line for each of some legs in turn, until `f` answers. -/
def tryMids (f : Cfg → Option Cfg) : List Nat → Cfg → Option Cfg
  | [], c => f c
  | l :: rest, c => (numbers 0 512).findSome? fun m => tryMids f rest (c.setMid (l, m))

/-- Try every trace for each of some splits in turn, until `f` answers. -/
def tryTraces (f : Cfg → Option Cfg) : List (Nat × Nat) → Cfg → Option Cfg
  | [], c => f c
  | k :: rest, c => (numbers 0 (2 ^ (k.2 / 512))).findSome? fun b => tryTraces f rest (c.setTrace k.1 k.2 b)

/-- Some way of placing legs, and traces, that passes a test: every one is tried. -/
def Cfg.anyWay (c : Cfg) (legs : List Nat) (fresh : Bool) (ok : Cfg → Bool) : Option Cfg :=
  tryMids (fun d => tryTraces (fun e => if ok e.settled then some e.settled else none) (d.traceKeys fresh) d) legs c

/-- The south outbound comparator of a slot's port is lit. -/
def State.southLit (s : State) (x : Slot) : Bool := (mapGet s.dets (2 * (1024 + x.south) + 1) {}).lit

/-- What a plan costs: the legs it moves, then the lit ones among them (R57). -/
def State.moveCost (s : State) (c d : Cfg) : Nat :=
  let moved := movedLegs c d
  4096 * moved.length + countWhere (fun l => s.southLit (c.slot l)) moved

/-- The first of the least in a cost. -/
def leastOf (cost : Cfg → Nat) : List Cfg → Option Cfg
  | [] => none
  | d :: rest => match leastOf cost rest with
    | none => some d
    | some e => if cost d ≤ cost e then some d else some e

/-- The plan of a search: of those that the planner comes upon, the one that moves the fewest legs and then
the fewest lit ones; where it comes upon none, any there is (R57). -/
def State.findPlan (s : State) (before c : Cfg) (legs : List Nat) (fresh : Bool) (props : List Proposal)
    (ok : Cfg → Bool) : Option Cfg :=
  match leastOf (fun d => s.moveCost before d) ((props.map (c.apply legs fresh)).filter ok) with
  | some d => some d
  | none => c.anyWay legs fresh ok

/-- A configuration stands, and what it adds to another is usable: its new legs, the legs it moves and the
traces that were not there. -/
def State.changeUsable (s : State) (before after : Cfg) (new : List Nat) : Bool :=
  after.stands && (new ++ movedLegs before after).all (s.pathUsable after)
    && (before.newTraces after).all (s.traceUsable after)

/-- A plan that search `n` may find: it is usable, its splits lie in range and the notch pool serves it, and it
moves no leg (search 1), no protected one (2), or any (3). -/
def State.acceptable (s : State) (n : Nat) (basis before after : Cfg) (new : List Nat) : Bool :=
  let moved := movedLegs before after
  s.changeUsable before after new && after.ratiosOk && s.notchOk basis after
    && (if n = 1 then moved.isEmpty
        else if n = 2 then moved.all fun l => !(before.protected_ l)
        else true)

/-- The first search's path for a MAKE: the legal middle lines, one of which it finds. -/
def State.freePath (s : State) (c : Cfg) (id n d : Nat) : Option Nat :=
  let uses := c.uses
  let fits := (numbers 0 512).filter fun m =>
    ((pathUses n d m id).all fun u => uses.all fun v => !(u.clash v))
      && s.pathUsable (c.setSlot id { kind := .p2p, north := n, south := d, mid := m }) id
  if fits.isEmpty ∨ c.allShadows.contains n then none
  else some (fits.getD (Config.pathChoice c n d % fits.length) 0)

/-- The reason when no plan exists even with every leg movable (R59): the notch check fails, or alone stands in
the way; else the weights alone stand in the way; else too few idle ports; else faulted elements. -/
def State.noPlanReason (s : State) (basis before c : Cfg) (usable : Cfg → Bool) (legs : List Nat)
    (needNorth newSplits : Nat) : Nat :=
  let idle := countWhere (fun p => decide (before.portRole p = 0)) (numbers 0 1024)
  if 512 < peakSplits basis before + newSplits + s.notchHeld
      ∨ (c.anyWay legs false fun d => usable d && d.ratiosOk).isSome then 3
  else if (c.anyWay legs false usable).isSome then 9
  else if idle < needNorth then 4
  else if (numbers 0 9728).any s.shunned then 2
  else 4

/-- Finish a record with what a search found. ALLOW_DISTURB not set stands before MAX_DISTURB exceeded
(log 70). -/
def PlanSt.place (p : PlanSt) (i : Nat) (r : ChangeRec) (n : Nat) (c : Cfg) (id : Nat) (legs : List Nat) : PlanSt :=
  let moved := movedLegs p.cfg c
  let tooMany := decide (r.maxDisturb ≠ 0) && decide (r.maxDisturb < moved.length)
  let oc : Nat × Nat :=
    if n = 1 then (0, 0)
    else if n = 3 then (3, 1)
    else if !r.allow then (2, 0)
    else if tooMany then (2, 11)
    else (1, 0)
  p.done i c
    { status := if oc.1 ≤ 1 then stOk else if oc.1 = 2 then stDisturbing else stBlocked
      outcome := oc.1, reason := oc.2, circuit := id, legs := legs, moves := moved
      splits := (c.groupSplits id).length }

/-- A record as the planner's choices see it: what it permits is no part of them (R64). -/
def ChangeRec.bare (r : ChangeRec) : ChangeRec := { r with reqFlags := 0, maxDisturb := 0 }

/-- The three searches in turn (R57); `c` is the configuration with the record's slots put in, `new` its new
legs, `kept` those of them whose path is given. -/
def State.search (s : State) (basis : Cfg) (r : ChangeRec) (i id : Nat) (legs new kept : List Nat)
    (c : Cfg) (need splits : Nat) (p : PlanSt) : PlanSt :=
  let free := new.filter fun l => !kept.contains l
  let all := free ++ (p.cfg.legs.map fun q => q.1)
  let find (n : Nat) : Option Cfg :=
    s.findPlan p.cfg c (if n = 1 then free else all) (decide (n = 1))
      (Config.propose n c s.shunnedSet (512 - s.notchHeld) r.bare) fun d => s.acceptable n basis p.cfg d new
  match find 1 with
  | some d => p.place i r 1 d id legs
  | none => match find 2 with
    | some d => p.place i r 2 d id legs
    | none => match find 3 with
      | some d => p.place i r 3 d id legs
      | none => p.reject i r (s.noPlanReason basis p.cfg c (s.changeUsable p.cfg · new) all need splits)

/-- The ID of a record that makes a circuit: named, or the lowest free. -/
def newId (c : Cfg) (r : ChangeRec) : Nat := if r.circuit = 0xFFFF then c.lowestFree [] else r.circuit

/-- The making of an ID that follows those of a basis. -/
def nextMade (basis : Cfg) (id : Nat) : Nat := (basis.slot id).made + 1

/-- MAKE. ID_IN_USE stands before NORTH_IN_USE, and that before SOUTH_IN_USE (log 70). -/
def planMake (s : State) (basis : Cfg) (i : Nat) (r : ChangeRec) (p : PlanSt) : PlanSt :=
  let id := newId p.cfg r
  if (p.cfg.slot id).kind ≠ .free then p.reject i r 7
  else if p.cfg.northUsed r.north then p.reject i r 5
  else if p.cfg.southUsed r.south then p.reject i r 6
  else
    let x : Slot := { kind := .p2p, flags := r.cflags, north := r.north, south := r.south, made := nextMade basis id }
    match s.freePath p.cfg id r.north r.south with
    | some m => p.place i r 1 (p.cfg.setSlot id { x with mid := m }).routed id [id]
    | none => s.search basis r i id [id] [id] [] (p.cfg.setSlot id x) 1 0 p

/-- The middle line of a circuit of the basis that this record's leg takes over (R68). -/
def Cfg.keptMid (c : Cfg) (n d : Nat) : Option Nat :=
  ((c.legs.filter fun q => decide (q.2.kind = .p2p ∧ q.2.north = n ∧ q.2.south = d)).head?).map fun q => q.2.mid

/-- MAKE_GROUP. Its reasons stand in the order of MAKE's (log 70). -/
def planMakeGroup (s : State) (basis : Cfg) (i : Nat) (r : ChangeRec) (p : PlanSt) : PlanSt :=
  let id := newId p.cfg r
  let souths := r.legSouth.take r.legCount
  if (p.cfg.slot id).kind ≠ .free then p.reject i r 7
  else if p.cfg.northUsed r.north then p.reject i r 5
  else if souths.any (p.cfg.southUsed ·) ∨ !distinct souths then p.reject i r 6
  else
    let legs := p.cfg.freeIds r.legCount [id] |>.drop 1
    let c0 := p.cfg.setSlot id { kind := .group, flags := r.cflags, north := r.north, group := id,
                                 legCount := r.legCount, made := nextMade basis id }
    let c := (legs.zip (souths.zip r.legWeights)).foldl (fun d q =>
      let m := basis.keptMid r.north q.2.1
      d.setSlot q.1 { kind := .leg, north := r.north, south := q.2.1, group := id, weight := q.2.2,
                      mid := m.getD 0, made := nextMade basis q.1 }) c0
    let kept := legs.filter fun l => (basis.keptMid r.north (c.slot l).south).isSome
    s.search basis r i id legs legs kept c r.legCount (r.legCount - 1) p

/-- ADD_LEG. -/
def planAddLeg (s : State) (basis : Cfg) (i : Nat) (r : ChangeRec) (p : PlanSt) : PlanSt :=
  let g := p.cfg.slot r.circuit
  if g.kind ≠ .group then p.reject i r 8
  else if 8 ≤ g.legCount then p.reject i r 13
  else if p.cfg.southUsed r.south then p.reject i r 6
  else
    let l := p.cfg.lowestFree []
    let c := (p.cfg.setSlot r.circuit { g with legCount := g.legCount + 1 }).setSlot l
      { kind := .leg, north := g.north, south := r.south, group := r.circuit, weight := r.legWeight, made := nextMade basis l }
    s.search basis r i r.circuit [l] [l] [] c 1 1 p

/-! ### The plan (R56, R58, R61) -/

/-- Handle the records of some operations in record order, until one is rejected. -/
def planOps (f : Nat → ChangeRec → PlanSt → PlanSt) (ops : List Nat) (recs : List (Nat × ChangeRec)) (p : PlanSt) : PlanSt :=
  match recs with
  | [] => p
  | (i, r) :: rest =>
    planOps f ops rest (if p.stopped ∨ !ops.contains r.op then p else f i r p)

/-- Number the records. -/
def numbered (recs : List ChangeRec) : List (Nat × ChangeRec) := (numbers 0 recs.length).zip recs

/-- One record of step 2. -/
def planStep2 (s : State) (i : Nat) (r : ChangeRec) (p : PlanSt) : PlanSt :=
  if r.op = 2 then planBreak i r p else if r.op = 5 then planDrop s i r p
  else if r.op = 6 then planFlags i r p else planWeight s i r p

/-- One record of step 3. -/
def planStep3 (s : State) (basis : Cfg) (i : Nat) (r : ChangeRec) (p : PlanSt) : PlanSt :=
  if r.op = 1 then planMake s basis i r p else if r.op = 3 then planMakeGroup s basis i r p
  else planAddLeg s basis i r p

/-- Plan every record over a basis. -/
def planRecords (s : State) (basis : Cfg) (recs : List ChangeRec) : PlanSt :=
  let rs := numbered recs
  if rs.all fun q => q.2.valid then
    let p1 := planOps (planStep2 s) [2, 5] rs { cfg := basis }
    let p2 := planOps (planStep2 s) [6, 7] rs p1
    planOps (planStep3 s basis) [1, 3, 4] rs p2
  else
    { cfg := basis, stopped := true
      results := rs.map fun q => (q.1, rejected q.2 (if q.2.valid then 12 else 10)) }

/-- The result of record `i`: NOT_EVALUATED where nothing handled it. -/
def PlanSt.result (p : PlanSt) (i : Nat) (r : ChangeRec) : RecResult :=
  mapGet p.results i (rejected r 12)

/-- The worst outcome of records. -/
def worstOutcome (l : List RecResult) : Nat := l.foldl (fun m r => max m r.outcome) 0

/-- The share of light that passes an element of a path with the actuator at a travel: η crosses (R31, R32). -/
def State.passing (s : State) (e : Nat) (crosses : Bool) (p : F64) : F64 :=
  let eta := s.etaAt e (clampInt 0 65535 (f64RoundInt (f64Mul p (f64OfInt 65536)))).toNat
  if crosses then eta else f64Sub f64One eta

/-- The product of values. -/
def f64Product : List F64 → F64
  | [] => f64One
  | x :: rest => f64Mul x (f64Product rest)

/-- The elements of a leg's path that a plan changes, with whether its light crosses and the move the planner
has chosen: from rest in the basis's state to the new one, at transit rate. -/
def State.legMoves (s : State) (c d : Cfg) (l : Nat) : List (Nat × Bool × Elem) :=
  let x := d.slot l
  ((numbers 0 19).map fun st => (elemOn st (lineInto x.north x.south x.mid st), st)).filterMap fun q =>
    if c.route q.1 = d.route q.1 then none
    else
      let crosses := decide (lineInto x.north x.south x.mid q.2 ≠ lineAfter x.north x.south x.mid q.2)
      let from_ : Kin := ⟨travelF (s.stateTravel q.1 (c.route q.1)), 0, 0⟩
      some (q.1, crosses, s.startMove q.1 (s.stateTravel q.1 (d.route q.1)) 0 true from_ true {})

/-- The light of a leg `ns` after T0, as a fraction of its final level. -/
def State.lightLevel (s : State) (moves : List (Nat × Bool × Elem)) (ns : Nat) : F64 :=
  f64Product (moves.map fun m =>
    f64Div (s.passing m.1 m.2.1 (m.2.2.reference (65536 * ns)).p) (s.passing m.1 m.2.1 (travelF m.2.2.target)))

/-- The last nanosecond, at most `n`, after which a leg's light is still outside a band about its final level. -/
def State.lastOff (s : State) (moves : List (Nat × Bool × Elem)) (lo hi : F64) : Nat → Nat
  | 0 => 0
  | n + 1 =>
    let v := s.lightLevel moves n
    if f64Lt v lo || f64Lt hi v then n + 1 else s.lastOff moves lo hi n

/-- EST_HIT (R63), computed from the trajectories that the planner has chosen: the band is 0.5 dB either way. -/
def State.estHit (s : State) (c d : Cfg) (l : Nat) : Nat :=
  let off := f64Ratio 5 100
  s.lastOff (s.legMoves c d l) (f64Pow10 (f64Neg off)) (f64Pow10 off) 4000

/-- The disturbance list from a basis to a configuration (R62, R63). PROTECTED is the basis's flag (log 70). -/
def State.disturbances (s : State) (c d : Cfg) : List Disturb :=
  (movedLegs c d).map fun l =>
    let x := d.slot l
    let dark := !s.southLit x
    { leg := l, south := x.south
      estHit := if dark then 0 else s.estHit c d l
      elements := countWhere (fun e => decide (c.route e ≠ d.route e)) x.fabricElems
      flags := bit dark + 2 * bit (decide (x.kind = .leg)) + 4 * bit (c.protected_ l) }

/-- The plan of records over a basis of a generation, taking `ns` of planning time. -/
def makePlan (s : State) (basis : Cfg) (gen : Nat) (recs : List ChangeRec) (ns : Nat) : Plan :=
  let p := planRecords s basis recs
  let results := (numbered recs).map fun q => p.result q.1 q.2
  let oc := worstOutcome results
  let first := (results.filter fun r => decide (r.outcome = oc)).headD {}
  { status := first.status, outcome := oc, reason := first.reason, results := results
    disturb := s.disturbances basis p.cfg
    moved := (basis.changedElems p.cfg).length
    notchDelta := (p.cfg.splits.length : Int) - basis.splits.length
    notchPeakFree := s.notchPeakFree basis p.cfg
    planTime := ns, basis := gen, before := basis, after := p.cfg }

/-- The 32 bytes of a record result (R61). -/
def RecResult.bytes (r : RecResult) : List Byte :=
  leBytes 2 r.status ++ [byte r.outcome, byte r.reason] ++ leBytes 2 r.circuit ++ leBytes 2 0
    ++ ((numbers 0 8).flatMap fun i => leBytes 2 (r.legs.getD i 0xFFFF))
    ++ leBytes 2 r.changed ++ [byte r.splits] ++ leBytes 5 0

/-- The 8 bytes of a disturbance list entry (R62). -/
def Disturb.bytes (d : Disturb) : List Byte :=
  leBytes 2 d.leg ++ leBytes 2 d.south ++ leBytes 2 d.estHit ++ [byte d.elements, byte d.flags]

/-- The plan result (R61). -/
def Plan.bytes (p : Plan) : List Byte :=
  leBytes 2 p.status ++ [byte p.outcome, byte p.reason] ++ leBytes 2 p.results.length
    ++ leBytes 2 p.disturb.length
    ++ leBytes 2 (countWhere (fun d => d.flags.testBit 2) p.disturb)
    ++ leBytes 2 p.moved ++ leBytes 2 (intBits 16 p.notchDelta) ++ leBytes 2 p.notchPeakFree.toNat
    ++ leBytes 4 p.planTime ++ leBytes 8 p.basis ++ leBytes 4 0
    ++ (p.results.flatMap RecResult.bytes) ++ (p.disturb.flatMap Disturb.bytes)

/-- Count a plan (R79). -/
def countPlan (ns : Nat) (s : State) : State :=
  { s with planner := { s.planner with
      count := (s.planner.count + 1) % 4294967296, timeMax := max s.planner.timeMax ns } }

/-- Keep a session's last plan result (R79). -/
def keepPlan (ses : Nat) (p : Plan) (s : State) : State :=
  { s with planner := { s.planner with results := mapPut s.planner.results ses p } }

end Sys2Proof.Machine
end

