-- ==== Sys2Proof/Machine/Commit.lean ====
section
/-!
DEFINITION. What a commit does to the engine (R90 to R96, R138): targets of elements and ports, notch
slots, the states of legs, generation and digest; and how legs settle and a batch closes.
-/

namespace Sys2Proof.Machine

/-! ### Ports and targets (R39, R177) -/

/-- Replace port `p`. -/
def State.setPort (s : State) (p : Nat) (v : Port) : State := { s with ports := mapSet s.ports p v {} }

/-- Detector `d`. -/
def State.det (s : State) (d : Nat) : Det := mapGet s.dets d {}

/-- Replace detector `d`. -/
def State.setDet (s : State) (d : Nat) (v : Det) : State := { s with dets := mapSet s.dets d v {} }

/-- The inbound detector of a north port. -/
def northIn (k : Nat) : Nat := 2 * k

/-- The inbound and outbound detectors of a south port. -/
def southIn (k : Nat) : Nat := 2 * (1024 + k)
def southOut (k : Nat) : Nat := 2 * (1024 + k) + 1

/-- The attenuation in force at a port (R39): none in the rest pattern, where no loop runs and the port element
stands at its least attenuation (R35, log 75). -/
def State.attenInForce (s : State) (p : Nat) : Nat :=
  if s.loopsStarted ∧ s.power.watchOn then s.attenNow s.active p else 0

/-- A target kept within the travel window: no reference leaves it (R132). -/
def State.inWindowOf (s : State) (e : Nat) (t : Int) : Nat := (clampInt (s.prof e 0x0C) (s.prof e 0x0D) t).toNat

/-- The calibrated target of an element under a configuration (R138). -/
def State.routeTarget (s : State) (c : Cfg) (e : Nat) : Nat :=
  s.inWindowOf e (if e < 9728 then s.stateTravel e (c.route e) else s.attenTravel e (s.attenNow c (e - 9728)))

/-- The target with the element's trim offset. -/
def State.offsetTarget (s : State) (e : Nat) : Nat :=
  s.inWindowOf e ((s.routeTarget s.active e : Int) + (s.elem e).offset)

/-- Give an element a target for the next hold boundary; `set` is when ELEM_TARGET_SET wrote it. -/
def queueTarget (e t : Nat) (set : Option Nat) (s : State) : State :=
  let x := s.elem e
  if x.targetPending.isEmpty ∧ x.target = t ∧ set.isNone then s
  else s.setElem e { x with targetPending := (t, set) :: x.targetPending }

/-- A port's attenuation may have changed: its element takes the new target at the next hold boundary.
R39 does not reach an element in MANUAL, and no loop runs before the first commit. -/
def refreshPort (p : Nat) (s : State) : State :=
  let e := portElem p
  if (s.elem e).mode.runs then queueTarget e (s.routeTarget s.active e) none s else s

/-! ### Legs -/

/-- What the engine keeps about a leg. -/
def State.leg (s : State) (id : Nat) : LegSt := mapGet s.legs id {}

/-- Replace it. -/
def State.setLeg (s : State) (id : Nat) (v : LegSt) : State := { s with legs := mapSet s.legs id v {} }

/-- The leg's south outbound comparator is lit. -/
def State.legLit (s : State) (id : Nat) : Bool := (s.det (southOut (s.active.slot id).south)).lit

/-- The legs of the active configuration through an element that are TRIMMING or, with `held`, also
SUSPENDED. -/
def State.trimmedThrough (s : State) (held : Bool) (e : Nat) : List Nat :=
  ((s.active.legsThrough e).filter fun p =>
    let t := (s.leg p.1).trim
    decide (t = .trimming) || (held && decide (t = .suspended))).map fun p => p.1

/-- Discard the offset of an element once no leg through it is TRIMMING or SUSPENDED (R173). -/
def dropOffset (e : Nat) (s : State) : State :=
  let x := s.elem e
  if x.offset = 0 ∨ !(s.trimmedThrough true e).isEmpty then s
  else
    let s1 := s.setElem e { x with offset := 0, etaRun := 0, rangeRun := 0, etaRaised := false,
                                   limitRaised := false }
    if x.mode.runs then queueTarget e (s1.routeTarget s1.active e) none s1 else s1

/-- A leg's trim is OFF. -/
def trimOffLeg (id : Nat) (s : State) : State :=
  s.setLeg id { s.leg id with trim := .off, cause := 0, qualified := false, toSettling := false, window := [], updates := [] }

/-- The path of a leg that has left trim: its offsets are discarded, and its south port is back at ATTEN_SET. -/
def trimOffPath (x : Slot) (s : State) : State :=
  let s1 := forEach dropOffset x.fabricElems s
  let p := 1024 + x.south
  refreshPort p (s1.setPort p { s1.port p with atten := none })

/-- A leg leaves trim. -/
def trimOff (id : Nat) (s : State) : State :=
  if (s.leg id).trim = .off then s else trimOffPath (s.active.slot id) (trimOffLeg id s)

/-- The leg counts as settled for trim (R173). -/
def State.legSettled (s : State) (id : Nat) : Bool :=
  s.loopsStarted && (decide ((s.leg id).state = .settled) || decide ((s.leg id).state = .degraded))

/-- A settled, lit leg enters QUALIFYING while trim is enabled (R173). -/
def tryQualify (id : Nat) (s : State) : State :=
  let l := s.leg id
  if l.trim = .off ∧ (s.active.slot id).isLeg ∧ s.legSettled id ∧ s.legLit id ∧ s.obj 0x5200 1 = 1 then
    s.setLeg id { l with trim := .qualifying, qualAt := s.time.elapsed, qualified := false }
  else s

/-! ### Light in both directions (R73) -/

/-- The light that BIDIR_OK of a circuit or a leg asks for. -/
def State.bidirLit (s : State) (id : Nat) : Bool :=
  let x := s.active.slot id
  match x.kind with
  | .p2p => (s.det (northIn x.north)).lit && (s.det (southIn x.south)).lit
  | .leg => (s.det (northIn x.north)).lit && (s.det (southIn x.south)).lit
  | .group => (s.det (northIn x.north)).lit
      && (s.active.groupLegs id).all fun p => (s.det (southIn p.2.south)).lit
  | .free => false

/-- Evaluate a circuit flagged BIDIR_CHECK; a change, and a dark first evaluation, raise an event. -/
def bidirEval (first : Bool) (id : Nat) (s : State) : State :=
  if !(s.active.flagsOf id).testBit 1 then s
  else
    let l := s.leg id
    let ok := s.bidirLit id
    let s1 := s.setLeg id { l with bidirOk := some ok }
    match l.bidirOk with
    | none => if !first then s else if ok then s1 else raiseEv 0x644 (leBytes 2 id) s1
    | some b => if b = ok then s1 else raiseEv (if ok then 0x645 else 0x644) (leBytes 2 id) s1

/-- The circuit that a leg belongs to: its group, or itself. -/
def State.circuitOf (s : State) (id : Nat) : Nat := legRoot id (s.active.slot id)

/-- BIDIR_OK as it reads: of a leg once its group has been evaluated (R73, R80). -/
def State.bidirOk (s : State) (id : Nat) : Bool :=
  if (s.active.slot id).kind = .leg then
    (s.active.flagsOf id).testBit 1 && (s.leg (s.circuitOf id)).bidirOk.isSome && s.bidirLit id
  else decide ((s.leg id).bidirOk = some true)

/-! ### Generation, digest, degraded legs -/

/-- Advance the generation and its digest at a commit (R74, R76). -/
def nextGeneration (t0 : Instant) (s : State) : State :=
  let w := decide (s.genCount + 1 = 2 ^ 40)
  let s1 := { s with genEpoch := if w then (s.genEpoch + 1) % 2 ^ 24 else s.genEpoch
                     genCount := if w then 0 else s.genCount + 1 }
  let d := s1.active.digest s1.generation
  { s1 with digest := d, digests := ((s1.generation, t0, d) :: s1.digests).take 64 }

/-- A leg becomes DEGRADED with a REASON (R71). -/
def degradeLeg (e reason : Nat) (id : Nat) (s : State) : State :=
  let l := s.leg id
  if l.state = .degraded then s
  else raiseEv 0x640 (leBytes 2 id ++ leBytes 2 e ++ [byte reason])
    (s.setLeg id { l with state := .degraded, affected := false })

/-- Some element on a leg's path is FAULTED. -/
def State.legFaulted (s : State) (id : Nat) : Bool :=
  ((s.active.slot id).pathElems).any fun e => decide ((s.elem e).mode = .faulted)

/-! ### Notch slots (R67, R158) -/

/-- The lowest free notch slot. -/
def State.freeNotch (s : State) : Option Nat :=
  ((numbers 0 512).filter fun n => decide ((s.notch n).owner = 0xFFFF)).head?

/-- The terms of a running element change: a hand-over at its next update (R145). -/
def Elem.newTerms (x : Elem) : Elem := if x.mode.runs then { x with rehand := some (x.rehand.getD true) } else x

/-- Assign a slot to an element that has none: it gains the notch with a hand-over (R158). -/
def assignNotch (e use : Nat) (f : F64) (s : State) : State :=
  match (s.elem e).notch with
  | some n => s.setNotch n { s.notch n with leaving := false }
  | none =>
    match s.freeNotch with
    | none => s
    | some n => (s.setNotch n (s.makeNotch e use f)).setElem e { (s.elem e).newTerms with notch := some n }

/-- An element that left split state settles: it releases its slot, unless it holds it permanently. -/
def releaseNotch (e : Nat) (s : State) : State :=
  match (s.elem e).notch with
  | none => s
  | some n =>
    if (s.notch n).leaving ∧ (s.notch n).use = 1 then
      ({ s with notches := mapErase s.notches n }).setElem e { (s.elem e).newTerms with notch := none }
    else s

/-- The slot follows a change of an element's state: assigned for a split, marked to be released. -/
def notchFor (e : Nat) (r : RState) (s : State) : State :=
  if r.isSplit then assignNotch e 1 (s.resonance e (s.stateTravel e r)) s
  else match (s.elem e).notch with
    | none => s
    | some n => s.setNotch n { s.notch n with leaving := true }

/-! ### Commanding an element (R90, R91, R137, R144, R145) -/

/-- A transit and a hold period in units of elapsed time. -/
def transitUnits : Nat := 250 * 65536
def holdUnits : Nat := 8000 * 65536

/-- A hold boundary has just been reached. -/
def State.atHold (s : State) : Bool := decide (s.time.elapsed = s.time.holdStart)

/-- The previous transit sample, taken one period before an elapsed instant. -/
def Elem.prevSample (x : Elem) (now : Nat) : Option Int :=
  match x.tWordPrev with
  | some (t, w) => if t + transitUnits = now then some w else none
  | none => none

/-- Channels drive their clear codes: FABRIC_CLEAR_N is asserted, or the trip has fired (R207, R337). -/
def State.clearing (s : State) : Bool := s.clear.asserted || s.thermal.trip

/-- The present sample at transit rate, else the last word. -/
def Elem.nowSample (x : Elem) (now : Nat) : Int :=
  match x.tWord with
  | some (t, w) => if t = now then w else x.word
  | none => x.word

/-- Compute the code of the period that begins now, for an element that has just been handed over. -/
def firstUpdate (e : Nat) (transit : Bool) (next : Nat) (s : State) : State :=
  match s.activeAnvil with
  | none => s
  | some v =>
    let r := s.update e transit next 0 (s.loopSt e)
    selectCode [] v e r.1 (s.putLoop e r.2)

/-- The update of the period that begins now takes a value marked as repeated as x or x_prev (R199, R201). -/
def State.repeatedSample (s : State) (e : Nat) : Bool :=
  match (mapGet s.chans e {}).repeatAt with
  | none => false
  | some t => decide (s.time.elapsed ≤ t + transitUnits)

/-- A waiting hand-over of an element that runs at a rate (R145). -/
def handIfWaiting (transit : Bool) (e : Nat) (s : State) : State :=
  let l := s.loopSt e
  match l.x.rehand with
  | none => s
  | some same =>
    let x := { l.x with rehand := none, heldAt := none, wordPrev := if same then l.x.wordPrev else l.x.word }
    s.putLoop e (s.handOver e transit (s.clock transit) (l.x.heldAt.getD x.target) x.target x.wordPrev ⟨x, l.n⟩)

/-- The element as it enters TRANSIT. -/
def Elem.intoTransit (x : Elem) : Elem :=
  { x with mode := .transit, nextMode := none, modeAsks := [], offset := 0, rehand := none, heldAt := none, resume := false
           toTransit := false, settled := false, winRun := 0, reachedAt := none
           onClear := x.onClear || decide (x.mode = .parked) }

/-- Run in TRANSIT toward a target at transit rate, with a hand-over. -/
def handAtOnce (e target held : Nat) (s : State) : State :=
  let now := s.time.elapsed
  let l := s.loopSt e
  let x := { l.x.intoTransit with word := l.x.nowSample now, fallback := false }
  let l1 := s.handOver e true (s.clock true) held target ((x.prevSample now).getD x.word) ⟨x, l.n⟩
  let s1 := s.putLoop e ⟨{ l1.x with dropRate := s.repeatedSample e }, l1.n⟩
  -- a read-back whose value the first update would repeat is abandoned (R201)
  let s2 := if s.repeatedSample e then
      { s1 with chans := mapSet s1.chans e { mapGet s1.chans e {} with window := none, deferred := false, retake := false } {} }
    else s1
  firstUpdate e true (s.clock true + transitUnits) s2

/-- Run in TRANSIT at hold rate, on a lane fallback: the move starts, and the hand-over takes the hold samples of the hold
period before the first code, which may be the one that begins now (R146, R153). -/
def handAtHold (e target held : Nat) (s : State) : State :=
  let l := s.loopSt e
  let x := { l.x.intoTransit with fallback := true }
  let from_ : Kin := ⟨match startRef held x.word with | some h => travelF h | none => f64OfF32 (senseX x.word), 0, 0⟩
  let y := s.startMove e target (s.clock false) false from_ true x
  let s1 := s.setElem e { y with rehand := some true, heldAt := some held }
  if s.atHold then firstUpdate e false (s.clock false + holdUnits) (handIfWaiting false e s1) else s1

/-- Run in TRANSIT toward a target with a hand-over. -/
def handTransit (e target held : Nat) (s : State) : State :=
  if s.onFallback e then handAtHold e target held s else handAtOnce e target held s

/-- Enter TRANSIT toward a target. -/
def enterTransit (e target held : Nat) (s : State) : State :=
  handTransit e target held (s.setElem e { s.elem e with moveCount := ((s.elem e).moveCount + 1) % 4294967296 })

/-- A commit commands an element to a target at T0. Targets of the engine's own that wait for a hold boundary are
replaced (R130); an element in TRANSIT that gains a notch is handed over (R145). -/
def commandElem (e target : Nat) (s : State) : State :=
  let x := { s.elem e with targetPending := (s.elem e).targetPending.filter fun p => p.2.isSome }
  let s := s.setElem e x
  match x.mode with
  | .faulted => s
  | .manual => s
  | .transit =>
    if s.clearing then s.setElem e { x with target := target, trajs := [], resume := true }
    else if x.rehand.isSome then handTransit e target target s
    else s.setElem e { s.retarget e target (s.loopClock e) (!s.onFallback e) x with offset := 0 }
  | .parked =>
    if s.clearing ∨ (mapGet s.chans e {}).spanNext.isSome then s.setElem e { x with target := target, resume := true }
    else enterTransit e target target s
  | _ =>
    if s.clearing then s.setElem e { x with target := target, trajs := [], resume := true, offset := 0 }
    else enterTransit e target x.target s

/-! ### Batch legs (R94, R96, R102) -/

/-- How a commit changes a leg: 0 made, 1 moved, 2 broken, 3 changed in share, 4 kept by the first commit. -/
structure LegChange where
  id : Nat
  kind : Nat
  slot : Slot
  deriving DecidableEq, Repr

/-- A leg's share of its group: its weight and the group's. -/
def Cfg.share (c : Cfg) (x : Slot) : Nat × Nat :=
  if x.kind = .leg then (x.weight, ((c.groupLegs x.group).map fun p => p.2.weight).sum) else (1, 1)

/-- The legs that change from one configuration to another. -/
def legChanges (c d : Cfg) : List LegChange :=
  let moved := movedLegs c d
  (c.legs.filterMap fun p => if sameLeg p.2 (d.slot p.1) then none else some ⟨p.1, 2, p.2⟩)
    ++ (d.legs.filterMap fun p =>
      let x := c.slot p.1
      if !sameLeg x p.2 then some ⟨p.1, 0, p.2⟩
      else if moved.contains p.1 then some ⟨p.1, 1, p.2⟩
      else
        let a := c.share x
        let b := d.share p.2
        if a.1 * b.2 = b.1 * a.2 then none else some ⟨p.1, 3, p.2⟩)

/-- The legs that the first commit keeps in place (R138). -/
def keptLegs (c d : Cfg) (changes : List LegChange) : List LegChange :=
  (d.legs.filter fun p => sameLeg (c.slot p.1) p.2 && !(changes.any fun q => decide (q.id = p.1 ∧ q.kind ≠ 2))).map
    fun p => ⟨p.1, 4, p.2⟩

/-- A leg of a batch, waiting for the commanded elements on its path. -/
def batchLeg (commanded : List Nat) (now : Nat) (q : LegChange) : BatchLeg :=
  let w := q.slot.pathElems.filter fun e => commanded.contains e
  { leg := q.id, south := q.slot.south, waiting := w, settledAt := if w.isEmpty then some now else none
    broken := decide (q.kind = 2), path := q.slot.pathElems }

/-! ### Closing a batch (R94 to R96, R101, R111, R261) -/

/-- STATE's code (R84). -/
def BState.code : BState → Nat
  | .planning => 0
  | .pending => 1
  | .held => 2
  | .moving => 3
  | .settled => 4
  | .lateSettled => 5
  | .failed => 6
  | .cancelled => 7

/-- Payload of the batch events (R438). -/
def Batch.payload (b : Batch) : List Byte :=
  leBytes 4 b.id ++ leBytes 2 b.status ++ [byte b.session, byte b.state.code]

/-- Nanoseconds between elapsed instants. -/
def elapsedNs (a b : Nat) : Nat := (b - a) / 65536

/-- A leg of a closing batch settled late, or not at all. -/
def BatchLeg.late (l : BatchLeg) (t0 : Nat) : Bool :=
  !l.superseded && (l.unsettled || (match l.settledAt with
    | none => true
    | some t => decide (4000 < elapsedNs t0 t)))

/-- A leg of a closing batch gets no light time and is dark. -/
def State.legDark (s : State) (l : BatchLeg) : Bool :=
  l.light.isNone && !(s.det (southOut l.south)).lit

/-- The LEG_SETTLE record of a leg (R261). -/
def State.legRecord (s : State) (b : Batch) (l : BatchLeg) : List Byte :=
  let flags := bit (l.light.isNone && !s.legDark l) + 2 * bit (s.legDark l)
    + 4 * bit (l.unsettled || (l.settledAt.isNone && !l.superseded)) + 8 * bit l.superseded
    + 16 * bit (l.broken && l.light.isSome)
  leBytes 4 b.id ++ leBytes 2 l.leg ++ leBytes 2 l.south ++ [byte flags] ++ leBytes 3 0
    ++ (match l.light with | none => leBytes 12 0 | some t => time96Bytes t)

/-- The latest settle of a batch's legs, superseded ones aside. -/
def Batch.lastSettle (b : Batch) : Nat :=
  b.legs.foldl (fun m l => if l.superseded then m else max m (l.settledAt.getD 0)) b.t0Elapsed

/-- Every leg that counts has settled. -/
def Batch.allSettled (b : Batch) : Bool := b.legs.all fun l => l.superseded || l.settledAt.isSome || l.unsettled

/-- The elements of a batch's legs have settled: its legs leave MOVING, settle for trim and for BIDIR. -/
def settleLegState (id : Nat) (s : State) : State :=
  let l := s.leg id
  if l.state = .moving then
    tryQualify id (s.setLeg id { l with state := .settled })
  else s

/-- The schedule goes to IDLE with a reason (R116, R438). -/
def schedToIdle (reason : Nat) (s : State) : State :=
  let c := s.sched.cycleCount
  raiseEv 0x615 ([byte s.sched.watchNow, byte reason] ++ leBytes 2 0 ++ leBytes 4 c)
    { s with sched := { s.sched with
        state := .idle, change := none, stopAtEnd := none, stopNow := none, next := 0, imageReady := false
        imageCopy := false, realign := false }
             planner := { s.planner with retry := true } }

/-- Some watch-boundary commit is still MOVING. -/
def State.watchMoving (s : State) : Bool :=
  s.batches.any fun b => decide (b.mode = 2 ∧ b.state = .moving)

/-- A STOPPING schedule whose last commit has closed returns to IDLE. -/
def schedStopCheck (s : State) : State :=
  match s.sched.stopNow with
  | some r => if s.sched.state = .stopping ∧ !s.watchMoving then schedToIdle r s else s
  | none => s

/-- Replace a batch, by ID and T0. -/
def State.setBatch (s : State) (b : Batch) : State :=
  { s with batches := s.batches.map fun c => if c.id = b.id ∧ c.t0Elapsed = b.t0Elapsed ∧ c.generation = b.generation then b else c }

/-- Close a batch: SETTLED or LATE_SETTLED, its event, its settle records, its legs. SETTLE_NS of one that closes with a
leg unsettled is 0xFFFFFFFF, whenever it closes (log 71). -/
def closeBatch (b : Batch) (atLimit : Bool) (s : State) : State :=
  let legs := b.legs.map fun l =>
    { l with unsettled := l.unsettled || (l.settledAt.isNone && !l.superseded) }
  let ns := elapsedNs b.t0Elapsed ({ b with legs := legs }).lastSettle
  let late := atLimit || decide (4000 < ns) || legs.any fun l => l.unsettled && !l.superseded
  let b1 : Batch := { b with
    state := if late then .lateSettled else .settled
    legs := legs
    settleNs := if legs.any fun l => l.unsettled && !l.superseded then none else some ns
    lateLegs := countWhere (fun l => l.late b.t0Elapsed) legs
    darkLegs := countWhere s.legDark legs
    superseded := countWhere (fun l => l.superseded) legs }
  let s1 := { s with
    batches := s.batches.filter fun c => !decide (c.id = b.id ∧ c.t0Elapsed = b.t0Elapsed ∧ c.generation = b.generation)
    closed := (b1 :: s.closed).take 64
    lateBatches := if late then (s.lateBatches + 1) % 4294967296 else s.lateBatches }
  let s2 :=
    if b.mode = 2 then
      if late then raiseAt 0x613 b.t0 0 ([byte ((b.watch.getD (0, 0)).1)] ++ leBytes 3 0 ++ leBytes 4 s1.sched.cycleCount)
        { s1 with sched := { s1.sched with late := (s1.sched.late + 1) % 4294967296 } }
      else s1
    else raiseEv (if late then 0x602 else 0x601) b1.payload s1
  let w := match b.watch with | none => 0xFF | some q => q.1
  let s3 := audit 0x03 (leBytes 4 b.id ++ [byte b1.state.code, byte b.mode, byte w, 0#8] ++ leBytes 8 b.generation
    ++ leBytes 4 (b1.settleNs.getD 0xFFFFFFFF) ++ leBytes 2 b1.legCount ++ leBytes 2 b1.lateLegs
    ++ leBytes 2 b1.darkLegs ++ leBytes 2 b1.superseded) s2
  let s4 := if b.mode = 2 then s3 else forEach (fun l t => audit 0x04 (s.legRecord b1 l) t) legs s3
  let live := legs.filter fun l => !l.superseded && !l.broken
  let s5 := forEach (fun l t => settleLegState l.leg t) live s4
  let circuits := sortNums ((live.map fun l => s.circuitOf l.leg) ++ b.checks)
  schedStopCheck (forEach (bidirEval true) circuits s5)

/-- The elements of a leg that settle: note them in the batches that wait for them. -/
def noteSettled (e now : Nat) (b : Batch) : Batch :=
  { b with legs := b.legs.map fun l =>
      if l.waiting.contains e then
        let w := l.waiting.filter (fun x => decide (x ≠ e))
        { l with waiting := w, settledAt := if w.isEmpty ∧ l.settledAt.isNone ∧ !l.unsettled then some now else l.settledAt }
      else l }

/-- A batch's legs that have just settled leave MOVING. -/
def settledNow (b : Batch) (now : Nat) : List Nat :=
  (b.legs.filter fun l => decide (l.settledAt = some now) && !l.superseded && !l.broken).map fun l => l.leg

/-- Close every MOVING batch whose legs have all settled. -/
def closeSettled (s : State) : State :=
  forEach (fun b t => closeBatch b false t)
    (s.batches.filter fun b => decide (b.state = .moving) && b.allSettled) s

/-- A calibration run in progress reserves an element (R322). -/
def State.calReserves (s : State) (e : Nat) : Bool :=
  match s.cal.run with
  | none => false
  | some r => decide (r.type_ = 5 ∨ r.type_ = 6) && decide (r.first ≤ e) && decide (e < r.first + r.count)

/-- An element whose calibration run has ended is reserved until it settles; it returns to PARKED if it was
PARKED at the start (R322). -/
def endReserve (e : Nat) (s : State) : State :=
  let x := s.elem e
  if x.reserved ∧ !s.calReserves e then
    s.setElem e { x with reserved := false, parkAfter := false
                         nextMode := if x.parkAfter then some .parked else x.nextMode }
  else s

/-- An element settles (R94, R134): batches note it, its legs settle, batches close, its notch is
released, its faulted legs are restored. -/
def elemSettled (e : Nat) (s : State) : State :=
  let now := s.clock true
  let s1 := { s with batches := s.batches.map fun b => if b.state = .moving then noteSettled e now b else b }
  let legs := s1.batches.flatMap fun b => if b.state = .moving then settledNow b now else []
  let s2 := endReserve e (releaseNotch e (forEach settleLegState legs s1))
  let back := ((s2.active.legsThrough e).map fun p => p.1).filter fun id =>
    decide ((s2.leg id).state = .degraded) && !s2.legFaulted id
  let s3 := forEach (fun id t => raiseEv 0x641 (leBytes 2 id ++ leBytes 2 e)
    (tryQualify id (t.setLeg id { t.leg id with state := .settled }))) back s2
  closeSettled s3

/-! ### The commit (R90, R111, R138) -/

/-- A later batch changes a leg of an earlier one that is still MOVING: it no longer counts there, unsettled or not
(R91). -/
def supersede (ids : List Nat) (b : Batch) : Batch :=
  if b.state = .moving then
    { b with legs := b.legs.map fun l =>
        if ids.contains l.leg then { l with superseded := true, unsettled := false, waiting := [] } else l }
  else b

/-- A leg of a commit: its state, generations and move count; `repathed` are the legs whose path reads otherwise after it
(R80). One that keeps its path stays DEGRADED while an element on it is FAULTED (R71, R142). -/
def commitLeg (gen : Nat) (repathed : List Nat) (q : LegChange) (s : State) : State :=
  if q.kind = 2 then
    if ((s.active.slot q.id).isLeg) then s else { s with legs := mapErase s.legs q.id }
  else
    let l : LegSt := if q.kind = 0 then {} else s.leg q.id
    s.setLeg q.id { l with
      baseline := if q.kind = 4 then l.baseline else none
      state := if q.kind ≠ 1 ∧ l.state = .degraded then .degraded else .moving
      genMade := if q.kind = 0 then gen else l.genMade
      genMoved := if q.kind = 1 ∨ repathed.contains q.id then gen else l.genMoved
      moveCount := if q.kind = 1 then (l.moveCount + 1) % 4294967296 else l.moveCount }

/-- An element whose state a commit does not change stands elsewhere: PARKED, held off its route target by
ELEM_TARGET_SET, or at its clear code while FABRIC_CLEAR_N is asserted (R137, R138, R144). -/
def State.offRoute (s : State) (d : Cfg) (e : Nat) : Bool :=
  let x := s.elem e
  decide (x.mode = .parked) || s.clearing
    || (decide (x.mode = .hold ∧ x.target = x.targetSet) && decide (x.target ≠ s.routeTarget d e))

/-- The elements that a commit commands: route states that change, port elements whose attenuation changes, and those off
their route that a made or moved leg, or a trace of the new configuration, passes (R37, R137, R138, R144). -/
def State.commanded (s : State) (c d : Cfg) (legs : List LegChange) : List Nat :=
  let ports := (numbers 0 2048).filter fun p => decide (s.attenNow c p ≠ s.attenNow d p)
  let passed := (legs.flatMap fun q => if q.kind = 2 ∨ q.kind = 3 then [] else q.slot.pathElems)
    ++ (c.newTraces d).flatMap fun t => portElem t.2.1 :: t.2.2.map Use.elem
  sortNums (c.changedElems d ++ ports.map portElem ++ passed.filter (s.offRoute d))

/-- The first commit after Watch power-up takes every other element to HOLD (R138). -/
def startLoops (commanded : List Nat) (s : State) : State :=
  let s1 := { s with loopsStarted := true }
  forEach (fun e t =>
    let x := t.elem e
    if commanded.contains e ∨ x.mode ≠ .parked then t
    else t.setElem e { x with nextMode := some .hold, target := t.routeTarget t.active e }) (numbers 0 elemCount) s1

/-- A group of a commit: its generations where it is made or its legs move; what was kept of a group that is
gone, and of light expected both ways where that is not checked, is dropped (R73, R80). -/
def commitGroup (gen : Nat) (c : Cfg) (moved : List Nat) (g : Nat) (s : State) : State :=
  let x := s.active.slot g
  if x.kind = .group then
    let fresh := decide ((c.slot g).kind ≠ .group) || decide ((c.slot g).made ≠ x.made)
    let l : LegSt := if fresh then { genMade := gen } else s.leg g
    s.setLeg g (if (s.active.groupLegs g).any fun p => moved.contains p.1 then { l with genMoved := gen } else l)
  else if x.isLeg then s else { s with legs := mapErase s.legs g }

/-- A circuit whose light both ways is not checked has no BIDIR_OK. -/
def dropBidir (id : Nat) (s : State) : State :=
  if (s.active.flagsOf id).testBit 1 then s else s.setLeg id { s.leg id with bidirOk := none }

/-- The legs that a commit takes out of trim: those that change, and those whose path it commands. -/
def State.trimStopped (s : State) (cmd : List Nat) (changes : List LegChange) : List (Nat × Slot) :=
  s.active.legs.filter fun p => decide ((s.leg p.1).trim ≠ .off)
    && (changes.any (fun q => decide (q.id = p.1)) || p.2.pathElems.any cmd.contains)

/-- Put a configuration in force at T0: generation, targets, leg states; answers the batch's legs. -/
def applyCfg (d : Cfg) (s : State) : List BatchLeg × List LegChange × State :=
  let c := s.active
  let changes0 := legChanges c d
  let changes := if s.loopsStarted then changes0 else changes0 ++ keptLegs c d changes0
  let cmd := s.commanded c d changes
  let stopped := s.trimStopped cmd changes
  let s1 := { s with batches := s.batches.map (supersede (changes.map fun q => q.id)) }
  let s2 := forEach (fun p t => trimOffLeg p.1 t) stopped s1
  let s3 := nextGeneration s.now (forEach (fun p t => trimOffPath p.2 t) stopped { s2 with active := d })
  let repathed := (changes.filter fun q => decide (q.kind = 1)
    || (decide (q.kind = 3) && decide (c.pathCodes q.id ≠ d.pathCodes q.id))).map fun q => q.id
  let s4 := forEach (commitLeg s3.generation repathed) changes s3
  let s5 := forEach (commitGroup s3.generation c repathed) (sortNums (c.groups ++ d.groups)) s4
  let s6 := forEach dropBidir (s5.legs.map fun p => p.1) s5
  let s7 := if s6.loopsStarted then s6 else startLoops cmd s6
  let s8 := forEach (fun e t =>
    let t1 := if e < 9728 ∧ c.route e ≠ d.route e then notchFor e (d.route e) t else t
    commandElem e (t1.routeTarget d e) t1) cmd s7
  let waiting := cmd.filter fun e => decide ((s8.elem e).mode = .transit) || (s8.elem e).resume
  -- a settled leg that the commit does not change is lit and settled still: it qualifies anew (R173)
  let s9 := forEach (fun p t => tryQualify p.1 t) (stopped.filter fun p => !changes.any fun q => decide (q.id = p.1)) s8
  (changes.map (batchLeg waiting (s.clock true)), changes, s9)

end Sys2Proof.Machine
end

