-- ==== Sys2Proof/Machine/Gate.lean ====
section
/-!
DEFINITION. The gate that every request passes (R383, R404, R407, R408): its session, the object, access
code and role, type and length, range, and quiescent settings; and the answer a request gives.
-/

namespace Sys2Proof.Machine

/-! ### Sessions (R382, R383) -/

/-- Session `n`. -/
def State.session (s : State) (n : Nat) : Session := mapGet s.sessions n {}

/-- Replace session `n`. -/
def State.setSession (s : State) (n : Nat) (x : Session) : State :=
  { s with sessions := mapSet s.sessions n x {} }

/-- Session 31 is open in these life-cycle states (R459). -/
def State.factoryOpen (s : State) : Bool :=
  decide (s.life.state = .blank ∨ s.life.state = .provisioned ∨ s.life.state = .rma)

/-- A session is served: it is open, or internal (R382, R420). -/
def State.served (s : State) (n : Nat) : Bool :=
  (s.session n).isOpen || decide (n = 29 ∨ n = 30) || (decide (n = 31) && s.factoryOpen)

/-- The role of a session: 0 OBSERVE, 1 OPERATE, 2 ADMIN; a v2 session's is V2_ROLE (R383, R412). -/
def State.role (s : State) (n : Nat) : Nat :=
  if 29 ≤ n then 2
  else if (s.session n).link = 2 then s.obj 0x1400 3
  else (s.session n).role

/-- A request is answered: the status and data leave by the session's response and the output port. -/
def answer (ses st : Nat) (data : List Byte) (s : State) : State :=
  let x := s.session ses
  { s.setSession ses { x with resp := some ⟨st, data, data.length⟩, requests := (x.requests + 1) % 4294967296 }
    with out := ⟨leNat (data.take 8), st, data⟩ }

/-- A request is answered with a status alone. -/
def reply (ses st : Nat) (s : State) : State := answer ses st [] s

/-- A stored setting has been written: it is answered once it is in force and in the journal (R410). -/
def beginStore (ses key : Nat) (value : List Byte) (s : State) : State :=
  s.setSession ses { s.session ses with storing := some (key, value) }

/-! ### The steps of R407 -/

/-- The bytes of a type of fixed length (R408). -/
def OType.size : OType → Option Nat
  | .bool => some 1
  | .u8 => some 1
  | .u16 => some 2
  | .u32 => some 4
  | .u64 => some 8
  | .i16 => some 2
  | .i32 => some 4
  | .i64 => some 8
  | .f32 => some 4
  | .time96 => some 12
  | .octet n => some n
  | .str => none
  | .domain => none

/-- The lengths that a DOMAIN object allows; lengths that its records cannot make are BAD_TYPE (step 6). -/
def domainLenOk (ix sub : Nat) (value : List Byte) : Bool :=
  let n := value.length
  if ix = 0x2000 ∧ sub = 1 then decide (n % 32 = 0 ∧ 32 ≤ n ∧ n ≤ 32768)
  else if ix = 0x2200 ∧ sub = 1 then decide (32 ≤ n ∧ n = 32 + 32 * leAt value 2 2)
  else if ix = 0x2100 ∧ sub = 4 then decide (n % 8 = 0)
  else if 0x2400 ≤ ix ∧ ix < 0x2440 ∧ sub = 1 then decide (n % 16 = 0 ∧ n ≤ 32768)
  else if 0x3540 ≤ ix ∧ ix < 0x3542 ∧ sub = 3 then decide (n % 8 = 0)
  else if 0x1600 = ix then decide (n ≤ 4096)
  else if ix = 0x1800 ∧ sub = 3 then decide (n = 96)
  else if ix = 0x1810 ∧ sub = 6 then decide (4 ≤ n ∧ n ≤ 1048576)
  else if ix = 0x3200 ∧ sub = 1 then decide (n = 32)
  else if ix = 0x3530 ∧ sub = 1 then decide (n = 16384)
  else if ix = 0x5400 ∧ sub = 1 then decide (n = 47104)
  else if ix = 0x5400 ∧ sub = 2 then decide (n = 64)
  else if ix = 0x1E00 ∧ sub = 1 then decide (n = 16)
  else true

/-- The value's length is one of its type (step 6). -/
def lengthOk (ix sub : Nat) (t : OType) (value : List Byte) : Bool :=
  match t.size with
  | some n => decide (value.length = n)
  | none => if t = .domain then domainLenOk ix sub value else decide (value.length ≤ 255)

/-- The value of a type lies in its object's range (step 7); a BOOL is 0 or 1, an F32 is finite. -/
def rangeOk (r : ObjRow) (ix : Nat) (value : List Byte) : Bool :=
  let n := leNat value
  match r.type_ with
  | .bool => decide (n ≤ 1)
  | .f32 => f32Finite (f32Bits n) && f32Le (f32Bits r.lo.toNat) (f32Bits n) && f32Le (f32Bits n) (f32Bits r.hi.toNat)
  | .i16 => decide (r.lo ≤ bitsInt 16 n ∧ bitsInt 16 n ≤ r.hi)
  | .i32 => decide (r.lo ≤ bitsInt 32 n ∧ bitsInt 32 n ≤ r.hi)
  | .i64 => decide (r.lo ≤ bitsInt 64 n ∧ bitsInt 64 n ≤ r.hi)
  | .time96 => time96Ok value
  | .octet _ => true
  | .str => true
  | .domain => true
  | _ => decide (r.lo ≤ (n : Int) ∧ (n : Int) ≤ r.hi)
      && !(decide (0x3510 ≤ ix ∧ ix < 0x3530 ∧ r.sub = 5 ∧ 0 < n ∧ n < 16))

/-- The writes that a role permits (R383). -/
def roleMay (role ix sub : Nat) : Bool :=
  if role = 2 then true
  else if (ix = 0x3100 ∧ sub = 6) ∨ (ix = 0x1E00 ∧ sub = 1) then true
  else if role = 1 then !(decide (0x1000 ≤ ix ∧ ix ≤ 0x1FFF) || decide (0x3500 ≤ ix ∧ ix ≤ 0x35FF))
  else false

/-- Ranges that depend on other settings (step 7): a gain is not negative, a limit is above 0, a profile's
window is not empty (R157), a threshold is a multiple of 0x0080 (R185), EQUALISE is for south ports (R177), FEC for 25GBASE-R (R412), and PTP_ENABLE 1
for a domain and transport that fit the profile (R240). -/
def State.rangeRule (s : State) (ix sub : Nat) (value : List Byte) : Bool :=
  let n := leNat value
  if 0x5000 ≤ ix ∧ ix < 0x5040 then
    if sub ≤ 0x0B then decide (n ≤ 0x80000000)
    else if sub = 0x0C then decide (n < s.obj ix 0x0D)
    else if sub = 0x0D then decide (s.obj ix 0x0C < n)
    else if sub ≤ 0x13 then decide (0 < n ∧ n < 0x80000000)
    else true
  else if 0x4000 ≤ ix ∧ ix < 0x4800 ∧ (sub = 0x10 ∨ sub = 0x11) then decide (n % 128 = 0)
  else if 0x4000 ≤ ix ∧ ix < 0x4400 ∧ sub = 0x15 then decide (n = 0)
  else if ix = 0x1400 ∧ (sub = 0x12 ∨ sub = 0x13) then decide (n = 0 ∨ s.obj 0x1400 (sub - 2) = 3)
  else if 0x3010 ≤ ix ∧ ix < 0x3012 ∧ sub = 1 ∧ n = 1 then
    if s.obj 0x3000 1 = 2 then decide (24 ≤ s.obj ix 3 ∧ s.obj ix 3 ≤ 43 ∧ s.obj ix 2 = 2)
    else decide (s.obj ix 3 ≤ 127)
  else true

/-- Step 5: access code, role, the settings of sessions 29 to 31, CHAN_SPAN, and the tamper mask in DEPLOYED
(R211, R420, R464). -/
def State.accessOk (s : State) (ses ix : Nat) (r : ObjRow) : Bool :=
  (decide (r.acc = .rw) || decide (r.acc = .wo))
    && roleMay (s.role ses) ix r.sub
    && !(decide (0x3510 + 29 ≤ ix ∧ ix < 0x3530))
    && (!(decide (0x8000 ≤ ix ∧ r.sub = 0x30)) || (decide (ses = 31) && decide (s.life.state ≠ .deployed)))
    && !(decide (ix = 0x1820) && decide (s.life.state = .deployed))

/-- Some session that came through the management ports is open. -/
def State.mgtOpen (s : State) (p : Nat) : Bool :=
  s.sessions.any fun q => q.2.isOpen && decide (q.2.link = 2 ∨ q.2.link = 3)
    && decide ((q.2.peer.headD 0#8).toNat = p)

/-- The configurations named by the active schedule or a change not yet in force (R115). -/
def State.namedCfgs (s : State) : List Nat :=
  if s.sched.state = .idle then []
  else (s.sched.table.map fun w => w.config) ++ (match s.sched.change with
    | none => []
    | some c => c.table.map fun w => w.config)

/-- The element's start has arrived and waits for its boundary (R27): an entry into HOLD, a return into TRANSIT. -/
def Elem.starting (x : Elem) : Bool :=
  decide (x.nextMode = some .hold) || x.modeAsks.any (fun p => decide (p.1 = some .hold)) || x.resume || x.toTransit

/-- Step 8: a quiescent setting of a block that runs (R22, R23). -/
def State.quiescentBusy (s : State) (ix sub : Nat) : Bool :=
  if 0x1400 = ix ∧ 0x10 ≤ sub then s.mgtOpen ((sub - 0x10) % 2)
  else if ix = 0x2000 ∧ (sub = 3 ∨ sub = 4) then
    s.planner.reroute.isSome || s.batches.any fun b => b.pending || decide (b.state = .planning ∨ b.state = .moving)
  else if ix = 0x2100 ∧ sub = 5 then decide (s.sched.state ≠ .idle)
  else if 0x2400 ≤ ix ∧ ix < 0x2440 ∧ sub = 1 then s.namedCfgs.contains (ix - 0x2400)
  else if ix = 0x3000 ∧ sub = 1 then s.objOn 0x3010 1 || s.objOn 0x3011 1
  else if 0x3010 ≤ ix ∧ ix < 0x3012 ∧ 2 ≤ sub ∧ sub ≤ 5 then s.objOn ix 1
  else if ix = 0x3200 ∧ sub = 7 then false
  else if 0x5000 ≤ ix ∧ ix < 0x5040 ∧ (sub = 0x0C ∨ sub = 0x0D) then
    s.elems.any fun p => (p.2.mode.runs || p.2.starting) && decide (s.profileOf p.1 = ix - 0x5000)
  else if 0x8000 ≤ ix ∧ sub = 0x30 then
    let x := s.elem (ix - 0x8000)
    decide (x.mode ≠ .parked) || x.starting || decide (x.nextMode.isSome ∧ x.nextMode ≠ some .parked)
      || x.modeAsks.any fun p => decide (p.1 = some .manual)
  else false

/-- Steps 4 to 8 of R407 for a write: the status, OK where the object's own rules come next. -/
def State.writeGate (s : State) (ses ix sub : Nat) (value : List Byte) : Nat :=
  match objRow ix sub with
  | none => if sub = 0 ∧ (highestSub ix).isSome then stDenied else stNoObject
  | some r =>
    if !s.accessOk ses ix r then stDenied
    else if !lengthOk ix sub r.type_ value then stBadType
    else if !rangeOk r ix value || !s.rangeRule ix sub value then stRange
    else if s.quiescentBusy ix sub then stBusy
    else stOk

/-- Steps 4 and 5 of R407 for one segment of a write; every session may ask for RMA (R404, R460). -/
def State.segmentGate (s : State) (ses ix sub : Nat) : Nat :=
  match objRow ix sub with
  | none => if sub = 0 ∧ (highestSub ix).isSome then stDenied else stNoObject
  | some r => if s.accessOk ses ix r ∨ (ix = 0x1800 ∧ sub = 3) then stOk else stDenied

/-- 2 s of elapsed time. -/
def twoSeconds : Nat := 2000000000 * 65536

/-- Run a write of an object through the gate; `f` holds the object's own rules and answers. -/
def gated (ses ix sub : Nat) (value : List Byte) (f : State → State) (s : State) : State :=
  if !s.served ses then s
  else
    let st := s.writeGate ses ix sub value
    if st = stOk then f s else reply ses st s

end Sys2Proof.Machine
end

