-- ==== Sys2Proof/Machine/Batch.lean ====
section
/-!
DEFINITION. Plans and batches (R69 to R72, R77, R79, R81 to R102, R422): PLAN_QUERY and the BATCH_
commands, the route image, and the re-route of affected legs.
-/

namespace Sys2Proof.Machine

/-! ### Shared conditions -/

/-- The first transit boundary after the present instant (R83, R89). -/
def State.nextBoundary (s : State) : Instant := (s.now / transitUnits + 1) * transitUnits

/-- Thermal stage STOP-1 or above (R99, R333). -/
def State.stopped1 (s : State) : Bool := decide (2 ≤ s.thermal.stage)

/-- Thermal stage STOP-2 or above: no watch boundary commits, and path trim runs at reduced duty (R113, R182, R333). -/
def State.stopped2 (s : State) : Bool := decide (3 ≤ s.thermal.stage)

/-- FAIL_STATIC (R301). -/
def State.failStatic (s : State) : Bool := decide (s.keeper.state = .failStatic)

/-- A factory calibration type without which the channels stay at 0 V is unusable (R315). -/
def State.factoryBad (s : State) : Bool :=
  [1, 2, 5, 6, 9].any fun t => !(s.calType t).factoryValid

/-- BATCH_SUBMIT is refused whatever the batch (R85, R88, R99, R112, R272, R301, R315). -/
def State.batchBarred (s : State) : Bool :=
  decide (s.sched.state ≠ .idle) || s.failStatic || s.auditNearFull || s.stopped1 || s.factoryBad || !s.boot.calUsable
    || decide (16 ≤ s.pendingBatches.length) || s.batches.any fun b => decide (b.state = .held)

/-- A re-route may be planned (R70, R99, R112, R272); none while 16 batches are pending (R85). -/
def State.rerouteAllowed (s : State) : Bool :=
  s.loopsStarted && !s.stopped1 && decide (s.sched.state = .idle) && !s.failStatic
    && decide (s.ladder.state = 2) && decide (s.pendingBatches.length < 16)

/-! ### Failing and finishing a submission -/

/-- The batch with an ID among those not closed. -/
def State.batch (s : State) (id : Nat) : Option Batch :=
  (s.batches.filter fun b => decide (b.id = id)).head?

/-- Take a batch out of those not closed. -/
def State.dropBatch (s : State) (id : Nat) : State :=
  { s with batches := s.batches.filter fun b => decide (b.id ≠ id) }

/-- Put a batch in the place of the one with its ID. -/
def State.putBatch (s : State) (b : Batch) : State :=
  { s with batches := s.batches.map fun c => if c.id = b.id then b else c }

/-- A host session's submission is answered. -/
def replyBatch (b : Batch) (st : Nat) (s : State) : State :=
  if b.origin = 0 ∧ b.state = .planning ∧ b.moves.isEmpty then reply b.session st s else s

/-- The first FAULTED element of a leg's path. -/
def State.faultedOn (s : State) (c : Cfg) (id : Nat) : Nat :=
  (((c.slot id).pathElems).filter fun e => decide ((s.elem e).mode = .faulted)).headD 0xFFFF

/-- A leg that a plan did not place becomes DEGRADED with the plan's REASON (R71). -/
def degradeLegs (legs : List (Nat × Nat)) (s : State) : State :=
  forEach (fun l t => degradeLeg (t.faultedOn t.active l.1) l.2 l.1 t) legs s

/-- A re-route that does not commit leaves its affected legs DEGRADED (R71). -/
def dropMoves (b : Batch) (s : State) : State :=
  if b.origin = 1 then
    degradeLegs ((b.moves.filter fun l => (s.active.slot l).isLeg && s.legFaulted l).map fun l =>
      (l, if b.plan.reason = 0 then 2 else b.plan.reason)) s
  else s

/-- A batch becomes FAILED with a status (R84, R97, R103). -/
def failBatch (b : Batch) (st : Nat) (s : State) : State :=
  let b1 := { b with state := .failed, status := st }
  let s1 := s.dropBatch b.id
  replyBatch b st (dropMoves b (raiseEv 0x603 b1.payload { s1 with closed := (b1 :: s1.closed).take 64 }))

/-! ### The route image (R77, R78) -/

/-- Only the next batch due has its image in the inactive copy; another batch's image is written anew. While a schedule
is active the copy holds the next watch's. -/
def refreshImage (s : State) : State :=
  match s.pendingBatches with
  | [] => if s.sched.state = .idle then { s with image := none } else s
  | h :: _ =>
    { s with
      batches := s.batches.map fun b => if b.pending ∧ b.id ≠ h.id then { b with imageReady := false } else b
      image := if h.imageReady then s.image else none }

/-! ### Moves of legs by the engine itself (R70, R71, R322) -/

/-- What a plan that moves legs comes to: an outcome and REASON (R58), and where it is placed the configuration. -/
structure MovePlan where
  outcome : Nat
  reason : Nat
  cfg : Option Cfg

/-- A plan that search `n` may find for a move of legs: it is usable, it moves every one of them, and of others
none (search 1), no protected one (2), or any (3). -/
def State.moveOk (s : State) (n : Nat) (basis : Cfg) (legs : List Nat) (d : Cfg) : Bool :=
  let moved := movedLegs basis d
  s.changeUsable basis d [] && d.ratiosOk && s.notchOk basis d && legs.all moved.contains
    && moved.all fun l => legs.contains l
      || (if n = 1 then false else if n = 2 then !(basis.protected_ l) else true)

/-- The status that goes with it (R58). -/
def MovePlan.status (p : MovePlan) : Nat :=
  if p.outcome ≤ 1 then stOk else if p.outcome = 2 then stDisturbing else if p.outcome = 3 then stBlocked
  else reasonStatus p.reason

/-- Plan a move of legs with the three searches (R57); `allow` is ALLOW_DISTURB. -/
def State.planMove (s : State) (allow : Bool) (basis : Cfg) (legs : List Nat) : MovePlan :=
  let all := basis.legs.map fun q => q.1
  let find (n : Nat) : Option Cfg :=
    s.findPlan basis basis (if n = 1 then legs else all) (decide (n = 1))
      (Config.proposeReroute n basis s.shunnedSet (512 - s.notchHeld) legs) (s.moveOk n basis legs)
  match find 1 with
  | some d => ⟨0, 0, some d⟩
  | none => match find 2 with
    | some d => if allow then ⟨1, 0, some d⟩ else ⟨2, 0, none⟩
    | none => match find 3 with
      | some _ => ⟨3, 1, none⟩
      | none => ⟨4, s.noPlanReason basis basis basis
          (fun d => s.changeUsable basis d [] && legs.all (movedLegs basis d).contains) all 0 0, none⟩

/-- A plan that moves legs: the configuration, the legs placed, and those that were not with their REASON. -/
structure Moves where
  cfg : Cfg
  placed : List Nat := []
  failed : List (Nat × Nat) := []

/-- Place one leg after those placed. -/
def State.moveOne (s : State) (allow : Bool) (m : Moves) (l : Nat) : Moves :=
  let p := s.planMove allow m.cfg [l]
  match p.cfg with
  | some d => { m with cfg := d, placed := m.placed ++ [l] }
  | none => { m with failed := m.failed ++ [(l, p.reason)] }

/-- Plan a move of legs: of all together, else of one after another (log 70). -/
def State.planMoves (s : State) (allow : Bool) (basis : Cfg) (legs : List Nat) : Moves :=
  match (s.planMove allow basis legs).cfg with
  | some d => { cfg := d, placed := legs }
  | none => legs.foldl (s.moveOne allow) { cfg := basis }

/-- The plan result of a move that has been planned. -/
def State.moveResult (s : State) (basis : Cfg) (gen ns : Nat) (m : Moves) : Plan :=
  { outcome := if (movedLegs basis m.cfg).all m.placed.contains then 0 else 1
    disturb := s.disturbances basis m.cfg, moved := (basis.changedElems m.cfg).length
    notchDelta := (m.cfg.splits.length : Int) - basis.splits.length
    notchPeakFree := s.notchPeakFree basis m.cfg, planTime := ns, basis := gen, before := basis, after := m.cfg }

/-! ### Re-planning pending batches (R72, R86) -/

/-- Mark the records of a re-plan whose placement moves legs the accepted plan did not list. -/
def markNew (fresh : List Nat) (p : Plan) : Plan :=
  { p with status := stDisturbing, outcome := 2, reason := 14, results := p.results.map fun r =>
      if r.moves.any fresh.contains then { r with status := stDisturbing, outcome := 2, reason := 14 } else r }

/-- The legs of an engine's own batch that are still to be moved: those that stand and, of a re-route, whose path
holds a shunned element. -/
def State.stillMoves (s : State) (basis : Cfg) (b : Batch) : List Nat :=
  b.moves.filter fun l => (basis.slot l).isLeg
    && (decide (b.origin ≠ 1) || (basis.slot l).pathElems.any s.shunned)

/-- REROUTE_ALLOW_DISTURB; a batch that moves legs for a calibration run may disturb (R322). -/
def State.moveAllow (s : State) (b : Batch) : Bool := decide (b.origin ≠ 1) || decide (s.obj 0x2000 4 = 1)

/-- Plan a pending batch again over a basis: the plan, and the legs of a re-route that it does not place. -/
def State.replan (s : State) (basis : Cfg) (gen : Nat) (b : Batch) : Plan × List (Nat × Nat) :=
  if b.moves.isEmpty then (makePlan s basis gen b.records b.plan.planTime, [])
  else
    let legs := s.stillMoves basis b
    let m := s.planMoves (s.moveAllow b) basis legs
    let p := s.moveResult basis gen b.plan.planTime m
    if m.placed.isEmpty ∧ !m.failed.isEmpty then
      let f := s.planMove (s.moveAllow b) basis legs
      ({ p with status := f.status, outcome := f.outcome, reason := f.reason }, m.failed)
    else (p, m.failed)

/-- Re-plan, in commit order, each pending batch that must be planned again or whose basis is no longer the one it
was planned against. `n` commits stand before the list. -/
def replanAll (must : Batch → Bool) (basis : Cfg) (n : Nat) (bs : List Batch) (s : State) : State :=
  match bs with
  | [] => s
  | b :: rest =>
    if b.plan.before = basis ∧ !must b then replanAll must b.plan.after (n + 1) rest s
    else
      let r := s.replan basis (s.generationPlus n) b
      let p := r.1
      let fresh := (p.disturb.map fun d => d.leg).filter fun l => !(b.plan.disturb.any fun a => decide (a.leg = l))
      let s1 := countPlan p.planTime (degradeLegs r.2 s)
      if p.status = stOk ∧ fresh.isEmpty then
        let b1 := { b with plan := p, imageReady := false }
        replanAll must p.after (n + 1) rest (raiseEv 0x606 b1.payload (keepPlan b.session p (s1.putBatch b1)))
      else
        let q := if p.status = stOk then markNew fresh p else p
        replanAll must basis n rest (failBatch { b with plan := q } q.status (keepPlan b.session q s1))

/-- Bring the plans of pending batches into line with the commit order; `must` names those to plan again whatever
their basis. -/
def replanFrom (must : Batch → Bool) (s : State) : State :=
  refreshImage (replanAll must s.active 0 s.pendingBatches s)

/-- The same where only the order or the batches ahead have changed (R86). -/
def replanStale (s : State) : State := replanFrom (fun _ => false) s

/-- Each batch behind the first of a list commits at least one transit period after the one ahead of it: its image
is written only after that one's swap (R77, R85). -/
def stagger (t : Instant) (s : State) : List Batch → State
  | [] => s
  | b :: rest =>
    if b.state = .pending then
      let t1 := max b.t0 (t + transitUnits)
      stagger t1 (s.putBatch { b with t0 := t1 }) rest
    else stagger t s rest

/-! ### Planning a submission (R56, R84, R86, R87, R97) -/

/-- HOLD_FOR_FIRE and ALLOW_LATE. -/
def Batch.hold (b : Batch) : Bool := b.flags.testBit 1
def Batch.allowLate (b : Batch) : Bool := b.flags.testBit 0

/-- A token, in the buckets' units: 10^-9 of 2^-16 of a token, so that a rate in tokens per second times
an elapsed time is exact (R421). -/
def tokUnit : Nat := 65536000000000

/-- Tokens return to the move bucket when a plan completes (R422). -/
def refundMoves (ses records moved : Nat) (s : State) : State :=
  let x := s.session ses
  let top := max x.moveTokens (s.obj (0x3510 + ses) 4 * tokUnit)
  s.setSession ses { x with moveTokens := min top (x.moveTokens + (21 * records - moved) * tokUnit) }

/-- Put a planned batch in its place in the commit order, and re-plan those behind it (R86). -/
def placeBatch (b : Batch) (s : State) : State :=
  let b1 := { b with state := if b.hold ∧ b.origin = 0 then .held else .pending }
  replyBatch b stOk (replanStale (s.putBatch b1))

/-- When a plan completes, BATCH_SUBMIT is refused as at submission, or another batch is pending as this one is to be
HELD (R85, R88, R99, R112; log 71). -/
def State.noPlace (s : State) (b : Batch) : Bool := s.batchBarred || (b.hold && !s.pendingBatches.isEmpty)

/-- Plan a submitted batch that is to commit at its T0. -/
def planBatch (b : Batch) (ns : Nat) (s : State) : State :=
  let ahead := if b.hold then s.pendingBatches else s.pendingBefore b.t0
  let p := makePlan s (cfgAfter s.active ahead) (s.generationPlus ahead.length) b.records ns
  let b1 := { b with plan := p, status := p.status }
  let s1 := refundMoves b.session b.records.length p.moved (countPlan ns (keepPlan b.session p s))
  if p.status ≠ stOk then failBatch b1 p.status s1
  else if s.noPlace b then failBatch b1 stNotEligible s1
  else placeBatch b1 s1

/-- 86,400 s in units of 2^-16 ns. -/
def dayUnits : Nat := 86400 * 1000000000 * 65536

/-- The status of R87 and R97 that a submission meets at once, OK where it is planned. DESIGN CHOICE: the 8 µs of R87 are
judged here alone, and not again when a batch that was still PLANNING has become pending first (log 71). -/
def State.submitStatus (s : State) (b : Batch) : Nat :=
  if s.batchBarred then stNotEligible
  else if b.hold ∧ !s.pendingBatches.isEmpty then stNotEligible
  else if b.mode = 0 then stOk
  else if b.hold then stRange
  else if b.tReq % transitUnits ≠ 0 then stRange
  else if s.now + dayUnits < b.tReq then stRange
  else if b.tReq ≤ s.now then (if b.allowLate then stOk else stLate)
  else if (s.pendingBefore b.tReq).any (fun c => decide (b.tReq < c.t0 + 8000 * 65536)) ∧ !b.allowLate then stRange
  else stOk

/-- The header of a submission is refused at step 7 (R82, R101); so is an IMMEDIATE one with a T_COMMIT other than
0 (log 71). -/
def headerBad (v : List Byte) : Bool :=
  decide (1 < leAt v 0 1) || decide (3 < leAt v 1 1) || decide (leAt v 2 2 < 1) || decide (1024 < leAt v 2 2)
    || !time96Ok ((v.drop 4).take 12) || decide (leAt v 24 8 ≠ 0)
    || (decide (leAt v 0 1 = 0) && decide (leAt v 4 12 ≠ 0))

/-- The batch that a submission spells. -/
def parseBatch (ses id : Nat) (v : List Byte) : Batch :=
  { id := id, mode := leAt v 0 1, flags := leAt v 1 1, session := ses, tag := leAt v 16 8
    tReq := time96Of ((v.drop 4).take 12)
    records := parseRecs (v.drop 32) (leAt v 2 2) }

/-- The batch ID after `n` (R101). -/
def nextBatchId (n : Nat) : Nat := if n = 0xFFFFFFFF then 1 else n + 1

/-- BATCH_SUBMIT (R82, R85, R87, R88, R97, R101): past the gate the batch gets its ID and is refused or
goes to planning; its request is answered when its plan completes. -/
def execBatchSubmit (ses : Nat) (value : List Byte) (s : State) : Outcome :=
  .next (gated ses 0x2200 1 value (fun s =>
    if headerBad value then reply ses stRange s
    else
      let b := parseBatch ses s.nextBatch value
      let st := s.submitStatus b
      let s1 := { (s.setSession ses { s.session ses with lastBatch := b.id }) with
        nextBatch := nextBatchId s.nextBatch, batches := s.batches ++ [b] }
      if st = stOk then s1 else failBatch b st s1) s)

/-- BATCH_PLAN_COMPLETE (R84, R97): a batch in PLANNING becomes PENDING, HELD or FAILED. -/
def execBatchPlanComplete (id planNs : Nat) (s : State) : Outcome :=
  .next (match s.batch id with
    | none => s
    | some b =>
      if b.state ≠ .planning ∨ !s.awake then s
      else if b.mode = 1 ∧ s.now < b.tReq then planBatch { b with t0 := b.tReq } planNs s
      else if b.mode = 1 ∧ !b.allowLate then failBatch b stLate s
      else planBatch { b with t0 := s.nextBoundary, late := decide (b.mode = 1) } planNs s)

/-- PLAN_QUERY (R79): records are planned against the planned configuration, or while a schedule is
ARMED, RUNNING or STOPPING the active one (R112), and not committed. -/
def execPlanQuery (ses : Nat) (value : List Byte) (planNs : Nat) (s : State) : Outcome :=
  .next (gated ses 0x2000 1 value (fun s =>
    let basis := if s.sched.state = .idle then s.plannedCfg else s.active
    let n := if s.sched.state = .idle then s.pendingBatches.length else 0
    let p := makePlan s basis (s.generationPlus n) (parseRecs value (value.length / 32)) planNs
    reply ses p.status (countPlan planNs (keepPlan ses p s))) s)

/-- A batch commits at the next transit boundary, the batches behind it after that (R77, R83). -/
def commitNext (b : Batch) (behind : List Batch) (s : State) : State :=
  stagger s.nextBoundary (s.putBatch { b with t0 := s.nextBoundary }) behind

/-- The image of the first batch is complete: T0 of an IMMEDIATE batch, or of one whose T0 has come meanwhile. -/
def imageDone (b : Batch) (behind : List Batch) (s : State) : State :=
  let b1 := { b with imageReady := true }
  let s1 := { s with image := some (b.id, b.plan.after.routes) }
  if b.state = .held then s1.putBatch b1
  else if (b.mode = 0 ∧ !b.fired) ∨ b.late then commitNext b1 behind s1
  else if (if b.mode = 1 then b.tReq else b.t0) ≤ s.now then
    raiseEv 0x646 (leBytes 4 b.id) (if s.now < b.t0 then s1.putBatch b1 else commitNext b1 behind s1)
  else s1.putBatch b1

/-- BATCH_FIRE (R89): the HELD batch commits at the first transit boundary after the fire, and after a re-route that
stands ahead of it (R88). -/
def execBatchFire (ses id : Nat) (s : State) : Outcome :=
  .next (gated ses 0x2200 3 (leBytes 4 id) (fun s =>
    match s.batch id with
    | none => reply ses stNotEligible s
    | some b =>
      if b.state = .held then
        let ahead := s.pendingBatches.filter fun c => decide (c.state = .pending)
        let t := ahead.foldl (fun m c => max m (c.t0 + transitUnits)) s.nextBoundary
        reply ses stOk (s.putBatch { b with state := .pending, fired := true, t0 := t })
      else reply ses stNotEligible s) s)

/-- BATCH_CANCEL (R98). -/
def execBatchCancel (ses id : Nat) (s : State) : Outcome :=
  .next (gated ses 0x2200 4 (leBytes 4 id) (fun s =>
    match s.batch id with
    | none => reply ses stNotEligible s
    | some b =>
      if b.state = .held ∨ (b.state = .pending ∧ s.now + 10000 * 65536 ≤ b.t0) then
        let b1 := { b with state := .cancelled }
        let s1 := s.dropBatch id
        let s2 := raiseEv 0x605 b1.payload { s1 with closed := (b1 :: s1.closed).take 64 }
        reply ses stOk (replanStale s2)
      else reply ses stNotEligible s) s)

/-! ### The commit (R90, R93, R261) -/

/-- A CIRCUIT record for a slot of a configuration. -/
def circuitRecord (b gen op : Nat) (c : Cfg) (id : Nat) (s : State) : State :=
  let x := c.slot id
  audit 0x05 (leBytes 4 b ++ [byte op, byte (c.flagsOf id)] ++ leBytes 2 id ++ leBytes 2 x.north ++ leBytes 2 x.south
    ++ leBytes 2 x.group ++ [byte x.legCount, byte x.weight] ++ leBytes 8 gen) s

/-- The slots that a change record's CIRCUIT records name, and the configuration that holds them. -/
def recordSlots (c d : Cfg) (r : ChangeRec) (res : RecResult) : Cfg × List Nat :=
  if r.op = 2 then
    (c, if (c.slot r.circuit).kind = .group then r.circuit :: (c.groupLegs r.circuit).map fun q => q.1 else [r.circuit])
  else if r.op = 3 then (d, res.circuit :: res.legs)
  else if r.op = 4 then (d, res.legs)
  else if r.op = 5 then (c, ((c.groupLegAt r.circuit r.south).map fun q => q.1).toList)
  else if r.op = 7 then (d, ((d.groupLegAt r.circuit r.south).map fun q => q.1).toList)
  else (d, [res.circuit])

/-- The CIRCUIT records of a batch. -/
def circuitRecords (b : Batch) (gen : Nat) (c d : Cfg) (s : State) : State :=
  forEach (fun (q : ChangeRec × RecResult) t =>
    let x := recordSlots c d q.1 q.2
    forEach (circuitRecord b.id gen q.1.op x.1) x.2 t) (b.records.zip b.plan.results) s

/-- The DISTURBANCE or, for a re-routed leg, REROUTE records of a batch (R70). -/
def disturbRecords (b : Batch) (gen : Nat) (s : State) : State :=
  forEach (fun d t =>
    let p := leBytes 4 b.id ++ leBytes 2 d.leg ++ leBytes 2 d.south ++ leBytes 2 d.estHit
      ++ [byte d.elements, byte d.flags] ++ leBytes 8 gen
    if b.origin = 1 ∧ b.moves.contains d.leg then audit 0x08 (p ++ leBytes 2 (mapGet b.faults d.leg 0xFFFF) ++ [2#8]) t
    else audit 0x07 p t) b.plan.disturb s

/-- Commit a batch at this transit boundary. -/
def commitBatch (b : Batch) (s : State) : State :=
  let c := s.active
  let r := applyCfg b.plan.after s
  let s1 := r.2.2
  let gen := s1.generation
  let b1 := { b with
    state := .moving, t0 := s.now, t0Elapsed := s.clock true, generation := gen, legs := r.1
    legCount := r.2.1.length, checks := c.newChecks b.plan.after }
  let s2 := { s1 with
    batches := (s1.batches.filter fun x => decide (x.id ≠ b.id)) ++ [b1]
    commitCount := (s1.commitCount + 1) % 4294967296
    planner := { s1.planner with retry := true } }
  let s3 := raiseEv 0x600 b1.payload s2
  let s4 := if b.late then raiseEv 0x604 b1.payload s3 else s3
  let s5 := audit 0x01 (leBytes 4 b.id ++ [byte b.mode, byte b.session, byte b.origin, 0#8] ++ leBytes 8 gen
    ++ leBytes 8 b.tag ++ time96Bytes (if b.mode = 1 then b.tReq else 0)) s4
  let s6 := circuitRecords b gen c b.plan.after (disturbRecords b gen s5)
  closeSettled { s6 with
    image := none
    batches := s6.batches.map fun x => if x.pending then { x with imageReady := false } else x }

/-- A transit boundary has just been reached. -/
def State.atTransit (s : State) : Bool :=
  decide (s.time.elapsed = s.time.transitStart) && decide (s.now % transitUnits = 0)

/-- The next batch due commits at this transit boundary, its T0: its image is ready, and the Forge awake. -/
def State.commitDue (s : State) (b : Batch) : Bool :=
  decide (b.state = .pending) && b.imageReady && decide (b.t0 ≤ s.now) && s.atTransit && s.awake

/-- BATCH_COMMIT (R90): at a transit boundary that is the T0 of the next batch due, whose image is ready. In FAIL_STATIC
it fails there instead (R301). -/
def execBatchCommit (s : State) : Outcome :=
  .next (match s.pendingBatches with
    | [] => s
    | b :: _ =>
      if s.failStatic then
        (if b.state = .pending ∧ b.t0 ≤ s.now ∧ s.atTransit then replanStale (failBatch b stNotEligible s) else s)
      else if s.commitDue b then commitBatch b s else s)

/-- BATCH_SETTLE_LIMIT (R95): 100 µs after T0 a MOVING batch closes LATE_SETTLED. -/
def execBatchSettleLimit (id : Nat) (s : State) : Outcome :=
  .next (match (s.batches.filter fun b => decide (b.id = id ∧ b.state = .moving
      ∧ b.t0Elapsed + 100000 * 65536 ≤ s.clock true)).head? with
    | none => s
    | some b => closeBatch b true s)

/-! ### Re-routes (R69 to R71) -/

/-- The policy covers a leg. -/
def State.policyCovers (s : State) (id : Nat) : Bool :=
  let p := s.obj 0x2000 3
  decide (p = 2) || (decide (p = 1) && !(s.active.protected_ id))

/-- No element of the leg's ports is FAULTED, so another path could serve it. -/
def State.portsGood (s : State) (id : Nat) : Bool :=
  let x := s.active.slot id
  decide ((s.elem (portElem x.north)).mode ≠ .faulted) && decide ((s.elem (portElem (1024 + x.south))).mode ≠ .faulted)

/-- Ask for a re-route plan over legs, waking the Forge (R11). -/
def askReroute (legs : List Nat) (s : State) : State :=
  if legs.isEmpty then s
  else wakeForge { s with planner := { s.planner with
    reroute := some (sortNums ((s.planner.reroute.getD []) ++ legs)), retry := false } }

/-- The DEGRADED legs that a later commit gives another try (R71). -/
def State.retryLegs (s : State) : List Nat :=
  (s.active.legs.filter fun p =>
    decide ((s.leg p.1).state = .degraded) && s.policyCovers p.1 && s.portsGood p.1 && s.legFaulted p.1).map fun p => p.1

/-- Try again to re-route DEGRADED legs, once re-routes are allowed. -/
def retryReroute (s : State) : State :=
  if s.planner.retry ∧ s.rerouteAllowed then
    askReroute s.retryLegs { s with planner := { s.planner with retry := false } }
  else s

/-- Submit an engine's own batch that moves legs, with an immediate commit (R70, R322). -/
def submitMoves (b : Batch) (gen ns : Nat) (basis : Cfg) (m : Moves) (s : State) : State :=
  let b1 := { b with id := s.nextBatch, session := 30, t0 := s.nextBoundary, moves := m.placed
                     faults := m.placed.map fun l => (l, s.faultedOn s.active l)
                     plan := s.moveResult basis gen ns m }
  placeBatch b1 { s with nextBatch := nextBatchId s.nextBatch, batches := s.batches ++ [b1] }

/-- REROUTE_PLAN_COMPLETE (R70, R71): the re-route that was found becomes an IMMEDIATE batch of session 30; legs
not placed become DEGRADED. Where re-routes are barred, the legs stay DEGRADED until the planner tries again. -/
def execReroutePlanComplete (planNs : Nat) (s : State) : Outcome :=
  .next (match s.planner.reroute with
    | none => s
    | some all =>
      if !s.awake then s
      else
        let s0 := { s with planner := { s.planner with reroute := none } }
        let legs := all.filter fun l => (s.active.slot l).isLeg && s.legFaulted l
        if !s.rerouteAllowed then
          degradeLegs (legs.map fun l => (l, 2)) { s0 with planner := { s0.planner with retry := true } }
        else
          let ahead := s.pendingBefore s.nextBoundary
          let basis := cfgAfter s.active ahead
          let m := s.planMoves (decide (s.obj 0x2000 4 = 1)) basis legs
          let s1 := degradeLegs m.failed (countPlan planNs s0)
          if m.placed.isEmpty then s1
          else
            let s2 := raiseEv 0x642 (leBytes 2 m.placed.length) s1
            let s3 := forEach (fun l t => t.setLeg l { t.leg l with affected := false }) m.placed s2
            submitMoves { id := 0, origin := 1 } (s.generationPlus ahead.length) planNs basis m s3)

end Sys2Proof.Machine
end

