-- ==== Sys2Proof/Machine/Schedule.lean ====
section
/-!
DEFINITION. Stored configurations and the watch schedule (R104 to R119).
-/

namespace Sys2Proof.Machine

/-! ### Stored configurations (R104, R105) -/

/-- Stored configuration `c`. -/
def State.cfg (s : State) (c : Nat) : StoredCfg := mapGet s.cfgs c {}

/-- Replace it. -/
def State.setCfg (s : State) (c : Nat) (v : StoredCfg) : State := { s with cfgs := mapSet s.cfgs c v {} }

/-- The circuit ID and slot of a canonical record (R75). What fields hold that its KIND does not use, the spec does not rule
out: the model keeps them as written (DESIGN CHOICE, log 71). -/
def parseSlot (bs : List Byte) : Nat × Slot :=
  let k := leAt bs 2 1
  (leAt bs 0 2,
   { kind := if k = 1 then .p2p else if k = 2 then .group else if k = 3 then .leg else .free
     flags := leAt bs 3 1 % 4, north := leAt bs 4 2, south := leAt bs 6 2, group := leAt bs 8 2
     legCount := leAt bs 10 1, weight := leAt bs 11 1 })

/-- The 16-byte records of a body. -/
def bodyRecords (bs : List Byte) : Nat → List (List Byte)
  | 0 => []
  | n + 1 => bs.take 16 :: bodyRecords (bs.drop 16) n

/-- A record's own fields lie in range (R104). Fields that its KIND does not use, and the upper FLAGS bits, are not judged;
all but those bits stay in the record and its digest (DESIGN CHOICE, log 71). -/
def slotFieldsOk (bs : List Byte) : Bool :=
  let x := (parseSlot bs).2
  decide (1 ≤ leAt bs 2 1 ∧ leAt bs 2 1 ≤ 3) && decide (leAt bs 0 2 < 2048) && decide (leAt bs 12 4 = 0)
    && decide (x.north < 1024) && (decide (x.kind = .group) || decide (x.south < 1024))
    && (decide (x.kind ≠ .leg) || weightOk x.weight)
    && (decide (x.kind ≠ .group) || decide (2 ≤ x.legCount ∧ x.legCount ≤ 8))

/-- The REASON of a record of a body, 0 where it is good; `before` holds the records before it. A LEG whose north
port is not its group's gives NO_CIRCUIT (log 71). -/
def slotReason (c : Cfg) (before : List (List Byte)) (bs : List Byte) : Nat :=
  let id := leAt bs 0 2
  let x := (parseSlot bs).2
  let prev := before.map parseSlot
  if !slotFieldsOk bs then 10
  else if prev.any (fun p => decide (p.1 = id)) then 7
  else if prev.any (fun p => decide (id < p.1)) then 10
  else if x.kind ≠ .leg ∧ prev.any (fun p => decide (p.2.kind ≠ .leg ∧ p.2.north = x.north)) then 5
  else if x.kind ≠ .group ∧ prev.any (fun p => decide (p.2.kind ≠ .group ∧ p.2.south = x.south)) then 6
  else if x.kind = .group ∧ (c.groupLegs id).length ≠ x.legCount then 13
  else if x.kind = .leg ∧ ((c.slot x.group).kind ≠ .group ∨ (c.slot x.group).north ≠ x.north) then 8
  else 0

/-- The REASON of the first record of a body that failed. -/
def bodyReason (c : Cfg) (before : List (List Byte)) : List (List Byte) → Nat
  | [] => 0
  | r :: rest => if slotReason c before r = 0 then bodyReason c (before ++ [r]) rest else slotReason c before r

/-- The circuits that a body spells, without paths. -/
def bodyCfg (bs : List Byte) : Cfg :=
  (bodyRecords bs (bs.length / 16)).foldl (fun c r =>
    let p := parseSlot r
    c.setSlot p.1 { p.2 with group := if p.2.kind = .group then p.1 else p.2.group }) {}

/-- The PROTECTED legs of a body that stand in the active configuration, on a path that may be used. -/
def State.keptLegs (s : State) (c : Cfg) : List Nat :=
  (c.legs.filter fun p => c.protected_ p.1 && decide (c.canonical p.1 = s.active.canonical p.1)
    && s.pathUsable s.active p.1).map fun p => p.1

/-- They take their present paths, and their groups the traces that stand. -/
def State.keepActive (s : State) (c : Cfg) : Cfg :=
  (s.keptLegs c).foldl (fun d l =>
    let g := (s.active.slot l).group
    let d1 := d.setMid (l, (s.active.slot l).mid)
    if (d1.slot l).kind = .leg then d1.setSlot g { d1.slot g with traces := (s.active.slot g).traces } else d1) c

/-- The compile of a body: its REASON, and its route image where that is 0. -/
def State.compile (s : State) (body : List Byte) : Nat × Cfg :=
  let c := bodyCfg body
  let r := bodyReason c [] (bodyRecords body (body.length / 16))
  if r ≠ 0 then (r, {})
  else
    let c1 := s.keepActive c
    let ids := c.legs.map fun p => p.1
    let free := ids.filter fun l => !(s.keptLegs c).contains l
    let usable (d : Cfg) : Bool := s.changeUsable {} d ids
    match s.findPlan {} c1 free true (Config.proposeCompile c s.shunnedSet (512 - s.notchHeld))
        fun d => usable d && d.ratiosOk && s.notchOk {} d with
    | some d => (0, d)
    | none => (s.noPlanReason {} {} c1 usable free ids.length (c.groups.map fun g => (c.slot g).legCount - 1).sum, {})

/-- Payload of 0x618 (R438). -/
def cfgPayload (c st reason cycles : Nat) : List Byte :=
  [byte c, byte st] ++ leBytes 2 reason ++ leBytes 4 cycles

/-- CFG_BODY_WRITE (R104): the body is stored, recorded and compiled. -/
def execCfgBodyWrite (ses c : Nat) (value : List Byte) (s : State) : Outcome :=
  .next (gated ses (0x2400 + c) 1 value (fun s =>
    reply ses stOk (audit 0x0E ([5#8, byte c] ++ (bodyCfg value).circuitDigest)
      (s.setCfg c { s.cfg c with body := value, state := 1, reason := 0 }))) s)

/-- CFG_COMPILE_DONE (R104): a compile ends READY or INVALID; it waits for the Forge (R17). -/
def execCfgCompileDone (c compileNs : Nat) (s : State) : Outcome :=
  .next (
    let x := s.cfg c
    if x.state ≠ 1 ∨ !s.awake then s
    else
      let r := s.compile x.body
      let st := if r.1 = 0 then 2 else 3
      let x1 := { x with
        state := st, reason := r.1, legs := r.2.legs.length, splits := r.2.splits.length
        compileNs := min compileNs 2000000, image := r.2 }
      raiseEv 0x618 (cfgPayload c st r.1 s.sched.cycleCount) (s.setCfg c x1))

/-! ### The schedule table (R106 to R108) -/

/-- Read a watch entry from its 8 bytes. -/
def parseWatch (bs : List Byte) : Watch :=
  { config := leAt bs 0 1, flags := leAt bs 1 1, reserved := leAt bs 2 2, duration := leAt bs 4 4 }

/-- Read `n` watch entries. -/
def parseTable (bs : List Byte) : Nat → List Watch
  | 0 => []
  | n + 1 => parseWatch (bs.take 8) :: parseTable (bs.drop 8) n

/-- The 8 bytes of a watch entry. -/
def Watch.bytes (w : Watch) : List Byte :=
  [byte w.config, byte w.flags] ++ leBytes 2 w.reserved ++ leBytes 4 w.duration

/-- The cycle time of a table, in units of engine time. -/
def cycleUnits (t : List Watch) : Nat := (t.map fun w => w.duration).sum * transitUnits

/-- The cycle time in ns. -/
def cycleNs (t : List Watch) : Nat := (t.map fun w => w.duration).sum * 250

/-- The images of a table's watches. -/
def State.tableCfgs (s : State) (t : List Watch) : List Cfg := t.map fun w => (s.cfg w.config).image

/-- The pairs of consecutive configurations of a cycle: each with the next, the last with the first. -/
def cyclePairs (l : List Cfg) : List (Cfg × Cfg) :=
  match l with
  | [] => []
  | c :: rest => l.zip (rest ++ [c])

/-- The legs that change between two configurations, matched by circuit ID (R108). -/
def legsChanging (c d : Cfg) : Nat :=
  countWhere (fun id =>
    let x := c.slot id
    let y := d.slot id
    (x.isLeg || y.isLeg) && (decide (x.isLeg ≠ y.isLeg) || decide (c.canonical id ≠ d.canonical id)
      || decide (c.pathCodes id ≠ d.pathCodes id)))
    (numbers 0 2048)

/-- The audit load of a table (R108). -/
def State.auditLoad (s : State) (t : List Watch) : Nat :=
  ((cyclePairs (s.tableCfgs t)).map fun p => 2 + 2 * legsChanging p.1 p.2).sum

/-- The audit budget of a table: 10 records in each µs of its cycle. -/
def auditBudget (t : List Watch) : Nat := cycleNs t / 100

/-- A PROTECTED leg that stands in both configurations keeps its path. -/
def protectedKeep (c d : Cfg) : Bool :=
  c.legs.all fun p =>
    !(c.protected_ p.1 && (d.slot p.1).isLeg && decide (c.canonical p.1 = d.canonical p.1))
      || decide (c.pathCodes p.1 = d.pathCodes p.1)

/-- The row of R107 that refuses a table and base, 0 where none does. -/
def State.schedRow (s : State) (t : List Watch) (base : Instant) (arm : Bool) : Nat :=
  let cfgs := s.tableCfgs t
  let pairs := cyclePairs cfgs ++ [(s.active, cfgs.headD {})]
  if t.isEmpty ∨ 64 < t.length ∨ t.any (fun w => decide (63 < w.config ∨ 1 < w.flags ∨ w.reserved ≠ 0 ∨ w.duration < 20)) then 1
  else if cycleNs t < 20000 ∨ 1000000000000 < cycleNs t then 2
  else if base % transitUnits ≠ 0 then 3
  else if t.any fun w => decide ((s.cfg w.config).state ≠ 2) then 4
  else if pairs.any fun p => !s.notchOk p.1 p.2 then 5
  else if pairs.any fun p => !protectedKeep p.1 p.2 then 6
  else if auditBudget t < s.auditLoad t then 7
  else if arm ∧ s.batches.any (fun b => b.pending || decide (b.state = .moving)) then 8
  else 0

/-- The status of a row of R107. -/
def rowStatus (r : Nat) : Nat :=
  if r = 0 then stOk else if r ≤ 3 then stRange else if r = 6 ∨ r = 7 then stPrecondition else stNotEligible

/-! ### Grids and starts (R109, R114, R118) -/

/-- 50 µs in units of engine time. -/
def leadUnits : Nat := 50000 * 65536

/-- The base itself, if it lies at least 50 µs after `t`, else the first later grid point that does. -/
def gridStart (base : Instant) (cycle : Nat) (t : Instant) : Instant :=
  if t + leadUnits ≤ base then base
  else if cycle = 0 then t + leadUnits
  else base + max 1 ((t + leadUnits - base + cycle - 1) / cycle) * cycle

/-- The end of the cycle in progress at `t` on a grid. -/
def cycleEnd (base : Instant) (cycle : Nat) (t : Instant) : Instant :=
  if t < base then base else if cycle = 0 then t else base + ((t - base) / cycle + 1) * cycle

/-- When a change of the table alone takes effect (R114). -/
def tableChangeAt (base : Instant) (cycle : Nat) (t : Instant) : Instant :=
  let e := cycleEnd base cycle t
  if t + leadUnits ≤ e then e else e + cycle

/-- The first watch of a list that begins at or after an offset: its number and its offset. -/
def watchFrom (off at_ k : Nat) : List Watch → Option (Nat × Nat)
  | [] => none
  | w :: rest => if off ≤ at_ then some (k, at_) else watchFrom off (at_ + w.duration * transitUnits) (k + 1) rest

/-- The first boundary of a grid at or after `t`, and its watch. -/
def gridBoundary (base : Instant) (table : List Watch) (t : Instant) : Instant × Nat :=
  let cycle := cycleUnits table
  if t < base ∨ cycle = 0 then (base, 0)
  else
    let n := (t - base) / cycle
    match watchFrom ((t - base) % cycle) 0 0 table with
    | some (k, a) => (base + n * cycle + a, k)
    | none => (base + (n + 1) * cycle, 0)

/-! ### ARM and COMMIT (R109, R114) -/

/-- One CONFIG_CHANGE record for each configuration a table names (R111); its body digest is the one of R105
(log 44). -/
def namedRecords (t : List Watch) (s : State) : State :=
  forEach (fun c u => audit 0x0E ([3#8, byte c] ++ (u.cfg c).image.circuitDigest) u)
    (sortNums (t.map fun w => w.config)) s

/-- Payload of the schedule's events (R438). -/
def State.schedPayload (s : State) (watch : Nat) : List Byte :=
  [byte watch, 0#8] ++ leBytes 2 0 ++ leBytes 4 s.sched.cycleCount

/-- Put a table and base in force. -/
def takeTable (t : List Watch) (base : Instant) (s : State) : State :=
  { s with sched := { s.sched with
    table := t, base := base, auditLoad := s.auditLoad t, auditBudget := auditBudget t, reject := 0 } }

/-- A SCHED_CONTROL write passes the gate (R119). -/
def schedGate (ses v : Nat) (f : State → State) (s : State) : State := gated ses 0x2100 1 [byte v] f s

/-- SCHED_ARM (R109). DESIGN CHOICE: at STOP-2, after which host software must ARM again, it is refused (log 71). -/
def execSchedArm (ses : Nat) (s : State) : Outcome :=
  .next (schedGate ses 1 (fun s =>
    if s.sched.state ≠ .idle ∨ s.auditNearFull ∨ s.failStatic ∨ s.stopped2 then reply ses stNotEligible s
    else
      let t := s.sched.shadowTable
      let b := s.sched.shadowBase
      let row := s.schedRow t b true
      if row ≠ 0 then reply ses (rowStatus row) { s with sched := { s.sched with reject := row } }
      else
        let start := gridStart b (cycleUnits t) s.now
        let s1 := takeTable t b s
        let s2 := { s1 with sched := { s1.sched with
          state := .armed, setBase := b, start := start, next := start, watchNow := 0, cycleCount := 0, late := 0
          change := none, stopAtEnd := none, stopNow := none, imageReady := false, imageCopy := false
          realign := false } }
        let s3 := raiseAt 0x610 start 0 (s2.schedPayload 0) s2
        reply ses stOk (namedRecords t s3)) s)

/-- SCHED_COMMIT (R114). -/
def execSchedCommit (ses : Nat) (s : State) : Outcome :=
  .next (schedGate ses 2 (fun s =>
    if s.sched.state = .idle ∨ s.sched.state = .stopping then reply ses stNotEligible s
    else
      let t := s.sched.shadowTable
      let b := s.sched.shadowBase
      let row := s.schedRow t b false
      if row ≠ 0 then reply ses (rowStatus row) { s with sched := { s.sched with reject := row } }
      else if s.sched.state = .armed then
        let s1 := takeTable t b s
        let start := gridStart b (cycleUnits t) s.now
        let s2 := { s1 with sched := { s1.sched with
          setBase := b, start := start, next := start, imageReady := false, imageCopy := false } }
        reply ses stOk (namedRecords t (raiseEv 0x614 (s2.schedPayload 0) s2))
      else
        let same := decide (b = s.sched.setBase)
        let at_ := if same then tableChangeAt s.sched.base (cycleUnits s.sched.table) s.now
                   else gridStart b (cycleUnits t) s.now
        let ch : SchedChange := { table := t, base := b, baseChanged := !same, at_ := at_ }
        let first := decide (at_ ≤ s.sched.next)
        reply ses stOk (namedRecords t { s with sched := { s.sched with
          change := some ch, reject := 0
          imageReady := s.sched.imageReady && !first, imageCopy := s.sched.imageCopy || first } })) s)

/-! ### Stopping (R113, R116) -/

/-- Stop a schedule with a reason: now, or at the end of the cycle. -/
def schedStop (reason : Nat) (atEnd : Bool) (s : State) : State :=
  match s.sched.state with
  | .idle => s
  | .armed => schedToIdle reason s
  | _ =>
    if s.sched.stopNow.isSome then s
    else if atEnd then
      if s.sched.stopAtEnd.isSome then s
      else { s with sched := { s.sched with state := .stopping, change := none, stopAtEnd := some reason } }
    else
      schedStopCheck { s with sched := { s.sched with
        state := .stopping, change := none, stopAtEnd := none, stopNow := some reason, next := 0
        imageReady := false, imageCopy := false } }

/-- STOP-2 halts the schedule: it goes to IDLE at once (R113). -/
def schedHalt (reason : Nat) (s : State) : State :=
  if s.sched.state = .idle then s else schedToIdle reason s

/-- SCHED_STOP_AT_CYCLE_END (R116). -/
def execSchedStopAtCycleEnd (ses : Nat) (s : State) : Outcome :=
  .next (schedGate ses 3 (fun s =>
    if s.sched.state = .idle ∨ s.sched.state = .stopping then reply ses stNotEligible s
    else reply ses stOk (schedStop 0 true s)) s)

/-- SCHED_STOP_NOW (R116). -/
def execSchedStopNow (ses : Nat) (s : State) : Outcome :=
  .next (schedGate ses 4 (fun s =>
    if s.sched.state = .idle then reply ses stNotEligible s
    else reply ses stOk (schedStop 0 false s)) s)

/-! ### Watch boundaries (R110, R111, R114, R117, R118) -/

/-- SCHED_IMAGE_COPY_START (R110): the copy of watch 0's route image begins. -/
def execSchedImageCopyStart (s : State) : Outcome :=
  .next (if s.sched.state = .armed ∧ s.now < s.sched.start ∧ !s.sched.imageReady then
    { s with sched := { s.sched with imageCopy := true }
             image := some (0, (s.cfg ((s.sched.table.headD ⟨0, 0, 0, 0⟩).config)).image.routes) }
  else s)

/-- Incoming legs whose path holds a FAULTED element become DEGRADED (R117). -/
def degradeIncoming (ch : List LegChange) (s : State) : State :=
  forEach (fun q t =>
    if q.kind ≠ 2 ∧ t.legFaulted q.id then degradeLeg (t.faultedOn t.active q.id) 2 q.id t else t) ch s

/-- Commit watch `k` of the active table, due at an instant of the grid, at this boundary: a batch of MODE WATCH on
session 29. -/
def watchCommit (k : Nat) (due : Instant) (s : State) : State :=
  let w := s.sched.table.getD k ⟨0, 0, 0, 0⟩
  let d := s.active.adopt (s.cfg w.config).image
  let r := applyCfg d s
  let s1 := r.2.2
  let gen := s1.generation
  let b : Batch := {
    id := 0, mode := 2, state := .moving, session := 29, t0 := s.now, t0Elapsed := s.clock true
    generation := gen, legs := r.1, legCount := r.2.1.length, checks := s.active.newChecks d
    watch := some (k, w.config) }
  let s2 := { s1 with
    batches := s1.batches ++ [b], image := none
    sched := { s1.sched with
      watchNow := k, next := due + w.duration * transitUnits, imageCopy := true, imageReady := false
      realign := false } }
  let s3 := audit 0x02 (d.circuitDigest ++ [byte k, byte w.config] ++ leBytes 2 gen) s2
  let s4 := if w.flags.testBit 0 then raiseEv 0x612 (s3.schedPayload k) s3 else s3
  closeSettled (degradeIncoming r.2.1 s4)

/-- A watch boundary can commit here: its image is complete (R77), at a transit boundary, with the Forge awake, below
STOP-2 (R113). -/
def State.watchReady (s : State) : Bool := s.sched.imageReady && s.atTransit && s.awake && !s.stopped2

/-- SCHED_START (R110): at the start instant watch 0 commits. -/
def execSchedStart (s : State) : Outcome :=
  .next (if s.sched.state = .armed ∧ s.sched.start ≤ s.now ∧ s.watchReady then
    let s1 := { s with sched := { s.sched with state := .running } }
    watchCommit 0 s.sched.start (raiseEv 0x611 (s1.schedPayload 0) s1)
  else s)

/-- Boundaries still commit: RUNNING, or STOPPING at the end of the cycle. -/
def State.schedRuns (s : State) : Bool :=
  (decide (s.sched.state = .running) || decide (s.sched.state = .stopping)) && s.sched.stopNow.isNone

/-- The change not yet in force is due. -/
def State.changeDue (s : State) : Bool :=
  match s.sched.change with
  | none => false
  | some c => decide (c.at_ ≤ s.now)

/-- The watch that the boundary now due commits: by the grid after a realignment, else the next. -/
def State.nextWatch (s : State) : Nat :=
  if s.sched.realign then (gridBoundary s.sched.base s.sched.table s.sched.next).2
  else if s.sched.watchNow + 1 < s.sched.table.length then s.sched.watchNow + 1 else 0

/-- A cycle ends: it is counted. -/
def countCycle (s : State) : State :=
  { s with sched := { s.sched with cycleCount := (s.sched.cycleCount + 1) % 18446744073709551616 } }

/-- WATCH_BOUNDARY_COMMIT (R111, R116): the next watch commits; the boundary at the end of the cycle ends a
schedule that stops there. -/
def execWatchBoundaryCommit (s : State) : Outcome :=
  .next (if s.schedRuns ∧ s.sched.next ≤ s.now ∧ s.atTransit ∧ s.awake ∧ !s.stopped2 ∧ !s.changeDue then
    let k := s.nextWatch
    let s1 := if k = 0 ∧ !s.sched.realign then countCycle s else s
    match s.sched.stopAtEnd, decide (k = 0) with
    | some r, true =>
      schedStopCheck { s1 with sched := { s1.sched with stopAtEnd := none, stopNow := some r, next := 0
                                                        imageReady := false, imageCopy := false } }
    | _, _ => if s.sched.imageReady then watchCommit k s.sched.next s1 else s
  else s)

/-- When the next commit of the schedule is due, and the configuration that it puts in force: of a committed change
where that comes first. -/
def State.nextCommit (s : State) : Instant × Nat :=
  let own := (s.sched.next, (s.sched.table.getD s.nextWatch ⟨0, 0, 0, 0⟩).config)
  match s.sched.change with
  | some c => if c.at_ ≤ s.sched.next then (c.at_, (c.table.headD ⟨0, 0, 0, 0⟩).config) else own
  | none => if s.sched.state = .armed then (s.sched.start, (s.sched.table.headD ⟨0, 0, 0, 0⟩).config) else own

/-- The next watch's image is complete; one that comes after its boundary raises 0x646 (R77, R438). -/
def watchImageDone (s : State) : State :=
  let n := s.nextCommit
  let s1 := { s with
    image := some (0, (s.cfg n.2).image.routes)
    sched := { s.sched with imageReady := true, imageCopy := false } }
  if n.1 ≤ s.now then raiseEv 0x646 (leBytes 4 0) s1 else s1

/-- ROUTE_IMAGE_COMPLETE (R77, R110, R111): the image of the next batch due, or of the next watch, is
complete in the inactive copy. The work waits for the Forge (R17). -/
def execRouteImageComplete (s : State) : Outcome :=
  .next (
    if !s.awake then s
    else if s.sched.imageCopy then watchImageDone s
    else match s.pendingBatches with
      | [] => s
      | b :: rest => if b.imageReady then s else imageDone b rest s)

/-- SCHED_CHANGE_APPLY (R114): a committed change takes effect and its watch 0 commits. -/
def execSchedChangeApply (s : State) : Outcome :=
  .next (match s.sched.change with
    | none => s
    | some c =>
      if s.sched.state = .running ∧ c.at_ ≤ s.now ∧ s.watchReady then
        let s1 := if s.sched.next ≤ s.now ∧ s.nextWatch = 0 ∧ !s.sched.realign then countCycle s else s
        let s2 := takeTable c.table (if c.baseChanged then c.base else c.at_) s1
        let s3 := { s2 with sched := { s2.sched with change := none, setBase := c.base, realign := false } }
        watchCommit 0 c.at_ (raiseEv 0x614 (s3.schedPayload 0) s3)
      else s)

/-- A forced step or load realigns an ARMED or RUNNING schedule, and recomputes a committed change (R118). -/
def schedRealign (s : State) : State :=
  match s.sched.state with
  | .idle => s
  | .armed =>
    let t := gridStart s.sched.base (cycleUnits s.sched.table) s.now
    let s1 := { s with sched := { s.sched with start := t, next := t } }
    raiseAt 0x616 t 0 (s1.schedPayload 0) s1
  | _ =>
    if s.sched.stopNow.isSome then s
    else
      let g := gridBoundary s.sched.base s.sched.table (s.now + leadUnits)
      let again (c : SchedChange) : Instant :=
        if c.baseChanged then gridStart c.base (cycleUnits c.table) s.now
        else tableChangeAt s.sched.base (cycleUnits s.sched.table) s.now
      let ch := s.sched.change.map fun c => { c with at_ := again c }
      let s1 := { s with sched := { s.sched with
        next := g.1, realign := true, change := ch, imageReady := false, imageCopy := true } }
      raiseAt 0x616 g.1 0 (s1.schedPayload g.2) s1

end Sys2Proof.Machine
end

