-- ==== Sys2Proof/Machine/Element.lean ====
section
/-!
DEFINITION. Element modes and faults (R134, R137 to R144, R151 to R154, R204, R207): mode, target and
manual writes, entering and leaving FAULTED, the lanes' retirement, and FABRIC_CLEAR_N.
-/

namespace Sys2Proof.Machine

/-! ### Channels -/

/-- Channel pair `e`. -/
def State.chan (s : State) (e : Nat) : Chan := mapGet s.chans e {}

/-- Replace it. -/
def State.setChan (s : State) (e : Nat) (v : Chan) : State := { s with chans := mapSet s.chans e v {} }

/-- A channel whose modulator is bypassed at level 0 has no error history (R190). -/
def resetErrors (e : Nat) (s : State) : State :=
  s.setChan e { s.chan e with e1 := 0, e2 := 0, e3 := 0, levels := [] }

/-- The clear code that channel `e` drives, scaled to its span (R211). DESIGN CHOICE: CHAN_CLEAR_CODE of a channel in LOW
span reads this code, and a code above 15 V drives full scale; the spec says neither (log 78). -/
def State.clearCode (s : State) (e : Nat) : Nat :=
  let c := mapGet s.clear.table e 0
  if (s.chan e).span = 1 then min 1048575 (3 * c) else c

/-- The elements that the state or the clear table lists: every other one is PARKED with a clear code of 0. -/
def State.listedElems (s : State) : List Nat :=
  let own := s.elems.map fun p => p.1
  own ++ (s.clear.table.map fun p => p.1).filter fun e => !own.contains e

/-- Every channel that is not FAULTED drives its clear code, and running loops freeze (R144, R207). -/
def freezeAll (s : State) : State :=
  forEach (fun e t =>
    let x := t.elem e
    if x.mode = .faulted then t
    else t.setElem e { x with nextCode := t.clearCode e, dithered := false
                              onClear := x.onClear || decide (x.mode ≠ .parked)
                              frozen := x.mode.runs })
    s.listedElems s

/-- The code that drives channel `e`: none in the dwell of a span change, where it stands at 0 V (R211). -/
def State.driveCode (s : State) (e : Nat) : Nat := if (s.chan e).dwellAt.isSome then 0 else (s.elem e).code

/-- The full scale of a channel's span in mV, and its top level (R189, R211). -/
def Chan.spanMv (c : Chan) : Nat := if c.span = 1 then 15000 else 45000
def Chan.top (c : Chan) : Nat := if c.span = 1 then 5 else 15

/-- A read-back mismatch against an expected mean of `num / den`: more than 0.005 of the span (R199). -/
def meanMismatch (span : Nat) (measured num : Int) (den : Nat) : Bool :=
  decide (span * den < 200 * (measured * den - num).natAbs)

/-- The same against an expected value. -/
def mismatched (span measured expected : Nat) : Bool := meanMismatch span measured expected 1

/-! ### Entering FAULTED (R69 to R72, R95, R117, R141, R142) -/

/-- A leg of a MOVING batch whose path holds an element that has just faulted is unsettled at once, settled before or not
(R95). -/
def unsettle (e : Nat) (b : Batch) : Batch :=
  if b.state = .moving then
    { b with legs := b.legs.map fun l =>
        if l.path.contains e ∧ !l.superseded then { l with unsettled := true, waiting := [] } else l }
  else b

/-- A pending batch's plan makes, moves or re-weights a leg through an element, or adds a held trace through it
(R37, R72). -/
def State.planThrough (s : State) (e : Nat) (b : Batch) : Bool :=
  ((legChanges b.plan.before b.plan.after).any fun q => decide (q.kind ≠ 2) && q.slot.passes e)
    || (b.plan.before.newTraces b.plan.after).any fun t => decide (portElem t.2.1 = e) || t.2.2.any fun u => decide (u.elem = e)

/-- The legs that an element's fault affects, each re-routed or DEGRADED (R69 to R71). DESIGN CHOICE: a leg that is never
planned, which the policy or a port element leaves out, carries REASON 2 FAULTED_ELEMENT; the spec names none (log 71). -/
def faultLegs (e : Nat) (ids : List Nat) (s : State) : State :=
  let again (id : Nat) : Bool := decide (e < 9728) && s.rerouteAllowed && s.policyCovers id && s.portsGood id
  let s1 := forEach (degradeLeg e 2) (ids.filter fun id => !again id) s
  let s2 := forEach (fun id t => t.setLeg id { t.leg id with affected := true }) (ids.filter again) s1
  askReroute (ids.filter again) s2

/-- SCHED_FAULT and the schedule's fault action (R117). -/
def schedFault (e : Nat) (s : State) : State :=
  if s.sched.state = .armed ∨ s.sched.state = .running then
    let s1 := raiseEv 0x617 ([byte s.sched.watchNow, 0#8] ++ leBytes 2 e ++ leBytes 4 s.sched.cycleCount) s
    let a := s.obj 0x2100 5
    if a = 0 then s1 else schedStop 4 (decide (a = 1)) s1
  else s

/-- The source of an element's fault event: its stage, or its port side (R160). -/
def faultSource (e : Nat) : Nat := if e < 9728 then 0x700 + e / 512 else if e < 10752 then 0x713 else 0x714

/-- The element as it enters FAULTED: its loop state is discarded. -/
def Elem.enterFault (x : Elem) (bit_ : Nat) : Elem :=
  { x with
    mode := .faulted, wasMode := some x.mode, nextMode := none, modeAsks := [], causes := orBit x.causes bit_
    faultCount := (x.faultCount + 1) % 4294967296, nextCode := 0
    iAcc := 0, xPrev := 0, trajs := [], shaper := none, targetPending := [], reachedAt := none
    settled := false, winRun := 0, trackRun := 0, satRun := 0, offset := 0, resume := false, toTransit := false
    dithered := false, onClear := false, heldAt := none, frozen := false, clamped := false, fallback := false, satHi := false, satLo := false, clearAsked := none
    rehand := none }

/-- A fault cause of an element is present: it is latched, and the element enters FAULTED; in MANUAL only
CHANNEL moves it there, and a FAULTED element only latches it. -/
def enterFault (e bit_ : Nat) (s : State) : State :=
  let x := s.elem e
  if x.mode = .faulted ∨ (x.mode = .manual ∧ bit_ ≠ 4) then
    s.setElem e { x with causes := orBit x.causes bit_ }
  else
    let ids := (s.active.legsThrough e).map fun p => p.1
    let s1 := s.setElem e (x.enterFault bit_)
    let s2 := match x.notch with
      | none => s1
      | some n => s1.setNotch n { s1.notch n with s1 := 0, s2 := 0 }
    let s3 := raiseEv (faultSource e) (leBytes 2 e ++ leBytes 2 (orBit x.causes bit_)) s2
    let s4 := { s3 with batches := s3.batches.map (unsettle e) }
    let s5 := schedFault e (faultLegs e ids s4)
    closeSettled (replanFrom (s5.planThrough e) s5)

/-- The bit of a cause in ELEM_FAULT_CAUSE. -/
def faultBitNo : FaultBit → Nat
  | .track => 0
  | .senseRange => 1
  | .driveSat => 2
  | .window => 3
  | .channel => 4
  | .settleTimeout => 5
  | .stateCheck => 6
  | .failstaticDrift => 7

/-- The element's reference reached its target 100 µs ago and it has not settled (R134). -/
def State.timedOut (s : State) (e : Nat) : Bool :=
  let x := s.elem e
  decide (x.mode = .transit) && !x.settled && (match x.reachedAt with
    | none => false
    | some t => decide (t + 100000 * 65536 ≤ s.loopClock e))

/-- The element's hold sample moved from its travel at entry to FAIL_STATIC by more than the drift limit (R302). -/
def State.drifted (s : State) (e : Nat) : Bool :=
  s.failStatic && decide (s.obj 0x3400 8 * 256 < ((s.elem e).holdWord - mapGet s.keeper.entry e (s.elem e).holdWord).natAbs)

/-- The condition of a cause holds (R141); an SECDED failure of the loop state is reported by the command. -/
def State.causePresent (s : State) (e : Nat) (c : FaultBit) : Bool :=
  let x := s.elem e
  match c with
  | .track => decide (s.prof e 0x18 ≤ x.trackRun)
  | .senseRange => decide (2 ≤ x.senseRun)
  | .driveSat => decide (s.prof e 0x19 ≤ x.satRun)
  | .window => decide (2 ≤ x.windowRun)
  | .channel => decide ((s.chan e).causes ≠ 0)
  | .settleTimeout => s.timedOut e
  | .stateCheck => true
  | .failstaticDrift => s.drifted e

/-- A cause has something to do: it is not latched yet, or it was latched in a mode that it does not end. -/
def Elem.heeds (x : Elem) (cause : FaultBit) : Bool :=
  !(x.causes.testBit (faultBitNo cause))
    || (decide (x.mode ≠ .faulted) && (decide (x.mode ≠ .manual) || decide (cause = .channel)))

/-- ELEM_FAULT (R141, R142, R302). -/
def execElemFault (e : Nat) (cause : FaultBit) (s : State) : Outcome :=
  .next (if s.power.watchOn ∧ s.causePresent e cause ∧ (s.elem e).heeds cause then
    let s1 := enterFault e (faultBitNo cause) s
    if cause = .failstaticDrift then raiseEv 0x20F (leBytes 2 e) s1 else s1
  else s)

/-- SETTLE_TIMEOUT (R134). -/
def execSettleTimeout (e : Nat) (s : State) : Outcome :=
  .next (if s.timedOut e then enterFault e 5 s else s)

/-! ### Mode, target and manual writes (R130, R139) -/

/-- The bytes of a written value; one that does not fit its type is longer (R408). -/
def valBytes (n v : Nat) : List Byte := if v < 256 ^ n then leBytes n v else leBytes (n + 1) v

/-- The element lies on a leg of a configuration. -/
def Cfg.onLeg (c : Cfg) (e : Nat) : Bool := c.slots.any fun p => p.2.passes e

/-- R139 refuses a write of a mode with NOT_ELIGIBLE. -/
def State.modeRefused (s : State) (e v : Nat) : Bool :=
  let p := e - 9728
  decide ((s.elem e).mode = .faulted) || !s.loopsStarted
    || (decide (v ≠ 1) && (s.active.onLeg e || s.plannedCfg.onLeg e
        || (decide (9728 ≤ e) && decide (s.active.portRole p = 3 ∨ s.plannedCfg.portRole p = 3))))
    || (decide (v = 0) && decide (9728 ≤ e))
    || (decide (v = 4) && decide (9728 ≤ e) && decide (s.active.portRole p ≠ 0))

/-- The mode that a write asks for. -/
def modeOf (v : Nat) : EMode := if v = 0 then .parked else if v = 4 then .manual else .hold

/-- ELEM_MODE_WRITE (R139): an accepted mode takes effect at the next hold boundary (R137). -/
def execElemModeWrite (ses e value : Nat) (s : State) : Outcome :=
  .next (gated ses (0x8000 + e) 4 (valBytes 1 value) (fun s =>
    if value ≠ 0 ∧ value ≠ 1 ∧ value ≠ 4 then reply ses stRange s
    else if s.modeRefused e value then reply ses stNotEligible s
    else
      let x := s.elem e
      let m := modeOf value
      let next := if x.mode = m ∨ (value = 1 ∧ x.mode.runs) then none else some m
      reply ses stOk (s.setElem e { x with modeAsks := (next, s.time.elapsed) :: x.modeAsks })) s)

/-- A host target lies beyond the cross travel of a fabric element that no calibration run has taken (R33). -/
def State.beyondCross (s : State) (e t : Nat) : Bool :=
  decide (e < 9728) && decide (s.crossTravel e < t) && !(s.elem e).reserved

/-- ELEM_TARGET_SET_WRITE (R33, R130, R132). -/
def execElemTargetSetWrite (ses e value : Nat) (s : State) : Outcome :=
  .next (gated ses (0x8000 + e) 8 (valBytes 2 value) (fun s =>
    if !s.inTravelWindow e value ∨ s.beyondCross e value then reply ses stRange s
    else if s.active.onLeg e ∨ (s.elem e).mode ≠ .hold then reply ses stNotEligible s
    else
      let s1 := s.setElem e { s.elem e with targetSet := value }
      reply ses stOk (queueTarget e value (some s.time.elapsed) s1)) s)

/-- ELEM_MANUAL_CODE_WRITE (R139): above CHAN_CLEAR_LIMIT only from session 31 outside DEPLOYED; live, in force from the
next hold boundary (R21, R28). -/
def execElemManualCodeWrite (ses e value : Nat) (s : State) : Outcome :=
  .next (gated ses (0x8000 + e) 9 (valBytes 4 value) (fun s =>
    if clearLimit e < value ∧ !(decide (ses = 31) && decide (s.life.state ≠ .deployed)) then reply ses stRange s
    else reply ses stOk (waitSetting .elementLoop false (objKey (0x8000 + e) 9) value 0 s)) s)

/-! ### Clearing a fault (R143, R204) -/

/-- A cause other than the channel's own is still present (R143). -/
def State.stillPresent (s : State) (e : Nat) : Bool :=
  let x := s.elem e
  [FaultBit.track, .senseRange, .driveSat, .window, .settleTimeout].any (s.causePresent e)
    || (x.causes.testBit 7 && s.failStatic)
    || decide (s.ladder.state ≠ 2)

/-- A cleared fault, where there is one (R160): the element enters TRANSIT once the transit lanes are ready, waking the
Forge. -/
def clearFault (e : Nat) (s : State) : State :=
  let x := s.elem e
  let s1 := s.setElem e { x with causes := 0, clearAsked := none, toTransit := decide (x.mode = .faulted) }
  let s2 := if x.mode = .faulted ∨ x.causes ≠ 0 then raiseEv 0x715 (leBytes 2 e ++ leBytes 2 0) s1 else s1
  if x.mode = .faulted then wakeForge s2 else s2

/-- ELEM_FAULT_CLEAR (R143): the write waits for an extra read-back, or is refused at once. -/
def execElemFaultClear (ses e value : Nat) (s : State) : Outcome :=
  .next (gated ses (0x8000 + e) 0x0F (valBytes 1 value) (fun s =>
    let x := s.elem e
    if value = 0 then reply ses stOk s
    else if s.stillPresent e then reply ses stNotEligible s
    else s.setElem e { x with clearAsked := some ses, clearAt := s.time.elapsed }) s)

/-- The window of the extra read-back has passed: that of the hold period after the write (R204). -/
def State.clearDue (s : State) (e : Nat) : Bool :=
  decide ((s.elem e).clearAt < s.time.holdStart) && decide (s.time.holdStart + 1250 * 65536 ≤ s.time.elapsed)

/-- FAULT_CLEAR_READBACK (R204): the extra read-back against 0 V, with SHORT and OPEN as they stand. -/
def execFaultClearReadback (e mv : Nat) (shortNow openNow : Bool) (s : State) : Outcome :=
  .next (match (s.elem e).clearAsked with
    | none => s
    | some ses =>
      if !s.clearDue e then s
      else
      let c := s.chan e
      let c1 := { c with readV := mv % 65536, readExp := 0, readTime := nsInst (8000 * s.time.holdNo + 1000),
                         readCount := (c.readCount + 1) % 4294967296 }
      let s1 := (s.setChan e c1).setElem e { s.elem e with clearAsked := none }
      if mismatched c.spanMv mv 0 ∨ shortNow ∨ openNow ∨ s.ladder.state ≠ 2 then reply ses stNotEligible s1
      else reply ses stOk (clearFault e (s1.setChan e { c1 with causes := 0, mismatch := false, readPending := false, retake := false })))

/-! ### Lanes (R152 to R154) -/

/-- Payload of the lane events (R438). -/
def lanePayload (v : Anvil) (n last : Nat) : List Byte := [byte (anvilNo v), byte n, byte last]

/-- LANE_RETIRE (R152 to R154): a lane whose margin was below 10 % in 3 periods is retired. The elements of a transit
lane that has no spare pass to hold rate at the next transit boundary (leaveFallback). -/
def execLaneRetire (anvil : Anvil) (lane : Nat) (s : State) : Outcome :=
  .next (
    let l := s.lane anvil lane
    if !l.works ∨ l.lowRun < 3 then s
    else
      let owner := if l.kind = .spareActive then l.carries else lane
      let s1 := s.setLane anvil lane { l with kind := .retired, carries := 0xFF, lowRun := 0 }
      let sp := if lane < 128 then s1.spares anvil 64 4 else s1.spares anvil 134 2
      match sp with
      | n :: _ =>
        raiseEv 0x221 (lanePayload anvil lane n)
          (s1.setLane anvil n { s1.lane anvil n with kind := .spareActive, carries := owner })
      | [] =>
        if lane < 128 then raiseEv 0x222 (lanePayload anvil lane 0) s1
        else
          let n := (s1.holdLanes anvil).length
          let s2 := raiseEv 0x223 (lanePayload anvil lane n) s1
          if n < 5 then raiseEv 0x224 (lanePayload anvil lane n) s2 else s2)

/-! ### FABRIC_CLEAR_N (R144, R207) -/

/-- AUX output `a`. -/
def State.auxOut (s : State) (a : Nat) : Aux := mapGet s.aux a {}

/-- Replace it. -/
def State.setAux (s : State) (a : Nat) (v : Aux) : State := { s with aux := mapSet s.aux a v {} }

/-- AUX output `a` follows FABRIC_CLEAR_N: bit 31 of its clear entry (R205). -/
def State.auxFollows (s : State) (a : Nat) : Bool := (mapGet s.clear.aux a 0).testBit 31

/-- The clear code of AUX output `a`. -/
def State.auxClear (s : State) (a : Nat) : Nat := mapGet s.clear.aux a 0 % 1048576

/-- The code that an output moves toward (R209, R213). -/
def State.auxGoal (s : State) (a : Nat) : Nat :=
  let x := s.auxOut a
  if x.state = .clear ∨ x.atClear then s.auxClear a else if x.changing then x.before else x.value

/-- The output is driven. -/
def Aux.driven (x : Aux) : Bool := decide (x.state = .active) || decide (x.state = .clear)

/-- A driven output with AUX_SLEW 0 steps to its code at once (R215). -/
def auxJump (a : Nat) (s : State) : State :=
  let x := s.auxOut a
  if x.driven ∧ s.obj (0x5500 + a) 3 = 0 then s.setAux a { x with now := s.auxGoal a } else s

/-- An output is in CLEAR while the pin is asserted and FOLLOW_CLEAR is set, else ACTIVE (R213); a value written for the
next hold boundary stays. -/
def auxFollow (a : Nat) (s : State) : State :=
  let x := s.auxOut a
  if !x.driven then s
  else auxJump a (s.setAux a { x with
    state := if s.clear.asserted && s.auxFollows a then .clear else .active
    atClear := x.atClear && decide (x.state ≠ .clear) })

/-- FABRIC_CLEAR_ASSERT (R144, R207): channels drive their clear codes, loops freeze. Without VAUX no logic sees the pin,
whose level counts at the next start. -/
def execFabricClearAssert (edge : Instant) (s : State) : Outcome :=
  .next (if s.clear.asserted then s
  else if !s.power.vaux then { s with clear := { s.clear with asserted := true, auxFollowing := true } }
  else
    let s1 := freezeAll { s with clear := { s.clear with
      asserted := true, auxFollowing := true, count := (s.clear.count + 1) % 4294967296, last := edge } }
    let s2 := forEach auxFollow (numbers 0 16) s1
    auditAt edge 0 0x0E [1#8, 0xFF#8] (raiseAt 0x020 edge 0 [] s2))

/-- FABRIC_CLEAR_RELEASE (R144, R207): elements resume at the boundaries that follow. -/
def execFabricClearRelease (edge : Instant) (s : State) : Outcome :=
  .next (if !s.clear.asserted then s
  else if !s.power.vaux then { s with clear := { s.clear with asserted := false } }
  else
    let s1 := { s with clear := { s.clear with asserted := false, releasedAt := s.time.elapsed } }
    auditAt edge 0 0x0E [2#8, 0xFF#8] (raiseAt 0x021 edge 0 [] s1))

/-- AUX_CLEAR_RETURN (R207): outputs that followed the pin return to AUX_VALUE at the first hold boundary after the
recognition of its rising edge. -/
def execAuxClearReturn (s : State) : Outcome :=
  .next (if s.clear.asserted ∨ !s.clear.auxFollowing ∨ !s.atHold ∨ s.time.elapsed ≤ s.clear.releasedAt then s
  else forEach auxFollow (numbers 0 16) { s with clear := { s.clear with auxFollowing := false } })

end Sys2Proof.Machine
end

