-- ==== Sys2Proof/Machine/Drive.lean ====
section
/-!
DEFINITION. The drive channels, the ladder, the clear table and the AUX outputs (R189 to R195, R202 to
R216).
-/

namespace Sys2Proof.Machine

/-! ### The modulator (R189, R190) -/

/-- A modulator's error history. -/
structure Errs where
  e1 : Int
  e2 : Int
  e3 : Int
  deriving DecidableEq, Repr

/-- One edge of a modulator with top level `m` on code `c`: the level set, and the errors. A level held by
the deglitcher counts in its place (R193). -/
def modEdge (m c : Nat) (hold : Option Nat) (h : Errs) : Nat × Errs :=
  let f : Int := 1048575
  let v : Int := (c : Int) * (m : Int)
  let y := if 3 * f ≤ v ∧ v ≤ ((m : Int) - 3) * f then v - 3 * h.e1 + 3 * h.e2 - h.e3
    else if f ≤ v ∧ v ≤ ((m : Int) - 1) * f then v - 2 * h.e1 + h.e2
    else v - h.e1
  let q := match hold with
    | some l => l
    | none => (clampInt 0 m ((2 * y + f) / (2 * f))).toNat
  (q, ⟨(q : Int) * f - y, h.e1, h.e2⟩)

/-- The edges of a period, with the levels that a deglitch hold keeps. -/
def modEdges (m c : Nat) : List (Option Nat) → Errs → List Nat × Errs
  | [], h => ([], h)
  | o :: rest, h =>
    let r := modEdge m c o h
    let t := modEdges m c rest r.2
    (r.1 :: t.1, t.2)

/-! ### Channel faults (R194, R202) -/

/-- The bit of a cause in CHAN_FAULT_CAUSE. -/
def chanBit : ChanCause → Nat
  | .readback => 0
  | .short => 1
  | .openLine => 2
  | .ladder => 3

/-- Latch a cause on a channel pair: the channel goes to level 0 with its modulator bypassed, and its
element has cause CHANNEL. -/
def chanFault (e b : Nat) (s : State) : State :=
  let c := s.chan e
  enterFault e 4 (resetErrors e (s.setChan e { c with causes := orBit c.causes b }))

/-- The condition of a channel cause: a confirmed mismatch, two low carrier returns, a ladder that is
down; a short is reported by the command. -/
def State.chanCausePresent (s : State) (e : Nat) : ChanCause → Bool
  | .readback => !(s.chan e).readPending && (s.chan e).mismatch
  | .short => true
  | .openLine => decide (2 ≤ (s.chan e).openRun)
  | .ladder => decide (s.ladder.state = 3 ∨ s.ladder.state = 4)

/-- CHANNEL_FAULT (R202). -/
def execChannelFault (e : Nat) (cause : ChanCause) (s : State) : Outcome :=
  .next (if s.power.watchOn ∧ !((s.chan e).causes.testBit (chanBit cause)) ∧ s.chanCausePresent e cause
    then chanFault e (chanBit cause) s else s)

/-! ### The ladder (R191 to R195, R209, R210) -/

/-- The calibrated error of a cell at a level, in mV: the last ladder calibration's, else the factory's. The spec gives
no slot that holds it (log 3). -/
def Ladder.err (l : Ladder) (c j : Nat) : Int :=
  if l.errs.isEmpty then bitsInt 16 (Config.factoryConst 0x5300 c j) else l.errs.getD (16 * c + j) 0

/-- The voltage in mV of a cell at a level. -/
def Ladder.cellLevel (l : Ladder) (c j : Nat) : Int := 3000 * (j : Int) + l.err c j

/-- The number of a list at which a measure is least, the first of equals. -/
def leastBy (d : Nat → Nat) : List Nat → Option Nat
  | [] => none
  | c :: rest => match leastBy d rest with
    | none => some c
    | some b => if d b < d c then some b else some c

/-- The cells that a calibration selects for levels `j` upward, after those selected (R191). -/
def pickCells (err : Nat → Nat → Int) (j : Nat) : Nat → List Nat → List Nat
  | 0, sel => sel
  | n + 1, sel =>
    let last : Int := match sel.getLast? with | none => 0 | some c => err c (j - 1)
    match leastBy (fun c => (err c j - last).natAbs) ((numbers 0 24).filter fun c => !sel.contains c) with
    | none => sel
    | some c => pickCells err (j + 1) n (sel ++ [c])

/-- Spare cells: neither selected nor retired. -/
def Ladder.free (l : Ladder) (sel : List Nat) : List Nat :=
  (numbers 0 24).filter fun c => !sel.contains c && !l.retired.contains c

/-- The spare whose error at a level lies closest to the retired cell's; ties go to the lower cell. -/
def Ladder.bestSpare (l : Ladder) (level cell : Nat) (free : List Nat) : Option Nat :=
  leastBy (fun c => (l.err c level - l.err cell level).natAbs) free

/-- The selection in force, or being put in force by a replacement. -/
def Ladder.wanted (l : Ladder) : List Nat := l.pendingSel.getD l.selection

/-- Every channel goes to 0 V with the LADDER cause, and every element faults (R194). A replacement that waits for its
transit boundary is still made there (R192). -/
def ladderDown (state src : Nat) (payload : List Byte) (s : State) : State :=
  let s1 := { s with ladder := { s.ladder with state := state, checking := false } }
  raiseEv src payload (forEach (fun e t => chanFault e 3 t) (numbers 0 elemCount) s1)

/-- Retire a level's cell: replaced by the closest spare, or LADDER_FAIL where none is left (R192, R194). -/
def retireCell (level : Nat) (s : State) : State :=
  let l := s.ladder
  let sel := l.wanted
  let cell := sel.getD level 0
  let l1 := { l with retired := insertNum cell l.retired, replacedAt := some s.time.elapsed }
  match l1.bestSpare level cell (l1.free sel) with
  | none => ladderDown 4 0x031 [byte cell, byte level, 0xFF#8] { s with ladder := l1 }
  | some c =>
    raiseEv 0x030 [byte cell, byte level, byte c]
      { s with ladder := { l1 with pendingSel := some (sel.set level c), spares := l1.spares - 1 } }

/-- LADDER_CELL_RETIRE (R192). -/
def execLadderCellRetire (level : Nat) (s : State) : Outcome :=
  .next (if s.ladder.state = 2 ∧ level < 16 then retireCell level s else s)

/-- A level voltage of 16 bits: one of level 0 may lie below 0 V, by at most 150 mV (R191; log 50). -/
def levelMv (n : Nat) : Int := if n < 61440 then n else (n : Int) - 65536

/-- The selection and levels of the calibration in force (R209, R314). -/
def State.calCells (s : State) : List Nat := (numbers 0 16).map fun j => s.calSel 1 0 j % 24
def State.calLevels (s : State) : List Int := (numbers 0 16).map fun j => levelMv (s.calInt 1 0 (16 + 2 * j) 2)

/-- The voltage of a cell that serves a level: the slot's for the cell that the calibration selected. -/
def State.cellMv (s : State) (j c : Nat) : Int :=
  if c = s.calCells.getD j 0 then s.calLevels.getD j 0 else s.ladder.cellLevel c j

/-- Put a spare in the place of each retired cell of a selection: a retired cell stays so until the next calibration
(R192). The last is a level for which none remains. -/
def Ladder.unretire (l : Ladder) : List Nat → List Nat → List Nat × Option Nat
  | [], sel => (sel, none)
  | j :: rest, sel =>
    let c := sel.getD j 0
    if !l.retired.contains c then l.unretire rest sel
    else match l.bestSpare j c (l.free sel) with
      | none => (sel, some j)
      | some b => l.unretire rest (sel.set j b)

/-- Load the selection of the calibration in force, but for retired cells; the level that has none. -/
def loadSelection (s : State) : State × Option Nat :=
  let l := s.ladder
  let r := l.unretire (numbers 0 16) s.calCells
  let lv := (numbers 0 16).map fun j => s.cellMv j (r.1.getD j 0)
  ({ s with ladder := { l with selection := r.1, levels := lv, spares := (l.free r.1).length, loaded := true } }, r.2)

/-- A calibration's selection comes into force. A run's makes every cell serve again; a clear leaves the retired cells, and
what was measured of the cells, as they are (R191, R192, R326). -/
def swapLadder (sel : List Nat) (errs : Option (List Int)) (s : State) : State :=
  let s1 := match errs with
    | some m => { s with ladder := { s.ladder with
        selection := sel, levels := s.calLevels, errs := m, retired := [], spares := 8 } }
    | none => (loadSelection s).1
  { s1 with ladder := { s1.ladder with pendingSel := none, calSel := none, deglitchAt := some s.time.elapsed } }

/-- A replacement's selection comes into force. -/
def swapCell (sel : List Nat) (s : State) : State :=
  let l := s.ladder
  let lv := (numbers 0 16).map fun j =>
    if sel.getD j 0 = l.selection.getD j 0 then l.levels.getD j 0 else s.cellMv j (sel.getD j 0)
  { s with ladder := { l with selection := sel, levels := lv, pendingSel := none, deglitchAt := some s.time.elapsed } }

/-- LADDER_SELECTION_CHANGE (R193): at a transit boundary, under the deglitcher; a calibration swap at a
hold boundary. -/
def execLadderSelectionChange (s : State) : Outcome :=
  .next (
    if !s.atTransit then s
    else match (if s.atHold then s.ladder.calSel else none) with
      | some c => swapLadder c.1 c.2 s
      | none => match s.ladder.pendingSel with
        | some sel => swapCell sel s
        | none => s)

/-- The payload of a ladder event that names no cell (R438). -/
def noSpare : List Byte := [0#8, 0#8, 0xFF#8]

/-- LADDER_UV (R194): VHV stayed below 38.0 V for 10 µs. -/
def execLadderUv (s : State) : Outcome :=
  .next (
    let s1 := { s with power := { s.power with vhv := false } }
    if s.ladder.state = 1 ∨ s.ladder.state = 2 then ladderDown 3 0x032 noSpare s1 else s1)

/-- An element that faulted with the ladder before the clear table was loaded is PARKED again, and enters its clear
code with the load (R138, R210). -/
def parkAgain (e : Nat) (s : State) : State :=
  raiseEv 0x715 (leBytes 2 e ++ leBytes 2 0) (s.setElem e { s.elem e with causes := 0, clearAsked := none, mode := .parked })

/-- The restarted ladder passed its check (R195): the LADDER bit goes, and faults that were only it clear. -/
def ladderRestored (s : State) : State :=
  let s1 := raiseEv 0x033 [] { s with ladder := { s.ladder with state := 2, checking := false } }
  forEach (fun e t =>
    let c := t.chan e
    if c.causes.testBit 3 then
      let c1 := { c with causes := clrBit c.causes 3 }
      let t1 := t.setChan e c1
      let x := t1.elem e
      if c1.causes ≠ 0 then t1
      else
        let x1 := { x with causes := clrBit x.causes 4 }
        let t2 := t1.setElem e x1
        if x.mode = .faulted ∧ x1.causes = 0 then (if s.clear.loaded then clearFault e t2 else parkAgain e t2) else t2
    else t) (numbers 0 elemCount) s1

/-- Each AUX output enters its stored range through the safe-value dwell, and then drives its clear code (R209). -/
def auxStart (s : State) : State :=
  forEach (fun a t => t.setAux a { t.auxOut a with
    wanted := t.obj (0x5500 + a) 1, changing := true, changeAt := t.time.elapsed, atClear := true }) (numbers 0 16) s

/-- The clear table is loaded: channels drive their clear codes from the next hold boundary (R209). -/
def loadClear (s : State) : State :=
  if s.clear.loaded then s else auxStart { s with clear := { s.clear with loaded := true } }

/-- LADDER_RESTART (R195): after LADDER_UV, with VHV good for 100 ms, or after a calibration that ends LADDER_FAIL;
`deviates` are the levels outside ±150 mV, whose cells are replaced. -/
def execLadderRestart (deviates : List Nat) (s : State) : Outcome :=
  .next (if s.ladder.state ≠ 3 ∧ !s.ladder.checking then s
  else
    let s1 := { s with power := { s.power with vhv := true } }
    -- a ladder that fell before it first regulated has its selection still to load (R209)
    let r := if s1.ladder.loaded then (s1, none) else loadSelection s1
    match r.2 with
    | some j => ladderDown 4 0x031 [byte (r.1.ladder.selection.getD j 0), byte j, 0xFF#8] r.1
    | none =>
      let s2 := forEach (fun l t => if t.ladder.state ≠ 4 ∧ l < 16 then retireCell l t else t) deviates r.1
      if s2.ladder.state ≠ 4 then loadClear (ladderRestored s2) else s2)

/-- LADDER_REGULATING (R209, R210): the enabled ladder regulates and the clear table is loaded; without
VHV the engine enters LADDER_UV, and with a level that no cell serves LADDER_FAIL. -/
def execLadderRegulating (s : State) : Outcome :=
  .next (if s.ladder.state ≠ 1 ∨ s.ladder.checking then s
  else
    let r := loadSelection s
    match r.2 with
    | some j => ladderDown 4 0x031 [byte (r.1.ladder.selection.getD j 0), byte j, 0xFF#8] r.1
    | none =>
      if s.power.vhv then loadClear { r.1 with ladder := { r.1.ladder with state := 2 } }
      else ladderDown 3 0x032 noSpare r.1)

/-! ### The clear table (R205, R206, R208) -/

/-- An internal clear entry that a commit refuses. -/
def clearBad (e v : Nat) : Bool := decide (1048576 ≤ v) || decide (clearLimit e < v)

/-- An AUX clear entry with a reserved bit set. -/
def clearAuxBad (v : Nat) : Bool := decide (v / 1048576 % 2048 ≠ 0)

/-- CLEAR_REJECT for both shadows; none where every entry passes. -/
def State.clearReject (s : State) : Option Nat :=
  match s.clear.shadow.filter fun p => clearBad p.1 p.2 with
  | p :: _ => some p.1
  | [] =>
    match s.clear.shadowAux.filter fun p => clearAuxBad p.2 with
    | p :: _ => some (0x10000 + p.1)
    | [] => none

/-- CLEAR_COMMIT (R205). -/
def execClearCommit (ses value : Nat) (s : State) : Outcome :=
  .next (gated ses 0x5400 3 (valBytes 1 value) (fun s =>
    if value ≠ 1 then reply ses stOk s
    else match s.clearReject with
      | some n => reply ses stRange { s with clear := { s.clear with reject := n } }
      | none => reply ses stOk { s with clear := { s.clear with
          waiting := some (s.clear.shadow, s.clear.shadowAux), waitingAt := s.time.elapsed, reject := 0xFFFFFFFF } }) s)

/-- Channels that drive their clear code now step to it: those of PARKED elements, every unfaulted one while
FABRIC_CLEAR_N is asserted or the trip stands, and those that have not yet left it, whose first loop code is still to
come (R206, R207, R337). -/
def clearSteps (s : State) : State :=
  if !s.clear.loaded then s
  else forEach (fun e t =>
    let x := t.elem e
    if x.mode ≠ .faulted ∧ (t.clearing ∨ x.frozen ∨ x.mode = .parked) then
      t.setElem e { x with code := t.clearCode e, nextCode := t.clearCode e }
    else if x.mode ≠ .faulted ∧ x.onClear then t.setElem e { x with code := t.clearCode e }
    else t) s.listedElems s

/-- A committed clear table takes effect. -/
def applyClear (s : State) : State :=
  match s.clear.waiting with
  | none => s
  | some w =>
    let s1 := { s with clear := { s.clear with table := w.1, aux := w.2, waiting := none } }
    let s2 := forEach auxFollow (numbers 0 16) (clearSteps s1)
    audit 0x0E [4#8, 0xFF#8] (raiseEv 0x034 [] s2)

/-- CLEAR_TABLE_APPLY (R21, R206): at the first hold boundary after the commit. -/
def execClearTableApply (s : State) : Outcome :=
  .next (if s.power.watchOn ∧ s.atHold ∧ s.clear.waitingAt < s.time.elapsed then applyClear s else s)

/-! ### Channel span (R211) -/

/-- CHAN_SPAN_WRITE (R211). -/
def execChanSpanWrite (ses e value : Nat) (s : State) : Outcome :=
  .next (gated ses (0x8000 + e) 0x30 (valBytes 1 value) (fun s =>
    reply ses stOk ((s.setObj (0x8000 + e) 0x30 value).setChan e { s.chan e with spanNext := some value })) s)

/-- CHAN_SPAN_DWELL_END (R211): 10 µs at 0 V have passed. -/
def execChanSpanDwellEnd (e : Nat) (s : State) : Outcome :=
  .next (
    let c := s.chan e
    match c.dwellAt, c.spanNext with
    | some t, some v =>
      if t + 10000 * 65536 ≤ s.time.elapsed then
        let s1 := s.setChan e { c with span := v, spanNext := none, dwellAt := none }
        let x := s1.elem e
        if (s.elem e).mode.runs then s
        else if x.mode = .parked ∨ s.clearing then
          s1.setElem e { x with code := s1.clearCode e, nextCode := s1.clearCode e } else s1
      else s
    | _, _ => s)

/-! ### AUX outputs (R212 to R216) -/

/-- AUX_STATE's code. -/
def AuxState.code : AuxState → Nat
  | .off => 0
  | .dwell => 1
  | .active => 2
  | .fault => 3
  | .clear => 4

/-- AUX_FLAGS. -/
def Aux.flags (x : Aux) : Nat := bit x.compliance + 2 * bit x.currentLimit + 4 * bit x.readPending

/-- The span of a range, in its read-back units: mV, or 10 µA (R212, R222). -/
def auxSpan (config : Nat) : Nat := if config = 1 then 5000 else if config = 2 then 10000 else if config = 3 then 25000 else 0

/-- The read-back expected of an output at the levels it output in the window: a mean, as a ratio. -/
def auxExpected (config : Nat) (levels : List Nat) : Int × Nat :=
  if levels.isEmpty then (0, 1) else ((auxSpan config * levels.sum : Nat), 15 * levels.length)

/-- AUX_CONFIG_WRITE (R214): AUX_VALUE becomes 0 at once and the range change begins at the next hold
boundary, until which the output goes on as it was. -/
def execAuxConfigWrite (ses aux value : Nat) (s : State) : Outcome :=
  .next (gated ses (0x5500 + aux) 1 (valBytes 1 value) (fun s =>
    if 3 < value then reply ses stRange s
    else
      let x := s.auxOut aux
      reply ses stOk ((s.setObj (0x5500 + aux) 1 value).setAux aux
        { x with value := 0, valueNext := [], wanted := value, changing := true, changeAt := s.time.elapsed
                 before := s.auxGoal aux, atClear := false })) s)

/-- AUX_DWELL_START (R214): at the first hold boundary after the write the output steps to its safe value. -/
def execAuxDwellStart (aux : Nat) (s : State) : Outcome :=
  .next (
    let x := s.auxOut aux
    if x.changing ∧ s.atHold ∧ s.power.watchOn ∧ x.changeAt < s.time.elapsed then
      s.setAux aux { x with
        state := .dwell, changing := false, dwellAt := some s.time.elapsed, switched := false, now := 0
        compliance := false, currentLimit := false, readPending := false, mismatch := false, e1 := 0, e2 := 0, e3 := 0 }
    else s)

/-- AUX_STAGE_SWITCH (R214): 1 µs into the dwell. A dwell that a second write will restart waits for that (log 78). -/
def execAuxStageSwitch (aux : Nat) (s : State) : Outcome :=
  .next (
    let x := s.auxOut aux
    match x.dwellAt with
    | some t =>
      if x.state = .dwell ∧ !x.changing ∧ !x.switched ∧ t + 1000 * 65536 ≤ s.time.elapsed then
        s.setAux aux { x with config := x.wanted, switched := true }
      else s
    | none => s)

/-- AUX_RANGE_ENABLE (R214): 10 µs into the dwell the new range is enabled at its safe value, and the output moves to its
value, which a write during the dwell gave. -/
def execAuxRangeEnable (aux : Nat) (s : State) : Outcome :=
  .next (
    let x := s.auxOut aux
    match x.dwellAt with
    | some t =>
      if x.state = .dwell ∧ !x.changing ∧ x.switched ∧ t + 10000 * 65536 ≤ s.time.elapsed then
        let st : AuxState := if x.config = 0 then .off
          else if s.clear.asserted ∧ s.auxFollows aux then .clear else .active
        auxJump aux (s.setAux aux { x with
          state := st, dwellAt := none, now := 0, value := (x.valueNext.map fun p => p.1).headD x.value, valueNext := []
          atClear := x.atClear && x.valueNext.isEmpty })
      else s
    | none => s)

/-- AUX_VALUE_WRITE (R215): in force at the next hold boundary. -/
def execAuxValueWrite (ses aux value : Nat) (s : State) : Outcome :=
  .next (gated ses (0x5500 + aux) 2 (valBytes 4 value) (fun s =>
    reply ses stOk (s.setAux aux { s.auxOut aux with valueNext := (value, s.time.elapsed) :: (s.auxOut aux).valueNext })) s)

/-- The condition of an AUX fault cause: a confirmed mismatch; a current limit in a voltage range; the
stage's supply. -/
def Aux.causePresent (x : Aux) : AuxCause → Bool
  | .readback => !x.readPending && x.mismatch
  | .currentLimit => decide (x.config = 1 ∨ x.config = 2)
  | .supply => true

/-- AUX_FAULT (R216): the stage's supply and, in a voltage range, its current limit count in DWELL too. An AUX_CONFIG
write from before the FAULT does not lead out of it (R214). -/
def execAuxFault (aux : Nat) (cause : AuxCause) (s : State) : Outcome :=
  .next (
    let x := s.auxOut aux
    if (x.driven ∨ (x.state = .dwell ∧ cause ≠ .readback)) ∧ x.causePresent cause then
      let x1 := { x with state := .fault, now := 0, currentLimit := decide (cause = .currentLimit)
                         changing := false, dwellAt := none, e1 := 0, e2 := 0, e3 := 0 }
      raiseEv (0x040 + aux) [byte x1.state.code, byte x1.flags] (s.setAux aux x1)
    else s)

/-- AUX_COMPLIANCE (R216). -/
def execAuxCompliance (aux : Nat) (s : State) : Outcome :=
  .next (
    let x := s.auxOut aux
    if x.driven ∧ x.config = 3 ∧ !x.compliance then
      let x1 := { x with compliance := true, complianceAt := s.time.elapsed }
      raiseEv (0x050 + aux) [byte x1.state.code, byte x1.flags] (s.setAux aux x1)
    else s)

/-- AUX_COMPLIANCE_CLEAR (R216): 1 ms within compliance have passed. -/
def execAuxComplianceClear (aux : Nat) (s : State) : Outcome :=
  .next (
    let x := s.auxOut aux
    if x.compliance ∧ x.complianceAt + 1000000 * 65536 ≤ s.time.elapsed then
      s.setAux aux { x with compliance := false }
    else s)

end Sys2Proof.Machine
end

