-- ==== Sys2Proof/Machine/Trim.lean ====
section
/-!
DEFINITION. Ports, buoys and the path trim loop (R48, R49, R96, R161 to R183, R251).
-/

namespace Sys2Proof.Machine

/-! ### Ports and detectors (R18, R45, R185) -/

/-- The threshold of detector `d`, Q8.8 dBm as 16 bits. -/
def State.threshold (s : State) (d : Nat) : Nat := s.obj (0x4000 + d / 2) (0x10 + d % 2)

/-- DELAY_1550 of a port's pigtail, in ps. -/
def pigtailPs (p : Nat) : Nat := Config.factoryConst (0x4000 + p) 5 0 % 4294967296

/-- The end-face instant of a capture (R49): the pigtail's delay in ps is rounded to the nearest 2^-16 ns, ties to even
(log 74). -/
def endFace (d : Nat) (capture : Instant) : Instant :=
  let delay : Int := roundDiv ((pigtailPs (d / 2) : Int) * 65536) 1000
  ((capture : Int) - 12 * 65536 + (if d % 2 = 1 then delay else -delay)).toNat

/-- PORT_ROLE of a port now. -/
def State.roleOf (s : State) (p : Nat) : Nat := s.active.portRole p

/-- Payload of a port's events (R438). -/
def State.portPayload (s : State) (d flags power : Nat) : List Byte :=
  [byte (d % 2 + flags), byte (s.roleOf (d / 2))] ++ leBytes 2 (s.threshold d) ++ leBytes 2 power

/-- The buoy converter of a detector. -/
def convOf (d : Nat) : Nat := d / 32

/-- Buoy converter `c`. -/
def State.buoy (s : State) (c : Nat) : Buoy := mapGet s.buoys c {}

/-- Replace it. -/
def State.setBuoy (s : State) (c : Nat) (v : Buoy) : State := { s with buoys := mapSet s.buoys c v {} }

/-! ### Suspension (R174) -/

/-- The causes of R174 that hold for a leg. -/
def State.trimCauses (s : State) (id : Nat) : Nat :=
  let x := s.active.slot id
  let n := northIn x.north
  let o := southOut x.south
  bit ((s.det n).overpower || (s.det o).overpower) + 2 * bit ((s.buoy (convOf n)).slow || (s.buoy (convOf o)).slow)
    + 4 * bit (decide (s.obj 0x5200 1 = 0))

/-- Causes that arise suspend a TRIMMING leg at once; with `clear`, causes that have gone leave TRIM_CAUSE. -/
def refreshCauses (clear : Bool) (id : Nat) (s : State) : State :=
  let l := s.leg id
  let c := s.trimCauses id
  if l.trim = .trimming ∧ c ≠ 0 then
    s.setLeg id { l with trim := .suspended, cause := c, updates := [], window := [] }
  else if l.trim = .suspended then s.setLeg id { l with cause := if clear then c else l.cause ||| c }
  else s

/-- Refresh every leg. -/
def refreshAllCauses (clear : Bool) (s : State) : State :=
  forEach (fun p => refreshCauses clear p.1) s.active.legs s

/-- Legs of which a detector is the south outbound or the north inbound one. -/
def Cfg.legsAtDet (c : Cfg) (d : Nat) : List Nat :=
  (c.legs.filter fun p => decide (northIn p.2.north = d) || decide (southOut p.2.south = d)).map fun p => p.1

/-! ### Samples (R162, R163) -/

/-- A power in dBm of a code lies below +19.5 dBm. -/
def below195 (code : Nat) : Bool := decide (code * 120 < 119 * 4095)

/-- One detector's sample: its list for the period, and overpower. -/
def sampleDet (first : Bool) (d code : Nat) (s : State) : State :=
  let v := s.det d
  let v1 := { v with samples := (if first then [] else v.samples) ++ [code]
                     below := if below195 code then (match v.below with | none => some s.time.elapsed | b => b) else none }
  if code = 4095 ∧ !v.overpower then
    let s1 := s.setDet d { v1 with overpower := true }
    let s2 := raiseEv (0x800 + d / 2) (s.portPayload d 4 5120) s1
    forEach (refreshCauses false) (s2.active.legsAtDet d) s2
  else s.setDet d v1

/-- The detectors of a converter with their codes. -/
def sampleAll (first : Bool) (d : Nat) : List Nat → State → State
  | [], s => s
  | c :: rest, s => sampleAll first (d + 1) rest (sampleDet first d (c % 4096) s)

/-- BUOY_SAMPLE (R162): sample `i` of converter `c`, the codes of its 32 detectors. -/
def execBuoySample (c i : Nat) (codes : List Nat) (s : State) : Outcome :=
  .next (if s.power.watchOn ∧ c < 128 ∧ i < 10 then sampleAll (decide (i = 0)) (32 * c) (codes.take 32) s else s)

/-- OVERPOWER_CLEAR (R163): 1 ms below +19.5 dBm. -/
def execOverpowerClear (d : Nat) (s : State) : Outcome :=
  .next (
    let v := s.det d
    match v.below with
    | none => s
    | some t =>
      if s.power.watchOn ∧ v.overpower ∧ t + 1000000 * 65536 ≤ s.time.elapsed then
        let s1 := s.setDet d { v with overpower := false }
        forEach (refreshCauses true) (s1.active.legsAtDet d) s1
      else s)

/-! ### Light events (R48, R49, R96, R164, R251) -/

/-- When the comparator's crossing at `t` is captured, whether late, and the latch as it then stands: each
entry is the instant at which the event capture drains it, one of each group of 32 every 40 ns. -/
def State.capture (s : State) (d : Nat) (t : Instant) : Instant × Bool × List Instant :=
  let held := (s.det d).latch.filter fun x => decide (t < x)
  let late := decide (4 ≤ held.length)
  let at_ := if late then held.foldl min (held.headD t) else t
  let group := (numbers (32 * convOf d) 32).flatMap fun e => (s.det e).latch
  let drain := max at_ (group.foldl max 0) + 40 * 65536
  (at_, late, (held.filter fun x => decide (at_ < x)) ++ [drain])

/-- A batch takes a light time at a south port; a leg changed only in share takes the last LIGHT_ON, as one made or
moved does (log 71). -/
def lightTime (south : Nat) (on : Bool) (t : Instant) (b : Batch) : Batch :=
  if b.state = .moving then
    { b with legs := b.legs.map fun l =>
        if l.south = south ∧ l.broken ≠ on ∧ (on ∨ l.light.isNone) then { l with light := some t } else l }
  else b

/-- What a light event does beyond its records: trim, and the circuits that expect light both ways. -/
def lightEffects (d : Nat) (on : Bool) (s : State) : State :=
  let p := d / 2
  if d % 2 = 1 then
    if p < 1024 then s
    else match s.active.legAt (p - 1024) with
      | none => s
      | some id => if on then tryQualify id s else trimOff id s
  else
    let ids := if p < 1024
      then (s.active.slots.filter fun q => decide (q.2.kind ≠ .leg ∧ q.2.kind ≠ .free ∧ q.2.north = p)).map fun q => q.1
      else ((s.active.legAt (p - 1024)).map fun id => s.circuitOf id).toList
    forEach (bidirEval false) ids s

/-- A crossing is recorded: its event, its LIGHT record, its count, its effects. -/
def recordLight (d : Nat) (on : Bool) (flags : Nat) (capture time : Instant) (s : State) : State :=
  let p := d / 2
  let s1 := s.setDet d { s.det d with lit := on }
  let s2 := s1.setPort p { s1.port p with lightEvents := ((s1.port p).lightEvents + 1) % 4294967296 }
  let s3 := raiseAt (0x800 + p) time flags (s2.portPayload d (2 * bit on) 0) s2
  let s4 := auditAt time flags 0x06 (leBytes 2 (p % 1024) ++ [byte (p / 1024 + 2 * (d % 2) + 4 * bit on), byte (s3.roleOf p)]
    ++ leBytes 2 (s3.threshold d) ++ leBytes 2 0 ++ time96Bytes capture ++ leBytes 4 (pigtailPs p)) s3
  let s5 := if d % 2 = 1 ∧ 1024 ≤ p ∧ !flags.testBit 1
    then { s4 with batches := s4.batches.map (lightTime (p - 1024) on time) } else s4
  lightEffects d on s5

/-- A crossing found by a comparator. -/
def crossing (d : Nat) (on : Bool) (t : Instant) (s : State) : State :=
  let c := s.capture d t
  let s1 := s.setDet d { s.det d with latch := c.2.2 }
  recordLight d on (bit c.2.1) c.1 (endFace d c.1) s1

/-- LIGHT_ON (R48). -/
def execLightOn (d : Nat) (capture : Instant) (s : State) : Outcome :=
  .next (if s.power.vaux ∧ d < 4096 ∧ !(s.det d).lit then crossing d true capture s else s)

/-- LIGHT_OFF (R48). -/
def execLightOff (d : Nat) (capture : Instant) (s : State) : Outcome :=
  .next (if s.power.vaux ∧ d < 4096 ∧ (s.det d).lit then crossing d false capture s else s)

/-- THRESHOLD_CHANGE_CROSSING (R164): at the transit boundary from which a written threshold is in force, the
comparator finds the present power on its other side. -/
def execThresholdChangeCrossing (d : Nat) (s : State) : Outcome :=
  .next (
    let v := s.det d
    if s.power.vaux ∧ d < 4096 ∧ s.atTransit ∧ v.threshAt = some s.time.elapsed then
      recordLight d (!v.lit) 2 s.now s.now (s.setDet d { v with threshAt := none })
    else s)

/-! ### Buoy converters (R180) -/

/-- 128 µs in units of engine time. -/
def trimUnits : Nat := 128000 * 65536

/-- A hold boundary is due now: a multiple of 8 µs, at least a whole period after the last (R236). -/
def State.holdDue (s : State) : Bool :=
  s.time.running && s.atTransit && decide (s.now % holdUnits = 0)
    && decide (s.time.holdStart + holdUnits ≤ s.time.elapsed)

/-- A trim boundary is due now, its hold boundary having been reached. -/
def State.trimDue (s : State) : Bool :=
  s.time.running && s.atHold && decide (s.now % trimUnits = 0)
    && decide (s.time.trimStart + trimUnits ≤ s.time.elapsed)

/-- BUOY_SLOW (R180): at the trim boundary that ends the second late trim period in a row. -/
def execBuoySlow (c : Nat) (s : State) : Outcome :=
  .next (
    let b := s.buoy c
    if s.trimDue ∧ !b.slow ∧ b.lateNow ∧ b.latePrev then
      let s1 := raiseEv 0x664 [byte c] (s.setBuoy c { b with slow := true })
      refreshAllCauses false s1
    else s)

/-- BUOY_RESTORED (R180): at the trim boundary that ends a period without a late hold period. -/
def execBuoyRestored (c : Nat) (s : State) : Outcome :=
  .next (
    let b := s.buoy c
    if s.trimDue ∧ b.slow ∧ !b.lateNow then raiseEv 0x665 [byte c] (s.setBuoy c { b with slow := false }) else s)

/-! ### Walsh codes and dither (R165, R166) -/

/-- The Walsh code of each stage. -/
def walshCodes : List Nat := [3, 5, 6, 7, 9, 10, 11, 12, 13, 14, 15, 17, 18, 19, 20, 21, 22, 23, 24]

/-- Chip `n` of code `i` is -1: an odd number of bits of `i AND n`. -/
def chipNeg (i n : Nat) : Bool :=
  (countWhere (fun b => i.testBit b && n.testBit b) (numbers 0 5)) % 2 = 1

/-- Chip of a stage in hold period `h`. -/
def chip (stage h : Nat) : Int := if chipNeg (walshCodes.getD stage 0) (h % 32) then -1 else 1

/-- The dither of an element in TRIM for hold period `h` at an amplitude: none of a split or a port element. -/
def State.dither (s : State) (e h amp : Nat) : F32 :=
  if e < 9728 ∧ !(s.active.route e).isSplit then f32OfInt (chip (e / 512) h * amp) (-16) else 0

/-! ### The measurements of a hold period (R162, R167, R168) -/

/-- A detector's samples 2 to 9, where the period was delivered whole. -/
def Det.late (v : Det) : Bool := decide (v.samples.length < 10)

/-- The mean of the unclamped samples 2 to 9 in 2^-16 dBm. -/
def Det.mean (v : Det) : Option Int :=
  let l := (v.samples.drop 2).filter fun c => decide (c < 4095)
  if v.late ∨ l.isEmpty then none
  else
    let n : Int := 4095 * l.length
    some (roundDiv (((60 * l.sum : Nat) : Int) * 65536 - 40 * 65536 * n) n)

/-- m(h) as a sum of codes; none where it is missing or clamped. -/
def Det.mh (v : Det) : Option Int :=
  let l := v.samples.drop 2
  if v.late ∨ l.any (fun c => decide (c = 4095)) then none else some (l.sum : Nat)

/-- A detector's hold period ends: its power, unless its converter is SLOW or delivered nothing. -/
def detHold (d : Nat) (s : State) : State :=
  let v := s.det d
  let m := v.mean
  let v1 := { v with samples := [], periods := (m :: v.periods).take 16 }
  s.setDet d (match m with
    | some p => if (s.buoy (convOf d)).slow then v1 else { v1 with power := roundDiv p 256 }
    | none => v1)

/-- A converter's period ends: a late one is noted. -/
def buoyHold (c : Nat) (s : State) : State :=
  let b := s.buoy c
  if (numbers (32 * c) 32).any (fun d => (s.det d).late) then s.setBuoy c { b with lateNow := true } else s

/-- The hold period that has just ended enters the windows of TRIMMING legs, unless it may enter none. -/
def windowHold (ok : Bool) (id : Nat) (s : State) : State :=
  let l := s.leg id
  if l.trim = .trimming then
    let m := if ok then ((s.det (southOut (s.active.slot id).south)).mh).map fun x => (x, s.ampNow) else none
    s.setLeg id { l with window := (m :: l.window).take 32 }
  else s

/-- The measurements that end with a hold period: `ok` where it may enter a correlation. -/
def measureHold (ok : Bool) (s : State) : State :=
  let s1 := forEach (fun p => windowHold ok p.1) s.active.legs s
  let s2 := forEach buoyHold (numbers 0 128) s1
  let s3 := forEach detHold (numbers 0 4096) s2
  { s3 with ampNow := s3.ampNext, ampNext := s3.obj 0x5200 2 }

/-! ### Correlation and ascent (R167 to R170) -/

/-- The window of a leg is whole: 32 periods of one amplitude, none missing. -/
def wholeWindow (w : List (Option (Int × Nat))) : Bool :=
  decide (w.length = 32) && (w.all fun x => x.isSome)
    && decide (((w.filterMap fun x => x.map fun y => y.2)).eraseDups.length ≤ 1)

/-- The correlation of a window, newest first, of which the newest period is `h`, against a stage's code. -/
def correlate (stage : Nat) : Nat → List (Option (Int × Nat)) → Int
  | _, [] => 0
  | h, x :: rest => chip stage h * ((x.map fun y => y.1).getD 0) + correlate stage (h - 1) rest

/-- g_db in binary64: a sum of eight codes is one of 8 × 4,095 / 60 of a dB. -/
def gainDb (corr : Int) : F64 := f64Ratio (60 * corr) (8 * 4095 * 32)

/-- An F32 setting of path trim. -/
def State.trimF (s : State) (sub : Nat) : F64 := f64OfF32 (f32Bits (s.obj 0x5200 sub))

/-- The step of an ascent update (R170). -/
def State.ascentStep (s : State) (g : F64) (n : Nat) : Int :=
  if f64Lt (f64Abs g) (s.trimF 4) then 0
  else clampInt (-(s.obj 0x5200 5 : Int)) (s.obj 0x5200 5)
    (f64RoundInt (f64Div (f64Mul (s.trimF 3) g) (f64OfInt n)))

/-- The elements on a leg's path that ascend: those not split (R170). -/
def State.ascending (s : State) (id : Nat) : List Nat :=
  (s.active.slot id).fabricElems.filter fun e => !(s.active.route e).isSplit

/-- They were in TRIM for all 32 periods of the window (R168). -/
def State.inTrimThrough (s : State) (id : Nat) : Bool :=
  (s.ascending id).all fun e => decide ((s.elem e).mode = .trim) && decide (32 ≤ (s.elem e).inTrimFor)

/-- The ascent updates of a leg from the window that has closed. -/
def State.ascent (s : State) (id : Nat) : List (Nat × Int × Bool) :=
  let w := (s.leg id).window
  (s.ascending id).map fun e =>
    (e, s.ascentStep (gainDb (correlate (e / 512) (s.time.holdNo - 1) w)) (s.trimmedThrough false e).length, false)

/-- One leg's windows at a trim boundary: discarded, or its updates for its slot. -/
def closeWindow (id rank : Nat) (s : State) : State :=
  let l := s.leg id
  if !wholeWindow l.window || !s.inTrimThrough id then
    { s.setLeg id { l with slot := rank % 16, updates := [] } with windowsDiscarded := (s.windowsDiscarded + 1) % 4294967296 }
  else
    let u := if s.failStatic ∨ (s.stopped2 ∧ s.time.trimNo % 4 ≠ 0) then [] else s.ascent id
    s.setLeg id { l with slot := rank % 16, updates := u }

/-- The windows of the TRIMMING legs, by ascending ID. -/
def closeWindows (rank : Nat) : List Nat → State → State
  | [], s => s
  | id :: rest, s => closeWindows (rank + 1) rest (closeWindow id rank s)

/-! ### Issuing an update (R169, R170, R175) -/

/-- The offset that a step gives, within the bounds of its kind. -/
def State.stepOffset (s : State) (e : Nat) (step : Int) (split : Bool) : Int :=
  let r : Int := s.obj 0x5200 (if split then 0x0A else 6)
  let o := clampInt (-r) r ((s.elem e).offset + step)
  if split then
    let t : Int := s.routeTarget s.active e
    clampInt ((s.etaInverse e (f64Ratio 1 10) : Int) - t) ((s.etaInverse e (f64Ratio 9 10) : Int) - t) o
  else o

/-- Issue one update of a leg: the offset within its bounds, whatever the step, TRIM_LIMIT once at a bound, and the
target for the next hold boundary. -/
def issueUpdate (id : Nat) (u : Nat × Int × Bool) (s : State) : State :=
  let e := u.1
  let x := s.elem e
  if x.mode ≠ .trim then s
  else
    let o := s.stepOffset e u.2.1 u.2.2
    let lim := !u.2.2 && decide (o.natAbs = s.obj 0x5200 6)
    let s1 := s.setElem e { x with offset := o, limitRaised := lim }
    let s2 := if lim ∧ !x.limitRaised then
        raiseEv 0x661 (leBytes 2 id ++ leBytes 2 e ++ leBytes 2 (intBits 16 o)) s1 else s1
    if o = x.offset then s2 else queueTarget e (s2.offsetTarget e) none s2

/-- At STOP-2 the ascent slots of a trim period whose number is no multiple of 4 are issued empty (R182). -/
def State.issued (s : State) (l : List (Nat × Int × Bool)) : List (Nat × Int × Bool) :=
  if s.stopped2 ∧ s.time.trimNo % 4 ≠ 0 then l.filter fun u => u.2.2 else l

/-- The configuration that a commit at this boundary puts in force: the next batch's, or the next watch's. -/
def State.dueCfg (s : State) : Option Cfg :=
  match s.pendingBatches with
  | b :: _ => if s.commitDue b ∧ !s.failStatic then some b.plan.after else none
  | [] =>
    let n := s.nextCommit
    let on := decide (s.sched.state = .armed) || (s.schedRuns && !(s.sched.stopAtEnd.isSome && decide (s.nextWatch = 0)))
    if on ∧ n.1 ≤ s.now ∧ s.watchReady then some (s.active.adopt (s.cfg n.2).image) else none

/-- The legs that it takes out of trim: their updates at this boundary are discarded (R171). -/
def State.dueStopped (s : State) : List Nat :=
  match s.dueCfg with
  | none => []
  | some d =>
    let changes := legChanges s.active d
    (s.trimStopped (s.commanded s.active d changes) changes).map fun p => p.1

/-- The updates of the legs whose slot is the hold period that has just ended. -/
def issueSlot (slot : Nat) (s : State) : State :=
  forEach (fun p t =>
    let l := t.leg p.1
    if l.trim = .trimming ∧ l.slot = slot ∧ !l.updates.isEmpty ∧ !s.dueStopped.contains p.1 then
      let t1 := t.setLeg p.1 { l with updates := [] }
      if t.failStatic then t1 else forEach (issueUpdate p.1) (t.issued l.updates) t1
    else t) s.active.legs s

/-! ### Balancing (R175, R176) -/

/-- The mean of a detector's power over the trim period that has ended, in dB as binary64. -/
def Det.trimMean (v : Det) : Option F64 :=
  let l := v.periods.filterMap id
  if l.isEmpty then none else some (f64Div (f64OfInt l.sum (-16)) (f64OfInt l.length))

/-- A Q8.8 number in binary64. -/
def q88 (n : Int) : F64 := f64OfInt n (-8)

/-- P_leg in mW. -/
def State.legPower (s : State) (id : Nat) : Option F64 :=
  let k := (s.active.slot id).south
  (s.det (southOut k)).trimMean.map fun p =>
    f64Pow10 (f64Div (f64Add p (q88 (s.attenNow s.active (1024 + k)))) (f64OfInt 10))

/-- A leg leaves an element on its cross output. -/
def Slot.crosses (x : Slot) (st : Nat) : Bool :=
  decide (lineInto x.north x.south x.mid st ≠ lineAfter x.north x.south x.mid st)

/-- The sum of some legs' powers. -/
def powerSum (p : List (Nat × F64)) (keep : Nat → Bool) : F64 :=
  p.foldl (fun a q => if keep q.1 then f64Add a q.2 else a) 0

/-- The target coupling of an element in split state. -/
def etaTarget : RState → F64
  | .split a b => f64Ratio a b
  | .bar => 0
  | .cross => f64One

/-- The balancing step of a split element from the legs' powers: the element's counts, and the update
under the lowest leg that passes it. -/
def balanceElem (p : List (Nat × F64)) (e : Nat) (s : State) : State :=
  let below (id : Nat) : Bool := (s.active.slot id).fabricElems.contains e
  let total := powerSum p below
  match (p.filter fun q => below q.1).head? with
  | none => s
  | some (first, _) =>
    if f64Le total 0 then s
    else
      let m := f64Div (powerSum p fun id => below id && (s.active.slot id).crosses (e / 512)) total
      let d := f64Sub (etaTarget (s.active.route e)) m
      let ad := f64Abs d
      let x := s.elem e
      let here := (clampInt 0 65535 ((s.routeTarget s.active e : Int) + x.offset)).toNat
      let step := if f64Lt ad (s.trimF 8) then 0
        else clampInt (-(s.obj 0x5200 9 : Int)) (s.obj 0x5200 9)
          (f64RoundInt (f64Div (f64Mul (s.trimF 7) d) (s.etaSlope e here (f64Lt 0 d))))
      let x1 := { x with
        dEta := clampInt (-32768) 32767 (f64RoundInt (f64Mul d (f64OfInt 32768)))
        etaRun := if f64Lt (s.trimF 0x0B) ad then x.etaRun + 1 else 0
        rangeRun := if x.offset.natAbs = s.obj 0x5200 0x0A then x.rangeRun + 1 else 0
        etaRaised := x.etaRaised && !f64Lt ad (f64Mul (s.trimF 0x0B) f64Half) }
      let l := s.leg first
      (s.setElem e x1).setLeg first { l with updates := l.updates ++ [(e, step, true)] }

/-- The leg has been TRIMMING for a whole trim period. -/
def State.trimmedWhole (s : State) (id : Nat) : Bool :=
  let l := s.leg id
  decide (l.trim = .trimming) && decide (l.trimmingAt + trimUnits ≤ s.time.elapsed)

/-- The legs of a group with P_leg, where each is known. -/
def State.groupPower (s : State) (g : Nat) : Option (List (Nat × F64)) :=
  let legs := (s.active.groupLegs g).map fun p => p.1
  let p := legs.filterMap fun id => (s.legPower id).map fun w => (id, w)
  if legs.isEmpty ∨ p.length ≠ legs.length then none else some p

/-- The leg's power is measured: it is SETTLING or TRIMMING (R174). -/
def State.measuredLeg (s : State) (id : Nat) : Bool :=
  decide ((s.leg id).trim = .settling) || decide ((s.leg id).trim = .trimming)

/-- MEASURED_SHARE of the legs of a group (R174, R176). -/
def measureShares (g : Nat) (s : State) : State :=
  match s.groupPower g with
  | none => s
  | some p =>
    if p.all fun q => s.measuredLeg q.1 then
      let total := powerSum p fun _ => true
      forEach (fun q t => t.setLeg q.1 { t.leg q.1 with
        share := (clampInt 0 65535 (f64RoundInt (f64Mul (f64Div q.2 total) (f64OfInt 65536)))).toNat }) p s
    else s

/-- The balancing step of a group whose legs are all TRIMMING (R175). -/
def balanceGroup (g : Nat) (s : State) : State :=
  match s.groupPower g with
  | none => s
  | some p =>
    if p.all fun q => s.trimmedWhole q.1 then forEach (fun t => balanceElem p t.1) (s.active.groupSplits g) s else s

/-- SPLIT_UNBALANCED (R176). -/
def execSplitUnbalanced (e : Nat) (s : State) : Outcome :=
  .next (
    let x := s.elem e
    if !x.etaRaised ∧ (16 ≤ x.etaRun ∨ 16 ≤ x.rangeRun) then
      let g := ((s.active.legsThrough e).head?.map fun p => p.2.group).getD 0xFFFF
      raiseEv 0x662 (leBytes 2 g ++ leBytes 2 e ++ leBytes 2 (intBits 16 x.dEta)) (s.setElem e { x with etaRaised := true })
    else s)

/-! ### Equalisation (R178) -/

/-- One step of an equalised south port. -/
def equalise (id : Nat) (s : State) : State :=
  let k := (s.active.slot id).south
  let p := 1024 + k
  if s.obj (0x4000 + p) 0x15 ≠ 1 ∨ !s.trimmedWhole id then s
  else match (s.det (southOut k)).trimMean with
    | none => s
    | some out =>
      let err := f64Sub (q88 (s.objI16 (0x4000 + p) 0x17)) out
      if f64Lt (f64Abs err) (f64Ratio 5 100) then s
      else
        let m := q88 (s.obj 0x5200 0x0D)
        let d := f64Clamp (f64Neg m) m (f64Mul (s.trimF 0x0C) err)
        let a := f64Sub (q88 (s.attenNow s.active p)) d
        let lim := f64Lt a 0 || f64Lt (f64OfInt 25) a
        let now := (clampInt 0 0x1900 (f64RoundInt (f64Mul (f64Clamp 0 (f64OfInt 25) a) (f64OfInt 256)))).toNat
        let v := s.port p
        let s1 := s.setPort p { v with atten := some now, eqLimit := lim }
        let s2 := if lim ∧ !v.eqLimit then raiseEv 0x663 (leBytes 2 id ++ leBytes 2 k ++ leBytes 2 now) s1 else s1
        refreshPort p s2

/-! ### Loss drift (R179) -/

/-- LEG_LOSS of a leg over the trim period that has ended, Q8.8 dB; none where it is not computed. -/
def State.legLoss (s : State) (id : Nat) : Option Int :=
  let x := s.active.slot id
  let a := s.det (northIn x.north)
  let b := s.det (southOut x.south)
  if a.lit ∧ b.lit ∧ !a.overpower ∧ !b.overpower then
    match a.trimMean, b.trimMean with
    | some p, some q => some (clampInt (-32768) 32767 (f64RoundInt (f64Mul (f64Sub (f64Sub (f64Sub p (q88 (s.attenNow s.active x.north))) q)
        (q88 (s.attenNow s.active (1024 + x.south)))) (f64OfInt 256))))
    | _, _ => none
  else none

/-- A trim boundary that gives a leg no loss ends its runs of boundaries. -/
def endRuns (id : Nat) (s : State) : State :=
  let l := s.leg id
  if l.lossRun = 0 ∧ l.lossClear = 0 then s else s.setLeg id { l with lossRun := 0, lossClear := 0 }

/-- LEG_LOSS is measured from B1 on; of a TRIMMING leg also its baseline, and the runs above and below its limit
(R174, R179). -/
def measureLoss (id : Nat) (s : State) : State :=
  match (if s.measuredLeg id then s.legLoss id else none) with
  | none => endRuns id s
  | some v =>
    let l := s.leg id
    if l.trim ≠ .trimming then endRuns id (s.setLeg id { l with loss := v }) else
    let base := l.baseline.getD v
    let lim := base + (s.obj 0x5200 0x0E : Int)
    -- 0.1 dB is 25.6 of Q8.8
    let low := decide (10 * v < 10 * lim - 256)
    let run := if low then l.lossClear + 1 else 0
    let p := 1024 + (s.active.slot id).south
    let s1 := s.setLeg id { l with loss := v, baseline := some base, lossRun := if lim < v then l.lossRun + 1 else 0
                                   lossClear := run, lossRaised := l.lossRaised && decide (run < 16) }
    if 16 ≤ run then s1.setPort p { s1.port p with lossDrift := false } else s1

/-- TRIM_LOSS_DRIFT (R179). -/
def execTrimLossDrift (leg : Nat) (s : State) : Outcome :=
  .next (
    let l := s.leg leg
    let k := (s.active.slot leg).south
    if 16 ≤ l.lossRun ∧ !l.lossRaised then
      let s1 := s.setLeg leg { l with lossRaised := true }
      raiseEv 0x660 (leBytes 2 leg ++ leBytes 2 k ++ leBytes 2 (intBits 16 l.loss) ++ leBytes 2 (intBits 16 (l.baseline.getD 0)))
        (s1.setPort (1024 + k) { s1.port (1024 + k) with lossDrift := true })
    else s)

/-! ### The trim boundary (R169, R173, R181) -/

/-- TRIM_QUALIFIED (R173): 2 µs of light since the entry to QUALIFYING. -/
def execTrimQualified (leg : Nat) (s : State) : Outcome :=
  .next (
    let l := s.leg leg
    if l.trim = .qualifying ∧ l.qualAt + 2000 * 65536 ≤ s.time.elapsed then s.setLeg leg { l with qualified := true } else s)

/-- An element in HOLD enters TRIM at this boundary, a trim boundary that is due: a leg through it starts TRIMMING (R166,
R173). -/
def State.trimsNow (s : State) (e : Nat) : Bool :=
  decide (e < 9728) && decide ((s.elem e).mode = .hold) && (s.elem e).nextMode.isNone && s.trimDue && !s.clearing
    && (s.active.legsThrough e).any fun p => decide ((s.leg p.1).trim = .settling) && decide (s.trimCauses p.1 = 0)

/-- An element in HOLD enters TRIM at the boundary at which a leg through it starts TRIMMING (R137). -/
def enterTrim (e : Nat) (s : State) : State :=
  let x := s.elem e
  if x.mode = .hold ∧ x.nextMode.isNone ∧ !s.clearing then s.setElem e { x with mode := .trim, inTrimFor := 0 } else s

/-- A leg's trim state at a trim boundary. -/
def trimMove (id : Nat) (s : State) : State :=
  let l := s.leg id
  -- in SETTLING the elements stand at their calibrated targets (R172)
  let settle (t : State) : State := forEach dropOffset ((s.active.slot id).fabricElems)
    (t.setLeg id { l with trim := .settling, cause := 0, settlingAt := s.time.elapsed
                          toSettling := false, window := [], updates := [] })
  match l.trim with
  | .off => s
  | .qualifying => if l.qualified ∨ l.qualAt + 2000 * 65536 ≤ s.time.elapsed then settle s else s
  | .settling =>
    let s1 := s.setLeg id { l with trim := .trimming, trimmingAt := s.time.elapsed, window := [], updates := [] }
    let s2 := refreshCauses false id s1
    if (s2.leg id).trim = .trimming then forEach enterTrim ((s.active.slot id).fabricElems) s2 else s2
  | .trimming => if l.toSettling then settle s else s
  | .suspended => if l.toSettling ∨ l.cause = 0 then (if s.legLit id then settle s else s) else s

/-- The trim boundary: what the ended period gives the TRIMMING legs, then the legs' states. DESIGN CHOICE: a leg that
starts TRIMMING here is not ranked here, and does not count in n_e before the next trim boundary (R169; log 76). -/
def trimStep (s : State) : State :=
  -- a cause that is in force from this boundary, or gone by it, counts here (R174)
  let s0 := refreshAllCauses true s
  let trimming := (s0.active.legs.filter fun p => decide ((s0.leg p.1).trim = .trimming)).map fun p => p.1
  let s1 := forEach measureShares s0.active.groups (forEach measureLoss (s0.active.legs.map fun p => p.1) s0)
  let s2 := closeWindows 0 trimming s1
  let even := decide (s2.time.trimNo % (if s2.stopped2 then 8 else 2) = 0) && !s2.failStatic
  let s3 := if even then forEach equalise trimming (forEach balanceGroup s2.active.groups s2) else s2
  let s4 := forEach (fun p => trimMove p.1) s3.active.legs s3
  let next := s4.buoys.map fun p => (p.1, { p.2 with latePrev := p.2.lateNow, lateNow := false })
  { s4 with buoys := next.filter fun p => decide (p.2 ≠ {}) }

end Sys2Proof.Machine
end

