-- ==== Sys2Proof/Machine/Memory.lean ====
section
/-!
DEFINITION. The SRAM banks apart from transactions: owners, retention, errors, the Quench banks and the
Proof engine (R352 to R369, R379).
-/

namespace Sys2Proof.Machine

/-! ### Banks (R353, R357, R379) -/

/-- Bank `b`. -/
def State.bank (s : State) (b : Nat) : Bank := mapGet s.banks b {}

/-- Replace it. -/
def State.setBank (s : State) (b : Nat) (v : Bank) : State := { s with banks := mapSet s.banks b v {} }

/-- BANK_CTRL and BANK_STATUS of bank `b`. -/
def bankCtrlOff (b : Nat) : Nat := 0x3A0000 + 0x40 * b
def bankStatusOff (b : Nat) : Nat := 0x3A0004 + 0x40 * b

/-- BANK_CTRL's setting fields of bank `b`. -/
def State.bankCtrl (s : State) (b : Nat) : Nat := s.reg (bankCtrlOff b)

/-- OWNER. -/
def State.bankOwner (s : State) (b : Nat) : Nat := ((s.bank b).owner).getD (bankDefaults b).1

/-- NEW_OWNER, SHARE, RET_WITH_FORGE, NEVER_BORROW, AUTO_WAKE, RET. -/
def State.bankNewOwner (s : State) (b : Nat) : Nat := field (s.bankCtrl b) 16 4
def State.bankShare (s : State) (b : Nat) : Nat := field (s.bankCtrl b) 8 2
def State.bankRetWithForge (s : State) (b : Nat) : Bool := (s.bankCtrl b).testBit 4
def State.bankNeverBorrow (s : State) (b : Nat) : Bool := (s.bankCtrl b).testBit 3
def State.bankAutoWake (s : State) (b : Nat) : Bool := (s.bankCtrl b).testBit 2
def State.bankRet (s : State) (b : Nat) : Bool := (s.bankCtrl b).testBit 1

/-- The bank has a private port. -/
def privatePort (b : Nat) : Bool := decide (b < 43)

/-- The bytes of a bank, and of a Proof window. -/
def bankBytes : Nat := 0x80000
def windowBytes : Nat := 4096

/-- Payload of the bank events (R438). -/
def bankPayload (b master word : Nat) : List Byte := [byte b, byte master] ++ leBytes 2 0 ++ leBytes 4 word

/-! ### Errors (R364) -/

/-- A single-bit error was corrected. -/
def correctWord (b master word : Nat) (s : State) : State :=
  let k := s.bank b
  raiseLimited (0x400 * 256 + b) 1000000000 0x400 (bankPayload b master word)
    (s.setBank b { k with ceCount := min (k.ceCount + 1) 0xFFFF, errValid := true, lastErr := (false, master, word) })

/-- A double-bit error was found. -/
def lostWord (b master word : Nat) (s : State) : State :=
  let k := s.bank b
  raiseEv 0x401 (bankPayload b master word)
    (s.setBank b { k with ueCount := min (k.ueCount + 1) 0xFFFF, errValid := true, lastErr := (true, master, word) })

/-- Discard an element's offset, its target following at hold rate. -/
def discardOffset (e : Nat) (s : State) : State :=
  let x := s.elem e
  if x.offset = 0 then s
  else
    let s1 := s.setElem e { x with offset := 0, etaRun := 0, rangeRun := 0 }
    if x.mode = .hold ∨ x.mode = .trim then queueTarget e (s1.offsetTarget e) none s1 else s1

/-- A leg returns to SETTLING at the next trim boundary (R181). -/
def resettle (id : Nat) (s : State) : State :=
  let l := s.leg id
  if l.trim = .trimming ∨ l.trim = .suspended then s.setLeg id { l with toSettling := true, updates := [] } else s

/-- What follows from a lost word of a table that the Anvils read. -/
def lostTable (u : SramUser) (s : State) : State :=
  match u with
  | .element e => enterFault e 6 s
  | .profile p => { s with rewriting := (p, s.time.elapsed) :: s.rewriting.filter fun q => decide (q.1 ≠ p) }
  | .notch _ => s
  | .leg id => resettle id (forEach discardOffset ((s.active.slot id).fabricElems) s)
  | .clear _ => s

/-- The bank is one of those that hold the table (R353): an element's entries in the element tables and the route table
copies, banks 0 to 41, the rest in bank 42. -/
def tableIn (u : SramUser) (b : Nat) : Bool :=
  match u with
  | .element _ => decide (b < 42)
  | _ => decide (b = 42)

/-- Pool buffer `n` of the 4,096 (R353): its matrix address. -/
def poolAddr (n : Nat) : Nat := (44 + n / 1024) * bankBytes + n % 1024 * 512

/-- A private-port read found an error. -/
def privateError (r : SramErr) (s : State) : State :=
  if !tableIn r.user r.bank then s
  else if r.double then lostTable r.user (lostWord r.bank 0xE r.word s) else correctWord r.bank 0xE r.word s

/-- A profile's word waits for its rewrite, at most 1 ms after its error. -/
def State.profileRewriting (s : State) (p : Nat) : Bool :=
  s.rewriting.any fun q => decide (q.1 = p) && decide (s.time.elapsed < q.2 + 1000000 * 65536)

/-! ### Retention (R361, R362) -/

/-- Banks with RET_WITH_FORGE enter retention with the Forge. -/
def banksSleep (s : State) : State :=
  forEach (fun b t =>
    if t.bankRetWithForge b ∧ (t.bank b).power = 0 then
      t.setBank b { t.bank b with power := 2, retainedByForge := true }
    else t) (numbers 0 64) s

/-- They wake with it. -/
def banksWake (s : State) : State :=
  forEach (fun b t =>
    if (t.bank b).retainedByForge then
      t.setBank b { t.bank b with power := if t.bankRet b then 2 else 0, retainedByForge := false }
    else t) (numbers 0 64) s

/-- BANK_RETENTION_ENTER (R361): at a transit boundary at which nothing is outstanding. -/
def execBankRetentionEnter (b : Nat) (s : State) : Outcome :=
  .next (if (s.bank b).power = 1 ∧ s.atTransit ∧ (s.bank b).stalled = [] then s.setBank b { s.bank b with power := 2 } else s)

/-! ### Quench banks and power-up (R352, R360) -/

/-- Both Quench banks are wiped. -/
def wipeQuench (s : State) : State :=
  raiseEv 0x404 (bankPayload 62 0xD 0) { s with mem := memZero s.mem (62 * bankBytes) (2 * bankBytes) }

/-- The banks at Watch power-up: zeroed, the Quench banks only where VAUX was lost, with R353's settings. -/
def banksPowerUp (s : State) : State :=
  let keep := !s.power.vauxLostSinceWatch
  let mem := if keep then memZero s.mem 0 (62 * bankBytes) else memZero s.mem 0 (64 * bankBytes)
  { s with
    mem := mem, banks := [], proof := { passes := s.proof.passes, yields := s.proof.yields, faults := s.proof.faults }
    regs := s.regs.filter fun p => !(decide (0x3A0000 ≤ p.1) && decide (p.1 < 0x3A1000))
    rewriting := []
    power := { s.power with vauxLostSinceWatch := false } }

/-- Every bank but the Quench banks loses its content (R360). -/
def banksLost (s : State) : State := { s with mem := memZero s.mem 0 (62 * bankBytes) }

/-! ### The Proof engine (R365 to R368) -/

/-- The Proof engine tests a bank now: by a march, or by a read-only pass. -/
def State.provable (s : State) (b : Nat) : Bool :=
  decide ((s.bank b).power = 0) && (privatePort b || !s.bankNeverBorrow b)

/-- The first bank that it tests from `b` on. -/
def State.nextProof (s : State) (b : Nat) : Option Nat := ((numbers b (64 - b)).filter s.provable).head?

/-- A full pass ends. -/
def proofPass (s : State) : State :=
  let n := (s.proof.passes + 1) % 4294967296
  raiseEv 0x419 (leBytes 4 n) { s with proof := { s.proof with passes := n, bank := 0, window := 0, yieldRun := 0 } }

/-- The window has been dealt with: the next one, or the end of the pass. -/
def proofAdvance (s : State) : State :=
  let p := { s.proof with active := false, yieldRun := 0 }
  if p.window + 1 < 128 then { s with proof := { p with window := p.window + 1 } }
  else match s.nextProof (p.bank + 1) with
    | none => proofPass { s with proof := p }
    | some b => { s with proof := { p with bank := b, window := 0 } }

/-- PROOF_INTERVAL has passed since the last start. -/
def State.proofDue (s : State) : Bool :=
  let i := field (s.reg 0x3B0040) 16 16 * 1000 * 65536
  match s.proof.startedAt with
  | none => true
  | some t => decide (t + i ≤ s.time.elapsed)

/-- PROOF_WINDOW_START (R365, R366). -/
def execProofWindowStart (s : State) : Outcome :=
  .next (if s.awake ∧ (s.reg 0x3B0040).testBit 0 ∧ !s.proof.active ∧ s.proofDue then
    match s.nextProof s.proof.bank with
    | none => if s.proof.bank = 0 then s else proofPass s
    | some b =>
      let w := if b = s.proof.bank then s.proof.window else 0
      let s1 := { s with proof := { s.proof with bank := b, window := w, active := true, startedAt := some s.time.elapsed } }
      if privatePort b then s1 else s1.setBank b { s1.bank b with borrowed := some w }
  else s)

/-- The Proof engine stops with the Forge: the window is returned, to be tested from its start. -/
def proofStop (s : State) : State :=
  if s.proof.active then
    { (s.setBank s.proof.bank { s.bank s.proof.bank with borrowed := none }) with proof := { s.proof with active := false } }
  else s

/-- What a read-only pass finds in a word of the window: errors are handled as those of a controller's read (R364). -/
def proofRead (b : Nat) (found : MemErr) (s : State) : State :=
  match found with
  | .ok => s
  | .single w => if w / 1024 = s.proof.window then correctWord b 7 w s else s
  | .double w => if w / 1024 = s.proof.window then lostWord b 7 w s else s

/-- What a march finds: a word of the window that does not hold what was written sets PROOF_FAULT (R367). -/
def proofMarch (b : Nat) (found : MemErr) (s : State) : State :=
  match found.word.filter fun w => decide (w / 1024 = s.proof.window) with
  | none => s
  | some w => raiseEv 0x418 (bankPayload b 7 w)
      { (s.setBank b { s.bank b with proofFault := true }) with
        proof := { s.proof with faults := min (s.proof.faults + 1) 0xFFFFFFFF } }

/-- PROOF_WINDOW_DONE (R366, R367): what the march or the read-only pass found in the window. -/
def execProofWindowDone (found : MemErr) (s : State) : Outcome :=
  .next (if !s.proof.active ∨ !s.awake then s
  else
    let b := s.proof.bank
    let s1 := s.setBank b { s.bank b with borrowed := none }
    proofAdvance (if privatePort b then proofRead b found s1 else proofMarch b found s1))

/-- An access reaches a borrowed window: the engine yields it; at the 16th in succession it is skipped. -/
def proofYield (b : Nat) (s : State) : State :=
  let s1 := s.setBank b { s.bank b with borrowed := none }
  let p : Proof := { s1.proof with active := false, yields := (s1.proof.yields + 1) % 4294967296, yieldRun := s1.proof.yieldRun + 1 }
  if p.yieldRun = 16 then proofAdvance { s1 with proof := p } else { s1 with proof := p }

/-- An access to bank `b` at byte `off` of it meets the Proof engine. -/
def proofMeets (b off : Nat) (s : State) : State :=
  match (s.bank b).borrowed with
  | none => s
  | some w => if off / windowBytes = w then proofYield b s else s

/-! ### LPDDR5X (R369) -/

/-- A word of the LPDDR5X with an error. -/
def ddrError (addr : Nat) (double : Bool) (s : State) : State :=
  if double then raiseEv 0x409 (leBytes 8 addr) s else raiseLimited 0x408 1000000000 0x408 (leBytes 8 addr) s

/-- DDR_PATROL_SCRUB (R369): the controller runs with the Forge, over the data space. -/
def execDdrPatrolScrub (addr : Nat) (err : MemErr) (s : State) : Outcome :=
  .next (if !s.awake ∨ 0x333333000 ≤ addr then s
  else match err with
    | .ok => s
    | .single w => ddrError (addr + 4 * w) false s
    | .double w => ddrError (addr + 4 * w) true s)

/-- BANK_ERR_COUNT and MTX_CONFLICT, counters that a write of any value clears. -/
def clearsCount (off : Nat) : Bool :=
  (decide (0x3A0000 ≤ off ∧ off < 0x3A1000) && decide (off % 0x40 = 8)) || decide (0x3B0100 ≤ off ∧ off < 0x3B0280)

/-- Such a write comes into force (R21, R379, R380). -/
def clearCount (off : Nat) (s : State) : State :=
  if off < 0x3B0000 then
    let b := (off - 0x3A0000) / 0x40
    s.setBank b { s.bank b with ceCount := 0, ueCount := 0 }
  else { s with matrix := { s.matrix with conflicts := mapErase s.matrix.conflicts ((off - 0x3B0100) / 4) } }

/-- BANK_ERR_COUNT_WRITE (R379): live, in force from the next transit boundary. -/
def execBankErrCountWrite (b : Nat) (s : State) : Outcome :=
  .next (if b < 64 ∧ s.power.watchOn then waitSetting .banks true (0x3A0008 + 0x40 * b) 0 0 s else s)

/-- MTX_CONFLICT_WRITE (R380): live, in force from the next transit boundary. -/
def execMtxConflictWrite (m g : Nat) (s : State) : Outcome :=
  .next (if m < 12 ∧ g < 8 ∧ s.power.forgeOn then waitSetting .matrix true (0x3B0100 + 4 * (8 * m + g)) 0 0 s else s)

/-- A private-port read of a word (R354): it sees the macro directly, so that one in the cycle of a write takes place before
it, and one in the next cycle after it. -/
def State.privateRead (s : State) (addr : Nat) : Nat := leNat (memReadN s.mem addr 4)

/-- PRIVATE_PORT_WRITE (R356): only into bank 42, only from the active Anvil; a bank in retention serves no access (R361). -/
def execPrivatePortWrite (anvil : Anvil) (addr : Nat) (value : Word) (s : State) : Outcome :=
  .next (if s.activeAnvil = some anvil ∧ addr / bankBytes = 42 ∧ addr % 4 = 0 ∧ (s.bank 42).power = 0 then
    { s with mem := memWriteList s.mem addr (leBytes 4 value.toNat) }
  else s)

end Sys2Proof.Machine
end

