-- ==== Sys2Proof/Machine/Forge.lean ====
section
/-!
DEFINITION. The Forge's wakes and sleeps (R11 to R15, R336).
-/

namespace Sys2Proof.Machine

/-! ### Wake and sleep conditions -/

/-- 50 µs: FORGE_TIMED_LEAD. -/
def timedLead : Nat := 50000 * 65536

/-- A timed commit or a schedule start falls due within the lead. -/
def State.timedDue (s : State) : Bool :=
  (s.batches.any fun b => decide (b.state = .pending) && decide (b.mode = 1) && decide (b.t0 ≤ s.now + timedLead))
    || (decide (s.sched.state = .armed) && decide (s.sched.start ≤ s.now + timedLead))

/-- A queue of a session holds a request. -/
def Queue.holds (q : Queue) : Bool := !q.waiting.isEmpty || q.executing.isSome

/-- The conditions of R12 other than the delay. At STOP-1 FORGE_KEEP_WARM is disregarded (R336); a
resynchronisation holds the Forge awake as if it were set (R296). -/
def State.forgeIdle (s : State) : Bool :=
  (s.sessions.all fun p => !p.2.control.holds && !p.2.query.holds)
    && (s.batches.all fun b => !(b.pending || decide (b.state = .planning) || decide (b.state = .moving)))
    && (decide (s.sched.state = .idle) || decide (s.sched.state = .armed))
    && !s.timedDue && s.cal.run.isNone && s.audit.buffer.isEmpty
    && (s.stopped1 || decide (s.obj 0x1200 2 = 0)) && !s.forge.resyncHold

/-- The idle time before sleep; none at STOP-1. -/
def State.sleepDelay (s : State) : Nat := if s.stopped1 then 0 else s.obj 0x1200 1 * 1000 * 65536

/-- At each transit boundary the idle time starts anew where a condition does not hold. -/
def noteIdle (s : State) : State :=
  if s.forgeIdle ∧ s.awake then s else noteBusy s

/-- The least start tag among waiting heads, none where no request waits. -/
def State.leastStart (s : State) : Option Nat :=
  let least (m : Option Nat) (q : Queue) : Option Nat :=
    if q.waiting.isEmpty then m else some (match m with | none => q.start | some v => min v q.start)
  s.sessions.foldl (fun m p => least (least m p.2.control) p.2.query) none

/-- At a Forge wake the virtual time and every tag are reduced by the least start tag of a waiting head (R425). -/
def rebaseTags (s : State) : State :=
  match s.leastStart with
  | none => s
  | some m =>
    let cut (q : Queue) : Queue := { q with start := q.start - m, finish := q.finish - m }
    { s with
      disp := { s.disp with vtime := s.disp.vtime - m }
      sessions := s.sessions.map fun p => (p.1, { p.2 with control := cut p.2.control, query := cut p.2.query }) }

/-- The Forge is awake once its lanes and its cores are; the PCIe endpoint's high-speed path, where it slept with the
Forge, is powered again (R13). -/
def forgeUp (s : State) : State :=
  if s.forge.lanesReady ∧ s.forge.coresReady then
    rebaseTags { s with
      forge := { s.forge with state := .awake, idleSince := s.time.elapsed }
      power := { s.power with pciePathOn := s.power.pciePathOn || decide (s.power.pcie ≠ .down) } }
  else s

/-- FORGE_TIMED_WAKE (R11). -/
def execForgeTimedWake (s : State) : Outcome := .next (if s.timedDue then wakeForge s else s)

/-- FORGE_LANES_READY (R11): retained banks have woken by then (R361). -/
def execForgeLanesReady (s : State) : Outcome :=
  .next (if s.forge.state = .waking ∧ !s.forge.lanesReady then
    forgeUp (banksWake { s with forge := { s.forge with lanesReady := true, lanesReadyAt := s.time.elapsed } })
  else s)

/-- FORGE_CORES_RESUMED (R11). -/
def execForgeCoresResumed (s : State) : Outcome :=
  .next (if s.forge.state = .waking ∧ !s.forge.coresReady then
    forgeUp { s with forge := { s.forge with coresReady := true } }
  else s)

/-- FORGE_SLEEP_START (R12). -/
def execForgeSleepStart (s : State) : Outcome :=
  .next (if s.awake ∧ s.forgeIdle ∧ s.forge.idleSince + s.sleepDelay ≤ s.time.elapsed then
    { s with forge := { s.forge with state := .sleeping } }
  else s)

/-- The PCIe endpoint's high-speed path sleeps with the Forge only in L1 or an L1 substate (R13). -/
def pathAsleep (s : State) : State :=
  if s.power.pcie = .l1 ∨ s.power.pcie = .l1sub then { s with power := { s.power with pciePathOn := false } } else s

/-- No transaction drains or waits in the matrix (R374). -/
def State.matrixQuiet (s : State) : Bool :=
  s.matrix.draining.isEmpty && s.matrix.stalled.isEmpty && !s.banks.any fun p => !p.2.stalled.isEmpty

/-- FORGE_SLEEP_COMPLETE (R12, R13, R361). -/
def execForgeSleepComplete (s : State) : Outcome :=
  .next (if s.forge.state = .sleeping ∧ s.matrixQuiet then
    pathAsleep (banksSleep { proofStop s with forge := { s.forge with state := .asleep, lanesReady := false, coresReady := false } })
  else s)

/-- PCIE_LINK_STATE_CHANGE (R9, R13): while the Forge domain is powered the path is on in L0, and otherwise sleeps with
the Forge. -/
def execPcieLinkStateChange (st : PcieLink) (s : State) : Outcome :=
  .next (
    let on := s.power.forgeOn
      && (decide (st = .l0) || (decide (st ≠ .down) && !decide (s.forge.state = .asleep)))
    { s with power := { s.power with pcie := st, pciePathOn := on } })

end Sys2Proof.Machine
end

