-- ==== Sys2Proof/Machine/Export.lean ====
section
/-!
DEFINITION. The audit engine's commands: transfer to the ring, checkpoints, export in chunks,
acknowledgement, seals and flushes (R268 to R277), and the host Hallmark channels (R266).
-/

namespace Sys2Proof.Machine

/-! ### Transfer and checkpoints (R268, R270, R272) -/

/-- The audit engine runs: Watch is up and the Forge awake. -/
def State.auditRuns (s : State) : Bool := s.power.watchOn && s.awake

/-- The ring has filled or emptied: its events, and a schedule stops at NEAR_FULL (R272). -/
def ringChanged (s : State) : State :=
  let s1 := auditLevels s
  if s1.auditNearFull ∧ !s.audit.nearFull then schedStop 2 true s1 else s1

/-- AUDIT_TRANSFER (R270): up to `n` buffered records move to the ring in SEQ order. -/
def execAuditTransfer (n : Nat) (s : State) : Outcome :=
  .next (if s.auditRuns then noteBusy (ringChanged (moveRecords (min n 8192) s)) else s)

/-- AUDIT_GAP_RECORD (R270). -/
def execAuditGapRecord (s : State) : Outcome := .next (gapIfDue s)

/-- CHECKPOINT_SIGN (R268). -/
def execCheckpointSign (s : State) : Outcome :=
  .next (if s.auditRuns then ringChanged (signBlock s) else s)

/-! ### Seals (R276) -/

/-- The SEAL record of the records after the last signed CHECKPOINT; its tail hash is over them and over
itself with bytes 24 to 55 zero. Its TIME is the instant of sealing (R262). -/
def sealBody (s : State) : ABody × List Byte :=
  let recs := (s.audit.sinceSigned.foldl (fun l r => insertRec r l) []) ++ s.uncovered
  let n := recs.length + 1
  let empty : ABody := ⟨s.now, s.quality, 0x82, 0, List.replicate 32 0#8 ++ leBytes 4 n⟩
  let seq := auditSeq s.audit.epoch s.audit.count
  let last := match s.audit.lastSigned with | none => List.replicate 32 0#8 | some (_, h) => h
  let tail := sha256 (last ++ (recs.flatMap fun r => (s.readRecord r).take 60) ++ recordBytes seq empty)
  (⟨s.now, s.quality, 0x82, 0, tail ++ leBytes 4 n⟩, tail)

/-- SEAL_COMPLETE (R276): the SEAL and its two SIGNATURE records, with the latched seal signature, where bank 61 has
room for the three. -/
def execSealComplete (s : State) : Outcome :=
  .next (match s.audit.sealDue with
    | none => s
    | some (k, _) =>
      let s0 := gapIfDue (turnEpoch s)
      if !s.auditRuns ∨ s.audit.closed ∨ 8192 < s0.audit.buffer.length + 3 then s
      else
        let (b, tail) := sealBody s0
        let seq := auditSeq s0.audit.epoch s0.audit.count
        let sig := padTo 64 s.audit.sealSig
        let kid := if s.audit.lastSigned.isSome then keyId k else List.replicate 8 0#8
        let s1 := auditBody b { s0 with audit := { s0.audit with sealDue := none, sealed := true } }
        let s2 := audit 0x81 (sig.drop 32 ++ kid.drop 4) (audit 0x81 (sig.take 32 ++ kid.take 4) s1)
        raiseEv 0x064 (leBytes 8 seq) { s2 with audit := { s2.audit with prevHead := tail } })

/-! ### Flush and restoration (R273 to R275) -/

/-- The check value of item `n` of a flush, whose flash byte address is the context (R264). -/
def flushCheck (n : Nat) (r : ARec) : Nat := crc32c (Config.flushPlace n) r.bytes

/-- The check values of a flush's items. -/
def flushChecksOf (rs : List ARec) : List Nat :=
  (numbers 0 rs.length).zipWith flushCheck rs

/-- The flush of R273: the newest 16,384 unreleased records, those in bank 61 included, the last four CHECKPOINT
records with their SIGNATURE records, and the head hash.
`flushLost` counts the unreleased records that are not flushed. Until FIRMWARE_RUNNING has restored an earlier flush, the
ring holds nothing and that flush stands. -/
def flushAudit (s : State) : State :=
  let all := s.audit.ring ++ s.audit.buffer.filter fun r => decide (s.audit.released < r.seq)
  if !s.boot.firmware then s
  else { s with audit := { s.audit with
    flushed := lastOf 16384 all, flushChecks := flushChecksOf (lastOf 16384 all), flushCkpts := s.audit.checkpoints, flushLost := all.length - 16384, hasFlush := true
    flushOpen := !s.audit.closed, flushHead := s.audit.prevHead } }

/-- The ring and the buffer lose their content with their supply; records then wait for the next boot. -/
def dropRing (s : State) : State :=
  { s with audit := { s.audit with
    sinceCkpt := s.audit.sinceCkpt ++ s.uncovered, sinceSigned := s.audit.sinceSigned ++ s.uncovered
    ring := [], buffer := [], released := 0, checkFails := 0, closed := true } }

/-- Without a flush every unreleased record is lost. -/
def loseAudit (s : State) : State :=
  { s with audit := { s.audit with
    flushed := [], flushChecks := [], damage := [], released := 0, checkFails := 0
    flushLost := s.audit.flushLost + s.audit.ring.length + s.audit.buffer.length
    hasFlush := false, flushOpen := false, flushCkpts := [], flushHead := []
    headHash := [], prevHead := [], checkpoints := [], lastCheckpoint := []
    ring := [], buffer := [], sinceCkpt := [], sinceSigned := [], closed := true } }

/-- The flushed records whose check, through channel 4, matches. -/
def State.flushGood (s : State) : List ARec :=
  ((flushChecksOf s.audit.flushed).zip (s.audit.flushChecks.zip s.audit.flushed)).filterMap fun p =>
    if p.1 = p.2.1 then some p.2.2 else none

/-- At boot: the flushed records stand in the ring, the old epoch is closed, and the next one opens (R274). One that
fails its check is lost (DESIGN CHOICE, log 80). -/
def restoreAudit (s : State) : State :=
  let n := s.flushGood.length
  let lost := s.audit.flushLost + (s.audit.flushed.length - n)
  let s1 := { s with audit := { s.audit with
    ring := s.flushGood, flushed := [], flushChecks := [], flushLost := 0
    checkpoints := s.audit.flushCkpts, lastCheckpoint := lastOf 3 s.audit.flushCkpts
    prevHead := if s.audit.hasFlush then s.audit.flushHead else s.audit.prevHead, flushCkpts := [] } }
  let s2 := if s.audit.flushOpen then closeEpoch s1 else s1
  let s3 := openEpoch lost { s2 with audit := { s2.audit with
    hasFlush := false, flushOpen := false, lost := s2.audit.lost + lost } }
  let s4 := placeWaiting (gapIfDue s3)
  if s.audit.hasFlush then raiseEv 0x065 (leBytes 4 n ++ leBytes 4 (min lost 0xFFFFFFFF)) s4 else s4

/-! ### Export (R271, R277) -/

/-- The most data bytes of one response of a session: v1 256, v2 a datagram of 1,400, v3 a frame of 65,536
(R398, R400). -/
def State.segMax (s : State) (ses : Nat) : Nat :=
  if ses = 0 then 256 else if (s.session ses).link = 2 then 1364 else 65500

/-- A request is answered with part of a value. -/
def answerPart (ses : Nat) (data : List Byte) (total : Nat) (s : State) : State :=
  let s1 := answer ses stOk data s
  let x := s1.session ses
  s1.setSession ses { x with resp := some ⟨stOk, data, total⟩ }

/-- A DOMAIN is read at OFFSET 0: the session's snapshot, and its first segment (R404). -/
def takeSnapshot (ses key : Nat) (value : List Byte) (want : Nat) (s : State) : State :=
  let x := s.session ses
  let n := if want = 0 ∧ ses ≠ 0 then s.segMax ses else min want (s.segMax ses)
  answerPart ses (value.take n) value.length
    (s.setSession ses { x with snapshot := some (key, value, s.time.elapsed) })

/-- Bits of the ring's records are found flipped; they stay so (R277; DESIGN CHOICE, log 80). -/
def noteDamage (dm : List Damage) (s : State) : State :=
  { s with audit := { s.audit with damage := s.audit.damage ++ dm.filter fun d => !s.audit.damage.contains d } }

/-- A number whose bits are those of a list, first bit lowest. -/
def packBits : List Bool → Nat
  | [] => 0
  | b :: rest => bit b + 2 * packBits rest

/-- A chunk (R271): the records from a position on, at most `n`. -/
structure Chunk where
  bytes : List Byte
  fails : List Nat
  count : Nat
  next : Nat

/-- The next chunk of a session, of at most `n` records. -/
def State.chunk (s : State) (ses n : Nat) : Chunk :=
  let x := s.session ses
  let rs := (s.audit.ring.filter fun r => decide (x.auditPos ≤ r.seq)).take n
  let bs := rs.map fun r => (r.seq, s.readRecord r)
  let bad := bs.map fun p => checkFails p.1 p.2
  let first := match rs with | [] => x.auditPos | r :: _ => r.seq
  let next := match rs.getLast? with | none => x.auditPos | some r => r.seq + 1
  ⟨leBytes 8 first ++ leBytes 4 rs.length ++ leBytes 4 (min x.skipped 0xFFFFFFFF) ++ List.replicate 48 0#8
      ++ leBytes 512 (packBits bad) ++ bs.flatMap fun p => p.2,
   (bs.filter fun p => checkFails p.1 p.2).map fun p => p.1, rs.length, next⟩

/-- A chunk is taken: the read position moves past it, and each failing record counts (R277). -/
def takeChunk (ses : Nat) (c : Chunk) (s : State) : State :=
  let s1 := s.setSession ses { s.session ses with auditPos := c.next, skipped := 0 }
  forEach (fun q t => raiseEv 0x063 (leBytes 8 q)
    { t with audit := { t.audit with checkFails := (t.audit.checkFails + 1) % 4294967296 } }) c.fails s1

/-- MBX_AEX_CTRL EN. -/
def State.aexOn (s : State) : Bool := (s.reg 0x1400).testBit 0

/-- AUDIT_EXPORT_READ (R271, R277, R393, R404): the session's next chunk, taken as its snapshot. -/
def execAuditExportRead (ses : Nat) (damage : List Damage) (s : State) : Outcome :=
  .next (if !s.served ses then s
  else if ses = 1 ∧ s.aexOn then reply ses stNotEligible s
  else
    let s1 := noteDamage damage s
    let c := s1.chunk ses 4096
    takeSnapshot ses (objKey 0x3100 5) c.bytes 65500 (takeChunk ses c s1))

/-- The newest record's SEQ. -/
def State.newestSeq (s : State) : Nat :=
  match (s.audit.ring ++ s.audit.buffer).getLast? with
  | none => s.audit.released
  | some r => r.seq

/-- AUDIT_EXPORT_ACK (R272): every record up to SEQ is released. -/
def execAuditExportAck (ses : Nat) (seq : Nat) (s : State) : Outcome :=
  .next (gated ses 0x3100 4 (valBytes 8 seq) (fun s =>
    if s.newestSeq < seq then reply ses stRange s
    else reply ses stOk (ringChanged { s with audit := { s.audit with
      released := max s.audit.released seq, ring := s.audit.ring.filter fun r => decide (seq < r.seq) } })) s)

/-- AUDIT_READ_FROM_WRITE (R271, R486): any SEQ still in the ring; the position moves at the next transit boundary. -/
def execAuditReadFromWrite (ses : Nat) (seq : Nat) (s : State) : Outcome :=
  .next (gated ses 0x3100 6 (valBytes 8 seq) (fun s =>
    if s.audit.ring.any fun r => decide (r.seq = seq) then
      reply ses stOk (waitSetting .audit false (objKey 0x3100 6) seq ses s)
    else reply ses stRange s) s)

/-- AUDIT_READ_FROM comes into force: the session's read position moves, where the record still stands in the ring. -/
def takeReadFrom (ses seq : Nat) (s : State) : State :=
  if s.audit.ring.any fun r => decide (r.seq = seq) then
    s.setSession ses { s.session ses with auditPos := seq } else s

/-! ### The host Hallmark channels (R266) -/

/-- Host channel 6 or 7. -/
def State.hmChan (s : State) (c : Nat) : HmChan := if c = 6 then s.hm6 else s.hm7

/-- Replace a host channel. -/
def State.setHm (s : State) (c : Nat) (v : HmChan) : State :=
  { s with hm6 := if c = 6 then v else s.hm6, hm7 := if c = 6 then s.hm7 else v }

/-- The registers of a host channel. -/
def hmBase (c : Nat) : Nat := 0x380000 + 0x20 * (c - 6)

/-- The command names one of the host's channels, and the unit has its supply (R9). -/
def State.hmHost (s : State) (c : Nat) : Bool := decide (c = 6 ∨ c = 7) && s.power.watchOn

/-- OPEN: the context is folded and the channel opened. -/
def hmOpen (c : Nat) (s : State) : State :=
  let lo := s.reg (hmBase c + 8)
  let hi := s.reg (hmBase c + 0xC)
  s.setHm c ⟨true, crcOpen (lo + 4294967296 * hi)⟩

/-- ABORT: the running value is discarded and the channel closed. -/
def hmAbort (c : Nat) (s : State) : State := s.setHm c { s.hmChan c with isOpen := false, crc := 0xFFFFFFFF }

/-- A data write: fed, or ignored with WRITE_REJECT where the channel is not OPEN. -/
def hmFeed (w : Writer) (c off n : Nat) (value : Word) (s : State) : State :=
  let x := s.hmChan c
  if x.isOpen then s.setHm c { x with crc := crcFeed x.crc (leBytes n value.toNat) }
  else rejectWrite (hmBase c + 4) w (hmBase c + off) s

/-- HM_OPEN (R266). -/
def execHmOpen (c : Nat) (s : State) : Outcome := .next (if s.hmHost c then hmOpen c s else s)

/-- HM_ABORT (R266). -/
def execHmAbort (c : Nat) (s : State) : Outcome := .next (if s.hmHost c then hmAbort c s else s)

/-- HM_DATA_B (R266): bits above the byte are ignored. -/
def execHmDataB (w : Writer) (c : Nat) (value : Word) (s : State) : Outcome :=
  .next (if s.hmHost c then hmFeed w c 0x10 1 value s else s)

/-- HM_DATA_H (R266): bits above the half-word are ignored. -/
def execHmDataH (w : Writer) (c : Nat) (value : Word) (s : State) : Outcome :=
  .next (if s.hmHost c then hmFeed w c 0x14 2 value s else s)

/-- HM_DATA_W (R266). -/
def execHmDataW (w : Writer) (c : Nat) (value : Word) (s : State) : Outcome :=
  .next (if s.hmHost c then hmFeed w c 0x18 4 value s else s)

/-- HM_RESULT: the check of all data fed since OPEN, 0 before the first; the channel stays OPEN. -/
def State.hmResult (s : State) (c : Nat) : Nat := (s.hmChan c).crc ^^^ 0xFFFFFFFF

/-- HM_RESULT_READ (R266). -/
def execHmResultRead (c : Nat) (s : State) : Outcome :=
  .next (if s.hmHost c then { s with out := ⟨s.hmResult c, 0, leBytes 4 (s.hmResult c)⟩ } else s)

end Sys2Proof.Machine
end

