-- ==== Sys2Proof/Machine/Keeper.lean ====
section
/-!
DEFINITION. The Keeper (R282 to R311): declaring an Anvil failed, failover, fail-static, the return to
service, host requests, and the loss of the arbiter.
-/

namespace Sys2Proof.Machine

/-! ### Codes and helpers -/

/-- KPR_STATE. -/
def KState.code : KState → Nat
  | .init => 0
  | .duplexA => 1
  | .duplexB => 2
  | .simplexA => 3
  | .simplexB => 4
  | .failStatic => 5

/-- ANVIL_STATE. -/
def AState.code : AState → Nat
  | .off => 0
  | .selftest => 1
  | .resync => 2
  | .standby => 3
  | .active => 4
  | .failed => 5
  | .out => 6

/-- 0 A, 1 B, 0xFF none. -/
def sourceCode : Option Anvil → Nat
  | none => 0xFF
  | some v => anvilNo v

/-- The duplex and simplex states with an Anvil as the drive source. -/
def duplexOf : Anvil → KState
  | .a => .duplexA
  | .b => .duplexB
def simplexOf : Anvil → KState
  | .a => .simplexA
  | .b => .simplexB

/-- The state is one of the two DUPLEX states. -/
def State.duplex (s : State) : Bool := decide (s.keeper.state = .duplexA ∨ s.keeper.state = .duplexB)

/-- 60 minutes in units of elapsed time. -/
def hourUnits : Nat := 3600 * 1000000000 * 65536

/-- Payload of the Keeper's events (R438). -/
def State.kprPayload (s : State) (first second cause : Nat) : List Byte :=
  [byte first, byte second, byte cause, byte s.keeper.state.code]

/-- An event about one Anvil. -/
def anvilEvent (src : Nat) (v : Anvil) (cause : Nat) (s : State) : State :=
  raiseEv src (s.kprPayload (anvilNo v) 0xFF cause) s

/-- A change of the Keeper's state (R289, R309): its event, its FAILOVER record, and the counts of a change
of the drive source. -/
def changeState (k : KState) (cause : Nat) (s : State) : State :=
  let old := sourceCode s.keeper.state.source
  let new := sourceCode k.source
  let s1 := { s with keeper := { s.keeper with
    state := k, lastCause := cause
    failovers := if old = new then s.keeper.failovers else (s.keeper.failovers + 1) % 4294967296
    lastFailover := if old = new then s.keeper.lastFailover else s.now } }
  let s2 := raiseEv 0x200 (s1.kprPayload old new cause) s1
  audit 0x09 (s2.kprPayload old new cause ++ leBytes 8 s2.time.holdNo) s2

/-- The Anvil's lanes as after its reset: the self-test exercises every lane. -/
def resetLanes (v : Anvil) (s : State) : State :=
  match v with
  | .a => { s with lanesA := [] }
  | .b => { s with lanesB := [] }

/-- Reset an Anvil: it runs its self-test. -/
def resetAnvil (v : Anvil) (s : State) : State :=
  resetLanes v (s.setAnvil v { s.anvil v with
    state := .selftest, standbySince := 0, step := 0, rebuilding := false, missed := 0, implausible := 0, implNow := 0
    odd := [], oddNow := [], lateSlots := 0, resyncStart := s.time.elapsed })

/-- A running hold-off, swap or removal is given up. -/
def cancelRevert (s : State) : State :=
  { s with keeper := { s.keeper with revertAt := none, swapAsked := false, removeAfter := none } }

/-! ### Updates by an Anvil -/

/-- Compute an element's code of the period that begins now, at its present rate. -/
def updateNow (bad : List (Anvil × Nat × Nat)) (v : Anvil) (e : Nat) (s : State) : State :=
  let tr := s.atTransitRate e
  let next := s.clock tr + (if tr then transitUnits else holdUnits)
  let trim := decide ((s.elem e).mode = .trim) || s.trimsNow e
  let r := s.update e tr next (if trim then s.dither e (s.time.holdNo + 1) s.ampNext else 0) (s.loopSt e)
  let plain := if trim then (s.update e tr next 0 (s.loopSt e)).1 else r.1
  let s1 := selectCode bad v e r.1 (s.putLoop e r.2)
  s1.setElem e { s1.elem e with plainCode := plain, dithered := trim }

/-- The elements whose loops run. -/
def State.runningElems (s : State) : List Nat := (s.elems.filter fun p => p.2.mode.runs).map fun p => p.1

/-- A boundary of the element's own rate is now. -/
def State.atOwnRate (s : State) (e : Nat) : Bool := if s.atTransitRate e then s.atTransit else s.atHold

/-- The hand-over of a failover to the incoming Anvil (R294), and its first update. -/
def takeOverElem (v : Anvil) (e : Nat) (s : State) : State :=
  if s.atOwnRate e then
    let tr := s.atTransitRate e
    let next := s.clock tr + (if tr then transitUnits else holdUnits)
    updateNow [] v e (s.putLoop e (s.handOverKeep e tr next (s.loopSt e)))
  else s

/-- A hand-over in full (R146) with the first update, as at a rebuild (R303). -/
def rebuildElem (v : Anvil) (e : Nat) (s : State) : State :=
  updateNow [] v e (s.putLoop e (s.handOverHere e (s.atTransitRate e) (s.loopClock e) (s.loopSt e)))

/-! ### Fail-static and rebuilds (R301 to R304) -/

/-- A resynchronisation no longer holds the Forge awake (R296). -/
def releaseForge (s : State) : State := { s with forge := { s.forge with resyncHold := false } }

/-- An Anvil in RESYNC builds its state from the shared tables. -/
def startRebuild (v : Anvil) (s : State) : State :=
  anvilEvent 0x205 v 9 (releaseForge (s.setAnvil v { s.anvil v with
    state := .resync, rebuilding := true, step := 0, resyncStart := s.time.elapsed }))

/-- With no drive source, an Anvil in RESYNC rebuilds at once, unless the other one does. -/
def rebuildIfWaiting (v : Anvil) (s : State) : State :=
  if s.failStatic ∧ (s.anvil v).state = .resync ∧ !(s.anvil v).rebuilding ∧ !(s.anvil (otherAnvil v)).rebuilding
  then startRebuild v s else s

/-- Every element's travel as the arbiter enters FAIL_STATIC (R302). -/
def State.entryTravels (s : State) : SMap Int :=
  s.elems.map fun p => (p.1, if p.2.mode.runs then p.2.word else p.2.holdWord)

/-- Enter FAIL_STATIC: the codes hold, travels are noted, the schedule stops. -/
def enterFailStatic (cause : Nat) (s : State) : State :=
  let entry := s.entryTravels
  let s1 := changeState .failStatic cause { s with keeper := { s.keeper with takeover := none, entry := entry } }
  raiseEv 0x201 [] s1

/-! ### Declaring an Anvil failed (R290 to R293, R296, R299) -/

/-- The failures of the last 60 minutes (R299). -/
def State.recentFails (s : State) (v : Anvil) : List Nat :=
  (s.anvil v).fails.filter fun t => decide (s.time.elapsed < t + hourUnits)

/-- ANVIL_FAIL_COUNT. -/
def State.failCount (s : State) (v : Anvil) : Nat := min 255 (s.recentFails v).length

/-- The failures of the last 60 minutes with one more now. -/
def State.failsNow (s : State) (v : Anvil) : List Nat := s.time.elapsed :: s.recentFails v

/-- A failure goes to OUT instead of restarting (R299). -/
def State.failsOut (s : State) (v : Anvil) : Bool := decide (3 ≤ (s.failsNow v).length) || decide (s.obj 0x3400 5 = 0)

/-- The failed Anvil itself: noted, and reset, or OUT; without another Anvil in service the active one waits
in FAILED for the host (R304). -/
def failAnvil (v : Anvil) (cause : Nat) (wait : Bool) (s : State) : State :=
  let out := s.failsOut v
  let s1 := s.setAnvil v { s.anvil v with
    cause := cause, failTime := s.now, fails := s.failsNow v, standbySince := 0, step := 0, rebuilding := false }
  if out then s1.setAnvil v { s1.anvil v with state := .out, missed := 0 }
  else if wait then s1.setAnvil v { s1.anvil v with state := .failed, missed := 0 }
  else resetAnvil v s1

/-- 0x20D where an Anvil has gone to OUT. -/
def outEvent (v : Anvil) (cause : Nat) (s : State) : State :=
  if (s.anvil v).state = .out then anvilEvent 0x20D v cause s else s

/-- Declare an Anvil failed; `lost` is the last boundary at which a trusted code was applied. -/
def declareFailed (v : Anvil) (cause lost : Nat) (s : State) : State :=
  let o := otherAnvil v
  let c := cancelRevert s
  -- a failure of either Anvil ends the revert that was due (R298)
  let s0 := { c with keeper := { c.keeper with moved := false, differ := none, verdict := none } }
  let drives := decide (s0.activeAnvil = some v)
  let ready := decide ((s0.anvil o).state = .standby) && decide ((s0.anvil o).missed < 2)
  let s1 := failAnvil v cause (drives && decide ((s0.anvil o).state = .out)) s0
  if drives ∧ ready ∧ s0.keeper.takeover.isNone then
    let s2 := outEvent v cause (anvilEvent 0x203 v cause s1)
    let s3 := { s2 with keeper := { s2.keeper with takeover := some (o, cause, lost), handHold := !s2.atHold } }
    forEach (takeOverElem o) s3.runningElems s3
  else if drives then
    let s2 := enterFailStatic cause { s1 with keeper := { s1.keeper with lastGood := lost } }
    let s3 := rebuildIfWaiting o (anvilEvent 0x203 v cause s2)
    schedStop 3 false (outEvent v cause s3)
  else
    let s2 := if s1.duplex ∧ s1.keeper.takeover.isNone then changeState (simplexOf o) cause s1 else s1
    outEvent v cause (anvilEvent 0x203 v cause s2)

/-- A resynchronisation or rebuild fails (R296, R304). -/
def resyncFail (v : Anvil) (s : State) : State :=
  let s1 := anvilEvent 0x207 v 5 (failAnvil v 5 false (releaseForge s))
  rebuildIfWaiting (otherAnvil v) (outEvent v 5 s1)

/-- One period of heartbeats: a transit period while an element is in TRANSIT, else a hold period. -/
def State.beatUnits (s : State) : Nat := if s.anyTransit then transitUnits else holdUnits

/-- ANVIL_HEARTBEAT_LOSS (R290). -/
def execAnvilHeartbeatLoss (anvil : Anvil) (s : State) : Outcome :=
  .next (
    let a := s.anvil anvil
    if !s.keeper.alive ∨ a.missed < 2 then s
    else if a.state = .active ∨ a.state = .standby then declareFailed anvil 1 s.keeper.lastGood s
    else if a.state = .resync then resyncFail anvil s
    else s)

/-- The Anvil that has diverged, and the step of R291 that found it: none where the decision is undecided. -/
def SignReport.diverged (d : SignReport) : Option (Anvil × Nat) :=
  if d.aImpl ≠ 0 ∧ d.bImpl = 0 then some (.a, 1) else if d.bImpl ≠ 0 ∧ d.aImpl = 0 then some (.b, 1)
  else if d.aSelf ∧ !d.bSelf then some (.a, 2) else if d.bSelf ∧ !d.aSelf then some (.b, 2)
  else none

/-- SIGNATURE_MISMATCH (R291, R293, R296): at the second boundary after a period whose signatures differ, the implausible
codes that the drive selector counted in it decide first, then SELFCHECK; else the standby is declared failed. The
command's own counts are not asked: the selector has them. -/
def execSignatureMismatch (_aImpl _bImpl : Nat) (s : State) : Outcome :=
  .next (match s.keeper.verdict with
  | none => s
  | some d =>
    let a := s.keeper.a
    let b := s.keeper.b
    let s0 := { s with keeper := { s.keeper with matched := 0, verdict := none } }
    if !s.keeper.alive then s
    else if s.duplex ∧ s.keeper.takeover.isNone then
      let s1 := { s0 with keeper := { s0.keeper with mismatches := (s0.keeper.mismatches + 1) % 4294967296 } }
      match d.diverged with
      | some (v, n) =>
        raiseEv 0x20C [byte (anvilNo v), byte n] (declareFailed v 2 (s.time.elapsed - 2 * s.beatUnits) s1)
      | none =>
        let v := match s.keeper.state.source with | some x => otherAnvil x | none => .b
        raiseEv 0x20C [0xFF#8, 3#8] (declareFailed v 3 s.keeper.lastGood s1)
    else if a.state = .resync ∧ a.step = 3 then resyncFail .a s0
    else if b.state = .resync ∧ b.step = 3 then resyncFail .b s0
    else s0)

/-- FAILOVER (R293): the boundary at which the commanded Anvil's first codes are applied. -/
def execFailover (s : State) : Outcome :=
  .next (match s.keeper.takeover with
    | none => s
    | some (v, cause, lost) =>
      let at_ := if s.anyTransit then s.atTransit else s.atHold
      if at_ ∧ ((s.anvil (otherAnvil v)).fails.headD 0) < s.time.elapsed then
        let s1 := s.setAnvil v { s.anvil v with state := .active, standbySince := 0 }
        changeState (simplexOf v) cause { s1 with keeper := { s1.keeper with
          takeover := none, interruptNs := min (elapsedNs lost s.time.elapsed) 0xFFFFFFFF
          moved := decide (v = .b) } }
      else s)

/-! ### Return to service (R296 to R298, R303, R306) -/

/-- An Anvil enters RESYNC from the active one: the Forge is held awake. -/
def enterResync (v : Anvil) (s : State) : State :=
  wakeForge { (s.setAnvil v { s.anvil v with state := .resync, step := 0, rebuilding := false }) with
    forge := { s.forge with resyncHold := true } }

/-- ANVIL_SELFTEST_DONE (R296, R303, R306). In INIT the arbiter waits for both results. -/
def execAnvilSelftestDone (anvil : Anvil) (pass : Bool) (s : State) : Outcome :=
  .next (
    let a := s.anvil anvil
    if a.state ≠ .selftest ∨ a.step = 3 then s
    else if pass then
      if s.keeper.state = .init then s.setAnvil anvil { a with step := 3 }
      else if s.failStatic then
        if (s.anvil (otherAnvil anvil)).rebuilding then s.setAnvil anvil { a with state := .resync }
        else startRebuild anvil s
      else enterResync anvil s
    else if s.keeper.state = .init ∧ !a.retried then
      s.setAnvil anvil { a with retried := true, cause := 4 }
    else anvilEvent 0x20D anvil 4 (s.setAnvil anvil { a with state := .out, cause := 4 }))

/-- Step 1 of R296 at hold boundary S. -/
def resyncStart (v : Anvil) (s : State) : State :=
  let a := s.anvil v
  if a.state = .resync ∧ a.step = 0 ∧ !a.rebuilding ∧ s.keeper.state.source.isSome then
    let s1 := enterResync v s
    anvilEvent 0x205 v a.cause (s1.setAnvil v { s1.anvil v with step := 1, resyncStart := s1.time.elapsed })
  else s

/-- The Anvil in RESYNC at a step. -/
def State.resyncing (s : State) (step : Nat) : Option Anvil :=
  if s.keeper.a.state = .resync ∧ s.keeper.a.step = step ∧ !s.keeper.a.rebuilding then some .a
  else if s.keeper.b.state = .resync ∧ s.keeper.b.step = step ∧ !s.keeper.b.rebuilding then some .b
  else none

/-- RESYNC_COPY_DONE (R296): step 2 ends; `ok` is false where the copy failed. -/
def execResyncCopyDone (ok : Bool) (s : State) : Outcome :=
  .next (match s.resyncing 1 with
    | none => s
    | some v => if ok then s.setAnvil v { s.anvil v with step := 2 } else resyncFail v s)

/-- RESYNC_LIVE (R296): the replay reaches the live period; the count of matching signatures starts. -/
def execResyncLive (ok : Bool) (s : State) : Outcome :=
  .next (match s.resyncing 2 with
    | none => s
    | some v =>
      if ok then
        let s1 := s.setAnvil v { s.anvil v with step := 3, missed := 0, silent := 0 }
        { s1 with keeper := { s1.keeper with matched := 0 } }
      else resyncFail v s)

/-- Start the revert hold-off (R298). -/
def startHoldoff (s : State) : State :=
  let h := s.obj 0x3400 4 * 1000000000 * 65536
  { s with keeper := { s.keeper with revertAt := some (s.now + h, s.time.elapsed + h) } }

/-- ANVIL_STANDBY (R296, R298): 16 hold periods have matched. -/
def execAnvilStandby (anvil : Anvil) (s : State) : Outcome :=
  .next (
    let a := s.anvil anvil
    if s.keeper.alive ∧ a.state = .resync ∧ a.step = 3 ∧ 16 ≤ s.keeper.matched ∧ s.atHold then
      let s1 := { (s.setAnvil anvil { a with
          state := .standby, step := 0, standbySince := s.now
          resyncNs := min (elapsedNs a.resyncStart s.time.elapsed) 0xFFFFFFFF }) with
        forge := { s.forge with resyncHold := false } }
      let s2 := anvilEvent 0x206 anvil 11 (changeState (duplexOf (otherAnvil anvil)) 11 s1)
      if anvil = .a ∧ s2.keeper.moved then startHoldoff s2 else s2
    else s)

/-- The conditions at a hold boundary for drive to move without an interruption (R298). -/
def State.mayMove (s : State) : Bool :=
  s.keeper.alive && s.atHold && s.duplex && s.keeper.takeover.isNone && decide (16 ≤ s.keeper.matched)
    && decide (s.keeper.a.lateSlots = 0) && decide (s.keeper.b.lateSlots = 0)

/-- Drive moves to the standby: the two exchange places. -/
def exchange (cause : Nat) (s : State) : State :=
  match s.keeper.state.source with
  | none => s
  | some v =>
    let o := otherAnvil v
    let s1 := s.setAnvil v { s.anvil v with state := .standby, standbySince := s.now }
    let s2 := s1.setAnvil o { s1.anvil o with state := .active, standbySince := 0 }
    anvilEvent 0x206 v cause
      (changeState (duplexOf o) cause { s2 with keeper := { s2.keeper with moved := false, revertAt := none, swapAsked := false } })

/-- KPR_REVERT (R298). -/
def execKprRevert (s : State) : Outcome :=
  .next (match s.keeper.revertAt with
    | none => s
    | some (_, t) =>
      if t ≤ s.time.elapsed ∧ s.mayMove ∧ s.keeper.state = .duplexB then
        let s1 := exchange 8 s
        raiseEv 0x208 (s1.kprPayload 1 0 8) s1
      else s)

/-! ### Host requests (R300) -/

/-- An Anvil goes to OUT by the host; a standby of a DUPLEX state leaves it SIMPLEX. -/
def removeAnvil (v : Anvil) (s : State) : State :=
  let was := decide ((s.anvil v).state = .standby) && s.duplex
  let s0 := if (s.anvil v).state = .resync then releaseForge s else s
  let s1 := cancelRevert (s0.setAnvil v { s0.anvil v with
    state := .out, cause := 7, standbySince := 0, step := 0, rebuilding := false })
  let s2 := if was then changeState (simplexOf (otherAnvil v)) 7 s1 else s1
  rebuildIfWaiting (otherAnvil v) (anvilEvent 0x20D v 7 s2)

/-- A swap asked for takes place at the first hold boundary that allows it; a removal follows it. -/
def swapIfAsked (s : State) : State :=
  if s.keeper.swapAsked ∧ s.keeper.swapAt < s.time.elapsed ∧ s.mayMove then
    let rm := s.keeper.removeAfter
    let s1 := exchange 6 s
    match rm with
    | none => s1
    | some v => removeAnvil v s1
  else s

/-- A swap is asked for: it takes place from the first hold boundary after the write (R28, R300). -/
def askSwap (rm : Option Anvil) (s : State) : State :=
  let k := s.keeper
  { s with keeper := { k with
      swapAsked := true, swapAt := if k.swapAsked then k.swapAt else s.time.elapsed
      removeAfter := if rm.isSome then rm else k.removeAfter } }

/-- KPR_SWAP (R300). -/
def execKprSwap (ses value : Nat) (s : State) : Outcome :=
  .next (gated ses 0x3400 9 (valBytes 1 value) (fun s =>
    if value = 0 then reply ses stOk s
    else if !s.keeper.alive ∨ !s.duplex ∨ s.keeper.takeover.isSome then reply ses stNotEligible s
    else reply ses stOk (askSwap none s)) s)

/-- The Anvil that a number names. -/
def anvilOf (n : Nat) : Anvil := if n = 0 then .a else .b

/-- The Anvil drives the channels, or is commanded to. -/
def State.drives (s : State) (v : Anvil) : Bool := decide ((s.anvil v).state = .active) || decide (s.activeAnvil = some v)

/-- KPR_RESTART (R300, R309). -/
def execKprRestart (ses value : Nat) (s : State) : Outcome :=
  .next (gated ses 0x3400 0x0A (valBytes 1 value) (fun s =>
    let v := anvilOf value
    if 1 < value then reply ses stRange s
    else if !s.keeper.alive ∨ s.drives v then reply ses stNotEligible s
    else if (s.anvil v).state = .off then reply ses stOk s
    else
      let was := decide ((s.anvil v).state = .standby) && s.duplex
      let s1 := resetAnvil v (cancelRevert (s.setAnvil v { s.anvil v with fails := [], retried := false }))
      let s2 := rebuildIfWaiting (otherAnvil v) (releaseForge s1)
      reply ses stOk (if was then changeState (simplexOf (otherAnvil v)) 12 s2 else s2)) s)

/-- KPR_REMOVE (R300). -/
def execKprRemove (ses value : Nat) (s : State) : Outcome :=
  .next (gated ses 0x3400 0x0B (valBytes 1 value) (fun s =>
    let v := anvilOf value
    if 1 < value then reply ses stRange s
    else if !s.keeper.alive then reply ses stNotEligible s
    else if s.drives v then
      if (s.anvil (otherAnvil v)).state = .standby ∧ s.keeper.takeover.isNone then
        reply ses stOk (askSwap (some v) s)
      else reply ses stNotEligible s
    else reply ses stOk (removeAnvil v s)) s)

/-- A FAILED Anvil is reset where KPR_AUTO_RESTART is 1, and proceeds as in R296. -/
def restartFailed (v : Anvil) (s : State) : State :=
  if (s.anvil v).state = .failed ∧ s.obj 0x3400 5 = 1 then resetAnvil v s else s

/-- REBUILD_COMPLETE (R303): at a hold boundary the rebuilt Anvil becomes ACTIVE, and the other one is restarted. -/
def execRebuildComplete (anvil : Anvil) (s : State) : Outcome :=
  .next (
    let a := s.anvil anvil
    if s.keeper.alive ∧ s.failStatic ∧ a.rebuilding ∧ s.atHold then
      let s1 := s.setAnvil anvil { a with
        state := .active, rebuilding := false, missed := 0, silent := 0, resyncNs := min (elapsedNs a.resyncStart s.time.elapsed) 0xFFFFFFFF }
      let s2 := changeState (simplexOf anvil) 9 { s1 with
        keeper := { s1.keeper with
          interruptNs := min (elapsedNs s1.keeper.lastGood s1.time.elapsed) 0xFFFFFFFF
          moved := decide (anvil = .b), entry := [], lastGood := s1.time.elapsed, matched := 0 }
        planner := { s1.planner with retry := true } }
      let s3 := restartFailed (otherAnvil anvil) (raiseEv 0x202 [] s2)
      if s3.clear.asserted then s3 else forEach (rebuildElem anvil) s3.runningElems s3
    else s)

/-! ### The arbiter lost (R305) -/

/-- KEEPER_LOST. -/
def execKeeperLost (s : State) : Outcome :=
  .next (if !s.keeper.alive then s
  else
    let l := sourceCode s.keeper.state.source
    let n := (s.keeper.lostCount + 1) % 4294967296
    raiseEv 0x20A ([byte l, 0xFF#8, 0#8, 0#8] ++ leBytes 4 n) { s with keeper := { s.keeper with
      alive := false, latched := l, takeover := none, lostCount := n, checked := 0, differ := none, verdict := none
      losses := s.time.elapsed :: s.keeper.losses.filter fun t => decide (s.time.elapsed < t + hourUnits) } })

/-- The latched source has delivered no codes for 2 periods. -/
def State.latchedMissing (s : State) : Bool :=
  (decide (s.keeper.latched = 0) && decide (2 ≤ s.keeper.a.silent))
    || (decide (s.keeper.latched = 1) && decide (2 ≤ s.keeper.b.silent))

/-- NO_DRIVE_SOURCE. -/
def execNoDriveSource (s : State) : Outcome :=
  .next (if !s.keeper.alive ∧ !s.keeper.noSource ∧ s.latchedMissing then
    raiseEv 0x210 [] { s with keeper := { s.keeper with noSource := true } }
  else s)

/-- The state of R287 that the checks of the restarted arbiter match: with the latched source in service, DUPLEX where a
standby's signatures matched in all 16 hold periods; with a source that is no longer in service, FAIL_STATIC (log 48). -/
def State.matchState (s : State) : KState :=
  match s.keeper.state.source with
  | none => s.keeper.state
  | some v =>
    if (s.anvil v).state ≠ .active then .failStatic
    else if (s.anvil (otherAnvil v)).state = .standby ∧ 16 ≤ s.keeper.matched then duplexOf v else simplexOf v

/-- The restarted arbiter has checked 16 hold periods of heartbeats and signatures since its loss (R305). -/
def State.arbiterChecked (s : State) : Bool := decide (16 ≤ s.keeper.checked)

/-- An Anvil that stood by and did not match is compared anew, as one in RESYNC at its live step. -/
def demote (v : Anvil) (s : State) : State :=
  if (s.anvil v).state = .standby then s.setAnvil v { s.anvil v with state := .resync, step := 3, standbySince := 0 } else s

/-- KEEPER_RESTORED; after the third loss within 60 minutes the arbiter stays lost. -/
def execKeeperRestored (s : State) : Outcome :=
  .next (if s.keeper.alive ∨ s.keeper.losses.isEmpty ∨ 3 ≤ s.keeper.losses.length ∨ !s.arbiterChecked then s
  else
    let k := s.matchState
    let s1 := match k with
      | .simplexA => demote .b s
      | .simplexB => demote .a s
      | .failStatic => if s.failStatic then s else { s with keeper := { s.keeper with entry := s.entryTravels } }
      | _ => s
    raiseEv 0x20B ([byte s.keeper.latched, byte k.code, 0#8, 0#8] ++ leBytes 4 s.keeper.lostCount)
      { s1 with keeper := { s1.keeper with alive := true, latched := 0xFF, state := k, noSource := false, matched := 0 } })

/-! ### Watch power-up and power-down (R289, R306) -/

/-- Both Anvils are released from reset together. -/
def releaseAnvils (s : State) : State :=
  forEach (fun v t => (resetAnvil v t).setAnvil v { (resetAnvil v t).anvil v with retried := false })
    [Anvil.a, Anvil.b] s

/-- The Watch domain goes off: INIT, both Anvils OFF, no record; a drive source that goes counts as a change (R308). -/
def keeperInit (s : State) : State :=
  let old := sourceCode s.keeper.state.source
  let k := { s.keeper with
    state := .init, takeover := none, swapAsked := false, removeAfter := none, revertAt := none, moved := false
    entry := [], matched := 0, noSource := false, handHold := false, differ := none, verdict := none, repeated := false
    failovers := if old = 0xFF then s.keeper.failovers else (s.keeper.failovers + 1) % 4294967296
    a := { s.keeper.a with state := .off, standbySince := 0, step := 0, rebuilding := false, missed := 0, silent := 0, lateSlots := 0 }
    b := { s.keeper.b with state := .off, standbySince := 0, step := 0, rebuilding := false, missed := 0, silent := 0, lateSlots := 0 } }
  let s1 := { s with keeper := k, lanesA := [], lanesB := [], forge := { s.forge with resyncHold := false } }
  if s.keeper.state = .init then s1 else raiseEv 0x200 (s1.kprPayload old 0xFF s.keeper.lastCause) s1

/-- An Anvil's self-test result is known. -/
def AnvilSt.known (a : AnvilSt) : Bool := decide (a.step = 3) || a.retried || decide (a.state ≠ .selftest)

/-- KEEPER_LEAVE_INIT (R289, R306): at a hold boundary, both results known or 1.5 ms after the release. -/
def execKeeperLeaveInit (s : State) : Outcome :=
  .next (
    let a := s.keeper.a
    let b := s.keeper.b
    if s.keeper.alive ∧ s.power.watchOn ∧ s.keeper.state = .init ∧ s.atHold
        ∧ ((a.known ∧ b.known) ∨ a.resyncStart + 1500000 * 65536 ≤ s.time.elapsed) then
      let s0 := { s with keeper := { s.keeper with lastGood := s.time.elapsed, matched := 0 } }
      let pa := decide (a.state = .selftest ∧ a.step = 3)
      let pb := decide (b.state = .selftest ∧ b.step = 3)
      if pa then
        let s1 := s0.setAnvil .a { a with state := .active, step := 0, silent := 0 }
        if pb then
          anvilEvent 0x206 .b 10 (changeState .duplexA 10
            (s1.setAnvil .b { b with state := .standby, step := 0, silent := 0, standbySince := s.now }))
        else changeState .simplexA 10 s1
      else if pb then changeState .simplexB 10 (s0.setAnvil .b { b with state := .active, step := 0, silent := 0 })
      else enterFailStatic 10 s0
    else s)

end Sys2Proof.Machine
end

