-- ==== Sys2Proof/Machine/Thermal.lean ====
section
/-!
DEFINITION. Temperature: sensors, zones, stages, the trip, compensation and fans (R329 to R341).
-/

namespace Sys2Proof.Machine

/-! ### Sensors and zones (R329) -/

/-- Sensor `i`. -/
def State.sensor (s : State) (i : Nat) : Sensor := mapGet s.thermal.sensors i {}

/-- Replace it. -/
def State.setSensor (s : State) (i : Nat) (v : Sensor) : State :=
  { s with thermal := { s.thermal with sensors := mapSet s.thermal.sensors i v {} } }

/-- Zone `z`. -/
def State.zone (s : State) (z : Nat) : Zone := mapGet s.thermal.zones z {}

/-- Replace it. -/
def State.setZone (s : State) (z : Nat) (v : Zone) : State :=
  { s with thermal := { s.thermal with zones := mapSet s.thermal.zones z v {} } }

/-- The zone of a sensor, and the sensors of a zone. -/
def zoneOf (i : Nat) : Nat := if i < 48 then 0 else if i < 86 then 1 else 2
def zoneSensors (z : Nat) : List Nat := if z = 0 then numbers 0 48 else if z = 1 then numbers 48 38 else numbers 86 4

/-- A sensor's neighbours. -/
def neighbours (i : Nat) : List Nat :=
  let near (a b : Nat) : Bool := decide (a ≤ b + 1) && decide (b ≤ a + 1)
  (zoneSensors (zoneOf i)).filter fun j => decide (j ≠ i) &&
    (if i < 48 then near (i / 8) (j / 8) && near (i % 8) (j % 8)
     else if i < 86 then near ((i - 48) / 2) ((j - 48) / 2) else true)

/-- Those of a list of sensors that are not suspect. -/
def State.trusted (s : State) (l : List Nat) : List Nat := l.filter fun i => !(s.sensor i).suspect

/-- Put a number into a rising list. -/
def insertInt (v : Int) : List Int → List Int
  | [] => [v]
  | w :: rest => if v ≤ w then v :: w :: rest else w :: insertInt v rest

/-- Twice the median of a list. -/
def median2 (l : List Int) : Int :=
  let r := l.foldl (fun a v => insertInt v a) []
  r.getD ((l.length - 1) / 2) 0 + r.getD (l.length / 2) 0

/-- The greatest of a list. -/
def greatest (d : Int) (l : List Int) : Int := l.foldl max (l.headD d)

/-! ### Sampling (R330, R331) -/

/-- The runs of samples at which a sensor differs from, or agrees with, its neighbours' median; it is judged
only against at least 3 of them. -/
def judge (i : Nat) (s : State) : State :=
  let x := s.sensor i
  let n := s.trusted (neighbours i)
  if n.length < 3 then s.setSensor i { x with offRun := 0, onRun := 0 }
  else
    let d := (2 * x.sample - median2 (n.map fun j => (s.sensor j).sample)).natAbs
    s.setSensor i { x with offRun := if 2 * 1536 < d then x.offRun + 1 else 0, onRun := if d ≤ 2 * 768 then x.onRun + 1 else 0 }

/-- v(n): the sample, or its replacement while the sensor is suspect. -/
def State.sensorValue (s : State) (i : Nat) : Int :=
  let x := s.sensor i
  if !x.suspect then x.sample
  else
    let n := s.trusted (neighbours i)
    if !n.isEmpty then roundDiv (median2 (n.map fun j => (s.sensor j).sample)) 2
    else greatest x.v ((s.trusted (zoneSensors (zoneOf i))).map fun j => (s.sensor j).sample)

/-- Form v(n), and F(n) in units of 2^-12 °C: 16 times the mean of the last 16 values. -/
def form (i : Nat) (s : State) : State :=
  let x := s.sensor i
  let v := s.sensorValue i
  let vs := (v :: x.values).take 16
  let f := roundDiv (16 * vs.sum) vs.length
  s.setSensor i { x with v := v, values := vs, filtered := (f :: x.filtered).take 60001 }

/-- F(n), and its change over the last `k` samples; none before there were so many. -/
def Sensor.f (x : Sensor) : Int := x.filtered.headD 0
def Sensor.rise (x : Sensor) (k : Nat) : Option Int := (x.filtered[k]?).map fun w => x.f - w

/-- r1 and r10 in units of 2^-12 °C/s and of a tenth of that. -/
def Sensor.r1 (x : Sensor) : Int := (x.rise 1000).getD 0
def Sensor.r10 (x : Sensor) : Int := (x.rise 10000).getD 0

/-- r1 in Q8.8 °C/s. -/
def Sensor.r1q (x : Sensor) : Int := roundDiv x.r1 16

/-! ### Conditions (R332 to R334) -/

/-- A zone's register at an offset. -/
def State.zoneReg (s : State) (z off : Nat) : Nat := s.reg (0x360100 + 0x20 * z + off)

/-- EN of a zone, and its thresholds in Q8.8. -/
def State.zoneEn (s : State) (z : Nat) : Bool := (s.zoneReg z 0).testBit 0
def State.zoneWarn (s : State) (z : Nat) : Int := bitsInt 16 (field (s.zoneReg z 4) 0 16)
def State.zoneHot (s : State) (z : Nat) : Int := bitsInt 16 (field (s.zoneReg z 4) 16 16)
def State.zoneCrit (s : State) (z : Nat) : Int := bitsInt 16 (field (s.zoneReg z 8) 0 16)
def State.zoneRate1 (s : State) (z : Nat) : Int := bitsInt 16 (field (s.zoneReg z 0xC) 0 16)
def State.zoneRate10 (s : State) (z : Nat) : Int := bitsInt 16 (field (s.zoneReg z 0xC) 16 16)

/-- One sample of a condition: it holds, or it lies wholly below its clearing level. -/
def CondSt.step (c : CondSt) (holds low : Bool) : CondSt :=
  { c with upRun := if holds then c.upRun + 1 else 0, downRun := if low then c.downRun + 1 else 0 }

/-- An absolute condition's sample: some value reaches the threshold; all lie 2.0 °C below it. -/
def CondSt.absStep (c : CondSt) (vs : List Int) (t : Int) : CondSt :=
  c.step (vs.any fun v => decide (t ≤ v)) (vs.all fun v => decide (v ≤ t - 512))

/-- A rate condition's sample, in units of 2^-12 °C/s times `k`: some rate exceeds the threshold; all lie
0.5 °C/s below it. -/
def CondSt.rateStep (c : CondSt) (rs : List Int) (k t : Int) : CondSt :=
  c.step (rs.any fun r => decide (16 * k * t < r)) (rs.all fun r => decide (r ≤ 16 * k * (t - 128)))

/-- A zone whose EN is 0 holds no condition (R334). -/
def Zone.off (x : Zone) : Zone := { x with warn := {}, hot := {}, crit := {}, rate1 := {}, rate10 := {} }

/-- One sample of a zone's conditions. -/
def zoneSample (z : Nat) (s : State) : State :=
  let x := s.zone z
  let xs := (s.trusted (zoneSensors z)).map s.sensor
  let vs := xs.map fun y => y.v
  let en := s.zoneEn z
  s.setZone z (if !en then x.off else { x with
    warn := x.warn.absStep vs (s.zoneWarn z)
    hot := x.hot.absStep vs (s.zoneHot z)
    crit := x.crit.absStep vs (s.zoneCrit z)
    rate1 := x.rate1.rateStep (xs.map Sensor.r1) 1 (s.zoneRate1 z)
    rate10 := x.rate10.rateStep (xs.map Sensor.r10) 10 (s.zoneRate10 z) })

/-- The zone is blind: more than half its sensors are suspect. -/
def State.zoneBlind (s : State) (z : Nat) : Bool :=
  let l := zoneSensors z
  decide (l.length < 2 * countWhere (fun i => (s.sensor i).suspect) l)

/-! ### Fans (R336, R340) -/

/-- Fan `f`. -/
def State.fan (s : State) (f : Nat) : Fan := mapGet s.fans f {}

/-- Replace it. -/
def State.setFan (s : State) (f : Nat) (v : Fan) : State := { s with fans := mapSet s.fans f v {} }

/-- THM_FAN_CTRL of a fan. -/
def State.fanCtrl (s : State) (f : Nat) : Nat := s.reg (0x360200 + 0x10 * f)

/-- The duty that a zone asks of a fan in AUTO. -/
def State.zoneDuty (s : State) (z : Nat) : Int :=
  let least : Int := field (s.reg 0x360004) 8 8
  let lo := 16 * bitsInt 16 (field (s.zoneReg z 0x10) 0 16)
  let hi := 16 * bitsInt 16 (field (s.zoneReg z 0x10) 16 16)
  let f := greatest 0 ((s.trusted (zoneSensors z)).map fun i => (s.sensor i).f)
  if hi ≤ lo then (if f < lo then least else 255)
  else clampInt least 255 (least + roundDiv ((255 - least) * (clampInt lo hi f - lo)) (hi - lo))

/-- The duty in force of a fan. -/
def State.fanDuty (s : State) (f : Nat) : Nat :=
  let c := s.fanCtrl f
  if !c.testBit 0 then 0
  else if s.stopped1 ∨ s.thermal.trip ∨ (numbers 0 4).any (fun g => decide (g ≠ f) && (s.fan g).stall && (s.fanCtrl g).testBit 0)
  then 255
  else if c.testBit 1 then
    -- with no zone enabled, FAN_MIN_DUTY stands
    (greatest (field (s.reg 0x360004) 8 8) (((numbers 0 3).filter s.zoneEn).map s.zoneDuty)).toNat
  else field c 8 8

/-- Bring every fan's duty up to date. -/
def refreshFans (s : State) : State :=
  forEach (fun f t => t.setFan f { t.fan f with duty := t.fanDuty f }) (numbers 0 4) s

/-! ### Stages (R335, R336) -/

/-- A zone's stage, and whether a rate decides it. -/
def State.zoneStage (s : State) (z : Nat) : Nat × Bool :=
  let x := s.zone z
  if !s.zoneEn z then (0, false)
  else if x.crit.force then (3, false)
  else if x.hot.force ∨ x.blind then (2, false)
  else if x.rate1.force ∨ x.rate10.force then (2, true)
  else if x.warn.force then (1, false)
  else (0, false)

/-- The zone with the highest stage, the lowest of equals. -/
def State.topZone (s : State) : Nat :=
  (numbers 0 3).foldl (fun b z => if (s.zoneStage b).1 < (s.zoneStage z).1 then z else b) 0

/-- The sensor of a zone that decides (R335): the hottest, or the one with the greatest of the rates whose condition is in
force. -/
def State.topSensor (s : State) (z : Nat) (rate : Bool) : Nat :=
  let l := s.trusted (zoneSensors z)
  let key (i : Nat) : Int :=
    if !rate then (s.sensor i).v else if (s.zone z).rate1.force then (s.sensor i).r1 else (s.sensor i).r10
  l.foldl (fun b i => if key b < key i then i else b) (l.headD ((zoneSensors z).headD 0))

/-- The THERMAL_STAGE record of a change (R261). -/
def stageRecord (old new zone cause sensor : Nat) (v rate : Int) : List Byte :=
  [byte old, byte new, byte zone, byte cause] ++ leBytes 2 sensor ++ leBytes 2 (intBits 16 v) ++ leBytes 2 (intBits 16 rate)

/-- A waiting step or load becomes forced: the next transit boundary applies it (R234). -/
def makeForced (s : State) : State :=
  if s.time.forced then s else { s with time := { s.time with forced := true, reqAt := s.time.elapsed } }

/-- The T0 of a pending batch is known and lies within 1 µs: its image is complete, or it is a TIMED one whose instant
is still ahead (R99). -/
def Batch.t0Near (b : Batch) (now : Instant) : Bool :=
  decide (b.state = .pending) && decide (b.t0 ≤ now + 1000 * 65536)
    && (b.imageReady || (decide (b.mode = 1) && !b.late && decide (now ≤ b.t0)))

/-- STOP-1 fails pending batches, but one whose T0 lies within 1 µs (R99). A step that waited for them is then forced
(R234). -/
def stopBatches (s : State) : State :=
  let s1 := forEach (fun b t => failBatch b stNotEligible t) (s.pendingBatches.filter fun b => !b.t0Near s.now) s
  let s2 := replanStale s1
  if s2.time.req.isSome ∧ s2.time.deferred ∧ s2.pendingBatches.isEmpty then makeForced s2 else s2

/-- What a change of stage sets off (R99, R113, R333). -/
def stageActions (old new : Nat) (s : State) : State :=
  let s1 := if old < 2 ∧ 2 ≤ new then stopBatches s else s
  let s2 := if old < 3 ∧ 3 ≤ new then schedHalt 1 s1 else s1
  refreshFans (if new < 2 ∧ 2 ≤ old then { s2 with planner := { s2.planner with retry := true } } else s2)

/-- The engine's stage follows its zones; the trip's stage stands until Watch returns (R338). -/
def restage (s : State) : State :=
  let z := s.topZone
  let (new, rate) := s.zoneStage z
  let old := s.thermal.stage
  if s.thermal.trip then s
  else if new = old then { s with thermal := { s.thermal with
    stageZone := if new = 0 then s.thermal.stageZone else z, rateCause := rate } }
  else
    let zone := if new = 0 then s.thermal.stageZone else z
    let i := s.topSensor zone rate
    let p := stageRecord old new zone (if new < old then 2 else bit rate) i (s.sensor i).v (s.sensor i).r1q
    let s1 := { s with thermal := { s.thermal with stage := new, stageZone := zone, rateCause := rate } }
    stageActions old new (audit 0x0B p (raiseEv 0x300 (p.take 8) s1))

/-! ### Compensation (R339) -/

/-- The stage whose sensors an element uses. -/
def compStage (e : Nat) : Nat := if e < 9728 then e / 512 else if e < 10752 then 0 else 18

/-- Twice the mean F of a stage's two sensors, in units of 2^-12 °C. -/
def State.stageTemp2 (s : State) (st : Nat) : Int := (s.sensor (48 + 2 * st)).f + (s.sensor (49 + 2 * st)).f

/-- Tq moves to the nearest multiple of 0.5 °C once the mean lies more than 0.375 °C from it. -/
def moveTq (st : Nat) (s : State) : State :=
  let m := s.stageTemp2 st
  let near := 128 * roundDiv m 4096
  let es := (if st = 0 then numbers 9728 1024 else if st = 18 then numbers 10752 1024 else []) ++ numbers (512 * st) 512
  forEach (fun e t =>
    let x := t.elem e
    match (match x.tqNext with | none => x.tq | q => q) with
    | none => t.setElem e { x with tqNext := some near }
    | some q => if 3072 < (m - 32 * q).natAbs then t.setElem e { x with tqNext := some near } else t) es s

/-! ### The trip (R337, R338) -/

/-- The trip temperature of a sensor's zone, Q8.8; the substrate has none. -/
def tripTemp (i : Nat) : Option Int := if i < 48 then some 32000 else if i < 86 then some 24320 else none

/-- A sensor's value reaches the trip. -/
def State.atTrip (s : State) (i : Nat) : Bool :=
  match tripTemp i with
  | none => false
  | some t => decide (t ≤ (s.sensor i).v)

/-- A sensor would reach the trip in under 1 ms at its short rate. -/
def State.nearTrip (s : State) (i : Nat) : Bool :=
  match tripTemp i, (s.sensor i).rise 16 with
  | some t, some d => decide (0 < d) && decide (256 * (t - (s.sensor i).v) < d)
  | _, _ => false

/-- Every sensor that the trip watches lies low enough for a return. -/
def State.coolEnough (s : State) : Bool :=
  (numbers 0 86).all fun i => decide ((s.sensor i).v ≤ if i < 48 then 26880 else 20480)

/-- One sample of the trip's logic. -/
def tripSample (s : State) : State :=
  let l := s.trusted (numbers 0 86)
  { s with thermal := { s.thermal with
    tripRun := if l.any s.atTrip then s.thermal.tripRun + 1 else 0
    predictRun := if l.any s.nearTrip then s.thermal.predictRun + 1 else 0
    coolSince := if s.coolEnough then (match s.thermal.coolSince with | none => some s.time.elapsed | c => c) else none } }

/-- The millisecond of engine time in progress, counted from 1, and that its sample is still to be taken (R330). -/
def State.sampleMs (s : State) : Nat := s.now / (1000000 * 65536) + 1
def State.sampleDue (s : State) : Bool := s.power.vaux && decide (s.thermal.sampleNo ≠ s.sampleMs)

/-- THM_SAMPLE (R330): once in each millisecond; a sensor not listed gives its last sample again. -/
def execThmSample (samples : List (Nat × Int)) (s : State) : Outcome :=
  .next (if !s.sampleDue then s
  else
    let s1 := forEach (fun p t => if p.1 < 90 then t.setSensor p.1 { t.sensor p.1 with sample := p.2 } else t) samples s
    let s2 := forEach judge (numbers 0 90) { s1 with thermal := { s1.thermal with sampleNo := s1.sampleMs } }
    let s3 := forEach form (numbers 0 90) s2
    let s4 := tripSample (forEach zoneSample (numbers 0 3) s3)
    refreshFans (restage (if s4.power.watchOn then forEach moveTq (numbers 0 19) s4 else s4)))

/-- Zones become blind, or see again; 0x304 where one becomes blind (R332). -/
def refreshBlind (s : State) : State :=
  restage (forEach (fun z t =>
    let b := t.zoneBlind z
    if b = (t.zone z).blind then t
    else
      let t1 := t.setZone z { t.zone z with blind := b }
      if b then raiseEv 0x304 (leBytes 2 z) t1 else t1) (numbers 0 3) s)

/-- THM_SENSOR_SUSPECT (R331, R332). -/
def execThmSensorSuspect (i : Nat) (s : State) : Outcome :=
  .next (
    let x := s.sensor i
    if s.power.vaux ∧ i < 90 ∧ !x.suspect ∧ 1000 ≤ x.offRun then
      refreshBlind (raiseEv 0x302 (leBytes 2 i ++ leBytes 2 (intBits 16 x.v))
        (s.setSensor i { x with suspect := true, onRun := 0 }))
    else s)

/-- THM_SENSOR_RESTORED (R331). -/
def execThmSensorRestored (i : Nat) (s : State) : Outcome :=
  .next (
    let x := s.sensor i
    if s.power.vaux ∧ i < 90 ∧ x.suspect ∧ 10000 ≤ x.onRun then
      refreshBlind (raiseEv 0x303 (leBytes 2 i ++ leBytes 2 (intBits 16 x.v))
        (s.setSensor i { x with suspect := false, offRun := 0 }))
    else s)

/-- A condition comes into force, or clears, at its 16th sample. -/
def CondSt.settle (c : CondSt) : CondSt :=
  if !c.force ∧ 16 ≤ c.upRun then { c with force := true }
  else if c.force ∧ 16 ≤ c.downRun then { c with force := false }
  else c

/-- Every condition of a zone at its latest sample. -/
def Zone.settle (x : Zone) : Zone :=
  { x with
    warn := x.warn.settle, hot := x.hot.settle, crit := x.crit.settle, rate1 := x.rate1.settle
    rate10 := x.rate10.settle }

/-- A condition of a zone has a change to make at its latest sample. -/
def State.condDue (s : State) (z : Nat) (c : ThmCond) : Bool :=
  let x := s.zone z
  match c with
  | .warn => decide (x.warn.settle ≠ x.warn)
  | .hot => decide (x.hot.settle ≠ x.hot)
  | .crit => decide (x.crit.settle ≠ x.crit)
  | .rate1 => decide (x.rate1.settle ≠ x.rate1)
  | .rate10 => decide (x.rate10.settle ≠ x.rate10)
  | .blind => decide (x.blind ≠ s.zoneBlind z)

/-- THM_CONDITION_CHANGE (R334, R335): every condition that changes at this sample changes with the one named, so that the
stage changes once. -/
def execThmConditionChange (z : Nat) (c : ThmCond) (s : State) : Outcome :=
  .next (if 3 ≤ z ∨ !s.power.vaux ∨ !s.condDue z c then s
  else restage (forEach (fun k t => t.setZone k { (t.zone k).settle with blind := t.zoneBlind k }) (numbers 0 3) s))

/-- EN of a zone changes (R334). -/
def zoneEnChanged (z : Nat) (s : State) : State :=
  restage (if s.zoneEn z then s else s.setZone z (s.zone z).off)

/-- THM_TRIP (R337, R338): the record of the change waits for Watch's return. -/
def execThmTrip (i : Nat) (s : State) : Outcome :=
  .next (
    let abs := decide (2 ≤ s.thermal.tripRun) && s.atTrip i
    let soon := decide (2 ≤ s.thermal.predictRun) && s.nearTrip i
    if !s.power.vaux ∨ s.thermal.trip ∨ !(abs || soon) ∨ (s.sensor i).suspect then s
    else
      let x := s.sensor i
      let old := s.thermal.stage
      let p := stageRecord old 4 (zoneOf i) (bit (!abs)) i x.v x.r1q
      let s1 := freezeAll { s with
        thermal := { s.thermal with
          stage := 4, stageZone := zoneOf i, rateCause := !abs, trip := true, tripAt := some s.time.elapsed
          tripSensor := i, tripTemp := x.v, tripTime := s.now, tripNs := s.nowNs % 1000000000
          restartReady := false, coolSince := none }
        audit := { s.audit with waiting := s.audit.waiting ++ [s.body 0x0B p] } }
      stageActions old 4 (raiseEv 0x305 (leBytes 2 i ++ leBytes 2 (intBits 16 x.v)) (raiseEv 0x300 (p.take 8) s1)))

/-! ### COMPENSATION_APPLY (R339) -/

/-- A running element's terms have changed: its target follows where it stood at its route's, and a
hand-over waits for its next update. -/
def termsChanged (e old new : Nat) (s : State) : State :=
  let x := s.elem e
  if !x.mode.runs then s
  else
    let s1 := s.setElem e x.newTerms
    if old ≠ new ∧ x.target = old then queueTarget e new none s1 else s1

/-- COMPENSATION_APPLY (R339): at a hold boundary. -/
def execCompensationApply (e : Nat) (s : State) : Outcome :=
  .next (
    let x := s.elem e
    match x.tqNext with
    | none => s
    | some t =>
      if s.power.watchOn ∧ (s.holdDue ∨ s.atHold) then
        let old := s.offsetTarget e
        let s1 := s.setElem e { x with tq := some t, tqNext := none }
        if x.tq = some t then s1 else termsChanged e old (s1.offsetTarget e) s1
      else s)

/-! ### Fan speed (R341) -/

/-- The second in progress, counted from 1, and that a fan's speed is still to be updated in it. -/
def State.rpmSecond (s : State) : Nat := s.time.elapsed / (1000000000 * 65536) + 1
def State.rpmDue (s : State) (f : Nat) : Bool := s.power.vaux && decide ((s.fan f).second < s.rpmSecond)

/-- FAN_RPM_UPDATE (R341): once per second. -/
def execFanRpmUpdate (f edges : Nat) (s : State) : Outcome :=
  .next (if 4 ≤ f ∨ !s.rpmDue f then s
  else
    let x := s.fan f
    let c := s.fanCtrl f
    let rpm := min (60 * edges / (field c 2 2 + 1)) 0xFFFF
    let low := c.testBit 0 && decide (77 ≤ x.duty) && decide (rpm < field c 16 16)
    s.setFan f { x with second := s.rpmSecond, rpm := rpm, lowRun := if low then x.lowRun + 1 else 0
                        goodRun := if field c 16 16 ≤ rpm then x.goodRun + 1 else 0 })

/-- THM_FAN_STALL (R341). -/
def execThmFanStall (f : Nat) (s : State) : Outcome :=
  .next (
    let x := s.fan f
    if s.power.vaux ∧ f < 4 ∧ !x.stall ∧ 2 ≤ x.lowRun then
      refreshFans (raiseEv (0x310 + f) (leBytes 2 x.rpm) (s.setFan f { x with stall := true }))
    else s)

/-- THM_FAN_RESTORED (R341). -/
def execThmFanRestored (f : Nat) (s : State) : Outcome :=
  .next (
    let x := s.fan f
    if s.power.vaux ∧ f < 4 ∧ x.stall ∧ 2 ≤ x.goodRun then
      refreshFans (raiseEv (0x314 + f) (leBytes 2 x.rpm) (s.setFan f { x with stall := false }))
    else s)

/-- THM_RESTART_READY's condition (R338): cool enough for 60 s without a break. -/
def State.restartDue (s : State) : Bool :=
  s.thermal.trip && !s.thermal.restartReady && !s.power.watchOn && (match s.thermal.coolSince with
    | none => false
    | some t => decide (t + 60 * 1000000000 * 65536 ≤ s.time.elapsed))

end Sys2Proof.Machine
end

