-- ==== Sys2Proof/Machine/Periods.lean ====
section
/-!
DEFINITION. The period boundaries of engine time (R20, R236): samples, heartbeats, codes, settling,
updates, read-backs, lanes and the modulators of each transit and hold period, and the trim boundary.
-/

namespace Sys2Proof.Machine

/-! ### The clock (R20, R236) -/

/-- The increment for f in units of 2^-32 ns (R228). -/
def State.timeInc (s : State) : Nat :=
  let num : Int := 2 ^ 33 * (65536000000000 + s.time.freqNow)
  let den : Int := 65536000000000
  let q := num / den
  let r := 2 * (num % den)
  (if r < den then q else if den < r then q + 1 else if q % 2 = 0 then q else q + 1).toNat

/-- The counter after the tick by which it reaches an instant: each tick of the 500 MHz clock adds the increment in
force (R225). -/
def State.tickTo (s : State) (t : Instant) : Nat :=
  let inc := s.timeInc
  s.time.ticks + (t * 65536 - s.time.ticks + inc - 1) / inc * inc

/-- Move engine time to the next transit boundary: the first at which a whole period has elapsed. -/
def advance (s : State) : State :=
  let b := s.nextBoundary
  let t := if s.time.elapsed + (b - s.now) < s.time.transitStart + transitUnits then b + transitUnits else b
  let el := s.time.elapsed + (t - s.now)
  { s with time := { s.time with
      count := t * 65536, ticks := s.tickTo t, elapsed := el, transitStart := el
      slackT := s.time.slackT + (el - s.time.transitStart - transitUnits) } }

/-- The frequency offset asked for is in force (R228). -/
def takeFreq (s : State) : State := { s with time := { s.time with freqNow := s.time.freqNext } }

/-- STOP takes effect at a transit boundary (R253). -/
def stopBeacons (s : State) : State :=
  { s with beacons := s.beacons.map fun p =>
    (p.1, if p.2.stopping then { p.2 with stopping := false, state := 0, next := none, fall := none, snapshot := none }
          else p.2) }

/-- The period that has ended was stretched by a step: the next update takes d = 0 (R236). -/
def dropRates (units : Nat) (was : Nat) (s : State) : State :=
  if s.time.elapsed ≤ was + units then s
  else { s with elems := s.elems.map fun p =>
    (p.1, if p.2.mode.runs && decide (s.atTransitRate p.1 = decide (units = transitUnits))
          then { p.2 with dropRate := true } else p.2) }

/-! ### Modulators (R189, R193, R199, R215) -/

/-- The modulator edges of the period that has just ended: the level that the deglitcher holds is the one
carried at its first edge. -/
def edges (m c n : Nat) (glitch : Bool) (h : Errs) : List Nat × Errs :=
  if glitch then
    let r := modEdge m c none h
    let t := modEdges m c ([some r.1, some r.1, some r.1] ++ List.replicate (n - 4) none) r.2
    (r.1 :: t.1, t.2)
  else modEdges m c (List.replicate n none) h

/-- One channel's edges. -/
def chanEdges (n : Nat) (glitch : Bool) (e : Nat) (s : State) : State :=
  let c := s.chan e
  let x := s.elem e
  if x.mode = .faulted ∨ s.ladder.state ≠ 2 then resetErrors e s
  else
    let r := edges c.top (s.driveCode e) n glitch ⟨c.e1, c.e2, c.e3⟩
    s.setChan e { c with e1 := r.2.e1, e2 := r.2.e2, e3 := r.2.e3, levels := r.1 }

/-- Channels whose modulator has anything to do. -/
def State.drivenChans (s : State) : List Nat :=
  sortNums (((s.elems.filter fun p => decide (p.2.code ≠ 0)).map fun p => p.1)
    ++ ((s.chans.filter fun p => decide (p.2.e1 ≠ 0 ∨ p.2.e2 ≠ 0 ∨ p.2.e3 ≠ 0 ∨ p.2.levels ≠ [])).map fun p => p.1))

/-- One AUX output's edges. -/
def auxEdges (n : Nat) (a : Nat) (s : State) : State :=
  let x := s.auxOut a
  if !x.driven then s
  else
    let r := edges 15 x.now n false ⟨x.e1, x.e2, x.e3⟩
    s.setAux a { x with e1 := r.2.e1, e2 := r.2.e2, e3 := r.2.e3, levels := r.1 }

/-- The modulators' edges of the transit period that began at elapsed instant `was`. -/
def runModulators (was : Nat) (s : State) : State :=
  let n := (s.time.elapsed - was) / 4096000
  let glitch := decide (s.ladder.deglitchAt = some was)
  forEach (auxEdges n) (numbers 0 16) (forEach (chanEdges n glitch) s.drivenChans s)

/-! ### Read-backs (R199 to R202, R216) -/

/-- A read-back of channel `e` is due in a hold period. -/
def Chan.due (c : Chan) (e holdNo : Nat) : Bool :=
  decide (holdNo % 64 = e % 64) || c.deferred || c.retake || c.readPending

/-- A SENSE run measures channel `e`: it takes the windows of the channel's rota, and no read-back is taken (R318). -/
def State.senseRun (s : State) (e : Nat) : Bool :=
  match s.cal.run with
  | none => false
  | some r => decide (r.type_ = 2 ∧ s.cal.state = 2) && !r.clear && decide (r.first ≤ e ∧ e < r.first + r.count)

/-- The calibrated voltages of levels that were output (R199): a channel that its modulator never drove, or that is forced
to level 0, output that level throughout (R203). -/
def State.levelVolts (s : State) (levels : List Nat) : List Int :=
  (if levels.isEmpty then [0] else levels).map fun q => s.ladder.levels.getD q 0

/-- The window of a read-back that the period begun at `was` held: taken, deferred or discarded. The transit value of
the window is a repeated one (R199). -/
def readWindow (was e : Nat) (s : State) : State :=
  let c := { s.chan e with repeatAt := some s.time.elapsed }
  if s.senseRun e then (if s.time.holdNo % 64 = e % 64 then s.setChan e c else s)
  else if !c.due e s.time.holdNo then s
  else if (s.elem e).mode = .transit then
    s.setChan e { s.chan e with
      deferred := true, readDeferred := if c.deferred then c.readDeferred else (c.readDeferred + 1) % 4294967296 }
  else
    let near : Bool := match s.ladder.replacedAt with
      | none => false
      | some t => decide (t ≤ was) && decide (was ≤ t + 4000 * 65536)
    if s.ladder.deglitchAt = some was ∨ near then s.setChan e { c with retake := true, deferred := false }
    else s.setChan e { c with window := some (s.levelVolts c.levels), deferred := false, retake := false }

/-- The same for an AUX output. -/
def auxWindow (a : Nat) (s : State) : State :=
  let x := s.auxOut a
  if x.driven ∧ (s.time.holdNo % 64 = a ∨ x.readPending) then s.setAux a { x with window := some x.levels } else s

/-- Windows lie 1.00 to 1.25 µs after a hold boundary. -/
def readWindows (was : Nat) (s : State) : State :=
  if was = s.time.holdStart + 1000 * 65536 then
    forEach auxWindow (numbers 0 16) (forEach (readWindow was) (numbers 0 elemCount) s)
  else s

/-- A mean as it is reported, to the nearest unit (log 77). -/
def meanOf (x : Int × Nat) : Int := roundDiv x.1 x.2

/-- What was measured of a numbered thing; what is expected where nothing else is reported. -/
def measured (l : List (Nat × Nat)) (e : Nat) (expect : Int) : Int :=
  match l.filter fun p => decide (p.1 = e) with
  | [] => expect
  | p :: _ => (p.2 % 65536 : Nat)

/-- A channel's read-back of the hold period that has ended. -/
def readBack (l : List (Nat × Nat)) (e : Nat) (s : State) : State :=
  let c := s.chan e
  match c.window with
  | none => s
  | some lv =>
    let ex : Int × Nat := (lv.sum, lv.length)
    let v := measured l e (meanOf ex)
    let bad := meanMismatch c.spanMv v ex.1 ex.2
    let s1 := s.setChan e { c with
      window := none, mismatch := bad, readV := intBits 16 v, readExp := intBits 16 (meanOf ex), readCount := (c.readCount + 1) % 4294967296
      readTime := nsInst (8000 * s.time.holdNo + 1000), readPending := bad && !c.readPending }
    if c.readPending ∧ !bad then { s1 with mismatchesCleared := (s1.mismatchesCleared + 1) % 4294967296 } else s1

/-- An AUX output's read-back. -/
def auxReadBack (l : List (Nat × Nat)) (a : Nat) (s : State) : State :=
  let x := s.auxOut a
  match x.window with
  | none => s
  | some lv =>
    if x.driven ∧ (s.time.holdNo % 64 = a ∨ x.readPending) then
      let ex := auxExpected x.config lv
      let v := measured l a (meanOf ex)
      let bad := meanMismatch (auxSpan x.config) v ex.1 ex.2
      s.setAux a { x with readback := intBits 16 v, mismatch := bad, readPending := bad && !x.readPending }
    else s

/-! ### AUX ramps (R215) -/

/-- An AUX output moves toward its value, at AUX_SLEW codes a microsecond in quarters. -/
def auxRamp (a : Nat) (s : State) : State :=
  let x := s.auxOut a
  if !x.driven then s
  else
    let goal := s.auxGoal a
    let slew := s.obj (0x5500 + a) 3
    let k := s.time.elapsed / transitUnits % 4
    let d := slew * (k + 1) / 4 - slew * k / 4
    let now := if slew = 0 then goal else if x.now < goal then min goal (x.now + d) else max goal (x.now - d)
    s.setAux a { x with now := now }

/-! ### Heartbeats and signatures (R284, R290 to R292, R298) -/

/-- The Anvil sends heartbeats: it is released from reset and has passed its self-test. -/
def AnvilSt.beats (a : AnvilSt) : Bool :=
  decide (a.state = .active) || decide (a.state = .standby) || decide (a.state = .resync)

/-- The count that the heartbeat of the period that has just ended carries: the periods of its kind since the counter
started, in the step-free sequence (R236, R283; log 36). -/
def State.beatCount (s : State) (transit : Bool) : Nat :=
  s.clock transit / (if transit then transitUnits else holdUnits)

/-- The heartbeat that an Anvil sends where no report names it: in order, while at least 5 hold lanes work (R154). -/
def State.ownBeat (s : State) (transit : Bool) (v : Anvil) : BeatReport :=
  { anvil := v, arrived := decide (5 ≤ (s.holdLanes v).length), count := s.beatCount transit, selfcheck := false, peerLoss := false }

/-- One Anvil's reports of the period that has ended: its heartbeat, LATE slots, implausible codes and signature. The other
Anvil's heartbeats `peer` are relayed to it: PEER_LOSS follows 2 periods without one (R284). -/
def takeBeat (l : List BeatReport) (transit : Bool) (peer : Nat) (v : Anvil) (s : State) : State :=
  let a := s.anvil v
  let b := ((l.filter fun b => decide (b.anvil = v)) ++ [s.ownBeat transit v]).headD (s.ownBeat transit v)
  let there := a.beats && b.arrived
  let a1 := { a with
    silent := if there then 0 else min 2 (a.silent + 1)
    missed := if !a.beats ∨ (b.arrived ∧ b.count = s.beatCount transit) then 0 else a.missed + 1
    implausible := a.implNow, implNow := 0, odd := a.oddNow, oddNow := [], lateNow := 0 }
  s.setAnvil v (if there
    then { a1 with selfcheck := b.selfcheck, peerLoss := b.peerLoss || decide (2 ≤ peer), lateSlots := a.lateNow } else a1)

/-- LINK_SUSPECT (R292): a PEER_LOSS while both heartbeats arrive. -/
def linkSuspect (s : State) : State :=
  let a := s.keeper.a
  let b := s.keeper.b
  if s.keeper.alive ∧ a.beats ∧ b.beats ∧ a.missed = 0 ∧ b.missed = 0 ∧ (a.peerLoss ∨ b.peerLoss) then
    raiseLimited 0x209 60000000000 0x209 [byte (bit a.peerLoss + 2 * bit b.peerLoss)]
      { s with keeper := { s.keeper with linkSuspect := true } }
  else s

/-- The active Anvil's codes of the period that has ended did not arrive (R285). -/
def State.codesMissing (s : State) : Bool :=
  match s.activeAnvil with
  | none => true
  | some v => decide ((s.anvil v).silent ≠ 0)

/-- The code that the active Anvil wrote last is one that the arbiter trusts (R293). -/
def State.trusted_ (s : State) : Bool :=
  match s.activeAnvil with
  | none => false
  | some v => decide ((s.anvil v).missed = 0) && !s.codesMissing

/-- Both Anvils compute live periods and have reported them. -/
def Keeper.bothLive (k : Keeper) : Bool :=
  k.a.live && k.b.live && decide (k.a.missed = 0) && decide (k.b.missed = 0)

/-- An Anvil reported a LATE slot in the period last reported. -/
def Keeper.anyLate (k : Keeper) : Bool := decide (k.a.lateSlots ≠ 0) || decide (k.b.lateSlots ≠ 0)

/-- The signatures of the period last reported are compared, unless a slot was LATE (R155, R291): they differ where the
two Anvils wrote different codes (log 48). What differs is decided on one period later (R293). -/
def compareSigns (s : State) : State :=
  let k := s.keeper
  let d : Option SignReport := if k.bothLive ∧ !k.anyLate ∧ k.a.odd ≠ k.b.odd ∧ k.alive
    then some ⟨k.a.implausible, k.b.implausible, k.a.selfcheck, k.b.selfcheck⟩ else none
  { s with
    lateSkips := if k.a.live ∧ k.b.live ∧ k.anyLate then (s.lateSkips + 1) % 4294967296 else s.lateSkips
    keeper := { k with
      unmatched := k.unmatched || !(k.bothLive && !k.anyLate && decide (k.a.odd = k.b.odd))
      verdict := if k.differ.isSome then k.differ else k.verdict, differ := d } }

/-- The reports of a period, taken once at a boundary. -/
def takeBeats (l : List BeatReport) (transit : Bool) (s : State) : State :=
  let a := s.keeper.a.silent
  let s1 := linkSuspect (takeBeat l transit a .b (takeBeat l transit s.keeper.b.silent .a s))
  let s2 := compareSigns { s1 with keeper := { s1.keeper with beatAt := s1.time.elapsed } }
  if s2.trusted_ ∧ s2.keeper.takeover.isNone then
    { s2 with keeper := { s2.keeper with lastGood := s2.time.elapsed } } else s2

/-- A hold boundary counts one more hold period of matching signatures, and one more that a restarted arbiter has checked
(R296, R305). -/
def countMatched (s : State) : State :=
  let k := s.keeper
  { s with keeper := { k with
      matched := if k.unmatched then 0 else k.matched + 1, unmatched := false
      checked := if k.alive then k.checked else k.checked + 1 } }

/-! ### Lanes (R149 to R151, R155) -/

/-- The nominal margin of a lane in percent, its deadline, and its first sense word's cycle. -/
def laneNominal (n : Nat) : Nat := if n < 128 then 19 else 29
def laneMargin (n completion : Nat) : Nat :=
  if n < 128 then 100 * (282 - completion) / 252 else 100 * (3150 - completion) / 3110

/-- A lane's period as it was reported. -/
def takeLane (r : LaneReport) (s : State) : State :=
  let l := s.lane r.anvil r.lane
  if !l.works then s
  else
    let ms := s.time.elapsed / (1000000 * 65536) + 1
    let late := !r.lateElems.isEmpty
    let m := if late then 0 else laneMargin r.lane r.completion
    let low := decide (r.lane < 128 ∧ 252 > 10 * (282 - r.completion)) || decide (128 ≤ r.lane ∧ 3110 > 10 * (3150 - r.completion)) || late
    let first := late && decide (l.lateAt ≠ some ms)
    let l1 := { l with
      margin := if l.leastAt = ms then l.margin else if l.leastAt + 1 = ms then l.least else laneNominal r.lane
      least := if l.leastAt = ms then min l.least m else min m (laneNominal r.lane)
      leastAt := ms, lowRun := if low then l.lowRun + 1 else 0
      lateCount := if late then (l.lateCount + 1) % 4294967296 else l.lateCount
      lateAt := if late then some ms else l.lateAt }
    let s1 := s.setLane r.anvil r.lane l1
    let s2 := s1.setAnvil r.anvil { s1.anvil r.anvil with lateNow := (s1.anvil r.anvil).lateNow + r.lateElems.length }
    if first then raiseEv 0x220 (lanePayload r.anvil r.lane 0) s2 else s2

/-- A working lane that no report names ran at its nominal margin: its run of low margins ends. -/
def laneClean (l : List LaneReport) (v : Anvil) (n : Nat) (s : State) : State :=
  if l.any fun r => decide (r.anvil = v ∧ r.lane = n) then s
  else
    let x := s.lane v n
    if x.lowRun = 0 then s else s.setLane v n { x with lowRun := 0 }

/-- The lanes of a rate in the period that begins now: transit lanes below 128, hold lanes from there. -/
def takeLanes (transit : Bool) (l : List LaneReport) (s : State) : State :=
  let mine := l.filter fun r => decide (r.lane < 128) == transit
  let ns := if transit then numbers 0 68 else numbers 128 8
  let s1 := forEach takeLane mine s
  forEach (laneClean mine .b) ns (forEach (laneClean mine .a) ns s1)

/-- The elements whose slots the active Anvil did not complete. -/
def State.lateOf (s : State) (transit : Bool) (l : List LaneReport) : List Nat :=
  match s.activeAnvil with
  | none => []
  | some v => (l.filter fun r => decide (r.anvil = v) && (decide (r.lane < 128) == transit)).flatMap fun r => r.lateElems

/-- An element whose slot was not completed repeats its code, its loop state untouched (R151). -/
def Elem.slotLate (x : Elem) : Elem :=
  { x with nextCode := x.code, plainCode := x.code, late := true, lateCount := (x.lateCount + 1) % 4294967296, dropRate := true }

/-! ### Codes and updates -/

/-- Apply the code computed for this boundary, or repeat the last one. -/
def Elem.applyCode (x : Elem) (repeat_ : Bool) : Elem :=
  if repeat_ then { x with nextCode := x.code } else { x with code := x.nextCode, onClear := x.onClear && x.late }

/-- The element was updated at transit rate in the period that ends (R120): in TRANSIT, and not on its fallback. -/
def Elem.ranTransit (x : Elem) : Bool := decide (x.mode = .transit) && !x.fallback

/-- The code that each element carries from a transit boundary: elements at hold rate keep theirs, unless
every channel drives its clear code. An element that has entered FAULTED shows it from here (R137). -/
def applyTransit (miss : Bool) (s : State) : State :=
  { s with elems := s.elems.map fun p =>
    let x := { p.2 with wasMode := none }
    (p.1, if x.mode.runs && !s.clearing then
            (if x.ranTransit then x.applyCode (miss || s.failStatic) else x)
          else { x with code := x.nextCode }) }

/-- One element's update in the period that begins now, unless its slot is late or its loop is frozen. -/
def runElem (bad : List (Anvil × Nat × Nat)) (late : List Nat) (transit : Bool) (v : Anvil) (e : Nat) (s : State) : State :=
  let x := s.elem e
  if late.contains e then s.setElem e x.slotLate
  else if x.frozen then s
  else updateNow bad v e (handIfWaiting transit e (s.setElem e { x with late := false }))

/-- The loops of a list of elements of one rate. -/
def runLoops (bad : List (Anvil × Nat × Nat)) (late : List Nat) (transit : Bool) (es : List Nat) (s : State) : State :=
  match s.activeAnvil with
  | none => s
  | some v =>
    if s.clearing ∨ s.failStatic ∨ (s.anvil v).silent ≠ 0 then s
    else forEach (runElem bad late transit v) es s

/-- The settle test of an element in TRANSIT (R134); at a settle, limits kept from before a change go. -/
def settleElem (e : Nat) (s : State) : State :=
  let x := s.elem e
  if x.mode ≠ .transit ∨ x.frozen ∨ s.failStatic then s
  else
    let r := s.settleTest e (s.loopClock e) x
    if r.1 then
      elemSettled e (s.setElem e { r.2 with
        settled := true, clamped := false, limits := [], lastSettle := s.now, lastSettleTarget := r.2.target })
    else s.setElem e r.2

/-- Thaw an element after FABRIC_CLEAR_N's release, with a hand-over from its clear code (R144). -/
def thaw (e : Nat) (s : State) : State :=
  let x := s.elem e
  if x.frozen ∧ !s.clearing then s.setElem e { x with frozen := false, rehand := some true, heldAt := none } else s

/-! ### TRANSIT_BOUNDARY -/

/-- The carrier is on from the load of the clear table, while Watch is powered (R203, R209). -/
def State.carrierOn (s : State) : Bool := s.power.watchOn && s.clear.loaded

/-- The transit value of the window that has ended, and the word that it gives: a read-back window repeats the value
before it, as does an element that nothing reports (R196, R199). -/
def takeValue (l : List (Nat × Nat)) (e : Nat) (s : State) : State :=
  let x := s.elem e
  let again := decide ((s.chan e).repeatAt = some s.time.elapsed)
  let new : Option Nat := match x.values, (l.filter fun p => decide (p.1 = e)) with
    | [], p :: _ => some p.2
    | [], [] => none
    | c :: _, p :: _ => some (if again then c else p.2)
    | c :: _, [] => some c
  match new with
  | none => s
  | some c =>
    s.setElem e { x with values := (c :: x.values).take 16, tWordPrev := x.tWord
                         tWord := some (s.time.elapsed, s.senseWord e [c] x.word) }

/-- The transit values of a boundary: an element in TRANSIT at transit rate takes its own as its sample. -/
def takeTransit (l : List (Nat × Nat)) (s : State) : State :=
  let known := (s.elems.filter fun p => !p.2.values.isEmpty).map fun p => p.1
  let new := ((l.map fun p => p.1).filter fun e => decide (e < elemCount)).filter fun e => !known.contains e
  let s1 := if s.carrierOn then forEach (takeValue l) (known ++ sortNums new) s else s
  forEach (fun e t =>
    let x := t.elem e
    if t.atTransitRate e then t.setElem e (t.sample e (x.nowSample t.time.elapsed) x) else t) s1.transitElems s1

/-- Elements that come back into TRANSIT: cleared faults once the lanes are ready, and those commanded while
FABRIC_CLEAR_N was asserted (R143, R144). -/
def comeBack (e : Nat) (s : State) : State :=
  let x := s.elem e
  if s.clearing ∨ s.failStatic ∨ (s.chan e).spanNext.isSome then s
  else if x.toTransit ∧ s.forge.lanesReady then
    let t := s.routeTarget s.active e
    enterTransit e t t (s.setElem e { x with toTransit := false })
  else if x.resume then enterTransit e x.target x.target (s.setElem e { x with frozen := false })
  else s

/-- An element whose transit lane serves again leaves its fallback (R145). -/
def leaveFallback (e : Nat) (s : State) : State :=
  let x := s.elem e
  if x.fallback ∧ !s.onFallback e then s.setElem e { x with fallback := false, rehand := some false }
  else if !x.fallback ∧ s.onFallback e then s.setElem e { x with fallback := true, rehand := some false }
  else s

/-- A step is deferred while batches or a schedule are active (R100, R234). -/
def State.stepBlocked (s : State) : Bool :=
  (s.batches.any fun b => b.pending || decide (b.state = .moving))
    || decide (s.sched.state = .armed ∨ s.sched.state = .running)

/-- A step that cannot be applied at this boundary is deferred, once with 0x102 (R234). -/
def noteDefer (s : State) : State :=
  match s.time.req with
  | none => s
  | some r =>
    if s.stepBlocked ∧ !s.time.forced ∧ !s.time.deferred then
      let o : Int := match r with
        | .step o => roundDiv o 65536
        | .load t => roundDiv ((s.now : Int) - t) 65536
      raiseEv 0x102 (leBytes 8 (intBits 64 o)) { s with time := { s.time with deferred := true, deferSince := s.time.elapsed } }
    else s

/-- The Watch side of a transit boundary; `was` is where the period that has ended began. -/
def transitWork (inp : PeriodInput) (was : Nat) (s : State) : State :=
  let s1 := readWindows was (runModulators was s)
  let s2 := if s1.anyTransit then takeBeats inp.beats true s1 else s1
  let s3 := applyTransit s2.codesMissing s2
  let s4 := forEach privateError inp.sramErrs (takeTransit inp.samples s3)
  let running := s4.transitElems.filter fun e => s4.atTransitRate e
  let s5 := forEach settleElem running s4
  let s6 := dropRates transitUnits was (forEach leaveFallback s5.transitElems (forEach thaw running s5))
  let s7 := if s6.forge.lanesReady then takeLanes true inp.lanes s6 else s6
  let es := s7.transitElems.filter fun e => s7.atTransitRate e
  let s8 := runLoops inp.badCodes (s7.lateOf true inp.lanes) true es s7
  let s9 := forEach comeBack ((s8.elems.filter fun p => p.2.toTransit || p.2.resume).map fun p => p.1) s8
  retryReroute (forEach auxRamp (numbers 0 16) s9)

/-! ### HOLD_BOUNDARY -/

/-- Hold samples: formed of every element in every mode, the mean of the transit values of the last 4 µs (R196). One at
transit rate does not take it as its sense word. -/
def takeHold (s : State) : State :=
  forEach (fun e t =>
    let x := t.elem e
    if x.values.isEmpty ∧ !x.mode.runs then t
    else
      let w := t.senseWord e x.values x.word
      let x1 := { x with holdWord := w }
      t.setElem e (if t.atTransitRate e then x1 else t.sample e w x1)) (s.elems.map fun p => p.1) s

/-- Carrier returns (R202): a low one below 25 % of the calibrated amplitude. -/
def takeCarriers (l : List (Nat × Nat)) (s : State) : State :=
  let s1 := { s with chans := s.chans.map fun p =>
    (p.1, if l.any fun q => decide (q.1 = p.1) then p.2 else { p.2 with openRun := 0 }) }
  forEach (fun p t =>
    let c := t.chan p.1
    if p.1 < elemCount then
      t.setChan p.1 { c with carrier := p.2 % 65536, openRun := if p.2 < 16384 then c.openRun + 1 else 0 } else t) l s1

/-- An element in TRIM that no path keeps there leaves it at this boundary: the code of the new mode has no dither. -/
def State.leavesTrim (s : State) (e : Nat) (x : Elem) : Bool :=
  decide (x.mode = .trim) && (s.trimmedThrough false e).isEmpty

/-- The codes that elements at hold rate carry from a hold boundary: one with a dither only in TRIM (R166). -/
def applyHold (miss : Bool) (s : State) : State :=
  { s with elems := s.elems.map fun p =>
    let plain := p.2.dithered && (s.leavesTrim p.1 p.2 || (decide (p.2.mode = .hold) && !s.trimsNow p.1))
    let x := { p.2 with nextCode := if plain then p.2.plainCode else p.2.nextCode, dithered := false }
    (p.1, if x.mode.runs && !s.clearing && !x.ranTransit then x.applyCode (miss || s.failStatic) else { p.2 with dithered := false }) }

/-- The element starts its loop at hold rate toward a target. -/
def enterHold (m : EMode) (target : Nat) (e : Nat) (s : State) : State :=
  s.setElem e { s.elem e with mode := m, nextMode := none, target := target, trajs := [], rehand := some false
                              onClear := (s.elem e).onClear || decide ((s.elem e).mode = .parked), settled := false, fallback := false, inTrimFor := 0 }

/-- The ELEM_MODE writes that are due at a hold boundary: the last of them is in force (R25, R28). -/
def Elem.takeAsks (x : Elem) (now : Nat) : Elem :=
  match x.modeAsks.filter fun p => decide (p.2 < now) with
  | [] => x
  | p :: _ => { x with nextMode := p.1, modeAsks := x.modeAsks.filter fun q => decide (now ≤ q.2) }

/-- The mode changes of a hold boundary (R137 to R139); none while loops are frozen (R144, R301). A channel whose span
change waits takes its new span before its element starts (R27). -/
def changeMode (e : Nat) (s : State) : State :=
  let x := (s.elem e).takeAsks s.time.elapsed
  let s := s.setElem e x
  let trim := decide (e < 9728) && !(s.trimmedThrough false e).isEmpty
  if s.clearing ∨ s.failStatic then s
  else match x.mode with
  | .transit =>
    if x.settled then s.setElem e { x with mode := if trim then .trim else .hold, trajs := [], rehand := some false, fallback := false, inTrimFor := 0 }
    else s
  | .faulted => s
  | .trim => if trim then s else s.setElem e { x with mode := .hold, rehand := some true, inTrimFor := 0 }
  | m =>
    match (if (s.chan e).spanNext.isNone then x.nextMode else none) with
    | none => s
    | some .hold => if m = .hold then s.setElem e { x with nextMode := none } else enterHold .hold (s.routeTarget s.active e) e s
    | some .manual =>
      s.setElem e { x with mode := .manual, nextMode := none, code := x.manualCode, nextCode := x.manualCode, trajs := [], rehand := none }
    | some _ =>
      s.setElem e { x with mode := .parked, nextMode := none, code := s.clearCode e, nextCode := s.clearCode e, trajs := [], rehand := none }

/-- Open-loop drives at a hold boundary: MANUAL and PARKED elements, and a span change (R139, R206, R211). DESIGN CHOICE:
the channel of a MANUAL element, which has no hand-over, returns to its code at the first hold boundary after the release
of FABRIC_CLEAR_N (R207; log 78). -/
def openDrive (e : Nat) (s : State) : State :=
  let x := s.elem e
  let c := s.chan e
  let s1 := if c.spanNext.isSome ∧ c.dwellAt.isNone ∧ x.mode = .parked
    then s.setChan e { c with dwellAt := some s.time.elapsed } else s
  let code := if (s1.chan e).dwellAt.isSome then 0
    else if s.clear.loaded then (if x.mode = .manual ∧ !s.clearing then x.manualCode else s1.clearCode e) else 0
  if x.mode = .parked ∨ x.mode = .manual then
    s1.setElem e { x with code := code, nextCode := code, onClear := decide (x.mode = .manual) && s.clearing }
  else s1

/-- A target that waits takes effect; one of ELEM_TARGET_SET is discarded once the element lies on a leg
(R130). -/
def takeTarget (e : Nat) (s : State) : State :=
  let x := s.elem e
  if x.targetPending.isEmpty ∨ s.clearing ∨ s.failStatic then s
  else if !x.mode.runs then s.setElem e { x with targetPending := [] }
  else
    let early (p : Nat × Option Nat) : Bool := match p.2 with | none => true | some t => decide (t < s.time.elapsed)
    let due := x.targetPending.filter early
    let l := if s.active.onLeg e then due.filter fun p => p.2.isNone else due
    let x1 := { x with targetPending := x.targetPending.filter fun p => !early p }
    match l with
    | [] => s.setElem e x1
    | (t, _) :: _ =>
      let x2 := s.retarget e t (s.loopClock e) (s.atTransitRate e) x1
      s.setElem e (if x2.target = x1.target then x2 else { x2 with settled := false, winRun := 0, reachedAt := none })

/-- New limits come into force where the reference is at rest (R133). -/
def takeLimits (e : Nat) (s : State) : State :=
  let x := s.elem e
  if x.limits.isEmpty ∨ !x.atRest (s.loopClock e) then s else s.setElem e { x with limits := [] }

/-- The next hold boundary starts TRIMMING a leg through an element in HOLD: its code for that boundary
already carries the dither (R166). -/
def State.trimsNext (s : State) (e : Nat) : Bool :=
  decide ((s.elem e).mode = .hold) && decide ((s.time.holdNo + 1) % 16 = 0)
    && (s.active.legsThrough e).any fun p =>
      decide ((s.leg p.1).trim = .settling) && decide ((s.leg p.1).settlingAt + 120000 * 65536 ≤ s.time.elapsed)
        && decide (e < 9728)

/-- The update of an element that enters TRIM at the next boundary: a hand-over, with its first dither. -/
def runIntoTrim (bad : List (Anvil × Nat × Nat)) (v : Anvil) (e : Nat) (s : State) : State :=
  let s1 := handIfWaiting false e (s.setElem e { s.elem e with late := false, rehand := some true })
  let r := s1.update e false (s.clock false + holdUnits) (s1.dither e (s.time.holdNo + 1) s.ampNext) (s1.loopSt e)
  let s2 := selectCode bad v e r.1 (s1.putLoop e r.2)
  s2.setElem e { s2.elem e with
    plainCode := (s1.update e false (s.clock false + holdUnits) 0 (s1.loopSt e)).1, dithered := true }

/-- The failover hand-over of elements at hold rate (R294). -/
def handFailover (es : List Nat) (s : State) : State :=
  if s.keeper.handHold then
    forEach (fun e t => t.putLoop e (t.handOverKeep e false (t.clock false + holdUnits) (t.loopSt e))) es
      { s with keeper := { s.keeper with handHold := false } }
  else s

/-- The loops at hold rate in the period that begins now. -/
def runHold (inp : PeriodInput) (s : State) : State :=
  let es := s.runningElems.filter fun e => !s.atTransitRate e
  match s.activeAnvil with
  | none => s
  | some v =>
    if s.clearing ∨ s.failStatic ∨ (s.anvil v).silent ≠ 0 then s
    else
      let late := s.lateOf false inp.lanes
      let s1 := handFailover es s
      forEach (fun e t =>
        if t.trimsNext e ∧ !late.contains e then runIntoTrim inp.badCodes v e t
        else runElem inp.badCodes late false v e t) es s1

/-- The hold period that has ended counts for an element in TRIM. -/
def countTrim (s : State) : State :=
  { s with elems := s.elems.map fun p =>
    (p.1, if p.2.mode = .trim then { p.2 with inTrimFor := p.2.inTrimFor + 1 } else p.2) }

/-- AUX values come into force: at a hold boundary later than the write, or with a new range (R214, R215). -/
def takeAux (a : Nat) (s : State) : State :=
  let x := s.auxOut a
  if x.changing ∨ x.state = .dwell then s
  else match x.valueNext.filter fun p => decide (p.2 < s.time.elapsed) with
    | [] => s
    | p :: _ => auxJump a (s.setAux a { x with
        value := p.1, valueNext := x.valueNext.filter (fun q => decide (s.time.elapsed ≤ q.2)), atClear := false })

/-- The Watch side of a hold boundary. -/
def holdWork (inp : PeriodInput) (stretched : Bool) (slot was : Nat) (s : State) : State :=
  let s1 := if s.keeper.beatAt = s.time.elapsed then s else takeBeats inp.beats false s
  let miss := s1.codesMissing
  let ok := !stretched && !s1.keeper.repeated && !s1.clearing && !s1.failStatic
  let c := countMatched s1
  let s2 := { c with keeper := { c.keeper with repeated := miss } }
  let s3 := issueSlot slot (measureHold ok (countTrim s2))
  let s4 := takeHold (applyHold miss s3)
  let s5 := takeCarriers (if s4.carrierOn then inp.carriers else []) (forEach privateError inp.sramErrs s4)
  let fall := s5.transitElems.filter fun e => !s5.atTransitRate e
  let s6 := forEach settleElem fall s5
  let s7 := forEach changeMode (s6.elems.map fun p => p.1) s6
  let s8 := forEach (fun e t => takeLimits e (takeTarget e (openDrive e t))) (numbers 0 elemCount) s7
  let run := s8.runningElems.filter fun e => !s8.atTransitRate e
  let s9 := takeLanes false inp.lanes (dropRates holdUnits was (forEach thaw run s8))
  let s10 := runHold inp s9
  let s11 := forEach takeAux (numbers 0 16) s10
  swapIfAsked (resyncStart .b (resyncStart .a s11))

/-- The next hold period begins (R236); a part of the last one beyond 10 µs is slack. -/
def nextHold (s : State) : State :=
  { s with time := { s.time with
      holdStart := s.time.elapsed, holdNo := s.now / holdUnits
      slackH := s.time.slackH + (s.time.elapsed - s.time.holdStart - holdUnits) } }

/-- The work of the Watch at a hold boundary: the read-backs of the period that has ended, and what the new one begins. -/
def watchHold (inp : PeriodInput) (s : State) : State :=
  let was := s.time.holdStart
  let s1 := forEach (auxReadBack inp.auxReadbacks) (numbers 0 16)
    (forEach (readBack inp.readbacks) (numbers 0 elemCount) s)
  holdWork inp (decide (was + holdUnits < s.time.elapsed)) (s.time.holdNo % 16) was (nextHold s1)

/-- TRIM_BOUNDARY (R20). -/
def execTrimBoundary (s : State) : Outcome :=
  .next (if !s.trimDue then s
  else
    let s1 := { s with time := { s.time with trimStart := s.time.elapsed, trimNo := s.now / trimUnits } }
    if s1.power.watchOn then trimStep s1 else s1)

end Sys2Proof.Machine
end

