-- ==== Sys2Proof/Machine/Clock.lean ====
section
/-!
DEFINITION. The time block: the counter and its reads (R224 to R227), the servo (R228 to R232), steps
and loads (R233 to R237), time quality (R238), PPS_IN, REFCLK_IN and the calendar (R244 to R247).
-/

namespace Sys2Proof.Machine

/-! ### The reference and time quality (R229, R238, R241) -/

/-- TIME_CTRL's fields. -/
def State.servoEn (s : State) : Bool := (s.reg 0x300010).testBit 0
def State.servoSrc (s : State) : Nat := field (s.reg 0x300010) 1 2

/-- The reference that SERVO_SRC and the selection name: 0 none, 1 MGT0, 2 MGT1, 3 PPS_IN. -/
def State.wantedRef (s : State) : Nat :=
  if !s.servoEn then 0
  else if s.servoSrc = 1 then (match s.ptpSel.selected with | none => 0 | some p => p + 1)
  else if s.servoSrc = 2 then 3 else 0

/-- SRC_ACTIVE: the reference whose offsets the servo takes. -/
def State.srcActive (s : State) : Nat := if s.wantedRef = 0 then 0 else s.time.ref

/-- The UTC flags of TIME_UTC and of the records: VALID, LEAP61, LEAP59. -/
def State.utcFlags (s : State) : Nat := bit s.time.utcValid + 2 * bit s.time.leap61 + 4 * bit s.time.leap59

/-- The eight octets of a clock identity, the first the most significant in R241's comparison. -/
def gmBytes (gm : Nat) : List Byte := (leBytes 8 gm).reverse

/-- The grandmaster of the selected port, 0 where none is selected. -/
def State.gmNow (s : State) : Nat := if s.ptpSel.selected.isSome then s.ptpSel.gm else 0

/-- A TIME_QUALITY record's payload (R261). -/
def State.qualityRecord (s : State) (old new cause : Nat) : List Byte :=
  [byte old, byte new, byte cause, byte (if s.srcActive = 0 then 0xFF else s.srcActive - 1)]
    ++ gmBytes s.gmNow ++ leBytes 2 (intBits 16 s.time.utcOffset) ++ [byte s.utcFlags]

/-- A change of quality: 0x100 and its audit record (R238). -/
def qualityChange (new : Quality) (cause : Nat) (s : State) : State :=
  let p := s.qualityRecord s.quality new.code cause
  let s1 := { s with time := { s.time with quality := new } }
  audit 0x0C p (raiseEv 0x100 (p.take 4) s1)

/-- A time-quality record alone, its code unchanged (R227, R242). -/
def qualityNote (cause : Nat) (s : State) : State := audit 0x0C (s.qualityRecord s.quality s.quality cause) s

/-- A LOCKED quality falls to HOLDOVER. -/
def unlock (cause : Nat) (s : State) : State :=
  let s1 := { s with time := { s.time with locked := false, goodRun := 0, badRun := 0 } }
  if s.time.quality = .locked then qualityChange .holdover cause s1 else s1

/-! ### Frequency (R228, R230) -/

/-- TIME_FREQ_LIMIT in units of 2^-16 ppb. -/
def State.freqLimit (s : State) : Int := (s.reg 0x30003C : Nat) * 65536

/-- A binary64 frequency in ppb as units of 2^-16 ppb. -/
def freqUnits (f : F64) : Int := f64RoundInt (f64Mul f (f64OfInt 1 16))

/-- The f that the servo or TIME_FREQ_SET asks for, in force from the next transit boundary (R228). -/
def retune (s : State) : State :=
  let want := if s.servoEn then freqUnits s.time.freqF else bitsInt 32 (s.reg 0x300028)
  let f := clampInt (-s.freqLimit) s.freqLimit want
  let lim := decide (f = s.freqLimit) || decide (f = -s.freqLimit)
  let s1 := { s with time := { s.time with freqNext := f, atLimit := lim } }
  if lim ∧ !s.time.atLimit ∧ !s.time.atLimitRaised then
    raiseEv 0x10C (leBytes 4 (intBits 32 f)) { s1 with time := { s1.time with atLimitRaised := true } }
  else s1

/-- The holdover frequency in ppb: before the first lock, the f in force. -/
def State.holdF (s : State) : F64 :=
  if s.time.everLocked then f64OfInt s.time.holdFreq (-16) else f64OfInt s.time.freqNow (-16)

/-- f becomes the holdover frequency. -/
def freqToHold (s : State) : State := retune { s with time := { s.time with freqF := s.holdF } }

/-- The reference is lost (R232). -/
def loseRef (s : State) : State :=
  freqToHold (unlock 3 { s with time := { s.time with refPresent := false, goodRun := 0, badRun := 0 } })

/-- A change of TIME_CTRL, of the frequency settings or of the selection reaches the servo (R229 to R232,
R245). -/
def servoChanged (oldCtrl : Nat) (s : State) : State :=
  let c := s.reg 0x300010
  let started := c.testBit 0 && !oldCtrl.testBit 0
  let src := decide (field c 1 2 ≠ field oldCtrl 1 2)
  let s1 := if started then { s with time := { s.time with freqF := s.holdF, noDt := true } }
    else if src then { s with time := { s.time with noDt := true } } else s
  let s2 := if field c 3 2 = field oldCtrl 3 2 then s1
    else { s1 with time := { s1.time with clkActive := if field c 3 2 = 0 then 0 else 1 } }
  if s2.wantedRef = 0 then (if s2.time.refPresent ∨ s2.time.locked ∨ !s2.servoEn then loseRef s2 else retune s2) else retune s2

/-! ### Offsets (R229 to R231) -/

/-- Nanoseconds of a signed time, saturating in 32 bits. -/
def satNs (o : Int) : Int := clampInt (-2147483648) 2147483647 (roundDiv o 65536)

/-- The magnitude of an offset exceeds a threshold register, in ns. -/
def State.over (s : State) (o : Int) (reg : Nat) : Bool := decide ((s.reg reg : Nat) * 65536 < o.natAbs)

/-- A step is requested (R230, R231, R233). -/
def requestStep (o : Int) (s : State) : State :=
  freqToHold (unlock 2 { s with time := { s.time with
    req := some (.step o), reqAt := s.time.elapsed, deferred := false, forced := false } })

/-- The servo's law for an offset with its dt, in binary64 (R230). -/
def servoLaw (o : Int) (dt : Nat) (s : State) : State :=
  let kp := f64OfF32 (f32Bits (s.reg 0x300034))
  let ki := f64OfF32 (f32Bits (s.reg 0x300038))
  let lim := f64OfInt (s.reg 0x30003C)
  let o64 := f64OfInt o (-16)
  let sec := f64Div (f64OfInt dt (-16)) (f64OfInt 1000000000)
  let integ := f64Clamp (f64Neg lim) lim (f64Sub s.time.integ (f64Div (f64Mul ki o64) sec))
  let f := f64Clamp (f64Neg lim) lim (f64Sub integ (f64Div (f64Mul kp o64) sec))
  retune { s with time := { s.time with
    integ := integ, freqF := f, recentF := (freqUnits f :: s.time.recentF).take 64 } }

/-- TIME_HOLD_FREQ while the servo is locked: the mean of f over the last 64 offsets used (R231). -/
def holdMean (s : State) : State :=
  if s.time.locked ∧ s.time.recentF ≠ [] then
    { s with time := { s.time with holdFreq := roundDiv s.time.recentF.sum s.time.recentF.length } }
  else s

/-- An offset counts toward lock and unlock (R231). -/
def countLock (o : Int) (s : State) : State :=
  let t := s.time
  let good := if s.over o 0x300044 then 0 else t.goodRun + 1
  let bad := if s.over o 0x300048 then t.badRun + 1 else 0
  let s1 := { s with time := { t with goodRun := good, badRun := bad } }
  if !t.locked ∧ s.reg 0x30004C ≤ good then
    let s2 := { s1 with time := { s1.time with locked := true, everLocked := true, badRun := 0, atLimitRaised := false } }
    qualityChange .locked 0 s2
  else if t.locked ∧ 4 ≤ bad then unlock 1 s1
  else s1

/-- The first offset from a new reference (R230, R242). -/
def newRef (src : Nat) (s : State) : State :=
  if s.time.ref = src then s
  else qualityNote 4 { s with time := { s.time with ref := src, noDt := true } }

/-- The servo receives an offset of `o` units of 2^-16 ns from reference `src`. -/
def takeOffset (src : Nat) (o : Int) (s : State) : State :=
  if s.wantedRef ≠ src then s
  else
    let s0 := newRef src s
    let s1 := { s0 with time := { s0.time with refPresent := true, offsetLast := satNs o } }
    match s1.time.req with
    | some (.step _) => { s1 with time := { s1.time with req := some (.step o) } }
    | req =>
      if s1.time.discardNext then
        { s1 with time := { s1.time with discardNext := false, noDt := false, lastUsed := s1.time.elapsed } }
      else if s1.over o 0x300040 then
        -- a load that waits stays the request (log 77)
        (if req.isNone then requestStep o s1 else freqToHold (unlock 2 s1))
      else
        let dt := s1.time.elapsed - s1.time.lastUsed
        let first := s1.time.noDt || decide (dt = 0)
        let s2 := { s1 with time := { s1.time with noDt := false, lastUsed := s1.time.elapsed } }
        holdMean (countLock o (if first then s2 else servoLaw o dt s2))

/-! ### Steps and loads (R233 to R237) -/

/-- A batch pending at a forced step from instant `old`: a T_COMMIT that the step carries into the past is judged at the
instant of the step (R97, R100). One that becomes late commits at the next boundary, as does one whose instant had come
before the step or an IMMEDIATE one, each behind those ahead of it (stepBatches). -/
def stepBatch (old : Instant) (b : Batch) (s : State) : State :=
  if b.state ≠ .pending then s
  else if b.mode ≠ 1 ∨ b.late then s.putBatch { b with t0 := s.nextBoundary }
  else if s.now < b.t0 then s
  else if b.tReq ≤ old then s.putBatch { b with t0 := s.nextBoundary }
  else if b.allowLate then s.putBatch { b with late := true, t0 := s.nextBoundary }
  else failBatch b stLate s

/-- The pending batches at a forced step, in commit order: those ahead of a failed one keep their plans, those behind
are planned again (R86). -/
def stepBatches (old : Instant) (s : State) : State :=
  let order := s.pendingBatches
  let s1 := forEach (stepBatch old) order s
  let left := order.filterMap fun b => s1.batch b.id
  replanStale (match left with | [] => s1 | b :: rest => stagger b.t0 s1 rest)

/-- The start of a beacon's grid. -/
def BeaconCfg.start (c : BeaconCfg) : Instant := c.sec * 65536000000000 + c.ns * 65536

/-- The first point at or after an instant of a grid with a start and a period in ns (R252). -/
def gridPoint (start : Instant) (period : Nat) (t : Instant) : Instant :=
  if t ≤ start then start
  else
    let p := period * 65536
    start + (t - start + p - 1) / p * p

/-- Beacon `j`. -/
def State.beacon (s : State) (j : Nat) : Beacon := mapGet s.beacons j {}

/-- Replace beacon `j`. -/
def State.setBeacon (s : State) (j : Nat) (v : Beacon) : State :=
  { s with beacons := mapSet s.beacons j v {} }

/-- 2 µs. -/
def beaconLead : Nat := 2000 * 65536

/-- A ONE_SHOT beacon whose start comes too soon does not fire (R253). -/
def beaconLate (j : Nat) (s : State) : State :=
  let b := s.beacon j
  raiseEv (0x118 + j) [] (s.setBeacon j { b with late := true, state := 0, next := none, fall := none, snapshot := none })

/-- An ARM that waits at a step or load is judged in the new time. -/
def stepArmed (j : Nat) (s : State) : State :=
  let b := s.beacon j
  match b.snapshot with
  | none => s
  | some (c, _) => if c.mode = 1 ∧ c.start < s.now then beaconLate j s
      else s.setBeacon j { b with snapshot := some (c, s.now) }

/-- A beacon that runs at a step or load (R254): its output goes inactive, and its grid is found again. -/
def stepRunning (j : Nat) (s : State) : State :=
  let b := s.beacon j
  if b.state = 0 then s
  else if b.active.mode = 2 then
    s.setBeacon j { b with fall := none, next := some (gridPoint b.active.start b.active.period (s.now + beaconLead)), realign := true }
  else if b.next.isNone then s.setBeacon j { b with fall := none, state := 0 }
  else if b.active.start < s.now then beaconLate j s
  else s.setBeacon j { b with fall := none }

/-- A beacon at a step or load (R254). -/
def stepBeacon (j : Nat) (s : State) : State := stepArmed j (stepRunning j s)

/-- The cycle of a gate list, in ns (R431). -/
def GateList.cycle (l : GateList) : Nat := (l.entries.map fun e => e.2).sum

/-- The instant at which a gate list takes effect or realigns: its base or the first later grid point that is
at least 50 µs after an instant (R433, R434). -/
def GateList.startAfter (l : GateList) (t : Instant) : Instant :=
  gridPoint l.base l.cycle (t + 50000 * 65536)

/-- Egress gates at a step or load: the states in force are held until the list realigns, and a committed
list that the step leaves less than 50 µs away waits for a later grid point (R434; log 61). -/
def stepGate (g : Gate) (now : Instant) : Gate :=
  let g1 := match g.committed with
    | none => g
    | some l => if g.changeAt = 0 ∨ now + 50000 * 65536 ≤ g.changeAt then g else { g with changeAt := l.startAfter now }
  match g1.active with
  | none => g1
  | some l => { g1 with held := true, entryEnd := l.startAfter now }

/-- The instant that a waiting request makes of this one, and its o. -/
def TimeReq.target (now : Instant) : TimeReq → Instant × Int
  | .step o => (((now : Int) - o).toNat, o)
  | .load t => (t, (now : Int) - t)

/-- The quality after a step or load, reported with its cause (R238). -/
def stepQuality (load : Bool) (s : State) : State :=
  if load then qualityChange .freerun 6 { s with time := { s.time with locked := false, goodRun := 0, badRun := 0 } }
  else match s.time.quality with
    | .calendarSeeded => qualityChange .freerun 8 s
    | .holdover => qualityChange .holdover 8 s
    | _ => s

/-- Apply a step or load at this transit boundary of the old time. -/
def applyStep (r : TimeReq) (s : State) : State :=
  let old := s.now
  let tgt := r.target old
  let load : Bool := match r with | .step _ => false | .load _ => true
  let forced := s.time.forced
  let before := s.quality
  let s1 := { s with time := { s.time with
    count := tgt.1 * 65536, ticks := tgt.1 * 65536 + (s.time.ticks - s.time.count), req := none, deferred := false, forced := false, discardNext := true
    stepCount := (s.time.stepCount + 1) % 4294967296, lastStep := satNs (-tgt.2) } }
  let s2 := stepQuality load s1
  let o8 := leBytes 8 (intBits 64 (roundDiv tgt.2 65536))
  let s3 := raiseEv 0x101 o8 s2
  let s4 := if forced then raiseEv 0x103 o8 s3 else s3
  let s5 := audit 0x0D (time96Bytes old ++ o8 ++ [byte before, byte s4.quality, byte (if load then 2 else bit forced)]) s4
  let s7 := schedRealign (stepBatches old s5)
  let s8 := forEach stepBeacon (numbers 0 8) s7
  { s8 with gate0 := stepGate s8.gate0 s8.now, gate1 := stepGate s8.gate1 s8.now }

/-- A loaded time stands in the active TIME_SET registers (R24). -/
def loadSet (t : Instant) (s : State) : State :=
  let sec := t / 65536000000000
  ((s.setReg 0x300014 (sec % 4294967296)).setReg 0x300018 (sec / 4294967296 + t % 65536 * 65536)).setReg 0x30001C
    (t / 65536 % 1000000000)

/-- A waiting step or load that may be applied now: at a transit boundary after it was asked for, or forced (R234). -/
def State.reqDue (s : State) : Bool :=
  s.time.running && s.atTransit && decide (s.time.reqAt < s.time.elapsed) && (!s.stepBlocked || s.time.forced)

/-- TIME_STEP_APPLY (R233 to R237). -/
def execTimeStepApply (s : State) : Outcome :=
  .next (match s.time.req with
    | none => s
    | some (.step o) => if s.reqDue then applyStep (.step o) s else s
    | some (.load t) => if s.reqDue then applyStep (.load t) (loadSet t s) else s)

/-- STEP_DEFER_TIMEOUT (R234). -/
def execStepDeferTimeout (s : State) : Outcome :=
  .next (if s.time.req.isSome ∧ s.time.deferred ∧ s.reg 0x300050 ≠ 0
        ∧ s.time.deferSince + s.reg 0x300050 * 65536000000000 ≤ s.time.elapsed then
    makeForced s else s)

/-- TIME_FORCE (R234): a waiting step or load becomes forced. -/
def forceStep (s : State) : State := if s.time.req.isSome then makeForced s else s

def execTimeForce (_w : Writer) (s : State) : Outcome := .next (forceStep s)

/-- The time that the shadow TIME_SET registers spell (R235). -/
def State.setTime (s : State) : Instant :=
  (s.shadowReg 0x300014 + s.shadowReg 0x300018 % 65536 * 4294967296) * 65536000000000
    + s.shadowReg 0x30001C * 65536 + s.shadowReg 0x300018 / 65536

/-- TIME_LOAD (R235): the shadow is committed and waits as a step does. A load takes the place of a step or load that waits,
and its deferral and force begin afresh (DESIGN CHOICE, log 77). -/
def loadTime (s : State) : State :=
  { s with time := { s.time with
    req := some (.load s.setTime), reqAt := s.time.elapsed, deferred := false, forced := false } }

def execTimeLoad (_w : Writer) (s : State) : Outcome := .next (if s.time.running then loadTime s else s)

/-! ### Start, reads, calendar (R225, R226, R246, R247) -/

/-- The calendar's reading (R246): the value last written, counted on in units of 2^-15 s by a crystal of ±20 ppm. -/
def State.calendarNow (s : State) : Instant :=
  let d := s.time.elapsed - s.time.calLastWrite
  let run := ((d : Int) * (1000000000 + clampInt (-20000) 20000 (Config.calDrift d))) / 1000000000
  s.time.calValue + run.toNat / 2000000000 * 2000000000

/-- The number of a link's latch (R226). -/
def linkNo : Link → Nat
  | .bar0 => 0
  | .spi => 1
  | .internal => 2
  | .mailbox r => 3 + 2 * r
  | .mgt p => 4 + 2 * p

/-- A PCIe mailbox ring. -/
def isMailbox : Link → Bool
  | .mailbox _ => true
  | _ => false

/-- The latch of a link. -/
def State.latch (s : State) (l : Link) : Latch := mapGet s.time.latches (linkNo l) {}

/-- TIME_NOW_NS_READ (R226): the nanoseconds, and the seconds and fraction latched for the link. -/
def readNow (l : Link) (t : Instant) (s : State) : State :=
  let s1 := { s with time := { s.time with
    latches := mapSet s.time.latches (linkNo l) ⟨t / 65536000000000, t % 65536⟩ {} } }
  let ns := t / 65536 % 1000000000
  { s1 with out := ⟨ns, 0, leBytes 4 ns⟩ }

def execTimeNowNsRead (l : Link) (at_ : Instant) (s : State) : Outcome :=
  .next (if !s.power.vaux then s else readNow l (if s.now ≤ at_ ∧ at_ < s.nextBoundary then at_ else s.time.ticks / 65536) s)

/-- CAL_WRITE (R246): the calendar is to be written. -/
def wantCalendar (s : State) : State := { s with time := { s.time with calWritePending := true } }

def execCalWrite (_w : Writer) (s : State) : Outcome := .next (if s.power.vaux then wantCalendar s else s)

/-- CALENDAR_WRITE (R246): at a second boundary, asked for or 60 s after the last while LOCKED. -/
def execCalendarWrite (s : State) : Outcome :=
  .next (if s.time.running ∧ s.atTransit ∧ s.now % 65536000000000 = 0
      ∧ (s.time.calWritePending ∨ (s.time.quality = .locked
          ∧ (!s.time.calValid ∨ s.time.calLastWrite + 60 * 65536000000000 ≤ s.time.elapsed))) then
    { s with time := { s.time with
      calValid := true, calValue := s.now, calLastWrite := s.time.elapsed
      calWritePending := false } }
  else s)

/-! ### PPS_IN, REFCLK_IN and UTC (R227, R232, R244, R245) -/

/-- PPS_IN_EDGE (R244): an edge at least 0.5 s after the last recognised one gives an offset. -/
def execPpsInEdge (stamp : Instant) (s : State) : Outcome :=
  .next (
    let early : Bool := match s.time.ppsLast with
      | none => false
      | some t => decide (s.time.elapsed < t + 500000000 * 65536)
    if !s.time.running ∨ early then s
    else
      let s1 := { s with time := { s.time with ppsLast := some s.time.elapsed } }
      let sec : Int := 65536000000000
      let raw : Int := ((stamp : Int) - bitsInt 32 (s.reg 0x300054) * 65536) % sec
      let o := if raw < 500000000 * 65536 then raw else raw - sec
      takeOffset 3 o s1)

/-- PPS_LOST (R232): no edge has been recognised for 1.5 s. -/
def execPpsLost (s : State) : Outcome :=
  .next (
    let late : Bool := match s.time.ppsLast with
      | none => true
      | some t => decide (t + 1500000000 * 65536 ≤ s.time.elapsed)
    if s.wantedRef = 3 ∧ late ∧ s.time.refPresent then raiseEv 0x109 [] (loseRef s) else s)

/-- REFCLK_LOST (R245). -/
def execRefclkLost (s : State) : Outcome :=
  .next (if s.time.clkActive = 1 then raiseEv 0x107 [] { s with time := { s.time with clkActive := 0 } } else s)

/-- REFCLK_RESTORED (R245). -/
def execRefclkRestored (s : State) : Outcome :=
  .next (if field (s.reg 0x300010) 3 2 ≠ 0 ∧ s.time.clkActive = 0 then
    raiseEv 0x108 [] { s with time := { s.time with clkActive := 1 } } else s)

/-- The UTC offset after the leap second that the flags announce. -/
def TimeSt.leapOffset (t : TimeSt) : Int := t.utcOffset + (if t.leap61 then 1 else -1)

/-- The UTC day of the leap second ends now: midnight by the offset that follows it. -/
def State.dayEnds (s : State) : Bool :=
  s.time.running && s.atTransit
    && decide (((s.now : Int) - s.time.leapOffset * 65536000000000) % (86400 * 65536000000000) = 0)

/-- UTC_OFFSET_CHANGE (R227): a leap second falls at the end of the UTC day. -/
def execUtcOffsetChange (s : State) : Outcome :=
  .next (if s.time.leap61 = s.time.leap59 ∨ !s.dayEnds then s
  else
    let o := s.time.leapOffset
    let s1 := { s with time := { s.time with utcOffset := o, leap61 := false, leap59 := false } }
    qualityNote 5 (raiseEv 0x10A (leBytes 2 (intBits 16 o)) s1))

end Sys2Proof.Machine
end

