-- ==== Sys2Proof/Machine/Capture.lean ====
section
/-!
DEFINITION. Capture inputs (R248, R249) and beacons (R252 to R254).
-/

namespace Sys2Proof.Machine

/-! ### Captures -/

/-- Capture input `i`. -/
def State.capture_ (s : State) (i : Nat) : Capture := mapGet s.caps i {}

/-- Replace capture input `i`. -/
def State.setCapture (s : State) (i : Nat) (v : Capture) : State := { s with caps := mapSet s.caps i v {} }

/-- The input captures an edge: EN, and EDGE 1 rising, 2 falling, 3 both. -/
def State.captures (s : State) (i : Nat) (rising : Bool) : Bool :=
  let c := s.reg (0x300100 + 0x20 * i)
  c.testBit 0 && (if rising then c.testBit 1 else c.testBit 2)

/-- TS_IN_EDGE (R248, R249): the stamp has a resolution of 250 ps. -/
def execTsInEdge (i : Nat) (rising : Bool) (stamp : Instant) (s : State) : Outcome :=
  .next (if 8 ≤ i ∨ !s.power.vaux ∨ !s.time.running ∨ !s.captures i rising then s
  else
    let x := s.capture_ i
    let t := stamp / 16384 * 16384
    let close : Bool := match x.last with
      | none => false
      | some l => decide (l ≤ t) && decide (t < l + 8 * 65536)
    if close then s.setCapture i { x with missed := min (x.missed + 1) 255 }
    else if x.fifo.length < 16 then s.setCapture i { x with fifo := x.fifo ++ [(t, rising)], last := some t }
    else
      let n := min (x.ovf + 1) 0xFFFF
      let s1 := s.setCapture i { x with ovf := n, overflow := true }
      if x.overflow then s1 else raiseEv (0x110 + i) (leBytes 4 n) s1)

/-- TIME_CAP_NS_READ (R248): the oldest entry is popped and latched. -/
def readCapture (i : Nat) (s : State) : State :=
  let x := s.capture_ i
  match x.fifo with
  | [] => { s with out := ⟨0xFFFFFFFF, 0, leBytes 4 0xFFFFFFFF⟩ }
  | e :: rest =>
    let ns := e.1 / 65536 % 1000000000
    { s.setCapture i { x with fifo := rest, latched := some e } with out := ⟨ns, 0, leBytes 4 ns⟩ }

def execTimeCapNsRead (i : Nat) (s : State) : Outcome := .next (if i < 8 ∧ s.power.vaux then readCapture i s else s)

/-! ### Beacons -/

/-- The shadow settings of beacon `j`. -/
def State.beaconShadow (s : State) (j : Nat) : BeaconCfg :=
  let r (o : Nat) : Nat := s.shadowReg (0x300200 + 0x20 * j + o)
  { mode := r 0 % 4, polarity := (r 0).testBit 2
    sec := r 8 + r 0xC % 65536 * 4294967296, ns := r 0x10
    period := r 0x14 + r 0x18 % 256 * 4294967296, width := r 0x1C }

/-- The settings keep the limits of R252. -/
def BeaconCfg.ok (c : BeaconCfg) : Bool :=
  decide (c.mode ≠ 3) && (decide (c.mode = 0)
    || (decide (c.ns < 1000000000) && decide (100 ≤ c.period ∧ c.period ≤ 1000000000000)
        && decide (10 ≤ c.width ∧ c.width + 10 ≤ c.period)))

/-- ARM (R253). -/
def armBeacon (w : Writer) (j : Nat) (s : State) : State :=
  let c := s.beaconShadow j
  let base := 0x300200 + 0x20 * j
  if !c.ok then rejectWrite 0x30000C w base s
  else if c.mode = 1 ∧ c.start < s.now + beaconLead then beaconLate j s
  else s.setBeacon j { s.beacon j with snapshot := some (c, s.now), snapAt := s.time.elapsed, stopping := false }

/-- BEACON_ARM (R253). -/
def execBeaconArm (w : Writer) (j : Nat) (s : State) : Outcome := .next (if j < 8 ∧ s.power.vaux then armBeacon w j s else s)

/-- STOP (R253): at the next transit boundary. -/
def stopBeacon (j : Nat) (s : State) : State := s.setBeacon j { s.beacon j with stopping := true }

/-- BEACON_STOP (R253). -/
def execBeaconStop (j : Nat) (s : State) : Outcome := .next (if j < 8 ∧ s.power.vaux then stopBeacon j s else s)

/-- The output level of a beacon (R252): the active level during a pulse, and otherwise the inactive one, which POLARITY
gives. -/
def Beacon.level (b : Beacon) : Bool := if b.fall.isSome then !b.active.polarity else b.active.polarity

/-- The committed settings come into force, and the first pulse is placed (R253): never before the end of
a pulse in progress. The rule says so of a PERIODIC beacon; the model holds a ONE_SHOT to it too (DESIGN CHOICE, log 80). -/
def applyBeacon (j : Nat) (s : State) : State :=
  let b := s.beacon j
  match b.snapshot with
  | none => s
  | some (c, t) =>
    let from_ := max (t + beaconLead) (b.fall.getD 0)
    let first := if c.mode = 0 then none else if c.mode = 1 then some (max c.start (b.fall.getD 0)) else some (gridPoint c.start c.period from_)
    s.setBeacon j { b with
      active := c, snapshot := none, realign := false, next := first
      state := if c.mode = 0 then 0 else 1
      fall := if c.mode = 0 then none else b.fall }

/-- The start of a pulse. -/
def riseBeacon (j : Nat) (t : Instant) (s : State) : State :=
  let b := s.beacon j
  s.setBeacon j { b with
    state := 2, fall := some (t + b.active.width * 65536)
    next := if b.active.mode = 2 then some (t + b.active.period * 65536) else none
    realigned := b.realigned || b.realign, realign := false }

/-- BEACON_EDGE (R252): the edge that the transit period in progress holds. -/
def execBeaconEdge (j : Nat) (s : State) : Outcome :=
  .next (
    let b := s.beacon j
    if 8 ≤ j ∨ !s.time.running then s
    else match b.fall, b.next with
      | some t, _ =>
        if t < s.nextBoundary then
          s.setBeacon j { b with fall := none, state := if b.next.isNone then 0 else b.state }
        else s
      | none, some t => if t < s.nextBoundary then riseBeacon j t s else s
      | none, none => s)

end Sys2Proof.Machine
end

