-- ==== Sys2Proof/Machine/Gates.lean ====
section
/-!
DEFINITION. Egress gating on the management ports (R430 to R435).
-/

namespace Sys2Proof.Machine

/-- The gates of port `p`. -/
def State.gate (s : State) (p : Nat) : Gate := if p = 0 then s.gate0 else s.gate1

/-- Replace them. -/
def State.setGate (s : State) (p : Nat) (g : Gate) : State :=
  { s with gate0 := if p = 0 then g else s.gate0, gate1 := if p = 0 then s.gate1 else g }

/-- Count a happening of this second: whether it is the second's first, and the counts (R423). -/
def PerSecond.count1 (p : PerSecond) (sec : Nat) : Bool × PerSecond :=
  if p.second = sec + 1 then (false, { p with count := p.count + 1 })
  else (true, ⟨sec + 1, 1, if p.second = sec then p.count else 0⟩)

/-- The second of engine time in progress. -/
def State.second (s : State) : Nat := s.nowNs / 1000000000

/-! ### Lists (R431, R433) -/

/-- The entries that a GATE_LIST spells: open classes and interval. -/
def gateEntries (bs : List Byte) : Nat → List (Nat × Nat)
  | 0 => []
  | n + 1 => (leAt bs 0 1, leAt bs 4 4) :: gateEntries (bs.drop 8) n

/-- A reserved field of a list's entries is not 0. -/
def gateReserved (bs : List Byte) : Nat → Bool
  | 0 => false
  | n + 1 => decide (16 ≤ leAt bs 0 1 ∨ leAt bs 1 3 ≠ 0) || gateReserved (bs.drop 8) n

/-- GATE_REJECT of a list, 0 where it is accepted. -/
def gateReject (bs : List Byte) : Nat :=
  let n := bs.length / 8
  let l : GateList := ⟨0, gateEntries bs n⟩
  if n < 1 ∨ 64 < n ∨ gateReserved bs n then 1
  else if l.entries.any (fun e => decide (e.2 < 256 ∨ 1000000000 < e.2)) then 2
  else if l.cycle < 1000 ∨ 1000000000 < l.cycle then 3
  else 0

/-- The shadow of a port's list: GATE_BASE and GATE_LIST as last written (R433, R435). -/
def State.gateShadow (s : State) (p : Nat) : List Byte × List Byte :=
  (s.blob (0x3540 + p) 0x0A (List.replicate 12 0#8), s.blob (0x3540 + p) 0x0B [])

/-- A committed list is scheduled (R433). -/
def scheduleGate (p : Nat) (s : State) : State :=
  let g := s.gate p
  match g.committed with
  | none => s
  | some l => s.setGate p { g with changeAt := l.startAfter s.now }

/-- GATE_COMMIT (R433). -/
def execGateCommit (ses p value : Nat) (s : State) : Outcome :=
  .next (gated ses (0x3540 + p) 4 (valBytes 1 value) (fun s =>
    if value = 0 then reply ses stOk s
    else
      let sh := s.gateShadow p
      let r := gateReject sh.2
      if r ≠ 0 then reply ses stRange (s.setGate p { s.gate p with reject := r })
      else
        let l : GateList := ⟨time96Of sh.1, gateEntries sh.2 (sh.2.length / 8)⟩
        let s1 := { s with blobs := mapPut (mapPut s.blobs (objKey (0x3540 + p) 2) sh.1) (objKey (0x3540 + p) 3) sh.2 }
        let s2 := s1.setGate p { s1.gate p with committed := some l, reject := 0, changeAt := 0 }
        reply ses stOk (if (s2.gate p).enable then scheduleGate p s2 else s2)) s)

/-- A list out of force while every gate is open: it is committed still, unless a later one is (R431, R433). -/
def Gate.off (g : Gate) : Gate :=
  { g with enable := false, committed := g.committed.or g.active, active := none, changeAt := 0, entry := 0, held := false }

/-- GATE_ENABLE as it comes into force: setting it to 1 schedules a list already committed, and setting it to 0 opens
every gate (R431, R433). -/
def setGateEnable (p value : Nat) (s : State) : State :=
  let g := s.gate p
  let s1 := (s.setObj (0x3540 + p) 1 value).setGate p (if value = 1 then { g with enable := true } else g.off)
  if value = 1 ∧ !g.enable then scheduleGate p s1 else s1

/-- GATE_ENABLE_WRITE (R21, R410, R433): a live stored setting, answered once it is in force and journalled. -/
def execGateEnableWrite (ses p value : Nat) (s : State) : Outcome :=
  .next (gated ses (0x3540 + p) 1 (valBytes 1 value) (fun s =>
    beginStore ses (objKey (0x3540 + p) 1) (valBytes 1 value)
      (waitSetting .dispatch false (objKey (0x3540 + p) 1) value 0 s)) s)

/-- The interval of an entry, in units of engine time. -/
def GateList.interval (l : GateList) (i : Nat) : Nat := (l.entries.getD i (0, 0)).2 * 65536

/-- A committed list whose instant has come takes effect and raises 0x50B (R433). -/
def applyGateList (p : Nat) (s : State) : State :=
  let g := s.gate p
  match g.committed with
  | none => s
  | some l =>
    if g.changeAt = 0 ∨ s.now < g.changeAt then s
    else
      raiseEv 0x50B [byte p] (s.setGate p { g with
        active := some l, committed := none, entry := 0, entryEnd := g.changeAt + l.interval 0
        changeAt := 0, held := false })

/-- GATE_LIST_APPLY (R433). -/
def execGateListApply (p : Nat) (s : State) : Outcome := .next (if p < 2 then applyGateList p s else s)

/-- GATE_REALIGN (R434). -/
def execGateRealign (p : Nat) (s : State) : Outcome :=
  .next (
    let g := s.gate p
    match g.active with
    | none => s
    | some l =>
      if p < 2 ∧ g.held ∧ g.entryEnd ≤ s.now
      then s.setGate p { g with held := false, entry := 0, entryEnd := g.entryEnd + l.interval 0 } else s)

/-- GATE_ENTRY_ADVANCE (R431). -/
def execGateEntryAdvance (p : Nat) (s : State) : Outcome :=
  .next (
    let g := s.gate p
    match g.active with
    | none => s
    | some l =>
      if p < 2 ∧ !g.held ∧ g.entryEnd ≤ s.now then
        let i := (g.entry + 1) % l.entries.length
        s.setGate p { g with entry := i, entryEnd := g.entryEnd + l.interval i }
      else s)

/-! ### Windows and frames (R430 to R432) -/

/-- The sum of the leading intervals of a list whose entries open a class, in ns. -/
def openRun (c : Nat) : List (Nat × Nat) → Nat
  | [] => 0
  | e :: rest => if e.1.testBit c then e.2 + openRun c rest else 0

/-- The longest window of a class, in ns; none where its gate never closes. -/
def GateList.longest (l : GateList) (c : Nat) : Option Nat :=
  if l.entries.all fun e => e.1.testBit c then none
  else some (((numbers 0 l.entries.length).map fun i => openRun c ((l.entries ++ l.entries).drop i)).foldl max 0)

/-- The time left in the class's window of the list in force, in units; none where the gate never closes. -/
def State.ownWindowLeft (s : State) (p c : Nat) : Option Nat :=
  let g := s.gate p
  match g.active with
  | none => none
  | some l =>
    if !g.enable then none
    else if !((l.entries.getD g.entry (0, 0)).1.testBit c) then some 0
    else if l.entries.all fun e => e.1.testBit c then none
    else
      let next := if g.held then 0 else g.entry + 1
      some (g.entryEnd - s.now + openRun c (((l.entries ++ l.entries).drop next).take l.entries.length) * 65536)

/-- The time left in the class's window at this instant: a list that takes effect within it cuts it short, or continues
it by its own leading entries (R431, R433). -/
def State.windowLeft (s : State) (p c : Nat) : Option Nat :=
  let g := s.gate p
  let own := s.ownWindowLeft p c
  let till := g.changeAt - s.now
  match g.committed with
  | none => own
  | some l =>
    if g.changeAt = 0 ∨ g.active.isNone ∨ (own.any fun w => decide (w ≤ till)) then own
    else if l.entries.all fun e => e.1.testBit c then none
    else some (till + openRun c l.entries * 65536)

/-- The data rate of a port, in Mb/s (R412); of SGMII the rate that the link partner set, a free value. -/
def State.portRate (s : State) (p : Nat) : Nat :=
  let m := s.obj 0x1400 (0x10 + p)
  if m = 0 then 1000
  else if m = 1 then
    (if Config.freeNat s.freeCtr % 3 = 0 then 10 else if Config.freeNat s.freeCtr % 3 = 1 then 100 else 1000)
  else if m = 2 then 10000
  else 25000

/-- The units of engine time that a frame's transmission takes on a port. -/
def State.frameTime (s : State) (p len : Nat) : Nat :=
  ((len + 20) * 8 * 1000 * 65536 + s.portRate p - 1) / s.portRate p

/-- A frame longer than every window of its class is dropped (R432). -/
def dropOversize (p : Nat) (s : State) : State :=
  let g := s.gate p
  let r := g.oversizeSec.count1 s.second
  let s1 := s.setGate p { g with oversize := (g.oversize + 1) % 4294967296, oversizeSec := r.2 }
  if r.1 then raiseEv 0x50C ([byte p, 0#8, 0#8, 0#8] ++ leBytes 4 r.2.prev) s1 else s1

/-- An EVENT frame of one record (R400, R401, R416). -/
def eventFrame (r : ERec) : List Byte :=
  let head := [0x4A#8, 0x33#8, 3#8, 3#8] ++ leBytes 4 68 ++ leBytes 7 r.seq ++ [0#8] ++ leBytes 2 0
    ++ [0#8, byte (if r.flags.testBit 2 then 2 else 0)] ++ leBytes 12 0
  let bs := head ++ r.bytes
  bs ++ leBytes 4 (crc32c (3 * 2 ^ 56 + r.seq % 2 ^ 56) bs)

/-- The next record of a v3 session of a port that has one to send leaves (R405; log 62). -/
def sendRecord (p : Nat) (s : State) : State :=
  match s.sessions.find? fun q => q.2.isOpen && decide (q.2.link = 3) && decide ((q.2.peer.headD 0#8).toNat = p)
      && !q.2.sendq.isEmpty with
  | none => { s with out := {} }
  | some q =>
    match q.2.sendq with
    | [] => s
    | r :: rest => { sealCycle (s.setSession q.1 { q.2 with sendq := rest }) with out := ⟨r.seq, 0, eventFrame r⟩ }

/-- EGRESS_FRAME_START (R431, R432): the head frame of class `cls`, `len` bytes long. -/
def execEgressFrameStart (p cls len : Nat) (s : State) : Outcome :=
  .next (
    if 2 ≤ p ∨ 4 ≤ cls ∨ !s.power.vaux then s
    else
      let need := s.frameTime p len
      let g := s.gate p
      let s0 := if s.obj 0x1400 (0x10 + p) = 1 then s.takeFree.2 else s
      let tooLong : Bool := match g.active with
        | none => false
        | some l => g.enable && (match l.longest cls with
          | none => false
          | some w => decide (w * 65536 < need))
      let left := s.windowLeft p cls
      let fits : Bool := match left with
        | none => true
        | some w => decide (need ≤ w)
      if tooLong then dropOversize p s0
      else if left = some 0 then s0
      else if !fits then s0.setGate p { g with waits := (g.waits + 1) % 4294967296 }
      else
        let s1 := s0.setGate p { g with sent := g.sent + 1 }
        if cls = 1 then sendRecord p s1 else s1)

end Sys2Proof.Machine
end

