-- ==== Sys2Proof/Machine/Admit.lean ====
section
/-!
DEFINITION. Admission of requests: the buffer pool, de-duplication, policing, shaping and fair service
(R403, R418 to R428), and the responses that leave by a session's link (R389, R398, R400).
-/

namespace Sys2Proof.Machine

/-! ### The pool (R427) -/

/-- Buffers that a frame of a length needs. -/
def buffersFor (len : Nat) : Nat := (len + 511) / 512

/-- POOL_FREE. -/
def State.poolFree (s : State) : Nat := 4096 - (s.sessions.map fun p => p.2.held).sum

/-- The open sessions other than `ses` that hold no buffer. -/
def State.idleSessions (s : State) (ses : Nat) : Nat :=
  countWhere (fun n => decide (n ≠ ses) && s.served n && decide ((s.session n).held = 0)) (numbers 0 32)

/-- A frame of a session that needs `c` buffers may be admitted. -/
def State.poolAdmits (s : State) (ses c : Nat) : Bool :=
  decide ((s.session ses).held + c ≤ s.obj (0x3510 + ses) 8)
    && decide (c + 4 * s.idleSessions ses ≤ s.poolFree)

/-- 0x50A, once while POOL_FREE is below POOL_LOW_WATER. -/
def poolFallen (ses : Nat) (s : State) : State :=
  if s.poolFree < s.obj 0x3500 3 ∧ !s.disp.lowRaised then
    raiseEv 0x50A ([byte ses, 0#8, 0#8, 0#8] ++ leBytes 4 s.poolFree) { s with disp := { s.disp with lowRaised := true } }
  else s

/-- Give `c` buffers to a session. -/
def takeBuffers (ses c : Nat) (s : State) : State :=
  poolFallen ses (s.setSession ses { s.session ses with held := (s.session ses).held + c })

/-- POOL_FREE has risen: 0x50A may be raised again once it has recovered. -/
def poolRisen (s : State) : State :=
  if s.obj 0x3500 3 ≤ s.poolFree then { s with disp := { s.disp with lowRaised := false } } else s

/-- Return `c` buffers of a session. -/
def freeBuffers (ses c : Nat) (s : State) : State :=
  poolRisen (s.setSession ses { s.session ses with held := (s.session ses).held - c })

/-! ### Frames and responses (R389, R398, R400, R401) -/

/-- A JOP v2 or v3 frame. -/
def jopFrame (ver kind reqId op ix sub flags st off total : Nat) (payload : List Byte) : List Byte :=
  let bs := [0x4A#8, byte (0x30 + ver), byte ver, byte kind] ++ leBytes 4 (36 + payload.length) ++ leBytes 7 reqId
    ++ [byte op] ++ leBytes 2 ix ++ [byte sub, byte flags] ++ leBytes 2 st ++ leBytes 2 0
    ++ leBytes 4 off ++ leBytes 4 total ++ payload
  bs ++ leBytes 4 (crc32c (kind * 2 ^ 56 + reqId) bs)

/-- The response frame of a request. -/
def respFrame (ver : Nat) (r : Req) (x : Resp) : List Byte :=
  jopFrame ver 2 r.reqId r.op r.index r.sub 0 x.status r.offset x.total x.data

/-- Mailbox ring `r`, 1 to 4. -/
def State.ring (s : State) (r : Nat) : Mbx := mapGet s.mbx r {}

/-- Replace it. -/
def State.setRing (s : State) (r : Nat) (v : Mbx) : State := { s with mbx := mapSet s.mbx r v {} }

/-- A register of ring `r`. -/
def mbxReg (r off : Nat) : Nat := 0x1000 + 0x100 * (r - 1) + off

/-- Entries of a ring's completion queue. -/
def State.cplSize (s : State) (r : Nat) : Nat := 2 ^ field (s.reg (mbxReg r 0x1C)) 0 4

/-- A completion is written into ring `r` (R389, R390). -/
def complete (r tag len st : Nat) (s : State) : State :=
  let g := s.ring r
  let t := (g.cplTail + 1) % s.cplSize r
  let irq := (s.reg (mbxReg r 0)).testBit 1
  let s1 := s.setRing r { g with
    completions := (tag, len, st, g.phase) :: g.completions, cplTail := t
    phase := if t = 0 then !g.phase else g.phase, vectors := g.vectors + bit irq }
  if irq then raiseVector (field (s.reg (mbxReg r 0)) 16 9) s1 else s1

/-- A response leaves by its session's link. -/
def respond (ses : Nat) (r : Req) (x : Resp) (s : State) : State :=
  let k := (s.session ses).link
  if ses = 0 then
    { s with
      spi := { s.spi with
        busy := false
        resp := some (leBytes 2 x.status ++ leBytes 2 (x.data.take 256).length ++ leBytes 4 x.total ++ x.data.take 256) }
      out := ⟨0, x.status, x.data⟩ }
  else if k = 1 then
    let f := (respFrame 3 r x).take r.rspCap
    { complete ses r.tag f.length x.status s with out := ⟨0, x.status, f⟩ }
  else if k = 2 then { s with out := ⟨0, x.status, respFrame 2 r x⟩ }
  else if k = 3 then { s with out := ⟨0, x.status, respFrame 3 r x⟩ }
  else { s with out := ⟨0, x.status, x.data⟩ }

/-- A request that does not enter its queue is answered, and its buffers return. -/
def turnAway (ses : Nat) (r : Req) (st : Nat) (s : State) : State :=
  freeBuffers ses r.buffers (respond ses r ⟨st, [], 0⟩ s)

/-! ### De-duplication (R403) -/

/-- The key of a session's requests: of a v3 session the client's public key, of v2 its peer, else the ring. -/
def Session.key (x : Session) (n : Nat) : List Byte :=
  if x.link = 3 then 3#8 :: x.peer.drop 1 else if x.link = 2 then 2#8 :: x.peer else [1#8, byte n]

/-- The request still waits or executes, or its response was sent less than 10 s ago. -/
def Kept.stands (k : Kept) (now : Nat) : Bool := k.resp.isNone || decide (now < k.sentAt + 10000000000 * 65536)

/-- The kept response of a request, waiting and executing ones included. -/
def State.keptOf (s : State) (key : List Byte) (id : Nat) : Option Kept :=
  s.kept.find? fun k => k.stands s.time.elapsed && decide (k.key = key) && decide (k.reqId = id)

/-- A key holds as many responses as it may. -/
def State.keptFull (s : State) (key : List Byte) : Bool :=
  let l := s.kept.filter fun k => k.stands s.time.elapsed && decide (k.key = key)
  decide (16384 ≤ l.length)
    || decide (67108864 ≤ (l.map fun k => match k.resp with | none => 0 | some x => x.data.length + 36).sum)

/-- The answer that de-duplication gives a request, none where it goes on (R403, R407 step 2). -/
def dedup (ses : Nat) (r : Req) (s : State) : Option State :=
  if ses = 0 then none
  else
    let x := s.session ses
    match s.keptOf (x.key ses) r.reqId with
    | none =>
      if s.keptFull (x.key ses) then
        some (turnAway ses r stNotEligible (raiseEv 0x507 [byte ses, byte x.link] s))
      else none
    | some k =>
      if k.len = r.len ∧ k.check = r.check then
        match k.resp with
        | none => some (freeBuffers ses r.buffers s)
        | some a =>
          some (freeBuffers ses r.buffers
            (respond ses r a (s.setSession ses { x with dedupHits := (x.dedupHits + 1) % 4294967296 })))
      else some (turnAway ses r stNotEligible s)

/-! ### Policing (R421 to R423) -/

/-- The move charge of a request (R422); of a segmented write, of the segment that begins it. -/
def moveCharge (r : Req) : Nat :=
  if r.op ≠ 2 ∨ r.offset ≠ 0 then 0
  else if r.index = 0x2200 ∧ r.sub = 1 then 21 * leAt r.payload 2 2
  else if 0x8000 ≤ r.index ∧ r.index < 0xAE00 ∧ (r.sub = 4 ∨ r.sub = 8) then 1
  else if 0x4000 ≤ r.index ∧ r.index < 0x4800 ∧ r.sub = 0x16 then 1
  else if 0x5500 ≤ r.index ∧ r.index < 0x5510 ∧ r.sub = 2 then 1
  else 0

/-- Fill a session's buckets up to this instant; those of a session that is not open yet are full (R421). -/
def fillBuckets (ses : Nat) (s : State) : State :=
  let x := s.session ses
  let dt := s.time.elapsed - x.filledAt
  let full (n rate burst : Nat) : Nat := if x.isOpen then min (burst * tokUnit) (n + rate * dt) else burst * tokUnit
  s.setSession ses { x with
    reqTokens := full x.reqTokens (s.obj (0x3510 + ses) 1) (s.obj (0x3510 + ses) 2)
    moveTokens := full x.moveTokens (s.obj (0x3510 + ses) 3) (s.obj (0x3510 + ses) 4)
    filledAt := s.time.elapsed }

/-- A request does not conform: it is dropped with POLICED (R423). -/
def police (ses : Nat) (r : Req) (s : State) : State :=
  let x := s.session ses
  let c := x.policedSec.count1 s.second
  let s1 := { s.setSession ses { x with policed := (x.policed + 1) % 4294967296, policedSec := c.2 } with
    disp := { s.disp with policedTotal := (s.disp.policedTotal + 1) % 4294967296 } }
  let s2 := if c.1 then raiseEv 0x508 ([byte ses, 0#8, 0#8, 0#8] ++ leBytes 4 c.2.prev) s1 else s1
  turnAway ses r stPoliced s2

/-! ### Queues, shaping and fair service (R418, R424, R425) -/

/-- A microsecond of elapsed time. -/
def usUnits : Nat := 65536000

/-- One of a session's queues. -/
def Session.queueOf (x : Session) (control : Bool) : Queue := if control then x.control else x.query

/-- Replace it. -/
def Session.setQueueOf (x : Session) (control : Bool) (q : Queue) : Session :=
  if control then { x with control := q } else { x with query := q }

/-- The weight of a session's queue. -/
def State.weight (s : State) (ses : Nat) (control : Bool) : Nat := s.obj (0x3510 + ses) (if control then 6 else 7)

/-- A request becomes the head of its queue: its tags, and its place on the wheel. -/
def placeHead (ses : Nat) (control : Bool) (s : State) : State :=
  let x := s.session ses
  let q := x.queueOf control
  match q.waiting with
  | [] => s
  | r :: _ =>
    let start := max s.disp.vtime q.finish
    let at_ := (max s.time.elapsed x.nextEligible + usUnits - 1) / usUnits * usUnits
    s.setSession ses (x.setQueueOf control { q with
      start := start, finish := start + r.buffers * 65536 / s.weight ses control
      eligible := if s.obj (0x3510 + ses) 5 = 0 ∨ ses = 29 ∨ ses = 30 then none else some at_ })

/-- A request enters its queue (R418), and wakes the Forge (R11). -/
def enqueue (ses : Nat) (r : Req) (s : State) : State :=
  let x := s.session ses
  let control : Bool := decide (r.op = 2)
  let q := x.queueOf control
  let s1 := s.setSession ses (x.setQueueOf control { q with waiting := q.waiting ++ [r] })
  let s2 := if q.waiting.isEmpty then placeHead ses control s1 else s1
  let s3 := if ses = 0 then s2
    else { s2 with kept := s2.kept ++ [⟨x.key ses, r.reqId, r.len, r.check, none, 0⟩] }
  wakeForge s3

/-- Steps 2 and 3 of R407 for a frame that the pool holds, and its queue. -/
def arrive (ses : Nat) (r : Req) (s : State) : State :=
  match dedup ses r s with
  | some t => t
  | none =>
    if ses = 29 ∨ ses = 30 then enqueue ses r s
    else
      let s1 := fillBuckets ses s
      let x := s1.session ses
      let c := moveCharge r * tokUnit
      if x.reqTokens < tokUnit ∨ x.moveTokens < c then police ses r s1
      else enqueue ses r (s1.setSession ses { x with reqTokens := x.reqTokens - tokUnit, moveTokens := x.moveTokens - c })

/-! ### The dispatch's commands -/

/-- POOL_ADMIT (R427, R428): the next frame of a session that waits, on a mailbox ring or a v3 stream. -/
def execPoolAdmit (ses len : Nat) (s : State) : Outcome :=
  .next (
    let x := s.session ses
    let waits := x.isOpen && (decide (x.link = 1) || x.stalled) && decide (x.admitted = 0)
    if waits ∧ s.poolAdmits ses (buffersFor len) then
      takeBuffers ses (buffersFor len) (s.setSession ses { x with stalled := false, admitted := buffersFor len })
    else s)

/-- REQUEST_ELIGIBLE (R424). -/
def execRequestEligible (ses : Nat) (control : Bool) (s : State) : Outcome :=
  .next (
    let x := s.session ses
    let q := x.queueOf control
    match q.eligible with
    | none => s
    | some t =>
      if t ≤ s.time.elapsed then s.setSession ses (x.setQueueOf control { q with eligible := none }) else s)

/-- A queue's head may be served. -/
def Queue.ready (q : Queue) : Bool := !q.waiting.isEmpty && q.executing.isNone && q.eligible.isNone

/-- The queues whose head may be served, in the order of ties: session and control. -/
def State.readyQueues (s : State) : List (Nat × Bool) :=
  (numbers 0 32).flatMap fun n =>
    let x := s.session n
    if !s.served n then [] else
      (if x.control.ready then [(n, true)] else []) ++ (if x.query.ready then [(n, false)] else [])

/-- Of a list, the first with the least finish tag. -/
def State.leastFinish (s : State) (best : Option (Nat × Bool)) : List (Nat × Bool) → Option (Nat × Bool)
  | [] => best
  | p :: rest =>
    let tag (q : Nat × Bool) : Nat := ((s.session q.1).queueOf q.2).finish
    match best with
    | none => s.leastFinish (some p) rest
    | some b => s.leastFinish (some (if tag p < tag b then p else b)) rest

/-- The queue that the dispatch serves next: sessions 29 and 30 ahead of the others (R420, R425). -/
def State.nextServed (s : State) : Option (Nat × Bool) :=
  let l := s.readyQueues
  let first := l.filter fun p => decide (p.1 = 29 ∨ p.1 = 30)
  s.leastFinish none (if first.isEmpty then l else first)

/-- Requests in execution. -/
def State.executing (s : State) : Nat :=
  (s.sessions.map fun p => bit p.2.control.executing.isSome + bit p.2.query.executing.isSome).sum

/-- The head of a queue is taken into service. -/
def serve (ses : Nat) (control : Bool) (s : State) : State :=
  let x := s.session ses
  let q := x.queueOf control
  match q.waiting with
  | [] => s
  | r :: rest =>
    let rate := s.obj (0x3510 + ses) 5
    let next := if rate = 0 then x.nextEligible else max s.time.elapsed x.nextEligible + 1000000 * usUnits / rate
    let y := x.setQueueOf control { q with waiting := rest, executing := some r }
    placeHead ses control { s.setSession ses { y with nextEligible := next } with
      disp := { s.disp with vtime := q.start }, out := ⟨ses, 0, r.payload⟩ }

/-- REQUEST_SERVE (R419, R425). The request's own command then gives its effect and answer (log 63). -/
def execRequestServe (s : State) : Outcome :=
  .next (
    if !s.boot.started ∨ !s.awake ∨ 16 ≤ s.executing then s
    else match s.nextServed with
      | none => s
      | some p => serve p.1 p.2 s)

/-- The kept response of a completed request. -/
def keepResponse (key : List Byte) (id : Nat) (x : Resp) (s : State) : State :=
  { s with kept := s.kept.map fun k =>
      if k.key = key ∧ k.reqId = id ∧ k.resp.isNone then { k with resp := some x, sentAt := s.time.elapsed } else k }

/-- REQUEST_COMPLETE (R403, R427): the session's response passes to its link and the buffers return. -/
def execRequestComplete (ses : Nat) (control : Bool) (s : State) : Outcome :=
  .next (
    let x := s.session ses
    let q := x.queueOf control
    match q.executing, x.resp with
    | some r, some a =>
      let y := x.setQueueOf control { q with executing := none }
      let s1 := s.setSession ses { y with resp := none }
      noteBusy (freeBuffers ses r.buffers (keepResponse (x.key ses) r.reqId a (respond ses r a s1)))
    | _, _ => s)

/-! ### Telemetry (R426) -/

/-- One sample of a queue at an elapsed instant; the delay is in ns. -/
def Queue.sample (q : Queue) (now : Nat) : Queue :=
  let d := q.waiting.length
  let t := match q.waiting with | [] => 0 | r :: _ => (now - r.arrived) / 65536
  { q with
    samples := q.samples + 1
    depthMin := if q.samples = 0 then d else min q.depthMin d, depthMax := max q.depthMax d, depthSum := q.depthSum + d
    delayMin := if q.samples = 0 then t else min q.delayMin t, delayMax := max q.delayMax t, delaySum := q.delaySum + t }

/-- QSAMPLE (R426): at most once in each QSAMPLE_PERIOD of the step-free grid. -/
def execQsample (s : State) : Outcome :=
  .next (
    let p := s.obj 0x3500 1 * usUnits
    if p = 0 ∨ s.time.elapsed / p ≤ s.disp.sampledAt / p then s
    else
      let one (n : Nat) (t : State) : State :=
        let x := t.session n
        if t.served n then t.setSession n { x with
          control := x.control.sample t.time.elapsed, query := x.query.sample t.time.elapsed } else t
      forEach one (numbers 0 32) { s with disp := { s.disp with sampledAt := s.time.elapsed } })

/-- A queue's 24 bytes of QSTATS (R429). -/
def Queue.stats (q : Queue) : List Byte :=
  let n := max q.samples 1
  leBytes 4 q.samples ++ leBytes 2 q.depthMin ++ leBytes 2 q.depthMax ++ leBytes 4 (q.depthSum * 65536 / n)
    ++ leBytes 4 q.delayMin ++ leBytes 4 q.delayMax ++ leBytes 4 (q.delaySum / n)

/-- The accumulations restart. -/
def Queue.restart (q : Queue) : Queue :=
  { q with samples := 0, depthMin := 0, depthMax := 0, depthSum := 0, delayMin := 0, delayMax := 0, delaySum := 0 }

/-- A read of QSTATS of session `of_` (R426). -/
def readQstats (ses of_ want : Nat) (s : State) : State :=
  let y := s.session of_
  let bs := y.control.stats ++ y.query.stats
  takeSnapshot ses (objKey (0x3510 + of_) 0x0C) bs want
    (s.setSession of_ { y with control := y.control.restart, query := y.query.restart })

/-- QSTATS_READ (R426). -/
def execQstatsRead (ses of_ : Nat) (s : State) : Outcome :=
  .next (if s.served ses then
    (if of_ < 32 then readQstats ses of_ 48 s else reply ses stNoObject s) else s)

end Sys2Proof.Machine
end

