-- ==== Sys2Proof/Machine/Housekeep.lean ====
section
/-!
DEFINITION. The housekeeping converters HKC0 and HKC1 (R343 to R350).
-/

namespace Sys2Proof.Machine

/-- Converter `n`. -/
def State.hkc (s : State) (n : Nat) : Hkc := if n = 0 then s.hkc0 else s.hkc1

/-- Replace it. -/
def State.setHkc (s : State) (n : Nat) (v : Hkc) : State :=
  { s with hkc0 := if n = 0 then v else s.hkc0, hkc1 := if n = 0 then s.hkc1 else v }

/-- A register of converter `n`. -/
def hkcReg (n off : Nat) : Nat := 0x370000 + 0x100 * n + off

/-- Full scale at gain 1, in millionths of the input's unit (R343). -/
def hkcScale (input : Nat) : Nat :=
  [20000000, 80000000, 5000000, 5000000, 1250000, 1250000, 1250000, 2500000, 1250000, 2500000, 80000000, 80000000,
   40000000, 12500000, 500000].getD input 1250000

/-- The sampling time of a code, in ns (R344). -/
def sampleNs (code : Nat) : Nat := [30, 60, 120, 250, 500, 1000, 2000, 4000].getD code 4000

/-- The conversion that a word of HKC_ENTRY's form names. -/
def convOf_ (w entry : Nat) (injected : Bool) (start : Nat) : Conv :=
  { start := start, input := field w 0 5, gain := field w 12 2, sample := field w 8 3, level := field w 16 4, entry := entry, injected := injected }

/-- HKC_SEQ_LEN's LEN. -/
def State.seqLen (s : State) (n : Nat) : Nat := field (s.reg (hkcReg n 0x10)) 0 5

/-- When a conversion's sampling ends, and when it is done (R344). -/
def Conv.sampled (c : Conv) : Nat := c.start + sampleNs c.sample * 65536
def Conv.done (c : Conv) : Nat := c.sampled + 470 * 65536

/-- A converter that is idle from the elapsed instant `at_` takes its next conversion: an injected one that was pending as
a calibration run started, that run, then any injected one, then the sequence (R345, R347, R349). -/
def hkcNext (n at_ : Nat) (s : State) : State :=
  let h := s.hkc n
  let entry (k : Nat) : Option Conv := some (convOf_ (s.reg (hkcReg n (0x40 + 4 * k))) k false at_)
  if h.current.isSome ∨ h.calActive then s
  else if h.calWaiting ∧ (!h.injectFirst ∨ h.inject.isNone) then
    s.setHkc n { h with calActive := true, calWaiting := false, injectFirst := false }
  else match h.inject with
    | some c => s.setHkc n { h with current := some { c with start := at_ }, inject := none, injectFirst := false }
    | none => match h.seqPos with
      | some k => s.setHkc n { h with current := entry k }
      | none => if h.heldTrig then s.setHkc n { h with heldTrig := false, seqPos := some 0, current := entry 0 } else s

/-- A calibration run takes the converter (R349). -/
def hkcTake (n : Nat) (s : State) : State :=
  hkcNext n s.time.elapsed (s.setHkc n { s.hkc n with calWaiting := true, injectFirst := (s.hkc n).inject.isSome })

/-- A calibration run gives the converter back. -/
def hkcGive (n : Nat) (s : State) : State :=
  hkcNext n s.time.elapsed (s.setHkc n { s.hkc n with calWaiting := false, calActive := false, injectFirst := false })

/-- What is left of the transit period in progress; the first after a step is a stretched one (R236). -/
def State.periodLeft (s : State) : Nat := s.nextBoundary - s.now

/-- The elapsed instant lies in the transit period in progress, or before it. -/
def State.dueBy (s : State) (t : Nat) : Bool := decide (t < s.time.transitStart + s.periodLeft)

/-- ARM comes into force (R345): the timer runs from the write of 1, at elapsed instant `at_`; 0 ends the sequence
after the conversion in progress. -/
def hkcArm (n : Nat) (value : Bool) (at_ : Nat) (s : State) : State :=
  let h := s.hkc n
  if value = h.armed then s
  else if value then s.setHkc n { h with armed := true, timerAt := at_ + s.reg (hkcReg n 0xC) * 40 * 65536 }
  else s.setHkc n { h with
    armed := false, seqPos := none, trigs := [], heldTrig := false
    current := h.current.map fun c => { c with last := true } }

/-- ARM is written: a live setting (R21). -/
def writeHkcArm (n : Nat) (value : Bool) (s : State) : State := waitSetting .hkc true (hkcReg n 0) (bit value) 0 s

/-- HKC_ARM_WRITE (R21, R345): in force from the next transit boundary. -/
def execHkcArmWrite (n : Nat) (value : Bool) (s : State) : Outcome :=
  .next (if n < 2 ∧ s.power.vaux then writeHkcArm n value s else s)

/-- A trigger from its source: it takes effect DELAY × 40 ns later. -/
def hkcTrigger (n at_ : Nat) (s : State) : State :=
  let h := s.hkc n
  s.setHkc n { h with trigs := h.trigs ++ [at_ + field (s.reg (hkcReg n 8)) 16 16 * 40 * 65536] }

/-- The converter is armed with a trigger source. -/
def State.hkcSrc (s : State) (n src : Nat) : Bool :=
  decide (n < 2) && (s.hkc n).armed && decide (field (s.reg (hkcReg n 8)) 0 3 = src)

/-- HKC_SOFT_TRIG (R345). -/
def execHkcSoftTrig (n : Nat) (s : State) : Outcome :=
  .next (if s.power.vaux ∧ s.hkcSrc n 0 then hkcTrigger n s.time.elapsed s else s)

/-- HKC_TIMER_TRIGGER (R345): every PERIOD × 40 ns from the ARM write. -/
def execHkcTimerTrigger (n : Nat) (s : State) : Outcome :=
  .next (
    let h := s.hkc n
    if s.power.vaux ∧ s.hkcSrc n 1 ∧ s.dueBy h.timerAt then
      hkcTrigger n h.timerAt (s.setHkc n { h with timerAt := h.timerAt + s.reg (hkcReg n 0xC) * 40 * 65536 })
    else s)

/-- The elapsed instant of an edge of a fan's PWM output in the transit period in progress (R340): a period begins where
the nanosecond count is a multiple of 40,000, high for d/255 of it; a duty of 0 or 255 has no edges. -/
def State.fanEdge (s : State) (f : Nat) (rising : Bool) : Option Nat :=
  let d := (s.fan f).duty
  let all := 40000 * 65536
  let edge := if rising then 0 else d * all / 255
  let wait := (edge + all - s.now % all) % all
  if d ≠ 0 ∧ d ≠ 255 ∧ wait < s.periodLeft then some (s.time.elapsed + wait) else none

/-- HKC_FAN_EDGE_TRIGGER (R345): an edge of the PWM output named by FAN. -/
def execHkcFanEdgeTrigger (n : Nat) (f : Nat) (rising : Bool) (s : State) : Outcome :=
  .next (match s.fanEdge f rising with
    | none => s
    | some at_ =>
      if s.power.vaux ∧ s.hkcSrc n (if rising then 2 else 3) ∧ field (s.reg (hkcReg n 8)) 4 2 = f
          ∧ (s.hkc n).edgeAt ≠ some at_ then
        hkcTrigger n at_ (s.setHkc n { s.hkc n with edgeAt := some at_ })
      else s)

/-- A trigger that finds the sequence running is missed. -/
def hkcMiss (n : Nat) (s : State) : State :=
  let h := s.hkc n
  let k := min (h.missed + 1) 255
  let s1 := s.setHkc n { h with missed := k, missedRaised := true }
  if h.missedRaised then s1 else raiseEv (0x342 + n) [byte k] s1

/-- HKC_TRIGGER_EFFECT (R345, R349). -/
def execHkcTriggerEffect (n : Nat) (s : State) : Outcome :=
  .next (
    let h := s.hkc n
    match h.trigs with
    | [] => s
    | t :: rest =>
      if 2 ≤ n ∨ !s.power.vaux ∨ !h.armed ∨ !s.dueBy t then s
      else
        let s1 := s.setHkc n { h with trigs := rest }
        if h.calActive ∨ h.calWaiting then
          (if h.heldTrig then hkcMiss n s1 else s1.setHkc n { s1.hkc n with heldTrig := true })
        else if h.seqPos.isSome then hkcMiss n s1
        else hkcNext n t (s1.setHkc n { s1.hkc n with seqPos := some 0 }))

/-- The code of a conversion of an input in millionths of its unit, and whether the input was over range
(R344, R348). -/
def State.hkcCode (s : State) (n : Nat) (c : Conv) (v : Int) : Nat × Bool :=
  let fs : Nat := hkcScale c.input
  let x := v * 2 ^ c.gain
  if (fs : Int) < x then (0x7FFF, true) else if x < -(fs : Int) then (0x8000, true)
  else
    let g := f64OfF32 (s.calF32 4 n (8 * c.gain + 4))
    let off := bitsInt 32 (s.calInt 4 n (8 * c.gain) 4)
    let raw := f64RoundInt (f64Add (f64Mul g (f64Ratio (32768 * x) fs)) (f64OfInt off))
    (intBits 16 (clampInt (-32768) 32767 raw), false)

/-- HKC_DATA. -/
def Hkc.word (h : Hkc) : Nat :=
  h.code + h.entry * 65536 + bit h.injected * 0x8000000 + bit h.overRange * 0x10000000 + bit h.suspect * 0x20000000
    + bit h.overrun * 0x40000000 + bit h.valid * 0x80000000

/-- A result replaces HKC_DATA (R346). -/
def hkcResult (n : Nat) (c : Conv) (code : Nat) (exceeded suspect : Bool) (s : State) : State :=
  let h := s.hkc n
  let lost := h.valid
  let k := if lost then min (h.overruns + 1) 255 else h.overruns
  let s1 := s.setHkc n { h with
    valid := true, overrun := lost, suspect := suspect, overRange := exceeded, injected := c.injected
    entry := if c.injected then 0 else c.entry, code := code, overruns := k
    overrunRaised := h.overrunRaised || lost }
  let s2 := if lost ∧ !h.overrunRaised then raiseEv (0x340 + n) [byte k] s1 else s1
  raiseEv (0x344 + n) (leBytes 4 (s2.hkc n).word) s2

/-- HKC_CONVERSION_DONE (R344 to R348): the input in millionths of its unit. The gap before it follows from the instants
that the state holds, and the operand is not needed. -/
def execHkcConversionDone (n : Nat) (microvolt : Int) (_gapNs : Nat) (s : State) : Outcome :=
  .next (match (s.hkc n).current with
    | none => s
    | some c =>
      if 2 ≤ n ∨ !s.power.vaux ∨ !s.dueBy c.done then s
      else
        let h := s.hkc n
        let r := s.hkcCode n c microvolt
        let soon : Bool := match h.overRangeLast with | none => false | some t => decide (c.start < t + 1000 * 65536)
        let suspect := soon && decide (sampleNs c.sample < 1000)
        let pos := if c.injected ∨ c.last then h.seqPos
          else if h.armed ∧ c.entry + 1 < s.seqLen n then some (c.entry + 1) else none
        let s1 := hkcResult n c r.1 r.2 suspect s
        hkcNext n c.done (s1.setHkc n { s1.hkc n with
          current := none, overRangeLast := if r.2 then some c.sampled else none, seqPos := pos }))

/-- HKC_INJ with START (R347). -/
def hkcInject (w : Writer) (n : Nat) (value : Nat) (s : State) : State :=
  if (s.hkc n).inject.isSome ∨ 24 ≤ field value 0 5 then rejectWrite (hkcReg n 4) w (hkcReg n 0x18) s
  else
    let s1 := waitSetting .hkc true (hkcReg n 0x18) (value &&& 0xF371F) 0 s
    -- an idle converter starts at the next 40 ns tick
    let tick := 40 * 65536
    hkcNext n ((s.time.elapsed / tick + 1) * tick) (s1.setHkc n { s1.hkc n with inject := some (convOf_ value 0 true 0) })

/-- HKC_INJ_START (R347). -/
def execHkcInjStart (w : Writer) (n : Nat) (value : Word) (s : State) : Outcome :=
  .next (if n < 2 ∧ s.power.vaux then hkcInject w n value.toNat s else s)

/-- HKC_DATA_READ (R346): the word, and VALID and OVERRUN clear. -/
def readHkc (n : Nat) (s : State) : State :=
  let h := s.hkc n
  { s.setHkc n { h with valid := false, overrun := false } with out := ⟨h.word, 0, leBytes 4 h.word⟩ }

def execHkcDataRead (n : Nat) (s : State) : Outcome := .next (if n < 2 ∧ s.power.vaux then readHkc n s else s)

/-- HKC_CLR_COUNTS (R350). -/
def hkcClear (n : Nat) (s : State) : State :=
  s.setHkc n { s.hkc n with overruns := 0, missed := 0, overrunRaised := false, missedRaised := false }

def execHkcClrCounts (n : Nat) (s : State) : Outcome := .next (if n < 2 ∧ s.power.vaux then hkcClear n s else s)

end Sys2Proof.Machine
end

