-- ==== Sys2Proof/Machine/Calib.lean ====
section
/-!
DEFINITION. Calibration runs: preconditions, plausibility, storing and swapping, and what boot makes of
the slots (R316 to R326).
-/

namespace Sys2Proof.Machine

/-! ### Runs (R318, R319) -/

/-- The number of units of a type. -/
def calUnits (t : Nat) : Nat :=
  if t = 1 then 1 else if t = 2 ∨ t = 5 ∨ t = 6 then elemCount else if t = 3 then 142
  else if t = 4 then 2 else if t = 7 then 4096 else 16

/-- The type moves elements. -/
def calMoves (t : Nat) : Bool := decide (t = 5 ∨ t = 6)

/-- The run that a CAL_RUN value asks for. -/
def parseRun (v : List Byte) : CalRunSt :=
  let t := leAt v 0 1
  let first := leAt v 2 2
  let n := leAt v 4 2
  { type_ := t, flags := leAt v 1 1, first := first, count := if n = 0 then calUnits t - first else n
    source := leAt v 6 2, refPower := bitsInt 16 (leAt v 8 2), started := 0 }

/-- A field of a CAL_RUN value is out of range. -/
def runBad (v : List Byte) : Bool :=
  let r := parseRun v
  let t := r.type_
  decide (t < 1 ∨ 8 < t) || decide (1 < r.flags) || (decide (r.flags = 1) && decide (t ≠ 6))
    || decide (calUnits t ≤ r.first) || decide (calUnits t < r.first + r.count)
    || (if t = 6 then decide (1024 ≤ r.source) else decide (r.source ≠ 0xFFFF))
    || (if t = 7 then decide (r.refPower < -7680 ∨ 5120 < r.refPower) || decide (leAt v 4 2 ≠ 1)
        else decide (r.refPower ≠ 0))
    || decide (leNat (v.drop 10) ≠ 0)

/-! ### Slots in flash (R313, R314) -/

/-- BASE and SIZE of a type's slots, and the bytes of an entry. -/
def slotPlace (t : Nat) : Nat × Nat × Nat :=
  if t = 1 then (0x04000000, 0x10000, 48) else if t = 2 then (0x04040000, 0x40000, 12)
  else if t = 3 then (0x04140000, 0x10000, 8) else if t = 4 then (0x04180000, 0x10000, 32)
  else if t = 5 then (0x04200000, 0x800000, 680) else if t = 6 then (0x06200000, 0x200000, 136)
  else if t = 7 then (0x06A00000, 0x10000, 12) else if t = 8 then (0x06A40000, 0x10000, 24)
  else (0x06B00000, 0x200000, 132)

/-- The flash address of slot `k` of a layer. -/
def slotAddr (t layer k : Nat) : Nat := (slotPlace t).1 + (2 * layer + k) * (slotPlace t).2.1

/-- The neutral entry of the user layer: zero deltas and 0xFF selections (R312). -/
def neutralEntry (t : Nat) : List Byte :=
  let z (n : Nat) : List Byte := List.replicate n 0#8
  let f (n : Nat) : List Byte := List.replicate n 0xFF#8
  if t = 1 then f 16 ++ z 32 else if t = 2 then f 1 ++ z 11 else if t = 3 then f 4 ++ z 4
  else if t = 5 then z 676 ++ f 1 ++ z 3 else z (slotPlace t).2.2

/-- The header of factory slot `k` of a type (R313). -/
def factoryHeader (t k : Nat) : List Byte :=
  let h (off n : Nat) : List Byte := leBytes n (Config.factoryField (t + 16 * k) 0xFFFF off n)
  leBytes 4 0x4C434B48 ++ [byte t, 0#8] ++ leBytes 2 1 ++ leBytes 4 (factorySeq t k)
    ++ leBytes 4 ((if t = 9 then elemCount else calUnits t) * (slotPlace t).2.2) ++ h 16 12 ++ h 28 2 ++ h 30 2 ++ h 32 2
    ++ List.replicate 30 0#8

/-- The body of factory slot `k` of a type: one entry per unit. -/
def factoryBody (t k : Nat) : List Byte :=
  (numbers 0 (if t = 9 then elemCount else calUnits t)).flatMap fun u => (numbers 0 (slotPlace t).2.2).flatMap fun i =>
    leBytes 1 (Config.factoryField (t + 16 * k) u i 1)

/-- The CHECK of factory slot `k`, with its flash address as context. -/
def factoryCheck (t k : Nat) : Nat := crc32c (slotAddr t 0 k) (factoryHeader t k ++ factoryBody t k)

/-- A factory slot is valid: it was written so at manufacture and locked, and only wear of its flash, which no command
brings about, could put it into `factoryBad` (log 3). -/
def CalType.factoryGood (c : CalType) (k : Nat) : Bool := !c.factoryBad.contains k

/-- The header of a slot of the user layer. -/
def CalSlot.header (c : CalSlot) (t : Nat) : List Byte :=
  leBytes 4 0x4C434B48 ++ [byte t, 1#8] ++ leBytes 2 1 ++ leBytes 4 c.seq ++ leBytes 4 (calUnits t * (slotPlace t).2.2)
    ++ time96Bytes c.time ++ leBytes 2 (intBits 16 c.temp) ++ leBytes 2 c.first ++ leBytes 2 c.count
    ++ List.replicate 30 0#8

/-- The CHECK of a slot over its header and its body, one entry per unit, with its flash address as context. -/
def CalSlot.checkOf (c : CalSlot) (t k : Nat) : Nat :=
  crc32c (slotAddr t 1 k) (c.header t ++ (numbers 0 (calUnits t)).flatMap fun u => mapGet c.entries u (neutralEntry t))

/-- A slot of the user layer is valid: it was written whole and its CHECK matches (R317). -/
def CalType.slotGood (c : CalType) (t k : Nat) : Bool := (c.slot k).valid && decide ((c.slot k).check = (c.slot k).checkOf t k)

/-! ### Preconditions (R320) -/

/-- The units of a run. -/
def CalRunSt.units (r : CalRunSt) : List Nat := numbers r.first r.count

/-- Every sensor of a list has changed by no more than 0.5 °C over the preceding 60 s. -/
def State.steady (s : State) (l : List Nat) : Bool :=
  l.all fun i =>
    let h := ((s.sensor i).filtered).take 60001
    decide (h.foldl max (h.headD 0) - h.foldl min (h.headD 0) ≤ 2048)

/-- The fabric die sensors of the stages involved: those of the elements named; all for detectors. -/
def CalRunSt.fabricSensors (r : CalRunSt) : List Nat :=
  if r.type_ = 7 then numbers 48 38
  else
    let st (e : Nat) : Nat := if e < 9728 then e / 512 else if e < 10752 then 0 else 18
    (sortNums (r.units.map st)).flatMap fun k => [48 + 2 * k, 49 + 2 * k]

/-- A batch by which a run moves legs away from its elements (R322). -/
def Batch.movesAway (b : Batch) : Bool := decide (b.origin ≠ 1) && !b.moves.isEmpty

/-- Such a batch is pending or MOVING. -/
def State.movingAway (s : State) : Bool := s.batches.any fun b => b.movesAway && (b.pending || decide (b.state = .moving))

/-- A pending or MOVING batch commands an element of the run or routes a leg through one; the run's own, which moves
legs away, does not count (log 71). -/
def State.runInBatch (s : State) (r : CalRunSt) : Bool :=
  let named (e : Nat) : Bool := decide (r.first ≤ e) && decide (e < r.first + r.count)
  (s.batches.filter fun b => !b.movesAway).any fun b =>
    if b.pending then (s.active.changedElems b.plan.after).any named
      || b.plan.after.legs.any fun l => !(s.active.legs.contains l) && l.2.pathElems.any named
    else decide (b.state = .moving) && b.legs.any fun l => l.waiting.any named || ((s.active.slot l.leg).pathElems).any named

/-- The inbound power of a north port's detector, Q8.8 dBm. -/
def State.sourceLight (s : State) (p : Nat) : Int := (mapGet s.dets (2 * p) {}).power

/-! ### The route of an ELEM_OPTICAL run (R318, R320) -/

/-- An element is free for a run's light: a named one whose legs are moved away, or one that carries no leg; and it can
be switched. -/
def State.freeFor (s : State) (r : CalRunSt) (e : Nat) : Bool :=
  (decide (r.flags = 1 ∧ r.first ≤ e ∧ e < r.first + r.count) || (s.active.legsThrough e).isEmpty)
    && !decide ((s.elem e).mode = .faulted ∨ (s.elem e).mode = .manual)

/-- A south port is IDLE. -/
def State.idleSouth (s : State) (d : Nat) : Bool := decide (s.active.portRole (1024 + d) = 0)

/-- Light on a line, with `n` stages left, can be led over free elements to a south port that a test names. -/
def State.way (s : State) (r : CalRunSt) (goal : Nat → Bool) : Nat → Nat → Bool
  | 0, l => goal l
  | n + 1, l =>
    let st := 18 - n
    s.freeFor r (elemOn st l) && (s.way r goal n l || s.way r goal n (partner st l))

/-- Light on two lines, with `n` stages left, can be led over free elements to two idle south ports, each element in
one state. -/
def State.twoWays (s : State) (r : CalRunSt) : Nat → Nat → Nat → Bool
  | 0, a, b => s.idleSouth a && s.idleSouth b
  | n + 1, a, b =>
    let st := 18 - n
    let a' := partner st a
    let b' := partner st b
    s.freeFor r (elemOn st a) && s.freeFor r (elemOn st b)
      && (s.twoWays r n a b || s.twoWays r n a' b' || (decide (a' ≠ b) && (s.twoWays r n a' b || s.twoWays r n a b')))

/-- Light on a line, with `n` stages left, reaches an element over free ones, from whose two outputs it is led to two
idle south ports. -/
def State.wayThrough (s : State) (r : CalRunSt) (e : Nat) : Nat → Nat → Bool
  | 0, _ => false
  | n + 1, l =>
    let st := 18 - n
    let x := elemOn st l
    s.freeFor r x && (if x = e then s.twoWays r n l (partner st l) else s.wayThrough r e n l || s.wayThrough r e n (partner st l))

/-- The light of a run's source reaches every element of the run (R318): a fabric element with its two outputs led to
two idle south ports, a south port's element on a path that reaches it, and the source's own north port element. -/
def State.calRoute (s : State) (r : CalRunSt) : Bool :=
  r.units.all fun e =>
    if e < 9728 then s.wayThrough r e 19 r.source
    else if e < 10752 then decide (e = portElem r.source) && s.way r s.idleSouth 19 r.source
    else s.way r (fun d => decide (d = e - 10752) && s.idleSouth d) 19 r.source

/-! ### The checks of a run (R320) -/

/-- The reason of the first check that fails, in the table's order. -/
def State.calCheck (s : State) (r : CalRunSt) (starting : Bool) : Option Nat :=
  let t := r.type_
  let us := r.units
  let elems := us.map s.elem
  let legs := us.flatMap fun e => (s.active.legsThrough e).map fun p => p.1
  let checks : List (Bool × Nat) := [
    (s.stopped1 || !(s.awake || starting || decide (s.forge.state = .waking)), 4),
    (decide (t = 1 ∨ t = 2 ∨ t = 3 ∨ t = 4 ∨ t = 8) && !s.steady (zoneSensors 0), 3),
    (decide (t = 5 ∨ t = 6 ∨ t = 7) && !s.steady r.fabricSensors, 3),
    (decide (t = 1) && !decide (s.ladder.state = 2 ∨ s.ladder.state = 4), 17),
    (decide (t = 2 ∨ t = 5 ∨ t = 6) && decide (s.ladder.state ≠ 2), 17),
    (decide (t = 2 ∨ t = 5 ∨ t = 6) && !s.loopsStarted, 7),
    (decide (t = 2 ∨ t = 5 ∨ t = 6) && (elems.any (fun x => decide (x.mode = .faulted ∨ x.mode = .manual))
      || us.any fun e => decide ((s.chan e).causes ≠ 0)), 8),
    (decide (t = 2 ∨ t = 5 ∨ t = 6 ∨ t = 7) && (decide (s.keeper.state = .init ∨ s.keeper.state = .failStatic)
      || decide (s.keeper.failovers ≠ r.failovers)), 9),
    (decide (t = 1 ∨ t = 2 ∨ t = 5 ∨ t = 6 ∨ t = 8) && s.clear.asserted, 10),
    (calMoves t && (decide (s.sched.state ≠ .idle) || s.runInBatch r), 6),
    (decide (t = 5) && (!legs.isEmpty || us.any fun e =>
      decide (9728 ≤ e) && decide (e < 10752) && s.active.allShadows.contains (e - 9728)), 5),
    (decide (t = 6) && legs.any s.active.protected_, 2),
    (decide (t = 6) && !legs.isEmpty && !(decide (r.flags = 1) && (starting || s.movingAway)), 5),
    (decide (t = 6) && !s.calRoute r, 18),
    (decide (t = 6) && (decide (s.active.portRole r.source ≠ 0)
      || decide (s.sourceLight r.source < -2560) || decide (3840 < s.sourceLight r.source)
      || (!starting && decide (64 < (s.sourceLight r.source - r.sourcePower).natAbs))), 1),
    (decide (t = 7) && ((s.buoy (r.first / 32)).slow
      || (mapGet s.dets r.first {}).samples.any (fun c => decide (4095 ≤ c))
      || (!starting && decide (25 < ((mapGet s.dets r.first {}).power - r.sourcePower).natAbs))), 12),
    (decide (t = 8) && us.any fun a => decide ((s.auxOut a).state ≠ .off), 5)]
  ((checks.filter fun c => c.1).head?).map fun c => c.2

/-! ### The end of a run (R321, R322, R325) -/

/-- The unit of a run's record and events: 0xFFFF for more than one. -/
def CalRunSt.unitNo (r : CalRunSt) : Nat := if r.count = 1 then r.first else 0xFFFF

/-- The unit in progress, the last one where all are done. -/
def State.calUnitNow (s : State) (r : CalRunSt) : Nat := r.first + min s.cal.step (r.count - 1)

/-- A calibration event's payload (R438). -/
def calPayload (type_ result reason unit : Nat) : List Byte := [byte type_, byte result, byte reason, 0#8] ++ leBytes 2 unit

/-- A CALIBRATION record (R261). -/
def calRecord (type_ result slot reason seq unit : Nat) (s : State) : State :=
  audit 0x0A ([byte type_, byte result, byte slot, byte reason] ++ leBytes 4 seq ++ leBytes 2 unit) s

/-- The last result of a type. -/
def setResult (type_ result reason : Nat) (s : State) : State :=
  s.setCalType type_ { s.calType type_ with lastResult := result, lastReason := reason }

/-- An element of a run that has ended moves to its route target in TRANSIT (R322). -/
def freeElem (e : Nat) (s : State) : State :=
  let x := s.elem e
  if !x.reserved then s
  else if x.mode = .hold ∨ x.mode = .transit then
    let t := s.routeTarget s.active e
    enterTransit e t t s
  else s.setElem e { x with reserved := false, parkAfter := false, nextMode := none }

/-- The elements of runs that have ended are moved back in turn: the next goes once the one before it has settled, and
none while the drive is frozen (R144, R322). -/
def freeNext (s : State) : State :=
  match s.cal.freeing.dropWhile fun e => !(s.elem e).reserved with
  | [] => { s with cal := { s.cal with freeing := [] } }
  | e :: rest =>
    let s1 := { s with cal := { s.cal with freeing := e :: rest } }
    if (s.elem e).mode = .transit ∨ s.clearing then s1 else freeElem e s1

/-- A LADDER run puts the in-service cell of the level it substituted back, unless it has retired (R318). -/
def State.ladderBase (s : State) : List Nat :=
  match s.cal.subst with
  | none => s.ladder.wanted
  | some (j, c) => if s.ladder.retired.contains c then s.ladder.wanted else s.ladder.wanted.set j c

/-- The end of a substitution, at the next transit boundary (R193, R318). -/
def endSubst (s : State) : State :=
  if s.cal.subst.isNone then s
  else { s with ladder := { s.ladder with pendingSel := some s.ladderBase }, cal := { s.cal with subst := none } }

/-- The standby user slot of a type, and the SEQ that a store gives it (R316). -/
def CalType.standby (c : CalType) : Nat := if c.inForce = some 0 then 1 else 0
def CalType.seqInForce (c : CalType) : Nat := match c.inForce with | none => 0 | some n => (c.slot n).seq

/-- The storing of a run's results, or of a neutral slot, begins: the standby slot is erased (R316). -/
def startStore (r : CalRunSt) (s : State) : State :=
  let c := s.calType r.type_
  let k := c.standby
  let s1 := s.setCalType r.type_ (c.setSlot k {})
  { s1 with cal := { s1.cal with state := 4, run := some { r with slot := k } } }

/-- The next type whose neutral slot waits to be stored (R326). -/
def nextClear (s : State) : State :=
  match s.cal.queued with
  | [] => s
  | t :: rest =>
    startStore { type_ := t, flags := 0, first := 0, count := calUnits t, source := 0xFFFF, refPower := 0, started := s.now, clear := true }
      { s with cal := { s.cal with queued := rest } }

/-- The converters that a run uses (R349). -/
def CalRunSt.converters (r : CalRunSt) : List Nat := if r.clear then [] else if r.type_ = 4 then r.units else if r.type_ = 1 then [0] else []

/-- A run ends with a result: its record, its elements, and what waits behind it. -/
def endRun (r : CalRunSt) (result slot reason seq : Nat) (s : State) : State :=
  let s0 := endSubst (forEach hkcGive r.converters s)
  let s1 := calRecord r.type_ result slot reason seq r.unitNo (setResult r.type_ result reason s0)
  let back := if calMoves r.type_ ∧ !r.clear then r.units else []
  nextClear (freeNext { s1 with cal := { s1.cal with
    run := none, state := 0, step := 0, steps := 0, ticks := 0, notches := 0, freeing := s1.cal.freeing ++ back } })

/-- A run is aborted: partial results are discarded, a store under way stops, and the standby slot that it wrote fails
its check from then on (R321). -/
def abortRun (r : CalRunSt) (reason unit : Nat) (s : State) : State :=
  let c := s.calType r.type_
  let s1 := if 4 ≤ s.cal.state then s.setCalType r.type_ (c.setSlot r.slot {}) else s
  raiseEv 0x072 (calPayload r.type_ 2 reason unit) (endRun r 2 0xFF reason 0 s1)

/-! ### Starting (R319, R322) -/

/-- A named element is reserved; a PARKED one is taken into HOLD. -/
def reserveElem (e : Nat) (s : State) : State :=
  let x := s.elem e
  s.setElem e { x with reserved := true, parkAfter := decide (x.mode = .parked) || (x.reserved && x.parkAfter)
                       nextMode := if x.mode = .parked then some .hold else x.nextMode }

/-- With ALLOW_DISTURB, legs on the named elements are moved away by one batch on session 30 (R322); a plan
that cannot place them aborts the run. `planNs` is the time that the plan takes. -/
def moveAway (r : CalRunSt) (planNs : Nat) (s : State) : State :=
  let legs := sortNums (r.units.flatMap fun e => (s.active.legsThrough e).map fun p => p.1)
  if r.type_ ≠ 6 ∨ legs.isEmpty then s
  else
    let ahead := s.pendingBefore s.nextBoundary
    let basis := cfgAfter s.active ahead
    let s1 := countPlan planNs s
    match (if s.pendingBatches.length < 16 then (s.planMove true basis legs).cfg else none) with
    | none => abortRun r 5 r.unitNo s1
    | some d => submitMoves { id := 0 } (s.generationPlus ahead.length) planNs basis { cfg := d, placed := legs } s1

/-- The Forge is awake: the run begins to measure, and its batch is planned (R319, R322). -/
def beginMeasure (r : CalRunSt) (s : State) : State := moveAway r r.planNs { s with cal := { s.cal with state := 2 } }

/-- CAL_RUN (R319, R320, R322). -/
def execCalRun (ses : Nat) (value : List Byte) (planNs : Nat) (s : State) : Outcome :=
  .next (gated ses 0x3200 1 value (fun s =>
    if runBad value then reply ses stRange s
    else if s.cal.run.isSome then reply ses stNotEligible s
    else
      let r0 := parseRun value
      let r := { r0 with
        started := s.now, failovers := s.keeper.failovers
        planNs := planNs
        sourcePower := if r0.type_ = 6 then s.sourceLight r0.source else (mapGet s.dets r0.first {}).power }
      let c := s.calType r.type_
      match s.calCheck r true with
      | some reason =>
        reply ses stPrecondition (calRecord r.type_ 2 0xFF reason 0 r.unitNo
          (s.setCalType r.type_ { c with lastTime := s.now, lastResult := 2, lastReason := reason }))
      | none =>
        let s1 := s.setCalType r.type_ { c with
          runs := (c.runs + 1) % 4294967296, lastTime := s.now, lastResult := 7, lastReason := 0 }
        let s2 := { s1 with cal := { s1.cal with
          state := 1, run := some r, step := 0, steps := r.count, ticks := 0
          freeing := if calMoves r.type_ then s1.cal.freeing.filter (fun e => !r.units.contains e) else s1.cal.freeing } }
        let s3 := raiseEv 0x070 (calPayload r.type_ 7 0 r.unitNo) s2
        let s4 := wakeForge (forEach hkcTake r.converters (if calMoves r.type_ then forEach reserveElem r.units s3 else s3))
        reply ses stOk (if s4.awake then beginMeasure r s4 else s4)) s)

/-- CAL_ABORT (R319). -/
def execCalAbort (ses : Nat) (value : Nat) (s : State) : Outcome :=
  .next (gated ses 0x3200 2 (valBytes 1 value) (fun s =>
    match s.cal.run with
    | none => reply ses stOk s
    | some r => if value = 1 ∧ !r.clear then reply ses stOk (abortRun r 11 (s.calUnitNow r) s) else reply ses stOk s) s)

/-- CAL_PRECONDITION_FAIL (R320, R321): a check of a run in progress fails. -/
def execCalPreconditionFail (reason unit : Nat) (s : State) : Outcome :=
  .next (match s.cal.run with
    | none => s
    | some r =>
      if !r.clear ∧ s.calCheck r false = some reason then abortRun r reason unit s else s)

/-! ### Plausibility (R323, R324) -/

/-- A factory F32 field, and the F32 delta of a unit's new entry. -/
def State.facF (s : State) (t u off : Nat) : F64 := f64OfF32 (f32Bits (s.fac t u off 4))
def delF (b : List Byte) (off : Nat) : F64 := f64OfF32 (f32Bits (leAt b off 4))

/-- A per-mille part of a number, and whether a delta stays within a bound. -/
def perMille (k : Nat) (v : F64) : F64 := f64Div (f64Mul (f64OfInt k) (f64Abs v)) (f64OfInt 1000)
def within (d bound : F64) : Bool := f64Le (f64Abs d) bound

/-- 0.0005. -/
def half3 : F64 := f64Ratio 1 2000

/-- The value that a new entry gives an F32 field. -/
def State.newF (s : State) (t u off : Nat) (b : List Byte) : F64 :=
  f64OfF32 (f32Add (f32Bits (s.fac t u off 4)) (f32Bits (leAt b off 4)))

/-! What an ELEM_OPTICAL run measured of an element (R318): `dev` holds, for each of the 65 travels, the outbound power at
the cross side and at the bar side, in one linear unit. -/

/-- The power at the cross side, and the sum of both, at travel `i`. -/
def sweepCross (dev : List Int) (i : Nat) : Nat := (dev.getD (2 * i) 0).toNat
def sweepSum (dev : List Int) (i : Nat) : Nat := sweepCross dev i + (dev.getD (2 * i + 1) 0).toNat

/-- η at travel `i` is less than η at travel `j`. -/
def etaLess (dev : List Int) (i j : Nat) : Bool :=
  decide (sweepCross dev i * sweepSum dev j < sweepCross dev j * sweepSum dev i)

/-- The travels of least and of greatest η, the lower of equals. -/
def sweepBar (dev : List Int) : Nat := (numbers 0 65).foldl (fun b i => if etaLess dev i b then i else b) 0
def sweepTop (dev : List Int) : Nat := (numbers 0 65).foldl (fun b i => if etaLess dev b i then i else b) 0

/-- η at travel `i` as a map entry, Q0.16. -/
def sweepEntry (dev : List Int) (i : Nat) : Nat :=
  min 65535 (roundDiv (sweepCross dev i * 65536) (max 1 (sweepSum dev i))).toNat

/-- An ELEM_OPTICAL result: its entry follows from the sweep. -/
def State.opticalUnit (s : State) (u : CalUnit) : CalUnit :=
  let e := u.unit
  let d (a b : Nat) : List Byte := leBytes 2 (intBits 16 ((a : Int) - b))
  { u with body := d (etaTravel (sweepBar u.dev)) (s.facBar e) ++ d (etaTravel (sweepTop u.dev)) (s.facCross e)
      ++ ((numbers 0 65).flatMap fun i => d (sweepEntry u.dev i) (s.fac 6 e (4 + 2 * i) 2)) ++ [0#8, 0#8] }

/-- A list of numbers never falls. -/
def rises : List F64 → Bool
  | a :: b :: rest => f64Le a b && rises (b :: rest)
  | _ => true

/-- A number lies in a range of thousandths. -/
def between (lo hi : Nat) (v : F64) : Bool := f64Le (f64Ratio lo 1000) v && f64Le v (f64Ratio hi 1000)

/-- A unit's results keep their band around the factory values. -/
def State.inBand (s : State) (t : Nat) (u : CalUnit) : Bool :=
  let b := u.body
  let n := u.unit
  if t = 2 then within (delF b 4) (perMille 20 (s.facF 2 n 4)) && within (delF b 8) (f64OfInt 256)
  else if t = 4 then (numbers 0 4).all fun g =>
    decide ((bitsInt 32 (leAt b (8 * g) 4)).natAbs ≤ 64) && within (delF b (8 * g + 4)) (perMille 5 (s.facF 4 n (8 * g + 4)))
  else if t = 5 then
    ((numbers 0 128).all fun i => within (delF b (4 * i)) (f64Max half3 (perMille 100 (s.facF 5 n (4 * i)))))
      && ((numbers 128 32).all fun i => within (delF b (4 * i)) half3)
      && ((numbers 160 8).all fun i => within (delF b (4 * i)) (perMille 80 (s.facF 5 n (4 * i))))
  else if t = 6 then
    let near (x y k : Nat) : Bool := decide (((x : Int) - y).natAbs ≤ k)
    near (etaTravel (sweepBar u.dev)) (s.facBar n) 1311 && near (etaTravel (sweepTop u.dev)) (s.facCross n) 1311
      && ((numbers 0 65).all fun i => near (sweepEntry u.dev i) (s.fac 6 n (4 + 2 * i) 2) 3276)
  else if t = 7 then within (delF b 0) (f64OfInt 1)
  else if t = 8 then (numbers 0 3).all fun g =>
    within (delF b (8 * g)) (perMille 10 (s.facF 8 n (8 * g))) && within (delF b (8 * g + 4)) (f64Ratio (1048575 * 2) 1000)
  else true

/-- The reference capacitor closest to the median of the three that a SENSE run measured (R318), the first of equals;
`dev` holds them in parts per million of their nominal value. -/
def senseCap (dev : List Int) : Nat :=
  let d (i : Nat) : Int := dev.getD i 0
  let mid := max (min (d 0) (d 1)) (min (max (d 0) (d 1)) (d 2))
  if d 0 = mid then 0 else if d 1 = mid then 1 else 2

/-- The cumulative delay in ps of the first cells up to cell `c` that an INTERPOLATOR run measured; `dev` holds the
delay of each of the 12. -/
def tapDelay (dev : List Int) (c : Nat) : Int := (dev.take (c + 1)).sum

/-- The 8 cells whose cumulative delays lie nearest to multiples of 250 ps (R318), the lower of equals. -/
def pickTaps (dev : List Int) : List Nat :=
  (numbers 1 8).map fun k => (leastBy (fun c => (tapDelay dev c - 250 * k).natAbs) (numbers 0 12)).getD 0

/-- The 8 bins in ps between the cells chosen. -/
def tapBins (dev : List Int) : List Int :=
  let at_ : List Int := (pickTaps dev).map (tapDelay dev)
  (numbers 0 8).map fun k => at_.getD k 0 - (if k = 0 then 0 else at_.getD (k - 1) 0)

/-- The error in mV of a cell at a level that a LADDER run measured. -/
def ladderErr (u : CalUnit) (c j : Nat) : Int := u.dev.getD (16 * c + j) 0

/-- The cells that a LADDER run selects, and the voltage in mV that it measured of level `j` (R191). -/
def ladderPick (u : CalUnit) : List Nat := pickCells (ladderErr u) 0 16 []
def ladderMv (u : CalUnit) (j : Nat) : Int := 3000 * (j : Int) + ladderErr u ((ladderPick u).getD j 0) j

/-- A unit's results keep the physical bounds. `dev` holds what its entry does not: for LADDER the error in mV of each
cell at each level; for ELEM_OPTICAL the sweep; for SENSE the three reference capacitors and the carrier return, in parts per million; for
INTERPOLATOR the delays of the 12 cells in ps; for AUX what the stage reaches of the span in each range, in parts per
million. -/
def State.physical (s : State) (t : Nat) (u : CalUnit) : Bool :=
  let b := u.body
  let n := u.unit
  let d (i : Nat) : Int := u.dev.getD i 0
  if t = 1 then
    ((numbers 0 16).all fun j => decide ((ladderMv u j - 3000 * j).natAbs ≤ 150))
      && ((numbers 0 15).all fun j => decide ((ladderMv u (j + 1) - ladderMv u j - 3000).natAbs ≤ 30))
  else if t = 2 then
    let c := senseCap u.dev
    ((numbers 0 3).any fun i => decide (i ≠ c) && decide ((d i - d c).natAbs * 1000 ≤ 2 * (d c).natAbs))
      && decide (500000 ≤ d 3)
  else if t = 3 then (tapBins u.dev).all (fun x => decide (190 ≤ x ∧ x ≤ 310))
    && decide (((tapBins u.dev).sum - 2000).natAbs ≤ 20)
  else if t = 4 then
    let r := f64Div (s.newF 4 n 28 b) (s.newF 4 n 4 b)
    between 7950 8050 r
  else if t = 5 then
    rises ((numbers 0 64).map fun i => s.newF 5 n (8 * i) b)
      && between 380000 620000 (s.newF 5 n 640 b)
      && ((numbers 161 7).all fun i => f64Le (f64OfInt 150) (s.newF 5 n (4 * i) b))
      && between 5 200 (s.newF 5 n 672 b)
  else if t = 6 then
    let bar := sweepBar u.dev
    let top := sweepTop u.dev
    decide (etaTravel bar ≤ 1311) && decide (43253 ≤ etaTravel top ∧ etaTravel top ≤ 48496)
      && ((numbers bar (top - bar)).all fun i => etaLess u.dev i (i + 1))
      && decide (sweepCross u.dev bar * 100000 ≤ sweepSum u.dev bar)
      && decide (sweepSum u.dev top * 99999 ≤ sweepCross u.dev top * 100000)
  else if t = 7 then f64Le (f64Abs (s.newF 7 n 4 b)) (f64Ratio 1 2)
  else (numbers 0 3).all fun g => decide (999000 ≤ d g)

/-- A LADDER result: `dev` holds the measured errors, from which the cells are selected (R191) and the entry follows,
its level voltages as deltas to the factory's (R312, R314). -/
def State.ladderUnit (s : State) (u : CalUnit) : CalUnit :=
  { u with body := (ladderPick u).map byte ++ (numbers 0 16).flatMap fun j =>
      leBytes 2 (intBits 16 (ladderMv u j - s.fac 1 0 (16 + 2 * j) 2)) }

/-- A measured entry has the bytes that the table gives its type (R314). -/
def fitEntry (t : Nat) (b : List Byte) : List Byte := (b ++ (neutralEntry t).drop b.length).take (slotPlace t).2.2

/-- A unit's result as it is checked and stored: the selections of a LADDER, SENSE or INTERPOLATOR run, and the entry of
an ELEM_OPTICAL one, follow from what was measured (R191, R318). -/
def State.selected (s : State) (t : Nat) (u : CalUnit) : CalUnit :=
  if t = 1 then s.ladderUnit u
  else if t = 6 then s.opticalUnit u
  else if t = 2 then { u with body := byte (senseCap u.dev) :: (fitEntry 2 u.body).drop 1 }
  else if t = 3 then
    let c (i : Nat) : Nat := (pickTaps u.dev).getD i 0
    { u with body := ((numbers 0 4).map fun i => byte (c (2 * i) + 16 * c (2 * i + 1))) ++ List.replicate 4 0#8 }
  else { u with body := fitEntry t u.body }

/-- The results of a run, one for each of its units; a unit of which nothing was measured keeps its entry. -/
def State.resultsOf (s : State) (r : CalRunSt) (res : CalOutcome) : List CalUnit :=
  r.units.map fun u =>
    s.selected r.type_ (((res.units.filter fun x => decide (x.unit = u)).head?).getD ⟨u, [], s.userEntry r.type_ u⟩)

/-- The reason and unit of the first result outside its limits. -/
def State.firstBad (s : State) (t : Nat) : List CalUnit → Option (Nat × Nat)
  | [] => none
  | u :: rest =>
    if !s.inBand t u then some (13, u.unit) else if !s.physical t u then some (14, u.unit) else s.firstBad t rest

/-- The slots that a run's ELEM_NOTCH_NEED values would take exceed the free ones (R324). -/
def State.notchNeeds (s : State) (us : List CalUnit) : List CalUnit :=
  us.filter fun u => decide (leAt u.body 676 1 = 1) && (s.elem u.unit).notch.isNone
def State.poolShort (s : State) (us : List CalUnit) : Option Nat :=
  ((s.notchNeeds us).drop (512 - s.notches.length)).head?.map fun u => u.unit

/-- The mean temperature of a run's zone, Q8.8 °C (R313): of the controller die, or of the fabric die sensors of the stages
involved. -/
def State.zoneTemp (s : State) (r : CalRunSt) : Int :=
  let l := if r.type_ = 5 ∨ r.type_ = 6 ∨ r.type_ = 7 then r.fabricSensors else zoneSensors 0
  roundDiv (l.map fun i => (s.sensor i).f).sum (16 * max 1 l.length)

/-- An element of a run is driven to a travel, as a write of ELEM_TARGET_SET drives it (R322). -/
def sweepTo (t : Nat → Nat) (e : Nat) (s : State) : State :=
  if (s.elem e).mode = .hold ∧ (s.elem e).reserved ∧ !s.clearing then queueTarget e (t e) none s else s

/-- The named elements stand at their route targets again when measuring ends. -/
def sweepBack (us : List Nat) (s : State) : State := forEach (sweepTo fun e => s.routeTarget s.active e) us s

/-- CAL_MEASURE_DONE (R323, R324): the results are checked in full, and stored or rejected. -/
def execCalMeasureDone (res : CalOutcome) (s : State) : Outcome :=
  .next (match s.cal.run with
    | none => s
    | some r =>
      if s.cal.state ≠ 2 ∨ r.clear ∨ !s.awake then s
      else match s.calCheck r false with
      | some reason => abortRun r reason (s.calUnitNow r) s
      | none =>
        let us := s.resultsOf r res
        let r1 := { r with results := us, temp := s.zoneTemp r }
        let s0 := endSubst (if calMoves r.type_ then sweepBack r.units s else s)
        let s1 := { s0 with cal := { s0.cal with step := r.count, state := 3 } }
        let bad := match s.firstBad r.type_ us with
          | some b => some b
          | none => if r.type_ = 5 then (s.poolShort us).map fun u => (15, u) else none
        match bad with
        | some (reason, unit) =>
          raiseEv 0x073 (calPayload r.type_ 3 reason unit) (endRun r1 3 0xFF reason 0 s1)
        | none => startStore r1 { s1 with cal := { s1.cal with notches := if r.type_ = 5 then (s.notchNeeds us).length else 0 } })

/-! ### Storing and swapping (R316, R326) -/

/-- The entries that a run stores: the slot in force with the run's units replaced; none when clearing. -/
def CalRunSt.entries (r : CalRunSt) (c : CalType) : SMap (List Byte) :=
  if r.clear then []
  else
    let base := match c.inForce with | none => [] | some n => (c.slot n).entries
    r.results.foldl (fun m u => mapPut m u.unit u.body) base

/-- CAL_STORE_DONE (R316, R320): the standby slot has been written and read back. A neutral slot carries the factory slot's
TEMP, with which its values were measured (DESIGN CHOICE, log 50). -/
def execCalStoreDone (verified : Bool) (s : State) : Outcome :=
  .next (match s.cal.run with
    | none => s
    | some r =>
      if s.cal.state ≠ 4 then s
      else match (if r.clear then none else s.calCheck r false) with
      | some reason => abortRun r reason (s.calUnitNow r) s
      | none =>
        let c := s.calType r.type_
        let slot : CalSlot := { seq := (c.seqInForce + 1) % 4294967296, valid := verified, time := r.started
                                first := r.first, count := r.count
                                temp := if r.clear then bitsInt 16 (s.fac r.type_ 0xFFFF 28 2) else r.temp
                                entries := r.entries c }
        let s1 := s.setCalType r.type_ (c.setSlot r.slot { slot with check := slot.checkOf r.type_ r.slot })
        if verified then { s1 with cal := { s1.cal with state := 5, run := some { r with stored := true } } }
        else raiseEv 0x074 (calPayload r.type_ 4 16 r.unitNo) (endRun r 4 r.slot 16 slot.seq s1))

/-- ELEM_NOTCH_NEED of new tables comes into force (R67): an element that now holds a slot permanently takes one, and one
that no longer does keeps it only while it is in a split state. -/
def notchNeed (e : Nat) (s : State) : State :=
  match (s.elem e).notch with
  | none => if s.notchAlways e then assignNotch e 2 (s.resonance e 0) s else s
  | some n =>
    if s.notchAlways e then s.setNotch n { s.notch n with use := 2, leaving := false }
    else if (s.notch n).use = 2 then
      let s1 := s.setNotch n { s.notch n with use := 1, leaving := !(s.active.route e).isSplit }
      if (s.elem e).mode = .transit then s1 else releaseNotch e s1
    else s

/-- New element terms come into force (R127, R147, R181): a hand-over, offsets discarded, and TRIMMING legs through
the element return to SETTLING. An element that stood at its route's old target takes the new one (R130). -/
def swapElem (t e old : Nat) (s : State) : State :=
  let x := s.elem e
  let s1 := s.setElem e { x with rehand := if x.mode.runs then some true else none }
  let s2 := forEach (fun id v => v.setLeg id { v.leg id with
      toSettling := (v.leg id).toSettling || decide ((v.leg id).trim = .trimming ∨ (v.leg id).trim = .suspended) })
    ((s1.active.legsThrough e).map fun p => p.1) (discardOffset e s1)
  let s3 := if x.mode.runs ∧ !x.reserved ∧ (s2.elem e).target = old then queueTarget e (s2.offsetTarget e) none s2 else s2
  if t = 5 then notchNeed e s3 else s3

/-- The stored results become active (R316). -/
def applyCal (r : CalRunSt) (s : State) : State :=
  let c := s.calType r.type_
  let s1 := s.setCalType r.type_ { c with inForce := some r.slot, userLost := false }
  if r.type_ = 1 then
    let errs : Option (List Int) := match r.results with
      | u :: _ => if r.clear then none else some ((numbers 0 384).map fun i => u.dev.getD i 0)
      | [] => none
    if s1.ladder.state = 4 ∧ !r.clear then
      -- after LADDER_FAIL the ladder restarts, and has still to pass its check (R195)
      let s2 := swapLadder s1.calCells errs s1
      { s2 with ladder := { s2.ladder with state := 1, checking := true, deglitchAt := none } }
    else { s1 with ladder := { s1.ladder with calSel := some (s1.calCells, errs) } }
  else if calMoves r.type_ then forEach (fun e t => swapElem r.type_ e (s.offsetTarget e) t) r.units { s1 with cal := { s1.cal with notches := 0 } }
  else s1

/-- CAL_SWAP (R316, R325): at the first hold boundary after the read-back. -/
def execCalSwap (s : State) : Outcome :=
  .next (match s.cal.run with
    | none => s
    | some r =>
      if s.cal.state ≠ 5 ∨ !(s.atHold || s.holdDue) then s
      else match (if r.clear then none else s.calCheck r false) with
      | some reason => abortRun r reason (s.calUnitNow r) s
      | none =>
        let s1 := applyCal r s
        let c := s1.calType r.type_
        let seq := c.seqInForce
        if r.clear then endRun r 6 r.slot 0 seq s1
        else
          let s2 := s1.setCalType r.type_ { c with successes := (c.successes + 1) % 4294967296 }
          raiseEv 0x071 (calPayload r.type_ 1 0 r.unitNo) (endRun r 1 r.slot 0 seq s2))

/-- CAL_USER_CLEAR (R326): a neutral user slot is stored; quiescent while a run of the type is in progress. -/
def execCalUserClear (ses : Nat) (type_ : Nat) (s : State) : Outcome :=
  .next (gated ses 0x3200 7 (valBytes 1 type_) (fun s =>
    match s.cal.run with
    | some r =>
      if r.type_ = type_ then reply ses stBusy s
      else reply ses stOk { s with cal := { s.cal with queued := s.cal.queued ++ [type_] } }
    | none => reply ses stOk (nextClear { s with cal := { s.cal with queued := [type_] } })) s)

/-! ### The course of a run (R318, R320, R322)

A run measures in steps, which it takes one after another; the model gives each the time that R318 sets as its most
(DESIGN CHOICE, log 50). CAL_MEASURE_DONE may come earlier. -/

/-- The hold periods that a group of units takes, and the units that are measured together. -/
def calPace (t : Nat) : Nat × Nat :=
  if t = 1 then (6250, 1) else if t = 2 then (1024, elemCount) else if t = 3 then (250000, 142) else if t = 4 then (250, 1)
  else if t = 5 then (5000, 1024) else if t = 6 then (425, 1) else if t = 7 then (12500, 1) else (2500, 1)

/-- CAL_STEP after `k` hold periods. -/
def CalRunSt.stepAt (r : CalRunSt) (k : Nat) : Nat := min r.count (k / (calPace r.type_).1 * (calPace r.type_).2)

/-- The units of a run that are measured in the `k`-th hold period. -/
def CalRunSt.group (r : CalRunSt) (k : Nat) : List Nat :=
  (r.units.drop (k / (calPace r.type_).1 * (calPace r.type_).2)).take (calPace r.type_).2

/-- Travel `i` of the sweep of element `e`: of the 65 of R315, or of 64 across the element's window. -/
def State.sweepTravel (s : State) (t e i : Nat) : Nat :=
  if t = 6 then etaTravel i
  else s.prof e 0x0C + i * (s.prof e 0x0D - s.prof e 0x0C) / 63

/-- The elements of a run follow their sweep: each group is driven through its travels, and then back. -/
def sweepStep (r : CalRunSt) (k : Nat) (s : State) : State :=
  let per := (calPace r.type_).1
  let n := if r.type_ = 6 then 65 else 64
  let s1 := if k % per = 0 ∧ per ≤ k then sweepBack (r.group (k - per)) s else s
  if k % per * n % per < n then forEach (sweepTo fun e => s.sweepTravel r.type_ e (k % per * n / per)) (r.group k) s1 else s1

/-- A LADDER run substitutes a spare for the cell of each level in turn (R193, R318). -/
def substStep (k : Nat) (s : State) : State :=
  if k % 390 ≠ 0 ∨ s.ladder.state ≠ 2 then s
  else
    let s1 := endSubst s
    let sel := s1.ladder.wanted
    let j := k / 390
    match (if j < 16 then s1.ladder.bestSpare j (sel.getD j 0) (s1.ladder.free sel) else none) with
    | none => s1
    | some c => { s1 with
        ladder := { s1.ladder with pendingSel := some (sel.set j c) }
        cal := { s1.cal with subst := some (j, sel.getD j 0) } }

/-- A hold period of measuring ends. -/
def measureStep (r : CalRunSt) (s : State) : State :=
  let k := s.cal.ticks
  let s1 := if calMoves r.type_ then sweepStep r k s else if r.type_ = 1 then substStep k s else s
  { s1 with cal := { s1.cal with ticks := k + 1, step := max s1.cal.step (r.stepAt (k + 1)) } }

/-- The work of calibration at a hold boundary: the elements of runs that have ended go back, and a run in progress is
checked and takes its course. -/
def calTick (s : State) : State :=
  let s1 := if s.cal.freeing.isEmpty then s else freeNext s
  match s1.cal.run with
  | none => s1
  | some r =>
    if r.clear ∨ !s1.boot.firmware then s1
    else match s1.calCheck r (decide (s1.cal.state = 1)) with
    | some reason => abortRun r reason (s1.calUnitNow r) s1
    | none =>
      if s1.cal.state = 1 then (if s1.awake then beginMeasure r s1 else s1)
      else if s1.cal.state = 2 then measureStep r s1
      else s1

/-! ### Boot (R317, R325) -/

/-- A slot is examined at boot: an invalid one is reported (R317). -/
def bootSlot (t layer k : Nat) (s : State) : State :=
  let c := s.calType t
  if (if layer = 0 then c.factoryGood k else c.slotGood t k) then s
  else calRecord t 8 k 0 0 0xFFFF (raiseEv 0x075 [byte t, byte layer, byte k, 0#8, 0xFF#8, 0xFF#8] s)

/-- The slots of a type are chosen: the valid one with the higher SEQ; a run that boot finds IN_PROGRESS was
INTERRUPTED. -/
def bootType (unit t : Nat) (s : State) : State :=
  let s1 := bootSlot t 1 1 (bootSlot t 1 0 (bootSlot t 0 1 (bootSlot t 0 0 s)))
  let c := s1.calType t
  let pick : Option Nat :=
    if c.slotGood t 0 ∧ c.slotGood t 1 then some (if c.user0.seq < c.user1.seq then 1 else 0)
    else if c.slotGood t 0 then some 0 else if c.slotGood t 1 then some 1 else none
  let s2 := s1.setCalType t { c with inForce := pick, userLost := !c.slotGood t 0 || !c.slotGood t 1 }
  if c.lastResult = 7 then calRecord t 5 0xFF 0 0 unit (setResult t 5 0 s2) else s2

/-- Calibration at boot: every type's slots, and the factory layers. -/
def bootCal (s : State) : State :=
  let unit := match s.cal.run with | none => 0xFFFF | some r => r.unitNo
  let s1 := forEach (fun k v => bootSlot 9 0 k v) [0, 1] (forEach (bootType unit) (numbers 1 8) { s with cal := { s.cal with
    state := 0, run := none, queued := [], ticks := 0, freeing := [], subst := none, notches := 0 } })
  let bad := (numbers 1 9).filter fun t => !(s1.calType t).factoryValid
  let s2 := forEach (fun t v => raiseEv 0x076 (calPayload t 0 0 0xFFFF) v) bad s1
  { s2 with boot := { s2.boot with calUsable := !(bad.any fun t => decide (t = 1 ∨ t = 2 ∨ t = 5 ∨ t = 6 ∨ t = 9)) } }

end Sys2Proof.Machine
end

