-- ==== Sys2Proof/Machine/Banks.lean ====
section
/-!
DEFINITION. Writes of BANK_CTRL: hand-overs and retention (R353, R358 to R361).
-/

namespace Sys2Proof.Machine

/-- A hand-over of the bank is under way. -/
def State.handingOver (s : State) (b : Nat) : Bool := (s.bank b).pendingSince.isSome

/-- The offset of the status register whose WRITE_REJECT a bank's rejected write sets. -/
def rejectBank (w : Writer) (b : Nat) (s : State) : State := rejectWrite (bankStatusOff b) w (bankCtrlOff b) s

/-- A write of BANK_CTRL is ignored: of the fixed fields of a Quench bank, of SHARE while the bank has an
owner, of NEW_OWNER while a hand-over runs or to no owner code, or of RET 1 to a bank that may not be
retained (R22, R358, R360, R361). -/
def State.bankWriteBad (s : State) (b v : Nat) : Bool :=
  let old := s.bankCtrl b
  let differs (lo w : Nat) : Bool := decide (field v lo w ≠ field old lo w)
  let o := field v 16 4
  (decide (62 ≤ b) && (differs 16 4 || differs 8 2 || differs 1 1 || differs 3 1))
    || (differs 8 2 && decide (s.bankOwner b ≠ 0xF))
    || (differs 16 4 && (s.handingOver b || decide (o = 12 ∨ o = 14)))
    || (v.testBit 1 && !old.testBit 1 && (privatePort b || decide (61 ≤ b)))

/-- RET takes effect: entering retention, or waking (R361). -/
def bankRetain (b : Nat) (ret : Bool) (s : State) : State :=
  let k := s.bank b
  if ret then (if k.power = 0 then s.setBank b { k with power := 1 } else s)
  else if k.retainedByForge then s
  else if k.power = 1 then s.setBank b { k with power := 0 }
  else if k.power = 2 then s.setBank b { k with power := 3 } else s

/-- A write of BANK_CTRL: a change of NEW_OWNER starts a hand-over (R358); RET and the other live fields wait for the
transit boundary (R21). -/
def writeBankCtrl (w : Writer) (b v : Nat) (s : State) : State :=
  if !s.power.watchOn then s
  else if s.bankWriteBad b v then rejectBank w b s
  else
    let old := s.bankCtrl b
    let now := setField (setField old 16 4 (field v 16 4)) 8 2 (field v 8 2)
    let s1 := waitSetting .banks true (bankCtrlOff b) v 0 (s.setReg (bankCtrlOff b) now)
    if field v 16 4 = s.bankOwner b ∨ s.handingOver b then s1
    else s1.setBank b { s1.bank b with pendingSince := some s1.time.elapsed }

/-- BANK_OWNER_WRITE (R358): a write of BANK_CTRL. -/
def execBankOwnerWrite (w : Writer) (b : Nat) (value : Word) (s : State) : Outcome :=
  .next (if b < 64 then writeBankCtrl w b value.toNat s else s)

/-- BANK_RET_WRITE (R361): a write of BANK_CTRL that changes RET alone. -/
def execBankRetWrite (w : Writer) (b : Nat) (ret : Bool) (s : State) : Outcome :=
  .next (if b < 64 then writeBankCtrl w b (setField (s.latest (bankCtrlOff b)) 1 1 (bit ret)) s else s)

/-- The master of a matrix transaction. -/
def transMaster : Instr → Option Nat
  | .matrixRead m _ _ _ => some m
  | .matrixWrite m _ _ _ _ => some m
  | .matrixAtomic m _ _ _ => some m
  | .bar2Read _ _ _ => some 3
  | .bar2Write _ _ _ _ => some 3
  | _ => none

/-- BANK_HANDOVER_TIMEOUT (R359): the hand-over is abandoned 10 µs after it started, and the transactions
stalled for it return ERR_ACCESS. -/
def execBankHandoverTimeout (b : Nat) (s : State) : Outcome :=
  .next (match (s.bank b).pendingSince with
    | none => s
    | some t =>
      if s.time.elapsed < t + 10000 * 65536 then s
      else
        let k := s.bank b
        let new := s.bankNewOwner b
        let keep := k.stalled.filter fun i => decide (transMaster i ≠ some new)
        let s1 := s.setBank b { k with pendingSince := none, timeout := true, stalled := keep }
        let s2 := s1.setReg (bankCtrlOff b) (setField (s.bankCtrl b) 16 4 (s.bankOwner b))
        let s3 := if keep.length < k.stalled.length then { s2 with out := ⟨0, 2, []⟩ } else s2
        raiseEv 0x403 (bankPayload b new 0) s3)

end Sys2Proof.Machine
end

