-- ==== Sys2Proof/Machine/Links.lean ====
section
/-!
DEFINITION. The host links: sessions, mailbox rings, audit export by DMA, the management ports and SPI
(R382 to R405, R487).
-/

namespace Sys2Proof.Machine

/-! ### Sessions open and close (R383, R395, R421, R487) -/

/-- A session opens with full buckets. -/
def openSession (n link role : Nat) (peer : List Byte) (s : State) : State :=
  let x := s.session n
  let pos := match s.audit.ring with | [] => 0 | r :: _ => r.seq
  raiseEv 0x500 [byte n, byte link, byte role] (s.setSession n { x with
    isOpen := true, link := link, role := role, peer := peer, opened := s.now, taken := none
    requests := 0, drops := 0, dedupHits := 0, regOffset := 0, auditPos := pos, skipped := 0
    subs := [], sendq := [], lostBefore := false, redeliver := (0, 0, 0), snapshot := none, assembly := none
    reqTokens := s.obj (0x3510 + n) 2 * tokUnit, moveTokens := s.obj (0x3510 + n) 4 * tokUnit
    filledAt := s.time.elapsed, nextEligible := s.time.elapsed, lastFrame := s.time.elapsed })

/-- A queue loses its requests. -/
def Queue.drop (q : Queue) : Queue := { q with waiting := [], executing := none, eligible := none }

/-- The request IDs that a queue holds. -/
def Queue.ids (q : Queue) : List Nat :=
  (q.waiting.map fun r => r.reqId) ++ (match q.executing with | none => [] | some r => [r.reqId])

/-- What a closing session holds is dropped: requests, buffers, segments and subscriptions. -/
def clearSession (n : Nat) (s : State) : State :=
  let x := s.session n
  let ids := x.control.ids ++ x.query.ids
  poolRisen { s.setSession n { x with
      isOpen := false, taken := none, subs := [], sendq := [], lostBefore := false, snapshot := none
      assembly := none, storing := none, resp := none, held := 0, admitted := 0, stalled := false
      control := x.control.drop, query := x.query.drop } with
    kept := s.kept.filter fun k => !(decide (k.key = x.key n) && k.resp.isNone && ids.contains k.reqId)
    live := s.live.filter fun w => !(!w.isReg && decide (w.key = objKey 0x3100 6) && decide (w.ses = n)) }

/-- The code of a close reason (R487). -/
def closeReasonCode : CloseReason → Nat
  | .peerClose => 0
  | .idle => 1
  | .v2Disabled => 2
  | .ringStopped => 3
  | .forgeRestart => 4
  | .transportError => 5

/-- An open session closes, and 0x501 tells why. -/
def closeSession (n reason : Nat) (s : State) : State :=
  let x := s.session n
  if x.isOpen then raiseEv 0x501 [byte n, byte x.link, byte reason] (clearSession n s) else s

/-- The lowest-numbered session from 5 to 28 that is CLOSED (R395). -/
def State.freeSession (s : State) : Option Nat :=
  (numbers 5 24).find? fun n => !(s.session n).isOpen && (s.session n).taken.isNone

/-- No session is free for a peer of a link: 0x503, at most once per second. -/
def refuseSession (link : Nat) (s : State) : State := raiseLimited 0x503 1000000000 0x503 [0xFF#8, byte link] s

/-- V2_IDLE has passed without a frame. -/
def State.v2Idle (s : State) (n : Nat) : Bool :=
  let x := s.session n
  x.isOpen && decide (x.link = 2)
    && decide (x.lastFrame + s.obj 0x1400 5 * 1000000000 * 65536 ≤ s.time.elapsed)

/-- The reason can close the session. -/
def State.closes (s : State) (n : Nat) (r : CloseReason) : Bool :=
  let x := s.session n
  match r with
  | .peerClose => decide (x.link = 3)
  | .idle => s.v2Idle n
  | .v2Disabled => decide (x.link = 2) && decide (s.obj 0x1400 4 = 0)
  | .ringStopped => decide (x.link = 1) && !(s.ring n).running
  | .forgeRestart => decide (1 ≤ n ∧ n ≤ 28)
  | .transportError => decide (x.link = 3)

/-- SESSION_CLOSE (R487). A connection whose handshake still runs only gives back its session. -/
def execSessionClose (ses : Nat) (reason : CloseReason) (s : State) : Outcome :=
  .next (
    let x := s.session ses
    if x.taken.isSome ∧ (reason = .peerClose ∨ reason = .transportError) then s.setSession ses { x with taken := none }
    else if 1 ≤ ses ∧ ses ≤ 28 ∧ s.closes ses reason then closeSession ses (closeReasonCode reason) s
    else s)

/-- V2_SESSION_IDLE (R395). -/
def execV2SessionIdle (ses : Nat) (s : State) : Outcome :=
  .next (if s.v2Idle ses then closeSession ses 1 s else s)

/-! ### Frames (R400 to R402) -/

/-- The request that a frame's header spells. -/
def parseReq (bs : List Byte) (now buffers tag rspCap : Nat) : Req :=
  { reqId := leAt bs 8 7, op := leAt bs 15 1, index := leAt bs 16 2, sub := leAt bs 18 1, flags := leAt bs 19 1
    offset := leAt bs 24 4, want := leAt bs 28 4, payload := (bs.drop 32).take (bs.length - 36)
    len := leAt bs 4 4, check := leAt bs (bs.length - 4) 4, arrived := now, buffers := buffers
    tag := tag, rspCap := rspCap }

/-- The check of a frame holds (R401). -/
def frameCheckOk (bs : List Byte) : Bool :=
  decide (crc32c (leAt bs 3 1 * 2 ^ 56 + leAt bs 8 7) (bs.take (bs.length - 4)) = leAt bs (bs.length - 4) 4)

/-- The form of a request frame: MAGIC, VERSION, KIND, reserved fields, a request ID and an operation (R400, R402). -/
def frameFormOk (ver : Nat) (bs : List Byte) : Bool :=
  decide (leAt bs 0 2 = 0x4A + (0x30 + ver) * 256) && decide (leAt bs 2 1 = ver) && decide (leAt bs 3 1 = 1)
    && decide (leAt bs 19 1 < 4) && decide (leAt bs 22 2 = 0)
    && decide (leAt bs 8 7 ≠ 0) && decide (1 ≤ leAt bs 15 1 ∧ leAt bs 15 1 ≤ 5)

/-- The length of a network frame is one of its version. -/
def frameLenOk (ver : Nat) (bs : List Byte) : Bool :=
  decide (leAt bs 4 4 = bs.length) && decide (36 ≤ bs.length)
    && decide (bs.length ≤ if ver = 2 then 1400 else 65536)

/-- A network frame is dropped without a response (R402). -/
def dropFrame (ses : Nat) (s : State) : State :=
  let x := s.session ses
  s.setSession ses { x with drops := (x.drops + 1) % 4294967296 }

/-- The same, of a frame of management port `p` that belongs to no session. -/
def dropAtPort (p : Nat) (s : State) : State :=
  let d := s.disp
  { s with disp := if p = 0 then { d with portDrops0 := (d.portDrops0 + 1) % 4294967296 }
      else { d with portDrops1 := (d.portDrops1 + 1) % 4294967296 } }

/-- A v2 frame that the pool cannot admit is dropped (R428). -/
def quotaDrop (ses : Nat) (s : State) : State :=
  let x := s.session ses
  let c := x.quotaSec.count1 s.second
  let s1 := s.setSession ses { x with quotaDrops := (x.quotaDrops + 1) % 4294967296, quotaSec := c.2 }
  if c.1 then raiseEv 0x509 ([byte ses, 0#8, 0#8, 0#8] ++ leBytes 4 c.2.prev) s1 else s1

/-- The session of a v2 peer. -/
def State.v2Session (s : State) (peer : List Byte) : Option Nat :=
  (numbers 5 24).find? fun n => let x := s.session n; x.isOpen && decide (x.link = 2) && decide (x.peer = peer)

/-- A v2 frame of an open session. -/
def receiveV2 (n : Nat) (frame : List Byte) (s : State) : State :=
  let s1 := s.setSession n { s.session n with lastFrame := s.time.elapsed }
  let c := buffersFor frame.length
  if !(frameLenOk 2 frame && frameFormOk 2 frame && frameCheckOk frame) then dropFrame n s1
  else if !s1.poolAdmits n c then quotaDrop n s1
  else arrive n (parseReq frame s1.time.elapsed c 0 0) (takeBuffers n c s1)

/-- V2_FRAME_RECEIVE (R395, R402). A damaged frame of an unknown peer opens no session. -/
def execV2FrameReceive (p : Nat) (peer : List Byte) (frame : List Byte) (s : State) : Outcome :=
  .next (
    if 2 ≤ p ∨ !s.boot.started ∨ s.obj 0x1400 4 = 0 then s
    else
      let s0 := wakeForge s
      let key := byte p :: peer
      match s0.v2Session key with
      | some n => receiveV2 n frame s0
      | none =>
        if !(frameLenOk 2 frame && frameFormOk 2 frame && frameCheckOk frame) then dropAtPort p s0
        else match s0.freeSession with
          | none => refuseSession 2 s0
          | some n => receiveV2 n frame (openSession n 2 (s0.obj 0x1400 3) key s0))

/-- V3_FRAME_RECEIVE (R402, R428): a frame that the pool cannot admit stops the stream. -/
def execV3FrameReceive (ses : Nat) (frame : List Byte) (s : State) : Outcome :=
  .next (
    let x := s.session ses
    let c := buffersFor frame.length
    if !x.isOpen ∨ x.link ≠ 3 ∨ x.stalled then s
    else
      let s0 := wakeForge s
      if !frameLenOk 3 frame then closeSession ses 5 (dropFrame ses s0)
      else if x.admitted = 0 ∧ !s0.poolAdmits ses c then s0.setSession ses { x with stalled := true }
      else
        let s1 := if x.admitted = 0 then takeBuffers ses c s0 else s0.setSession ses { x with admitted := 0 }
        let b := if x.admitted = 0 then c else x.admitted
        if !(frameFormOk 3 frame && frameCheckOk frame) then freeBuffers ses b (dropFrame ses s1)
        else arrive ses (parseReq frame s1.time.elapsed b 0 0) s1)

/-- MGT_LINK of a management port. -/
def State.mgtUp (s : State) (p : Nat) : Bool := if p = 0 then s.ptp0.linkUp else s.ptp1.linkUp

/-- NETWORK_ECHO (R394): answered in Hearth in every Forge state; the answer returns the request's data. -/
def execNetworkEcho (p : Nat) (request : List Byte) (s : State) : Outcome :=
  .next (if p < 2 ∧ s.power.vaux ∧ s.mgtUp p then { s with out := ⟨0, 0, request⟩ } else s)

/-! ### TCP and TLS (R395, R396) -/

/-- TCP_CONNECT (R395): the connection takes a free session, or is refused. -/
def execTcpConnect (p : Nat) (s : State) : Outcome :=
  .next (
    if 2 ≤ p ∨ !s.boot.started then s
    else
      let s0 := wakeForge s
      match s0.freeSession with
      | none => refuseSession 3 s0
      | some n => s0.setSession n { s0.session n with taken := some p })

/-- The session whose handshake runs on port `p`. -/
def State.handshakeOn (s : State) (p : Nat) : Option Nat :=
  (numbers 5 24).find? fun n => decide ((s.session n).taken = some p)

/-- A refused handshake: 0 no trust anchor, 1 any other failure (R396, R487). -/
def refuseTls (n reason : Nat) (s : State) : State :=
  raiseEv 0x505 [byte n, 3#8, byte reason] (s.setSession n { s.session n with taken := none })

/-- TLS_HANDSHAKE (R396, R459): `peer` is the client certificate's public key, `anchor` the trust anchor that
its chain validates to. -/
def execTlsHandshake (p : Nat) (peer : List Byte) (anchor : Option Nat) (failed : Bool) (s : State) : Outcome :=
  .next (match s.handshakeOn p with
    | none => s
    | some n =>
      if failed ∨ !s.life.tlsKey then refuseTls n 1 s
      else match anchor with
        | none => refuseTls n 0 s
        | some a =>
          if 8 ≤ a ∨ s.blob 0x1600 (0x10 + a) [] = [] then refuseTls n 0 s
          else openSession n 3 (s.obj 0x1600 (0x20 + a)) (byte p :: peer) s)

/-! ### Mailbox rings (R389 to R391) -/

/-- Entries of a ring's request queue. -/
def State.reqSize (s : State) (r : Nat) : Nat := 2 ^ field (s.reg (mbxReg r 0x10)) 0 4

/-- MBX_REQ_TAIL: the bits beyond the ring's size are reserved (R4, R391). A doorbell is a live field (R21). -/
def writeReqTail (r tail : Nat) (s : State) : State :=
  waitSetting .hostLinks true (mbxReg r 0x20) (tail % min 4096 (s.reqSize r)) 0 s

/-- MBX_REQ_TAIL (R390). -/
def execMbxReqTail (r tail : Nat) (s : State) : Outcome :=
  .next (if 1 ≤ r ∧ r ≤ 4 ∧ s.power.forgeOn then writeReqTail r tail s else s)

/-- MBX_CPL_HEAD. -/
def writeCplHead (r head : Nat) (s : State) : State :=
  waitSetting .hostLinks true (mbxReg r 0x2C) (head % min 4096 (s.cplSize r)) 0 s

/-- MBX_CPL_HEAD (R390). -/
def execMbxCplHead (r head : Nat) (s : State) : Outcome :=
  .next (if 1 ≤ r ∧ r ≤ 4 ∧ s.power.forgeOn then writeCplHead r head s else s)

/-- Requests of a session that wait or execute. -/
def Session.inFlight (x : Session) : Nat := x.control.ids.length + x.query.ids.length

/-- A completion entry is free for one more request: not taken by a completion not consumed nor due to a request
in flight. -/
def State.cplFree (s : State) (r : Nat) : Bool :=
  let n := s.cplSize r
  let used := ((s.ring r).cplTail + n - s.reg (mbxReg r 0x2C) % n) % n
  decide (used + (s.session r).inFlight + 1 < n)

/-- The status that a mailbox frame meets at step 1 of R407, OK where it is good (R390). -/
def mailboxStatus (desc frame : List Byte) : Nat :=
  if leAt desc 8 4 < 36 ∨ 65536 < leAt desc 8 4 ∨ leAt desc 12 4 < 64 ∨ leAt frame 4 4 ≠ leAt desc 8 4
      ∨ frame.length ≠ leAt desc 8 4 then stBadType
  else if !frameCheckOk frame then stCheckFail
  else if !frameFormOk 3 frame then stBadType
  else stOk

/-- MBX_DESCRIPTOR_FETCH (R390). -/
def execMbxDescriptorFetch (r : Nat) (desc frame : List Byte) (s : State) : Outcome :=
  .next (
    let g := s.ring r
    let x := s.session r
    let c := buffersFor frame.length
    if !g.running ∨ g.halted ∨ !x.isOpen ∨ x.link ≠ 1 ∨ g.reqHead = s.reg (mbxReg r 0x20) ∨ !s.cplFree r then s
    else if x.admitted = 0 ∧ !s.poolAdmits r c then s
    else
      let s1 := s.setRing r { g with reqHead := (g.reqHead + 1) % s.reqSize r }
      let st := mailboxStatus desc frame
      let tag := leAt desc 24 8
      let b := if x.admitted = 0 then c else x.admitted
      let s2 := if x.admitted = 0 then takeBuffers r c s1 else s1.setSession r { x with admitted := 0 }
      if st ≠ stOk then complete r tag 0 st (freeBuffers r b s2)
      else arrive r (parseReq frame s2.time.elapsed b tag (leAt desc 12 4)) s2)

/-- EN set to 1: the ring runs from its first entries, and its session opens with PCIE_ROLE (R390, R412). -/
def startRing (r : Nat) (s : State) : State :=
  let s1 := s.setRing r { running := true, dmaErr := (s.ring r).dmaErr, vectors := (s.ring r).vectors }
  if s1.boot.started then openSession r 1 (s1.obj 0x1400 2) [] s1 else s1

/-- EN set to 0: the host's indices stand at the first entries again (log 72). -/
def stopRing (r : Nat) (s : State) : State :=
  closeSession r 3 (((s.setReg (mbxReg r 0x20) 0).setReg (mbxReg r 0x2C) 0).setRing r
    { s.ring r with running := false, halted := false })

/-- A write of MBX_CTRL: VECTOR is quiescent while the ring runs or is about to, EN and IRQ_EN are live (R23, R27,
R391). -/
def writeMbxCtrl (w : Writer) (r v : Nat) (s : State) : State :=
  let off := mbxReg r 0
  let old := s.reg off
  if field v 16 9 ≠ field old 16 9 ∧ s.regOn off 0 then rejectWrite (mbxReg r 4) w off s
  else waitSetting .hostLinks true off (v &&& 3) 0 (s.setReg off (setField old 16 9 (field v 16 9)))

/-- EN of MBX_CTRL comes into force: `old` is the register before (R390). -/
def mbxEnChanged (r old : Nat) (s : State) : State :=
  let en := (s.reg (mbxReg r 0)).testBit 0
  if en ∧ !old.testBit 0 then startRing r s
  else if !en ∧ old.testBit 0 then stopRing r s else s

/-- MBX_EN_WRITE (R21, R390): EN is in force from the next transit boundary. -/
def execMbxEnWrite (w : Writer) (r : Nat) (value : Word) (s : State) : Outcome :=
  .next (if 1 ≤ r ∧ r ≤ 4 ∧ s.power.forgeOn then writeMbxCtrl w r value.toNat s else s)

/-- MBX_DMA_ERROR (R390). -/
def execMbxDmaError (r : Nat) (s : State) : Outcome :=
  .next (if (s.ring r).running ∧ !(s.ring r).halted then
    raiseEv 0x504 [byte r, 1#8, byte r] (s.setRing r { s.ring r with halted := true, dmaErr := true }) else s)

/-! ### Audit export by DMA (R393) -/

/-- The size of the export ring in bytes. -/
def State.aexSize (s : State) : Nat := field (s.reg 0x140C) 0 11 * 1048576

/-- MBX_AEX_RD. -/
def State.aexRd (s : State) : Nat := s.reg 0x1414

/-- Where a chunk of `n` bytes goes: at WR, or at 0 where it does not fit before the end; none where it has to
wait for host software. -/
def State.aexPlace (s : State) (n : Nat) : Option Nat :=
  let wr := s.aex.wr
  let rd := s.aexRd
  let size := s.aexSize
  if wr < rd then (if wr + n < rd then some wr else none)
  else if wr + n < size ∨ (wr + n = size ∧ 0 < rd) then some wr
  else if size < wr + n ∧ n < rd then some 0
  else none

/-- AEX_CHUNK_WRITE (R393): the chunk list names the offset and COUNT of each header written. -/
def execAexChunkWrite (damage : List Damage) (s : State) : Outcome :=
  .next (
    let s0 := noteDamage damage s
    let c := s0.chunk 1 4096
    let n := c.bytes.length
    if !s.aexOn ∨ !s.awake ∨ c.count = 0 ∨ s.power.pcie = .down then s
    else match s.aexPlace n with
      | none => s
      | some at_ =>
        let wr := s.aex.wr
        let mark := if at_ ≠ wr ∧ wr + 576 ≤ s.aexSize then [(wr, 0)] else []
        let s1 := takeChunk 1 c s0
        let s2 := { s1 with
          aex := { wr := (at_ + n) % s.aexSize, chunks := (at_, c.count) :: mark ++ s.aex.chunks }
          out := ⟨at_, 0, c.bytes⟩ }
        raiseVector (field (s.reg 0x1400) 16 9) s2)

/-- MBX_AEX_RD. -/
def writeAexRd (rd : Nat) (s : State) : State := waitSetting .hostLinks true 0x1414 (rd % 1073741824) 0 s

/-- MBX_AEX_RD (R393). -/
def execMbxAexRd (rd : Nat) (s : State) : Outcome := .next (if s.power.forgeOn then writeAexRd rd s else s)

/-- A write of MBX_AEX_CTRL: VECTOR is quiescent, EN is live (R23, R27, R393). -/
def writeAexCtrl (w : Writer) (v : Nat) (s : State) : State :=
  let old := s.reg 0x1400
  if field v 16 9 ≠ field old 16 9 ∧ s.regOn 0x1400 0 then rejectWrite 0x1004 w 0x1400 s
  else waitSetting .hostLinks true 0x1400 (v &&& 1) 0 (s.setReg 0x1400 (setField old 16 9 (field v 16 9)))

/-- EN of MBX_AEX_CTRL comes into force; set to 1 it starts the ring at offset 0. -/
def aexEnChanged (old : Nat) (s : State) : State :=
  if (s.reg 0x1400).testBit 0 ∧ !old.testBit 0 then { s.setReg 0x1414 0 with aex := {} } else s

/-- AEX_EN_WRITE (R21, R393): EN is in force from the next transit boundary. -/
def execAexEnWrite (w : Writer) (value : Word) (s : State) : Outcome :=
  .next (if s.power.forgeOn then writeAexCtrl w value.toNat s else s)

/-! ### SPI (R397 to R399) -/

/-- A transaction ended before its bytes were complete (R399). -/
def spiShort (s : State) : State :=
  raiseLimited 0x506 1000000000 0x506 [0#8, 0#8] { s with spi := { s.spi with framing := true } }

/-- A transaction's bytes were complete. -/
def spiWhole (s : State) : State := { s with spi := { s.spi with framing := false } }

/-- The request that a v1 header spells. -/
def parseV1 (bs : List Byte) (now : Nat) : Req :=
  { op := leAt bs 0 1 % 128, sub := leAt bs 1 1, index := leAt bs 2 2, want := leAt bs 4 2, offset := leAt bs 6 4
    flags := leAt bs 0 1 / 128, payload := bs.drop 10, len := bs.length, arrived := now
    buffers := buffersFor bs.length }

/-- The form of a v1 request (R398). -/
def v1Ok (bs : List Byte) : Bool :=
  let r := parseV1 bs 0
  (decide (r.op = 1) && decide (bs.length = 10)) || (decide (r.op = 2) && decide (bs.length = 10 + r.want ∧ r.want ≤ 256))

/-- A v1 request of which bytes are missing: of its header, or of the data of a WRITE (R398, R399). -/
def v1Short (bs : List Byte) : Bool :=
  decide (bs.length < 10) || let r := parseV1 bs 0
    decide (r.op = 2 ∧ r.want ≤ 256 ∧ bs.length < 10 + r.want)

/-- The lowest-numbered queue in SPI mode that holds a record. -/
def State.spiQueue (s : State) : Option Nat :=
  (numbers 0 8).find? fun q => decide (s.qMode q = 2) && !(s.queue q).records.isEmpty

/-- The record that the EVENT opcode takes next, marked where it is re-delivered (R416, R440). -/
def State.spiNext (s : State) : Option (ERec × State) :=
  match s.spi.redeliver.filter fun n => s.events.history.any fun r => decide (r.seq = n) with
  | n :: rest =>
    let s1 := { s with spi := { s.spi with redeliver := rest } }
    (s.events.history.find? fun r => decide (r.seq = n)).map fun r => ({ r with flags := orBit r.flags 2 }, s1)
  | [] =>
    match s.spiQueue with
    | none => none
    | some q =>
      match (s.queue q).records with
      | [] => none
      | r :: rest => some (r, s.setQueue q { s.queue q with records := rest })

/-- The status byte that the engine shifts out during an opcode (R397). -/
def State.spiStatus (s : State) : Nat :=
  bit s.spi.resp.isSome + 2 * bit s.spiNext.isSome + 4 * bit s.spi.busy + 8 * bit s.spi.rejected + 16 * bit s.spi.framing

/-- The bytes of a REQUEST transaction (R398, R399, R428). -/
def spiTake (bytes : List Byte) (complete : Bool) (s : State) : State :=
  if !complete ∨ v1Short bytes then spiShort s
  else
    let s1 := spiWhole s
    let r := parseV1 bytes s1.time.elapsed
    if s1.spi.busy ∨ s1.spi.resp.isSome ∨ !s1.poolAdmits 0 r.buffers then
      { s1 with spi := { s1.spi with rejected := true } }
    else
      let s2 := takeBuffers 0 r.buffers { s1 with spi := { s1.spi with rejected := false, busy := true } }
      if v1Ok bytes then arrive 0 r s2 else turnAway 0 r stBadType s2

/-- SPI_REQUEST (R397 to R399): the status byte shifts out with the opcode. -/
def execSpiRequest (bytes : List Byte) (complete : Bool) (s : State) : Outcome :=
  .next (
    if !s.power.vaux then s
    else { spiTake bytes complete s with out := ⟨0, s.spiStatus, []⟩ })

/-- SPI_RESPONSE (R397, R399). -/
def execSpiResponse (complete : Bool) (s : State) : Outcome :=
  .next (if !s.power.vaux then s
  else
    let bs := s.spi.resp.getD []
    let s1 := { s with out := ⟨0, s.spiStatus, bs⟩ }
    if !complete then spiShort s1
    else
      let s2 := spiWhole s1
      { s2 with spi := { s2.spi with resp := none } })

/-- SPI_EVENT (R397, R399): 32 bytes of 0 where no record waits. -/
def execSpiEvent (complete : Bool) (s : State) : Outcome :=
  .next (if !s.power.vaux then s else match s.spiNext with
    | none =>
      let s1 := if complete then spiWhole s else spiShort s
      { s1 with out := ⟨0, s.spiStatus, List.replicate 32 0#8⟩ }
    | some (r, t) =>
      let s1 := if complete then sealCycle (spiWhole t) else spiShort s
      { s1 with out := ⟨r.seq, s.spiStatus, r.bytes⟩ })

/-- SPI_TIME (R397): TIME96 as latched at the opcode's last clock edge; 0 before the counter runs. -/
def execSpiTime (at_ : Instant) (s : State) : Outcome :=
  .next (if !s.power.vaux then s else
    { spiWhole s with out := ⟨instNs at_, s.spiStatus, if s.time.running then time96Bytes at_ else List.replicate 12 0#8⟩ })

/-! ### Timers (R403, R404) -/

/-- DEDUP_EXPIRE (R403): every kept response sent at least 10 s ago goes. -/
def execDedupExpire (s : State) : Outcome :=
  .next { s with kept := s.kept.filter fun k => k.stands s.time.elapsed }

/-- SNAPSHOT_DISCARD (R404). -/
def execSnapshotDiscard (ses : Nat) (s : State) : Outcome :=
  .next (match (s.session ses).snapshot with
    | none => s
    | some (_, _, at_) =>
      if at_ + twoSeconds ≤ s.time.elapsed then s.setSession ses { s.session ses with snapshot := none } else s)

/-- SEGMENT_ASSEMBLY_TIMEOUT (R404): a pause of more than 2 s; the next segment is then out of order. -/
def execSegmentAssemblyTimeout (ses : Nat) (s : State) : Outcome :=
  .next (match (s.session ses).assembly with
    | none => s
    | some (_, _, at_) =>
      if at_ + twoSeconds < s.time.elapsed then s.setSession ses { s.session ses with assembly := none } else s)

end Sys2Proof.Machine
end

