-- ==== Sys2Proof/Machine/Ptp.lean ====
section
/-!
DEFINITION. The PTP engines of the management ports (R239 to R243) and their transmit time-stamp queues
(R255): the BMCA of a port over the Announces it takes, the choice of a port, and the messages of the port served.
-/

namespace Sys2Proof.Machine

/-- The PTP engine of a port. -/
def State.ptpPort (s : State) (p : Nat) : PtpPort := if p = 0 then s.ptp0 else s.ptp1

/-- Replace a port's PTP engine. -/
def State.setPtp (s : State) (p : Nat) (v : PtpPort) : State :=
  { s with ptp0 := if p = 0 then v else s.ptp0, ptp1 := if p = 0 then s.ptp1 else v }

/-- PTP_ENABLE of a port. -/
def State.ptpEnabled (s : State) (p : Nat) : Bool := decide (s.obj (0x3010 + p) 1 = 1)

/-! ### Choosing between the two ports (R241, R242) -/

/-- The first differing pair of two equally long lists of numbers: the lower is the better. -/
def betterOf : List (Nat × Nat) → Ordering
  | [] => .eq
  | (a, b) :: rest => if a = b then betterOf rest else if a < b then .lt else .gt

/-- The comparison of two best-master data sets by the profile in force: `lt` where the first is better. -/
def State.compareDs (s : State) (a b : MasterDs) (la lb : Nat) : Ordering :=
  if s.obj 0x3000 1 = 2 then
    betterOf ([(a.clockClass, b.clockClass), (a.accuracy, b.accuracy), (a.variance, b.variance), (a.priority2, b.priority2),
      (la, lb)] ++ (if a.clockClass ≤ 127 then [] else [(a.gm, b.gm)]) ++ [(a.steps, b.steps)])
  else if a.gm = b.gm then betterOf [(a.steps, b.steps)]
  else betterOf [(a.priority1, b.priority1), (a.clockClass, b.clockClass), (a.accuracy, b.accuracy), (a.variance, b.variance),
      (a.priority2, b.priority2), (a.gm, b.gm)]

/-- A port is a candidate: enabled, its link up, in SLAVE. -/
def State.candidate (s : State) (p : Nat) : Bool :=
  let x := s.ptpPort p
  s.ptpEnabled p && x.linkUp && decide (x.state = 9)

/-- The data set of a port's best master. -/
def PtpPort.ds (x : PtpPort) : MasterDs := x.master.getD ⟨0, 0, 0, 0, 0, 0, 0⟩

/-- The best port of R241. -/
def State.bestPort (s : State) : Option Nat :=
  match s.candidate 0, s.candidate 1 with
  | false, false => none
  | true, false => some 0
  | false, true => some 1
  | true, true =>
    let l0 := s.obj 0x3010 6
    let l1 := s.obj 0x3011 6
    match s.compareDs s.ptp0.ds s.ptp1.ds l0 l1 with
    | .lt => some 0
    | .gt => some 1
    | .eq => if l0 < l1 then some 0 else if l1 < l0 then some 1 else some (s.ptpSel.selected.getD 0)

/-- The UTC part of the selected master's Announce comes into force (R227). -/
def takeUtc (s : State) : State :=
  match s.ptpSel.selected with
  | none => s
  | some p =>
    match (s.ptpPort p).utc with
    | none => s
    | some u =>
      let t := s.time
      let s1 := { s with time := { t with
        utcOffset := if u.valid then u.offset else t.utcOffset
        utcValid := u.valid, leap61 := u.leap61, leap59 := u.leap59 } }
      if s1.time = t then s else qualityNote 5 s1

/-- The selected grandmaster's identity follows the selected port (R242). -/
def takeGm (s : State) : State :=
  match s.ptpSel.selected with
  | none => s
  | some p =>
    let gm := (s.ptpPort p).ds.gm
    if gm = s.ptpSel.gm then s
    else raiseEv 0x105 (gmBytes gm) { s with ptpSel := { s.ptpSel with gm := gm } }

/-- The selection changes (R242). -/
def takeSelection (new : Option Nat) (s : State) : State :=
  if s.ptpSel.selected = new then { s with ptpSel := { s.ptpSel with better := none } }
  else
    let port := match new with | none => 0xFF | some p => p
    let st := match new with | none => 0 | some p => (s.ptpPort p).state
    let s1 := raiseEv 0x104 [byte port, byte st] { s with ptpSel := { s.ptpSel with selected := new, better := none } }
    servoChanged (s1.reg 0x300010) (takeUtc (takeGm s1))

/-- Evaluate the selection (R241): at once where none is selected or the selected is no candidate, else after
PTP_SEL_HOLD. -/
def evalSelection (s : State) : State :=
  let best := s.bestPort
  let cand := match s.ptpSel.selected with | none => false | some p => s.candidate p
  if !cand then takeSelection best s
  else if best = s.ptpSel.selected then takeUtc (takeGm { s with ptpSel := { s.ptpSel with better := none } })
  else
    let b := best.getD 0
    match s.ptpSel.better with
    | some (p, _) => if p = b then takeUtc (takeGm s)
        else takeUtc (takeGm { s with ptpSel := { s.ptpSel with better := some (b, s.time.elapsed) } })
    | none => takeUtc (takeGm { s with ptpSel := { s.ptpSel with better := some (b, s.time.elapsed) } })

/-- PTP_SEL_HOLD_EXPIRE (R241). -/
def execPtpSelHoldExpire (s : State) : Outcome :=
  .next (match s.ptpSel.better with
    | none => s
    | some (p, t) =>
      if s.bestPort = some p ∧ t + s.obj 0x3000 4 * 65536000000000 ≤ s.time.elapsed then takeSelection (some p) s else s)

/-! ### Port states (R239, R240) -/

/-- A port enters a state: 0x106, and UNCALIBRATED starts its measurements again. -/
def ptpEnter (p st : Nat) (s : State) : State :=
  let x := s.ptpPort p
  if x.state = st then s
  else
    let x1 := { x with state := st }
    let x2 := if st = 8 then { x1 with delays := [], rejects := 0, offsets := 0, pendingSync := none } else x1
    let x3 := if st < 8 then { x2 with master := none, utc := none, foreign := [], pendingSync := none } else x2
    evalSelection (raiseEv 0x106 [byte p, byte st] (s.setPtp p x3))

/-- A port starts, or its link returns: INITIALIZING, and from there LISTENING, or FAULTY while its link is down. -/
def ptpStart (p : Nat) (s : State) : State :=
  ptpEnter p (if (s.ptpPort p).linkUp then 4 else 2) (ptpEnter p 1 s)

/-- PTP_ENABLE of a port comes into force. -/
def ptpEnableChanged (p : Nat) (s : State) : State :=
  if !s.ptpEnabled p then ptpEnter p 3 s
  else if (s.ptpPort p).state = 3 then ptpStart p s
  else s

/-- TIME_PLL_LOCK (R225, R238, R246, R247): the counter starts from the calendar or 0, the event capture
starts with record 1, the starting quality is reported, and PTP is served (R451). -/
def execTimePllLock (s : State) : Outcome :=
  .next (if s.time.running ∨ !s.power.vaux then s
  else
    let t : Nat := if s.time.calValid then s.calendarNow else 0
    let q : Quality := if s.time.calValid then .calendarSeeded else .freerun
    let s1 := { s with time := { s.time with
      running := true, count := t * 65536, ticks := t * 65536, quality := q
      holdNo := t / (8000 * 65536), trimNo := t / (128000 * 65536) } }
    let s2 := raiseEv 0x001 (leBytes 4 s1.audit.epoch)
      { s1 with events := { s1.events with started := true }, keeper := { s1.keeper with alive := true } }
    let p := s2.qualityRecord 0 q.code 7
    let s3 := audit 0x0C p (raiseEv 0x100 (p.take 4) s2)
    let s4 := if s.time.calValid then s3 else raiseEv 0x10B [] s3
    ptpEnableChanged 1 (ptpEnableChanged 0 s4))

/-- UNCALIBRATED to SLAVE: 8 path delays and 8 offsets from the master. -/
def calibrated (p : Nat) (s : State) : State :=
  let x := s.ptpPort p
  if x.state = 8 ∧ 8 ≤ x.delays.length ∧ 8 ≤ x.offsets then ptpEnter p 9 s else s

/-- announceReceiptTimeout (R239): three announce intervals without an Announce. -/
def Foreign.expired (f : Foreign) (now : Nat) : Bool :=
  decide (f.at_ + 3 * 8192000000000 * 2 ^ (f.utc.interval + 3).toNat ≤ now)

/-- The better of two masters that a port hears, by the comparison of the profile (R241). -/
def State.betterMaster (s : State) (p : Nat) (a b : Foreign) : Foreign :=
  let l := s.obj (0x3010 + p) 6
  if s.compareDs b.ds a.ds l l = .lt then b else a

/-- The masters that a port hears after an Announce: its sender's entry is new, and those that have gone silent leave. -/
def heard (f : Foreign) (l : List Foreign) : List Foreign :=
  f :: l.filter fun g => decide (g.utc.source ≠ f.utc.source) && !g.expired f.at_

/-- The best of the masters heard becomes the port's; a new one starts the port's measurements again. -/
def takeMaster (p : Nat) (f : Foreign) (s : State) : State :=
  let x := s.ptpPort p
  let l := heard f x.foreign
  let best := l.foldl (s.betterMaster p) f
  let same : Bool := match x.utc with
    | none => false
    | some u => decide (u.source = best.utc.source)
  let s1 := s.setPtp p { x with foreign := l, master := some best.ds, utc := some best.utc }
  if same then evalSelection s1
  else if x.state = 8 then
    evalSelection (s1.setPtp p { s1.ptpPort p with delays := [], rejects := 0, offsets := 0, pendingSync := none })
  else ptpEnter p 8 s1

/-- PTP_ANNOUNCE_RECEIVE (R227, R239, R241): the port chooses its best master anew. -/
def execPtpAnnounceReceive (p : Nat) (ds : MasterDs) (utc : UtcInfo) (s : State) : Outcome :=
  .next (
    let x := s.ptpPort p
    if 2 ≤ p ∨ !s.time.running ∨ !s.ptpEnabled p ∨ !x.linkUp ∨ (x.state ≠ 4 ∧ x.state ≠ 8 ∧ x.state ≠ 9)
      ∨ utc.interval < -3 ∨ 4 < utc.interval then s
    else takeMaster p ⟨ds, utc, s.time.elapsed⟩ s)

/-- The port's best master has gone silent. -/
def State.masterSilent (s : State) (p : Nat) : Bool :=
  let x := s.ptpPort p
  match x.utc with
  | none => true
  | some u => x.foreign.all fun f => decide (f.utc.source ≠ u.source) || f.expired s.time.elapsed

/-- ANNOUNCE_RECEIPT_TIMEOUT (R239, R240). -/
def execAnnounceReceiptTimeout (p : Nat) (s : State) : Outcome :=
  .next (if p < 2 ∧ ((s.ptpPort p).state = 9 ∨ (s.ptpPort p).state = 8) ∧ s.masterSilent p then ptpEnter p 4 s else s)

/-- MGT_LINK_CHANGE (R240, R417): 0x502, and FAULTY while the link is down. -/
def execMgtLinkChange (p : Nat) (up : Bool) (s : State) : Outcome :=
  .next (
    let x := s.ptpPort p
    if 2 ≤ p ∨ !s.power.vaux ∨ x.linkUp = up then s
    else
      let (link, s0) := s.takeFree
      let s1 := raiseEv 0x502 [0xFF#8, byte link, byte (bit up), byte p] (s0.setPtp p { x with linkUp := up })
      if !s1.ptpEnabled p ∨ x.state = 3 then s1
      else if up then (if x.state = 2 then ptpStart p s1 else s1)
      else ptpEnter p 2 s1)

/-! ### Offsets and path delays (R229, R240) -/

/-- A factory stamp latency of a port in 2^-16 ns: at byte 0 ingress, at byte 4 egress (R318). -/
def stampLatency (p off : Nat) : Int := bitsInt 32 (Config.factoryConst (0x3010 + p) 0x80 off)

/-- PTP_ASYMMETRY in 2^-16 ns. -/
def State.asymmetry (s : State) (p : Nat) : Int := roundDiv (s.objI32 (0x3010 + p) 7 * 65536) 1000

/-- PTP_MEAN_PATH_DELAY in 2^-16 ns: the mean of the measurements held. -/
def PtpPort.meanDelay (x : PtpPort) : Int :=
  if x.delays.isEmpty then 0 else roundDiv x.delays.sum x.delays.length

/-- An offset as it was stamped: corrected, it goes to the port and, on the selected port, to the servo. -/
def portOffset (p : Nat) (raw : Int) (s : State) : State :=
  let x := s.ptpPort p
  let o := raw - stampLatency p 0 - x.meanDelay - s.asymmetry p
  let s1 := s.setPtp p { x with offset := o, offsets := x.offsets + 1, pendingSync := none }
  let s2 := if s1.ptpSel.selected = some p then takeOffset (p + 1) o s1 else s1
  calibrated p s2

/-- The port takes event messages: it runs in UNCALIBRATED or SLAVE. -/
def State.ptpRuns (s : State) (p : Nat) : Bool :=
  decide (p < 2) && s.ptpEnabled p && decide ((s.ptpPort p).state = 8 ∨ (s.ptpPort p).state = 9)

/-- PTP_SYNC_RECEIVE (R229): a one-step Sync gives an offset, a two-step one waits for its Follow_Up. -/
def execPtpSyncReceive (p : Nat) (twoStep : Bool) (seq : Nat) (offset : Int) (s : State) : Outcome :=
  .next (if !s.ptpRuns p then s
  else if twoStep then s.setPtp p { s.ptpPort p with pendingSync := some (seq, offset) }
  else portOffset p offset s)

/-- PTP_FOLLOW_UP_RECEIVE (R229). -/
def execPtpFollowUpReceive (p : Nat) (seq : Nat) (correction : Int) (s : State) : Outcome :=
  .next (if !s.ptpRuns p then s
  else match (s.ptpPort p).pendingSync with
    | none => s
    | some (q, o) => if q = seq then portOffset p (o - correction) s else s)

/-! ### Transmit time-stamp queues (R255) -/

/-- A two-step event message's stamp enters its port's queue. -/
def pushStamp (p : Nat) (t : TxStamp) (s : State) : State :=
  let x := s.ptpPort p
  if x.txq.length < 32 then s.setPtp p { x with txq := x.txq ++ [t] }
  else
    let n := min (x.txOvf + 1) 0xFFFF
    let s1 := s.setPtp p { x with txOvf := n, txOverflow := true }
    if x.txOverflow then s1 else raiseEv (0x120 + p) (leBytes 4 n) s1

/-- The entry of a message, and the queue without it. -/
def claim (seq : Nat) (msgs : List Nat) : List TxStamp → Option (TxStamp × List TxStamp)
  | [] => none
  | t :: rest =>
    if t.seq = seq ∧ msgs.contains t.msg then some (t, rest)
    else match claim seq msgs rest with
      | none => none
      | some (u, l) => some (u, t :: l)

/-- The port transmits two-step. -/
def State.twoStep (s : State) (p : Nat) : Bool := decide (s.obj (0x3010 + p) 4 = 1)

/-- An entry of a message type stamped at its egress. -/
def State.stampOf (s : State) (p msg seq : Nat) (egress : Instant) : TxStamp :=
  ⟨egress, seq % 65536, msg, s.obj (0x3010 + p) 3, s.time.elapsed⟩

/-- PTP_DELAY_REQ_SEND (R239, R255): Delay_Req (type 1) or, under the peer-to-peer profile, Pdelay_Req (2). -/
def execPtpDelayReqSend (p : Nat) (seq : Nat) (egress : Instant) (s : State) : Outcome :=
  .next (if !s.ptpRuns p ∨ !s.twoStep p then s
  else pushStamp p (s.stampOf p (if s.obj 0x3000 1 = 1 then 2 else 1) seq egress) s)

/-- A path delay measurement (R240). -/
def takeDelay (p : Nat) (d : Int) (s : State) : State :=
  let x := s.ptpPort p
  if x.delays.length < 8 then calibrated p (s.setPtp p { x with delays := d :: x.delays })
  else if (d - x.meanDelay).natAbs ≤ 100 * 65536 then
    s.setPtp p { x with delays := (d :: x.delays).take 8, rejects := 0 }
  else if x.rejects + 1 < 8 then s.setPtp p { x with rejects := x.rejects + 1 }
  else
    let s1 := s.setPtp p { x with delays := [], rejects := 0, offsets := 0 }
    ptpEnter p 8 s1

/-- The path delay that the claimed egress stamp of a request gives: half of it taken with the message's other stamps. -/
def TxStamp.delay (t : TxStamp) (others : Int) : Int := (others - t.stamp) / 2

/-- PTP_DELAY_RESP_RECEIVE (R240, R255): a measurement, which a two-step transmitter makes with the claimed stamp of its
request, and does not get where that stamp was dropped or retired. -/
def execPtpDelayRespReceive (p : Nat) (seq : Nat) (delay : Int) (s : State) : Outcome :=
  .next (
    let lat := (stampLatency p 0 + stampLatency p 4) / 2
    if !s.ptpRuns p then s
    else if s.twoStep p then
      match claim (seq % 65536) [1, 2] (s.ptpPort p).txq with
      | none => s
      | some (t, l) => takeDelay p (t.delay delay - lat) (s.setPtp p { s.ptpPort p with txq := l })
    else takeDelay p (delay - lat) s)

/-- PTP_PDELAY_REQ_RECEIVE (R239, R255): the port answers Pdelay_Req under the peer-to-peer profile; the
stamp of a two-step Pdelay_Resp (type 3) is claimed for its Pdelay_Resp_Follow_Up as it is written; without it, none is
sent. -/
def execPtpPdelayReqReceive (p : Nat) (seq : Nat) (egress : Instant) (s : State) : Outcome :=
  .next (if 2 ≤ p ∨ !s.ptpEnabled p ∨ !(s.ptpPort p).linkUp ∨ s.obj 0x3000 1 ≠ 1 ∨ !s.twoStep p then s
  else
    let s1 := pushStamp p (s.stampOf p 3 seq egress) s
    match claim (seq % 65536) [3] (s1.ptpPort p).txq with
    | none => s1.setPtp p { s1.ptpPort p with followUp := none }
    | some (t, l) => s1.setPtp p { s1.ptpPort p with txq := l, followUp := some t })

/-- TXQ_STALE_RETIRE (R255): entries not claimed within 1 s. -/
def execTxqStaleRetire (p : Nat) (s : State) : Outcome :=
  .next (if 2 ≤ p then s
  else
    let x := s.ptpPort p
    let keep := x.txq.filter fun t => decide (s.time.elapsed < t.at_ + 65536000000000)
    s.setPtp p { x with txq := keep, txStale := (x.txStale + (x.txq.length - keep.length)) % 4294967296 })

end Sys2Proof.Machine
end

