-- ==== Sys2Proof/Machine/Queues.lean ====
section
/-!
DEFINITION. Taking records from the event queues (R440, R441, R443).
-/

namespace Sys2Proof.Machine

/-- EVT_Q_DATA0 of a queue in REGISTER mode: the head record is popped into the latch; an empty queue clears
it (R440). -/
def readData0 (q : Nat) (s : State) : State :=
  let k := s.queue q
  if s.qMode q ≠ 0 then { s with out := ⟨0, 0, leBytes 4 0⟩ }
  else match k.records with
    | [] => { s.setQueue q { k with latch := none } with out := ⟨0, 0, leBytes 4 0⟩ }
    | r :: rest =>
      let v := leNat (r.bytes.take 4)
      { sealCycle (s.setQueue q { k with records := rest, latch := some r }) with out := ⟨v, 0, leBytes 4 v⟩ }

/-- EVT_Q_DATA0_READ (R440). -/
def execEvtQData0Read (q : Nat) (s : State) : Outcome := .next (if q < 8 ∧ s.power.vaux then readData0 q s else s)

/-- EVT_Q_RD comes into force. In HOST_RING mode the records up to it are freed (R440); indices count records of
the ring. -/
def takeQRd (q rd : Nat) (s : State) : State :=
  if s.qMode q ≠ 1 then s
  else
    let k := s.queue q
    let n := 2 ^ field (s.qCtrl q) 12 4
    let left := (k.wr + n - rd % n) % n
    if left ≤ k.records.length then s.setQueue q { k with records := k.records.drop (k.records.length - left) } else s

/-- EVT_Q_RD is written: a live field (R21, R443). -/
def writeQRd (q rd : Nat) (s : State) : State :=
  waitSetting .eventBlock true (0x1003C + 0x100 * q) (rd % 4096) 0 s

/-- EVT_Q_RD_WRITE (R21, R440): in force from the next transit boundary. -/
def execEvtQRdWrite (q rd : Nat) (s : State) : Outcome := .next (if q < 8 ∧ s.power.vaux then writeQRd q rd s else s)

/-- EVT_SEQ_LO: the high half of the same number is latched (R443). -/
def readSeqLo (s : State) : State :=
  let n := s.events.last
  { s with events := { s.events with seqHi := n / 4294967296 }, out := ⟨n % 4294967296, 0, leBytes 4 n⟩ }

/-- EVT_SEQ_LO_READ (R443). -/
def execEvtSeqLoRead (s : State) : Outcome := .next (if s.power.vaux then readSeqLo s else s)

end Sys2Proof.Machine
end

