-- ==== Sys2Proof/Machine/Power.lean ====
section
/-!
DEFINITION. Supplies, the Watch and Forge domains going off and returning, the return from a thermal trip,
and the resets (R10, R209, R337, R338, R446 to R454).
-/

namespace Sys2Proof.Machine

/-! ### The Watch domain (R10, R138, R190, R209, R218) -/

/-- An element whose Watch domain goes off or into reset: PARKED at rest, its volatile objects at their defaults
(R6, R10); its notch slot and Tq stand. -/
def restElem (x : Elem) : Elem := { notch := x.notch, tq := x.tq }

/-- A channel pair whose Watch domain goes off or into reset: only its stored CHAN_SPAN stands (R6). -/
def restChan (e : Nat) (s : State) : Chan := { span := s.obj (0x8000 + e) 0x30 }

/-- A leg leaves trim with the Watch domain, and its volatile trim objects take their defaults (R6). -/
def restLeg (l : LegSt) : LegSt :=
  { l with
    trim := .off, cause := 0, qualified := false, toSettling := false, share := 0, window := [], updates := []
    loss := 0, baseline := none, lossRun := 0, lossRaised := false, lossClear := 0 }

/-- A port without its converters: POWER_IN, POWER_OUT and PORT_FLAGS at their defaults (R6); the comparators and their
counts are Hearth's. -/
def restPort (x : Port) : Port := { lightEvents := x.lightEvents }
def restDet (x : Det) : Det := { lit := x.lit, below := x.below, threshAt := x.threshAt, latch := x.latch }

/-- Counting the happenings that no record holds starts as Watch goes off; a GAP that is still owed keeps its count
(R48, R270). -/
def startOff (a : Audit) : Audit :=
  if a.watchWasOff then a else { a with watchWasOff := true, offCount := 0, offFirst := 0, offLast := 0 }

/-- The Watch domain goes off or into reset: every channel at 0 V, every element at rest, AUX outputs
high-impedance, the Keeper in INIT, the banks' content lost. -/
def watchDown (s : State) : State :=
  let s1 := banksLost (keeperInit s)
  { s1 with
    power := { s1.power with watchOn := false }
    elems := (s1.elems.map fun p => (p.1, restElem p.2)).filter fun p => decide (p.2 ≠ {})
    chans := (s1.chans.map fun p => (p.1, restChan p.1 s1)).filter fun p => decide (p.2 ≠ {})
    legs := s1.legs.map fun p => (p.1, restLeg p.2)
    ports := (s1.ports.map fun p => (p.1, restPort p.2)).filter fun p => decide (p.2 ≠ {})
    dets := s1.dets.map fun p => (p.1, restDet p.2)
    ladder := { s1.ladder with state := 0, loaded := false, pendingSel := none, calSel := none, checking := false, deglitchAt := none, replacedAt := none }
    clear := { s1.clear with loaded := false, waiting := none, shadow := [], shadowAux := [], reject := 0xFFFFFFFF }
    aux := [], buoys := [], rewriting := [], loopsStarted := false, hm6 := {}, hm7 := {}
    mismatchesCleared := 0, windowsDiscarded := 0, lateSkips := 0
    regs := s1.regs.filter fun p => !(decide (0x380000 ≤ p.1) && decide (p.1 < 0x3A0000))
    reject := s1.reject.filter fun o => !(decide (0x380000 ≤ o) && decide (o < 0x3B0000))
    audit := startOff s1.audit }

/-- Elements whose need for a notch slot is ALWAYS hold one (R67). -/
def alwaysNotches (s : State) : State :=
  forEach (fun e t => if t.notchAlways e then assignNotch e 2 (t.resonance e 0) t else t)
    (numbers 0 elemCount) s

/-- The Watch domain powers up: banks zeroed, both Anvils released; with it the Forge, where it was off. -/
def watchUp (s : State) : State :=
  let s1 := banksPowerUp { s with power := { s.power with watchOn := true, forgeOn := true } }
  let s2 := releaseAnvils s1
  if s.power.forgeOn then s2
  else { s2 with forge := { s2.forge with state := .waking, lanesReady := false, coresReady := false } }

/-- A return without a boot, after STOP-3 or LC_SW_RESET WATCH: firmware that runs, whose self-test passed, enables the
ladder again (R209), and the first records are the GAP and those that waited (R338). -/
def watchReturn (s : State) : State :=
  let s1 := watchUp s
  let on := s.boot.firmware && s.boot.selftest && s.boot.calUsable
  placeWaiting (gapIfDue { s1 with ladder := { s1.ladder with state := bit on } })

/-! ### The thermal trip's end (R337, R338) -/

/-- The Forge domain goes off: no lane or core runs. -/
def forgeOff (s : State) : State :=
  { proofStop s with
    power := { s.power with forgeOn := false, pciePathOn := false }
    forge := { s.forge with state := .asleep, lanesReady := false, coresReady := false, resyncHold := false }
    image := none }

/-- THM_TRIP_POWER_OFF (R270, R337): 100 µs after the trip; the records in the buffer are lost. -/
def execThmTripPowerOff (s : State) : Outcome :=
  .next (match s.thermal.tripAt with
    | none => s
    | some t =>
      if !s.thermal.trip ∨ !s.power.watchOn ∨ s.time.elapsed < t + 100000 * 65536 then s
      else
        let s1 := forgeOff (watchDown s)
        { s1 with audit := { s1.audit with buffer := [] } })

/-- Watch powers up after a trip: the trip's latch clears, and the stage is STOP-1 (R338). -/
def tripReturn (s : State) : State :=
  let z := zoneOf s.thermal.tripSensor
  let s0 := s.setZone z { s.zone z with hot := { (s.zone z).hot with force := true, downRun := 0 } }
  let s1 := watchReturn { s0 with thermal := { s0.thermal with
    trip := false, tripAt := none, restartReady := false, stage := 2, stageZone := z, rateCause := false } }
  let i := s1.thermal.tripSensor
  let p := stageRecord 4 2 z 2 i (s1.sensor i).v (s1.sensor i).r1q
  refreshFans (audit 0x0B p (raiseEv 0x300 (p.take 8) s1))

/-- THM_RESTART_READY (R338): 0x306, and with AUTO_RESTART the return at once. -/
def execThmRestartReady (s : State) : Outcome :=
  .next (if s.restartDue then
    let s1 := raiseEv 0x306 [] { s with thermal := { s.thermal with restartReady := true } }
    if (s.reg 0x360004).testBit 0 ∧ s.power.vmain then tripReturn s1 else s1
  else s)

/-- RESTART written to THM_CTRL (R338): ignored while RESTART_READY is 0. -/
def thermalRestart (w : Writer) (s : State) : State :=
  if s.thermal.restartReady ∧ s.power.vmain then tripReturn s else rejectWrite 0x360000 w 0x360004 s

/-- THM_RESTART (R338). -/
def execThmRestart (w : Writer) (s : State) : Outcome := .next (if s.power.vaux then thermalRestart w s else s)

/-! ### Domains start and stop (R448, R451, R453) -/

/-- A stored object's entry (R6). -/
def storedEntry (k : Nat) : Bool :=
  match objRow (k / 256) (k % 256) with
  | some r => r.stored
  | none => false

/-- What is lost with the Forge: sessions, requests, pending batches, the schedule, the plans, the firmware's
run and the volatile objects of the Forge and Watch blocks. Objects of the management ports and PTP are Hearth's. -/
def forgeLost (s : State) : State :=
  let s1 := forgeOff s
  let hearth (k : Nat) : Bool := decide (k / 256 = 0x1400) || decide (0x3000 ≤ k / 256 ∧ k / 256 < 0x3100)
  { s1 with
    boot := { s1.boot with firmware := false, started := false, verified := false }
    sessions := [], kept := [], spi := {}, mbx := [], aex := {}, disp := {}
    batches := [], closed := [], nextBatch := 1, lateBatches := 0, commitCount := 0
    sched := {}, planner := {}, image := none, matrix := {}, bar2Sleep := 0
    forge := { s1.forge with wakeCount := 0, lastWake := 0 }
    power := { s1.power with pcie := .down, pciePathOn := false }
    regs := s1.regs.filter fun p => !(decide (0x1000 ≤ p.1 ∧ p.1 < 0x1500) || decide (0x3B0000 ≤ p.1 ∧ p.1 < 0x3C0000))
    objs := s1.objs.filter fun p => storedEntry p.1 || hearth p.1
    live := s1.live.filter fun w => !w.isReg && storedEntry w.key
    ddr := [] }

/-- What survives a restart of every domain: the stored objects and their journal, calibration slots, flash
images, the life-cycle, the audit chain's stored state, the calendar and the Quench banks' content. -/
def cold (s : State) : State :=
  { pending := s.pending
    time := { calValid := s.time.calValid, calValue := s.calendarNow }
    power := {
      vaux := s.power.vaux, vmain := s.power.vmain, vhv := s.power.vhv, vbat := s.power.vbat
      modResetLow := s.power.modResetLow, perstLow := s.power.perstLow, resetCause := s.power.resetCause
      vauxLostSinceWatch := s.power.vauxLostSinceWatch }
    boot := { imageA := s.boot.imageA, imageB := s.boot.imageB, pref := s.boot.pref, fusedSvn := s.boot.fusedSvn }
    life := { s.life with target := none, tamperNow := 0 }
    genEpoch := s.genEpoch
    cfgs := s.cfgs.map fun p => (p.1, { body := p.2.body, state := p.2.state })
    -- the pin keeps its level, and a retired cell stays retired (R192, R207)
    clear := { table := s.clear.table, aux := s.clear.aux, asserted := s.clear.asserted, auxFollowing := s.clear.asserted }
    ladder := { retired := s.ladder.retired, spares := s.ladder.spares, errs := s.ladder.errs }
    audit := { (dropRing s).audit with
      waiting := [], dropped := 0, dropFirst := 0, dropLast := 0
      nearFull := false, full := false, watchWasOff := false, offCount := 0, offFirst := 0, offLast := 0 }
    cal := { types := s.cal.types, run := s.cal.run }
    thermal := { sensors := s.thermal.sensors }
    mem := s.mem.filter fun c => decide (62 * bankBytes ≤ c.1)
    objs := s.objs.filter fun p => storedEntry p.1
    blobs := s.blobs.filter fun p => storedEntry p.1
    regs := s.regs.filter fun p => decide (0x11000 ≤ p.1 ∧ p.1 < 0x15000)
    freeCtr := s.freeCtr }

/-- A transition in progress loses its keys with the power (R462). -/
def breakTransition (s : State) : State :=
  if s.life.target.isSome then
    { s with life := { s.life with target := none, auditKey := none, tlsKey := false } } else s

/-- Watch and Forge start up, where VMAIN is present, no reset pin holds them and no trip is latched (R451). -/
def startUp (s : State) : State :=
  if s.power.vaux ∧ s.power.vmain ∧ !s.power.modResetHeld ∧ !s.thermal.trip ∧ !s.power.watchOn then watchUp s else s

/-- VAUX_GOOD (R446, R447): Hearth starts; `epochNow` is the calendar's reading, which ran on VBAT, and is invalid
without it (R246). -/
def execVauxGood (vbat : Bool) (epochNow : Instant) (s : State) : Outcome :=
  .next (if s.power.vaux then s
  else
    let s1 := cold s
    startUp { s1 with
      power := { s1.power with vaux := true, vbat := vbat, resetCause := 1, vauxLostSinceWatch := true }
      time := { s1.time with calValid := s1.time.calValid && vbat, calValue := epochNow } })

/-- VAUX_LOST (R448, R360): every domain stops; no flush, the Quench banks and the keys are lost. -/
def execVauxLost (vbat : Bool) (s : State) : Outcome :=
  .next (if !s.power.vaux then s
  else
    -- a flush made before stays in flash (R273)
    let s1 := cold (if s.audit.hasFlush then breakTransition s else loseAudit (breakTransition s))
    { s1 with
      power := { s1.power with vaux := false, vbat := vbat, vauxLostSinceWatch := true, modResetLow := false }
      mem := [], ddr := []
      life := { s1.life with auditKey := none, tlsKey := false }
      time := { s1.time with calValid := s1.time.calValid && vbat } })

/-- VMAIN_GOOD (R447, R451). VHV comes with it (log 65). -/
def execVmainGood (s : State) : Outcome :=
  .next (if s.power.vmain ∨ s.power.flush = 1 then s
  else startUp { s with power := { s.power with vmain := true, vhv := true } })

/-- VMAIN_LOST (R116, R448): the hold-up store carries the flush. -/
def execVmainLost (s : State) : Outcome :=
  .next (if !s.power.vmain then s
  else
    let s1 := { s with power := { s.power with vmain := false } }
    if !s.power.watchOn then
      let s2 := forgeLost (if s1.audit.hasFlush then dropRing s1 else loseAudit s1)
      if s.power.vaux then raiseEv 0x085 [] s2 else s2
    else schedHalt 5 (raiseEv 0x085 [] { s1 with power := { s1.power with flush := if s.power.flush = 2 then 2 else 1 } }))

/-- VMAIN_FLUSH_DONE (R273, R448): Watch and Forge switch off. -/
def execVmainFlushDone (s : State) : Outcome :=
  .next (if s.power.flush ≠ 1 then s
  else
    let s1 := forgeLost (watchDown (dropRing (flushAudit (breakTransition s))))
    { s1 with power := { s1.power with flush := 0 } })

/-! ### Reset pins and software resets (R452 to R454) -/

/-- Every domain restarts from reset; with VMAIN absent no flush was made. -/
def moduleReset (s : State) : State := cold (breakTransition s)

/-- MOD_RESET_N or LC_SW_RESET MODULE: the flush runs on VMAIN; with VMAIN absent the reset is immediate. -/
def beginReset (cause : Nat) (s : State) : State :=
  let s1 := { s with power := { s.power with resetCause := orBit s.power.resetCause cause } }
  if s1.power.vmain then { s1 with power := { s1.power with flush := 2 } }
  else
    let s2 := moduleReset (if s1.audit.hasFlush then s1 else loseAudit s1)
    startUp { s2 with power := { s2.power with modResetHeld := s2.power.modResetLow } }

/-- MOD_RESET_ASSERT (R452). -/
def execModResetAssert (s : State) : Outcome :=
  .next (if !s.power.vaux ∨ s.power.modResetLow then s
  else
    let s1 := { s with power := { s.power with modResetLow := true } }
    if s1.power.flush = 2 then { s1 with power := { s1.power with resetCause := orBit s1.power.resetCause 1 } }
    else beginReset 1 s1)

/-- MOD_RESET_FLUSH_DONE (R452): held in reset while the pin is still low, and otherwise start-up. -/
def execModResetFlushDone (s : State) : Outcome :=
  .next (if s.power.flush ≠ 2 then s
  else
    let s1 := moduleReset (flushAudit s)
    startUp { s1 with power := { s1.power with modResetHeld := s1.power.modResetLow } })

/-- MOD_RESET_RELEASE (R452). -/
def execModResetRelease (s : State) : Outcome :=
  .next (if !s.power.modResetLow then s
  else startUp { s with power := { s.power with modResetLow := false, modResetHeld := false } })

/-- The queues in HOST_RING mode return to their reset values (R453). -/
def resetHostRings (s : State) : State :=
  forEach (fun q t =>
    if t.qMode q = 1 then
      let off := 0x10000 + 0x100 * q
      { t with
        regs := t.regs.filter fun p => !(decide (off ≤ p.1) && decide (p.1 < off + 0x100))
        queues := mapErase t.queues q }
    else t) (numbers 0 8) s

/-- PERST_ASSERT (R453): the endpoint and its MSI-X table reset; rings and export stop, and their sessions close. -/
def execPerstAssert (s : State) : Outcome :=
  .next (if s.power.perstLow ∨ !s.power.vaux then s
  else
    let s1 := { s with power := { s.power with
      perstLow := true, resetCause := orBit s.power.resetCause 2, pcie := .down, pciePathOn := false } }
    let stop (o : Nat) (t : State) : State := t.setReg o (setField (t.reg o) 0 1 0)
    let s2 := forEach (fun r t => closeSession r 3 (stop (mbxReg r 0) (t.setRing r {}))) (numbers 1 4) s1
    let s3 := resetHostRings ((stop 0x1400 s2).setReg 0x1414 0)
    { s3 with
      aex := {}, events := { s3.events with vectors := [] }
      live := s3.live.filter fun w => !(w.isReg && ((numbers 1 4).map fun r => mbxReg r 0).contains w.key) && decide (w.key ≠ 0x1400)
      regs := s3.regs.filter fun p => !(decide (0x20000 ≤ p.1) && decide (p.1 < 0x22000)) })

/-- PERST_RELEASE (R453): the endpoint restarts, and its link trains. -/
def execPerstRelease (s : State) : Outcome :=
  .next (if s.power.perstLow then { s with power := { s.power with perstLow := false, pciePathOn := s.power.forgeOn } } else s)

/-- The Forge counts as running for LC_SW_RESET FORGE (R454). -/
def State.forgeRuns (s : State) : Bool :=
  (s.batches.any fun b => b.pending || decide (b.state = .moving)) || decide (s.sched.state ≠ .idle)
    || s.cal.run.isSome || s.anyTransit

/-- A software reset's key is wrong (R454). -/
def badKey (w : Writer) (s : State) : State := rejectWrite 0x30000 w 0x30008 s

/-- LC_SW_RESET MODULE (R454). -/
def execLcSwResetModule (w : Writer) (key : Nat) (s : State) : Outcome :=
  .next (if !s.power.vaux then s else if key ≠ 0xA5 then badKey w s else if s.power.flush = 2 then s else beginReset 3 s)

/-- Watch restarts as after STOP-3 (R453, R454): bank 61's records move to the ring first. -/
def watchReset (s : State) : State :=
  let s1 := { s with power := { s.power with resetCause := orBit s.power.resetCause 4 } }
  if !s1.power.watchOn then s1
  else
    let s2 := schedHalt 5 (moveRecords s1.audit.buffer.length s1)
    let s3 := refreshImage (forEach (fun b t => failBatch b stNotEligible t) s2.pendingBatches s2)
    watchReturn (watchDown s3)

/-- LC_SW_RESET WATCH (R454). -/
def execLcSwResetWatch (w : Writer) (key : Nat) (s : State) : Outcome :=
  .next (if !s.power.vaux then s else if key ≠ 0xA5 then badKey w s else watchReset s)

/-- The cores restart (R453): sessions 1 to 28 close, kept responses go, session 0 takes SPI_ROLE and full
buckets (R412, R421). -/
def forgeReset (s : State) : State :=
  let s1 := forEach (fun n t => closeSession n 4 t) (numbers 1 28)
    { s with power := { s.power with resetCause := orBit s.power.resetCause 5 } }
  let x := s1.session 0
  let s2 := s1.setSession 0 { x with
    role := s1.obj 0x1400 1
    reqTokens := s1.obj 0x3510 2 * tokUnit, moveTokens := s1.obj 0x3510 4 * tokUnit, filledAt := s1.time.elapsed }
  { s2 with
    kept := [], disp := { s2.disp with vtime := 0 }
    forge := if s2.power.forgeOn then { s2.forge with state := .waking, coresReady := false } else s2.forge }

/-- LC_SW_RESET FORGE (R23, R454): rejected while the Forge counts as running. -/
def execLcSwResetForge (w : Writer) (key : Nat) (s : State) : Outcome :=
  .next (if !s.power.vaux then s else if key ≠ 0xA5 ∨ s.forgeRuns then badKey w s else forgeReset s)

end Sys2Proof.Machine
end

