-- ==== Sys2Proof/Machine/Boot.lean ====
section
/-!
DEFINITION. Firmware images, boot and update (R451, R455 to R458).
-/

namespace Sys2Proof.Machine

/-! ### Images (R456) -/

/-- The SVN of an image. -/
def Image.svn (i : Image) : Nat := (if i.factory then Config.factoryConst 0x1810 4 8 else leAt i.bytes 8 1) % 64

/-- VERSION of an image. -/
def Image.version (i : Image) : Nat :=
  if i.factory then Config.factoryConst 0x1810 4 4 % 4294967296 else leAt i.bytes 4 4

/-- The body of an image. -/
def Image.body (i : Image) : List Byte := (i.bytes.drop 128).take (leAt i.bytes 16 4)

/-- The CHECK of an image in slot `k`: over bytes 0 to 123 and the body, with the slot's flash byte address as context
(R264, R455, R456). -/
def Image.checkAt (k : Nat) (i : Image) : Nat := crc32c (k * 0x1000000) (i.bytes.take 124 ++ i.body)

/-- The engine stores an image in slot `k` and writes its CHECK. -/
def Image.store (k : Nat) (i : Image) : Image :=
  { i with bytes := i.bytes.take 124 ++ leBytes 4 (i.checkAt k) ++ i.bytes.drop 128, erased := false }

/-- An image's form, signature and body hash are good. -/
def Image.sound (i : Image) : Bool :=
  if i.factory then true
  else
    let bs := i.bytes
    let n := leAt bs 16 4
    decide (leAt bs 0 4 = 0x57464B48) && decide (n ≤ 16777088) && decide (128 + n ≤ bs.length)
      && decide (leAt bs 8 1 < 64) && decide (leAt bs 9 7 = 0)
      && Config.pelliotteSigned 0 (bs.take 52) ((bs.drop 52).take 64)
      && decide (sha256 i.body = (bs.drop 20).take 32)

/-- The image in slot `k` is valid (R456). -/
def State.imageValid (s : State) (k : Nat) (i : Image) : Bool :=
  i.sound && (i.factory || decide (leAt i.bytes 124 4 = i.checkAt k)) && decide (s.boot.fusedSvn ≤ i.svn) && !i.erased

/-- Image slot 0 A, 1 B. -/
def State.imageAt (s : State) (k : Nat) : Image := if k = 0 then s.boot.imageA else s.boot.imageB

/-- Replace it. -/
def State.setImage (s : State) (k : Nat) (i : Image) : State :=
  { s with boot := if k = 0 then { s.boot with imageA := i } else { s.boot with imageB := i } }

/-! ### Boot (R451, R457) -/

/-- BOOT_IMAGE_VERIFY (R457): BOOT 0 RUNNING, 1 FALLBACK, 2 NO_IMAGE, in which Watch stays off. -/
def execBootImageVerify (s : State) : Outcome :=
  .next (if !s.power.watchOn ∨ s.boot.verified then s
  else
    let p := s.boot.pref
    let take (k f : Nat) : State := { s with boot := { s.boot with running := k, bootField := f, verified := true } }
    if s.imageValid p (s.imageAt p) then take p 0
    else if s.imageValid (1 - p) (s.imageAt (1 - p)) then take (1 - p) 1
    else
      let s1 := watchDown s
      { s1 with boot := { s1.boot with bootField := 2 } })

/-- The configuration generation at boot: a new epoch, an empty circuit table (R74). -/
def bootConfig (s : State) : State :=
  let s1 := { s with
    genEpoch := (s.genEpoch + 1) % 2 ^ 24, genCount := 0, active := {}, legs := [], notches := [], digests := []
    elems := (s.elems.map fun (p : Nat × Elem) => (p.1, { p.2 with notch := none })).filter
      fun (p : Nat × Elem) => decide (p.2 ≠ ({} : Elem)) }
  alwaysNotches { s1 with digest := s1.active.digest s1.generation }

/-- Stored bodies are compiled again (R119). -/
def bootCfgs (s : State) : State :=
  { s with cfgs := s.cfgs.map fun p => (p.1, if p.2.state = 0 then p.2 else { p.2 with state := 1, image := {} }) }

/-- The stored GATE_ENABLE stands again (R6); a stored gate list is committed again where no list is in force, and
scheduled with GATE_ENABLE 1 (R433). -/
def bootGate (p : Nat) (s : State) : State :=
  let en : Bool := decide (s.obj (0x3540 + p) 1 = 1)
  let g := { s.gate p with enable := en }
  let list := s.blob (0x3540 + p) 3 []
  if g.active.isSome ∨ g.committed.isSome ∨ list = [] then s.setGate p g
  else
    let l : GateList := ⟨time96Of (s.blob (0x3540 + p) 2 []), gateEntries list (list.length / 8)⟩
    let s1 := s.setGate p { g with committed := some l }
    if en then scheduleGate p s1 else s1

/-- FIRMWARE_RUNNING (R209, R274, R317, R451, R457): flushed audit records are restored, calibration slots
chosen, and the ladder enabled where the self-test passed and calibration is usable. -/
def execFirmwareRunning (selftest : Bool) (s : State) : Outcome :=
  .next (if !s.boot.verified ∨ s.boot.firmware ∨ !s.power.watchOn ∨ !s.time.running then s
  else
    let s1 := { s with boot := { s.boot with firmware := true, selftest := selftest } }
    let s2 := if s.boot.bootField = 1 then raiseEv 0x082 [] s1 else s1
    let s3 := bootGate 1 (bootGate 0 (bootCfgs (bootConfig (bootCal (restoreAudit s2)))))
    { s3 with
      ladder := { s3.ladder with state := bit (selftest && s3.boot.calUsable) }
      chans := (numbers 0 elemCount).filterMap fun e =>
        let c := restChan e s3
        if c = {} then none else some (e, c) })

/-- STARTUP_COMPLETE (R119, R451): no stored configuration is still compiling; sessions are accepted. -/
def execStartupComplete (s : State) : Outcome :=
  .next (if !s.boot.firmware ∨ s.boot.started ∨ s.cfgs.any (fun p => decide (p.2.state = 1)) then s
  else
    let s1 := { s with boot := { s.boot with started := true } }
    let x := s1.session 0
    let s2 := s1.setSession 0 { x with
      isOpen := true, link := 0, role := s1.obj 0x1400 1, opened := s1.now
      reqTokens := s1.obj 0x3510 2 * tokUnit, moveTokens := s1.obj 0x3510 4 * tokUnit, filledAt := s1.time.elapsed }
    forEach (fun r t => if (t.ring r).running ∧ !(t.session r).isOpen then openSession r 1 (t.obj 0x1400 2) [] t else t)
      (numbers 1 4) s2)

/-- BOOT_RECOVERY_LOAD (R457): a write of LC_REC_LEN in NO_IMAGE; a valid image goes to slot A, and the engine
restarts. -/
def execBootRecoveryLoad (len : Nat) (image : List Byte) (s : State) : Outcome :=
  .next (
    let n := len % 33554432
    let s1 := s.setReg 0x30018 n
    let i : Image := { bytes := image.take n }
    if s.boot.bootField ≠ 2 ∨ s.power.watchOn ∨ image.length < n ∨ !i.sound ∨ i.svn < s1.boot.fusedSvn then s1
    else
      let s2 := s1.setImage 0 (i.store 0)
      startUp { s2 with boot := { s2.boot with bootField := 0, verified := false } })

/-! ### Update (R458) -/

/-- The image slot that is not in use. -/
def State.spareSlot (s : State) : Nat := 1 - s.boot.running

/-- FW_UPDATE_START (R458): from here a loss of power leaves BOOT_PREF naming the image in use (log 64). -/
def execFwUpdateStart (ses value : Nat) (s : State) : Outcome :=
  .next (gated ses 0x1810 5 (valBytes 1 value) (fun s =>
    if value = 0 then reply ses stOk s
    else
      let s1 := s.setImage s.spareSlot { erased := true }
      reply ses stOk { s1 with boot := { s1.boot with pref := s.boot.running } }) s)

/-- Bytes written into erased flash at an offset; a gap keeps its erased bytes. -/
def writeImage (bs : List Byte) (off : Nat) (data : List Byte) : List Byte :=
  let base := if bs.length < off then bs ++ List.replicate (off - bs.length) 0xFF#8 else bs
  base.take off ++ data ++ base.drop (off + data.length)

/-- FW_UPDATE_DATA (R458): into the slot that FW_UPDATE_START erased. -/
def execFwUpdateData (ses : Nat) (value : List Byte) (s : State) : Outcome :=
  .next (gated ses 0x1810 6 value (fun s =>
    let off := leAt value 0 4
    let data := value.drop 4
    let i := s.imageAt s.spareSlot
    if 16777216 < off + data.length then reply ses stRange s
    else if !i.erased then reply ses stNotEligible s
    else reply ses stOk (s.setImage s.spareSlot { i with bytes := writeImage i.bytes off data })) s)

/-- FW_UPDATE_COMMIT (R458). -/
def execFwUpdateCommit (ses value : Nat) (s : State) : Outcome :=
  .next (gated ses 0x1810 7 (valBytes 1 value) (fun s =>
    let k := s.spareSlot
    let i := s.imageAt k
    if value = 0 then reply ses stOk s
    else if !i.sound then reply ses stCheckFail s
    else if i.svn < s.boot.fusedSvn then reply ses stPrecondition s
    else
      let s1 := s.setImage k (i.store k)
      reply ses stOk (raiseEv 0x083 [] { s1 with boot := { s1.boot with pref := k } })) s)

/-- FW_CONFIRM (R458). -/
def execFwConfirm (ses value : Nat) (s : State) : Outcome :=
  .next (gated ses 0x1810 8 (valBytes 1 value) (fun s =>
    if value = 0 then reply ses stOk s
    else if s.boot.running ≠ s.boot.pref then reply ses stNotEligible s
    else reply ses stOk { s with boot := { s.boot with
      fusedSvn := max s.boot.fusedSvn (s.imageAt s.boot.running).svn } }) s)

end Sys2Proof.Machine
end

