-- ==== Sys2Proof/Machine/Life.lean ====
section
/-!
DEFINITION. Life-cycle transitions, orderly shutdown and tamper (R459 to R465).
-/

namespace Sys2Proof.Machine

/-- The code of a life-cycle state (R459). -/
def LcState.code : LcState → Nat
  | .blank => 0
  | .provisioned => 1
  | .deployed => 2
  | .decommissioned => 3
  | .rma => 4

/-- The state of a code. -/
def lcOf (n : Nat) : Option LcState :=
  if n = 0 then some .blank else if n = 1 then some .provisioned else if n = 2 then some .deployed
  else if n = 3 then some .decommissioned else if n = 4 then some .rma else none

/-- LC_NONCE. -/
def State.nonce (s : State) : Nat := Config.nonce s.life.nonceNo % 2 ^ 64

/-- At least one trust anchor has role ADMIN. -/
def State.adminAnchor (s : State) : Bool :=
  (numbers 0 8).any fun n => decide (s.blob 0x1600 (0x10 + n) [] ≠ []) && decide (s.obj 0x1600 (0x20 + n) = 2)

/-- The table of R460: whether a transition is permitted to a session. -/
def State.lcPermits (s : State) (ses : Nat) (target : LcState) : Bool :=
  match s.life.state, target with
  | _, .rma => true
  | .blank, .provisioned => true
  | .provisioned, .deployed => decide (ses ≠ 31)
  | .deployed, .deployed => true
  | .deployed, .decommissioned => true
  | .rma, .blank => decide (ses = 31)
  | _, _ => false

/-- The precondition of a permitted transition. -/
def State.lcReady (s : State) (target : LcState) : Bool :=
  match s.life.state, target with
  | .provisioned, .deployed => s.adminAnchor
  | .deployed, .deployed => s.life.auditKey.isNone
  | _, _ => true

/-- SERIAL (R412): a STRING of at most 255 bytes. -/
def serialNumber : List Byte := (Config.factoryBytes 0x100004 0).take 255

/-- The message of an RMA token: the serial number and the nonce. -/
def State.tokenMessage (s : State) : List Byte := serialNumber ++ leBytes 8 s.nonce

/-- The nonce is the present one, and the token, or the zeros in its place, are good. -/
def State.lcTokenOk (s : State) (v : List Byte) : Bool :=
  decide (leAt v 8 8 = s.nonce)
    && (if leAt v 0 1 = 4 then Config.pelliotteSigned 1 s.tokenMessage ((v.drop 16).take 64) && decide (leAt v 80 16 = 0)
        else decide (leAt v 16 80 = 0))

/-- The batch that breaks every circuit (R461): a BREAK record for each circuit or group, on session 30. -/
def State.breakAll (s : State) : Batch :=
  let ids := (s.active.slots.filter fun p => decide (p.2.kind = .p2p ∨ p.2.kind = .group)).map fun p => p.1
  { id := s.nextBatch, session := 30, t0 := 0
    records := ids.map fun id => ⟨2, 0, id, 0xFFFF, 0xFFFF, 0, 0, 0, 0, [], []⟩ }

/-- A transition starts: for DECOMMISSIONED every circuit is broken first. -/
def startTransition (ses : Nat) (t : LcState) (s : State) : State :=
  let s1 := { s with life := { s.life with target := some t, asker := ses } }
  if t = .decommissioned ∧ !s.active.slots.isEmpty then
    { s1 with batches := s1.batches ++ [s1.breakAll], nextBatch := nextBatchId s1.nextBatch }
  else s1

/-- LC_REQUEST (R460): LC_NONCE changes whatever the outcome; an accepted request is answered when its
transition completes. Any session may ask for RMA. -/
def execLcRequest (ses : Nat) (value : List Byte) (s : State) : Outcome :=
  .next (if !s.served ses then s
  else
    let rma : Bool := decide (leAt value 0 1 = 4)
    let st := if rma then (if value.length = 96 then stOk else stBadType) else s.writeGate ses 0x1800 3 value
    let bump (t : State) : State := { t with life := { t.life with nonceNo := t.life.nonceNo + 1 } }
    if st ≠ stOk then reply ses st (bump s)
    else if !s.lcTokenOk value then reply ses stDenied (bump s)
    else match lcOf (leAt value 0 1) with
      | none => reply ses stNotEligible (bump s)
      | some t =>
        if s.life.target.isSome ∨ !s.lcPermits ses t then reply ses stNotEligible (bump s)
        else if !s.lcReady t then reply ses stPrecondition (bump s)
        else startTransition ses t (bump s))

/-- DECOMMISSIONED erases trust anchors, stored objects and the user calibration slots; the factory layer stays. -/
def eraseStored (s : State) : State :=
  { s with
    objs := s.objs.filter fun p => !storedEntry p.1
    blobs := s.blobs.filter fun p => !storedEntry p.1
    cfgs := []
    clear := { s.clear with waiting := some ([], []) }
    regs := s.regs.filter fun p => !(decide (0x11000 ≤ p.1) && decide (p.1 < 0x15000))
    cal := { s.cal with types := s.cal.types.map fun p => (p.1, { p.2 with user0 := {}, user1 := {}, inForce := none }) } }

/-- The keys of the new state (R459, R461): a new generation of the audit key in DEPLOYED, a TLS key there and in
PROVISIONED. -/
def newKeys (t : LcState) (s : State) : State :=
  let n := s.life.keyNo + 1
  { s with life := { s.life with
      keyNo := n
      auditKey := if t = .deployed then some n else none
      tlsKey := decide (t = .deployed ∨ t = .provisioned) } }

/-- LC_TRANSITION_COMPLETE (R461). -/
def execLcTransitionComplete (s : State) : Outcome :=
  .next (match s.life.target with
    | none => s
    | some t =>
      if t = .decommissioned ∧ (!s.active.slots.isEmpty ∨ s.batches.any (fun b => decide (b.session = 30))) then s
      else
        let old := s.life.state
        let s1 := if t = .decommissioned then eraseStored s else s
        let s2 := newKeys t (wipeQuench (closeEpoch s1))
        let s3 := { s2 with life := { s2.life with state := t, target := none } }
        let s4 := placeWaiting (audit 0x10 ([byte old.code, byte t.code] ++ s3.keyIdBytes)
          (openEpoch 0 { s3 with audit := { s3.audit with lastSigned := none, sealSig := [], sealed := s3.audit.sealed && decide (t ≠ .deployed) } }))
        reply s4.life.asker stOk (raiseEv 0x081 [] s4))

/-- LC_SHUTDOWN (R463): the epoch is closed and the flush begins. -/
def execLcShutdown (ses value : Nat) (s : State) : Outcome :=
  .next (gated ses 0x1800 4 (valBytes 1 value) (fun s =>
    if value = 0 then reply ses stOk s
    else
      let s1 := if s.audit.closed then s else closeEpoch s
      reply ses stOk { s1 with power := { s1.power with flush := if s1.power.flush = 0 then 3 else s1.power.flush } }) s)

/-- SHUTDOWN_READY (R463): the flush made for LC_SHUTDOWN ends. -/
def execShutdownReady (s : State) : Outcome :=
  .next (if s.power.flush ≠ 3 then s
  else
    let s1 := flushAudit s
    raiseEv 0x086 [] { s1 with power := { s1.power with flush := 0 } })

/-- The tamper sources that are not masked: the lid may be, except in DEPLOYED (R464). -/
def State.tamperSources (s : State) (sources : Nat) : Nat :=
  let n := sources % 16
  if s.life.state ≠ .deployed ∧ s.obj 0x1820 1 = 1 then clrBit n 0 else n

/-- A transition in progress is abandoned: its request returns PRECONDITION (R462). -/
def abandonTransition (s : State) : State :=
  if s.life.target.isSome then reply s.life.asker stPrecondition { s with life := { s.life with target := none } } else s

/-- TAMPER (R276, R464), stamped at its capture point: the sources present now. Where none is left TAMPER_NOW alone follows
(R466). -/
def execTamper (sources : Nat) (at_ : Instant) (s : State) : Outcome :=
  .next (
    let n := s.tamperSources sources
    if !s.power.vaux then s
    else if n = 0 then { s with life := { s.life with tamperNow := 0 } }
    else
      let key := s.life.auditKey.getD s.life.keyNo
      let last := match s.audit.lastSigned with | none => 0 | some (q, _) => q
      let s1 := wipeQuench s
      let s2 := { s1 with
        life := { s1.life with
          auditKey := none, tlsKey := false, tamperNow := n
          tamperCount := (s1.life.tamperCount + 1) % 4294967296, tamperLast := at_, tamperSources := n }
        audit := { s1.audit with sealDue := some (key, at_) } }
      let s3 := auditAt at_ 0 0x0F ([byte n, byte s2.life.state.code] ++ leBytes 8 last) s2
      abandonTransition (raiseAt 0x080 at_ 0 [] s3))

end Sys2Proof.Machine
end

