-- ==== Sys2Proof/Machine/Live.lean ====
section
/-!
DEFINITION. Live settings coming into force and shadow snapshots being transferred (R14, R21 to R28, R486).
-/

namespace Sys2Proof.Machine

/-- A value of bytes as one number: a byte 1 above the last one keeps the length. -/
def packBytes (bs : List Byte) : Nat := leNat (bs ++ [1#8])

/-- The bytes of such a number. -/
def unpackBytes (n : Nat) : List Byte := leBytes (Nat.log2 n / 8) n

/-- The block that owns the settings of an index (R22). -/
def blockOf (ix sub : Nat) : Block :=
  if ix < 0x1200 then .fabric
  else if ix < 0x1300 then .forgePower
  else if ix < 0x1600 then .hostLinks
  else if ix < 0x1800 then .trust
  else if ix < 0x2000 then .lifeCycle
  else if ix < 0x2100 then .planner
  else if ix < 0x3000 then .watchSchedule
  else if ix < 0x3100 then .ptp
  else if ix < 0x3200 then .audit
  else if ix < 0x3400 then .calibration
  else if ix < 0x3500 then .keeper
  else if ix < 0x3530 then .dispatch
  else if ix < 0x3540 then .eventBlock
  else if ix < 0x4000 then .dispatch
  else if ix < 0x5000 then (if sub = 0x10 ∨ sub = 0x11 then .timeBlock else .pathTrim)
  else if ix < 0x5200 then .elementLoop
  else if ix < 0x5300 then .pathTrim
  else if ix < 0x8000 then .channels
  else .elementLoop

/-- A trim boundary falls at this instant, whether or not its hold boundary has been worked off. -/
def State.trimFalls (s : State) : Bool :=
  s.time.running && s.atTransit && decide (s.now % trimUnits = 0)
    && decide (s.time.trimStart + trimUnits ≤ s.time.elapsed)

/-- The elapsed instant of a block's last period boundary (R22). Comparator thresholds change at transit
boundaries (R164). -/
def State.blockBoundary (s : State) : Block → Nat
  | .elementLoop => if s.holdDue then s.time.elapsed else s.time.holdStart
  | .channels => if s.holdDue then s.time.elapsed else s.time.holdStart
  | .keeper => if s.holdDue then s.time.elapsed else s.time.holdStart
  | .pathTrim => if s.trimFalls then s.time.elapsed else s.time.trimStart
  | _ => s.time.transitStart

/-- A block of the Forge domain (R9): its settings wait for the transit lanes (R14). -/
def inForge : Block → Bool
  | .planner => true
  | .watchSchedule => true
  | .dispatch => true
  | .matrix => true
  | .audit => true
  | _ => false

/-! ### Effects of a setting coming into force -/

/-- A profile or ELEM_PROFILE has been written: a running element whose gains change takes them with a hand-over
(R145), and one whose limits change keeps its old ones while its reference moves (R133). -/
def newProfile (old : State) (s : State) : State :=
  forEach (fun p t =>
    let e := p.1
    let x := t.elem e
    let differ (from_ n : Nat) : Bool := (numbers from_ n).any fun k => decide (old.prof e k ≠ t.prof e k)
    if !x.mode.runs then t
    else t.setElem e { x with
      rehand := if differ 1 10 then some true else x.rehand
      limits := if x.limits.isEmpty && differ 0x0E 6 && !x.atRest (t.loopClock e)
        then (numbers 0x0E 6).map fun k => old.profF e k else x.limits }) s.elems s

/-- EVT_MAP: 4,096 map entries (R444). -/
def writeMap (bs : List Byte) (s : State) : State :=
  forEach (fun i t => t.setReg (0x11000 + 4 * i) (leAt bs (4 * i) 4 &&& 0xE70001FF)) (numbers 0 4096) s

/-- Every v2 session closes (R395). -/
def closeV2 (s : State) : State :=
  forEach (fun n t => if (t.session n).isOpen ∧ (t.session n).link = 2 then closeSession n 2 t else t) (numbers 5 24) s

/-- An object's value comes into force with what follows from it: buckets fill at the old rate and keep to the
new burst (R421), and a port's attenuation starts again at ATTEN_SET (R177). -/
def applyObject (key v : Nat) (s : State) : State :=
  let ix := key / 256
  let sub := key % 256
  let old := s
  if ix = 0x1600 ∧ sub < 0x20 then { s with blobs := mapPut s.blobs key (unpackBytes v) }
  else if ix = 0x3530 then writeMap (unpackBytes v) s
  else if 0x3540 ≤ ix ∧ ix < 0x3542 then setGateEnable (ix - 0x3540) v s
  else if 0x8000 ≤ ix ∧ sub = 9 then s.setElem (ix - 0x8000) { s.elem (ix - 0x8000) with manualCode := v }
  else
    let s0 := if 0x3510 ≤ ix ∧ ix < 0x3530 ∧ sub ≤ 4 then fillBuckets (ix - 0x3510) s else s
    let s := s0.setObj ix sub v
    if ix = 0x1100 then forEach refreshPort (numbers 0 2048) s
    else if ix = 0x1200 ∧ sub = 2 ∧ v = 1 then wakeForge s
    else if ix = 0x1400 ∧ sub = 4 ∧ v = 0 then closeV2 s
    else if 0x3010 ≤ ix ∧ ix < 0x3012 ∧ sub = 1 then ptpEnableChanged (ix - 0x3010) s
    else if 0x3010 ≤ ix ∧ ix < 0x3012 ∧ sub = 6 then evalSelection s
    else if ix = 0x3100 then ringChanged s
    else if ix = 0x3500 ∧ sub = 3 then poolFallen 0 (poolRisen s)
    else if 0x3510 ≤ ix ∧ ix < 0x3530 ∧ sub ≤ 4 then fillBuckets (ix - 0x3510) s
    else if 0x4000 ≤ ix ∧ ix < 0x4800 ∧ (sub = 0x10 ∨ sub = 0x11) then
      let d := 2 * (ix - 0x4000) + (sub - 0x10)
      if old.obj ix sub = v then s else s.setDet d { s.det d with threshAt := some s.time.elapsed }
    else if 0x4000 ≤ ix ∧ ix < 0x4800 ∧ (sub = 0x15 ∨ sub = 0x16) then
      let p := ix - 0x4000
      let x := s.port p
      let keep := decide (sub = 0x16) && decide (s.obj ix 0x15 = 1)
      refreshPort p (if keep then s else s.setPort p { x with atten := none })
    else if (0x5000 ≤ ix ∧ ix < 0x5040) ∨ (0x8000 ≤ ix ∧ sub = 5) then newProfile old s
    else if ix = 0x5200 ∧ sub = 1 then
      -- a 0 suspends legs at the trim boundary itself, behind the last slot of the period that ends (R174)
      if v = 1 then forEach (fun p => tryQualify p.1) s.active.legs s else s
    else s

/-- What follows from a register's live bits coming into force: `old` is the register before, `at_` the elapsed
instant of the write. -/
def registerChanged (off old v at_ : Nat) (s : State) : State :=
  if 0x1000 ≤ off ∧ off < 0x1400 ∧ off % 0x100 = 0 then mbxEnChanged ((off - 0x1000) / 0x100 + 1) old s
  else if off = 0x1400 then aexEnChanged old s
  else if 0x10000 ≤ off ∧ off < 0x10800 ∧ off % 0x100 = 0x3C then takeQRd ((off - 0x10000) / 0x100) v s
  else if off = 0x300010 then servoChanged old s
  else if off = 0x300028 ∨ off = 0x30003C then servoChanged (s.reg 0x300010) s
  else if 0x360100 ≤ off ∧ off < 0x360160 ∧ off % 0x20 = 0 then refreshFans (zoneEnChanged ((off - 0x360100) / 0x20) s)
  else if 0x360000 ≤ off ∧ off < 0x370000 then refreshFans s
  else if off = hkcReg 0 0 then hkcArm 0 (v.testBit 0) at_ s
  else if off = hkcReg 1 0 then hkcArm 1 (v.testBit 0) at_ s
  else if 0x3A0000 ≤ off ∧ off < 0x3A1000 ∧ off % 0x40 = 0 ∧ v.testBit 1 ≠ old.testBit 1 then
    bankRetain ((off - 0x3A0000) / 0x40) (v.testBit 1) s
  else s

/-- A register's live bits come into force. -/
def applyRegister (off v at_ : Nat) (s : State) : State :=
  match regRow off with
  | none => s
  | some r =>
    if clearsCount off then clearCount off s else
    let old := s.reg off
    registerChanged off old v at_ (s.setReg off (old - (old &&& r.live) + (v &&& r.live)))

/-- One waiting write comes into force. -/
def applyWrite (w : LiveWrite) (s : State) : State :=
  if w.isReg then applyRegister w.key w.value w.at_ s
  else if w.key = objKey 0x3100 6 then takeReadFrom w.ses w.value s
  else if w.key = objKey 0x1300 1 then s.setSession w.ses { s.session w.ses with regOffset := w.value }
  else applyObject w.key w.value s

/-- A write waits until a boundary later than its own instant (R28), and of a Forge block until one after the transit
lanes are ready (R14). -/
def LiveWrite.due (w : LiveWrite) (s : State) : Bool :=
  decide (w.at_ < s.blockBoundary w.block)
    && (!inForge w.block || (s.forge.lanesReady && decide (s.forge.lanesReadyAt < s.blockBoundary w.block)))

/-- The last of a list of writes to one setting. -/
def LiveWrite.superseded (w : LiveWrite) (later : List LiveWrite) : Bool :=
  later.any fun x => decide (x.isReg = w.isReg ∧ x.key = w.key ∧ x.ses = w.ses)

/-- Of writes to one setting only the last is in force (R25). -/
def lastWrites : List LiveWrite → List LiveWrite
  | [] => []
  | w :: rest => if w.superseded rest then lastWrites rest else w :: lastWrites rest

/-- The waiting writes of some blocks that are due come into force. -/
def applyDue (blocks : Block → Bool) (s : State) : State :=
  let mine (w : LiveWrite) : Bool := blocks w.block && w.due s
  forEach applyWrite (lastWrites (s.live.filter mine)) { s with live := s.live.filter fun w => !mine w }

/-- LIVE_SETTING_APPLY (R21, R25, R28): the block's writes that its last boundary puts in force. A boundary command
does the same for every block first (log 73). -/
def execLiveSettingApply (b : Block) (s : State) : Outcome := .next (applyDue (fun k => decide (k = b)) s)

/-! ### Shadow snapshots (R26) -/

/-- SHADOW_COMMIT_APPLY (R21, R26, R206, R235, R253, R433, R114): a waiting snapshot is transferred at its block's
boundary, the first after the commit write. -/
def execShadowCommitApply (b : ShadowBlock) (s : State) : Outcome :=
  match b with
  | .timeSet => .next (match s.time.req with
    | some (.load t) => if s.reqDue then applyStep (.load t) (loadSet t s) else s
    | _ => s)
  | .beacon j => .next (if j < 8 ∧ s.atTransit ∧ (s.beacon j).snapAt < s.time.elapsed then applyBeacon j s else s)
  | .gate p => .next (if p < 2 then applyGateList p s else s)
  | .schedule => execSchedChangeApply s
  | .clearTable => execClearTableApply s

end Sys2Proof.Machine
end

