-- ==== Sys2Proof/Machine/Boundary.lean ====
section
/-!
DEFINITION. The transit and hold boundaries (R20): the live settings that a boundary puts in force, and the work of the
period.
-/

namespace Sys2Proof.Machine

/-- TRANSIT_BOUNDARY (R20): the settings of every block whose own boundary falls here come into force (R21), and then
the boundary's work is done. -/
def execTransitBoundary (inp : PeriodInput) (s : State) : Outcome :=
  .next (if !s.time.running then s
  else
    let was := s.time.transitStart
    let s1 := takeFreq (applyDue (fun _ => true) (stopBeacons (advance s)))
    noteIdle (noteDefer (if s1.power.watchOn then transitWork inp was s1 else s1)))

/-- HOLD_BOUNDARY (R20, R236): the next hold period begins, with the work of the Watch and of calibration. -/
def execHoldBoundary (inp : PeriodInput) (s : State) : Outcome :=
  .next (if !s.holdDue then s
  else if s.power.watchOn then calTick (watchHold inp s)
  else nextHold s)

end Sys2Proof.Machine
end

