-- ==== Sys2Proof/Machine/RegBus.lean ====
section
/-!
DEFINITION. Reads and writes of BAR0 registers and REG_DATA (R4, R21 to R26, R385 to R388, R413).
-/

namespace Sys2Proof.Machine

/-! ### Reading (R257, R266, R310, R342, R350, R379, R380, R388, R391, R393, R443, R466) -/

/-- WRITE_REJECT of a status register, in bit 31. -/
def State.rejectBit (s : State) (status : Nat) : Nat := if s.reject.contains status then 0x80000000 else 0

/-- The 32 bits of a signed value. -/
def word32 (v : Int) : Nat := intBits 32 v

/-- The firmware image that runs. -/
def State.runningImage (s : State) : Image := s.imageAt s.boot.running

/-- WIDTH and SPEED of ID_LINK as trained (R384): one of x1, x2, x4 and x8, at speed 1 to 5; which is free (log 12). -/
def linkTrained (n : Nat) : Nat := 16 * 2 ^ (n % 4) + (n / 4 % 5 + 1)

/-- Identity (R388). -/
def State.idReg (s : State) (o : Nat) : Nat :=
  if o = 0 then 0x4B461024
  else if o = 4 then Config.factoryConst 0x1000 5 0 % 65536
  else if o = 8 then (if s.boot.firmware then s.runningImage.version else 0)
  else if o = 0xC then s.boot.running * 256 + linkTrained (Config.freeNat s.freeCtr)
  else if o = 0x10 then bit s.loopsStarted + 2 * bit s.power.watchOn + 4 * bit s.awake
  else 0

/-- A mailbox ring (R391). -/
def State.mbxValue (s : State) (r o : Nat) : Nat :=
  let g := s.ring r
  if o = 4 then s.rejectBit (mbxReg r 4) + 4 * bit g.dmaErr + 2 * bit g.halted + bit (g.running && !g.halted)
  else if o = 0x24 then g.reqHead
  else if o = 0x28 then g.cplTail
  else s.reg (mbxReg r o)

/-- EVT_IRQ (R442). -/
def State.evtIrq (s : State) : Nat :=
  let q := (numbers 0 8).filter fun q => (s.qCtrl q).testBit 1 && !(s.queue q).records.isEmpty
  (q.map fun k => 2 ^ k).sum + 256 * bit s.events.irqSrc
    + 512 * bit (s.spi.resp.isSome && decide (s.obj 0x1400 6 = 1)) + 1024 * bit (s.failStatic || s.keeper.noSource)

/-- HOST_IRQ_N is low (R442). -/
def State.hostIrqLow (s : State) : Bool := decide (s.evtIrq ≠ 0)

/-- An event queue (R443). In HOST_RING mode RD is the index after the records freed. -/
def State.qValue (s : State) (q o : Nat) : Nat :=
  let k := s.queue q
  let n := 2 ^ field (s.qCtrl q) 12 4
  if o = 4 then s.rejectBit (0x10004 + 0x100 * q) + 0x40000000 * bit k.overflow + k.records.length
  else if o = 8 then k.lost
  else if 0x10 ≤ o ∧ o < 0x30 then (match k.latch with | none => 0 | some r => leAt r.bytes (o - 0x10) 4)
  else if o = 0x38 then k.wr
  else if o = 0x3C then (if s.qMode q = 1 then (k.wr + n - k.records.length % n) % n else 0)
  else s.reg (0x10000 + 0x100 * q + o)

/-- Life-cycle and boot (R466); MODULE of LC_SW_RESET reads 1 while its flush runs (R5). -/
def State.lcValue (s : State) (o : Nat) : Nat :=
  if o = 0 then s.rejectBit 0x30000 + s.life.tamperNow * 256 + s.boot.bootField * 64 + s.life.state.code
  else if o = 4 then s.power.resetCause
  else if o = 8 then 4 * bit (decide (s.power.flush = 2))
  else s.reg (0x30000 + o)

/-- TIME_STATUS and TIME_UTC (R257). -/
def State.timeStatus (s : State) : Nat :=
  let t := s.time
  let load : Bool := match t.req with | some (.load _) => true | _ => false
  let step : Bool := match t.req with | some (.step _) => true | _ => false
  s.rejectBit 0x30000C + 4096 * bit load + 2048 * bit t.calValid + 512 * t.clkActive + 128 * s.srcActive
    + 64 * bit t.refPresent + 32 * bit t.atLimit + 16 * bit t.deferred + 8 * bit step + s.quality

/-- TIME_CTRL (R257): its settings; LOAD, FORCE and CAL_WRITE read 1 while what they started waits (R5). -/
def State.timeCtrl (s : State) : Nat :=
  let load : Bool := match s.time.req with | some (.load _) => true | _ => false
  s.reg 0x300010 + 256 * bit load + 512 * bit s.time.forced + 1024 * bit s.time.calWritePending

def State.timeUtc (s : State) : Nat := intBits 16 s.time.utcOffset + 65536 * s.utcFlags

/-- The settings in force of beacon `j` and its status (R257); ARM and STOP read 1 while they wait (R5). -/
def State.beaconValue (s : State) (j o : Nat) : Nat :=
  let b := s.beacon j
  let c := b.active
  if o = 0 then 512 * bit b.stopping + 256 * bit b.snapshot.isSome + 4 * bit c.polarity + c.mode
  else if o = 4 then 512 * bit b.realigned + 256 * bit b.late + b.state
  else if o = 8 then c.sec % 4294967296
  else if o = 0xC then c.sec / 4294967296
  else if o = 0x10 then c.ns
  else if o = 0x14 then c.period % 4294967296
  else if o = 0x18 then c.period / 4294967296
  else c.width

/-- A capture input (R257). -/
def State.captureValue (s : State) (i o : Nat) : Nat :=
  let x := s.capture_ i
  let l := (x.latched.map fun e => e.1).getD 0
  if o = 4 then x.ovf * 65536 + x.missed * 256 + 128 * bit x.overflow + x.fifo.length
  else if o = 0xC then l / 65536000000000 % 4294967296
  else if o = 0x10 then l % 65536 * 65536 + l / 65536000000000 / 4294967296
  else if o = 0x14 then bit ((x.latched.map fun e => e.2).getD false)
  else if o = 0 then s.reg (0x300100 + 0x20 * i) else 0

/-- The time block (R257), `l` the link whose latch is read. -/
def State.timeValue (s : State) (l : Link) (o : Nat) : Nat :=
  let t := s.time
  if o = 4 then (s.latch l).sec % 4294967296
  else if o = 8 then (s.latch l).frac * 65536 + (s.latch l).sec / 4294967296
  else if o = 0xC then s.timeStatus
  else if o = 0x10 then s.timeCtrl
  else if o = 0x20 then s.timeInc % 4294967296
  else if o = 0x24 then s.timeInc / 4294967296
  else if o = 0x2C then word32 t.freqNow
  else if o = 0x30 then word32 t.holdFreq
  else if o = 0x58 then word32 t.offsetLast
  else if o = 0x5C then s.timeUtc
  else if o = 0x60 then t.stepCount
  else if o = 0x64 then word32 t.lastStep
  else if 0x100 ≤ o ∧ o < 0x200 then s.captureValue ((o - 0x100) / 0x20) (o % 0x20)
  else if 0x200 ≤ o ∧ o < 0x300 then s.beaconValue ((o - 0x200) / 0x20) (o % 0x20)
  else if 0x400 ≤ o ∧ o < 0x420 then
    let x := s.ptpPort ((o - 0x400) / 0x10)
    if o % 0x10 = 0 then x.txOvf * 65536 + 256 * bit x.txOverflow + x.txq.length
    else if o % 0x10 = 4 then x.txStale else 0
  else if 0x10 ≤ o ∧ o < 0x58 then s.reg (0x300000 + o)
  else 0

/-- The Keeper (R310). -/
def State.anvilValue (s : State) (v : Anvil) : Nat :=
  let a := s.anvil v
  s.failCount v * 0x1000000 + a.cause * 65536 + 2048 * bit (decide (v = .a)) + 1024 * bit a.peerLoss
    + 512 * bit a.selfcheck + 256 * bit (decide (a.lateSlots ≠ 0)) + a.state.code

def State.keeperValue (s : State) (o : Nat) : Nat :=
  let k := s.keeper
  if o = 0 then s.rejectBit 0x340000 + k.lastCause * 65536 + 32768 * bit k.alive + 16384 * bit k.linkSuspect
    + 8192 * bit k.revertAt.isSome + 4096 * bit (decide (k.a.state = .resync ∨ k.b.state = .resync)) + k.state.code
  else if o = 4 then s.anvilValue .a
  else if o = 8 then s.anvilValue .b
  else if o = 0xC then k.mismatches
  else if o = 0x10 then k.heldCodes
  else if o = 0x14 then k.interruptNs
  else 0

/-- The greatest of a zone's trusted sensors, in Q8.8 (R342). -/
def State.zoneGreatest (s : State) (z : Nat) (f : Sensor → Int) : Nat :=
  intBits 16 (greatest 0 ((s.trusted (zoneSensors z)).map fun i => f (s.sensor i)))

/-- THM_ZONE_MAX of a zone. -/
def State.zoneMax (s : State) (z : Nat) : Nat := s.zoneGreatest z fun x => roundDiv x.f 16

/-- THM_STATUS (R342). -/
def State.thmStatus (s : State) : Nat :=
  let t := s.thermal
  let stalls := ((numbers 0 4).map fun f => bit (s.fan f).stall * 2 ^ (12 + f)).sum
  s.rejectBit 0x360000 + 0x80000 * bit t.trip + 0x40000 * bit t.restartReady
    + 0x20000 * bit ((numbers 0 3).any fun z => (s.zone z).blind) + 0x10000 * bit (t.sensors.any fun p => p.2.suspect)
    + stalls + 256 * t.stageZone + 8 * bit t.rateCause + t.stage

/-- The thermal block (R342). -/
def State.thmValue (s : State) (o : Nat) : Nat :=
  if o = 0 then s.thmStatus
  else if o = 8 then s.thermal.tripSensor * 65536 + intBits 16 s.thermal.tripTemp
  else if o = 0xC then s.thermal.tripNs
  else if 0x100 ≤ o ∧ o < 0x160 ∧ o % 0x20 = 0x14 then s.zoneMax ((o - 0x100) / 0x20)
  else if 0x100 ≤ o ∧ o < 0x160 ∧ o % 0x20 = 0x18 then
    let z := (o - 0x100) / 0x20
    s.zoneGreatest z (fun x => roundDiv x.r10 160) * 65536 + s.zoneGreatest z fun x => roundDiv x.r1 16
  else if 0x200 ≤ o ∧ o < 0x240 ∧ o % 0x10 = 4 then
    let f := s.fan ((o - 0x200) / 0x10)
    0x80000000 * bit f.stall + f.duty * 65536 + f.rpm
  else if 0x400 ≤ o ∧ o < 0x568 then
    let x := s.sensor ((o - 0x400) / 4)
    0x80000000 * bit x.suspect + intBits 16 x.v
  else s.reg (0x360000 + o)

/-- A housekeeping converter (R350); START reads 1 while its trigger or its conversion waits (R5). -/
def State.hkcValue (s : State) (n o : Nat) : Nat :=
  let h := s.hkc n
  if o = 0 then bit h.armed
  else if o = 0x14 then bit (decide (h.trigs ≠ []))
  else if o = 0x18 then 0x80000000 * bit h.inject.isSome + s.reg (hkcReg n 0x18)
  else if o = 4 then s.rejectBit (hkcReg n 4) + h.missed * 65536 + h.overruns * 256 + 16 * bit h.calActive
    + 8 * bit h.inject.isSome + 4 * bit h.seqPos.isSome + 2 * bit h.armed
  else if o = 0x1C then h.word
  else s.reg (hkcReg n o)

/-- A bank (R379). -/
def State.bankValue (s : State) (b o : Nat) : Nat :=
  let k := s.bank b
  if o = 4 then
    s.rejectBit (bankStatusOff b) + 0x40000000 * bit k.timeout + 0x20000000 * bit k.proofFault
      + s.bankOwner b * 0x100000 + 4096 * bit k.pendingSince.isSome + 2048 * bit k.borrowed.isSome
      + 16 * k.borrowed.getD 0 + k.power
  else if o = 8 then k.ueCount * 65536 + k.ceCount
  else if o = 0xC then 0x80000000 * bit k.errValid + 0x40000000 * bit k.lastErr.1 + k.lastErr.2.1 * 0x1000000 + k.lastErr.2.2
  else if o = 0 then s.bankCtrl b
  else 0

/-- The matrix and the Proof engine (R380). -/
def State.mtxValue (s : State) (o : Nat) : Nat :=
  let m := s.matrix
  if o = 4 then s.rejectBit 0x3B0004 + 256 * bit m.decodeErr + m.decodeMaster
  else if o = 8 then m.decodeAddr % 4294967296
  else if o = 0xC then m.decodeAddr / 4294967296
  else if o = 0x44 then s.proof.passes
  else if o = 0x48 then s.proof.yields
  else if o = 0x4C then s.proof.faults
  else if 0x80 ≤ o ∧ o < 0x100 then
    match m.log[(o - 0x80) / 0x10]? with
    | none => 0
    | some e =>
      if o % 0x10 = 0 then 0x80000000 * bit e.valid + e.master * 0x1000000 + e.target * 65536 + e.done * 256 + e.total
      else if o % 0x10 = 4 then e.addr % 4294967296
      else if o % 0x10 = 8 then e.addr / 4294967296
      else e.ns
  else if 0x100 ≤ o ∧ o < 0x280 then mapGet m.conflicts ((o - 0x100) / 4) 0
  else s.reg (0x3B0000 + o)

/-- A register's value, apart from what a read of it does. -/
def State.regValue (s : State) (l : Link) (off : Nat) : Nat :=
  if off < 0x1000 then s.idReg off
  else if off < 0x1400 then s.mbxValue ((off - 0x1000) / 0x100 + 1) (off % 0x100)
  else if off < 0x1500 then (if off = 0x1410 then s.aex.wr else s.reg off)
  else if 0x10000 ≤ off ∧ off < 0x10800 then s.qValue ((off - 0x10000) / 0x100) (off % 0x100)
  else if off = 0x10800 then s.evtIrq
  else if off = 0x10804 then s.events.last % 4294967296
  else if off = 0x10808 then s.events.seqHi
  else if 0x11000 ≤ off ∧ off < 0x15000 then s.mapEntry ((off - 0x11000) / 4)
  else if 0x20000 ≤ off ∧ off < 0x22000 then s.reg off
  else if 0x30000 ≤ off ∧ off < 0x31000 then s.lcValue (off - 0x30000)
  else if 0x300000 ≤ off ∧ off < 0x340000 then s.timeValue l (off - 0x300000)
  else if 0x340000 ≤ off ∧ off < 0x360000 then s.keeperValue (off - 0x340000)
  else if 0x360000 ≤ off ∧ off < 0x370000 then s.thmValue (off - 0x360000)
  else if 0x370000 ≤ off ∧ off < 0x370200 then s.hkcValue ((off - 0x370000) / 0x100) (off % 0x100)
  else if 0x380000 ≤ off ∧ off < 0x380040 then
    let c := 6 + (off - 0x380000) / 0x20
    let o := off % 0x20
    if o = 0 then bit (s.hmChan c).isOpen
    else if o = 4 then s.rejectBit off + bit (s.hmChan c).isOpen
    else if o = 0x1C then s.hmResult c
    else s.reg off
  else if 0x3A0000 ≤ off ∧ off < 0x3A1000 then s.bankValue ((off - 0x3A0000) / 0x40) (off % 0x40)
  else if 0x3B0000 ≤ off ∧ off < 0x3C0000 then s.mtxValue (off - 0x3B0000)
  else if 0x400000 ≤ off ∧ off < 0x480000 then s.shadowReg (off - 0x100000)
  else 0

/-- A read with no effect but its data. -/
def give (v : Nat) (s : State) : State := { s with out := ⟨v, 0, leBytes 4 v⟩ }

/-- A read of the register at an offset over a link, with what the read does (R226, R248, R346, R440, R443). -/
def readReg (l : Link) (off : Nat) (s : State) : State :=
  if off % 4 ≠ 0 then s
  else if off = 0x300000 then readNow l s.now s
  else if 0x300100 ≤ off ∧ off < 0x300200 ∧ off % 0x20 = 8 then readCapture ((off - 0x300100) / 0x20) s
  else if 0x10000 ≤ off ∧ off < 0x10800 ∧ off % 0x100 = 0x10 then readData0 ((off - 0x10000) / 0x100) s
  else if off = 0x10804 then readSeqLo s
  else if off = 0x37001C then readHkc 0 s
  else if off = 0x37011C then readHkc 1 s
  else if off = 0xC then give (s.regValue l off) s.takeFree.2
  else give (s.regValue l off) s

/-! ### Writing -/

/-- The status register of a register's block, whose WRITE_REJECT a rejected write sets (R23). Where the spec gives a block
none, the model takes MBX_STATUS of ring 1 for MBX_AEX registers, and EVT_Q_STATUS of queue 0 for MSI-X and any other
(DESIGN CHOICE, log 73). -/
def statusOf (off : Nat) : Nat :=
  if off < 0x1400 then off / 0x100 * 0x100 + 4
  else if off < 0x1500 then 0x1004
  else if off < 0x10800 then off / 0x100 * 0x100 + 4
  else if off < 0x30000 then 0x10004
  else if off < 0x300000 then 0x30000
  else if off < 0x340000 then 0x30000C
  else if off < 0x360000 then 0x340000
  else if off < 0x370000 then 0x360000
  else if off < 0x380000 then off / 0x100 * 0x100 + 4
  else if off < 0x3A0000 then off / 0x20 * 0x20 + 4
  else if off < 0x3B0000 then off / 0x40 * 0x40 + 4
  else 0x3B0004

/-- A register write is ignored (R23). -/
def refuseReg (w : Writer) (off : Nat) (s : State) : State := rejectWrite (statusOf off) w off s

/-- A beacon is armed, or its ARM has arrived and waits (R22, R27). -/
def State.beaconOn (s : State) (j : Nat) : Bool :=
  decide ((s.beacon j).state ≠ 0) || (s.beacon j).snapshot.isSome

/-- The block of a register runs (R22), or its start has arrived and waits for its boundary (R27). -/
def State.regRuns (s : State) (off : Nat) : Bool :=
  if off < 0x1400 then s.regOn (off / 0x100 * 0x100) 0
  else if off < 0x1500 then s.regOn 0x1400 0
  else if off < 0x10800 then s.regOn (off / 0x100 * 0x100) 0
  else if 0x300000 ≤ off ∧ off < 0x340000 then s.regOn 0x300010 0 || (numbers 0 8).any s.beaconOn
  else if 0x370000 ≤ off ∧ off < 0x380000 then s.regOn (hkcReg ((off - 0x370000) / 0x100) 0) 0
  else if 0x380000 ≤ off ∧ off < 0x3A0000 then (s.hmChan (6 + (off - 0x380000) / 0x20)).isOpen
  else if 0x3B0000 ≤ off ∧ off < 0x3C0000 then !s.matrixQuiet
  else false

/-- An F32 register's value lies from 0 to a bound. -/
def f32Within (hi v : Nat) : Bool := f32Finite (f32Bits v) && f32Le (f32Bits 0) (f32Bits v) && f32Le (f32Bits v) (f32Bits hi)

/-- A field of a converter's entry names an input that exists (R343). -/
def inputOk (v : Nat) : Bool := decide (field v 0 5 < 24)

/-- The fields of a zone's registers keep R342's limits; `a`, `b` and `r` are THM_ABS_A, THM_ABS_B and
THM_RATE as they would stand. -/
def zoneOk (z a b r : Nat) : Bool :=
  let warn := bitsInt 16 (field a 0 16)
  let hot := bitsInt 16 (field a 16 16)
  let crit := bitsInt 16 (field b 0 16)
  let rateOk (v : Nat) : Bool := decide (64 ≤ bitsInt 16 v ∧ bitsInt 16 v ≤ 12800)
  decide (warn < hot ∧ hot < crit ∧ crit ≤ (if z = 0 then 123 * 256 else if z = 1 then 93 * 256 else 100 * 256))
    && rateOk (field r 0 16) && rateOk (field r 16 16)

/-- A write would set a field outside its stated range (R257, R342, R350, R377, R380, R391, R393, R443). -/
def State.regBad (s : State) (off v : Nat) : Bool :=
  let u (lo hi : Nat) : Bool := !(decide (lo ≤ v) && decide (v ≤ hi))
  if off < 0x1400 then (decide (off % 0x100 = 0x10 ∨ off % 0x100 = 0x1C)) && !(decide (4 ≤ v ∧ v ≤ 12))
  else if off = 0x140C then u 1 1024
  else if 0x10000 ≤ off ∧ off < 0x10800 ∧ off % 0x100 = 0 then
    decide (field v 2 2 = 3 ∨ field v 12 4 < 4 ∨ 12 < field v 12 4)
  else if off = 0x300010 then decide (field v 1 2 = 3 ∨ field v 3 2 = 3)
  else if off = 0x30001C then u 0 999999999
  else if off = 0x300034 then !f32Within 0x3F800000 v
  else if off = 0x300038 then !f32Within 0x3E800000 v
  else if off = 0x30003C then u 1 500000
  else if off = 0x300040 then u 1000 1000000
  else if off = 0x300044 then u 10 (min 1000 (s.latest 0x300048))
  else if off = 0x300048 then u (s.latest 0x300044) (s.latest 0x300040)
  else if off = 0x30004C then u 1 255
  else if 0x300200 ≤ off ∧ off < 0x300300 ∧ off % 0x20 = 0 then decide (v % 4 = 3)
  else if 0x360100 ≤ off ∧ off < 0x360160 ∧ 4 ≤ off % 0x20 ∧ off % 0x20 < 0x10 then
    let base := 0x360100 + (off - 0x360100) / 0x20 * 0x20
    let f (o : Nat) : Nat := if off = base + o then v else s.latest (base + o)
    !zoneOk ((off - 0x360100) / 0x20) (f 4) (f 8) (f 0xC)
  else if 0x370000 ≤ off ∧ off < 0x370200 then
    let o := off % 0x100
    if o = 8 then decide (4 ≤ field v 0 3)
    else if o = 0xC then decide (v < 25)
    else if o = 0x10 then u 1 16
    else if o = 0x18 ∨ 0x40 ≤ o then !inputOk v
    else false
  else if off = 0x3B0000 then decide (v % 4 = 3) || (decide (v % 4 = 0) && decide (s.reg 0x3B0010 ≠ 0))
  else if off = 0x3B0010 then decide (v ≠ 0 ∧ s.reg 0x3B0000 % 4 = 0)
  else if off = 0x3B0040 then decide (field v 16 16 < 20)
  else false

/-- The W1C bits of a register take effect (R23, R249, R253, R255, R292, R310, R359, R367, R372, R379, R380, R391,
R441, R442, R466). -/
def clearBits (off v : Nat) (s : State) : State :=
  let s := if v.testBit 31 ∧ s.reject.contains off then { s with reject := s.reject.filter fun x => decide (x ≠ off) } else s
  if 0x1000 ≤ off ∧ off < 0x1400 then
    let r := (off - 0x1000) / 0x100 + 1
    if v.testBit 2 then s.setRing r { s.ring r with dmaErr := false } else s
  else if 0x10000 ≤ off ∧ off < 0x10800 then
    let q := (off - 0x10000) / 0x100
    if v.testBit 30 then s.setQueue q { s.queue q with overflow := false, lost := 0 } else s
  else if off = 0x10800 then (if v.testBit 8 then { s with events := { s.events with irqSrc := false } } else s)
  else if off = 0x30004 then
    { s with power := { s.power with resetCause := s.power.resetCause - (s.power.resetCause &&& v) } }
  else if 0x300100 ≤ off ∧ off < 0x300200 then
    let i := (off - 0x300100) / 0x20
    if v.testBit 7 then s.setCapture i { s.capture_ i with overflow := false, ovf := 0, missed := 0 } else s
  else if 0x300200 ≤ off ∧ off < 0x300300 then
    let j := (off - 0x300200) / 0x20
    let b := s.beacon j
    s.setBeacon j { b with late := b.late && !v.testBit 8, realigned := b.realigned && !v.testBit 9 }
  else if 0x300400 ≤ off ∧ off < 0x300420 then
    let p := (off - 0x300400) / 0x10
    if v.testBit 8 then s.setPtp p { s.ptpPort p with txOverflow := false, txOvf := 0 } else s
  else if off = 0x340000 then
    (if v.testBit 14 then { s with keeper := { s.keeper with linkSuspect := false } } else s)
  else if 0x3A0000 ≤ off ∧ off < 0x3A1000 then
    let b := (off - 0x3A0000) / 0x40
    let k := s.bank b
    if off % 0x40 = 4 then
      s.setBank b { k with timeout := k.timeout && !v.testBit 30, proofFault := k.proofFault && !v.testBit 29 }
    else if v.testBit 31 then s.setBank b { k with errValid := false } else s
  else if off = 0x3B0004 then
    (if v.testBit 8 then { s with matrix := { s.matrix with decodeErr := false } } else s)
  else if 0x3B0080 ≤ off ∧ off < 0x3B0100 then
    let i := (off - 0x3B0080) / 0x10
    if v.testBit 31 then
      { s with matrix := { s.matrix with log := s.matrix.log.mapIdx fun k e => if k = i then { e with valid := false } else e } }
    else s
  else s

/-- TIME_CTRL's W1S bits: LOAD, then FORCE, then CAL_WRITE. -/
def timeActions (v : Nat) (s : State) : State :=
  let s1 := if v.testBit 8 ∧ s.time.running then loadTime s else s
  let s2 := if v.testBit 9 then forceStep s1 else s1
  if v.testBit 10 then wantCalendar s2 else s2

/-- LC_SW_RESET (R454): without its key, or with FORGE while the Forge runs, the write is ignored whole; MODULE
resets all that WATCH and FORGE would. -/
def swReset (w : Writer) (v : Nat) (s : State) : State :=
  if field v 24 8 ≠ 0xA5 ∨ (v.testBit 0 ∧ s.forgeRuns) then badKey w s
  else if v.testBit 2 then (if s.power.flush = 2 then s else beginReset 3 s)
  else
    let s1 := if v.testBit 1 then watchReset s else s
    if v.testBit 0 then forgeReset s1 else s1

/-- A register that holds settings is written: its quiescent fields at once, its shadowed ones into the shadow,
its live ones for the next boundary of its block. -/
def writeSettings (w : Writer) (off v : Nat) (r : RegRow) (s : State) : State :=
  let old := s.reg off
  if (v &&& r.quies ≠ old &&& r.quies) ∧ s.regRuns off then refuseReg w off s
  else
    let s1 := if r.quies = 0 then s else s.setReg off (old - (old &&& r.quies) + (v &&& r.quies))
    let s2 := if r.shad = 0 then s1 else { s1 with shadowRegs := mapSet s1.shadowRegs off (v &&& r.shad) 0 }
    if r.live = 0 then s2 else waitSetting r.block true off (v &&& r.live) 0 s2

/-- A write of a writable register, with the effects that its own row gives it. -/
def writeRow (w : Writer) (off v : Nat) (r : RegRow) (s : State) : State :=
  let o := off % 0x100
  if s.regBad off v then refuseReg w off s
  else if off < 0x1400 then
    let n := (off - 0x1000) / 0x100 + 1
    if o = 0 then writeMbxCtrl w n v s
    else if o = 4 then clearBits off v s
    else if o = 0x20 then writeReqTail n (v % 4096) s
    else if o = 0x2C then writeCplHead n (v % 4096) s
    else writeSettings w off v r s
  else if off = 0x1400 then writeAexCtrl w v s
  else if off = 0x1414 then writeAexRd v s
  else if off < 0x10000 then writeSettings w off v r s
  else if off < 0x10800 ∧ o = 0x3C then writeQRd ((off - 0x10000) / 0x100) (v % 4096) s
  else if off = 0x30008 then swReset w v s
  else if off = 0x300010 then
    let s1 := writeSettings w off v r s
    if (v &&& r.quies ≠ s.reg off &&& r.quies) ∧ s.regRuns off then s1
    else
      let s2 := if v &&& r.quies = s.reg off &&& r.quies then s1 else servoChanged (s.reg off) s1
      timeActions v s2
  else if 0x300200 ≤ off ∧ off < 0x300300 ∧ off % 0x20 = 0 then
    let j := (off - 0x300200) / 0x20
    let s1 := writeSettings w off v r s
    if v.testBit 8 ∧ !(s1.beaconShadow j).ok then refuseReg w off s
    else
      let s2 := if v.testBit 8 then armBeacon w j s1 else s1
      if v.testBit 9 then stopBeacon j s2 else s2
  else if off = 0x360004 then
    if v.testBit 1 ∧ !(s.thermal.restartReady ∧ s.power.vmain) then refuseReg w off s
    else
      let s1 := writeSettings w off v r s
      if v.testBit 1 then thermalRestart w s1 else s1
  else if 0x370000 ≤ off ∧ off < 0x370200 ∧ o < 0x40 then
    let n := (off - 0x370000) / 0x100
    if o = 0 then (let s1 := writeHkcArm n (v.testBit 0) s; if v.testBit 2 then hkcClear n s1 else s1)
    else if o = 4 then clearBits off v s
    else if o = 0x14 then (if v.testBit 0 ∧ s.hkcSrc n 0 then hkcTrigger n s.time.elapsed s else s)
    else if o = 0x18 then (if v.testBit 31 then hkcInject w n v s else writeSettings w off v r s)
    else writeSettings w off v r s
  else if 0x380000 ≤ off ∧ off < 0x380040 then
    let c := 6 + (off - 0x380000) / 0x20
    let k := off % 0x20
    if k = 0 then (let s1 := if v.testBit 1 then hmAbort c s else s; if v.testBit 0 then hmOpen c s1 else s1)
    else if k = 4 then clearBits off v s
    else if k = 0x10 then hmFeed w c 0x10 1 (BitVec.ofNat 32 v) s
    else if k = 0x14 then hmFeed w c 0x14 2 (BitVec.ofNat 32 v) s
    else if k = 0x18 then hmFeed w c 0x18 4 (BitVec.ofNat 32 v) s
    else writeSettings w off v r s
  else if 0x3A0000 ≤ off ∧ off < 0x3A1000 then
    let b := (off - 0x3A0000) / 0x40
    if off % 0x40 = 0 then writeBankCtrl w b v s
    else if off % 0x40 = 8 then writeSettings w off v r s
    else clearBits off v s
  else if r.rw = 0 ∧ r.shad = 0 then clearBits off v s
  else writeSettings w off v r s

/-- The domain of a register's block is powered (R9): the Hallmark unit's and the banks' is Watch, that of the mailboxes,
the export ring, the endpoint's MSI-X table and the matrix the Forge, and every other one Hearth. -/
def State.regPowered (s : State) (off : Nat) : Bool :=
  if (0x1000 ≤ off ∧ off < 0x10000) ∨ (0x20000 ≤ off ∧ off < 0x30000) ∨ 0x3B0000 ≤ off then s.power.forgeOn
  else if 0x380000 ≤ off then s.power.watchOn
  else s.power.vaux

/-- A write of the register at an offset: reserved bits ignore it, and so does an offset that no block
implements (R4, R385). No register stands without VAUX, or in a domain that is off (R9, R448). -/
def writeReg (w : Writer) (off v : Nat) (s : State) : State :=
  if off % 4 ≠ 0 ∨ !s.power.vaux ∨ !s.regPowered off then s
  else match regRow off with
    | none => s
    | some r => writeRow w off (v &&& (r.rw ||| r.shad ||| r.act)) r s

/-- REGISTER_WRITE (R23). -/
def execRegisterWrite (w : Writer) (offset : Nat) (value : Word) (s : State) : Outcome :=
  .next (writeReg w offset value.toNat s)

/-! ### Registers through objects (R413) -/

/-- The link of a session, whose latch its reads use. -/
def State.linkOf (s : State) (ses : Nat) : Link :=
  if 29 ≤ ses then .internal
  else if (s.session ses).link = 0 then .spi
  else if (s.session ses).link = 1 then .mailbox ses else .mgt ((s.session ses).peer.headD 0).toNat

/-- The offset may be reached. -/
def offsetOk (off : Nat) : Bool := decide (off % 4 = 0) && decide (off ≤ 0x3FFFFFC)

/-- A read of REG_DATA. -/
def readRegData (ses : Nat) (s : State) : State :=
  let off := (s.session ses).regOffset
  if !offsetOk off then reply ses stRange s
  else
    let s1 := readReg (s.linkOf ses) off s
    answer ses stOk (leBytes 4 s1.out.data) s1

/-- REG_DATA_READ (R413). -/
def execRegDataRead (ses : Nat) (s : State) : Outcome := .next (if s.served ses then readRegData ses s else s)

/-- REG_DATA_WRITE (R413): the write has the effects of a BAR0 write, and is answered OK where the register ignores
it too. -/
def execRegDataWrite (ses : Nat) (value : Word) (s : State) : Outcome :=
  .next (gated ses 0x1300 2 (leBytes 4 value.toNat) (fun s =>
    let off := (s.session ses).regOffset
    if !offsetOk off then reply ses stRange s
    else reply ses stOk (writeReg (.session ses) off value.toNat s)) s)

end Sys2Proof.Machine
end

