-- ==== Sys2Proof/Machine/Matrix.lean ====
section
/-!
DEFINITION. Matrix and BAR2 transactions and the master reset (R354 to R364, R369 to R378, R386).
-/

namespace Sys2Proof.Machine

/-! ### Targets and paths (R372, R376) -/

/-- The target of an address: 0 to 7 a bank group, 8 the LPDDR5X, 9 the register space, 10 the Hearth bridge,
11 the default target. -/
def addrTarget (a : Nat) : Nat :=
  if a < 0x2000000 then a / bankBytes / 8
  else if 0x10300000 ≤ a ∧ a < 0x10380000 then 10
  else if 0x10000000 ≤ a ∧ a < 0x14000000 then 9
  else if 0x1000000000 ≤ a ∧ a < 0x1333333000 then 8
  else 11

/-- The master has a path to the target. -/
def hasPath (m t : Nat) : Bool :=
  decide (t < 8) || (decide (t < 11) && decide (m ≠ 7 ∧ m ≠ 9) && !(decide (m = 8) && decide (t = 10)))

/-- The target that a master's transaction reaches. -/
def targetOf (m a : Nat) : Nat := if hasPath m (addrTarget a) then addrTarget a else 11

/-! ### Responses (R373) -/

def okay : Nat := 0
def errDecode : Nat := 1
def errAccess : Nat := 2
def errRetained : Nat := 3
def errData : Nat := 4

/-- The response of a transaction. -/
def respond_ (st : Nat) (bs : List Byte) (s : State) : State := { s with out := ⟨leNat (bs.take 4), st, bs⟩ }

/-- The default target (R372). -/
def decodeMiss (m a n : Nat) (s : State) : State :=
  let s1 := { s with matrix := { s.matrix with decodeErr := true, decodeMaster := m, decodeAddr := a } }
  respond_ errDecode (List.replicate n 0#8) (raiseEv 0x410 (leBytes 5 a ++ [byte m]) s1)

/-! ### Access to a bank (R357, R358, R360 to R362, R368) -/

/-- What a bank does with an access. -/
inductive Verdict where
  | serve
  | denied
  | refused
  | stall
  | wake
  | retained
  deriving DecidableEq, Repr

/-- The SHARE from which other masters may read, perform atomics, write (R357). -/
def needRead : Nat := 1
def needAtomic : Nat := 2
def needWrite : Nat := 3

/-- A bank's judgement of an access that needs a SHARE of `need`. -/
def State.verdict (s : State) (m b need : Nat) : Verdict :=
  if 62 ≤ b then .denied
  else if s.handingOver b ∧ s.bankOwner b = m then .refused
  else if s.bankOwner b ≠ m ∧ s.bankShare b < need then
    (if s.handingOver b ∧ s.bankNewOwner b = m then .stall else .denied)
  else if (s.bank b).power = 3 then .stall
  else if (s.bank b).power = 2 then (if s.bankAutoWake b then .wake else .retained)
  else .serve

/-- The transaction waits at the bank. -/
def stallAt (b : Nat) (i : Instr) (s : State) : State :=
  s.setBank b { s.bank b with stalled := (s.bank b).stalled ++ [i] }

/-- An access wakes a retained bank: it stays awake, and RET reads 0 (R362). -/
def wakeBank (b : Nat) (s : State) : State :=
  (s.setBank b { s.bank b with power := 3, retainedByForge := false }).setReg (bankCtrlOff b) (setField (s.bankCtrl b) 1 1 0)

/-- An access by master `m` to bank `b` at byte `off` of it: served by `f`, or answered, or stalled as `i`. A
refused read returns `n` zero bytes. -/
def bankAccess (i : Instr) (m b off need n : Nat) (f : State → State) (s : State) : State :=
  let zeros := List.replicate n 0#8
  match s.verdict m b need with
  | .serve => f (proofMeets b off s)
  | .refused => respond_ errAccess zeros s
  | .denied => respond_ errAccess zeros
      (raiseLimited (0x405 * 256 + b) 1000000000 0x405 (bankPayload b m (off / 4)) s)
  | .stall => stallAt b i s
  | .wake => stallAt b i (wakeBank b s)
  | .retained => respond_ errRetained zeros
      (raiseLimited (0x406 * 256 + b) 1000000000 0x406 (bankPayload b m (off / 4)) s)

/-- The bytes of an access with those of one beat zero. -/
def zeroBeat (off word : Nat) (bs : List Byte) : List Byte :=
  bs.mapIdx fun k x => if (off + k) / 16 = (off / 4 + word) / 4 then 0#8 else x

/-- The word of an error lies in an access of `n` bytes at `off`. -/
def wordIn (off n word : Nat) : Bool := decide (off / 4 + word ≤ (off + n - 1) / 4) && decide (0 < n)

/-- A bank serves a read of `n` bytes (R364). -/
def readBank (m b off n : Nat) (err : MemErr) (s : State) : State :=
  let bs := memReadN s.mem (b * bankBytes + off) n
  match err with
  | .ok => respond_ okay bs s
  | .single w => if wordIn off n w then respond_ okay bs (correctWord b m (off / 4 + w) s) else respond_ okay bs s
  | .double w =>
    if wordIn off n w then respond_ errData (zeroBeat off w bs) (lostWord b m (off / 4 + w) s) else respond_ okay bs s

/-- How many bytes of word `w` of an access at `off` are written. -/
def strobedIn (off w : Nat) (st : List Bool) (n : Nat) : Nat :=
  countWhere (fun k => decide ((off + k) / 4 = off / 4 + w) && (st[k]?).getD true) (numbers 0 n)

/-- The strobes without those of word `w`. -/
def dropWord (off w : Nat) (st : List Bool) (n : Nat) : List Bool :=
  (numbers 0 n).map fun k => (st[k]?).getD true && !(decide ((off + k) / 4 = off / 4 + w))

/-- A word's error in a write counts where the write merges into that word (R364). -/
def mergesInto (off w : Nat) (st : List Bool) (n : Nat) : Bool :=
  wordIn off n w && decide (0 < strobedIn off w st n ∧ strobedIn off w st n < 4)

/-- A bank serves a write; a word that cannot be merged into is not written. -/
def writeBank (m b off : Nat) (bs : List Byte) (st : List Bool) (err : MemErr) (s : State) : State :=
  let a := b * bankBytes + off
  let put (e : List Bool) (t : State) : State := { t with mem := memWriteStrobed t.mem a bs e }
  match err with
  | .ok => respond_ okay [] (put st s)
  | .single w =>
    respond_ okay [] (put st (if mergesInto off w st bs.length then correctWord b m (off / 4 + w) s else s))
  | .double w =>
    if mergesInto off w st bs.length then
      respond_ errData [] (put (dropWord off w st bs.length) (lostWord b m (off / 4 + w) s))
    else respond_ okay [] (put st s)

/-! ### The other targets (R369, R372) -/

/-- The LPDDR5X serves a read. -/
def readDdr (o n : Nat) (err : MemErr) (s : State) : State :=
  let bs := memReadN s.ddr o n
  match err with
  | .ok => respond_ okay bs s
  | .single w => respond_ okay bs (if wordIn o n w then ddrError (o / 4 * 4 + 4 * w) false s else s)
  | .double w =>
    if wordIn o n w then respond_ errData (zeroBeat o w bs) (ddrError (o / 4 * 4 + 4 * w) true s) else respond_ okay bs s

/-- The LPDDR5X serves a write. -/
def writeDdr (o : Nat) (bs : List Byte) (st : List Bool) (err : MemErr) (s : State) : State :=
  let put (e : List Bool) (t : State) : State := { t with ddr := memWriteStrobed t.ddr o bs e }
  match err with
  | .ok => respond_ okay [] (put st s)
  | .single w =>
    respond_ okay [] (put st (if mergesInto o w st bs.length then ddrError (o / 4 * 4 + 4 * w) false s else s))
  | .double w =>
    if mergesInto o w st bs.length then
      respond_ errData [] (put (dropWord o w st bs.length) (ddrError (o / 4 * 4 + 4 * w) true s))
    else respond_ okay [] (put st s)

/-- Reads of `n` registers from a BAR0 offset on, in order. -/
def readRegs (off : Nat) : Nat → List Byte → State → State
  | 0, acc, s => respond_ okay acc s
  | n + 1, acc, s =>
    let s1 := readReg .internal off s
    readRegs (off + 4) n (acc ++ leBytes 4 s1.out.data) s1

/-- Writes of registers: a word with all four strobes (R385). -/
def writeRegs (off : Nat) (bs : List Byte) (st : List Bool) (s : State) : State :=
  forEach (fun k t =>
    if strobedIn 0 k st bs.length = 4 then writeReg (.session 30) (off + 4 * k) (leAt bs (4 * k) 4) t else t)
    (numbers 0 (bs.length / 4)) s

/-! ### Transactions (R363, R373, R374) -/

/-- A burst of `n` bytes at `a`: 1 to 16 beats, within 4 KB (R373). -/
def burstOk (m a n : Nat) : Bool :=
  decide (m < 12) && decide (n % 16 = 0) && decide (16 ≤ n ∧ n ≤ 256) && decide (a / 4096 = (a + n - 1) / 4096)
    && decide (a + n ≤ 2 ^ 40)

/-- The matrix runs: it is off while the Forge sleeps or wakes. -/
def State.matrixOn (s : State) : Bool :=
  s.power.watchOn && s.power.forgeOn && decide (s.forge.state = .awake ∨ s.forge.state = .sleeping)

/-- The local port takes a write while the matrix is off: the ingress writers into the pool, the record builder
into bank 61, and master 9 (R374). -/
def localPort (m a : Nat) (write : Bool) : Bool :=
  let b := a / bankBytes
  if m = 9 then decide (b < 64)
  else write && ((decide (3 ≤ m ∧ m ≤ 5) && decide (44 ≤ b ∧ b ≤ 47)) || (decide (m = 6) && decide (b = 61)))

/-- A transaction while the matrix is off: served by `f` on the local port, ERR_DECODE for another target of a
master that has it; no other master's transaction is taken. -/
def offline (m a n : Nat) (write : Bool) (f : State → State) (s : State) : State :=
  if !s.power.watchOn ∨ !(m = 3 ∨ m = 4 ∨ m = 5 ∨ m = 6 ∨ m = 9) then s
  else if localPort m a write then f s
  else respond_ errDecode (List.replicate n 0#8) s

/-- A transaction of a master whose reset drains waits (R378). -/
def mtxRun (i : Instr) (m : Nat) (f : State → State) (s : State) : State :=
  if s.matrix.draining.contains m then { s with matrix := { s.matrix with stalled := s.matrix.stalled ++ [i] } } else f s

/-- A master's read burst. -/
def mtxRead (m addr beats : Nat) (err : MemErr) (s : State) : State :=
  let a := addr / 16 * 16
  let n := 16 * beats
  let i : Instr := .matrixRead m addr beats err
  let bank (t : State) : State :=
    bankAccess i m (a / bankBytes) (a % bankBytes) needRead n (readBank m (a / bankBytes) (a % bankBytes) n err) t
  if !burstOk m a n then s
  else mtxRun i m (fun s =>
    if !s.matrixOn then offline m a n false bank s
    else
      let t := targetOf m a
      if t < 8 then bank s
      else if t = 8 then readDdr (a - 0x1000000000) n err s
      else if t < 11 then readRegs (a - 0x10000000) (n / 4) [] s
      else decodeMiss m a n s) s

/-- A master's write burst. -/
def mtxWrite (m addr : Nat) (data : List Byte) (strobes : List Bool) (err : MemErr) (s : State) : State :=
  let a := addr / 16 * 16
  let n := data.length
  let i : Instr := .matrixWrite m addr data strobes err
  let bank (t : State) : State :=
    bankAccess i m (a / bankBytes) (a % bankBytes) needWrite 0
      (writeBank m (a / bankBytes) (a % bankBytes) data strobes err) t
  if !burstOk m a n then s
  else mtxRun i m (fun s =>
    if !s.matrixOn then offline m a 0 true bank s
    else
      let t := targetOf m a
      if t < 8 then bank s
      else if t = 8 then writeDdr (a - 0x1000000000) data strobes err s
      else if t < 11 then respond_ okay [] (writeRegs (a - 0x10000000) data strobes s)
      else decodeMiss m a 0 s) s

/-- The word that an atomic leaves (R363). -/
def atomicResult (op : AtomicOp) (old : Nat) (operand : Word) : Nat :=
  match op with
  | .add => (old + operand.toNat) % 4294967296
  | .swap => operand.toNat

/-- A bank performs an atomic: it returns the word's previous value. -/
def atomicAt (b off : Nat) (op : AtomicOp) (operand : Word) (s : State) : State :=
  let a := b * bankBytes + off
  let old := memReadN s.mem a 4
  respond_ okay old { s with mem := memWriteList s.mem a (leBytes 4 (atomicResult op (leNat old) operand)) }

/-- A master's atomic (R363). -/
def mtxAtomic (m addr : Nat) (op : AtomicOp) (operand : Word) (s : State) : State :=
  let i : Instr := .matrixAtomic m addr op operand
  let b := addr / bankBytes
  let off := addr % bankBytes
  let bank (t : State) : State :=
    if addr % 4 ≠ 0 then respond_ errAccess (leBytes 4 0) t
    else bankAccess i m b off needAtomic 4 (atomicAt b off op operand) t
  if 12 ≤ m ∨ 2 ^ 40 ≤ addr then s
  else mtxRun i m (fun s =>
    if !s.matrixOn then offline m addr 4 false bank s
    else
      let t := targetOf m addr
      if t < 8 then bank s
      else if t < 11 then respond_ errAccess (leBytes 4 0) s
      else decodeMiss m addr 4 s) s

/-! ### BAR2 (R386) -/

/-- An access is counted while the Forge is not awake. -/
def countSleepAccess (s : State) : State := { s with bar2Sleep := (s.bar2Sleep + 1) % 4294967296 }

/-- The pieces of a BAR2 access, each within one 4 KB window of a bank: offset in BAR2 and bytes. -/
def bar2Pieces (off : Nat) : Nat → Nat → List (Nat × Nat)
  | 0, _ => []
  | fuel + 1, n =>
    if n = 0 then []
    else
      let k := min n (4096 - off % 4096)
      (off, k) :: bar2Pieces (off + k) fuel (n - k)

/-- An error's word as it counts in a piece that begins at `o` of an access that began at `off`. -/
def pieceErr (off o : Nat) : MemErr → MemErr
  | .ok => .ok
  | .single w => if o / 4 ≤ off / 4 + w then .single (off / 4 + w - o / 4) else .ok
  | .double w => if o / 4 ≤ off / 4 + w then .double (off / 4 + w - o / 4) else .ok

/-- A BAR2 read, clipped to BAR2. -/
def bar2Get (offset len : Nat) (err : MemErr) (s : State) : State :=
  let n := min len (0x200000 - offset)
  if !s.awake then respond_ okay (List.replicate n 0xFF#8) (countSleepAccess s)
  else mtxRun (.bar2Read offset len err) 3 (fun s =>
    let r := (bar2Pieces offset (n / 4096 + 2) n).foldl (fun (p : State × List Byte × Nat) q =>
      let e := pieceErr offset q.1 err
      let b := 56 + q.1 / bankBytes
      let t := bankAccess (.bar2Read q.1 q.2 e) 3 b (q.1 % bankBytes) needRead q.2
        (readBank 3 b (q.1 % bankBytes) q.2 e) { p.1 with out := {} }
      (t, p.2.1 ++ t.out.bytes, max p.2.2 t.out.status)) (s, [], 0)
    respond_ r.2.2 r.2.1 r.1) s

/-- A BAR2 write, clipped to BAR2. -/
def bar2Put (offset : Nat) (data : List Byte) (strobes : List Bool) (err : MemErr) (s : State) : State :=
  let n := min data.length (0x200000 - offset)
  if !s.awake then respond_ okay [] (countSleepAccess s)
  else mtxRun (.bar2Write offset data strobes err) 3 (fun s =>
    forEach (fun q t =>
      let e := pieceErr offset q.1 err
      let b := 56 + q.1 / bankBytes
      let bs := (data.drop (q.1 - offset)).take q.2
      let st := (strobes.drop (q.1 - offset)).take q.2
      bankAccess (.bar2Write q.1 bs st e) 3 b (q.1 % bankBytes) needWrite 0 (writeBank 3 b (q.1 % bankBytes) bs st e) t)
      (bar2Pieces offset (n / 4096 + 2) n) s) s

/-! ### The commands -/

/-- MATRIX_READ (R373). -/
def execMatrixRead (m addr beats : Nat) (err : MemErr) (s : State) : Outcome := .next (mtxRead m addr beats err s)

/-- MATRIX_WRITE (R373). -/
def execMatrixWrite (m addr : Nat) (data : List Byte) (strobes : List Bool) (err : MemErr) (s : State) : Outcome :=
  .next (mtxWrite m addr data strobes err s)

/-- MATRIX_ATOMIC (R363). -/
def execMatrixAtomic (m addr : Nat) (op : AtomicOp) (operand : Word) (s : State) : Outcome :=
  .next (mtxAtomic m addr op operand s)

/-- BAR2_READ (R386). -/
def execBar2Read (offset len : Nat) (err : MemErr) (s : State) : Outcome :=
  .next (if offset < 0x200000 ∧ s.power.vaux then bar2Get offset len err s else s)

/-- BAR2_WRITE (R386). -/
def execBar2Write (offset : Nat) (data : List Byte) (strobes : List Bool) (err : MemErr) (s : State) : Outcome :=
  .next (if offset < 0x200000 ∧ s.power.vaux then bar2Put offset data strobes err s else s)

/-- A stalled transaction proceeds. -/
def runTrans (i : Instr) (s : State) : State :=
  match i with
  | .matrixRead m a n e => mtxRead m a n e s
  | .matrixWrite m a d st e => mtxWrite m a d st e s
  | .matrixAtomic m a op v => mtxAtomic m a op v s
  | .bar2Read o n e => bar2Get o n e s
  | .bar2Write o d st e => bar2Put o d st e s
  | _ => s

/-- The transactions stalled at a bank proceed in order. -/
def releaseStalled (b : Nat) (s : State) : State :=
  forEach runTrans (s.bank b).stalled (s.setBank b { s.bank b with stalled := [] })

/-- BANK_HANDOVER_DONE (R358): at a transit boundary after the hand-over's start; transactions that retire later than
10 µs after it come too late (R359). -/
def execBankHandoverDone (b : Nat) (s : State) : Outcome :=
  .next (match (s.bank b).pendingSince with
    | none => s
    | some t =>
      if 64 ≤ b ∨ !s.atTransit ∨ s.time.elapsed ≤ t ∨ t + 10250 * 65536 < s.time.elapsed then s
      else
        let new := s.bankNewOwner b
        let s1 := s.setBank b { s.bank b with owner := some new, pendingSince := none }
        releaseStalled b (raiseEv 0x402 (bankPayload b new 0) s1))

/-- BANK_WAKE_DONE (R361, R362). -/
def execBankWakeDone (b : Nat) (s : State) : Outcome :=
  .next (if b < 64 ∧ (s.bank b).power = 3 then releaseStalled b (s.setBank b { s.bank b with power := bit (s.bankRet b) }) else s)

/-! ### A master's reset (R378) -/

/-- The bytes of a burst's accepted beats are written at their target. -/
def writeAccepted (x : Burst) (s : State) : State :=
  let a := x.addr / 16 * 16
  let bs := x.data.take (16 * x.done)
  if addrTarget a < 8 then { s with mem := memWriteList s.mem a bs }
  else if addrTarget a = 8 then { s with ddr := memWriteList s.ddr (a - 0x1000000000) bs }
  else s

/-- One outstanding burst of the reset master: a partly written one is logged. -/
def resetBurst (m : Nat) (x : Burst) (s : State) : State :=
  if !x.write then s
  else
    let s1 := writeAccepted x s
    if x.done = 0 ∨ x.total ≤ x.done then s1
    else
      let e : ResetLog := { master := m, target := addrTarget x.addr, done := x.done, total := x.total, addr := x.addr
                            ns := s1.nowNs % 1000000000 }
      raiseEv 0x411 ([byte m, byte e.target, byte x.done, byte x.total] ++ leBytes 4 x.addr)
        { s1 with matrix := { s1.matrix with log := (e :: s1.matrix.log).take 8 } }

/-- A burst as a matrix master may hold one outstanding at a bank or the LPDDR5X. -/
def burstFits (x : Burst) : Bool :=
  decide (1 ≤ x.total ∧ x.total ≤ 16 ∧ x.done ≤ x.total) && (!x.write || decide (x.data.length = 16 * x.done))
    && burstOk 0 (x.addr / 16 * 16) (16 * x.total) && decide (addrTarget x.addr < 11)
    && (decide (addrTarget x.addr ≠ 7) || decide (x.addr / bankBytes < 62))

/-- MASTER_RESET (R378): the master's outstanding transactions end, and it drains. -/
def execMasterReset (m : Nat) (bursts : List Burst) (s : State) : Outcome :=
  .next (if 12 ≤ m ∨ 32 < bursts.length ∨ !(bursts.all burstFits) ∨ !s.matrixOn then s
  else
    let mine (i : Instr) : Bool := decide (transMaster i = some m)
    let s1 := forEach (fun b t =>
      if (t.bank b).stalled.any mine then
        t.setBank b { t.bank b with stalled := (t.bank b).stalled.filter fun i => !mine i } else t) (numbers 0 64) s
    let s2 := forEach (resetBurst m) bursts s1
    if bursts.isEmpty ∨ s2.matrix.draining.contains m then s2
    else { s2 with matrix := { s2.matrix with draining := m :: s2.matrix.draining } })

/-- MASTER_RESET_DRAIN_DONE (R378): every ID from before the reset has retired, and the master's new transactions are
accepted. -/
def execMasterResetDrainDone (m : Nat) (s : State) : Outcome :=
  .next (if !s.matrix.draining.contains m then s
  else
    let mine (i : Instr) : Bool := decide (transMaster i = some m)
    let now := s.matrix.stalled.filter mine
    forEach runTrans now { s with matrix := { s.matrix with
      draining := s.matrix.draining.filter fun k => decide (k ≠ m)
      stalled := s.matrix.stalled.filter fun i => !mine i } })

end Sys2Proof.Machine
end

