-- ==== Sys2Proof/Machine/Objects.lean ====
section
/-!
DEFINITION. The values that the objects read (R411 and the object tables of the chapters). Scalars and
records are little-endian; a table row that is not listed here is a setting, read as it is in force.
-/

namespace Sys2Proof.Machine

/-- The value that a list of (sub-index, value) gives a sub-index. -/
def lookSub (sub : Nat) : SMap (List Byte) → Option (List Byte)
  | [] => none
  | p :: rest => if p.1 = sub then some p.2 else lookSub sub rest

/-- An unsigned value of `n` bytes. -/
def u (n v : Nat) : List Byte := leBytes n v

/-- A signed value of two bytes. -/
def i16 (v : Int) : List Byte := leBytes 2 (intBits 16 v)

/-- A flag. -/
def flag (b : Bool) : List Byte := [byte (bit b)]

/-- The bytes of an F32. -/
def f32b (v : F32) : List Byte := leBytes 4 v.toNat

/-- An instant that may be absent. -/
def time96Opt (t : Option Instant) : List Byte := time96Bytes (t.getD 0)

/-- A value that the spec does not state (log 12). -/
def State.openNat (s : State) : Nat := Config.freeNat s.freeCtr

/-- Bytes of an ASCII text. -/
def asciiBytes (t : List Nat) : List Byte := t.map byte

/-! ### Identity, links, sessions, life-cycle (01, 02, 14, 16) -/

def vendorName : List Byte :=
  asciiBytes [80, 101, 108, 108, 105, 111, 116, 116, 101, 32, 77, 105, 99, 114, 111, 115, 121, 115, 116, 101, 109, 115]

def partName : List Byte := asciiBytes [72, 75, 70, 49, 48, 50, 52]

/-- ORDER_CODE: HKF1024-RBC or HKF1024-A32C (R2, R3). -/
def orderCode : List Byte :=
  partName ++ asciiBytes (if Config.bareRibbon then [45, 82, 66, 67] else [45, 65, 51, 50, 67])

/-- 0x1000 (R412). -/
def State.identityObjs (s : State) : SMap (List Byte) := [
  (1, vendorName), (2, partName), (3, orderCode), (4, serialNumber),
  (5, u 2 (s.idReg 4)), (6, u 4 (s.idReg 8)), (7, u 2 (Config.factoryConst 0x1000 7 0))]

/-- REST_PATTERN, by the last hold samples (R45, R196). -/
def State.restPattern (s : State) : Bool :=
  s.elems.all fun p => decide (p.2.holdWord ≤ 256 * (if p.1 < 9728 then (s.barTravel p.1 : Int) else 655))

/-- 0x1100 (R45). -/
def State.fabricObjs (s : State) : SMap (List Byte) := [
  (1, u 4 (Config.factoryConst 0x1100 1 0)), (2, u 4 (Config.factoryConst 0x1100 2 0)),
  (3, u 2 (Config.factoryConst 0x1100 3 0 % 4)), (5, flag s.restPattern)]

/-- FORGE_STATE's codes (R15). -/
def ForgeState.code : ForgeState → Nat
  | .asleep => 0
  | .waking => 1
  | .awake => 2
  | .sleeping => 3

/-- 0x1200 (R15). -/
def State.forgeObjs (s : State) : SMap (List Byte) := [
  (3, u 1 s.forge.state.code), (4, u 4 s.forge.wakeCount), (5, time96Bytes s.forge.lastWake), (6, u 4 50)]

/-- 0x1300 of a session (R413). -/
def State.accessObjs (s : State) (ses : Nat) : SMap (List Byte) := [
  (1, u 4 (s.session ses).regOffset), (3, time96Bytes s.now), (4, u 1 s.quality)]

/-- 0x1400 (R412). -/
def State.linkObjs (s : State) : SMap (List Byte) := [
  (0x07, u 4 s.bar2Sleep),
  (0x14, u 6 (Config.factoryConst 0x1400 0x14 0)), (0x15, u 6 (Config.factoryConst 0x1400 0x15 0)),
  (0x16, s.blob 0x1400 0x16 (List.replicate 12 0#8)), (0x17, s.blob 0x1400 0x17 (List.replicate 12 0#8)),
  (0x18, s.blob 0x1400 0x18 (List.replicate 33 0#8)), (0x19, s.blob 0x1400 0x19 (List.replicate 33 0#8)),
  (0x1C, flag s.ptp0.linkUp), (0x1D, flag s.ptp1.linkUp)]

/-- 0x1500 + `n` (R412). -/
def State.sessionObjs (s : State) (n : Nat) : SMap (List Byte) :=
  let x := s.session n
  [ (1, flag (s.served n)), (2, u 1 (if 29 ≤ n then 4 else x.link)), (3, u 1 (s.role n)), (4, padTo 40 x.peer),
    (5, time96Bytes x.opened), (6, u 4 x.requests), (7, u 4 x.drops), (8, u 4 x.dedupHits)]

/-- 0x1800 (R465). -/
def State.lifeObjs (s : State) : SMap (List Byte) := [
  (1, u 1 s.life.state.code), (2, u 8 s.nonce),
  (5, match s.life.auditKey with | none => [] | some k => deviceCert k),
  (6, if s.life.tlsKey then Config.factoryBytes 0x180006 s.life.keyNo else []),
  (7, Config.factoryBytes 0x180007 0)]

/-- Bytes 0 to 51 of an image's header, zeros if it is not valid (R456, R465). -/
def State.imageInfo (s : State) (k : Nat) (i : Image) : List Byte :=
  if !s.imageValid k i then List.replicate 52 0#8
  else if i.factory then
    asciiBytes [72, 75, 70, 87] ++ u 4 i.version ++ u 1 i.svn ++ u 7 0 ++ u 36 (Config.factoryConst 0x1810 4 16)
  else i.bytes.take 52

/-- 0x1810 (R465). -/
def State.bootObjs (s : State) : SMap (List Byte) := [
  (1, u 1 s.boot.pref), (2, u 1 s.boot.running), (3, u 1 s.boot.fusedSvn),
  (4, s.imageInfo 0 s.boot.imageA ++ s.imageInfo 1 s.boot.imageB)]

/-- 0x1820 (R465). -/
def State.tamperObjs (s : State) : SMap (List Byte) := [
  (2, u 4 s.life.tamperCount), (3, time96Bytes s.life.tamperLast), (4, u 1 s.life.tamperSources)]

/-! ### Planner, schedule, batches, circuits (03, 04) -/

/-- The notch slots with a use (R127). -/
def State.notchUsed (s : State) (use : Nat) : Nat := countWhere (fun p => decide (p.2.use = use)) s.notches

/-- Free notch slots. -/
def State.notchFree (s : State) : Nat := 512 - s.notchUsed 1 - s.notchUsed 2

/-- Legs in force that are DEGRADED. -/
def State.degradedLegs (s : State) : Nat := countWhere (fun p => decide ((s.leg p.1).state = .degraded)) s.active.legs

/-- Elements whose entry in a complete inactive copy differs from the active one (R78). -/
def State.staleRoutes (s : State) : Nat :=
  match s.image with
  | none => 0
  | some (_, r) => countWhere (fun e => decide (mapGet r e .bar ≠ s.active.route e)) (numbers 0 elemCount)

/-- A session's last plan result; empty before the first. -/
def State.lastPlan (s : State) (ses : Nat) : List Byte :=
  match s.planner.results.find? fun p => decide (p.1 = ses) with
  | none => []
  | some p => p.2.bytes

/-- 0x2000 (R79). -/
def State.plannerObjs (s : State) (ses : Nat) : SMap (List Byte) := [
  (2, s.lastPlan ses), (5, u 2 s.notchFree), (6, u 2 (s.notchUsed 1)), (7, u 2 (s.notchUsed 2)),
  (8, u 2 s.active.legs.length), (9, u 4 s.planner.count), (0xA, u 4 s.planner.timeMax), (0xB, u 2 s.staleRoutes),
  (0xC, u 2 s.degradedLegs)]

/-- PLANNED_GENERATION. -/
def State.plannedGeneration (s : State) : Nat := s.generationPlus s.pendingBatches.length

/-- 0x2001 (R79). -/
def State.generationObjs (s : State) : SMap (List Byte) := [
  (1, u 8 s.generation), (2, padTo 32 s.digest), (3, u 4 s.genEpoch), (4, u 8 s.plannedGeneration),
  (5, s.digests.flatMap fun d => u 8 d.1 ++ time96Bytes d.2.1 ++ u 4 0 ++ padTo 32 d.2.2)]

/-- SCHED_STATE's codes. -/
def SchedState.code : SchedState → Nat
  | .idle => 0
  | .armed => 1
  | .running => 2
  | .stopping => 3

/-- SCHED_CHANGE_AT. -/
def Sched.changeAt (x : Sched) : Instant := match x.change with | none => 0 | some c => c.at_

/-- SCHED_NEXT_BOUNDARY: a committed change takes effect, and commits its watch 0, where it comes first (R114). -/
def State.nextWatchAt (s : State) : Instant := if s.sched.next = 0 then 0 else s.nextCommit.1

/-- 0x2100 (R119). -/
def State.schedObjs (s : State) : SMap (List Byte) :=
  let x := s.sched
  [ (2, u 1 x.state.code), (3, time96Bytes x.setBase), (4, x.table.flatMap Watch.bytes), (6, u 1 x.reject),
    (7, u 8 (cycleNs x.table)), (8, u 8 x.cycleCount), (9, u 1 x.watchNow), (0xA, time96Bytes s.nextWatchAt),
    (0xB, time96Bytes x.start), (0xC, time96Bytes x.base), (0xD, u 4 x.auditLoad), (0xE, u 4 x.auditBudget),
    (0xF, u 4 x.late), (0x10, time96Bytes x.changeAt), (0x13, time96Bytes x.shadowBase),
    (0x14, x.shadowTable.flatMap Watch.bytes)]

/-- The batch has committed. -/
def Batch.committed (b : Batch) : Bool := decide (b.state = .moving ∨ b.state = .settled ∨ b.state = .lateSettled)

/-- A status record (R102). -/
def Batch.statusBytes (b : Batch) : List Byte :=
  u 4 b.id ++ u 1 b.mode ++ u 1 b.state.code ++ u 1 b.flags ++ u 1 b.session ++ time96Bytes b.tReq
    ++ time96Bytes (if b.committed then b.t0 else 0) ++ u 8 (if b.committed then b.generation else 0)
    ++ u 4 (b.settleNs.getD 0xFFFFFFFF) ++ u 2 b.legCount ++ u 2 b.lateLegs ++ u 2 b.darkLegs ++ u 2 b.superseded
    ++ u 2 b.status ++ u 1 b.origin ++ u 1 0 ++ u 8 b.tag

/-- The status records of every MOVING and pending batch in commit order. -/
def State.liveBatches (s : State) : List Byte :=
  ((s.batches.filter fun b => decide (b.state = .moving)) ++ s.pendingBatches).flatMap Batch.statusBytes

/-- T0 of the next pending batch; 0 if none. -/
def State.nextT0 (s : State) : Instant :=
  match s.pendingBatches.filter fun b => decide (b.state = .pending) with
  | [] => 0
  | b :: _ => b.t0

/-- 0x2200 of a session (R101). -/
def State.batchObjs (s : State) (ses : Nat) : SMap (List Byte) := [
  (2, u 4 (s.session ses).lastBatch), (5, u 1 s.pendingBatches.length),
  (6, s.liveBatches ++ s.closed.flatMap Batch.statusBytes), (7, time96Bytes s.nextT0), (8, u 4 s.lateBatches),
  (9, u 4 s.commitCount)]

/-- 0x2400 + `c` (R104, R105, R119). -/
def State.configObjs (s : State) (c : Nat) : SMap (List Byte) :=
  let x := s.cfg c
  [ (1, x.body), (2, u 1 x.state), (3, u 1 x.reason), (4, u 2 x.legs), (5, u 2 x.splits),
    (6, if x.state = 2 then x.image.circuitDigest else u 32 0), (7, u 4 x.compileNs)]

/-- A pending batch changes a slot. -/
def changesSlot (id : Nat) (c : Cfg) : List Batch → Bool
  | [] => false
  | b :: rest => decide (c.slot id ≠ b.plan.after.slot id) || changesSlot id b.plan.after rest

/-- STATE's codes (R80). -/
def CState.code : CState → Nat
  | .free => 0
  | .pending => 1
  | .moving => 2
  | .settled => 3
  | .degraded => 4

/-- The state of a slot without its pending changes: a group is as the worst of its legs. -/
def State.slotOwn (s : State) (id : Nat) : CState :=
  let x := s.active.slot id
  if x.kind = .free then .free
  else if x.kind = .group then
    let l := (s.active.groupLegs id).map fun p => (s.leg p.1).state
    if l.contains .degraded then .degraded else if l.contains .moving then .moving else .settled
  else (s.leg id).state

/-- STATE (R80): PENDING replaces FREE and SETTLED. -/
def State.slotState (s : State) (id : Nat) : Nat :=
  let own := s.slotOwn id
  if (own = .free ∨ own = .settled) ∧ changesSlot id s.active s.pendingBatches then 1 else own.code

/-- LIGHT (R80). -/
def State.slotLight (s : State) (id : Nat) : Nat :=
  let x := s.active.slot id
  let lit (d : Nat) : Bool := (s.det d).lit
  if x.kind = .free then 0
  else
    let souths := if x.kind = .group then (s.active.groupLegs id).map fun p => p.2.south else [x.south]
    bit (souths.all fun q => lit (southOut q)) + 2 * bit (lit (northIn x.north))
      + 4 * bit (souths.all fun q => lit (southIn q)) + 8 * bit (s.bidirOk id)

/-- TRIM_STATE's codes (R172). -/
def TrimState.code : TrimState → Nat
  | .off => 0
  | .qualifying => 1
  | .settling => 2
  | .trimming => 3
  | .suspended => 4

/-- 0x2800 + `id` (R80, R186). On GROUP and FREE slots the trim sub-indices read 0. -/
def State.circuitObjs (s : State) (id : Nat) : SMap (List Byte) :=
  let x := s.active.slot id
  let l := s.leg id
  let on : Bool := x.isLeg
  let used : Bool := decide (x.kind ≠ .free)
  [ (1, u 1 x.kind.code), (2, u 1 (s.active.flagsOf id)), (3, u 2 x.north), (4, u 2 x.south), (5, u 2 x.group), (6, u 1 x.legCount),
    (7, u 1 x.weight), (8, u 1 (s.slotState id)), (9, u 1 (s.slotLight id)),
    (0xA, u 8 (if used then l.genMade else 0)), (0xB, u 8 (if used then l.genMoved else 0)),
    (0xC, (s.active.pathOf id).flatMap fun p => u 2 p.1 ++ u 1 p.2.code ++ u 1 0),
    (0xD, if x.kind = .group then (s.active.shadowsOf id).flatMap fun p => u 2 p.1 ++ u 2 p.2 else []),
    (0xE, u 4 (if used then l.moveCount else 0)), (0x10, u 1 (if on then l.trim.code else 0)),
    (0x11, u 1 (if on then l.cause else 0)), (0x12, i16 (if on then l.loss else 0)),
    (0x13, i16 (if on then l.baseline.getD 0 else 0)), (0x14, u 2 (if x.kind = .leg then l.share else 0)),
    (0x15, if on then x.fabricElems.flatMap fun e => i16 (s.elem e).offset else List.replicate 38 0#8)]

/-! ### PTP, audit, calibration, Keeper (08, 09, 10, 11) -/

/-- PTP_MASTER_DS (R243). -/
def MasterBytes (m : MasterDs) : List Byte :=
  gmBytes m.gm ++ u 1 m.priority1 ++ u 1 m.clockClass ++ u 1 m.accuracy ++ u 1 0 ++ u 2 m.variance ++ u 1 m.priority2
    ++ u 1 0 ++ u 2 m.steps

/-- 0x3000 (R243). -/
def State.ptpObjs (s : State) : SMap (List Byte) := [
  (2, u 8 (Config.factoryConst 0x3000 2 0)), (3, u 1 (s.ptpSel.selected.getD 0xFF)), (5, gmBytes s.gmNow)]

/-- 0x3010 + `p` (R243). -/
def State.ptpPortObjs (s : State) (p : Nat) : SMap (List Byte) :=
  let x := s.ptpPort p
  [ (8, u 1 x.state), (9, match x.master with | none => u 18 0 | some m => MasterBytes m),
    (0xA, u 8 (intBits 64 x.offset)), (0xB, u 8 (intBits 64 x.meanDelay))]

/-- 0x3100 of a session (R280). -/
def State.auditObjs (s : State) (ses : Nat) : SMap (List Byte) :=
  let a := s.audit
  [ (1, u 8 (auditSeq a.epoch a.count)), (2, u 4 a.epoch), (3, u 8 a.released), (6, u 8 (s.session ses).auditPos),
    (9, u 4 a.ring.length), (0xA, u 2 a.buffer.length), (0xB, u 8 a.lost), (0xC, u 4 a.checkFails),
    (0xD, match s.life.auditKey with | none => u 32 0 | some k => publicKey k), (0xE, s.keyIdBytes),
    (0xF, u 1 s.auditState), (0x10, a.lastCheckpoint.flatMap ARec.bytes), (0x11, u 1 s.auditConditions)]

/-- CAL_STATE: a run waits for the Forge in WAKING. -/
def State.calState (s : State) : Nat := if s.cal.state ≠ 0 ∧ !s.awake then 1 else s.cal.state

/-- CAL_ACTIVE_TYPE. -/
def State.calActive (s : State) : Nat := match s.cal.run with | none => 0 | some r => r.type_

/-- 0x3200 (R327). -/
def State.calObjs (s : State) : SMap (List Byte) := [
  (3, u 1 s.calState), (4, u 1 s.calActive), (5, u 4 s.cal.step), (6, u 4 s.cal.steps)]

/-- CAL_STATUS (R327). -/
def CalType.status (c : CalType) : Nat :=
  bit c.factoryValid + 2 * bit c.inForce.isSome + 4 * bit (!c.factoryBad.isEmpty) + 8 * bit c.userLost

/-- 0x3210 + `t` (R327). -/
def State.calTypeObjs (s : State) (t : Nat) : SMap (List Byte) :=
  let c := s.calType t
  [ (1, u 4 c.runs), (2, u 4 c.successes), (3, time96Bytes c.lastTime), (4, u 1 c.lastResult), (5, u 1 c.lastReason),
    (6, u 4 (factorySeq t (c.factorySlot t))), (7, u 4 c.seqInForce), (8, u 1 (c.inForce.getD 0xFF)), (9, u 1 c.status)]

/-- 0x3400 (R308). -/
def State.keeperObjs (s : State) : SMap (List Byte) :=
  let k := s.keeper
  [ (1, u 1 k.state.code), (2, u 1 (sourceCode s.activeAnvil)), (3, u 1 0), (0xC, u 4 k.failovers),
    (0xD, time96Bytes k.lastFailover), (0xE, u 4 k.interruptNs), (0xF, u 4 k.mismatches), (0x10, u 4 k.heldCodes),
    (0x11, u 4 k.lostCount), (0x12, time96Opt (k.revertAt.map fun r => r.1)), (0x13, k.history.flatMap ARec.bytes)]

/-- 0x3410 + a (R308). -/
def State.anvilObjs (s : State) (v : Anvil) : SMap (List Byte) :=
  let a := s.anvil v
  [ (1, u 1 a.state.code), (2, u 1 a.cause), (3, time96Bytes a.failTime), (4, u 1 (s.failCount v)),
    (5, u 4 a.resyncNs), (6, time96Bytes (if a.state = .standby then a.standbySince else 0))]

/-! ### Admission, events, gates (15) -/

/-- 0x3500 (R429). -/
def State.admitObjs (s : State) : SMap (List Byte) := [(2, u 2 s.poolFree), (4, u 4 s.disp.policedTotal)]

/-- 0x3510 + `n` (R429). -/
def State.admitSesObjs (s : State) (n : Nat) : SMap (List Byte) :=
  let x := s.session n
  [ (9, u 2 x.held), (0xA, u 4 x.policed), (0xB, u 4 x.quotaDrops), (0xC, x.control.stats ++ x.query.stats),
    (0xD, u 4 x.evtDrops)]

/-- EVT_HISTORY_OLDEST. -/
def State.oldestEvent (s : State) : Nat := match s.events.history.getLast? with | none => 0 | some r => r.seq

/-- 0x3530 (R444). -/
def State.eventObjs (s : State) : SMap (List Byte) := [
  (1, (numbers 0 4096).flatMap fun i => u 4 (s.mapEntry i)), (2, u 8 s.events.last), (3, u 8 s.oldestEvent)]

/-- The bytes of a gate control list's entries (R435). -/
def gateListBytes (l : List (Nat × Nat)) : List Byte := l.flatMap fun e => u 1 e.1 ++ u 3 0 ++ u 4 e.2

/-- 0x3540 + `p` (R435). -/
def State.gateObjs (s : State) (p : Nat) : SMap (List Byte) :=
  let g := s.gate p
  let a := (if g.enable then g.active else g.committed).getD {}
  [ (1, flag g.enable), (2, time96Bytes a.base), (3, gateListBytes a.entries), (5, u 1 g.reject), (6, time96Bytes g.changeAt),
    (7, u 1 g.entry), (8, u 4 g.waits), (9, u 4 g.oversize), (0xA, (s.gateShadow p).1), (0xB, (s.gateShadow p).2)]

/-! ### Ports, loops, trim, channels, elements (02, 05, 06, 07, 12) -/

/-- PORT_FLAGS (R185). -/
def State.portFlags (s : State) (p : Nat) : Nat :=
  let x := s.port p
  bit (s.det (2 * p)).overpower + 2 * bit (s.det (2 * p + 1)).overpower + 4 * bit x.eqLimit
    + 8 * bit (s.buoy (convOf (2 * p))).slow + 16 * bit x.lossDrift

/-- 0x4000 + `p` (R45, R185). -/
def State.portObjs (s : State) (p : Nat) : SMap (List Byte) := [
  (1, flag (decide (1024 ≤ p))), (2, u 2 (p % 1024)), (3, u 1 (p % 1024 / 32)), (4, u 1 (p % 32 + 1)), (5, u 4 (pigtailPs p)),
  (6, u 4 (Config.factoryConst (0x4000 + p) 6 0)), (7, u 1 (s.roleOf p)), (0x12, i16 (s.det (2 * p)).power),
  (0x13, i16 (s.det (2 * p + 1)).power), (0x14, u 1 (bit (s.det (2 * p)).lit + 2 * bit (s.det (2 * p + 1)).lit)),
  (0x18, u 2 (s.attenInForce p)), (0x19, u 1 (s.portFlags p)), (0x1A, u 2 (Config.factoryConst (0x4000 + p) 0x1A 0)),
  (0x1B, u 4 (s.port p).lightEvents)]

/-- PROF_USERS (R157). -/
def State.profileUsers (s : State) (p : Nat) : Nat := countWhere (fun e => decide (s.profileOf e = p)) (numbers 0 elemCount)

/-- The element's tables await their swap (R147). -/
def State.tableStale (s : State) (e : Nat) : Bool :=
  match s.cal.run with
  | none => false
  | some r => decide (r.type_ = 5 ∧ (s.cal.state = 4 ∨ s.cal.state = 5) ∧ r.first ≤ e ∧ e < r.first + r.count)

/-- 0x5080 (R159). -/
def State.loopObjs (s : State) : SMap (List Byte) := [
  (1, flag s.loopsStarted), (2, u 2 (countWhere (fun p => decide (p.2.mode = .transit)) s.elems)),
  (3, u 2 (countWhere (fun p => decide (p.2.mode = .faulted)) s.elems)),
  (4, u 2 (match s.cal.run with | some r => countWhere s.tableStale (numbers r.first r.count) | none => 0)),
  (5, u 2 (countWhere (fun p => p.2.fallback) s.elems)), (6, u 4 s.lateSkips)]

/-- The least margin of a lane in the last whole millisecond (R150, R159): a lane that no report named ran at its nominal
margin, and one that carries no slots has the whole of it (log 77). -/
def State.laneLeast (s : State) (n : Nat) (l : Lane) : Nat :=
  let ms := s.time.elapsed / (1000000 * 65536) + 1
  if l.leastAt = ms then l.margin
  else if l.leastAt + 1 = ms then l.least
  else if l.works then laneNominal n else 100

/-- A lane entry (R159). DESIGN CHOICE: byte 2 names a lane only for a spare that carries another's slots; a WORKING lane
reads 0xFF (log 76). -/
def State.laneEntry (s : State) (v : Anvil) (n : Nat) : List Byte :=
  let l := s.lane v n
  let st := match l.kind with | .working => 0 | .spare => 1 | .spareActive => 2 | .retired => 3
  u 1 n ++ u 1 st ++ u 1 (if l.kind = .spareActive then l.carries else 0xFF) ++ u 1 (s.laneLeast n l) ++ u 4 l.lateCount

/-- 0x5090 + a (R159). -/
def State.laneObjs (s : State) (v : Anvil) : SMap (List Byte) := [
  (1, (numbers 0 68 ++ numbers 128 8).flatMap (s.laneEntry v)), (2, u 1 (s.spares v 0 68).length),
  (3, u 1 (s.spares v 128 8).length), (4, u 1 (s.holdLanes v).length)]

/-- 0x5100 + `n` (R158). -/
def State.notchObjs (s : State) (n : Nat) : SMap (List Byte) :=
  let x := s.notch n
  let set (l : List F32) : List Byte := padTo 20 (l.flatMap f32b)
  [(1, u 2 x.owner), (2, u 1 x.use), (3, f32b x.freq), (4, set x.coefT), (5, set x.coefH)]

/-- 0x5200 (R184). -/
def State.trimObjs (s : State) : SMap (List Byte) :=
  let count (t : TrimState) : Nat := countWhere (fun p => decide ((s.leg p.1).trim = t)) s.active.legs
  [ (0x0F, u 2 (count .trimming)), (0x10, u 2 (count .suspended)),
    (0x11, u 16 ((s.buoys.filter fun p => p.2.slow).map fun p => 2 ^ p.1).sum), (0x12, u 4 s.windowsDiscarded)]

/-- 0x5300 (R220). -/
def State.ladderObjs (s : State) : SMap (List Byte) :=
  let l := s.ladder
  [ (1, u 1 l.state), (2, padTo 16 (l.selection.map byte)), (3, padTo 32 (l.levels.flatMap fun v => u 2 (intBits 16 v))), (4, u 1 l.spares),
    (5, flag s.clear.asserted), (6, u 4 s.clear.count), (7, time96Bytes s.clear.last),
    (8, u 2 (countWhere (fun p => decide (p.2.causes ≠ 0)) s.chans)), (9, u 4 s.mismatchesCleared)]

/-- The bytes of a table of U32 entries. -/
def tableBytes (n : Nat) (t : SMap Nat) : List Byte := (numbers 0 n).flatMap fun e => u 4 (mapGet t e 0)

/-- 0x5400 (R221). -/
def State.clearObjs (s : State) : SMap (List Byte) :=
  let c := s.clear
  [ (1, tableBytes elemCount c.table), (2, tableBytes 16 c.aux), (4, tableBytes elemCount c.shadow),
    (5, tableBytes 16 c.shadowAux), (6, u 2 (countWhere (fun p => decide (p.2 ≠ 0)) c.table)), (7, u 4 c.reject)]

/-- 0x5500 + `a` (R222). -/
def State.auxObjs (s : State) (a : Nat) : SMap (List Byte) :=
  let x := s.auxOut a
  [ (1, u 1 x.config), (2, u 4 x.value), (4, u 1 x.state.code), (5, u 1 x.flags), (6, u 2 x.readback), (7, u 4 x.now)]

/-- ELEM_STATUS (R156). MOVING reads 1 while the reference of a running loop is not at rest (log 76). -/
def State.elemStatus (s : State) (e : Nat) : Nat :=
  let x := s.elem e
  let bypass : Bool := match x.notch with | none => false | some n => (s.notch n).bypassH
  bit x.late + 2 * bit x.fallback + 4 * bit x.satHi + 8 * bit x.satLo + 16 * bit x.settled + 32 * bit x.fall
    + 64 * bit (s.tableStale e) + 128 * bit x.clamped + 256 * bit x.frozen + 512 * bit bypass
    + 1024 * bit (x.mode.runs && !x.atRest (s.loopClock e))

/-- The Anvil whose lanes the elements report: the active one, else A. -/
def State.shownAnvil (s : State) : Anvil := s.activeAnvil.getD .a

/-- 0x8000 + `e` (R156, R219, R339). A lane that no longer serves the element is free (log 12). -/
def State.elemObjs (s : State) (e : Nat) : SMap (List Byte) :=
  let x := s.elem e
  let c := s.chan e
  let v := s.shownAnvil
  let position := if e < 9728 then e % 512 else (e - 9728) % 1024
  [ (0x01, u 1 (elemKind e)), (0x02, u 1 (elemStage e)), (0x03, u 2 position), (0x04, u 1 (x.wasMode.getD x.mode).code),
    (0x06, u 2 (x.notch.getD 0xFFFF)), (0x07, u 2 x.target), (0x08, u 2 x.targetSet), (0x09, u 4 x.manualCode),
    (0x0A, u 2 (clampInt 0 65535 (x.word / 256)).toNat), (0x0B, u 4 (intBits 32 x.error)), (0x0C, u 4 (s.driveCode e)),
    (0x0D, u 2 (s.elemStatus e)), (0x0E, u 2 x.causes), (0x10, time96Bytes x.lastSettle), (0x11, u 2 x.lastSettleTarget),
    (0x12, u 4 x.lateCount), (0x13, u 4 x.moveCount), (0x14, u 4 x.faultCount),
    (0x15, u 1 ((s.transitLane v e).getD s.openNat)), (0x16, u 1 (s.holdLane v e - 128)),
    (0x20, u 2 (s.barTravel e)), (0x21, u 2 (s.crossTravel e)), (0x22, (numbers 0 65).flatMap fun i => u 2 (s.etaEntry e i)),
    (0x23, (numbers 0 8).flatMap fun i => f32b (s.calF32 5 e (640 + 4 * i))), (0x24, f32b (s.zeta e)),
    (0x25, flag (s.notchAlways e)),
    (0x28, (numbers 0 64).flatMap fun i => f32b (s.calF32 5 e (8 * i)) ++ f32b (s.calF32 5 e (8 * i + 4))),
    (0x29, (numbers 0 32).flatMap fun i => f32b (s.calF32 5 e (512 + 4 * i))),
    (0x2A, f32b (tempCoef e 0) ++ f32b (tempCoef e 4)), (0x2B, i16 (x.tq.getD 0)),
    (0x31, u 4 (clearLimit e)), (0x32, u 1 c.causes), (0x33, u 2 c.readV), (0x34, u 2 c.readExp),
    (0x35, time96Bytes c.readTime), (0x36, u 4 c.readCount), (0x37, u 4 c.readDeferred), (0x38, flag c.readPending),
    (0x39, u 2 c.carrier), (0x3A, u 4 (s.clearCode e)), (0x3B, (numbers 0 33).flatMap fun i => u 4 (s.capEntry e i))]

/-! ### Any object -/

/-- The computed values of an index, as a session reads them. -/
def State.indexObjs (s : State) (ses ix : Nat) : SMap (List Byte) :=
  if ix = 0x1000 then s.identityObjs
  else if ix = 0x1100 then s.fabricObjs
  else if ix = 0x1200 then s.forgeObjs
  else if ix = 0x1300 then s.accessObjs ses
  else if ix = 0x1400 then s.linkObjs
  else if 0x1500 ≤ ix ∧ ix < 0x1520 then s.sessionObjs (ix - 0x1500)
  else if ix = 0x1800 then s.lifeObjs
  else if ix = 0x1810 then s.bootObjs
  else if ix = 0x1820 then s.tamperObjs
  else if ix = 0x1E00 then
    let r := (s.session ses).redeliver
    [(2, u 8 r.1 ++ u 4 r.2.1 ++ u 4 r.2.2)]
  else if ix = 0x2000 then s.plannerObjs ses
  else if ix = 0x2001 then s.generationObjs
  else if ix = 0x2100 then s.schedObjs
  else if ix = 0x2200 then s.batchObjs ses
  else if 0x2400 ≤ ix ∧ ix < 0x2440 then s.configObjs (ix - 0x2400)
  else if 0x2800 ≤ ix ∧ ix < 0x3000 then s.circuitObjs (ix - 0x2800)
  else if ix = 0x3000 then s.ptpObjs
  else if 0x3010 ≤ ix ∧ ix < 0x3012 then s.ptpPortObjs (ix - 0x3010)
  else if ix = 0x3100 then s.auditObjs ses
  else if ix = 0x3200 then s.calObjs
  else if 0x3210 < ix ∧ ix < 0x321A then s.calTypeObjs (ix - 0x3210)
  else if ix = 0x3400 then s.keeperObjs
  else if 0x3410 ≤ ix ∧ ix < 0x3412 then s.anvilObjs (if ix = 0x3410 then .a else .b)
  else if ix = 0x3500 then s.admitObjs
  else if 0x3510 ≤ ix ∧ ix < 0x3530 then s.admitSesObjs (ix - 0x3510)
  else if ix = 0x3530 then s.eventObjs
  else if 0x3540 ≤ ix ∧ ix < 0x3542 then s.gateObjs (ix - 0x3540)
  else if 0x4000 ≤ ix ∧ ix < 0x4800 then s.portObjs (ix - 0x4000)
  else if 0x5000 ≤ ix ∧ ix < 0x5040 then [(0x1C, u 2 (s.profileUsers (ix - 0x5000)))]
  else if ix = 0x5080 then s.loopObjs
  else if 0x5090 ≤ ix ∧ ix < 0x5092 then s.laneObjs (if ix = 0x5090 then .a else .b)
  else if ix = 0x5200 then s.trimObjs
  else if 0x5100 ≤ ix ∧ ix < 0x5300 then s.notchObjs (ix - 0x5100)
  else if ix = 0x5300 then s.ladderObjs
  else if ix = 0x5400 then s.clearObjs
  else if 0x5500 ≤ ix ∧ ix < 0x5510 then s.auxObjs (ix - 0x5500)
  else if 0x8000 ≤ ix ∧ ix < 0xAE00 then s.elemObjs (ix - 0x8000)
  else []

/-- The value of an object, as a session reads it: computed, or a setting in force. -/
def State.objValue (s : State) (ses ix sub : Nat) : List Byte :=
  if sub = 0 then u 1 ((highestSub ix).getD 0)
  else match lookSub sub (s.indexObjs ses ix) with
    | some v => v
    | none =>
      match objRow ix sub with
      | none => []
      | some r => match r.type_.size with
        | some n => u n (s.obj ix sub)
        | none => s.blob ix sub []

/-! ### SUMMARY (R414, R415) -/

/-- The slots that are not FREE. -/
def Cfg.usedSlots (c : Cfg) : List Nat := (c.slots.filter fun p => decide (p.2.kind ≠ .free)).map fun p => p.1

/-- The arbiter is lost while Watch runs (R305). -/
def State.arbiterLost (s : State) : Bool := s.power.watchOn && !s.keeper.alive

/-- An open fault: kind, unit, cause. -/
def faultEntry (kind unit cause : Nat) : List Byte := u 1 kind ++ u 1 0 ++ u 2 unit ++ u 4 cause

/-- The FAULTS section. Of kinds for which no chapter gives a cause, the cause is free (log 12). -/
def State.openFaults (s : State) : List Byte :=
  let free := s.openNat
  ((s.elems.filter fun p => decide (p.2.mode = .faulted)).flatMap fun p => faultEntry 0 p.1 p.2.causes)
    ++ ((s.aux.filter fun p => decide (p.2.state = .fault)).flatMap fun p => faultEntry 1 p.1 free)
    ++ ((s.buoys.filter fun p => p.2.slow).flatMap fun p => faultEntry 2 p.1 free)
    ++ ((s.fans.filter fun p => p.2.stall).flatMap fun p => faultEntry 3 p.1 free)
    ++ (if 3 ≤ s.ladder.state then faultEntry 4 0 free else [])
    ++ (if s.keeper.a.state = .out then faultEntry 5 0 s.keeper.a.cause else [])
    ++ (if s.keeper.b.state = .out then faultEntry 5 1 s.keeper.b.cause else [])
    ++ (if s.arbiterLost then faultEntry 6 0 free else [])

/-- A type's entry of the CALIBRATION section. -/
def State.calEntry (s : State) (t : Nat) : List Byte :=
  let c := s.calType t
  u 1 c.lastResult ++ u 1 c.lastReason ++ u 1 c.status ++ u 1 0 ++ u 4 c.seqInForce ++ time96Bytes c.lastTime ++ u 4 0

/-- The sections of FORMAT 1, in ID order from 1. -/
def State.summarySections (s : State) : List (List Byte) := [
  padTo 32 s.digest ++ u 8 s.plannedGeneration ++ u 2 s.active.legs.length ++ u 2 s.degradedLegs ++ u 2 s.notchFree ++ u 2 0,
  s.active.usedSlots.flatMap fun id => s.active.canonical id ++ u 1 (s.slotState id) ++ u 1 (s.slotLight id)
    ++ u 1 (if (s.active.slot id).isLeg then (s.leg id).trim.code else 0) ++ u 1 0 ++ u 4 (s.leg id).moveCount,
  s.liveBatches,
  u 1 s.sched.state.code ++ u 1 s.sched.watchNow ++ u 2 0 ++ time96Bytes s.nextWatchAt ++ time96Bytes s.sched.base
    ++ time96Bytes s.sched.changeAt ++ u 8 (cycleNs s.sched.table) ++ s.sched.table.flatMap Watch.bytes,
  u 1 s.keeper.state.code ++ u 1 (sourceCode s.activeAnvil) ++ u 1 s.keeper.a.state.code ++ u 1 s.keeper.b.state.code
    ++ flag s.keeper.alive ++ u 3 0 ++ time96Bytes s.keeper.lastFailover ++ time96Opt (s.keeper.revertAt.map fun r => r.1),
  u 4 s.timeStatus ++ u 1 (s.ptpSel.selected.getD 0xFF) ++ u 3 0 ++ gmBytes s.gmNow ++ u 4 s.timeUtc
    ++ u 4 (word32 s.time.offsetLast),
  u 4 s.thmStatus ++ u 2 (s.zoneMax 0) ++ u 2 (s.zoneMax 1) ++ u 2 (s.zoneMax 2) ++ u 2 0,
  s.openFaults,
  u 1 s.calState ++ u 1 s.calActive ++ u 2 0 ++ (numbers 1 8).flatMap s.calEntry,
  u 1 s.auditState ++ u 3 0 ++ u 4 s.audit.ring.length ++ u 2 s.audit.buffer.length ++ u 2 0 ++ s.keyIdBytes]

/-- The directory of sections that begin at an offset, the first with an ID. -/
def directory (id off : Nat) : List (List Byte) → List Byte
  | [] => []
  | b :: rest => u 2 id ++ u 2 0 ++ u 4 off ++ u 4 b.length ++ directory (id + 1) (off + b.length) rest

/-- The highest event sequence number held. -/
def State.newestEvent (s : State) : Nat := match s.events.history with | [] => 0 | r :: _ => r.seq

/-- SUMMARY (R414): the header with the time of the transit boundary, the directory, the sections. -/
def State.summary (s : State) : List Byte :=
  let sec := s.summarySections
  asciiBytes [83, 85, 77, 49] ++ u 2 1 ++ u 2 sec.length ++ time96Bytes (s.now / transitUnits * transitUnits) ++ u 1 s.quality ++ u 3 0 ++ u 8 s.generation
    ++ u 8 s.newestSeq ++ u 8 s.events.delivered ++ u 8 s.audit.released ++ u 8 0
    ++ directory 1 (64 + 12 * sec.length) sec ++ sec.flatten

end Sys2Proof.Machine
end

