-- ==== Sys2Proof/Machine/Jop.lean ====
section
/-!
DEFINITION. JOP's operations on objects that have no row of their own (R400, R404, R405, R407, R410),
SUMMARY (R414) and re-delivery (R416).
-/

namespace Sys2Proof.Machine

/-! ### Reading -/

/-- Steps 4 and 5 of R407 for a read: every role reads every object that is not write-only. -/
def readGate (ix sub : Nat) : Nat :=
  match objRow ix sub with
  | none => if sub = 0 ∧ (highestSub ix).isSome then stOk else stNoObject
  | some r => if r.acc = .wo then stDenied else stOk

/-- The state that a command leaves. -/
def after (s : State) : Outcome → State
  | .next t => t
  | _ => s

/-- SUMMARY is read at OFFSET 0. -/
def readSummary (ses want : Nat) (s : State) : State := takeSnapshot ses (objKey 0x1F00 1) s.summary want s.takeFree.2

/-- The first read of an object: its value is the session's new snapshot. -/
def readFirst (ses ix sub want : Nat) (s : State) : State :=
  if ix = 0x3100 ∧ sub = 5 then after s (execAuditExportRead ses [] s)
  else if ix = 0x1F00 ∧ sub = 1 then readSummary ses want s
  else if ix = 0x1300 ∧ sub = 2 then readRegData ses s
  else if 0x3510 ≤ ix ∧ ix < 0x3530 ∧ sub = 0x0C then readQstats ses (ix - 0x3510) want s
  else takeSnapshot ses (objKey ix sub) (s.objValue ses ix sub) want s.takeFree.2

/-- A later segment of the session's snapshot. -/
def readLater (ses ix sub offset want : Nat) (s : State) : State :=
  let x := s.session ses
  match x.snapshot with
  | none => reply ses stNotEligible s
  | some (key, bs, at_) =>
    if key ≠ objKey ix sub ∨ at_ + twoSeconds ≤ s.time.elapsed then reply ses stNotEligible s
    else
      let n := if want = 0 ∧ ses ≠ 0 then s.segMax ses else min want (s.segMax ses)
      answerPart ses ((bs.drop offset).take n) bs.length
        (s.setSession ses { x with snapshot := some (key, bs, s.time.elapsed) })

/-- JOP_READ (R404, R407, R409). -/
def execJopRead (ses index sub offset want : Nat) (s : State) : Outcome :=
  .next (if !s.served ses then s
  else
    let st := readGate index sub
    if st ≠ stOk then reply ses st s
    else if offset = 0 then readFirst ses index sub want s
    else readLater ses index sub offset want s)

/-- SUMMARY_READ (R414). -/
def execSummaryRead (ses : Nat) (s : State) : Outcome := .next (if s.served ses then readSummary ses (s.segMax ses) s else s)

/-! ### Re-delivery (R416) -/

/-- A re-delivered record enters an event queue, or is dropped there for want of room (R441). -/
def redeliverTo (q : Nat) (r : ERec) (s : State) : State :=
  if s.qRoom q then takeRecord 0 q r s
  else
    let s1 := dropRecord q s
    if (s.queue q).overflow then s1 else raiseEv 0x011 (leBytes 4 q ++ leBytes 4 (s1.queue q).lost) s1

/-- The records of a list that an event queue takes. -/
def takenBy (q : Nat) : List ERec → State → List ERec
  | [], _ => []
  | r :: rest, s => if s.qRoom q then r :: takenBy q rest (redeliverTo q r s) else takenBy q rest (redeliverTo q r s)

/-- The held records after FROM_SEQ, oldest first, at most MAX, marked REDELIVERED. -/
def State.heldAfter (s : State) (from_ max : Nat) : List ERec :=
  let l := (s.events.history.filter fun r => decide (from_ < r.seq)).reverse
  (if max = 0 then l else l.take max).map fun r => { r with flags := orBit r.flags 2 }

/-- The records after FROM_SEQ that are no longer held. -/
def State.lostAfter (s : State) (from_ : Nat) : Nat :=
  min 0xFFFFFFFF (s.newestEvent - from_ - countWhere (fun r => decide (from_ < r.seq)) s.events.history)

/-- The session's re-delivery is noted. -/
def noteRedelivery (ses lost : Nat) (given : List ERec) (s : State) : State :=
  let first := match given with | [] => 0 | r :: _ => r.seq
  s.setSession ses { s.session ses with redeliver := (first, given.length, lost) }

/-- Held records go to a v3 session, a mailbox queue, or the EVENT opcode. -/
def redeliver (ses q : Nat) (l : List ERec) (lost : Nat) (s : State) : State :=
  let x := s.session ses
  if x.link = 3 then noteRedelivery ses lost l (s.setSession ses { x with sendq := x.sendq ++ l })
  else if x.link = 1 then noteRedelivery ses lost (takenBy q l s) (forEach (redeliverTo q) l s)
  else noteRedelivery ses lost l { s with spi := { s.spi with redeliver := s.spi.redeliver ++ l.map fun r => r.seq } }

/-- EVENT_REDELIVER (R416). -/
def execEventRedeliver (ses : Nat) (value : List Byte) (s : State) : Outcome :=
  .next (gated ses 0x1E00 1 value (fun s =>
    let from_ := leAt value 0 8
    let q := leAt value 12 1
    let link := s.linkOf ses
    if s.newestEvent < from_ ∨ 8 ≤ q ∨ (q ≠ 0 ∧ !isMailbox link) ∨ leAt value 13 3 ≠ 0 then reply ses stRange s
    else if link = .internal ∨ (s.session ses).link = 2 then reply ses stNotEligible s
    else reply ses stOk (redeliver ses q (s.heldAfter from_ (leAt value 8 4)) (s.lostAfter from_) (sealCycle s))) s)

/-! ### Writing -/

/-- A shadowed setting is written to its shadow (R26). -/
def writeShadow (ix sub : Nat) (value : List Byte) (s : State) : State :=
  if ix = 0x2100 ∧ sub = 3 then { s with sched := { s.sched with shadowBase := time96Of value } }
  else if ix = 0x2100 then { s with sched := { s.sched with shadowTable := parseTable value (value.length / 8) } }
  else if ix = 0x5400 then
    let t (n : Nat) : SMap Nat := ((numbers 0 n).map fun e => (e, leAt value (4 * e) 4)).filter fun p => p.2 ≠ 0
    if sub = 1 then { s with clear := { s.clear with shadow := t elemCount } }
    else { s with clear := { s.clear with shadowAux := t 16 } }
  else { s with blobs := mapPut s.blobs (objKey ix (sub + 8)) value }

/-- A quiescent setting is in force at once. -/
def writeQuiescent (ix sub : Nat) (r : ObjRow) (value : List Byte) (s : State) : State :=
  match r.type_ with
  | .octet _ => { s with blobs := mapPut s.blobs (objKey ix sub) value }
  | _ => s.setObj ix sub (leNat value)

/-- A live setting waits for its block's boundary (R25). -/
def writeLive (ix sub : Nat) (r : ObjRow) (value : List Byte) (s : State) : State :=
  let v := if r.type_ = .domain then packBytes value else leNat value
  waitSetting (blockOf ix sub) false (objKey ix sub) v 0 s

/-- A setting passes; a stored one is answered once it is journalled (R410). -/
def storeOrReply (ses ix sub : Nat) (r : ObjRow) (value : List Byte) (s : State) : State :=
  if r.stored then beginStore ses (objKey ix sub) value s else reply ses stOk s

/-- A write that passed the gate, of a setting without a row of its own. -/
def writeSetting (ses ix sub : Nat) (r : ObjRow) (value : List Byte) (s : State) : State :=
  if ix = 0x1300 then reply ses stOk (waitSetting (blockOf ix sub) false (objKey ix sub) (leNat value) ses s)
  else if r.cls = .shadowed then reply ses stOk (writeShadow ix sub value s)
  else if 0x5000 ≤ ix ∧ ix < 0x5040 ∧ s.profileRewriting (ix - 0x5000) then reply ses stNotEligible s
  else if r.cls = .quiescent then storeOrReply ses ix sub r value (writeQuiescent ix sub r value s)
  else storeOrReply ses ix sub r value (writeLive ix sub r value s)

/-- The schedule's control codes. -/
def schedControl (ses v : Nat) (s : State) : Outcome :=
  if v = 1 then execSchedArm ses s
  else if v = 2 then execSchedCommit ses s
  else if v = 3 then execSchedStopAtCycleEnd ses s
  else execSchedStopNow ses s

/-- The command of the row that an object has of its own. A planning time, which is an
operand of those rows, is free here (log 12). -/
def ownRow (ses ix sub : Nat) (value : List Byte) (s : State) : Option Outcome :=
  let v := leNat value
  let f := s.takeFree
  if ix = 0x1300 ∧ sub = 2 then some (execRegDataWrite ses (BitVec.ofNat 32 v) s)
  else if ix = 0x1800 then some (if sub = 3 then execLcRequest ses value s else execLcShutdown ses v s)
  else if ix = 0x1810 then some (
    if sub = 5 then execFwUpdateStart ses v s else if sub = 6 then execFwUpdateData ses value s
    else if sub = 7 then execFwUpdateCommit ses v s else execFwConfirm ses v s)
  else if ix = 0x1E00 then some (execEventRedeliver ses value s)
  else if ix = 0x2000 ∧ sub = 1 then some (execPlanQuery ses value f.1 f.2)
  else if ix = 0x2100 ∧ sub = 1 then some (schedControl ses v s)
  else if ix = 0x2200 then some (
    if sub = 1 then execBatchSubmit ses value s else if sub = 3 then execBatchFire ses v s else execBatchCancel ses v s)
  else if 0x2400 ≤ ix ∧ ix < 0x2440 then some (execCfgBodyWrite ses (ix - 0x2400) value s)
  else if ix = 0x3100 ∧ sub = 4 then some (execAuditExportAck ses v s)
  else if ix = 0x3100 ∧ sub = 6 then some (execAuditReadFromWrite ses v s)
  else if ix = 0x3200 then some (
    if sub = 1 then execCalRun ses value f.1 f.2 else if sub = 2 then execCalAbort ses v s
    else execCalUserClear ses v s)
  else if ix = 0x3400 ∧ sub = 9 then some (execKprSwap ses v s)
  else if ix = 0x3400 ∧ sub = 0xA then some (execKprRestart ses v s)
  else if ix = 0x3400 ∧ sub = 0xB then some (execKprRemove ses v s)
  else if 0x3540 ≤ ix ∧ ix < 0x3542 ∧ sub = 1 then some (execGateEnableWrite ses (ix - 0x3540) v s)
  else if 0x3540 ≤ ix ∧ ix < 0x3542 ∧ sub = 4 then some (execGateCommit ses (ix - 0x3540) v s)
  else if ix = 0x5400 ∧ sub = 3 then some (execClearCommit ses v s)
  else if 0x5500 ≤ ix ∧ ix < 0x5510 ∧ sub = 1 then some (execAuxConfigWrite ses (ix - 0x5500) v s)
  else if 0x5500 ≤ ix ∧ ix < 0x5510 ∧ sub = 2 then some (execAuxValueWrite ses (ix - 0x5500) v s)
  else if 0x8000 ≤ ix ∧ sub = 4 then some (execElemModeWrite ses (ix - 0x8000) v s)
  else if 0x8000 ≤ ix ∧ sub = 8 then some (execElemTargetSetWrite ses (ix - 0x8000) v s)
  else if 0x8000 ≤ ix ∧ sub = 9 then some (execElemManualCodeWrite ses (ix - 0x8000) v s)
  else if 0x8000 ≤ ix ∧ sub = 0xF then some (execElemFaultClear ses (ix - 0x8000) v s)
  else if 0x8000 ≤ ix ∧ sub = 0x30 then some (execChanSpanWrite ses (ix - 0x8000) v s)
  else none

/-- A value that passed the gate takes its object's own row, or sets it. -/
def writePassed (ses ix sub : Nat) (value : List Byte) (s : State) : State :=
  match ownRow ses ix sub value s with
  | some o => after s o
  | none =>
    match objRow ix sub with
    | none => s
    | some r => writeSetting ses ix sub r value s

/-- A whole value is written as one write with one status. LC_REQUEST has a gate of its own: every session may ask for
RMA, and LC_NONCE changes whatever the outcome (R460). -/
def writeWhole (ses ix sub : Nat) (value : List Byte) (s : State) : State :=
  if ix = 0x1800 ∧ sub = 3 then after s (execLcRequest ses value s)
  else gated ses ix sub value (writePassed ses ix sub value) s

/-- The largest value that segments may make (R404). -/
def assemblyMax : Nat := 1048576

/-- A segment out of order, one too many, or one that comes too late discards the assembly. -/
def refuseSegment (ses : Nat) (s : State) : State := reply ses stRange (s.setSession ses { s.session ses with assembly := none })

/-- A segment (R404): `so` holds what came before it. -/
def writeSegment (ses key : Nat) (so : List Byte) (offset : Nat) (more : Bool) (value : List Byte) (s : State) : State :=
  let all := so ++ value
  if offset ≠ so.length ∨ assemblyMax < all.length then refuseSegment ses s
  else if more then
    reply ses stOk (s.setSession ses { s.session ses with assembly := some (key, all, s.time.elapsed) })
  else writeWhole ses (key / 256) (key % 256) all (s.setSession ses { s.session ses with assembly := none })

/-- JOP_WRITE (R404, R407, R410). A session whose stored write is not complete takes no further write. -/
def execJopWrite (ses index sub offset : Nat) (more : Bool) (value : List Byte) (s : State) : Outcome :=
  let x := s.session ses
  let key := objKey index (sub % 256)
  let st := s.segmentGate ses index (sub % 256)
  .next (if !s.served ses ∨ x.storing.isSome then s
  else if (more ∨ offset ≠ 0) ∧ st ≠ stOk then reply ses st s
  else match x.assembly with
    | none => writeSegment ses key [] offset more value s
    | some (k, bs, at_) =>
      if k = key then
        (if at_ + twoSeconds < s.time.elapsed then refuseSegment ses s else writeSegment ses key bs offset more value s)
      else if offset = 0 ∧ !more then writeWhole ses index (sub % 256) value s
      else refuseSegment ses s)

/-- STORED_WRITE_COMPLETE (R410): the value is in force and in the journal. -/
def execStoredWriteComplete (ses : Nat) (s : State) : Outcome :=
  .next (
    let x := s.session ses
    match x.storing with
    | none => s
    | some (key, _) =>
      if s.live.any fun w => !w.isReg && decide (w.key = key) then s
      else reply ses stOk (s.setSession ses { x with storing := none }))

/-! ### Subscriptions and PING (R400, R405) -/

/-- The set with the sources from `a` to `b` added, as maximal runs in order. -/
def addRun (subs : List (Nat × Nat)) (r : Nat × Nat) : List (Nat × Nat) :=
  let touches (p : Nat × Nat) : Bool := decide (p.1 ≤ r.2 + 1) && decide (r.1 ≤ p.2 + 1)
  let l := subs.filter touches
  let lo := l.foldl (fun m p => min m p.1) r.1
  let hi := l.foldl (fun m p => max m p.2) r.2
  (subs.filter fun p => !touches p && decide (p.1 < lo)) ++ [(lo, hi)]
    ++ subs.filter fun p => !touches p && decide (hi < p.1)

/-- The set with the sources from `a` to `b` removed. -/
def removeRun (subs : List (Nat × Nat)) (r : Nat × Nat) : List (Nat × Nat) :=
  subs.flatMap fun p =>
    if p.2 < r.1 ∨ r.2 < p.1 then [p]
    else (if p.1 < r.1 then [(p.1, r.1 - 1)] else []) ++ if r.2 < p.2 then [(r.2 + 1, p.2)] else []

/-- The ranges of a payload. -/
def parseRanges (bs : List Byte) : List (Nat × Nat) :=
  (numbers 0 (bs.length / 4)).map fun i => (leAt bs (4 * i) 2, leAt bs (4 * i + 2) 2)

/-- A request that changes a session's set by each of its ranges. -/
def changeSubs (ses : Nat) (payload : List Byte) (f : List (Nat × Nat) → Nat × Nat → List (Nat × Nat)) (s : State) : State :=
  let rs := parseRanges payload
  let x := s.session ses
  let new := rs.foldl f x.subs
  if !s.served ses then s
  else if payload.length % 4 ≠ 0 ∨ 16 < rs.length then reply ses stBadType s
  else if rs.any fun r => decide (r.2 < r.1) then reply ses stRange s
  else if x.link ≠ 3 ∨ 29 ≤ ses then reply ses stNotEligible s
  else if 64 < new.length then reply ses stRange s
  else reply ses stOk (s.setSession ses { x with subs := new })

/-- JOP_SUBSCRIBE (R405). -/
def execJopSubscribe (ses : Nat) (ranges : List Byte) (s : State) : Outcome := .next (changeSubs ses ranges addRun s)

/-- JOP_UNSUBSCRIBE (R405). -/
def execJopUnsubscribe (ses : Nat) (ranges : List Byte) (s : State) : Outcome := .next (changeSubs ses ranges removeRun s)

/-- JOP_PING (R400). -/
def execJopPing (ses : Nat) (s : State) : Outcome :=
  .next (if s.served ses then answer ses stOk (time96Bytes s.now) s else s)

end Sys2Proof.Machine
end

