-- ==== Sys2Proof/Machine/Dispatch.lean ====
section
/-!
DEFINITION. The dispatch: one arm for each command of Sys2Proof.Instr.
-/

namespace Sys2Proof.Machine

/-- The effect of a command on everything but the queue. -/
def exec (i : Instr) (s : State) : Host.Outcome State Fault Refusal :=
  match i with
  | .transitBoundary inp => Sys2Proof.Machine.execTransitBoundary inp s
  | .holdBoundary inp => Sys2Proof.Machine.execHoldBoundary inp s
  | .trimBoundary => Sys2Proof.Machine.execTrimBoundary s
  | .liveSettingApply b => Sys2Proof.Machine.execLiveSettingApply b s
  | .shadowCommitApply b => Sys2Proof.Machine.execShadowCommitApply b s
  | .registerWrite w offset value => Sys2Proof.Machine.execRegisterWrite w offset value s
  | .forgeTimedWake => Sys2Proof.Machine.execForgeTimedWake s
  | .forgeLanesReady => Sys2Proof.Machine.execForgeLanesReady s
  | .forgeCoresResumed => Sys2Proof.Machine.execForgeCoresResumed s
  | .forgeSleepStart => Sys2Proof.Machine.execForgeSleepStart s
  | .forgeSleepComplete => Sys2Proof.Machine.execForgeSleepComplete s
  | .laneRetire anvil lane => Sys2Proof.Machine.execLaneRetire anvil lane s
  | .settleTimeout e => Sys2Proof.Machine.execSettleTimeout e s
  | .elemFault e cause => Sys2Proof.Machine.execElemFault e cause s
  | .reroutePlanComplete planNs => Sys2Proof.Machine.execReroutePlanComplete planNs s
  | .planQuery ses value planNs => Sys2Proof.Machine.execPlanQuery ses value planNs s
  | .batchSubmit ses value => Sys2Proof.Machine.execBatchSubmit ses value s
  | .batchPlanComplete id planNs => Sys2Proof.Machine.execBatchPlanComplete id planNs s
  | .routeImageComplete => Sys2Proof.Machine.execRouteImageComplete s
  | .batchFire ses id => Sys2Proof.Machine.execBatchFire ses id s
  | .batchCancel ses id => Sys2Proof.Machine.execBatchCancel ses id s
  | .batchCommit => Sys2Proof.Machine.execBatchCommit s
  | .batchSettleLimit id => Sys2Proof.Machine.execBatchSettleLimit id s
  | .cfgBodyWrite ses c value => Sys2Proof.Machine.execCfgBodyWrite ses c value s
  | .cfgCompileDone c compileNs => Sys2Proof.Machine.execCfgCompileDone c compileNs s
  | .schedArm ses => Sys2Proof.Machine.execSchedArm ses s
  | .schedCommit ses => Sys2Proof.Machine.execSchedCommit ses s
  | .schedStopAtCycleEnd ses => Sys2Proof.Machine.execSchedStopAtCycleEnd ses s
  | .schedStopNow ses => Sys2Proof.Machine.execSchedStopNow ses s
  | .schedImageCopyStart => Sys2Proof.Machine.execSchedImageCopyStart s
  | .schedStart => Sys2Proof.Machine.execSchedStart s
  | .watchBoundaryCommit => Sys2Proof.Machine.execWatchBoundaryCommit s
  | .schedChangeApply => Sys2Proof.Machine.execSchedChangeApply s
  | .elemModeWrite ses e value => Sys2Proof.Machine.execElemModeWrite ses e value s
  | .elemTargetSetWrite ses e value => Sys2Proof.Machine.execElemTargetSetWrite ses e value s
  | .elemManualCodeWrite ses e value => Sys2Proof.Machine.execElemManualCodeWrite ses e value s
  | .elemFaultClear ses e value => Sys2Proof.Machine.execElemFaultClear ses e value s
  | .faultClearReadback e mv shortNow openNow => Sys2Proof.Machine.execFaultClearReadback e mv shortNow openNow s
  | .fabricClearAssert edge => Sys2Proof.Machine.execFabricClearAssert edge s
  | .fabricClearRelease edge => Sys2Proof.Machine.execFabricClearRelease edge s
  | .auxClearReturn => Sys2Proof.Machine.execAuxClearReturn s
  | .buoySample c k codes => Sys2Proof.Machine.execBuoySample c k codes s
  | .overpowerClear d => Sys2Proof.Machine.execOverpowerClear d s
  | .lightOn d capture => Sys2Proof.Machine.execLightOn d capture s
  | .lightOff d capture => Sys2Proof.Machine.execLightOff d capture s
  | .thresholdChangeCrossing d => Sys2Proof.Machine.execThresholdChangeCrossing d s
  | .trimQualified leg => Sys2Proof.Machine.execTrimQualified leg s
  | .splitUnbalanced e => Sys2Proof.Machine.execSplitUnbalanced e s
  | .trimLossDrift leg => Sys2Proof.Machine.execTrimLossDrift leg s
  | .buoySlow c => Sys2Proof.Machine.execBuoySlow c s
  | .buoyRestored c => Sys2Proof.Machine.execBuoyRestored c s
  | .compensationApply e => Sys2Proof.Machine.execCompensationApply e s
  | .channelFault e cause => Sys2Proof.Machine.execChannelFault e cause s
  | .ladderCellRetire level => Sys2Proof.Machine.execLadderCellRetire level s
  | .ladderSelectionChange => Sys2Proof.Machine.execLadderSelectionChange s
  | .ladderUv => Sys2Proof.Machine.execLadderUv s
  | .ladderRestart deviates => Sys2Proof.Machine.execLadderRestart deviates s
  | .ladderRegulating => Sys2Proof.Machine.execLadderRegulating s
  | .clearCommit ses value => Sys2Proof.Machine.execClearCommit ses value s
  | .clearTableApply => Sys2Proof.Machine.execClearTableApply s
  | .chanSpanWrite ses e value => Sys2Proof.Machine.execChanSpanWrite ses e value s
  | .chanSpanDwellEnd e => Sys2Proof.Machine.execChanSpanDwellEnd e s
  | .auxConfigWrite ses aux value => Sys2Proof.Machine.execAuxConfigWrite ses aux value s
  | .auxDwellStart aux => Sys2Proof.Machine.execAuxDwellStart aux s
  | .auxStageSwitch aux => Sys2Proof.Machine.execAuxStageSwitch aux s
  | .auxRangeEnable aux => Sys2Proof.Machine.execAuxRangeEnable aux s
  | .auxValueWrite ses aux value => Sys2Proof.Machine.execAuxValueWrite ses aux value s
  | .auxFault aux cause => Sys2Proof.Machine.execAuxFault aux cause s
  | .auxCompliance aux => Sys2Proof.Machine.execAuxCompliance aux s
  | .auxComplianceClear aux => Sys2Proof.Machine.execAuxComplianceClear aux s
  | .timePllLock => Sys2Proof.Machine.execTimePllLock s
  | .timeNowNsRead l at_ => Sys2Proof.Machine.execTimeNowNsRead l at_ s
  | .ptpSyncReceive p twoStep seq offset => Sys2Proof.Machine.execPtpSyncReceive p twoStep seq offset s
  | .ptpFollowUpReceive p seq correction => Sys2Proof.Machine.execPtpFollowUpReceive p seq correction s
  | .timeStepApply => Sys2Proof.Machine.execTimeStepApply s
  | .stepDeferTimeout => Sys2Proof.Machine.execStepDeferTimeout s
  | .timeForce w => Sys2Proof.Machine.execTimeForce w s
  | .timeLoad w => Sys2Proof.Machine.execTimeLoad w s
  | .calWrite w => Sys2Proof.Machine.execCalWrite w s
  | .calendarWrite => Sys2Proof.Machine.execCalendarWrite s
  | .ppsInEdge stamp => Sys2Proof.Machine.execPpsInEdge stamp s
  | .ppsLost => Sys2Proof.Machine.execPpsLost s
  | .refclkLost => Sys2Proof.Machine.execRefclkLost s
  | .refclkRestored => Sys2Proof.Machine.execRefclkRestored s
  | .ptpAnnounceReceive p ds utc => Sys2Proof.Machine.execPtpAnnounceReceive p ds utc s
  | .announceReceiptTimeout p => Sys2Proof.Machine.execAnnounceReceiptTimeout p s
  | .ptpSelHoldExpire => Sys2Proof.Machine.execPtpSelHoldExpire s
  | .ptpDelayReqSend p seq egress => Sys2Proof.Machine.execPtpDelayReqSend p seq egress s
  | .ptpDelayRespReceive p seq delay => Sys2Proof.Machine.execPtpDelayRespReceive p seq delay s
  | .ptpPdelayReqReceive p seq egress => Sys2Proof.Machine.execPtpPdelayReqReceive p seq egress s
  | .txqStaleRetire p => Sys2Proof.Machine.execTxqStaleRetire p s
  | .utcOffsetChange => Sys2Proof.Machine.execUtcOffsetChange s
  | .mgtLinkChange p up => Sys2Proof.Machine.execMgtLinkChange p up s
  | .tsInEdge k rising stamp => Sys2Proof.Machine.execTsInEdge k rising stamp s
  | .timeCapNsRead k => Sys2Proof.Machine.execTimeCapNsRead k s
  | .beaconArm w j => Sys2Proof.Machine.execBeaconArm w j s
  | .beaconStop j => Sys2Proof.Machine.execBeaconStop j s
  | .beaconEdge j => Sys2Proof.Machine.execBeaconEdge j s
  | .auditTransfer n => Sys2Proof.Machine.execAuditTransfer n s
  | .auditGapRecord => Sys2Proof.Machine.execAuditGapRecord s
  | .checkpointSign => Sys2Proof.Machine.execCheckpointSign s
  | .auditExportRead ses damage => Sys2Proof.Machine.execAuditExportRead ses damage s
  | .auditExportAck ses seq => Sys2Proof.Machine.execAuditExportAck ses seq s
  | .auditReadFromWrite ses seq => Sys2Proof.Machine.execAuditReadFromWrite ses seq s
  | .sealComplete => Sys2Proof.Machine.execSealComplete s
  | .hmOpen c => Sys2Proof.Machine.execHmOpen c s
  | .hmAbort c => Sys2Proof.Machine.execHmAbort c s
  | .hmDataB w c value => Sys2Proof.Machine.execHmDataB w c value s
  | .hmDataH w c value => Sys2Proof.Machine.execHmDataH w c value s
  | .hmDataW w c value => Sys2Proof.Machine.execHmDataW w c value s
  | .hmResultRead c => Sys2Proof.Machine.execHmResultRead c s
  | .anvilHeartbeatLoss anvil => Sys2Proof.Machine.execAnvilHeartbeatLoss anvil s
  | .signatureMismatch aImpl bImpl => Sys2Proof.Machine.execSignatureMismatch aImpl bImpl s
  | .failover => Sys2Proof.Machine.execFailover s
  | .anvilSelftestDone anvil pass => Sys2Proof.Machine.execAnvilSelftestDone anvil pass s
  | .resyncCopyDone ok => Sys2Proof.Machine.execResyncCopyDone ok s
  | .resyncLive ok => Sys2Proof.Machine.execResyncLive ok s
  | .anvilStandby anvil => Sys2Proof.Machine.execAnvilStandby anvil s
  | .kprRevert => Sys2Proof.Machine.execKprRevert s
  | .kprSwap ses value => Sys2Proof.Machine.execKprSwap ses value s
  | .kprRestart ses value => Sys2Proof.Machine.execKprRestart ses value s
  | .kprRemove ses value => Sys2Proof.Machine.execKprRemove ses value s
  | .rebuildComplete anvil => Sys2Proof.Machine.execRebuildComplete anvil s
  | .keeperLost => Sys2Proof.Machine.execKeeperLost s
  | .noDriveSource => Sys2Proof.Machine.execNoDriveSource s
  | .keeperRestored => Sys2Proof.Machine.execKeeperRestored s
  | .keeperLeaveInit => Sys2Proof.Machine.execKeeperLeaveInit s
  | .calRun ses value planNs => Sys2Proof.Machine.execCalRun ses value planNs s
  | .calAbort ses value => Sys2Proof.Machine.execCalAbort ses value s
  | .calPreconditionFail reason unit => Sys2Proof.Machine.execCalPreconditionFail reason unit s
  | .calMeasureDone res => Sys2Proof.Machine.execCalMeasureDone res s
  | .calStoreDone verified => Sys2Proof.Machine.execCalStoreDone verified s
  | .calSwap => Sys2Proof.Machine.execCalSwap s
  | .calUserClear ses type_ => Sys2Proof.Machine.execCalUserClear ses type_ s
  | .thmSample samples => Sys2Proof.Machine.execThmSample samples s
  | .thmSensorSuspect k => Sys2Proof.Machine.execThmSensorSuspect k s
  | .thmSensorRestored k => Sys2Proof.Machine.execThmSensorRestored k s
  | .thmConditionChange z c => Sys2Proof.Machine.execThmConditionChange z c s
  | .thmTrip k => Sys2Proof.Machine.execThmTrip k s
  | .thmTripPowerOff => Sys2Proof.Machine.execThmTripPowerOff s
  | .thmRestartReady => Sys2Proof.Machine.execThmRestartReady s
  | .thmRestart w => Sys2Proof.Machine.execThmRestart w s
  | .fanRpmUpdate f edges => Sys2Proof.Machine.execFanRpmUpdate f edges s
  | .thmFanStall f => Sys2Proof.Machine.execThmFanStall f s
  | .thmFanRestored f => Sys2Proof.Machine.execThmFanRestored f s
  | .hkcArmWrite n value => Sys2Proof.Machine.execHkcArmWrite n value s
  | .hkcSoftTrig n => Sys2Proof.Machine.execHkcSoftTrig n s
  | .hkcTimerTrigger n => Sys2Proof.Machine.execHkcTimerTrigger n s
  | .hkcFanEdgeTrigger n f rising => Sys2Proof.Machine.execHkcFanEdgeTrigger n f rising s
  | .hkcTriggerEffect n => Sys2Proof.Machine.execHkcTriggerEffect n s
  | .hkcConversionDone n microvolt gapNs => Sys2Proof.Machine.execHkcConversionDone n microvolt gapNs s
  | .hkcInjStart w n value => Sys2Proof.Machine.execHkcInjStart w n value s
  | .hkcDataRead n => Sys2Proof.Machine.execHkcDataRead n s
  | .hkcClrCounts n => Sys2Proof.Machine.execHkcClrCounts n s
  | .bankOwnerWrite w b value => Sys2Proof.Machine.execBankOwnerWrite w b value s
  | .bankHandoverDone b => Sys2Proof.Machine.execBankHandoverDone b s
  | .bankHandoverTimeout b => Sys2Proof.Machine.execBankHandoverTimeout b s
  | .bankRetWrite w b ret => Sys2Proof.Machine.execBankRetWrite w b ret s
  | .bankRetentionEnter b => Sys2Proof.Machine.execBankRetentionEnter b s
  | .bankWakeDone b => Sys2Proof.Machine.execBankWakeDone b s
  | .matrixRead m addr beats err => Sys2Proof.Machine.execMatrixRead m addr beats err s
  | .matrixWrite m addr data strobes err => Sys2Proof.Machine.execMatrixWrite m addr data strobes err s
  | .matrixAtomic m addr op operand => Sys2Proof.Machine.execMatrixAtomic m addr op operand s
  | .privatePortWrite anvil addr value => Sys2Proof.Machine.execPrivatePortWrite anvil addr value s
  | .proofWindowStart => Sys2Proof.Machine.execProofWindowStart s
  | .proofWindowDone found => Sys2Proof.Machine.execProofWindowDone found s
  | .masterReset m bursts => Sys2Proof.Machine.execMasterReset m bursts s
  | .masterResetDrainDone m => Sys2Proof.Machine.execMasterResetDrainDone m s
  | .bankErrCountWrite b => Sys2Proof.Machine.execBankErrCountWrite b s
  | .mtxConflictWrite m g => Sys2Proof.Machine.execMtxConflictWrite m g s
  | .ddrPatrolScrub addr err => Sys2Proof.Machine.execDdrPatrolScrub addr err s
  | .bar2Read offset len err => Sys2Proof.Machine.execBar2Read offset len err s
  | .bar2Write offset data strobes err => Sys2Proof.Machine.execBar2Write offset data strobes err s
  | .mbxReqTail r tail => Sys2Proof.Machine.execMbxReqTail r tail s
  | .mbxDescriptorFetch r desc frame => Sys2Proof.Machine.execMbxDescriptorFetch r desc frame s
  | .mbxCplHead r head => Sys2Proof.Machine.execMbxCplHead r head s
  | .mbxEnWrite w r value => Sys2Proof.Machine.execMbxEnWrite w r value s
  | .mbxDmaError r => Sys2Proof.Machine.execMbxDmaError r s
  | .aexEnWrite w value => Sys2Proof.Machine.execAexEnWrite w value s
  | .aexChunkWrite damage => Sys2Proof.Machine.execAexChunkWrite damage s
  | .mbxAexRd rd => Sys2Proof.Machine.execMbxAexRd rd s
  | .tcpConnect p => Sys2Proof.Machine.execTcpConnect p s
  | .tlsHandshake p peer anchor failed => Sys2Proof.Machine.execTlsHandshake p peer anchor failed s
  | .sessionClose ses reason => Sys2Proof.Machine.execSessionClose ses reason s
  | .v2SessionIdle ses => Sys2Proof.Machine.execV2SessionIdle ses s
  | .v2FrameReceive p peer frame => Sys2Proof.Machine.execV2FrameReceive p peer frame s
  | .v3FrameReceive ses frame => Sys2Proof.Machine.execV3FrameReceive ses frame s
  | .networkEcho p request => Sys2Proof.Machine.execNetworkEcho p request s
  | .spiRequest bytes complete => Sys2Proof.Machine.execSpiRequest bytes complete s
  | .spiResponse complete => Sys2Proof.Machine.execSpiResponse complete s
  | .spiEvent complete => Sys2Proof.Machine.execSpiEvent complete s
  | .spiTime at_ => Sys2Proof.Machine.execSpiTime at_ s
  | .jopRead ses index sub offset want => Sys2Proof.Machine.execJopRead ses index sub offset want s
  | .jopWrite ses index sub offset more value => Sys2Proof.Machine.execJopWrite ses index sub offset more value s
  | .jopSubscribe ses ranges => Sys2Proof.Machine.execJopSubscribe ses ranges s
  | .jopUnsubscribe ses ranges => Sys2Proof.Machine.execJopUnsubscribe ses ranges s
  | .jopPing ses => Sys2Proof.Machine.execJopPing ses s
  | .dedupExpire => Sys2Proof.Machine.execDedupExpire s
  | .snapshotDiscard ses => Sys2Proof.Machine.execSnapshotDiscard ses s
  | .segmentAssemblyTimeout ses => Sys2Proof.Machine.execSegmentAssemblyTimeout ses s
  | .storedWriteComplete ses => Sys2Proof.Machine.execStoredWriteComplete ses s
  | .regDataRead ses => Sys2Proof.Machine.execRegDataRead ses s
  | .regDataWrite ses value => Sys2Proof.Machine.execRegDataWrite ses value s
  | .summaryRead ses => Sys2Proof.Machine.execSummaryRead ses s
  | .eventRedeliver ses value => Sys2Proof.Machine.execEventRedeliver ses value s
  | .poolAdmit ses len => Sys2Proof.Machine.execPoolAdmit ses len s
  | .requestEligible ses control => Sys2Proof.Machine.execRequestEligible ses control s
  | .requestServe => Sys2Proof.Machine.execRequestServe s
  | .requestComplete ses control => Sys2Proof.Machine.execRequestComplete ses control s
  | .qsample => Sys2Proof.Machine.execQsample s
  | .qstatsRead ses of_ => Sys2Proof.Machine.execQstatsRead ses of_ s
  | .gateCommit ses p value => Sys2Proof.Machine.execGateCommit ses p value s
  | .gateEnableWrite ses p value => Sys2Proof.Machine.execGateEnableWrite ses p value s
  | .gateListApply p => Sys2Proof.Machine.execGateListApply p s
  | .gateRealign p => Sys2Proof.Machine.execGateRealign p s
  | .gateEntryAdvance p => Sys2Proof.Machine.execGateEntryAdvance p s
  | .egressFrameStart p cls len => Sys2Proof.Machine.execEgressFrameStart p cls len s
  | .evtQData0Read q => Sys2Proof.Machine.execEvtQData0Read q s
  | .evtQRdWrite q rd => Sys2Proof.Machine.execEvtQRdWrite q rd s
  | .evtSeqLoRead => Sys2Proof.Machine.execEvtSeqLoRead s
  | .vauxGood vbat epochNow => Sys2Proof.Machine.execVauxGood vbat epochNow s
  | .vauxLost vbat => Sys2Proof.Machine.execVauxLost vbat s
  | .vmainGood => Sys2Proof.Machine.execVmainGood s
  | .bootImageVerify => Sys2Proof.Machine.execBootImageVerify s
  | .firmwareRunning selftest => Sys2Proof.Machine.execFirmwareRunning selftest s
  | .startupComplete => Sys2Proof.Machine.execStartupComplete s
  | .vmainLost => Sys2Proof.Machine.execVmainLost s
  | .vmainFlushDone => Sys2Proof.Machine.execVmainFlushDone s
  | .modResetAssert => Sys2Proof.Machine.execModResetAssert s
  | .modResetRelease => Sys2Proof.Machine.execModResetRelease s
  | .perstAssert => Sys2Proof.Machine.execPerstAssert s
  | .perstRelease => Sys2Proof.Machine.execPerstRelease s
  | .lcSwResetModule w key => Sys2Proof.Machine.execLcSwResetModule w key s
  | .lcSwResetWatch w key => Sys2Proof.Machine.execLcSwResetWatch w key s
  | .lcSwResetForge w key => Sys2Proof.Machine.execLcSwResetForge w key s
  | .bootRecoveryLoad len image => Sys2Proof.Machine.execBootRecoveryLoad len image s
  | .fwUpdateStart ses value => Sys2Proof.Machine.execFwUpdateStart ses value s
  | .fwUpdateData ses value => Sys2Proof.Machine.execFwUpdateData ses value s
  | .fwUpdateCommit ses value => Sys2Proof.Machine.execFwUpdateCommit ses value s
  | .fwConfirm ses value => Sys2Proof.Machine.execFwConfirm ses value s
  | .lcRequest ses value => Sys2Proof.Machine.execLcRequest ses value s
  | .lcShutdown ses value => Sys2Proof.Machine.execLcShutdown ses value s
  | .tamper sources at_ => Sys2Proof.Machine.execTamper sources at_ s
  | .pcieLinkStateChange st => Sys2Proof.Machine.execPcieLinkStateChange st s
  | .lcTransitionComplete => Sys2Proof.Machine.execLcTransitionComplete s
  | .shutdownReady => Sys2Proof.Machine.execShutdownReady s
  | .modResetFlushDone => Sys2Proof.Machine.execModResetFlushDone s

end Sys2Proof.Machine
end

