-- ==== Sys2Proof/Safety.lean ====
section
/-!
DEFINITION. The terms that statements use: what a command gives, what the making of events and audit records
leaves of a state, what an answer to a session is, and the invariants that a run keeps.
-/

namespace Sys2Proof.Machine

/-- A command gives a next state of which `p` holds. -/
def Gives (c : Instr) (s : State) (p : State → Prop) : Prop := ∃ t, exec c s = .next t ∧ p t

/-- Run commands one after another; none where one of them does not give a next state. -/
def runAll : List Instr → State → Option State
  | [], s => some s
  | c :: rest, s => match exec c s with
    | .next t => runAll rest t
    | _ => none

/-- A session without what a raised event (R441) and a full audit ring (R272) change in it. -/
def Session.still (x : Session) : Session := { x with sendq := [], lostBefore := false, evtDrops := 0, skipped := 0 }

/-- A session without that and without the response it was last given. -/
def Session.quiet (x : Session) : Session := { x.still with resp := none, requests := 0 }

/-- The state without what events (R437 to R441), audit records (R259 to R272: records, the Forge wake of 1,024
buffered ones, KPR_HISTORY) and the sessions hold. -/
def State.base (s : State) : State :=
  { s with
    events := {}, queues := [], audit := {}, forge := {}, sessions := []
    power := { s.power with pcie := .down, pciePathOn := false }, keeper := { s.keeper with history := [] } }

/-- The state without that and without what planning, closing and re-routing change: batches, the schedule, the
planner, the route image of the next commit, the legs' own state and the output port. -/
def State.apart (s : State) : State :=
  { s.base with
    batches := [], closed := [], lateBatches := 0, sched := {}, planner := {}, image := none, legs := [], out := {} }

/-- The state without what events and records hold and without the output port: what an answered request leaves alone. -/
def State.core (s : State) : State := { s.base with out := {} }

/-- No session changes but by events and records. -/
def SessionsStill (s t : State) : Prop := ∀ n, (t.session n).still = (s.session n).still

/-- `t` is `s` but for events and records. -/
def Same (s t : State) : Prop := t.base = s.base ∧ SessionsStill s t

/-- A request is answered with a status alone, and no session changes otherwise. -/
def Answered (ses st : Nat) (s t : State) : Prop :=
  (t.session ses).resp = some ⟨st, [], 0⟩ ∧ t.out = ⟨0, st, []⟩
    ∧ (t.session ses).requests = ((s.session ses).requests + 1) % 4294967296
    ∧ (∀ n, n ≠ ses → (t.session n).still = (s.session n).still)
    ∧ (t.session ses).quiet = (s.session ses).quiet

/-- A request is answered with a status, and the state is otherwise `u` but for events and records. -/
def Does (ses st : Nat) (s u t : State) : Prop := Answered ses st s t ∧ t.core = u.core

/-- A write of an object passes steps 4 to 8 of R407. -/
def Passes (ses ix sub : Nat) (value : List Byte) (s : State) : Prop :=
  s.served ses = true ∧ s.writeGate ses ix sub value = 0

/-- The state in which a session assembles no segments. -/
def State.afresh (s : State) (ses : Nat) : State := s.setSession ses { s.session ses with assembly := none }

/-- `runs` are the maximal runs, in order, of the sources of which `P` holds (R405). -/
def RunsOf (runs : List (Nat × Nat)) (P : Nat → Prop) : Prop :=
  runs.Pairwise (fun p q => p.2 + 1 < q.1) ∧ (∀ p, p ∈ runs → p.1 ≤ p.2) ∧ ∀ n, subscribed runs n = true ↔ P n

/-- Both addressed memories, the SRAM banks and the LPDDR5X, keep their canonical form. -/
def State.memoryWf (s : State) : Prop := Memory.wf s.mem = true ∧ Memory.wf s.ddr = true

/-- The histories stay within the lengths that the spec gives them: 65,536 event records (R416), 64 closed batches
(R101), 64 commits (R79), 16 FAILOVER records (R308). -/
def State.historiesBounded (s : State) : Prop :=
  s.events.history.length ≤ 65536 ∧ s.closed.length ≤ 64 ∧ s.digests.length ≤ 64 ∧ s.keeper.history.length ≤ 16

end Sys2Proof.Machine
end

