-- ==== Sys2Proof/Certificates/Slice0/Obligations.lean ====
section
/-!
DEFINITION. The statements for the provers. Each definition names the rules of spec/ that it formalises; "t = { s with f := t.f }" says
that a command leaves everything but the named fields as it was.
-/

open Sys2Proof Sys2Proof.Machine

/-- R11 to R13, R15: a timed commit or schedule start that falls due wakes the Forge; how a wake ends, how a sleep starts and ends, and when the PCIe endpoint's
high-speed path is powered. Each command changes what the clause names and nothing else.
The model's choices of log 5, 13, 66, 79 enter it. -/
def Obligations.ForgeWakesAndSleeps : Prop :=
  -- a timed commit or schedule start within 50 µs wakes it, and reverses a sleep in progress
  (∀ s : State, s.power.forgeOn = true → (s.forge.state = .asleep ∨ s.forge.state = .sleeping) → s.timedDue = true →
    Gives .forgeTimedWake s fun t =>
      t = { s with forge := { s.forge with
        state := .waking, lanesReady := false, coresReady := false
        wakeCount := (s.forge.wakeCount + 1) % 4294967296, lastWake := s.now } })
  ∧ (∀ s : State, s.timedDue = false → Gives .forgeTimedWake s fun t => t = s)
  -- the lanes: the Forge is awake where its cores already are; banks that slept with it keep their contents and wake
  ∧ (∀ s : State, s.forge.state = .waking → s.forge.lanesReady = false →
    Gives .forgeLanesReady s fun t =>
      t = { s with forge := t.forge, banks := t.banks, disp := t.disp, sessions := t.sessions, power := t.power }
        ∧ t.power = { s.power with pciePathOn :=
            s.power.pciePathOn || (s.forge.coresReady && decide (s.power.pcie ≠ .down)) }
        ∧ t.forge = { s.forge with
            lanesReady := true, lanesReadyAt := s.time.elapsed
            state := if s.forge.coresReady then .awake else .waking
            idleSince := if s.forge.coresReady then s.time.elapsed else s.forge.idleSince }
        ∧ (s.forge.coresReady = false → t.disp = s.disp ∧ t.sessions = s.sessions)
        ∧ ∀ b, b < 64 → ((s.bank b).retainedByForge = false → t.bank b = s.bank b)
            ∧ ((s.bank b).retainedByForge = true →
                t.bank b = { s.bank b with power := if s.bankRet b then 2 else 0, retainedByForge := false }))
  -- cores alone: still waking
  ∧ (∀ s : State, s.forge.state = .waking → s.forge.lanesReady = false → s.forge.coresReady = false →
    Gives .forgeCoresResumed s fun t => t = { s with forge := { s.forge with coresReady := true } })
  -- both: awake, with the idle time starting anew and the tags reduced by the least start tag (R425)
  ∧ (∀ s : State, s.forge.state = .waking → s.forge.lanesReady = true → s.forge.coresReady = false →
    Gives .forgeCoresResumed s fun t =>
      t = { s with
        forge := { s.forge with coresReady := true, state := .awake, idleSince := s.time.elapsed }
        power := { s.power with pciePathOn := s.power.pciePathOn || decide (s.power.pcie ≠ .down) }
        disp := { s.disp with vtime := s.disp.vtime - s.leastStart.getD 0 }, sessions := t.sessions }
        ∧ ∀ n, t.session n = { s.session n with
            control := { (s.session n).control with
              start := (s.session n).control.start - s.leastStart.getD 0
              finish := (s.session n).control.finish - s.leastStart.getD 0 }
            query := { (s.session n).query with
              start := (s.session n).query.start - s.leastStart.getD 0
              finish := (s.session n).query.finish - s.leastStart.getD 0 } })
  ∧ (∀ s : State, s.forge.state = .awake → s.forgeIdle = true → s.forge.idleSince + s.sleepDelay ≤ s.time.elapsed →
    Gives .forgeSleepStart s fun t => t = { s with forge := { s.forge with state := .sleeping } })
  ∧ (∀ s : State, s.forge.state = .sleeping → s.matrixQuiet = true →
    Gives .forgeSleepComplete s fun t =>
      t = { s with
        forge := { s.forge with state := .asleep, lanesReady := false, coresReady := false }
        power := { s.power with pciePathOn :=
          if s.power.pcie = .l1 ∨ s.power.pcie = .l1sub then false else s.power.pciePathOn }
        banks := t.banks, proof := { s.proof with active := false } })
  ∧ (∀ (st : PcieLink) (s : State), Gives (.pcieLinkStateChange st) s fun t =>
      t = { s with power := { s.power with
        pcie := st
        pciePathOn := s.power.forgeOn && match st with
          | .l0 => true
          | .down => false
          | _ => !decide (s.forge.state = .asleep) } })

/-- R21, R33, R130, R132, R137, R139: writes of an element's mode, target and manual code, with the refusals of each; all
three wait for the next hold boundary.
The model's choices of log 38 enter it. -/
def Obligations.ElementWrites : Prop :=
  (∀ (ses e v : Nat) (s : State), Passes ses (0x8000 + e) 4 (valBytes 1 v) s →
    ((v ≠ 0 ∧ v ≠ 1 ∧ v ≠ 4) → Gives (.elemModeWrite ses e v) s fun t => Does ses stRange s s t)
    ∧ ((v = 0 ∨ v = 1 ∨ v = 4) → s.modeRefused e v = true →
        Gives (.elemModeWrite ses e v) s fun t => Does ses stNotEligible s s t)
    ∧ ((v = 0 ∨ v = 1 ∨ v = 4) → s.modeRefused e v = false →
        Gives (.elemModeWrite ses e v) s fun t =>
          Does ses stOk s { s with elems := t.elems } t
            ∧ t.elem e = { s.elem e with modeAsks :=
                (if (s.elem e).mode = modeOf v ∨ (v = 1 ∧ (s.elem e).mode.runs = true) then none else some (modeOf v),
                  s.time.elapsed) :: (s.elem e).modeAsks }
            ∧ ∀ f, f ≠ e → t.elem f = s.elem f))
  ∧ (∀ (ses e v : Nat) (s : State), Passes ses (0x8000 + e) 8 (valBytes 2 v) s →
    ((s.inTravelWindow e v = false ∨ s.beyondCross e v = true) → Gives (.elemTargetSetWrite ses e v) s fun t => Does ses stRange s s t)
    ∧ (s.inTravelWindow e v = true → s.beyondCross e v = false → (s.active.onLeg e = true ∨ (s.elem e).mode ≠ .hold) →
        Gives (.elemTargetSetWrite ses e v) s fun t => Does ses stNotEligible s s t)
    ∧ (s.inTravelWindow e v = true → s.beyondCross e v = false → s.active.onLeg e = false → (s.elem e).mode = .hold →
        Gives (.elemTargetSetWrite ses e v) s fun t =>
          Does ses stOk s { s with elems := t.elems } t
            ∧ t.elem e = { s.elem e with
                targetSet := v, targetPending := (v, some s.time.elapsed) :: (s.elem e).targetPending }
            ∧ ∀ f, f ≠ e → t.elem f = s.elem f))
  ∧ (∀ (ses e v : Nat) (s : State), Passes ses (0x8000 + e) 9 (valBytes 4 v) s →
    ((clearLimit e < v ∧ ¬ (ses = 31 ∧ s.life.state ≠ .deployed)) →
        Gives (.elemManualCodeWrite ses e v) s fun t => Does ses stRange s s t)
    ∧ (¬ (clearLimit e < v ∧ ¬ (ses = 31 ∧ s.life.state ≠ .deployed)) →
        Gives (.elemManualCodeWrite ses e v) s fun t =>
          Does ses stOk s { s with
            live := s.live ++ [⟨.elementLoop, false, objKey (0x8000 + e) 9, v, s.time.elapsed, 0⟩] } t))

/-- R134, R141 to R143, R204: an element's faults. A present cause latches its bit; outside MANUAL (and there for
CHANNEL) the element enters FAULTED at 0 V with its loop state discarded. A clear waits for the read-back of the next hold
period against 0 V, which decides it.
The model's choices of log 7, 38, 77 enter it. -/
def Obligations.ElementFaults : Prop :=
  (∀ (e : Nat) (c : FaultBit) (s : State), s.power.watchOn = true → s.causePresent e c = true →
    (s.elem e).heeds c = true →
    Gives (.elemFault e c) s fun t =>
      (t.elem e).causes = orBit (s.elem e).causes (faultBitNo c)
        ∧ t.apart = { s with elems := t.elems, notches := t.notches }.apart
        ∧ (∀ f, f ≠ e → t.elem f = s.elem f)
        ∧ (((s.elem e).mode = .faulted ∨ ((s.elem e).mode = .manual ∧ c ≠ .channel)) →
            (t.elem e).mode = (s.elem e).mode ∧ t.notches = s.notches)
        ∧ (¬ ((s.elem e).mode = .faulted ∨ ((s.elem e).mode = .manual ∧ c ≠ .channel)) →
            (t.elem e).mode = .faulted ∧ (t.elem e).nextCode = 0
              ∧ (t.elem e).faultCount = ((s.elem e).faultCount + 1) % 4294967296
              ∧ (t.elem e).iAcc = 0 ∧ (t.elem e).xPrev = 0 ∧ (t.elem e).trajs = [] ∧ (t.elem e).targetPending = []
              ∧ (t.elem e).settled = false ∧ (t.elem e).offset = 0))
  ∧ (∀ (e : Nat) (s : State), s.timedOut e = true →
    Gives (.settleTimeout e) s fun t =>
      (t.elem e).mode = .faulted ∧ (t.elem e).causes = orBit (s.elem e).causes 5 ∧ (t.elem e).nextCode = 0
        ∧ t.apart = { s with elems := t.elems, notches := t.notches }.apart
        ∧ ∀ f, f ≠ e → t.elem f = s.elem f)
  -- the write: a cause still present refuses it; else it waits for the channel's next read-back
  ∧ (∀ (ses e : Nat) (s : State), Passes ses (0x8000 + e) 0x0F [1#8] s →
    (s.stillPresent e = true → Gives (.elemFaultClear ses e 1) s fun t => Does ses stNotEligible s s t)
    ∧ (s.stillPresent e = false →
        Gives (.elemFaultClear ses e 1) s fun t =>
          t = { s with elems := t.elems }
            ∧ t.elem e = { s.elem e with clearAsked := some ses, clearAt := s.time.elapsed }
            ∧ ∀ f, f ≠ e → t.elem f = s.elem f))
  -- the read-back
  ∧ (∀ (ses e mv : Nat) (sh op : Bool) (s : State), (s.elem e).clearAsked = some ses → s.clearDue e = true →
    ((mismatched (s.chan e).spanMv mv 0 = true ∨ sh = true ∨ op = true ∨ s.ladder.state ≠ 2) →
        Gives (.faultClearReadback e mv sh op) s fun t =>
          Does ses stNotEligible s { s with elems := t.elems, chans := t.chans } t
            ∧ (t.chan e).causes = (s.chan e).causes ∧ (t.chan e).readV = mv % 65536 ∧ (t.chan e).readExp = 0
            ∧ t.elem e = { s.elem e with clearAsked := none })
    ∧ (mismatched (s.chan e).spanMv mv 0 = false → sh = false → op = false → s.ladder.state = 2 →
        Gives (.faultClearReadback e mv sh op) s fun t =>
          Does ses stOk s { s with elems := t.elems, chans := t.chans } t
            ∧ (t.chan e).causes = 0 ∧ (t.chan e).readV = mv % 65536 ∧ (t.chan e).readExp = 0
            ∧ t.elem e = { s.elem e with
                clearAsked := none, causes := 0, toTransit := decide ((s.elem e).mode = .faulted) }))

/-- R152 to R154, R159: a lane whose margin was low in 3 periods is retired; where its group has a spare, that takes
its loops. No element changes here: those of a lane without a spare go to hold rate at the next boundary.
The model's choices of log 39 enter it. -/
def Obligations.LaneRetirement : Prop :=
  ∀ (v : Anvil) (n : Nat) (s : State), (s.lane v n).works = true → 3 ≤ (s.lane v n).lowRun →
    Gives (.laneRetire v n) s fun t =>
      Same { s with lanesA := t.lanesA, lanesB := t.lanesB } t
        ∧ (t.lane v n).kind = .retired ∧ (t.lane v n).carries = 0xFF
        ∧ (∀ m, t.lane (otherAnvil v) m = s.lane (otherAnvil v) m)
        ∧ (∀ sp, sp ≠ n → (if n < 128 then s.spares v 64 4 else s.spares v 134 2).head? = some sp →
            (t.lane v sp).kind = .spareActive
              ∧ (t.lane v sp).carries = (if (s.lane v n).kind = .spareActive then (s.lane v n).carries else n)
              ∧ ∀ m, m ≠ n → m ≠ sp → t.lane v m = s.lane v m)
        ∧ ((if n < 128 then s.spares v 64 4 else s.spares v 134 2) = [] → ∀ m, m ≠ n → t.lane v m = s.lane v m)

/-- R144, R206, R207, R213: FABRIC_CLEAR_N. At its edge every channel that is not FAULTED is commanded to its clear code and
running loops freeze; driven outputs that follow the pin go to CLEAR and return at a hold boundary after its release.
The model's choices of log 13, 42, 78, 79 enter it. -/
def Obligations.FabricClear : Prop :=
  (∀ (edge : Instant) (s : State), s.clear.asserted = false → s.power.vaux = true →
    Gives (.fabricClearAssert edge) s fun t =>
      Same { s with
        clear := { s.clear with
          asserted := true, auxFollowing := true, count := (s.clear.count + 1) % 4294967296, last := edge }
        elems := t.elems, aux := t.aux } t
        ∧ (∀ e, t.elem e = if (s.elem e).mode = .faulted then s.elem e
            else { s.elem e with
              nextCode := s.clearCode e, dithered := false, frozen := (s.elem e).mode.runs
              onClear := (s.elem e).onClear || decide ((s.elem e).mode ≠ .parked) })
        ∧ ∀ a, a < 16 →
            ((s.auxOut a).driven = false → t.auxOut a = s.auxOut a)
            ∧ ((s.auxOut a).driven = true → s.auxFollows a = true →
                t.auxOut a = { s.auxOut a with
                  state := .clear, atClear := (t.auxOut a).atClear
                  now := if s.obj (0x5500 + a) 3 = 0 then s.auxClear a else (s.auxOut a).now })
            ∧ ((s.auxOut a).driven = true → s.auxFollows a = false → (t.auxOut a).state = .active))
  -- without VAUX only the pin's level is known
  ∧ (∀ (edge : Instant) (s : State), s.clear.asserted = false → s.power.vaux = false →
    Gives (.fabricClearAssert edge) s fun t =>
      t = { s with clear := { s.clear with asserted := true, auxFollowing := true } })
  ∧ (∀ (edge : Instant) (s : State), s.clear.asserted = true → s.power.vaux = true →
    Gives (.fabricClearRelease edge) s fun t =>
      Same { s with clear := { s.clear with asserted := false, releasedAt := s.time.elapsed } } t)
  -- at the first hold boundary after the release every driven output is ACTIVE again
  ∧ (∀ s : State, s.clear.asserted = false → s.clear.auxFollowing = true → s.atHold = true →
    s.clear.releasedAt < s.time.elapsed →
    Gives .auxClearReturn s fun t =>
      t = { s with clear := { s.clear with auxFollowing := false }, aux := t.aux }
        ∧ ∀ a, a < 16 →
            ((s.auxOut a).driven = false → t.auxOut a = s.auxOut a)
            ∧ ((s.auxOut a).driven = true →
                t.auxOut a = { s.auxOut a with
                  state := .active, atClear := (t.auxOut a).atClear, now := (t.auxOut a).now }
                  ∧ (s.obj (0x5500 + a) 3 ≠ 0 → (t.auxOut a).now = (s.auxOut a).now)
                  ∧ (s.obj (0x5500 + a) 3 = 0 → (s.auxOut a).atClear = false →
                      (t.auxOut a).now = if (s.auxOut a).changing = true then (s.auxOut a).before else (s.auxOut a).value)))

/-- R205, R206, R208: CLEAR_COMMIT refuses a shadow table with a bad entry and names the first one; a good one waits for a
hold boundary, at which every channel that drives its clear code steps to its new one.
The model's choices of log 5, 42 enter it. -/
def Obligations.ClearTableCommit : Prop :=
  (∀ (ses : Nat) (s : State), Passes ses 0x5400 3 (valBytes 1 1) s →
    (∀ n, s.clearReject = some n → Gives (.clearCommit ses 1) s fun t =>
      Does ses stRange s { s with clear := { s.clear with reject := n } } t)
    ∧ (s.clearReject = none → Gives (.clearCommit ses 1) s fun t =>
      Does ses stOk s { s with clear := { s.clear with
        waiting := some (s.clear.shadow, s.clear.shadowAux), waitingAt := s.time.elapsed, reject := 0xFFFFFFFF } } t))
  ∧ (∀ (table auxTable : SMap Nat) (s : State), s.power.watchOn = true → s.atHold = true →
    s.clear.waitingAt < s.time.elapsed → s.clear.waiting = some (table, auxTable) →
    Gives .clearTableApply s fun t =>
      Same { s with
        clear := { s.clear with table := table, aux := auxTable, waiting := none }, elems := t.elems, aux := t.aux } t
        ∧ (∀ e, t.elem e =
            if s.clear.loaded = true ∧ (s.elem e).mode ≠ .faulted
                ∧ (s.clearing = true ∨ (s.elem e).frozen = true ∨ (s.elem e).mode = .parked) then
              { s.elem e with code := t.clearCode e, nextCode := t.clearCode e }
            else if s.clear.loaded = true ∧ (s.elem e).mode ≠ .faulted ∧ (s.elem e).onClear = true then
              { s.elem e with code := t.clearCode e }
            else s.elem e)
        ∧ ∀ a, a < 16 →
            ((s.auxOut a).driven = false → t.auxOut a = s.auxOut a)
            ∧ ((s.auxOut a).driven = true → (t.auxOut a).state =
                if s.clear.asserted = true ∧ t.auxFollows a = true then .clear else .active))
  ∧ (∀ s : State, s.clear.waiting = none → Gives .clearTableApply s fun t => t = s)

/-- R192 to R195, R202, R209 to R211: a channel's fault, the ladder's cells, its loss and return, and a span change.
A fault sends the channel to level 0 with no error history and its element to FAULTED; a lost ladder does so to every
channel pair.
The model's choices of log 3, 7, 41, 65, 77, 78 enter it. -/
def Obligations.ChannelsAndLadder : Prop :=
  (∀ (e : Nat) (c : ChanCause) (s : State), s.power.watchOn = true → (s.chan e).causes.testBit (chanBit c) = false →
    s.chanCausePresent e c = true →
    Gives (.channelFault e c) s fun t =>
      t.apart = { s with elems := t.elems, notches := t.notches, chans := t.chans }.apart
        ∧ t.chan e = { s.chan e with
            causes := orBit (s.chan e).causes (chanBit c), e1 := 0, e2 := 0, e3 := 0, levels := [] }
        ∧ (∀ f, f ≠ e → t.chan f = s.chan f ∧ t.elem f = s.elem f)
        ∧ (t.elem e).mode = .faulted ∧ (t.elem e).causes = orBit (s.elem e).causes 4)
  -- a cell that deviates: the closest spare takes its level, or the ladder fails
  ∧ (∀ (level : Nat) (s : State), s.ladder.state = 2 → level < 16 →
    (∀ c, s.ladder.bestSpare level (s.ladder.wanted.getD level 0)
        ((Ladder.free { s.ladder with retired := insertNum (s.ladder.wanted.getD level 0) s.ladder.retired })
          s.ladder.wanted) = some c →
      Gives (.ladderCellRetire level) s fun t =>
        Same { s with ladder := { s.ladder with
          retired := insertNum (s.ladder.wanted.getD level 0) s.ladder.retired, replacedAt := some s.time.elapsed
          pendingSel := some (s.ladder.wanted.set level c), spares := s.ladder.spares - 1 } } t)
    ∧ (s.ladder.bestSpare level (s.ladder.wanted.getD level 0)
        ((Ladder.free { s.ladder with retired := insertNum (s.ladder.wanted.getD level 0) s.ladder.retired })
          s.ladder.wanted) = none →
      Gives (.ladderCellRetire level) s fun t =>
        t.ladder.state = 4
          ∧ t.apart = { s with ladder := t.ladder, elems := t.elems, notches := t.notches, chans := t.chans }.apart
          ∧ ∀ e, e < 11776 → (t.chan e).causes = orBit (s.chan e).causes 3 ∧ (t.elem e).mode = .faulted
              ∧ (t.elem e).causes = orBit (s.elem e).causes 4))
  -- a calibration's selection comes into force at a hold boundary, a replacement's at a transit boundary; a clear leaves
  -- the retired cells retired
  ∧ (∀ (sel : List Nat) (errs : List Int) (s : State), s.ladder.calSel = some (sel, some errs) →
    s.atTransit = true → s.atHold = true →
    Gives .ladderSelectionChange s fun t =>
      t = { s with ladder := { s.ladder with
        selection := sel, levels := s.calLevels, errs := errs, retired := [], spares := 8, pendingSel := none
        calSel := none, deglitchAt := some s.time.elapsed } })
  ∧ (∀ (sel : List Nat) (s : State), s.ladder.calSel = some (sel, none) → s.atTransit = true → s.atHold = true →
    Gives .ladderSelectionChange s fun t =>
      t = { s with ladder := { (loadSelection s).1.ladder with
        pendingSel := none, calSel := none, deglitchAt := some s.time.elapsed } }
        ∧ t.ladder.retired = s.ladder.retired ∧ t.ladder.errs = s.ladder.errs)
  ∧ (∀ (sel : List Nat) (s : State), s.ladder.pendingSel = some sel → s.atTransit = true →
    (s.ladder.calSel = none ∨ s.atHold = false) →
    Gives .ladderSelectionChange s fun t =>
      t = { s with ladder := { s.ladder with
        selection := sel, levels := t.ladder.levels, pendingSel := none, deglitchAt := some s.time.elapsed } }
        ∧ ∀ j, j < 16 → t.ladder.levels.getD j 0 =
            if sel.getD j 0 = s.ladder.selection.getD j 0 then s.ladder.levels.getD j 0
            else s.cellMv j (sel.getD j 0))
  ∧ (∀ s : State, (s.ladder.state = 1 ∨ s.ladder.state = 2) →
    Gives .ladderUv s fun t =>
      t.ladder.state = 3
        ∧ t.apart = { s with
            power := { s.power with vhv := false }, ladder := t.ladder, elems := t.elems, notches := t.notches
            chans := t.chans }.apart
        ∧ ∀ e, e < 11776 → (t.chan e).causes = orBit (s.chan e).causes 3 ∧ (t.elem e).mode = .faulted
            ∧ (t.elem e).causes = orBit (s.elem e).causes 4)
  -- the ladder returns: a pair whose only cause was LADDER is free of faults and its element moves to its route
  ∧ (∀ (dev : List Nat) (s : State), (s.ladder.state = 3 ∨ s.ladder.checking = true) → Gives (.ladderRestart dev) s fun t =>
      (t.ladder.state = 2 ∨ t.ladder.state = 4) ∧ t.power.vhv = true)
  -- a ladder that fell before it first regulated loads its selection as it returns
  ∧ (∀ s : State, s.ladder.state ≠ 4 → (s.ladder.state = 3 ∨ s.ladder.checking = true) →
    (s.ladder.loaded = true ∨ (loadSelection s).2 = none) →
    Gives (.ladderRestart []) s fun t =>
      Same { s with
        power := { s.power with vhv := true }, elems := t.elems, chans := t.chans
        ladder := { (if s.ladder.loaded = true then s else (loadSelection s).1).ladder with state := 2, checking := false }
        aux := t.aux, clear := { s.clear with loaded := true } } t
        ∧ ∀ e, e < 11776 →
          ((s.chan e).causes.testBit 3 = false → t.chan e = s.chan e ∧ t.elem e = s.elem e)
          ∧ ((s.chan e).causes.testBit 3 = true →
              t.chan e = { s.chan e with causes := clrBit (s.chan e).causes 3 }
                ∧ (clrBit (s.chan e).causes 3 = 0 → (s.elem e).mode = .faulted → clrBit (s.elem e).causes 4 = 0 →
                    (t.elem e).causes = 0 ∧ (s.clear.loaded = true → (t.elem e).toTransit = true)
                      ∧ (s.clear.loaded = false → (t.elem e).mode = .parked))))
  ∧ (∀ s : State, s.ladder.state = 1 → s.ladder.checking = false → (loadSelection s).2 = none → s.power.vhv = true →
    Gives .ladderRegulating s fun t =>
      t = { s with ladder := t.ladder, clear := { s.clear with loaded := true }, aux := t.aux }
        ∧ t.ladder.state = 2 ∧ t.ladder.selection.length = 16 ∧ t.ladder.levels.length = 16)
  ∧ (∀ s : State, s.ladder.state = 1 → s.ladder.checking = false → (loadSelection s).2 = none → s.power.vhv = false →
    Gives .ladderRegulating s fun t => t.ladder.state = 3)
  ∧ (∀ (j : Nat) (s : State), s.ladder.state = 1 → s.ladder.checking = false → (loadSelection s).2 = some j →
    Gives .ladderRegulating s fun t => t.ladder.state = 4)
  -- span
  ∧ (∀ (ses e v : Nat) (s : State), Passes ses (0x8000 + e) 0x30 (valBytes 1 v) s →
    Gives (.chanSpanWrite ses e v) s fun t =>
      Does ses stOk s { s with objs := t.objs, chans := t.chans } t ∧ t.obj (0x8000 + e) 0x30 = v
        ∧ t.chan e = { s.chan e with spanNext := some v })
  ∧ (∀ (e at_ v : Nat) (s : State), (s.chan e).dwellAt = some at_ → (s.chan e).spanNext = some v →
    at_ + 10000 * 65536 ≤ s.time.elapsed →
    ((s.elem e).mode.runs = false → Gives (.chanSpanDwellEnd e) s fun t =>
      t = { s with chans := t.chans, elems := t.elems }
        ∧ t.chan e = { s.chan e with span := v, spanNext := none, dwellAt := none }
        ∧ t.elem e = (if (s.elem e).mode = .parked ∨ s.clearing = true then
            { s.elem e with code := t.clearCode e, nextCode := t.clearCode e } else s.elem e))
    -- a span never changes under a running loop
    ∧ ((s.elem e).mode.runs = true → Gives (.chanSpanDwellEnd e) s fun t => t = s))

/-- R214 to R216: an AUX output's range change in its three steps, its value, and its faults.
The model's choices of log 13, 42, 78 enter it. -/
def Obligations.AuxOutputs : Prop :=
  (∀ (ses a v : Nat) (s : State), Passes ses (0x5500 + a) 1 (valBytes 1 v) s → v ≤ 3 →
    Gives (.auxConfigWrite ses a v) s fun t =>
      Does ses stOk s { s with objs := t.objs, aux := t.aux } t ∧ t.obj (0x5500 + a) 1 = v
        ∧ t.auxOut a = { s.auxOut a with
            value := 0, valueNext := [], wanted := v, changing := true, changeAt := s.time.elapsed
            before := s.auxGoal a, atClear := false })
  ∧ (∀ (a : Nat) (s : State), (s.auxOut a).changing = true → (s.auxOut a).changeAt < s.time.elapsed → s.atHold = true → s.power.watchOn = true →
    Gives (.auxDwellStart a) s fun t =>
      t = { s with aux := t.aux }
        ∧ t.auxOut a = { s.auxOut a with
            state := .dwell, changing := false, dwellAt := some s.time.elapsed, switched := false, now := 0
            compliance := false, currentLimit := false, readPending := false, mismatch := false, e1 := 0, e2 := 0, e3 := 0 })
  ∧ (∀ (a at_ : Nat) (s : State), (s.auxOut a).dwellAt = some at_ → (s.auxOut a).state = .dwell →
    (s.auxOut a).changing = false → (s.auxOut a).switched = false → at_ + 1000 * 65536 ≤ s.time.elapsed →
    Gives (.auxStageSwitch a) s fun t =>
      t = { s with aux := t.aux }
        ∧ t.auxOut a = { s.auxOut a with config := (s.auxOut a).wanted, switched := true })
  ∧ (∀ (a at_ : Nat) (s : State), (s.auxOut a).dwellAt = some at_ → (s.auxOut a).state = .dwell →
    (s.auxOut a).changing = false → (s.auxOut a).switched = true → at_ + 10000 * 65536 ≤ s.time.elapsed →
    Gives (.auxRangeEnable a) s fun t =>
      t = { s with aux := t.aux }
        ∧ ((s.obj (0x5500 + a) 3 ≠ 0 ∨ (s.auxOut a).config = 0) → (t.auxOut a).now = 0)
        ∧ (s.obj (0x5500 + a) 3 = 0 → (s.auxOut a).config ≠ 0 → (t.auxOut a).now = t.auxGoal a)
        ∧ t.auxOut a = { s.auxOut a with
            dwellAt := none, now := (t.auxOut a).now
            value := ((s.auxOut a).valueNext.map fun p => p.1).headD (s.auxOut a).value, valueNext := []
            atClear := (s.auxOut a).atClear && (s.auxOut a).valueNext.isEmpty
            state := if (s.auxOut a).config = 0 then .off
              else if s.clear.asserted = true ∧ s.auxFollows a = true then .clear else .active })
  ∧ (∀ (ses a v : Nat) (s : State), Passes ses (0x5500 + a) 2 (valBytes 4 v) s →
    Gives (.auxValueWrite ses a v) s fun t =>
      Does ses stOk s { s with aux := t.aux } t ∧ t.auxOut a = { s.auxOut a with
        valueNext := (v, s.time.elapsed) :: (s.auxOut a).valueNext })
  -- a supply failure, or in a voltage range the current limit, counts in the dwell too
  ∧ (∀ (a : Nat) (c : AuxCause) (s : State),
    ((s.auxOut a).driven = true ∨ ((s.auxOut a).state = .dwell ∧ c ≠ .readback)) → (s.auxOut a).causePresent c = true →
    Gives (.auxFault a c) s fun t =>
      Same { s with aux := t.aux } t
        ∧ t.auxOut a = { s.auxOut a with
            state := .fault, now := 0, currentLimit := decide (c = .currentLimit), changing := false, dwellAt := none
            e1 := 0, e2 := 0, e3 := 0 })
  ∧ (∀ (a : Nat) (s : State), (s.auxOut a).driven = true → (s.auxOut a).config = 3 → (s.auxOut a).compliance = false →
    Gives (.auxCompliance a) s fun t =>
      Same { s with aux := t.aux } t
        ∧ t.auxOut a = { s.auxOut a with compliance := true, complianceAt := s.time.elapsed })
  ∧ (∀ (a : Nat) (s : State), (s.auxOut a).compliance = true →
    (s.auxOut a).complianceAt + 1000000 * 65536 ≤ s.time.elapsed →
    Gives (.auxComplianceClear a) s fun t =>
      t = { s with aux := t.aux } ∧ t.auxOut a = { s.auxOut a with compliance := false })
  -- nothing else of the outputs changes
  ∧ ∀ (a b : Nat) (s : State), b ≠ a →
    Gives (.auxDwellStart a) s (fun t => t.auxOut b = s.auxOut b)
      ∧ Gives (.auxStageSwitch a) s (fun t => t.auxOut b = s.auxOut b)
      ∧ Gives (.auxRangeEnable a) s (fun t => t.auxOut b = s.auxOut b)
      ∧ (∀ c, Gives (.auxFault a c) s fun t => t.auxOut b = s.auxOut b)
      ∧ Gives (.auxCompliance a) s (fun t => t.auxOut b = s.auxOut b)
      ∧ Gives (.auxComplianceClear a) s fun t => t.auxOut b = s.auxOut b

/-- R48, R49, R96, R162 to R164: the port detectors. A converter's sample enters its 32 detectors' lists, and a full
scale code is OVERPOWER; a comparator's crossing is recorded with its end-face time, counted on its port, and taken as
the light time of a moving leg at that port.
The model's choices of log 7, 13, 43, 74 enter it. -/
def Obligations.LightDetection : Prop :=
  (∀ (c i : Nat) (codes : List Nat) (s : State), s.power.watchOn = true → c < 128 → i < 10 → codes.length = 32 →
    Gives (.buoySample c i codes) s fun t =>
      Same { s with dets := t.dets, legs := t.legs } t
        ∧ (∀ k, k < 32 →
            (t.det (32 * c + k)).samples =
                (if i = 0 then [] else (s.det (32 * c + k)).samples) ++ [codes.getD k 0 % 4096]
              ∧ (t.det (32 * c + k)).overpower =
                  ((s.det (32 * c + k)).overpower || decide (codes.getD k 0 % 4096 = 4095))
              ∧ (t.det (32 * c + k)).lit = (s.det (32 * c + k)).lit)
        ∧ ∀ d, (d < 32 * c ∨ 32 * c + 32 ≤ d) → t.det d = s.det d)
  ∧ (∀ (d at_ : Nat) (s : State), s.power.watchOn = true → (s.det d).overpower = true → (s.det d).below = some at_ →
    at_ + 1000000 * 65536 ≤ s.time.elapsed →
    Gives (.overpowerClear d) s fun t =>
      t = { s with dets := t.dets, legs := t.legs } ∧ t.det d = { s.det d with overpower := false }
        ∧ ∀ b, b ≠ d → t.det b = s.det b)
  ∧ (∀ (d : Nat) (cap : Instant) (s : State), s.power.vaux = true → d < 4096 → (s.det d).lit = false →
    Gives (.lightOn d cap) s fun t =>
      t.apart = { s with dets := t.dets, ports := t.ports }.apart ∧ SessionsStill s t
        ∧ t.det d = { s.det d with lit := true, latch := (s.capture d cap).2.2 }
        ∧ (t.port (d / 2)).lightEvents = ((s.port (d / 2)).lightEvents + 1) % 4294967296
        ∧ (d % 2 = 1 → 2048 ≤ d →
            t.batches = s.batches.map (lightTime (d / 2 - 1024) true (endFace d (s.capture d cap).1)))
        ∧ ∀ b, b ≠ d → t.det b = s.det b)
  ∧ (∀ (d : Nat) (cap : Instant) (s : State), s.power.vaux = true → d < 4096 → (s.det d).lit = true →
    Gives (.lightOff d cap) s fun t =>
      t.apart = { s with dets := t.dets, ports := t.ports, elems := t.elems }.apart ∧ SessionsStill s t
        ∧ t.det d = { s.det d with lit := false, latch := (s.capture d cap).2.2 }
        ∧ (t.port (d / 2)).lightEvents = ((s.port (d / 2)).lightEvents + 1) % 4294967296
        ∧ (d % 2 = 1 → 2048 ≤ d →
            t.batches = s.batches.map (lightTime (d / 2 - 1024) false (endFace d (s.capture d cap).1)))
        ∧ ∀ b, b ≠ d → t.det b = s.det b)
  -- the event capture stores the crossing's own time while fewer than four entries wait
  ∧ (∀ (d : Nat) (cap : Instant) (s : State), (s.det d).latch = [] → (s.capture d cap).1 = cap)
  -- the boundary at which a changed threshold came into force is when its crossing is recorded
  ∧ (∀ (d : Nat) (s : State), s.power.vaux = true → d < 4096 → s.atTransit = true →
    (s.det d).threshAt = some s.time.elapsed →
    Gives (.thresholdChangeCrossing d) s fun t =>
      t.apart = { s with dets := t.dets, ports := t.ports, elems := t.elems }.apart
        ∧ t.det d = { s.det d with lit := !(s.det d).lit, threshAt := none }
        ∧ (t.port (d / 2)).lightEvents = ((s.port (d / 2)).lightEvents + 1) % 4294967296
        ∧ t.batches = s.batches)

/-- R173, R174, R176, R179, R180: the commands of path trim.
The model's choices of log 13, 43 enter it. -/
def Obligations.PathTrimCommands : Prop :=
  (∀ (id : Nat) (s : State), (s.leg id).trim = .qualifying → (s.leg id).qualAt + 2000 * 65536 ≤ s.time.elapsed →
    Gives (.trimQualified id) s fun t =>
      t = { s with legs := t.legs } ∧ t.leg id = { s.leg id with qualified := true }
        ∧ ∀ i, i ≠ id → t.leg i = s.leg i)
  ∧ (∀ (e : Nat) (s : State), (s.elem e).etaRaised = false → (16 ≤ (s.elem e).etaRun ∨ 16 ≤ (s.elem e).rangeRun) →
    Gives (.splitUnbalanced e) s fun t =>
      Same { s with elems := t.elems } t ∧ t.elem e = { s.elem e with etaRaised := true }
        ∧ ∀ f, f ≠ e → t.elem f = s.elem f)
  ∧ (∀ (id : Nat) (s : State), 16 ≤ (s.leg id).lossRun → (s.leg id).lossRaised = false →
    Gives (.trimLossDrift id) s fun t =>
      Same { s with legs := t.legs, ports := t.ports } t ∧ t.leg id = { s.leg id with lossRaised := true }
        ∧ t.port (1024 + (s.active.slot id).south) =
            { s.port (1024 + (s.active.slot id).south) with lossDrift := true }
        ∧ ∀ i, i ≠ id → t.leg i = s.leg i)
  -- two late trim periods in a row make a converter SLOW, and trim that rests on it is suspended
  ∧ (∀ (c : Nat) (s : State), s.trimDue = true → (s.buoy c).slow = false → (s.buoy c).lateNow = true →
    (s.buoy c).latePrev = true →
    Gives (.buoySlow c) s fun t =>
      Same { s with buoys := t.buoys, legs := t.legs } t ∧ t.buoy c = { s.buoy c with slow := true }
        ∧ (∀ b, b ≠ c → t.buoy b = s.buoy b)
        ∧ ∀ id x, (id, x) ∈ s.active.legs → (s.leg id).trim = .trimming →
            (convOf (northIn (s.active.slot id).north) = c ∨ convOf (southOut (s.active.slot id).south) = c) →
            (t.leg id).trim = .suspended ∧ (t.leg id).cause.testBit 1 = true)
  ∧ (∀ (c : Nat) (s : State), s.trimDue = true → (s.buoy c).slow = true → (s.buoy c).lateNow = false →
    Gives (.buoyRestored c) s fun t =>
      Same { s with buoys := t.buoys } t ∧ t.buoy c = { s.buoy c with slow := false }
        ∧ ∀ b, b ≠ c → t.buoy b = s.buoy b)

/-- R330, R331, R334, R335, R339: thermal sampling once a millisecond, suspect sensors, conditions and compensation. The engine's stage
is the highest of its zones' stages while no trip is latched.
The model's choices of log 7, 51 enter it. -/
def Obligations.ThermalStages : Prop :=
  -- one sample in each millisecond
  (∀ (samples : List (Nat × Int)) (s : State), s.sampleDue = false → Gives (.thmSample samples) s fun t => t = s)
  ∧ (∀ (samples : List (Nat × Int)) (s : State), s.sampleDue = true → Gives (.thmSample samples) s fun t =>
      t.apart = { s with
          thermal := t.thermal, fans := t.fans, elems := t.elems
          time := { s.time with forced := t.time.forced, reqAt := t.time.reqAt } }.apart
        ∧ t.thermal.sampleNo = s.sampleMs
        ∧ (s.thermal.trip = true → t.thermal.stage = s.thermal.stage)
        ∧ (s.thermal.trip = false →
            (∀ y, y < 3 → (t.zoneStage y).1 ≤ t.thermal.stage)
              ∧ ∃ y, y < 3 ∧ (t.zoneStage y).1 = t.thermal.stage)
        ∧ ∀ i, i < 90 →
            (t.sensor i).sample = ((samples.reverse.find? fun p => p.1 == i).map fun p => p.2).getD (s.sensor i).sample
              ∧ (t.sensor i).suspect = (s.sensor i).suspect
              ∧ ((s.sensor i).suspect = false → (t.sensor i).v = (t.sensor i).sample)
              ∧ (t.sensor i).values = ((t.sensor i).v :: (s.sensor i).values).take 16
              ∧ (t.sensor i).f = roundDiv (16 * (t.sensor i).values.sum) (t.sensor i).values.length)
  ∧ (∀ (i : Nat) (s : State), s.power.vaux = true → i < 90 → (s.sensor i).suspect = false → 1000 ≤ (s.sensor i).offRun →
    Gives (.thmSensorSuspect i) s fun t =>
      (t.sensor i).suspect = true ∧ (∀ j, j ≠ i → t.sensor j = s.sensor j)
        ∧ t.apart = { s with
            thermal := t.thermal, fans := t.fans, time := { s.time with forced := t.time.forced, reqAt := t.time.reqAt } }.apart)
  ∧ (∀ (i : Nat) (s : State), s.power.vaux = true → i < 90 → (s.sensor i).suspect = true → 10000 ≤ (s.sensor i).onRun →
    Gives (.thmSensorRestored i) s fun t =>
      (t.sensor i).suspect = false ∧ (∀ j, j ≠ i → t.sensor j = s.sensor j)
        ∧ t.apart = { s with
            thermal := t.thermal, fans := t.fans, time := { s.time with forced := t.time.forced, reqAt := t.time.reqAt } }.apart)
  -- the conditions that change at one sample change together, so that the stage changes once
  ∧ (∀ (z : Nat) (c : ThmCond) (s : State), s.condDue z c = false → Gives (.thmConditionChange z c) s fun t => t = s)
  ∧ (∀ (z : Nat) (c : ThmCond) (s : State), s.power.vaux = true → z < 3 → s.condDue z c = true →
    Gives (.thmConditionChange z c) s fun t =>
      (∀ y, y < 3 → t.zone y = { s.zone y with
          warn := (s.zone y).warn.settle, hot := (s.zone y).hot.settle, crit := (s.zone y).crit.settle
          rate1 := (s.zone y).rate1.settle, rate10 := (s.zone y).rate10.settle, blind := s.zoneBlind y })
        ∧ (s.thermal.trip = true → t.thermal.stage = s.thermal.stage)
        ∧ (s.thermal.trip = false →
            (∀ y, y < 3 → (t.zoneStage y).1 ≤ t.thermal.stage)
              ∧ ∃ y, y < 3 ∧ (t.zoneStage y).1 = t.thermal.stage)
        ∧ t.apart = { s with
            thermal := t.thermal, fans := t.fans, time := { s.time with forced := t.time.forced, reqAt := t.time.reqAt } }.apart)
  -- a new compensation temperature at a hold boundary; equal ones leave the element's terms as they were
  ∧ (∀ (e : Nat) (q : Int) (s : State), s.power.watchOn = true → (s.elem e).tqNext = some q →
    (s.holdDue = true ∨ s.atHold = true) →
    Gives (.compensationApply e) s fun t =>
      t = { s with elems := t.elems } ∧ (t.elem e).tq = some q ∧ (t.elem e).tqNext = none
        ∧ ((s.elem e).tq ≠ some q → (s.elem e).mode.runs = true → (t.elem e).rehand ≠ none)
        ∧ ∀ f, f ≠ e → t.elem f = s.elem f)

/-- R337, R338, R341: the hardware trip and the fans. At the trip every channel that is not FAULTED goes to its clear
code and the stage is STOP-3; 100 µs later Watch and Forge are off with every element at rest; the return clears the
trip with the stage at STOP-1.
The model's choices of log 7, 13, 51, 52, 59 enter it. -/
def Obligations.ThermalTripAndFans : Prop :=
  (∀ (i : Nat) (s : State), s.power.vaux = true → s.thermal.trip = false → (s.sensor i).suspect = false →
    ((2 ≤ s.thermal.tripRun ∧ s.atTrip i = true) ∨ (2 ≤ s.thermal.predictRun ∧ s.nearTrip i = true)) →
    Gives (.thmTrip i) s fun t =>
      t.thermal.trip = true ∧ t.thermal.stage = 4 ∧ t.thermal.tripSensor = i
        ∧ t.thermal.tripTemp = (s.sensor i).v ∧ t.thermal.tripTime = s.now
        ∧ (∀ e, t.elem e = if (s.elem e).mode = .faulted then s.elem e
            else { s.elem e with
              nextCode := s.clearCode e, dithered := false, frozen := (s.elem e).mode.runs
              onClear := (s.elem e).onClear || decide ((s.elem e).mode ≠ .parked) })
        ∧ t.apart = { s with
            thermal := t.thermal, fans := t.fans, elems := t.elems
            time := { s.time with forced := t.time.forced, reqAt := t.time.reqAt } }.apart)
  ∧ (∀ (at_ : Nat) (s : State), s.thermal.trip = true → s.thermal.tripAt = some at_ → s.power.watchOn = true →
    at_ + 100000 * 65536 ≤ s.time.elapsed →
    Gives .thmTripPowerOff s fun t =>
      t.power.watchOn = false ∧ t.power.forgeOn = false ∧ t.forge.state = .asleep ∧ t.loopsStarted = false
        ∧ t.audit.buffer = [] ∧ t.aux = [] ∧ t.clear.loaded = false ∧ t.keeper.state = .init
        ∧ (∀ e, (t.elem e).mode = .parked ∧ (t.elem e).code = 0 ∧ (t.elem e).nextCode = 0)
        ∧ (∀ a, a < 62 * bankBytes → memRead t.mem a = 0)
        ∧ (∀ a, 62 * bankBytes ≤ a → memRead t.mem a = memRead s.mem a)
        ∧ t.active = s.active ∧ t.cfgs = s.cfgs ∧ t.objs = s.objs ∧ t.life = s.life
        ∧ t.time = s.time ∧ t.thermal = s.thermal ∧ SessionsStill s t
        -- of Watch's own registers and converters nothing is left; the comparators are Hearth's
        ∧ (∀ off, t.reg off = if 0x380000 ≤ off ∧ off < 0x3A0000 then regReset off else s.reg off)
        ∧ ∀ d, t.det d = restDet (s.det d))
  ∧ (∀ s : State, s.restartDue = true → ((s.reg 0x360004).testBit 0 = false ∨ s.power.vmain = false) →
    Gives .thmRestartReady s fun t => Same { s with thermal := { s.thermal with restartReady := true } } t)
  ∧ (∀ s : State, s.restartDue = true → (s.reg 0x360004).testBit 0 = true → s.power.vmain = true →
    Gives .thmRestartReady s fun t =>
      t.power.watchOn = true ∧ t.power.forgeOn = true ∧ t.thermal.trip = false ∧ t.thermal.stage = 2
        ∧ t.ladder.state = bit (s.boot.firmware && s.boot.selftest && s.boot.calUsable))
  ∧ (∀ (w : Writer) (s : State), s.power.vaux = true → s.thermal.restartReady = true → s.power.vmain = true →
    Gives (.thmRestart w) s fun t =>
      t.power.watchOn = true ∧ t.power.forgeOn = true ∧ t.thermal.trip = false ∧ t.thermal.restartReady = false
        ∧ t.thermal.stage = 2 ∧ t.thermal.stageZone = zoneOf s.thermal.tripSensor
        ∧ t.ladder.state = bit (s.boot.firmware && s.boot.selftest && s.boot.calUsable))
  ∧ (∀ (w : Writer) (s : State), s.power.vaux = true → s.thermal.restartReady = false →
    Gives (.thmRestart w) s fun t => Same { s with reject := insertNum 0x360000 s.reject } t)
  -- fans
  ∧ (∀ (f edges : Nat) (s : State), f < 4 → s.rpmDue f = false → Gives (.fanRpmUpdate f edges) s fun t => t = s)
  ∧ (∀ (f edges : Nat) (s : State), f < 4 → s.rpmDue f = true →
    Gives (.fanRpmUpdate f edges) s fun t =>
      t = { s with fans := t.fans } ∧ (t.fan f).second = s.rpmSecond
        ∧ (t.fan f).rpm = min (60 * edges / (field (s.fanCtrl f) 2 2 + 1)) 0xFFFF
        ∧ (t.fan f).duty = (s.fan f).duty ∧ (t.fan f).stall = (s.fan f).stall
        ∧ ((t.fan f).lowRun = 0 ∨ (t.fan f).lowRun = (s.fan f).lowRun + 1)
        ∧ ∀ g, g ≠ f → t.fan g = s.fan g)
  ∧ (∀ (f : Nat) (s : State), s.power.vaux = true → f < 4 → (s.fan f).stall = false → 2 ≤ (s.fan f).lowRun →
    Gives (.thmFanStall f) s fun t =>
      Same { s with fans := t.fans } t ∧ (t.fan f).stall = true
        -- a stalled fan that is enabled sends the others that are enabled to full duty
        ∧ ((s.fanCtrl f).testBit 0 = true →
            ∀ g, g < 4 → g ≠ f → (s.fanCtrl g).testBit 0 = true → (t.fan g).duty = 255))
  ∧ (∀ (f : Nat) (s : State), s.power.vaux = true → f < 4 → (s.fan f).stall = true → 2 ≤ (s.fan f).goodRun →
    Gives (.thmFanRestored f) s fun t => Same { s with fans := t.fans } t ∧ (t.fan f).stall = false)

/-- R10, R447, R448, R451, R452: the supplies and MOD_RESET_N. Loss of VMAIN and a reset first flush; then Watch and
Forge are off. Loss of VAUX stops everything at once. What returns, starts Watch and Forge.
The model's choices of log 1, 4, 13, 59, 65 enter it. -/
def Obligations.SuppliesAndReset : Prop :=
  (∀ (vbat : Bool) (epoch : Instant) (s : State), s.power.vaux = false → s.power.vmain = false →
    Gives (.vauxGood vbat epoch) s fun t =>
      t.power.vaux = true ∧ t.power.vbat = vbat ∧ t.power.resetCause = 1 ∧ t.power.watchOn = false
        ∧ t.time = { calValid := s.time.calValid && vbat, calValue := epoch } ∧ t.elems = [] ∧ t.sessions = []
        ∧ t.objs = (s.objs.filter fun p => storedEntry p.1) ∧ t.life.state = s.life.state)
  ∧ (∀ (vbat : Bool) (s : State), s.power.vaux = true →
    Gives (.vauxLost vbat) s fun t =>
      t.power.vaux = false ∧ t.power.watchOn = false ∧ t.power.forgeOn = false ∧ t.mem = [] ∧ t.ddr = []
        ∧ t.life.auditKey = none ∧ t.life.tlsKey = false ∧ t.audit.ring = [] ∧ t.audit.buffer = []
        ∧ t.time.running = false ∧ t.time.calValid = (s.time.calValid && vbat)
        ∧ t.objs = (s.objs.filter fun p => storedEntry p.1) ∧ t.cal.types = s.cal.types)
  ∧ (∀ s : State, s.power.vmain = false → s.power.flush ≠ 1 → s.power.vaux = true → s.power.modResetHeld = false →
    s.thermal.trip = false → s.power.watchOn = false →
    Gives .vmainGood s fun t =>
      t.power.vmain = true ∧ t.power.vhv = true ∧ t.power.watchOn = true ∧ t.power.forgeOn = true
        ∧ t.keeper.a.state = .selftest ∧ t.keeper.b.state = .selftest
        ∧ (s.power.forgeOn = false → t.forge.state = .waking)
        ∧ t.time = s.time ∧ t.objs = s.objs ∧ t.active = s.active)
  ∧ (∀ s : State, s.power.vmain = false → s.power.flush ≠ 1 → s.power.modResetHeld = true →
    Gives .vmainGood s fun t => t = { s with power := { s.power with vmain := true, vhv := true } })
  ∧ (∀ s : State, s.power.vmain = true → s.power.watchOn = true → s.power.flush ≠ 2 →
    Gives .vmainLost s fun t =>
      t.apart = { s with power := { s.power with vmain := false, flush := 1 } }.apart ∧ t.sched.state = .idle
        ∧ t.batches = s.batches)
  ∧ (∀ s : State, s.power.flush = 1 →
    Gives .vmainFlushDone s fun t =>
      t.power.watchOn = false ∧ t.power.forgeOn = false ∧ t.power.flush = 0
        -- the newest 16,384 unreleased records are kept; an earlier flush that no boot has restored yet stands
        ∧ (s.boot.firmware = true → t.audit.hasFlush = true
            ∧ t.audit.flushed = lastOf 16384
                (s.audit.ring ++ s.audit.buffer.filter fun r => decide (s.audit.released < r.seq)))
        ∧ (s.boot.firmware = false → t.audit.hasFlush = s.audit.hasFlush ∧ t.audit.flushed = s.audit.flushed)
        ∧ t.audit.ring = [] ∧ t.audit.buffer = [] ∧ t.sessions = [] ∧ t.batches = [] ∧ t.ddr = []
        ∧ t.time = s.time ∧ t.active = s.active ∧ (∀ d, t.det d = restDet (s.det d))
        ∧ (∀ e, (t.elem e).mode = .parked ∧ (t.elem e).code = 0))
  ∧ (∀ s : State, s.power.vaux = true → s.power.modResetLow = false → s.power.flush ≠ 2 → s.power.vmain = true →
    Gives .modResetAssert s fun t =>
      t = { s with power := { s.power with
        modResetLow := true, resetCause := orBit s.power.resetCause 1, flush := 2 } })
  ∧ (∀ s : State, s.power.flush = 2 → s.power.modResetLow = true →
    Gives .modResetFlushDone s fun t =>
      t.power.watchOn = false ∧ t.power.forgeOn = false ∧ t.power.modResetHeld = true
        ∧ t.audit.hasFlush = (s.boot.firmware || s.audit.hasFlush)
        ∧ t.sessions = [] ∧ t.elems = [] ∧ t.time.running = false)
  ∧ (∀ s : State, s.power.modResetLow = true → s.power.watchOn = false → s.power.vaux = true → s.power.vmain = true →
    s.thermal.trip = false →
    Gives .modResetRelease s fun t =>
      t.power.modResetLow = false ∧ t.power.modResetHeld = false ∧ t.power.watchOn = true ∧ t.power.forgeOn = true)

/-- R453, R454: PERST_N and the software resets. A wrong key, and FORGE while the Forge counts as running, leave the
write without effect but for WRITE_REJECT and its event.
The model's choices of log 59 enter it. -/
def Obligations.HostAndSoftwareResets : Prop :=
  (∀ s : State, s.power.vaux = true → s.power.perstLow = false →
    Gives .perstAssert s fun t =>
      t.power = { s.power with
          perstLow := true, resetCause := orBit s.power.resetCause 2, pcie := .down, pciePathOn := false }
        ∧ t.aex = {} ∧ t.events.vectors = [] ∧ (∀ r, 1 ≤ r → r ≤ 4 → t.ring r = {} ∧ (t.session r).isOpen = false)
        ∧ (t.reg 0x1400).testBit 0 = false ∧ (∀ r, 1 ≤ r → r ≤ 4 → (t.reg (mbxReg r 0)).testBit 0 = false)
        ∧ t.active = s.active ∧ t.elems = s.elems ∧ t.batches = s.batches ∧ t.time = s.time)
  ∧ (∀ s : State, s.power.perstLow = true →
    Gives .perstRelease s fun t =>
      t = { s with power := { s.power with perstLow := false, pciePathOn := s.power.forgeOn } })
  ∧ (∀ (w : Writer) (k : Nat) (s : State), s.power.vaux = true → k ≠ 0xA5 →
    Gives (.lcSwResetModule w k) s (fun t => Same { s with reject := insertNum 0x30000 s.reject } t)
      ∧ Gives (.lcSwResetWatch w k) s (fun t => Same { s with reject := insertNum 0x30000 s.reject } t)
      ∧ Gives (.lcSwResetForge w k) s fun t => Same { s with reject := insertNum 0x30000 s.reject } t)
  ∧ (∀ (w : Writer) (s : State), s.power.vaux = true → s.power.vmain = true → s.power.flush ≠ 2 →
    Gives (.lcSwResetModule w 0xA5) s fun t =>
      t = { s with power := { s.power with resetCause := orBit s.power.resetCause 3, flush := 2 } })
  ∧ (∀ (w : Writer) (s : State), s.power.vaux = true → s.power.watchOn = true →
    Gives (.lcSwResetWatch w 0xA5) s fun t =>
      t.power.watchOn = true ∧ t.power.resetCause = orBit s.power.resetCause 4 ∧ t.loopsStarted = false
        ∧ t.ladder.state = bit (s.boot.firmware && s.boot.selftest && s.boot.calUsable)
        ∧ t.sched.state = .idle ∧ (∀ e, (t.elem e).mode = .parked)
        ∧ t.active = s.active ∧ t.objs = s.objs ∧ t.time = s.time ∧ t.life = s.life)
  ∧ (∀ (w : Writer) (s : State), s.power.vaux = true → s.forgeRuns = true →
    Gives (.lcSwResetForge w 0xA5) s fun t => Same { s with reject := insertNum 0x30000 s.reject } t)
  ∧ (∀ (w : Writer) (s : State), s.power.vaux = true → s.forgeRuns = false → s.power.forgeOn = true →
    Gives (.lcSwResetForge w 0xA5) s fun t =>
      t.power.resetCause = orBit s.power.resetCause 5 ∧ t.forge.state = .waking ∧ t.forge.coresReady = false
        ∧ t.kept = [] ∧ t.disp.vtime = 0 ∧ (∀ n, 1 ≤ n → n ≤ 28 → (t.session n).isOpen = false)
        ∧ (t.session 0).role = s.obj 0x1400 1
        ∧ t.active = s.active ∧ t.elems = s.elems ∧ t.batches = s.batches ∧ t.time = s.time ∧ t.objs = s.objs)

/-- R290 to R293, R299, R301: the loss of an Anvil. Two missed beats declare it failed: the standby is commanded to
drive, or with none ready the engine holds every code (FAIL_STATIC) and stops the schedule; a lost standby leaves
SIMPLEX. A signature mismatch that nothing explains fails the standby. FAILOVER makes the takeover stand.
The model's choices of log 48 enter it. -/
def Obligations.AnvilFailures : Prop :=
  (∀ (v : Anvil) (s : State), s.keeper.alive = true → 2 ≤ (s.anvil v).missed → (s.anvil v).state = .active →
    s.keeper.takeover = none → s.keeper.state.source = some v → (s.anvil (otherAnvil v)).state = .standby →
    (s.anvil (otherAnvil v)).missed < 2 →
    Gives (.anvilHeartbeatLoss v) s fun t =>
      t.keeper.takeover = some (otherAnvil v, 1, s.keeper.lastGood) ∧ t.keeper.state = s.keeper.state
        ∧ (t.anvil v).cause = 1 ∧ (t.anvil v).failTime = s.now
        ∧ (t.anvil v).state = (if s.failsOut v then .out else .selftest)
        ∧ t.apart = { s with
            keeper := t.keeper, elems := t.elems, notches := t.notches, lanesA := t.lanesA, lanesB := t.lanesB }.apart)
  ∧ (∀ (v : Anvil) (s : State), s.keeper.alive = true → 2 ≤ (s.anvil v).missed → (s.anvil v).state = .active →
    s.keeper.takeover = none → s.keeper.state.source = some v → (s.anvil (otherAnvil v)).state ≠ .standby →
    s.sched.stopNow = none →
    Gives (.anvilHeartbeatLoss v) s fun t =>
      t.keeper.state = .failStatic ∧ t.keeper.takeover = none ∧ t.keeper.lastCause = 1 ∧ t.elems = s.elems
        ∧ (t.sched.state = .idle ∨ t.sched.state = .stopping)
        ∧ t.apart = { s with keeper := t.keeper, lanesA := t.lanesA, lanesB := t.lanesB }.apart)
  ∧ (∀ (v : Anvil) (s : State), s.keeper.alive = true → 2 ≤ (s.anvil v).missed → (s.anvil v).state = .standby →
    s.keeper.takeover = none → s.keeper.state = duplexOf (otherAnvil v) →
    Gives (.anvilHeartbeatLoss v) s fun t =>
      t.keeper.state = simplexOf (otherAnvil v) ∧ (t.anvil v).cause = 1
        ∧ (t.anvil v).state = (if s.failsOut v then .out else .selftest)
        ∧ t.anvil (otherAnvil v) = s.anvil (otherAnvil v)
        ∧ Same { s with keeper := t.keeper, lanesA := t.lanesA, lanesB := t.lanesB } t)
  -- signatures that differed: with the implausible codes and SELFCHECK undecided, or pointing at the standby, the standby
  -- is out; where they point at the active Anvil, the standby is commanded to drive
  ∧ (∀ (aImpl bImpl : Nat) (s : State), s.keeper.verdict = none → Gives (.signatureMismatch aImpl bImpl) s fun t => t = s)
  ∧ (∀ (v : Anvil) (aImpl bImpl : Nat) (d : SignReport) (s : State), s.keeper.alive = true → s.keeper.verdict = some d →
    s.keeper.takeover = none → s.keeper.state = duplexOf v →
    (d.diverged = none ∨ ∃ n, d.diverged = some (otherAnvil v, n)) →
    Gives (.signatureMismatch aImpl bImpl) s fun t =>
      t.keeper.state = simplexOf v ∧ t.keeper.mismatches = (s.keeper.mismatches + 1) % 4294967296
        ∧ (t.anvil (otherAnvil v)).cause = (if d.diverged = none then 3 else 2) ∧ t.anvil v = s.anvil v
        ∧ Same { s with keeper := t.keeper, lanesA := t.lanesA, lanesB := t.lanesB } t)
  ∧ (∀ (v : Anvil) (aImpl bImpl n : Nat) (d : SignReport) (s : State), s.keeper.alive = true →
    s.keeper.verdict = some d → s.keeper.takeover = none → s.keeper.state = duplexOf v → d.diverged = some (v, n) →
    (s.anvil (otherAnvil v)).state = .standby → (s.anvil (otherAnvil v)).missed < 2 →
    Gives (.signatureMismatch aImpl bImpl) s fun t =>
      t.keeper.takeover = some (otherAnvil v, 2, s.time.elapsed - 2 * s.beatUnits)
        ∧ t.keeper.state = s.keeper.state ∧ (t.anvil v).cause = 2
        ∧ t.keeper.mismatches = (s.keeper.mismatches + 1) % 4294967296)
  ∧ (∀ d : SignReport,
    ((d.aImpl ≠ 0 ∧ d.bImpl = 0) → d.diverged = some (.a, 1)) ∧ ((d.bImpl ≠ 0 ∧ d.aImpl = 0) → d.diverged = some (.b, 1))
    ∧ ((d.aImpl = 0 ↔ d.bImpl = 0) →
        (d.aSelf = true → d.bSelf = false → d.diverged = some (.a, 2))
          ∧ (d.bSelf = true → d.aSelf = false → d.diverged = some (.b, 2)) ∧ (d.aSelf = d.bSelf → d.diverged = none)))
  ∧ (∀ (v : Anvil) (cause lost : Nat) (s : State), s.keeper.takeover = some (v, cause, lost) →
    (if s.anyTransit then s.atTransit else s.atHold) = true →
    (s.anvil (otherAnvil v)).fails.headD 0 < s.time.elapsed →
    Gives .failover s fun t =>
      t.keeper.state = simplexOf v ∧ t.keeper.takeover = none ∧ t.keeper.lastCause = cause
        ∧ (t.anvil v).state = .active
        ∧ t.keeper.interruptNs = min (elapsedNs lost s.time.elapsed) 0xFFFFFFFF
        ∧ (s.keeper.state.source = some (otherAnvil v) →
            t.keeper.failovers = (s.keeper.failovers + 1) % 4294967296 ∧ t.keeper.lastFailover = s.now)
        ∧ Same { s with keeper := t.keeper } t)

/-- R296 to R298, R303, R306: an Anvil's way back to service, and how the Keeper leaves INIT.
The model's choices of log 7, 48 enter it. -/
def Obligations.AnvilReturns : Prop :=
  (∀ (v : Anvil) (s : State), (s.anvil v).state = .selftest → (s.anvil v).step ≠ 3 → s.keeper.state = .init →
    Gives (.anvilSelftestDone v true) s fun t =>
      t = { s with keeper := t.keeper } ∧ t.anvil v = { s.anvil v with step := 3 }
        ∧ t.anvil (otherAnvil v) = s.anvil (otherAnvil v))
  ∧ (∀ (v : Anvil) (s : State), (s.anvil v).state = .selftest → (s.anvil v).step ≠ 3 → s.keeper.state ≠ .init →
    s.failStatic = false →
    Gives (.anvilSelftestDone v true) s fun t =>
      t = { s with keeper := t.keeper, forge := t.forge } ∧ (t.anvil v).state = .resync ∧ (t.anvil v).step = 0
        ∧ t.forge.resyncHold = true ∧ t.anvil (otherAnvil v) = s.anvil (otherAnvil v))
  ∧ (∀ (v : Anvil) (s : State), (s.anvil v).state = .selftest → (s.anvil v).step ≠ 3 →
    (s.keeper.state ≠ .init ∨ (s.anvil v).retried = true) →
    Gives (.anvilSelftestDone v false) s fun t =>
      Same { s with keeper := t.keeper } t ∧ t.anvil v = { s.anvil v with state := .out, cause := 4 })
  ∧ (∀ (v : Anvil) (s : State), s.resyncing 1 = some v → Gives (.resyncCopyDone true) s fun t =>
      t = { s with keeper := t.keeper } ∧ t.anvil v = { s.anvil v with step := 2 }
        ∧ t.anvil (otherAnvil v) = s.anvil (otherAnvil v))
  ∧ (∀ (v : Anvil) (s : State), s.resyncing 2 = some v → Gives (.resyncLive true) s fun t =>
      t = { s with keeper := t.keeper } ∧ t.anvil v = { s.anvil v with step := 3, missed := 0, silent := 0 }
        ∧ t.keeper.matched = 0)
  ∧ (∀ (v : Anvil) (s : State), (s.resyncing 1 = some v → Gives (.resyncCopyDone false) s fun t =>
        (t.anvil v).cause = 5 ∧ (t.anvil v).state = (if s.failsOut v then .out else .selftest)
          ∧ Same { s with keeper := t.keeper, lanesA := t.lanesA, lanesB := t.lanesB } t)
      ∧ (s.resyncing 2 = some v → Gives (.resyncLive false) s fun t =>
        (t.anvil v).cause = 5 ∧ (t.anvil v).state = (if s.failsOut v then .out else .selftest)
          ∧ Same { s with keeper := t.keeper, lanesA := t.lanesA, lanesB := t.lanesB } t))
  -- 16 matching hold periods make it STANDBY, and the Keeper DUPLEX
  ∧ (∀ (v : Anvil) (s : State), s.keeper.alive = true → (s.anvil v).state = .resync → (s.anvil v).step = 3 →
    16 ≤ s.keeper.matched → s.atHold = true →
    Gives (.anvilStandby v) s fun t =>
      Same { s with keeper := t.keeper } t ∧ t.keeper.state = duplexOf (otherAnvil v) ∧ t.keeper.lastCause = 11
        ∧ (t.anvil v).state = .standby ∧ (t.anvil v).standbySince = s.now
        ∧ (t.anvil v).resyncNs = min (elapsedNs (s.anvil v).resyncStart s.time.elapsed) 0xFFFFFFFF
        ∧ t.anvil (otherAnvil v) = s.anvil (otherAnvil v))
  -- a rebuilt Anvil drives
  ∧ (∀ (v : Anvil) (s : State), s.keeper.alive = true → s.failStatic = true → (s.anvil v).rebuilding = true →
    s.atHold = true → s.clear.asserted = true →
    Gives (.rebuildComplete v) s fun t =>
      Same { s with
        keeper := t.keeper, planner := { s.planner with retry := true }, lanesA := t.lanesA, lanesB := t.lanesB } t
        ∧ t.keeper.state = simplexOf v ∧ (t.anvil v).state = .active ∧ (t.anvil v).rebuilding = false
        -- a FAILED Anvil is reset with it
        ∧ t.anvil (otherAnvil v) = (if (s.anvil (otherAnvil v)).state = .failed ∧ s.obj 0x3400 5 = 1
            then (resetAnvil (otherAnvil v) s).anvil (otherAnvil v) else s.anvil (otherAnvil v))
        ∧ t.keeper.interruptNs = min (elapsedNs s.keeper.lastGood s.time.elapsed) 0xFFFFFFFF)
  ∧ (∀ (v : Anvil) (s : State), s.keeper.alive = true → s.failStatic = true → (s.anvil v).rebuilding = true →
    s.atHold = true → Gives (.rebuildComplete v) s fun t =>
      t.keeper.state = simplexOf v ∧ (t.anvil v).state = .active
        ∧ t.apart = { s with
            keeper := t.keeper, elems := t.elems, notches := t.notches, lanesA := t.lanesA, lanesB := t.lanesB }.apart)
  -- INIT ends with what the self-tests gave
  ∧ (∀ s : State, s.keeper.alive = true → s.power.watchOn = true → s.keeper.state = .init → s.atHold = true →
    s.keeper.a.state = .selftest → s.keeper.b.state = .selftest → s.keeper.a.step = 3 → s.keeper.b.step = 3 →
    Gives .keeperLeaveInit s fun t =>
      Same { s with keeper := t.keeper } t ∧ t.keeper.state = .duplexA ∧ t.keeper.lastCause = 10
        ∧ t.keeper.a.state = .active ∧ t.keeper.b.state = .standby ∧ t.keeper.b.standbySince = s.now)
  ∧ (∀ s : State, s.keeper.alive = true → s.power.watchOn = true → s.keeper.state = .init → s.atHold = true →
    s.keeper.a.state = .out → s.keeper.b.state = .out →
    Gives .keeperLeaveInit s fun t =>
      t.keeper.state = .failStatic ∧ t.elems = s.elems ∧ Same { s with keeper := t.keeper } t)

/-- R298, R300, R305: drive moves between two matching Anvils; the host's requests; the arbiter's loss and return.
The model's choices of log 5, 48, 79 enter it. -/
def Obligations.KeeperRequestsAndLoss : Prop :=
  (∀ (due at_ : Nat) (s : State), s.keeper.revertAt = some (due, at_) → at_ ≤ s.time.elapsed → s.mayMove = true →
    s.keeper.state = .duplexB →
    Gives .kprRevert s fun t =>
      Same { s with keeper := t.keeper } t ∧ t.keeper.state = .duplexA ∧ t.keeper.lastCause = 8
        ∧ t.keeper.a.state = .active ∧ t.keeper.b.state = .standby ∧ t.keeper.revertAt = none)
  ∧ (∀ (ses : Nat) (s : State), Passes ses 0x3400 9 (valBytes 1 1) s →
    ((s.keeper.alive = false ∨ s.duplex = false ∨ s.keeper.takeover ≠ none) →
        Gives (.kprSwap ses 1) s fun t => Does ses stNotEligible s s t)
    ∧ (s.keeper.alive = true → s.duplex = true → s.keeper.takeover = none →
        Gives (.kprSwap ses 1) s fun t => Does ses stOk s { s with keeper := { s.keeper with
          swapAsked := true, swapAt := if s.keeper.swapAsked = true then s.keeper.swapAt else s.time.elapsed } } t))
  ∧ (∀ (ses n : Nat) (s : State), n ≤ 1 → Passes ses 0x3400 0x0A (valBytes 1 n) s →
    ((s.keeper.alive = false ∨ s.drives (anvilOf n) = true) →
        Gives (.kprRestart ses n) s fun t => Does ses stNotEligible s s t)
    ∧ (s.keeper.alive = true → s.drives (anvilOf n) = false → (s.anvil (anvilOf n)).state ≠ .off →
        Gives (.kprRestart ses n) s fun t =>
          Does ses stOk s { s with keeper := t.keeper, lanesA := t.lanesA, lanesB := t.lanesB } t
            ∧ (t.anvil (anvilOf n)).state = .selftest ∧ (t.anvil (anvilOf n)).fails = []
            ∧ (s.failStatic = false → t.anvil (otherAnvil (anvilOf n)) = s.anvil (otherAnvil (anvilOf n)))))
  ∧ (∀ (ses n : Nat) (s : State), n ≤ 1 → Passes ses 0x3400 0x0B (valBytes 1 n) s →
    (s.keeper.alive = true → s.drives (anvilOf n) = false →
        Gives (.kprRemove ses n) s fun t =>
          Does ses stOk s { s with keeper := t.keeper } t ∧ (t.anvil (anvilOf n)).state = .out
            ∧ (t.anvil (anvilOf n)).cause = 7)
    ∧ (s.keeper.alive = true → s.drives (anvilOf n) = true →
        (s.anvil (otherAnvil (anvilOf n))).state = .standby → s.keeper.takeover = none →
        Gives (.kprRemove ses n) s fun t =>
          Does ses stOk s { s with keeper := { s.keeper with
            swapAsked := true, swapAt := if s.keeper.swapAsked = true then s.keeper.swapAt else s.time.elapsed
            removeAfter := some (anvilOf n) } } t))
  ∧ (∀ s : State, s.keeper.alive = true → Gives .keeperLost s fun t =>
      Same { s with keeper := t.keeper } t ∧ t.keeper.alive = false ∧ t.keeper.state = s.keeper.state
        ∧ t.keeper.latched = sourceCode s.keeper.state.source
        ∧ t.keeper.lostCount = (s.keeper.lostCount + 1) % 4294967296)
  ∧ (∀ s : State, s.keeper.alive = false → s.keeper.noSource = false → s.latchedMissing = true →
    Gives .noDriveSource s fun t => Same { s with keeper := { s.keeper with noSource := true } } t)
  ∧ (∀ s : State, s.keeper.alive = false → s.keeper.losses ≠ [] → s.keeper.losses.length < 3 →
    s.arbiterChecked = true →
    Gives .keeperRestored s fun t =>
      Same { s with keeper := t.keeper } t ∧ t.keeper.alive = true ∧ t.keeper.state = s.matchState
        ∧ t.keeper.latched = 0xFF)
  -- not before 16 hold periods have been checked; and the third loss within 60 minutes is final
  ∧ (∀ s : State, s.arbiterChecked = false → Gives .keeperRestored s fun t => t = s)
  ∧ (∀ s : State, s.keeper.alive = false → 3 ≤ s.keeper.losses.length →
    Gives .keeperRestored s fun t => t = s)

/-- R316, R319 to R326: calibration. A run starts once its checks pass and is refused with the first reason that does
not; its results are checked in full, stored in the standby slot, read back and swapped in; a failed check, an abort and
a failed read-back leave the slot in force.
The model's choices of log 3, 7, 49, 50, 79 enter it. -/
def Obligations.CalibrationRuns : Prop :=
  (∀ (ses : Nat) (v : List Byte) (ns : Nat) (s : State), Passes ses 0x3200 1 v s →
    (runBad v = true → Gives (.calRun ses v ns) s fun t => Does ses stRange s s t)
    ∧ (runBad v = false → s.cal.run ≠ none → Gives (.calRun ses v ns) s fun t => Does ses stNotEligible s s t)
    ∧ (∀ reason, runBad v = false → s.cal.run = none →
        s.calCheck { parseRun v with
          started := s.now, failovers := s.keeper.failovers, planNs := ns
          sourcePower := if (parseRun v).type_ = 6 then s.sourceLight (parseRun v).source
            else (s.det (parseRun v).first).power } true = some reason →
        Gives (.calRun ses v ns) s fun t =>
          Does ses stPrecondition s { s with cal := t.cal } t ∧ t.cal.run = none ∧ t.cal.state = s.cal.state
            ∧ t.calType (parseRun v).type_ = { s.calType (parseRun v).type_ with
                lastTime := s.now, lastResult := 2, lastReason := reason })
    -- it is PREPARING until the Forge is awake, and then measures
    ∧ (runBad v = false → s.cal.run = none → ((parseRun v).type_ ≠ 6 ∨ s.awake = false) →
        s.calCheck { parseRun v with
          started := s.now, failovers := s.keeper.failovers, planNs := ns
          sourcePower := if (parseRun v).type_ = 6 then s.sourceLight (parseRun v).source
            else (s.det (parseRun v).first).power } true = none →
        Gives (.calRun ses v ns) s fun t =>
          Does ses stOk s { s with cal := t.cal, hkc0 := t.hkc0, hkc1 := t.hkc1, elems := t.elems } t
            ∧ t.cal.state = (if s.awake = true then 2 else 1) ∧ t.cal.step = 0 ∧ t.cal.steps = (parseRun v).count
            ∧ (∃ r, t.cal.run = some r ∧ r.type_ = (parseRun v).type_ ∧ r.first = (parseRun v).first
                ∧ r.count = (parseRun v).count ∧ r.started = s.now)
            ∧ t.calType (parseRun v).type_ = { s.calType (parseRun v).type_ with
                runs := ((s.calType (parseRun v).type_).runs + 1) % 4294967296
                lastTime := s.now, lastResult := 7, lastReason := 0 }
            ∧ (calMoves (parseRun v).type_ = false → t.elems = s.elems)))
  -- an abort, and a check that fails during the run
  ∧ (∀ (ses : Nat) (r : CalRunSt) (s : State), Passes ses 0x3200 2 (valBytes 1 1) s → s.cal.run = some r →
    r.clear = false → calMoves r.type_ = false → s.cal.queued = [] → s.cal.freeing = [] →
    Gives (.calAbort ses 1) s fun t =>
      Does ses stOk s { s with
        cal := t.cal, hkc0 := t.hkc0, hkc1 := t.hkc1
        ladder := { s.ladder with pendingSel := if s.cal.subst = none then s.ladder.pendingSel else some s.ladderBase } } t
        ∧ t.cal.run = none ∧ t.cal.state = 0
        -- a standby slot that it was writing, or had written, is erased
        ∧ (4 ≤ s.cal.state → (t.calType r.type_).slotGood r.type_ r.slot = false)
        ∧ (t.calType r.type_).lastResult = 2 ∧ (t.calType r.type_).lastReason = 11
        ∧ (t.calType r.type_).inForce = (s.calType r.type_).inForce)
  ∧ (∀ (reason unit : Nat) (r : CalRunSt) (s : State), s.cal.run = some r → r.clear = false →
    s.calCheck r false = some reason → calMoves r.type_ = false → s.cal.queued = [] → s.cal.freeing = [] →
    Gives (.calPreconditionFail reason unit) s fun t =>
      Same { s with
        cal := t.cal, hkc0 := t.hkc0, hkc1 := t.hkc1
        ladder := { s.ladder with pendingSel := if s.cal.subst = none then s.ladder.pendingSel else some s.ladderBase } } t
        ∧ t.cal.run = none ∧ t.cal.state = 0
        ∧ (t.calType r.type_).lastResult = 2 ∧ (t.calType r.type_).lastReason = reason
        ∧ (t.calType r.type_).inForce = (s.calType r.type_).inForce)
  -- results: stored only when every unit keeps its band and its bounds
  ∧ (∀ (res : CalOutcome) (r : CalRunSt) (s : State), s.cal.run = some r → s.cal.state = 2 → r.clear = false →
    s.awake = true → s.calCheck r false = none → s.firstBad r.type_ (s.resultsOf r res) = none →
    (r.type_ = 5 → s.poolShort (s.resultsOf r res) = none) →
    Gives (.calMeasureDone res) s fun t =>
      t = { s with
        cal := t.cal, elems := t.elems
        ladder := { s.ladder with pendingSel := if s.cal.subst = none then s.ladder.pendingSel else some s.ladderBase } }
        ∧ (calMoves r.type_ = false → t.elems = s.elems) ∧ t.cal.state = 4
        ∧ (t.calType r.type_).slot (s.calType r.type_).standby = {}
        ∧ (t.calType r.type_).inForce = (s.calType r.type_).inForce)
  ∧ (∀ (res : CalOutcome) (r : CalRunSt) (reason unit : Nat) (s : State), s.cal.run = some r → s.cal.state = 2 →
    r.clear = false → calMoves r.type_ = false → s.cal.queued = [] → s.cal.freeing = [] → s.awake = true →
    s.calCheck r false = none → s.firstBad r.type_ (s.resultsOf r res) = some (reason, unit) →
    Gives (.calMeasureDone res) s fun t =>
      Same { s with
        cal := t.cal, hkc0 := t.hkc0, hkc1 := t.hkc1
        ladder := { s.ladder with pendingSel := if s.cal.subst = none then s.ladder.pendingSel else some s.ladderBase } } t
        ∧ t.cal.run = none
        ∧ (t.calType r.type_).lastResult = 3 ∧ (t.calType r.type_).lastReason = reason
        ∧ (t.calType r.type_).inForce = (s.calType r.type_).inForce)
  -- a check that no longer holds as the results come aborts the run
  ∧ (∀ (res : CalOutcome) (r : CalRunSt) (reason : Nat) (s : State), s.cal.run = some r → s.cal.state = 2 →
    r.clear = false → calMoves r.type_ = false → s.cal.queued = [] → s.cal.freeing = [] → s.awake = true →
    s.calCheck r false = some reason →
    Gives (.calMeasureDone res) s fun t =>
      Same { s with
        cal := t.cal, hkc0 := t.hkc0, hkc1 := t.hkc1
        ladder := { s.ladder with pendingSel := if s.cal.subst = none then s.ladder.pendingSel else some s.ladderBase } } t
        ∧ t.cal.run = none
        ∧ (t.calType r.type_).lastResult = 2 ∧ (t.calType r.type_).lastReason = reason
        ∧ (t.calType r.type_).inForce = (s.calType r.type_).inForce)
  ∧ (∀ (r : CalRunSt) (s : State), s.cal.run = some r → s.cal.state = 4 →
    (r.clear = true ∨ s.calCheck r false = none) →
    Gives (.calStoreDone true) s fun t =>
      t = { s with cal := t.cal } ∧ t.cal.state = 5 ∧ t.cal.run = some { r with stored := true }
        ∧ (t.calType r.type_).slotGood r.type_ r.slot = true
        ∧ ((t.calType r.type_).slot r.slot).seq = ((s.calType r.type_).seqInForce + 1) % 4294967296
        ∧ (t.calType r.type_).inForce = (s.calType r.type_).inForce)
  ∧ (∀ (r : CalRunSt) (s : State), s.cal.run = some r → s.cal.state = 4 → calMoves r.type_ = false →
    s.cal.queued = [] → s.cal.freeing = [] → (r.clear = true ∨ s.calCheck r false = none) →
    Gives (.calStoreDone false) s fun t =>
      Same { s with
        cal := t.cal, hkc0 := t.hkc0, hkc1 := t.hkc1
        ladder := { s.ladder with pendingSel := if s.cal.subst = none then s.ladder.pendingSel else some s.ladderBase } } t
        ∧ t.cal.run = none
        ∧ ((t.calType r.type_).slot r.slot).valid = false ∧ (t.calType r.type_).lastResult = 4
        ∧ (t.calType r.type_).inForce = (s.calType r.type_).inForce)
  -- the swap at a hold boundary
  ∧ (∀ (r : CalRunSt) (s : State), s.cal.run = some r → s.cal.state = 5 → (s.atHold = true ∨ s.holdDue = true) →
    r.clear = false → calMoves r.type_ = false → r.type_ ≠ 1 → s.cal.queued = [] → s.cal.freeing = [] →
    s.calCheck r false = none →
    Gives .calSwap s fun t =>
      Same { s with
        cal := t.cal, hkc0 := t.hkc0, hkc1 := t.hkc1
        ladder := { s.ladder with pendingSel := if s.cal.subst = none then s.ladder.pendingSel else some s.ladderBase } } t
        ∧ t.cal.run = none ∧ t.cal.state = 0
        ∧ (t.calType r.type_).inForce = some r.slot ∧ (t.calType r.type_).lastResult = 1
        ∧ (t.calType r.type_).successes = ((s.calType r.type_).successes + 1) % 4294967296)
  -- CAL_USER_CLEAR
  ∧ (∀ (ses ty : Nat) (s : State), Passes ses 0x3200 7 (valBytes 1 ty) s →
    (∀ r, s.cal.run = some r → r.type_ = ty → Gives (.calUserClear ses ty) s fun t => Does ses stBusy s s t)
    ∧ (∀ r, s.cal.run = some r → r.type_ ≠ ty → Gives (.calUserClear ses ty) s fun t =>
        Does ses stOk s { s with cal := { s.cal with queued := s.cal.queued ++ [ty] } } t)
    ∧ (s.cal.run = none → Gives (.calUserClear ses ty) s fun t =>
        Does ses stOk s { s with cal := t.cal } t ∧ t.cal.state = 4
          ∧ ∃ r, t.cal.run = some r ∧ r.type_ = ty ∧ r.clear = true))

/-- R344 to R350: the housekeeping converters. A trigger takes effect its delay later and starts the sequence, or is
missed while one runs; each result replaces HKC_DATA, which a read empties.
The model's choices of log 7, 13, 49, 52, 73 enter it. -/
def Obligations.HousekeepingConverters : Prop :=
  (∀ (n : Nat) (s : State), n < 2 →
    -- ARM is live: the write waits for a transit boundary, from which the converter is armed or disarmed
    (s.power.vaux = true → ∀ v : Bool, Gives (.hkcArmWrite n v) s fun t =>
      t = { s with live := s.live ++ [⟨.hkc, true, hkcReg n 0, bit v, s.time.elapsed, 0⟩] })
    ∧ (∀ at_, s.live = [⟨.hkc, true, hkcReg n 0, 1, at_, 0⟩] → at_ < s.time.transitStart → (s.hkc n).armed = false →
        Gives (.liveSettingApply .hkc) s fun t =>
      t = { s with live := [], regs := t.regs, hkc0 := t.hkc0, hkc1 := t.hkc1 }
        ∧ t.hkc n = { s.hkc n with armed := true, timerAt := at_ + s.reg (hkcReg n 0xC) * 40 * 65536 }
        ∧ t.hkc (1 - n) = s.hkc (1 - n))
    ∧ (∀ at_, s.live = [⟨.hkc, true, hkcReg n 0, 0, at_, 0⟩] → at_ < s.time.transitStart → (s.hkc n).armed = true →
        Gives (.liveSettingApply .hkc) s fun t =>
      t = { s with live := [], regs := t.regs, hkc0 := t.hkc0, hkc1 := t.hkc1 }
        -- the conversion in progress ends, and with it the sequence
        ∧ t.hkc n = { s.hkc n with
            armed := false, seqPos := none, trigs := [], heldTrig := false
            current := (s.hkc n).current.map fun c => { c with last := true } }
        ∧ t.hkc (1 - n) = s.hkc (1 - n)))
  -- triggers from their source
  ∧ (∀ (n : Nat) (s : State), s.power.vaux = true → s.hkcSrc n 0 = true → Gives (.hkcSoftTrig n) s fun t =>
      t = { s with hkc0 := t.hkc0, hkc1 := t.hkc1 }
        ∧ t.hkc n = { s.hkc n with trigs := (s.hkc n).trigs
            ++ [s.time.elapsed + field (s.reg (hkcReg n 8)) 16 16 * 40 * 65536] }
        ∧ t.hkc (1 - n) = s.hkc (1 - n))
  ∧ (∀ (n : Nat) (s : State), s.power.vaux = true → s.hkcSrc n 1 = true → s.dueBy (s.hkc n).timerAt = true →
    Gives (.hkcTimerTrigger n) s fun t =>
      t = { s with hkc0 := t.hkc0, hkc1 := t.hkc1 }
        ∧ t.hkc n = { s.hkc n with
            timerAt := (s.hkc n).timerAt + s.reg (hkcReg n 0xC) * 40 * 65536
            trigs := (s.hkc n).trigs ++ [(s.hkc n).timerAt + field (s.reg (hkcReg n 8)) 16 16 * 40 * 65536] })
  -- an edge of the PWM output triggers once, at its own instant
  ∧ (∀ (n f at_ : Nat) (up : Bool) (s : State), s.power.vaux = true → s.hkcSrc n (if up then 2 else 3) = true →
    field (s.reg (hkcReg n 8)) 4 2 = f → s.fanEdge f up = some at_ → (s.hkc n).edgeAt ≠ some at_ →
    Gives (.hkcFanEdgeTrigger n f up) s fun t =>
      t = { s with hkc0 := t.hkc0, hkc1 := t.hkc1 }
        ∧ t.hkc n = { s.hkc n with
            edgeAt := some at_, trigs := (s.hkc n).trigs ++ [at_ + field (s.reg (hkcReg n 8)) 16 16 * 40 * 65536] })
  ∧ (∀ (n f : Nat) (up : Bool) (s : State), s.fanEdge f up = none →
    Gives (.hkcFanEdgeTrigger n f up) s fun t => t = s)
  -- its effect on an idle converter, on a running sequence, and behind a calibration run
  ∧ (∀ (n at_ : Nat) (rest : List Nat) (s : State), n < 2 → s.power.vaux = true → (s.hkc n).trigs = at_ :: rest → (s.hkc n).armed = true →
    s.dueBy at_ = true →
    ((s.hkc n).calActive = false → (s.hkc n).calWaiting = false → (s.hkc n).seqPos = none →
        (s.hkc n).current = none → (s.hkc n).inject = none → Gives (.hkcTriggerEffect n) s fun t =>
      t = { s with hkc0 := t.hkc0, hkc1 := t.hkc1 }
        ∧ t.hkc n = { s.hkc n with
            trigs := rest, seqPos := some 0, current := some (convOf_ (s.reg (hkcReg n 0x40)) 0 false at_) })
    ∧ ((s.hkc n).calActive = false → (s.hkc n).calWaiting = false → (s.hkc n).seqPos ≠ none →
        Gives (.hkcTriggerEffect n) s fun t =>
      Same { s with hkc0 := t.hkc0, hkc1 := t.hkc1 } t
        ∧ t.hkc n = { s.hkc n with
            trigs := rest, missed := min ((s.hkc n).missed + 1) 255, missedRaised := true })
    ∧ ((s.hkc n).calActive = true → (s.hkc n).heldTrig = false → Gives (.hkcTriggerEffect n) s fun t =>
      t = { s with hkc0 := t.hkc0, hkc1 := t.hkc1 } ∧ t.hkc n = { s.hkc n with trigs := rest, heldTrig := true }))
  -- a result
  ∧ (∀ (n : Nat) (uv : Int) (gap : Nat) (c : Conv) (s : State), n < 2 → s.power.vaux = true → (s.hkc n).current = some c →
    (s.dueBy c.done = false → Gives (.hkcConversionDone n uv gap) s fun t => t = s)
    ∧ (s.dueBy c.done = true → Gives (.hkcConversionDone n uv gap) s fun t =>
      Same { s with hkc0 := t.hkc0, hkc1 := t.hkc1 } t
        ∧ (t.hkc n).valid = true ∧ (t.hkc n).overrun = (s.hkc n).valid
        ∧ (t.hkc n).code = (s.hkcCode n c uv).1 ∧ (t.hkc n).overRange = (s.hkcCode n c uv).2
        ∧ (t.hkc n).injected = c.injected
        -- a conversion that starts within 1 µs of an over-range one's sampling, and samples for less, is suspect
        ∧ (t.hkc n).suspect = (((s.hkc n).overRangeLast.any fun at_ => decide (c.start < at_ + 1000 * 65536))
            && decide (sampleNs c.sample < 1000))
        ∧ (t.hkc n).overRangeLast = (if (s.hkcCode n c uv).2 then some c.sampled else none)
        ∧ (t.hkc n).overruns = (if (s.hkc n).valid then min ((s.hkc n).overruns + 1) 255 else (s.hkc n).overruns)
        ∧ t.hkc (1 - n) = s.hkc (1 - n)))
  -- an injection, and one that finds another pending or an input that does not exist
  ∧ (∀ (w : Writer) (n : Nat) (v : Word) (s : State), n < 2 → s.power.vaux = true →
    (((s.hkc n).inject ≠ none ∨ 24 ≤ field v.toNat 0 5) → Gives (.hkcInjStart w n v) s fun t =>
      Same { s with reject := insertNum (hkcReg n 4) s.reject } t)
    ∧ ((s.hkc n).inject = none → field v.toNat 0 5 < 24 → Gives (.hkcInjStart w n v) s fun t =>
      t = { s with live := t.live, hkc0 := t.hkc0, hkc1 := t.hkc1 }
        ∧ t.live = s.live ++ [⟨.hkc, true, hkcReg n 0x18, v.toNat &&& 0xF371F, s.time.elapsed, 0⟩]
        -- an idle converter samples from the next 40 ns tick, and a busy one keeps it pending
        ∧ ((s.hkc n).current = none → (s.hkc n).calActive = false → (s.hkc n).calWaiting = false →
            t.hkc n = { s.hkc n with
              current := some (convOf_ v.toNat 0 true ((s.time.elapsed / (40 * 65536) + 1) * (40 * 65536)))
              inject := none, injectFirst := false })
        ∧ ((s.hkc n).current ≠ none ∨ (s.hkc n).calActive = true →
            t.hkc n = { s.hkc n with inject := some (convOf_ v.toNat 0 true 0) })))
  ∧ (∀ (n : Nat) (s : State), n < 2 → s.power.vaux = true → Gives (.hkcDataRead n) s fun t =>
      t = { s with hkc0 := t.hkc0, hkc1 := t.hkc1, out := t.out } ∧ t.out.data = (s.hkc n).word
        ∧ t.hkc n = { s.hkc n with valid := false, overrun := false } ∧ t.hkc (1 - n) = s.hkc (1 - n))
  ∧ (∀ (n : Nat) (s : State), n < 2 → s.power.vaux = true → Gives (.hkcClrCounts n) s fun t =>
      t = { s with hkc0 := t.hkc0, hkc1 := t.hkc1 }
        ∧ t.hkc n = { s.hkc n with overruns := 0, missed := 0, overrunRaised := false, missedRaised := false }
        ∧ t.hkc (1 - n) = s.hkc (1 - n))

/-- R357 to R359, R361, R362: the SRAM banks' owners and retention. A write of NEW_OWNER starts a hand-over, which is done
at a transit boundary or abandoned after 10 µs; RET, once a boundary has put
it in force, lets a bank enter retention with 1 and wakes it with 0.
The model's choices of log 5, 13, 14, 34 enter it. -/
def Obligations.BankOwnersAndRetention : Prop :=
  (∀ (w : Writer) (b : Nat) (v : Word) (s : State), b < 64 → s.power.watchOn = true → s.bankWriteBad b v.toNat = false →
    field v.toNat 16 4 ≠ s.bankOwner b → s.handingOver b = false →
    Gives (.bankOwnerWrite w b v) s fun t =>
      t = { s with banks := t.banks, regs := t.regs, live := t.live }
        -- the live fields wait for a transit boundary
        ∧ t.live = s.live ++ [⟨.banks, true, bankCtrlOff b, v.toNat, s.time.elapsed, 0⟩]
        ∧ t.bank b = { s.bank b with pendingSince := some s.time.elapsed }
        ∧ t.bankOwner b = s.bankOwner b ∧ t.bankNewOwner b = field v.toNat 16 4
        ∧ ∀ c, c ≠ b → t.bank c = s.bank c)
  ∧ (∀ (w : Writer) (b : Nat) (v : Word) (s : State), b < 64 → s.power.watchOn = true → s.bankWriteBad b v.toNat = true →
    Gives (.bankOwnerWrite w b v) s fun t => Same { s with reject := insertNum (bankStatusOff b) s.reject } t)
  ∧ (∀ (b at_ : Nat) (s : State), b < 64 → (s.bank b).pendingSince = some at_ → s.atTransit = true →
    at_ < s.time.elapsed → s.time.elapsed ≤ at_ + 10000 * 65536 → (s.bank b).stalled = [] →
    Gives (.bankHandoverDone b) s fun t =>
      Same { s with banks := t.banks } t ∧ t.bankOwner b = s.bankNewOwner b
        ∧ t.bank b = { s.bank b with owner := some (s.bankNewOwner b), pendingSince := none }
        ∧ ∀ c, c ≠ b → t.bank c = s.bank c)
  ∧ (∀ (b at_ : Nat) (s : State), (s.bank b).pendingSince = some at_ → at_ + 10000 * 65536 ≤ s.time.elapsed →
    s.bankOwner b < 16 →
    Gives (.bankHandoverTimeout b) s fun t =>
      Same { s with banks := t.banks, regs := t.regs, out := t.out } t
        ∧ t.bankOwner b = s.bankOwner b ∧ t.bankNewOwner b = s.bankOwner b
        ∧ t.bank b = { s.bank b with
            pendingSince := none, timeout := true
            stalled := (s.bank b).stalled.filter fun i => decide (transMaster i ≠ some (s.bankNewOwner b)) }
        ∧ (∀ c, c ≠ b → t.bank c = s.bank c)
        ∧ ((∃ i, i ∈ (s.bank b).stalled ∧ transMaster i = some (s.bankNewOwner b)) → t.out = ⟨0, 2, []⟩)
        ∧ ∃ u, u.events = s.events ∧ u.sessions = s.sessions ∧ u.queues = s.queues
            ∧ t = raiseEv 0x403 (bankPayload b (s.bankNewOwner b) 0) u)
  ∧ (∀ (b at_ : Nat) (s : State), (s.bank b).pendingSince = some at_ → s.time.elapsed < at_ + 10000 * 65536 →
    Gives (.bankHandoverTimeout b) s fun t => t = s)
  -- retention: RET waits for a transit boundary, where the bank starts to enter it or to wake
  ∧ (∀ (w : Writer) (b : Nat) (ret : Bool) (v : Nat) (s : State), b < 64 → s.power.watchOn = true →
    v = setField (s.latest (bankCtrlOff b)) 1 1 (bit ret) → s.bankWriteBad b v = false →
    (field v 16 4 = s.bankOwner b ∨ s.handingOver b = true) →
    Gives (.bankRetWrite w b ret) s fun t =>
      t = { s with regs := t.regs, live := s.live ++ [⟨.banks, true, bankCtrlOff b, v, s.time.elapsed, 0⟩] }
        ∧ t.bankRet b = s.bankRet b)
  ∧ (∀ (b v at_ : Nat) (s : State), b < 64 → s.live = [⟨.banks, true, bankCtrlOff b, v, at_, 0⟩] →
    at_ < s.time.transitStart →
    Gives (.liveSettingApply .banks) s fun t =>
      t = { s with live := [], regs := t.regs, banks := t.banks } ∧ t.bankRet b = v.testBit 1
        ∧ (s.bankRet b = false → v.testBit 1 = true → (s.bank b).power = 0 → t.bank b = { s.bank b with power := 1 })
        ∧ (s.bankRet b = true → v.testBit 1 = false → (s.bank b).retainedByForge = false →
            ((s.bank b).power = 1 → t.bank b = { s.bank b with power := 0 })
            ∧ ((s.bank b).power = 2 → t.bank b = { s.bank b with power := 3 }))
        ∧ (s.bankRet b = v.testBit 1 → t.bank b = s.bank b)
        ∧ ∀ c, c ≠ b → t.bank c = s.bank c)
  ∧ (∀ (b : Nat) (s : State), (s.bank b).power = 1 → s.atTransit = true →
    ((s.bank b).stalled = [] → Gives (.bankRetentionEnter b) s fun t =>
      t = { s with banks := t.banks } ∧ t.bank b = { s.bank b with power := 2 } ∧ ∀ c, c ≠ b → t.bank c = s.bank c)
    ∧ ((s.bank b).stalled ≠ [] → Gives (.bankRetentionEnter b) s fun t => t = s))
  ∧ (∀ (b : Nat) (s : State), b < 64 → (s.bank b).power = 3 → (s.bank b).stalled = [] →
    Gives (.bankWakeDone b) s fun t =>
      t = { s with banks := t.banks } ∧ t.bank b = { s.bank b with power := bit (s.bankRet b) }
        ∧ ∀ c, c ≠ b → t.bank c = s.bank c)

/-- R356, R364 to R367, R369, R379, R380: the private port, the error counts, the Proof engine and the patrol scrub. The
Proof engine and the scrub leave every byte of both memories as it was.
The model's choices of log 7, 13, 33, 79 enter it. -/
def Obligations.BankUpkeep : Prop :=
  (∀ (anvil : Anvil) (addr : Nat) (v : Word) (s : State), addr / bankBytes = 42 → addr % 4 = 0 →
    (s.activeAnvil = some anvil → (s.bank 42).power = 0 → Gives (.privatePortWrite anvil addr v) s fun t =>
      t = { s with mem := t.mem } ∧ memReadN t.mem addr 4 = leBytes 4 v.toNat
        ∧ ∀ a, (a < addr ∨ addr + 4 ≤ a) → memRead t.mem a = memRead s.mem a)
    ∧ (s.activeAnvil ≠ some anvil ∨ (s.bank 42).power = 2 → Gives (.privatePortWrite anvil addr v) s fun t => t = s))
  -- a count's clearing is live: it waits for a boundary of its block, where the count is 0
  ∧ (∀ (b at_ : Nat) (s : State), b < 64 →
    (s.power.watchOn = true → Gives (.bankErrCountWrite b) s fun t =>
      t = { s with live := s.live ++ [⟨.banks, true, 0x3A0008 + 0x40 * b, 0, s.time.elapsed, 0⟩] })
    ∧ (s.live = [⟨.banks, true, 0x3A0008 + 0x40 * b, 0, at_, 0⟩] → at_ < s.time.transitStart →
        Gives (.liveSettingApply .banks) s fun t =>
      t = { s with live := [], banks := t.banks } ∧ t.bank b = { s.bank b with ceCount := 0, ueCount := 0 }
        ∧ ∀ c, c ≠ b → t.bank c = s.bank c))
  ∧ (∀ (m g at_ : Nat) (s : State), m < 12 → g < 8 →
    (s.power.forgeOn = true → Gives (.mtxConflictWrite m g) s fun t =>
      t = { s with live := s.live ++ [⟨.matrix, true, 0x3B0100 + 4 * (8 * m + g), 0, s.time.elapsed, 0⟩] })
    ∧ (s.live = [⟨.matrix, true, 0x3B0100 + 4 * (8 * m + g), 0, at_, 0⟩] → at_ < s.time.transitStart →
        s.forge.lanesReady = true → s.forge.lanesReadyAt < s.time.transitStart →
        Gives (.liveSettingApply .matrix) s fun t =>
      t = { s with live := [], matrix := { s.matrix with conflicts := t.matrix.conflicts } }
        ∧ mapGet t.matrix.conflicts (8 * m + g) 0 = 0
        ∧ ∀ k, k ≠ 8 * m + g → mapGet t.matrix.conflicts k 0 = mapGet s.matrix.conflicts k 0))
  ∧ (∀ (b : Nat) (s : State), s.awake = true → (s.reg 0x3B0040).testBit 0 = true → s.proof.active = false →
    s.proofDue = true → s.nextProof s.proof.bank = some b →
    Gives .proofWindowStart s fun t =>
      t = { s with proof := t.proof, banks := t.banks } ∧ t.proof.active = true ∧ t.proof.bank = b
        ∧ t.proof.startedAt = some s.time.elapsed
        ∧ (privatePort b = false → (t.bank b).borrowed = some t.proof.window)
        ∧ (privatePort b = true → t.banks = s.banks))
  ∧ (∀ (found : MemErr) (s : State), s.proof.active = true → s.awake = true →
    Gives (.proofWindowDone found) s fun t =>
      Same { s with proof := t.proof, banks := t.banks } t ∧ t.proof.active = false
        ∧ (t.bank s.proof.bank).borrowed = none
        ∧ (s.proof.window + 1 < 128 → t.proof.window = s.proof.window + 1 ∧ t.proof.bank = s.proof.bank)
        ∧ (found = .ok → t.proof.faults = s.proof.faults)
        ∧ (∀ w, found.word = some w → w / 1024 = s.proof.window → privatePort s.proof.bank = false →
            (t.bank s.proof.bank).proofFault = true ∧ t.proof.faults = min (s.proof.faults + 1) 0xFFFFFFFF)
        -- a read-only pass writes nothing and finds what a controller's read finds
        ∧ (∀ w, found = .single w → w / 1024 = s.proof.window → privatePort s.proof.bank = true →
            (t.bank s.proof.bank).ceCount = min ((s.bank s.proof.bank).ceCount + 1) 0xFFFF
              ∧ (t.bank s.proof.bank).lastErr = (false, 7, w) ∧ t.proof.faults = s.proof.faults)
        ∧ (∀ w, found = .double w → w / 1024 = s.proof.window → privatePort s.proof.bank = true →
            (t.bank s.proof.bank).ueCount = min ((s.bank s.proof.bank).ueCount + 1) 0xFFFF
              ∧ (t.bank s.proof.bank).lastErr = (true, 7, w) ∧ t.proof.faults = s.proof.faults))
  ∧ (∀ (addr : Nat) (err : MemErr) (s : State), Gives (.ddrPatrolScrub addr err) s fun t => Same s t)

/-- R357, R361, R363, R364, R369, R372, R373: accesses through the matrix. A served write stores exactly its strobed bytes
at its address, a served read returns the stored bytes, an atomic returns the old word and stores its result; an access
that a bank denies, that meets a retained bank or that no target takes leaves both memories as they were.
The model's choices of log 7, 14, 33 enter it. -/
def Obligations.MatrixAccess : Prop :=
  -- a served write of a bank, and of the LPDDR5X
  (∀ (m addr : Nat) (data : List Byte) (st : List Bool) (s : State), burstOk m (addr / 16 * 16) data.length = true →
    s.matrix.draining.contains m = false → s.matrixOn = true →
    (targetOf m (addr / 16 * 16) < 8 → s.verdict m (addr / 16 * 16 / bankBytes) needWrite = .serve →
        (s.bank (addr / 16 * 16 / bankBytes)).borrowed = none →
      Gives (.matrixWrite m addr data st .ok) s fun t =>
        t = { s with mem := t.mem, out := t.out } ∧ t.out = ⟨0, okay, []⟩
          ∧ (∀ k, k < data.length → memRead t.mem (addr / 16 * 16 + k)
              = if (st[k]?).getD true then (data[k]?).getD 0 else memRead s.mem (addr / 16 * 16 + k))
          ∧ ∀ a, (a < addr / 16 * 16 ∨ addr / 16 * 16 + data.length ≤ a) → memRead t.mem a = memRead s.mem a)
    ∧ (targetOf m (addr / 16 * 16) = 8 →
      Gives (.matrixWrite m addr data st .ok) s fun t =>
        t = { s with ddr := t.ddr, out := t.out } ∧ t.out = ⟨0, okay, []⟩
          ∧ (∀ k, k < data.length → memRead t.ddr (addr / 16 * 16 - 0x1000000000 + k)
              = if (st[k]?).getD true then (data[k]?).getD 0 else memRead s.ddr (addr / 16 * 16 - 0x1000000000 + k))
          ∧ ∀ a, (a < addr / 16 * 16 - 0x1000000000 ∨ addr / 16 * 16 - 0x1000000000 + data.length ≤ a) →
              memRead t.ddr a = memRead s.ddr a))
  -- a served read
  ∧ (∀ (m addr beats : Nat) (s : State), burstOk m (addr / 16 * 16) (16 * beats) = true →
    s.matrix.draining.contains m = false → s.matrixOn = true →
    (targetOf m (addr / 16 * 16) < 8 → s.verdict m (addr / 16 * 16 / bankBytes) needRead = .serve →
        (s.bank (addr / 16 * 16 / bankBytes)).borrowed = none →
      Gives (.matrixRead m addr beats .ok) s fun t =>
        t = { s with out := t.out } ∧ t.out.status = okay ∧ t.out.bytes = memReadN s.mem (addr / 16 * 16) (16 * beats))
    ∧ (targetOf m (addr / 16 * 16) = 8 →
      Gives (.matrixRead m addr beats .ok) s fun t =>
        t = { s with out := t.out } ∧ t.out.status = okay
          ∧ t.out.bytes = memReadN s.ddr (addr / 16 * 16 - 0x1000000000) (16 * beats)))
  -- a double-bit error in a word that is read
  ∧ (∀ (m addr beats w : Nat) (s : State), burstOk m (addr / 16 * 16) (16 * beats) = true →
    s.matrix.draining.contains m = false → s.matrixOn = true → targetOf m (addr / 16 * 16) < 8 →
    s.verdict m (addr / 16 * 16 / bankBytes) needRead = .serve →
    (s.bank (addr / 16 * 16 / bankBytes)).borrowed = none → w < 4 * beats →
    Gives (.matrixRead m addr beats (.double w)) s fun t =>
      Same { s with banks := t.banks, out := t.out } t ∧ t.out.status = errData
        ∧ (t.bank (addr / 16 * 16 / bankBytes)).ueCount = min ((s.bank (addr / 16 * 16 / bankBytes)).ueCount + 1) 0xFFFF)
  -- an atomic
  ∧ (∀ (m addr : Nat) (op : AtomicOp) (v : Word) (s : State), m < 12 → addr % 4 = 0 → targetOf m addr < 8 →
    s.matrix.draining.contains m = false → s.matrixOn = true → s.verdict m (addr / bankBytes) needAtomic = .serve →
    (s.bank (addr / bankBytes)).borrowed = none →
    Gives (.matrixAtomic m addr op v) s fun t =>
      t = { s with mem := t.mem, out := t.out } ∧ t.out.status = okay ∧ t.out.bytes = memReadN s.mem addr 4
        ∧ memReadN t.mem addr 4 = leBytes 4 (atomicResult op (leNat (memReadN s.mem addr 4)) v)
        ∧ ∀ a, (a < addr ∨ addr + 4 ≤ a) → memRead t.mem a = memRead s.mem a)
  -- denied, retained, no target
  ∧ (∀ (m addr : Nat) (data : List Byte) (st : List Bool) (err : MemErr) (s : State),
    burstOk m (addr / 16 * 16) data.length = true → s.matrix.draining.contains m = false → s.matrixOn = true →
    targetOf m (addr / 16 * 16) < 8 →
    (s.verdict m (addr / 16 * 16 / bankBytes) needWrite = .denied →
      Gives (.matrixWrite m addr data st err) s fun t => Same { s with out := t.out } t ∧ t.out.status = errAccess)
    ∧ (s.verdict m (addr / 16 * 16 / bankBytes) needWrite = .retained →
      Gives (.matrixWrite m addr data st err) s fun t => Same { s with out := t.out } t ∧ t.out.status = errRetained))
  ∧ (∀ (m addr beats : Nat) (err : MemErr) (s : State), burstOk m (addr / 16 * 16) (16 * beats) = true →
    s.matrix.draining.contains m = false → s.matrixOn = true → targetOf m (addr / 16 * 16) = 11 →
    Gives (.matrixRead m addr beats err) s fun t =>
      Same { s with
        out := t.out
        matrix := { s.matrix with decodeErr := true, decodeMaster := m, decodeAddr := addr / 16 * 16 } } t
        ∧ t.out.status = errDecode ∧ t.out.bytes = List.replicate (16 * beats) 0)

/-- R378, R386: BAR2 reads 0xFF and discards writes while the Forge is not awake, and reaches the banks from 56 on while it
is; a master's reset ends its stalled transactions and keeps a log of a write that it cuts short. -/
def Obligations.Bar2AndMasterReset : Prop :=
  (∀ (off len : Nat) (data : List Byte) (st : List Bool) (err : MemErr) (s : State), s.power.vaux = true → off < 0x200000 →
    s.awake = false →
    Gives (.bar2Read off len err) s (fun t =>
      t = { s with bar2Sleep := (s.bar2Sleep + 1) % 4294967296, out := t.out } ∧ t.out.status = okay
        ∧ t.out.bytes = List.replicate (min len (0x200000 - off)) 0xFF)
    ∧ Gives (.bar2Write off data st err) s fun t =>
      t = { s with bar2Sleep := (s.bar2Sleep + 1) % 4294967296, out := t.out })
  ∧ (∀ (off len : Nat) (s : State), s.power.vaux = true → off < 0x200000 → s.awake = true → s.matrix.draining.contains 3 = false →
    0 < len → off % 4096 + len ≤ 4096 → s.verdict 3 (56 + off / bankBytes) needRead = .serve →
    (s.bank (56 + off / bankBytes)).borrowed = none →
    Gives (.bar2Read off len .ok) s fun t =>
      t = { s with out := t.out } ∧ t.out.status = okay ∧ t.out.bytes = memReadN s.mem (56 * bankBytes + off) len)
  ∧ (∀ (off : Nat) (data : List Byte) (st : List Bool) (s : State), s.power.vaux = true → off < 0x200000 → s.awake = true →
    s.matrix.draining.contains 3 = false → data ≠ [] → off % 4096 + data.length ≤ 4096 →
    s.verdict 3 (56 + off / bankBytes) needWrite = .serve → (s.bank (56 + off / bankBytes)).borrowed = none →
    Gives (.bar2Write off data st .ok) s fun t =>
      t = { s with mem := t.mem, out := t.out }
        ∧ (∀ k, k < data.length → memRead t.mem (56 * bankBytes + off + k)
            = if (st[k]?).getD true then (data[k]?).getD 0 else memRead s.mem (56 * bankBytes + off + k))
        ∧ ∀ a, (a < 56 * bankBytes + off ∨ 56 * bankBytes + off + data.length ≤ a) → memRead t.mem a = memRead s.mem a)
  ∧ (∀ (m : Nat) (s : State), m < 12 → s.matrixOn = true →
    Gives (.masterReset m []) s fun t =>
      t = { s with banks := t.banks }
        ∧ ∀ b, b < 64 → ∀ i, i ∈ (t.bank b).stalled → transMaster i ≠ some m)
  ∧ (∀ (m : Nat) (x : Burst) (s : State), m < 12 → s.matrixOn = true → burstFits x = true → x.write = true →
    0 < x.done → x.done < x.total → addrTarget x.addr < 8 →
    Gives (.masterReset m [x]) s fun t =>
      Same { s with banks := t.banks, mem := t.mem, matrix := t.matrix } t ∧ t.matrix.draining.contains m = true
        ∧ t.matrix.log = (({ master := m, target := addrTarget x.addr, done := x.done, total := x.total, addr := x.addr
                             ns := s.nowNs % 1000000000 } : ResetLog) :: s.matrix.log).take 8
        ∧ (∀ k, k < 16 * x.done → memRead t.mem (x.addr / 16 * 16 + k) = (x.data[k]?).getD 0)
        ∧ ∀ a, (a < x.addr / 16 * 16 ∨ x.addr / 16 * 16 + 16 * x.done ≤ a) → memRead t.mem a = memRead s.mem a)
  ∧ (∀ (m : Nat) (s : State), s.matrix.draining.contains m = true → s.matrix.stalled = [] →
    Gives (.masterResetDrainDone m) s fun t =>
      t = { s with matrix := { s.matrix with draining := s.matrix.draining.filter fun k => decide (k ≠ m) } })

/-- R20, R236: the period boundaries move the clock. A transit boundary takes engine time to a multiple of 250 ns at which
at least a whole transit period has elapsed, with the frequency requested for it, where no write of a setting waits; a hold
and a trim boundary begin the period of its number. While the Watch is off they do nothing else.
The model's choices of log 6, 36, 73 enter it. -/
def Obligations.PeriodBoundaries : Prop :=
  (∀ (inp : PeriodInput) (s : State), s.time.running = true → s.live = [] →
    s.time.transitStart ≤ s.time.elapsed →
    Gives (.transitBoundary inp) s fun t =>
      t.now % transitUnits = 0 ∧ t.time.count % 65536 = 0 ∧ t.time.transitStart = t.time.elapsed
        ∧ s.now < t.now ∧ t.time.elapsed = s.time.elapsed + (t.now - s.now)
        ∧ s.time.transitStart + transitUnits ≤ t.time.transitStart ∧ t.time.freqNow = s.time.freqNext
        ∧ t.time.quality = s.time.quality ∧ t.time.req = s.time.req ∧ t.time.holdStart = s.time.holdStart
        -- the part of the period that a step stretched it by
        ∧ t.time.slackT = s.time.slackT + (t.time.elapsed - s.time.transitStart - transitUnits)
        ∧ (s.power.watchOn = false → Same { s with time := t.time, beacons := t.beacons } t))
  ∧ (∀ (inp : PeriodInput) (s : State), s.holdDue = true →
    Gives (.holdBoundary inp) s fun t =>
      t.time = { s.time with
          holdStart := s.time.elapsed, holdNo := s.now / holdUnits
          slackH := s.time.slackH + (s.time.elapsed - s.time.holdStart - holdUnits) }
        ∧ (s.power.watchOn = false → t = { s with time := t.time }))
  ∧ (∀ (s : State), s.trimDue = true →
    Gives .trimBoundary s fun t =>
      t.time = { s.time with trimStart := s.time.elapsed, trimNo := s.now / trimUnits }
        ∧ (s.power.watchOn = false → t = { s with time := t.time }))

/-- R21, R22, R25, R28: a write to a live setting waits until a boundary of its block that is later than the write. Then its
object or the live bits of its register hold the value written, and nothing else changes; a light threshold that changes
notes the boundary, at which its crossing is recorded.
The model's choices of log 5, 23, 24, 73 enter it. -/
def Obligations.LiveSettings : Prop :=
  (∀ (b : Block) (s : State), (∀ w, w ∈ s.live → w.block = b → w.due s = false) →
    Gives (.liveSettingApply b) s fun t => t = s)
  ∧ (∀ (w : LiveWrite) (ix sub : Nat) (s : State), s.live = [w] → w.due s = true → w.isReg = false →
    w.key = 256 * ix + sub → sub < 256 → 0x4000 ≤ ix → ix < 0x4800 → sub ≠ 0x15 → sub ≠ 0x16 →
    Gives (.liveSettingApply w.block) s fun t =>
      t = { s with live := [], objs := t.objs, dets := t.dets } ∧ t.obj ix sub = w.value
        ∧ (∀ d, t.det d =
            if (sub = 0x10 ∨ sub = 0x11) ∧ s.obj ix sub ≠ w.value ∧ d = 2 * (ix - 0x4000) + (sub - 0x10) then
              { s.det d with threshAt := some s.time.elapsed }
            else s.det d)
        ∧ ∀ k, k ≠ objKey ix sub → mapGet t.objs k 0 = mapGet s.objs k 0)
  ∧ (∀ (w : LiveWrite) (r : RegRow) (s : State), s.live = [w] → w.due s = true → w.isReg = true →
    regRow w.key = some r → (w.key < 0x1000 ∨ (0x1404 ≤ w.key ∧ w.key < 0x10000) ∨ (0x10800 ≤ w.key ∧ w.key < 0x360000)
      ∨ (0x370200 ≤ w.key ∧ w.key < 0x3A0000) ∨ (0x3B0000 ≤ w.key ∧ w.key < 0x3B0100) ∨ 0x3B0280 ≤ w.key) →
    w.key ≠ 0x300010 → w.key ≠ 0x300028 → w.key ≠ 0x30003C →
    Gives (.liveSettingApply w.block) s fun t =>
      t = { s with live := [], regs := t.regs }
        ∧ t.reg w.key = s.reg w.key - (s.reg w.key &&& r.live) + (w.value &&& r.live)
        ∧ ∀ o, o ≠ w.key → t.reg o = s.reg o)
  -- a session's REG_OFFSET, and an element's ELEM_MANUAL_CODE
  ∧ (∀ (w : LiveWrite) (s : State), s.live = [w] → w.due s = true → w.isReg = false →
    (w.key = objKey 0x1300 1 → Gives (.liveSettingApply w.block) s fun t =>
      t = { s with live := [], sessions := t.sessions }
        ∧ t.session w.ses = { s.session w.ses with regOffset := w.value }
        ∧ ∀ n, n ≠ w.ses → t.session n = s.session n)
    ∧ (∀ e, e < elemCount → w.key = objKey (0x8000 + e) 9 → Gives (.liveSettingApply w.block) s fun t =>
      t = { s with live := [], elems := t.elems } ∧ t.elem e = { s.elem e with manualCode := w.value }
        ∧ ∀ k, k ≠ e → t.elem k = s.elem k))

/-- R4, R22, R23, R385, R413: register writes. An offset that no block implements, or whose block is off, ignores the
write; a field out of its range, and a
quiescent field of a running block, leave it without effect but for WRITE_REJECT and its event; a quiescent field of a
stopped block takes the value at once, a live one waits. REG_DATA reads and writes the register that REG_OFFSET
names.
The model's choices of log 5, 24 enter it. -/
def Obligations.RegisterAccess : Prop :=
  (∀ (w : Writer) (off : Nat) (v : Word) (s : State), (off % 4 ≠ 0 ∨ s.power.vaux = false
      ∨ s.regPowered off = false ∨ regRow off = none) →
    Gives (.registerWrite w off v) s fun t => t = s)
  ∧ (∀ (w : Writer) (off : Nat) (v : Word) (r : RegRow) (s : State), off % 4 = 0 → s.power.vaux = true →
    s.regPowered off = true → regRow off = some r →
    (s.regBad off (v.toNat &&& (r.rw ||| r.shad ||| r.act)) = true →
      Gives (.registerWrite w off v) s fun t => Same { s with reject := insertNum (statusOf off) s.reject } t)
    ∧ (s.regBad off (v.toNat &&& (r.rw ||| r.shad ||| r.act)) = false →
      ((0x300014 ≤ off ∧ off < 0x300100) ∨ (0x360008 ≤ off ∧ off < 0x370000)) → r.shad = 0 → r.quies = 0 → r.live ≠ 0 →
      Gives (.registerWrite w off v) s fun t =>
        t = { s with live := s.live
          ++ [⟨r.block, true, off, v.toNat &&& (r.rw ||| r.shad ||| r.act) &&& r.live, s.time.elapsed, 0⟩] })
    ∧ (s.regBad off (v.toNat &&& (r.rw ||| r.shad ||| r.act)) = false →
      ((0x1000 ≤ off ∧ off < 0x1400) ∨ (0x370000 ≤ off ∧ off < 0x370200)) → off % 0x100 ≠ 0 → r.live = 0 → r.quies ≠ 0 →
      (s.regRuns off = false → Gives (.registerWrite w off v) s fun t =>
        t = { s with regs := t.regs }
          ∧ t.reg off = s.reg off - (s.reg off &&& r.quies) + (v.toNat &&& (r.rw ||| r.shad ||| r.act) &&& r.quies)
          ∧ ∀ o, o ≠ off → t.reg o = s.reg o)
      ∧ (s.regRuns off = true → v.toNat &&& (r.rw ||| r.shad ||| r.act) &&& r.quies ≠ s.reg off &&& r.quies →
        Gives (.registerWrite w off v) s fun t => Same { s with reject := insertNum (statusOf off) s.reject } t)))
  -- REG_DATA
  ∧ (∀ (ses : Nat) (v : Word) (s : State), Passes ses 0x1300 2 (leBytes 4 v.toNat) s →
    (offsetOk (s.session ses).regOffset = false → Gives (.regDataWrite ses v) s fun t => Does ses stRange s s t)
    ∧ (offsetOk (s.session ses).regOffset = true → ∃ u,
        exec (.registerWrite (.session ses) (s.session ses).regOffset v) s = .next u
          ∧ Gives (.regDataWrite ses v) s fun t => Does ses stOk u u t))
  ∧ (∀ (ses : Nat) (s : State), s.served ses = true →
    (offsetOk (s.session ses).regOffset = false → Gives (.regDataRead ses) s fun t => Does ses stRange s s t)
    ∧ (offsetOk (s.session ses).regOffset = true →
        ((0x1000 ≤ (s.session ses).regOffset ∧ (s.session ses).regOffset < 0x10000)
          ∨ (0x20000 ≤ (s.session ses).regOffset ∧ (s.session ses).regOffset < 0x300000)
          ∨ (0x300200 ≤ (s.session ses).regOffset ∧ (s.session ses).regOffset < 0x370000)) →
        Gives (.regDataRead ses) s fun t =>
          t.core = s.core ∧ t.out.status = stOk
            ∧ t.out.bytes = leBytes 4 (s.regValue (s.linkOf ses) (s.session ses).regOffset)
            ∧ (t.session ses).resp = some ⟨stOk, t.out.bytes, 4⟩))

/-- R225, R226, R233 to R238, R246, R247: the counter. It starts from the calendar or 0, is stepped or loaded at a transit
boundary, and its reads latch the seconds of the same instant for their link.
The model's choices of log 2, 5, 13, 19, 22 enter it. -/
def Obligations.CounterStartsAndSteps : Prop :=
  (∀ (s : State) (start : Nat), s.time.running = false → s.power.vaux = true →
    start = (if s.time.calValid then s.calendarNow else 0) → Gives .timePllLock s fun t =>
      Same { s with
        time := t.time, ptp0 := t.ptp0, ptp1 := t.ptp1, ptpSel := t.ptpSel
        keeper := { s.keeper with alive := true } } t
      ∧ t.events.started = true ∧ t.time.running = true ∧ t.now = start ∧ t.time.count = start * 65536
      ∧ t.time.quality = (if s.time.calValid then .calendarSeeded else .freerun)
      ∧ t.time.holdNo = start / holdUnits ∧ t.time.trimNo = start / trimUnits
      ∧ t.time.elapsed = s.time.elapsed
      -- PTP is served from here: an enabled port starts
      ∧ (∀ p, p < 2 → s.ptpEnabled p = true → (s.ptpPort p).state = 3 →
          (t.ptpPort p).state = if (s.ptpPort p).linkUp then 4 else 2)
      ∧ ((∀ p, p < 2 → ((s.ptpPort p).state = 3 ↔ s.ptpEnabled p = false)) →
          t.ptp0 = s.ptp0 ∧ t.ptp1 = s.ptp1 ∧ t.ptpSel = s.ptpSel
            ∧ t.time = { s.time with
                running := true, count := start * 65536, ticks := start * 65536
                quality := if s.time.calValid then .calendarSeeded else .freerun
                holdNo := start / holdUnits, trimNo := start / trimUnits }))
  ∧ (∀ (l : Link) (at_ : Instant) (s : State), s.power.vaux = true → s.now ≤ at_ → at_ < s.nextBoundary →
      Gives (.timeNowNsRead l at_) s fun t =>
        t = { s with time := { s.time with latches := t.time.latches }, out := t.out }
          ∧ t.out.data = at_ / 65536 % 1000000000
          ∧ t.latch l = ⟨at_ / 65536000000000, at_ % 65536⟩ ∧ ∀ k, k ≠ l → t.latch k = s.latch k)
  -- a waiting step or load
  ∧ (∀ (w : Writer) (s : State), (s.time.req ≠ none → s.time.forced = false → Gives (.timeForce w) s fun t =>
        t = { s with time := { s.time with forced := true, reqAt := s.time.elapsed } })
      ∧ ((s.time.req = none ∨ s.time.forced = true) → Gives (.timeForce w) s fun t => t = s)
      ∧ (s.time.running = true → Gives (.timeLoad w) s fun t =>
        t = { s with time := { s.time with req := some (.load s.setTime), reqAt := s.time.elapsed, deferred := false, forced := false } }))
  ∧ (∀ s : State, s.time.req ≠ none → s.time.forced = false → s.time.deferred = true → s.reg 0x300050 ≠ 0 →
      s.time.deferSince + s.reg 0x300050 * 65536000000000 ≤ s.time.elapsed →
      Gives .stepDeferTimeout s fun t =>
        t = { s with time := { s.time with forced := true, reqAt := s.time.elapsed } })
  ∧ (∀ (r : TimeReq) (s : State), s.time.req = some r → s.reqDue = true → Gives .timeStepApply s fun t =>
      t.now = (r.target s.now).1 ∧ t.time.req = none ∧ t.time.deferred = false ∧ t.time.forced = false
        ∧ t.time.discardNext = true ∧ t.time.stepCount = (s.time.stepCount + 1) % 4294967296
        ∧ t.time.lastStep = satNs (-(r.target s.now).2) ∧ t.time.elapsed = s.time.elapsed
        ∧ t.time.freqNow = s.time.freqNow
        ∧ (∀ u, r = .load u → t.time.quality = .freerun ∧ t.now = u)
        ∧ (∀ o, r = .step o → t.now = ((s.now : Int) - o).toNat
            ∧ t.time.quality = (if s.time.quality = .calendarSeeded then .freerun else s.time.quality)))
  ∧ (∀ s : State, s.reqDue = false → Gives .timeStepApply s fun t => t = s)
  ∧ (∀ (u : Instant) (s : State), s.time.req = some (.load u) →
      exec (.shadowCommitApply .timeSet) s = exec .timeStepApply s)
  -- the calendar
  ∧ (∀ (w : Writer) (s : State), s.power.vaux = true → Gives (.calWrite w) s fun t =>
      t = { s with time := { s.time with calWritePending := true } })
  ∧ (∀ s : State, s.time.running = true → s.atTransit = true → s.now % 65536000000000 = 0 →
      (s.time.calWritePending = true ∨ (s.time.quality = .locked
        ∧ (s.time.calValid = false ∨ s.time.calLastWrite + 60 * 65536000000000 ≤ s.time.elapsed))) →
      Gives .calendarWrite s fun t =>
        t = { s with time := { s.time with
          calValid := true, calValue := s.now, calLastWrite := s.time.elapsed, calWritePending := false } })

/-- R227, R230 to R232, R244, R245: PPS_IN gives the servo an offset, a large one asks for a step, and the loss of PPS_IN
leads to HOLDOVER; REFCLK_IN is lost and restored; a leap second moves UTC_OFFSET.
The model's choices of log 5, 13, 19, 20, 22 enter it. -/
def Obligations.TimeReferences : Prop :=
  (∀ (stamp : Instant) (s : State), s.time.running = true →
    (∀ u, s.time.ppsLast = some u → s.time.elapsed < u + 500000000 * 65536 →
        Gives (.ppsInEdge stamp) s fun t => t = s)
    ∧ ((∀ u, s.time.ppsLast = some u → u + 500000000 * 65536 ≤ s.time.elapsed) →
      (s.wantedRef ≠ 3 → Gives (.ppsInEdge stamp) s fun t =>
        t = { s with time := { s.time with ppsLast := some s.time.elapsed } })
      ∧ (∀ raw o : Int, raw = ((stamp : Int) - bitsInt 32 (s.reg 0x300054) * 65536) % 65536000000000 →
          o = (if raw < 500000000 * 65536 then raw else raw - 65536000000000) → s.wantedRef = 3 →
        Gives (.ppsInEdge stamp) s fun t =>
          Same { s with time := t.time } t ∧ t.now = s.now ∧ t.time.elapsed = s.time.elapsed
            ∧ t.time.ppsLast = some s.time.elapsed ∧ t.time.refPresent = true ∧ t.time.offsetLast = satNs o
            ∧ (s.time.discardNext = false → s.over o 0x300040 = true → t.time.locked = false ∨ s.time.req ≠ none)
            ∧ (s.time.discardNext = false → s.time.req = none → s.over o 0x300040 = true →
                t.time.req = some (.step o))
            ∧ (s.over o 0x300040 = false → s.time.req = none → t.time.req = none))))
  ∧ (∀ s : State, s.wantedRef = 3 → s.time.refPresent = true →
      (∀ u, s.time.ppsLast = some u → u + 1500000000 * 65536 ≤ s.time.elapsed) →
      Gives .ppsLost s fun t =>
        Same { s with time := t.time } t ∧ t.time.refPresent = false ∧ t.time.locked = false
          ∧ t.time.quality = (if s.time.quality = .locked then .holdover else s.time.quality))
  ∧ (∀ s : State,
      (s.time.clkActive = 1 → Gives .refclkLost s fun t => Same { s with time := { s.time with clkActive := 0 } } t)
      ∧ (field (s.reg 0x300010) 3 2 ≠ 0 → s.time.clkActive = 0 → Gives .refclkRestored s fun t =>
          Same { s with time := { s.time with clkActive := 1 } } t))
  ∧ (∀ s : State,
      -- at the end of the UTC day
      (s.time.leap61 ≠ s.time.leap59 → s.dayEnds = true → Gives .utcOffsetChange s fun t =>
        Same { s with time := { s.time with
          utcOffset := s.time.utcOffset + (if s.time.leap61 then 1 else -1), leap61 := false, leap59 := false } } t)
      ∧ ((s.time.leap61 = s.time.leap59 ∨ s.dayEnds = false) → Gives .utcOffsetChange s fun t => t = s))

/-- R229, R239, R240, R255: a management port's PTP messages. A one-step Sync, and a two-step one with its Follow_Up, give
the port its offset, corrected by its stamp latency, its mean path delay and its asymmetry; path delays are held eight
deep; transmit stamps are queued, dropped when the queue is full, claimed, or retired after 1 s.
The model's choices of log 5, 18, 22 enter it. -/
def Obligations.PtpMessages : Prop :=
  (∀ (p seq : Nat) (raw : Int) (s : State), s.ptpRuns p = true → (s.ptpPort p).state = 9 →
    Gives (.ptpSyncReceive p true seq raw) s (fun t =>
      t = { s with ptp0 := t.ptp0, ptp1 := t.ptp1 }
        ∧ t.ptpPort p = { s.ptpPort p with pendingSync := some (seq, raw) } ∧ t.ptpPort (1 - p) = s.ptpPort (1 - p))
    ∧ Gives (.ptpSyncReceive p false seq raw) s (fun t =>
      Same { s with ptp0 := t.ptp0, ptp1 := t.ptp1, time := t.time } t
        ∧ (s.ptpSel.selected ≠ some p → t.time = s.time)
        ∧ t.ptpPort (1 - p) = s.ptpPort (1 - p)
        ∧ t.ptpPort p = { s.ptpPort p with
            offset := raw - stampLatency p 0 - (s.ptpPort p).meanDelay - s.asymmetry p
            offsets := (s.ptpPort p).offsets + 1, pendingSync := none })
    ∧ (∀ q o, (s.ptpPort p).pendingSync = some (q, o) →
        (q ≠ seq → Gives (.ptpFollowUpReceive p seq raw) s fun t => t = s)
        ∧ (q = seq → Gives (.ptpFollowUpReceive p seq raw) s fun t =>
            Same { s with ptp0 := t.ptp0, ptp1 := t.ptp1, time := t.time } t
              ∧ (s.ptpSel.selected ≠ some p → t.time = s.time)
              ∧ t.ptpPort p = { s.ptpPort p with
                  offset := o - raw - stampLatency p 0 - (s.ptpPort p).meanDelay - s.asymmetry p
                  offsets := (s.ptpPort p).offsets + 1, pendingSync := none })))
  -- stamps of Delay_Req
  ∧ (∀ (p seq : Nat) (egress : Instant) (s : State), s.ptpRuns p = true →
    (s.twoStep p = false → Gives (.ptpDelayReqSend p seq egress) s fun t => t = s)
    ∧ (s.twoStep p = true → (s.ptpPort p).txq.length < 32 → Gives (.ptpDelayReqSend p seq egress) s fun t =>
        t = { s with ptp0 := t.ptp0, ptp1 := t.ptp1 } ∧ t.ptpPort (1 - p) = s.ptpPort (1 - p)
          ∧ t.ptpPort p = { s.ptpPort p with
              txq := (s.ptpPort p).txq ++ [s.stampOf p (if s.obj 0x3000 1 = 1 then 2 else 1) seq egress] })
    ∧ (s.twoStep p = true → 32 ≤ (s.ptpPort p).txq.length → Gives (.ptpDelayReqSend p seq egress) s fun t =>
        Same { s with ptp0 := t.ptp0, ptp1 := t.ptp1 } t
          ∧ t.ptpPort p = { s.ptpPort p with txOvf := min ((s.ptpPort p).txOvf + 1) 0xFFFF, txOverflow := true }))
  -- path delays
  ∧ (∀ (p seq : Nat) (delay d : Int) (s : State), s.ptpRuns p = true → (s.ptpPort p).state = 9 → s.twoStep p = false →
    d = delay - (stampLatency p 0 + stampLatency p 4) / 2 →
    ((s.ptpPort p).delays.length < 8 → Gives (.ptpDelayRespReceive p seq delay) s fun t =>
        t = { s with ptp0 := t.ptp0, ptp1 := t.ptp1 }
          ∧ t.ptpPort p = { s.ptpPort p with delays := d :: (s.ptpPort p).delays })
    ∧ (8 ≤ (s.ptpPort p).delays.length → (d - (s.ptpPort p).meanDelay).natAbs ≤ 100 * 65536 →
        Gives (.ptpDelayRespReceive p seq delay) s fun t =>
          t = { s with ptp0 := t.ptp0, ptp1 := t.ptp1 }
            ∧ t.ptpPort p = { s.ptpPort p with delays := (d :: (s.ptpPort p).delays).take 8, rejects := 0 })
    ∧ (8 ≤ (s.ptpPort p).delays.length → 100 * 65536 < (d - (s.ptpPort p).meanDelay).natAbs →
        (s.ptpPort p).rejects + 1 < 8 → Gives (.ptpDelayRespReceive p seq delay) s fun t =>
          t = { s with ptp0 := t.ptp0, ptp1 := t.ptp1 }
            ∧ t.ptpPort p = { s.ptpPort p with rejects := (s.ptpPort p).rejects + 1 }))
  -- a two-step transmitter takes the stamp of its request from the queue
  ∧ (∀ (p seq : Nat) (delay : Int) (s : State), s.ptpRuns p = true → s.twoStep p = true →
    (claim (seq % 65536) [1, 2] (s.ptpPort p).txq = none →
      Gives (.ptpDelayRespReceive p seq delay) s fun t => t = s)
    ∧ (∀ x l, claim (seq % 65536) [1, 2] (s.ptpPort p).txq = some (x, l) → (s.ptpPort p).state = 9 →
      (s.ptpPort p).delays.length < 8 → Gives (.ptpDelayRespReceive p seq delay) s fun t =>
        t = { s with ptp0 := t.ptp0, ptp1 := t.ptp1 }
          ∧ t.ptpPort p = { s.ptpPort p with
              txq := l
              delays := ((delay - x.stamp) / 2 - (stampLatency p 0 + stampLatency p 4) / 2) :: (s.ptpPort p).delays }))
  ∧ (∀ (p seq : Nat) (egress : Instant) (s : State), p < 2 → s.ptpEnabled p = true → (s.ptpPort p).linkUp = true →
    s.obj 0x3000 1 = 1 →
    (s.twoStep p = false → Gives (.ptpPdelayReqReceive p seq egress) s fun t => t = s)
    ∧ (s.twoStep p = true → (s.ptpPort p).txq.length < 32 → Gives (.ptpPdelayReqReceive p seq egress) s fun t =>
        t = { s with ptp0 := t.ptp0, ptp1 := t.ptp1 } ∧ (t.ptpPort p).txq.length = (s.ptpPort p).txq.length
          ∧ t.ptpPort p = { s.ptpPort p with txq := (t.ptpPort p).txq, followUp := (t.ptpPort p).followUp }
          -- the stamp of the answer is claimed for its follow-up
          ∧ (∃ u, (t.ptpPort p).followUp = some u ∧ u.seq = seq % 65536 ∧ u.msg = 3)
          ∧ (claim (seq % 65536) [3] (s.ptpPort p).txq = none →
              (t.ptpPort p).txq = (s.ptpPort p).txq ∧ (t.ptpPort p).followUp = some (s.stampOf p 3 seq egress)))
    ∧ (s.twoStep p = true → 32 ≤ (s.ptpPort p).txq.length → claim (seq % 65536) [3] (s.ptpPort p).txq = none →
        Gives (.ptpPdelayReqReceive p seq egress) s fun t =>
          Same { s with ptp0 := t.ptp0, ptp1 := t.ptp1 } t
            ∧ t.ptpPort p = { s.ptpPort p with
                txOvf := min ((s.ptpPort p).txOvf + 1) 0xFFFF, txOverflow := true, followUp := none }))
  ∧ (∀ (p : Nat) (s : State), p < 2 → Gives (.txqStaleRetire p) s fun t =>
      t = { s with ptp0 := t.ptp0, ptp1 := t.ptp1 } ∧ t.ptpPort (1 - p) = s.ptpPort (1 - p)
        ∧ (∀ x, x ∈ (t.ptpPort p).txq ↔ x ∈ (s.ptpPort p).txq ∧ s.time.elapsed < x.at_ + 65536000000000)
        ∧ (t.ptpPort p).txStale
            = ((s.ptpPort p).txStale + ((s.ptpPort p).txq.length - (t.ptpPort p).txq.length)) % 4294967296)

/-- R227, R239 to R242: the port states and the choice between the ports. An Announce gives the port the best of the masters it
hears, their silence takes it away, a link that is down makes the port FAULTY, and a better port is selected after its hold.
The model's choices of log 12, 13, 18, 20 enter it. -/
def Obligations.PtpPortsAndSelection : Prop :=
  (∀ (p : Nat) (ds : MasterDs) (utc : UtcInfo) (s : State), p < 2 → s.time.running = true → s.ptpEnabled p = true →
    (s.ptpPort p).linkUp = true →
    ((utc.interval < -3 ∨ 4 < utc.interval) → Gives (.ptpAnnounceReceive p ds utc) s fun t => t = s)
    -- the best of the masters heard, of which those that have gone silent leave
    ∧ (∀ (l : List Foreign) (best : Foreign), -3 ≤ utc.interval → utc.interval ≤ 4 →
      ((s.ptpPort p).state = 4 ∨ (s.ptpPort p).state = 8 ∨ (s.ptpPort p).state = 9) →
      l = heard ⟨ds, utc, s.time.elapsed⟩ (s.ptpPort p).foreign →
      best = l.foldl (s.betterMaster p) ⟨ds, utc, s.time.elapsed⟩ →
      Gives (.ptpAnnounceReceive p ds utc) s fun t =>
        Same { s with ptp0 := t.ptp0, ptp1 := t.ptp1, ptpSel := t.ptpSel, time := t.time } t
          ∧ t.ptpPort (1 - p) = s.ptpPort (1 - p)
          ∧ ((∃ u, (s.ptpPort p).utc = some u ∧ u.source = best.utc.source) →
              t.ptpPort p = { s.ptpPort p with foreign := l, master := some best.ds, utc := some best.utc })
          -- a new master starts the measurements again
          ∧ ((∀ u, (s.ptpPort p).utc = some u → u.source ≠ best.utc.source) →
              t.ptpPort p = { s.ptpPort p with
                foreign := l, master := some best.ds, utc := some best.utc
                state := 8, delays := [], rejects := 0, offsets := 0, pendingSync := none })))
  ∧ (∀ (p : Nat) (s : State), p < 2 → ((s.ptpPort p).state = 8 ∨ (s.ptpPort p).state = 9) →
      (s.masterSilent p = true → Gives (.announceReceiptTimeout p) s fun t =>
        Same { s with ptp0 := t.ptp0, ptp1 := t.ptp1, ptpSel := t.ptpSel, time := t.time } t
          ∧ t.ptpPort p = { s.ptpPort p with
              state := 4, master := none, utc := none, foreign := [], pendingSync := none }
          ∧ t.ptpSel.selected ≠ some p)
      ∧ (s.masterSilent p = false → Gives (.announceReceiptTimeout p) s fun t => t = s))
  ∧ (∀ (p at_ : Nat) (s : State), s.ptpSel.better = some (p, at_) → s.bestPort = some p →
      at_ + s.obj 0x3000 4 * 65536000000000 ≤ s.time.elapsed →
      Gives .ptpSelHoldExpire s fun t =>
        Same { s with ptpSel := t.ptpSel, time := t.time } t
          ∧ t.ptpSel.selected = some p ∧ t.ptpSel.better = none)
  ∧ (∀ (p : Nat) (up : Bool) (s : State), p < 2 → s.power.vaux = true → (s.ptpPort p).linkUp = !up →
      Gives (.mgtLinkChange p up) s fun t =>
        Same { s with
          ptp0 := t.ptp0, ptp1 := t.ptp1, ptpSel := t.ptpSel, time := t.time, freeCtr := s.freeCtr + 1 } t
          ∧ (t.ptpPort p).linkUp = up ∧ t.ptpPort (1 - p) = s.ptpPort (1 - p)
          ∧ (s.ptpEnabled p = false → (t.ptpPort p).state = (s.ptpPort p).state)
          ∧ (s.ptpEnabled p = true → (s.ptpPort p).state ≠ 3 → up = false →
              (t.ptpPort p).state = 2 ∧ ((s.ptpPort p).state ≠ 2 → t.ptpSel.selected ≠ some p))
          ∧ (s.ptpEnabled p = true → (s.ptpPort p).state = 2 → up = true → (t.ptpPort p).state = 4))

/-- R248, R249: the capture inputs. An enabled edge enters the input's FIFO with its stamp, cut to 250 ps; one less than 8 ns
after the last is missed, one that finds 16 entries is counted; a read pops and latches the oldest.
What the engine answers is read at the model's output port (log 14). -/
def Obligations.Captures : Prop :=
  (∀ (i : Nat) (rising : Bool) (stamp : Instant) (s : State), i < 8 → s.power.vaux = true →
    s.time.running = true →
    (s.captures i rising = false → Gives (.tsInEdge i rising stamp) s fun t => t = s)
    ∧ (∀ l, s.captures i rising = true → (s.capture_ i).last = some l → l ≤ stamp / 16384 * 16384 →
        stamp / 16384 * 16384 < l + 8 * 65536 → Gives (.tsInEdge i rising stamp) s fun t =>
          t = { s with caps := t.caps }
            ∧ t.capture_ i = { s.capture_ i with missed := min ((s.capture_ i).missed + 1) 255 }
            ∧ ∀ k, k ≠ i → t.capture_ k = s.capture_ k)
    ∧ (s.captures i rising = true →
        (∀ l, (s.capture_ i).last = some l →
          stamp / 16384 * 16384 < l ∨ l + 8 * 65536 ≤ stamp / 16384 * 16384) →
        ((s.capture_ i).fifo.length < 16 → Gives (.tsInEdge i rising stamp) s fun t =>
          t = { s with caps := t.caps }
            ∧ t.capture_ i = { s.capture_ i with
                fifo := (s.capture_ i).fifo ++ [(stamp / 16384 * 16384, rising)]
                last := some (stamp / 16384 * 16384) }
            ∧ ∀ k, k ≠ i → t.capture_ k = s.capture_ k)
        ∧ (16 ≤ (s.capture_ i).fifo.length → Gives (.tsInEdge i rising stamp) s fun t =>
          Same { s with caps := t.caps } t
            ∧ t.capture_ i = { s.capture_ i with ovf := min ((s.capture_ i).ovf + 1) 0xFFFF, overflow := true }
            ∧ (∀ k, k ≠ i → t.capture_ k = s.capture_ k)
            ∧ ((s.capture_ i).overflow = true → t = { s with caps := t.caps })
            ∧ ((s.capture_ i).overflow = false → ∃ u, u.events = s.events ∧ u.sessions = s.sessions
                ∧ u.queues = s.queues ∧ t = raiseEv (0x110 + i) (leBytes 4 (t.capture_ i).ovf) u))))
  ∧ (∀ (i : Nat) (s : State), i < 8 → s.power.vaux = true →
    ((s.capture_ i).fifo = [] → Gives (.timeCapNsRead i) s fun t =>
      t = { s with out := t.out } ∧ t.out.data = 0xFFFFFFFF)
    ∧ (∀ e rest, (s.capture_ i).fifo = e :: rest → Gives (.timeCapNsRead i) s fun t =>
      t = { s with caps := t.caps, out := t.out } ∧ t.out.data = e.1 / 65536 % 1000000000
        ∧ t.capture_ i = { s.capture_ i with fifo := rest, latched := some e }
        ∧ ∀ k, k ≠ i → t.capture_ k = s.capture_ k))

/-- R252, R253: the beacons. ARM takes a snapshot of the shadow settings, is rejected where they break their limits, and sets
LATE for a ONE_SHOT start less than 2 µs away; the snapshot comes into force at a transit boundary; pulses begin at the
grid's points and last their width, at the level that POLARITY makes the active one.
The model's choices of log 13, 21 enter it. -/
def Obligations.Beacons : Prop :=
  (∀ (w : Writer) (j : Nat) (s : State), j < 8 → s.power.vaux = true →
    ((s.beaconShadow j).ok = false → Gives (.beaconArm w j) s fun t =>
      Same { s with reject := insertNum 0x30000C s.reject } t)
    ∧ ((s.beaconShadow j).ok = true → (s.beaconShadow j).mode = 1 →
        (s.beaconShadow j).start < s.now + 2000 * 65536 → Gives (.beaconArm w j) s fun t =>
          Same { s with beacons := t.beacons } t
            ∧ t.beacon j = { s.beacon j with late := true, state := 0, next := none, fall := none, snapshot := none })
    ∧ ((s.beaconShadow j).ok = true →
        ((s.beaconShadow j).mode ≠ 1 ∨ s.now + 2000 * 65536 ≤ (s.beaconShadow j).start) →
        Gives (.beaconArm w j) s fun t =>
          t = { s with beacons := t.beacons }
            ∧ t.beacon j = { s.beacon j with
                snapshot := some (s.beaconShadow j, s.now), snapAt := s.time.elapsed, stopping := false }
            ∧ ∀ k, k ≠ j → t.beacon k = s.beacon k))
  ∧ (∀ (j : Nat) (s : State), j < 8 → s.power.vaux = true → Gives (.beaconStop j) s fun t =>
      t = { s with beacons := t.beacons } ∧ t.beacon j = { s.beacon j with stopping := true }
        ∧ ∀ k, k ≠ j → t.beacon k = s.beacon k)
  ∧ (∀ (j : Nat) (c : BeaconCfg) (at_ : Instant) (s : State), j < 8 → s.atTransit = true →
      (s.beacon j).snapshot = some (c, at_) → (s.beacon j).snapAt < s.time.elapsed → (s.beacon j).fall = none → Gives (.shadowCommitApply (.beacon j)) s fun t =>
        t = { s with beacons := t.beacons }
          ∧ t.beacon j = { s.beacon j with
              active := c, snapshot := none, realign := false, state := if c.mode = 0 then 0 else 1
              next := if c.mode = 0 then none else if c.mode = 1 then some c.start
                else some (gridPoint c.start c.period (at_ + 2000 * 65536)) }
          ∧ ∀ k, k ≠ j → t.beacon k = s.beacon k)
  ∧ (∀ (j : Nat) (at_ : Instant) (s : State), j < 8 → s.time.running = true → at_ < s.nextBoundary →
      ((s.beacon j).fall = none → (s.beacon j).next = some at_ → Gives (.beaconEdge j) s fun t =>
        t = { s with beacons := t.beacons }
          ∧ t.beacon j = { s.beacon j with
              state := 2, fall := some (at_ + (s.beacon j).active.width * 65536)
              next := if (s.beacon j).active.mode = 2 then some (at_ + (s.beacon j).active.period * 65536) else none
              realigned := (s.beacon j).realigned || (s.beacon j).realign, realign := false }
          ∧ (t.beacon j).level = !(s.beacon j).active.polarity)
      ∧ ((s.beacon j).fall = some at_ → Gives (.beaconEdge j) s fun t =>
        t = { s with beacons := t.beacons }
          ∧ t.beacon j = { s.beacon j with
              fall := none, state := if (s.beacon j).next.isNone then 0 else (s.beacon j).state }
          ∧ (t.beacon j).level = (s.beacon j).active.polarity))

/-- R21, R430 to R434: the egress gates of a management port. GATE_ENABLE is a live setting. GATE_COMMIT refuses a list that breaks its limits with
GATE_REJECT, and otherwise holds it until its instant; entries follow one another in turn; a frame leaves where it ends
within its class's window, waits where it does not, and is dropped where no window takes it.
The model's choices of log 5, 13, 57, 73 enter it. -/
def Obligations.EgressGates : Prop :=
  (∀ (ses p v : Nat) (s : State), Passes ses (0x3540 + p) 4 (valBytes 1 v) s →
    (v = 0 → Gives (.gateCommit ses p v) s fun t => Does ses stOk s s t)
    ∧ (v ≠ 0 → gateReject (s.gateShadow p).2 ≠ 0 → Gives (.gateCommit ses p v) s fun t =>
        Does ses stRange s { s with gate0 := t.gate0, gate1 := t.gate1 } t
          ∧ t.gate p = { s.gate p with reject := gateReject (s.gateShadow p).2 })
    ∧ (v ≠ 0 → gateReject (s.gateShadow p).2 = 0 → Gives (.gateCommit ses p v) s fun t =>
        Does ses stOk s { s with gate0 := t.gate0, gate1 := t.gate1, blobs := t.blobs } t
          ∧ ∃ l : GateList, l = ⟨time96Of (s.gateShadow p).1,
              gateEntries (s.gateShadow p).2 ((s.gateShadow p).2.length / 8)⟩
            ∧ t.gate p = { s.gate p with
                committed := some l, reject := 0
                changeAt := if (s.gate p).enable then l.startAfter s.now else 0 }))
  ∧ (∀ (ses p v : Nat) (s : State), Passes ses (0x3540 + p) 1 (valBytes 1 v) s →
    Gives (.gateEnableWrite ses p v) s fun t =>
      t = { s with live := t.live, sessions := t.sessions }
        ∧ t.live = s.live ++ [⟨.dispatch, false, objKey (0x3540 + p) 1, v, s.time.elapsed, 0⟩]
        ∧ t.session ses = { s.session ses with storing := some (objKey (0x3540 + p) 1, valBytes 1 v) }
        ∧ ∀ n, n ≠ ses → t.session n = s.session n)
  -- at a boundary later than the write, and than the lanes' being ready, it is in force
  ∧ (∀ (p v : Nat) (at_ : Instant) (s : State), p < 2 → v ≤ 1 →
    s.live = [⟨.dispatch, false, objKey (0x3540 + p) 1, v, at_, 0⟩] → at_ < s.time.transitStart →
    s.forge.lanesReady = true → s.forge.lanesReadyAt < s.time.transitStart →
    Gives (.liveSettingApply .dispatch) s fun t =>
      t = { s with live := [], gate0 := t.gate0, gate1 := t.gate1, objs := t.objs }
        ∧ (t.gate p).enable = decide (v = 1) ∧ t.obj (0x3540 + p) 1 = v ∧ t.gate (1 - p) = s.gate (1 - p)
        ∧ (v = 1 → (t.gate p).active = (s.gate p).active ∧ (t.gate p).committed = (s.gate p).committed)
        ∧ (v = 1 → (s.gate p).enable = false → ∀ l, (s.gate p).committed = some l →
            (t.gate p).changeAt = l.startAfter s.now)
        -- without gating every gate is open, and the last list committed stands to be scheduled again
        ∧ (v = 0 → (t.gate p).active = none ∧ (t.gate p).changeAt = 0
            ∧ (t.gate p).committed = (s.gate p).committed.or (s.gate p).active))
  ∧ (∀ (p : Nat) (l : GateList) (s : State), p < 2 → (s.gate p).committed = some l →
    ((s.gate p).changeAt ≠ 0 → (s.gate p).changeAt ≤ s.now → Gives (.gateListApply p) s fun t =>
      Same { s with gate0 := t.gate0, gate1 := t.gate1 } t ∧ t.gate (1 - p) = s.gate (1 - p)
        ∧ t.gate p = { s.gate p with
            active := some l, committed := none, entry := 0, entryEnd := (s.gate p).changeAt + l.interval 0
            changeAt := 0, held := false })
    ∧ (s.now < (s.gate p).changeAt → Gives (.gateListApply p) s fun t => t = s))
  ∧ (∀ (p : Nat) (s : State), exec (.shadowCommitApply (.gate p)) s = exec (.gateListApply p) s)
  ∧ (∀ (p : Nat) (l : GateList) (s : State), p < 2 → (s.gate p).active = some l → (s.gate p).entryEnd ≤ s.now →
    ((s.gate p).held = false → Gives (.gateEntryAdvance p) s fun t =>
      t = { s with gate0 := t.gate0, gate1 := t.gate1 } ∧ t.gate (1 - p) = s.gate (1 - p)
        ∧ t.gate p = { s.gate p with
            entry := ((s.gate p).entry + 1) % l.entries.length
            entryEnd := (s.gate p).entryEnd + l.interval (((s.gate p).entry + 1) % l.entries.length) })
    ∧ ((s.gate p).held = true → Gives (.gateRealign p) s fun t =>
      t = { s with gate0 := t.gate0, gate1 := t.gate1 } ∧ t.gate (1 - p) = s.gate (1 - p)
        ∧ t.gate p = { s.gate p with
            held := false, entry := 0, entryEnd := (s.gate p).entryEnd + l.interval 0 }))
  -- frames
  ∧ (∀ (p cls len : Nat) (s : State), p < 2 → cls < 4 → s.power.vaux = true → s.obj 0x1400 (0x10 + p) ≠ 1 →
    ((s.gate p).active = none → cls ≠ 1 → Gives (.egressFrameStart p cls len) s fun t =>
      t = { s with gate0 := t.gate0, gate1 := t.gate1 }
        ∧ t.gate p = { s.gate p with sent := (s.gate p).sent + 1 } ∧ t.gate (1 - p) = s.gate (1 - p))
    ∧ (∀ l w, (s.gate p).active = some l → (s.gate p).enable = true → l.longest cls = some w →
        (w * 65536 < s.frameTime p len → Gives (.egressFrameStart p cls len) s fun t =>
          Same { s with gate0 := t.gate0, gate1 := t.gate1 } t
            ∧ (t.gate p).oversize = ((s.gate p).oversize + 1) % 4294967296 ∧ (t.gate p).sent = (s.gate p).sent)
        ∧ (s.frameTime p len ≤ w * 65536 → s.windowLeft p cls = some 0 → Gives (.egressFrameStart p cls len) s fun t => t = s)
        ∧ (∀ left, s.frameTime p len ≤ w * 65536 → s.windowLeft p cls = some left → left ≠ 0 →
            (left < s.frameTime p len → Gives (.egressFrameStart p cls len) s fun t =>
              t = { s with gate0 := t.gate0, gate1 := t.gate1 }
                ∧ t.gate p = { s.gate p with waits := ((s.gate p).waits + 1) % 4294967296 })
            ∧ (s.frameTime p len ≤ left → cls ≠ 1 → Gives (.egressFrameStart p cls len) s fun t =>
              t = { s with gate0 := t.gate0, gate1 := t.gate1 }
                ∧ t.gate p = { s.gate p with sent := (s.gate p).sent + 1 }))))

/-- R56, R61, R79, R112: a plan query plans its records against the planned configuration, or the active one while a schedule is not
IDLE, answers with the plan's status, keeps the plan as the session's last result and changes nothing else.
The model's choices of log 8, 44, 70 enter it. -/
def Obligations.PlanQueries : Prop :=
  ∀ (ses ns : Nat) (v : List Byte) (s : State), Passes ses 0x2000 1 v s →
    ∃ p : Plan, p = (if s.sched.state = .idle
        then makePlan s s.plannedCfg (s.generationPlus s.pendingBatches.length) (parseRecs v (v.length / 32)) ns
        else makePlan s s.active (s.generationPlus 0) (parseRecs v (v.length / 32)) ns)
      ∧ Gives (.planQuery ses v ns) s fun t =>
          Does ses p.status s { s with planner := t.planner } t
            ∧ t.planner = { s.planner with
                count := (s.planner.count + 1) % 4294967296, timeMax := max s.planner.timeMax ns
                results := t.planner.results }
            ∧ mapGet t.planner.results ses {} = p
            ∧ ∀ k, k ≠ ses → mapGet t.planner.results k {} = mapGet s.planner.results k {}

/-- R82, R84 to R89, R97, R98, R101: a batch's way to PENDING. A submission that no rule refuses waits in PLANNING unanswered, a refused
one is closed as FAILED and answered; a plan that holds makes it PENDING, one that does not fails it; FIRE and CANCEL
reach a HELD batch.
The model's choices of log 8, 13, 45, 70, 71 enter it. -/
def Obligations.BatchSubmission : Prop :=
  (∀ (ses : Nat) (v : List Byte) (s : State), Passes ses 0x2200 1 v s →
    (headerBad v = true → Gives (.batchSubmit ses v) s fun t => Does ses stRange s s t)
    ∧ (headerBad v = false → s.submitStatus (parseBatch ses s.nextBatch v) = stOk →
        Gives (.batchSubmit ses v) s fun t =>
          t = { s with
            sessions := t.sessions, nextBatch := nextBatchId s.nextBatch
            batches := s.batches ++ [parseBatch ses s.nextBatch v] }
            ∧ t.session ses = { s.session ses with lastBatch := s.nextBatch }
            ∧ ∀ k, k ≠ ses → t.session k = s.session k)
    ∧ (∀ st, headerBad v = false → (∀ b, b ∈ s.batches → b.id ≠ s.nextBatch) →
        s.submitStatus (parseBatch ses s.nextBatch v) = st → st ≠ stOk → Gives (.batchSubmit ses v) s fun t =>
          t.core = { s with nextBatch := nextBatchId s.nextBatch, closed := t.closed }.core
            ∧ t.closed = ({ parseBatch ses s.nextBatch v with state := .failed, status := st } :: s.closed).take 64
            ∧ (t.session ses).resp = some ⟨st, [], 0⟩ ∧ (t.session ses).lastBatch = s.nextBatch))
  -- the plan of the one batch that is not closed, once the Forge is awake
  ∧ (∀ (id ns : Nat) (s : State), s.awake = false → Gives (.batchPlanComplete id ns) s fun t => t = s)
  ∧ (∀ (b : Batch) (ns : Nat) (s : State), s.batches = [b] → b.state = .planning → b.hold = false → b.origin = 0 →
    b.moves = [] → b.imageReady = false → s.awake = true →
    (∀ p, b.mode = 0 → p = makePlan s s.active (s.generationPlus 0) b.records ns →
      (p.status = stOk → s.batchBarred = false → Gives (.batchPlanComplete b.id ns) s fun t =>
        t.core = { s with batches := t.batches, planner := t.planner, image := none }.core
          ∧ t.batches = [{ b with
              t0 := s.nextBoundary, late := false, plan := p, status := stOk, state := .pending }]
          ∧ (t.session b.session).resp = some ⟨stOk, [], 0⟩)
      -- a plan that fails, or one that completes where BATCH_SUBMIT would be refused by now
      ∧ (∀ st, ((p.status ≠ stOk ∧ st = p.status) ∨ (p.status = stOk ∧ s.batchBarred = true ∧ st = stNotEligible)) →
        Gives (.batchPlanComplete b.id ns) s fun t =>
        t.core = { s with batches := [], planner := t.planner, closed := t.closed }.core
          ∧ (∃ c, t.closed = (c :: s.closed).take 64 ∧ c.id = b.id ∧ c.state = .failed ∧ c.status = st)
          ∧ (t.session b.session).resp = some ⟨st, [], 0⟩))
    ∧ (b.mode = 1 → b.tReq ≤ s.now → b.allowLate = false → Gives (.batchPlanComplete b.id ns) s fun t =>
        t.core = { s with batches := [], closed := t.closed }.core
          ∧ t.closed = ({ b with state := .failed, status := stLate } :: s.closed).take 64
          ∧ (t.session b.session).resp = some ⟨stLate, [], 0⟩))
  -- FIRE and CANCEL
  ∧ (∀ (ses id : Nat) (s : State), Passes ses 0x2200 3 (leBytes 4 id) s →
    ((∀ b, s.batch id = some b → b.state ≠ .held) → Gives (.batchFire ses id) s fun t => Does ses stNotEligible s s t)
    ∧ (∀ b, s.batch id = some b → b.state = .held → Gives (.batchFire ses id) s fun t =>
        Does ses stOk s { s with batches := t.batches } t
          ∧ ∃ t0, (t.batches = s.batches.map fun c =>
                if c.id = id then { b with state := .pending, fired := true, t0 := t0 } else c)
              ∧ s.nextBoundary ≤ t0
              ∧ (∀ c, c ∈ s.pendingBatches → c.state = .pending → c.t0 + transitUnits ≤ t0)
              ∧ ((∀ c, c ∈ s.pendingBatches → c.state ≠ .pending) → t0 = s.nextBoundary)))
  ∧ (∀ (ses id : Nat) (s : State), Passes ses 0x2200 4 (leBytes 4 id) s →
    ((∀ b, s.batch id = some b → b.state ≠ .held ∧ (b.state ≠ .pending ∨ b.t0 < s.now + 10000 * 65536)) →
      Gives (.batchCancel ses id) s fun t => Does ses stNotEligible s s t)
    ∧ (∀ b, s.batches = [b] → b.id = id → (b.state = .held ∨ (b.state = .pending ∧ s.now + 10000 * 65536 ≤ b.t0)) →
      Gives (.batchCancel ses id) s fun t =>
        Does ses stOk s { s with
          batches := [], closed := ({ b with state := .cancelled } :: s.closed).take 64
          image := if s.sched.state = .idle then none else s.image } t))

/-- R17, R74, R77, R90, R93 to R95, R301: the commit. The next batch due, once its route image stands in the inactive copy, commits at a
transit boundary that is its T0 or later: its configuration is in force, the generation advances by one, and every pending batch's
image is to be written anew. In FAIL_STATIC it fails at its T0. A batch not settled 100 µs after T0 closes LATE_SETTLED.
The model's choices of log 5, 45, 71 enter it. -/
def Obligations.BatchCommits : Prop :=
  (∀ s : State, s.awake = false → Gives .routeImageComplete s fun t => t = s)
  ∧ (∀ (b : Batch) (rest : List Batch) (s : State), s.awake = true → s.sched.imageCopy = false →
    s.pendingBatches = b :: rest → b.imageReady = false →
    ((b.state = .held ∨ (b.state = .pending ∧ b.late = false
        ∧ ((b.mode = 1 ∧ s.now < b.tReq) ∨ (b.mode = 0 ∧ b.fired = true ∧ s.now < b.t0)))) →
      Gives .routeImageComplete s fun t =>
      t = { s with image := some (b.id, b.plan.after.routes), batches := t.batches }
        ∧ t.batches = s.batches.map fun c => if c.id = b.id then { b with imageReady := true } else c)
    -- an IMMEDIATE batch, or one whose T0 has come, commits at the next boundary; a late image raises 0x646
    ∧ (b.state = .pending → ((b.mode = 0 ∧ b.fired = false) ∨ b.late = true) → Gives .routeImageComplete s fun t =>
      t = { s with image := some (b.id, b.plan.after.routes), batches := t.batches }
        ∧ t.batches.map (·.id) = s.batches.map (·.id)
        ∧ ∀ c, c ∈ t.batches → c.id = b.id → (∀ r, r ∈ rest → r.id ≠ b.id) →
            c = { b with imageReady := true, t0 := s.nextBoundary })
    ∧ (b.state = .pending → b.mode = 1 → b.late = false → b.tReq ≤ s.now → b.t0 ≤ s.now →
      Gives .routeImageComplete s fun t =>
        Same { s with image := some (b.id, b.plan.after.routes), batches := t.batches } t
          ∧ t.batches.map (·.id) = s.batches.map (·.id)
          ∧ ∀ c, c ∈ t.batches → c.id = b.id → (∀ r, r ∈ rest → r.id ≠ b.id) →
              c = { b with imageReady := true, t0 := s.nextBoundary }))
  -- a watch's image
  ∧ (∀ (s : State), s.awake = true → s.sched.imageCopy = true → Gives .routeImageComplete s fun t =>
      Same { s with
        image := some (0, (s.cfg s.nextCommit.2).image.routes)
        sched := { s.sched with imageReady := true, imageCopy := false } } t
        ∧ (s.now < s.nextCommit.1 → t.events = s.events))
  ∧ (∀ (b : Batch) (rest : List Batch) (s : State), s.pendingBatches = b :: rest →
    (s.failStatic = false → b.state = .pending → b.imageReady = true → b.t0 ≤ s.now → s.atTransit = true →
      s.awake = true → Gives .batchCommit s fun t =>
      t.active = b.plan.after ∧ t.commitCount = (s.commitCount + 1) % 4294967296 ∧ t.image = none
        ∧ t.genCount = (if s.genCount + 1 = 2 ^ 40 then 0 else s.genCount + 1)
        ∧ t.digest = b.plan.after.digest t.generation
        ∧ t.digests = ((t.generation, s.now, t.digest) :: s.digests).take 64
        ∧ t.time = s.time ∧ t.objs = s.objs ∧ t.mem = s.mem
        ∧ ∀ c, c ∈ t.batches → c.pending = true → c.imageReady = false)
    ∧ ((b.state ≠ .pending ∨ s.now < b.t0 ∨ s.atTransit = false
        ∨ (s.failStatic = false ∧ (b.imageReady = false ∨ s.awake = false))) → Gives .batchCommit s fun t => t = s)
    ∧ (s.failStatic = true → s.batches = [b] → b.origin ≠ 1 → b.state = .pending → b.t0 ≤ s.now → s.atTransit = true →
      Gives .batchCommit s fun t =>
        Same { s with
          batches := [], closed := ({ b with state := .failed, status := stNotEligible } :: s.closed).take 64
          image := if s.sched.state = .idle then none else s.image } t))
  ∧ (∀ (b : Batch) (s : State), s.batches = [b] → b.state = .moving → b.mode ≠ 2 →
    b.t0Elapsed + 100000 * 65536 ≤ s.clock true → Gives (.batchSettleLimit b.id) s fun t =>
      t.apart = s.apart ∧ t.batches = [] ∧ t.lateBatches = (s.lateBatches + 1) % 4294967296
        ∧ ∃ c, t.closed = (c :: s.closed).take 64 ∧ c.id = b.id ∧ c.state = .lateSettled)

/-- R17, R70, R71: a re-route, planned by the awake Forge. Where none is allowed its legs stay DEGRADED for another try; a
leg for which no path is found becomes DEGRADED; those that are placed become an IMMEDIATE batch of session 30.
The model's choices of log 8, 44, 45, 70, 71 enter it. -/
def Obligations.ReroutePlans : Prop :=
  ∀ (ns : Nat) (all legs : List Nat) (s : State), s.planner.reroute = some all →
    (legs = all.filter fun l => (s.active.slot l).isLeg && s.legFaulted l) →
    (s.awake = false → Gives (.reroutePlanComplete ns) s fun t => t = s)
    ∧ (s.awake = true → s.rerouteAllowed = false → Gives (.reroutePlanComplete ns) s fun t =>
        t.apart = s.apart ∧ t.planner.reroute = none ∧ t.planner.retry = true ∧ t.batches = s.batches
          ∧ (∀ l, l ∈ legs → (t.leg l).state = .degraded) ∧ (∀ l, l ∉ legs → t.leg l = s.leg l))
    ∧ (∀ m, s.awake = true → s.rerouteAllowed = true →
        m = s.planMoves (decide (s.obj 0x2000 4 = 1)) (cfgAfter s.active (s.pendingBefore s.nextBoundary)) legs →
        (m.placed = [] → Gives (.reroutePlanComplete ns) s fun t =>
          t.apart = s.apart ∧ t.planner.reroute = none ∧ t.batches = s.batches
            ∧ (∀ l, l ∈ m.failed.map Prod.fst → (t.leg l).state = .degraded)
            ∧ (∀ l, l ∉ m.failed.map Prod.fst → t.leg l = s.leg l))
        ∧ (m.placed ≠ [] → s.batches = [] → Gives (.reroutePlanComplete ns) s fun t =>
          t.apart = { s with nextBatch := nextBatchId s.nextBatch }.apart ∧ t.planner.reroute = none
            ∧ (∃ b, t.batches = [b] ∧ b.id = s.nextBatch ∧ b.session = 30 ∧ b.origin = 1 ∧ b.mode = 0
                ∧ b.state = .pending ∧ b.t0 = s.nextBoundary ∧ b.moves = m.placed ∧ b.plan.after = m.cfg)
            ∧ (∀ l, l ∈ m.failed.map Prod.fst → (t.leg l).state = .degraded)
            ∧ (∀ l, l ∈ m.placed → (t.leg l).affected = false)))

/-- R17, R104 to R109, R114, R119: stored configurations and the schedule's table. A body is stored and compiled, and its compile
ends READY or INVALID once the Forge is awake; ARM and COMMIT check the table against R107, refuse it with SCHED_REJECT or take it.
The model's choices of log 5, 8, 46, 70 enter it. -/
def Obligations.ScheduleTables : Prop :=
  (∀ (ses c : Nat) (v : List Byte) (s : State), Passes ses (0x2400 + c) 1 v s → Gives (.cfgBodyWrite ses c v) s fun t =>
      Does ses stOk s { s with cfgs := t.cfgs } t ∧ t.cfg c = { s.cfg c with body := v, state := 1, reason := 0 }
        ∧ ∀ k, k ≠ c → t.cfg k = s.cfg k)
  ∧ (∀ (c ns : Nat) (s : State),
    (((s.cfg c).state ≠ 1 ∨ s.awake = false) → Gives (.cfgCompileDone c ns) s fun t => t = s)
    ∧ (∀ r, (s.cfg c).state = 1 → s.awake = true → r = s.compile (s.cfg c).body → Gives (.cfgCompileDone c ns) s fun t =>
        Same { s with cfgs := t.cfgs } t ∧ (∀ k, k ≠ c → t.cfg k = s.cfg k)
          ∧ t.cfg c = { s.cfg c with
              state := if r.1 = 0 then 2 else 3, reason := r.1, legs := r.2.legs.length
              splits := r.2.splits.length, compileNs := min ns 2000000, image := r.2 }))
  ∧ (∀ (ses : Nat) (s : State), Passes ses 0x2100 1 [1#8] s →
    ((s.sched.state ≠ .idle ∨ s.auditNearFull = true ∨ s.failStatic = true ∨ s.stopped2 = true) →
      Gives (.schedArm ses) s fun t => Does ses stNotEligible s s t)
    ∧ (∀ row, s.sched.state = .idle → s.auditNearFull = false → s.failStatic = false → s.stopped2 = false →
        row = s.schedRow s.sched.shadowTable s.sched.shadowBase true →
        (row ≠ 0 → Gives (.schedArm ses) s fun t =>
          Does ses (rowStatus row) s { s with sched := { s.sched with reject := row } } t)
        ∧ (row = 0 → Gives (.schedArm ses) s fun t =>
          Does ses stOk s { s with sched := t.sched } t ∧ t.sched.state = .armed
            ∧ t.sched.table = s.sched.shadowTable ∧ t.sched.base = s.sched.shadowBase
            ∧ t.sched.start = gridStart s.sched.shadowBase (cycleUnits s.sched.shadowTable) s.now
            ∧ t.sched.next = t.sched.start ∧ t.sched.cycleCount = 0 ∧ t.sched.late = 0 ∧ t.sched.reject = 0
            ∧ t.sched.shadowTable = s.sched.shadowTable)))
  ∧ (∀ (ses : Nat) (s : State), Passes ses 0x2100 1 [2#8] s →
    ((s.sched.state = .idle ∨ s.sched.state = .stopping) →
      Gives (.schedCommit ses) s fun t => Does ses stNotEligible s s t)
    ∧ (∀ row, s.sched.state = .running → row = s.schedRow s.sched.shadowTable s.sched.shadowBase false →
        (row ≠ 0 → Gives (.schedCommit ses) s fun t =>
          Does ses (rowStatus row) s { s with sched := { s.sched with reject := row } } t)
        ∧ (row = 0 → Gives (.schedCommit ses) s fun t =>
          Does ses stOk s { s with sched := { s.sched with
            reject := 0
            imageReady := t.sched.imageReady, imageCopy := t.sched.imageCopy
            change := some {
              table := s.sched.shadowTable, base := s.sched.shadowBase
              baseChanged := decide (s.sched.shadowBase ≠ s.sched.setBase)
              at_ := if s.sched.shadowBase = s.sched.setBase
                then tableChangeAt s.sched.base (cycleUnits s.sched.table) s.now
                else gridStart s.sched.shadowBase (cycleUnits s.sched.shadowTable) s.now } } } t
            ∧ ∀ c, t.sched.change = some c →
                (c.at_ ≤ s.sched.next → t.sched.imageReady = false ∧ t.sched.imageCopy = true)
                ∧ (s.sched.next < c.at_ →
                    t.sched.imageReady = s.sched.imageReady ∧ t.sched.imageCopy = s.sched.imageCopy)))
    ∧ (s.sched.state = .armed → s.schedRow s.sched.shadowTable s.sched.shadowBase false = 0 →
        Gives (.schedCommit ses) s fun t =>
          Does ses stOk s { s with sched := t.sched } t ∧ t.sched.state = .armed
            ∧ t.sched.table = s.sched.shadowTable ∧ t.sched.base = s.sched.shadowBase
            ∧ t.sched.start = gridStart s.sched.shadowBase (cycleUnits s.sched.shadowTable) s.now
            ∧ t.sched.next = t.sched.start))

/-- R17, R77, R110, R111, R113, R114, R116: a schedule's run, by the awake Forge. It starts at its start instant with watch 0, commits the next watch at each
boundary once its image is complete, takes a committed change when it is due, and stops at the end of the cycle or now.
The model's choices of log 5, 46, 71 enter it. -/
def Obligations.ScheduleRuns : Prop :=
  (∀ s : State, s.sched.state = .armed → s.now < s.sched.start → s.sched.imageReady = false →
    Gives .schedImageCopyStart s fun t =>
      t = { s with
        sched := { s.sched with imageCopy := true }
        image := some (0, (s.cfg ((s.sched.table.headD ⟨0, 0, 0, 0⟩).config)).image.routes) })
  ∧ (∀ s : State, s.sched.state = .armed → s.sched.start ≤ s.now → s.sched.imageReady = true → s.atTransit = true →
    s.awake = true → s.stopped2 = false → s.sched.stopNow = none →
    Gives .schedStart s fun t =>
      t.active = s.active.adopt (s.cfg (s.sched.table.getD 0 ⟨0, 0, 0, 0⟩).config).image ∧ t.sched.state = .running
        ∧ t.sched.watchNow = 0
        ∧ t.sched.next = s.sched.start + (s.sched.table.getD 0 ⟨0, 0, 0, 0⟩).duration * transitUnits
        ∧ t.sched.table = s.sched.table ∧ t.time = s.time ∧ t.commitCount = s.commitCount)
  ∧ (∀ s : State, (s.sched.state ≠ .armed ∨ s.now < s.sched.start ∨ s.watchReady = false) →
    Gives .schedStart s fun t => t = s)
  -- none commits at STOP-2
  ∧ (∀ s : State, s.stopped2 = true → Gives .watchBoundaryCommit s fun t => t = s)
  ∧ (∀ s : State, s.schedRuns = true → s.sched.next ≤ s.now → s.atTransit = true → s.awake = true → s.stopped2 = false →
    s.changeDue = false →
    ((s.sched.stopAtEnd = none ∨ s.nextWatch ≠ 0) → s.sched.imageReady = false →
      Gives .watchBoundaryCommit s fun t => t = s)
    ∧ ((s.sched.stopAtEnd = none ∨ s.nextWatch ≠ 0) → s.sched.imageReady = true → Gives .watchBoundaryCommit s fun t =>
      t.active = s.active.adopt (s.cfg (s.sched.table.getD s.nextWatch ⟨0, 0, 0, 0⟩).config).image ∧ t.sched.watchNow = s.nextWatch
        ∧ t.sched.next = s.sched.next + (s.sched.table.getD s.nextWatch ⟨0, 0, 0, 0⟩).duration * transitUnits
        ∧ t.sched.cycleCount = (if s.nextWatch = 0 ∧ s.sched.realign = false
            then (s.sched.cycleCount + 1) % 18446744073709551616 else s.sched.cycleCount)
        ∧ t.sched.state = s.sched.state ∧ t.time = s.time)
    ∧ (∀ r, s.sched.stopAtEnd = some r → s.nextWatch = 0 → s.sched.state = .stopping → s.watchMoving = false →
      Gives .watchBoundaryCommit s fun t =>
        t.apart = s.apart ∧ t.sched.state = .idle ∧ t.active = s.active ∧ t.batches = s.batches))
  ∧ (∀ (c : SchedChange) (s : State), s.sched.change = some c → s.sched.state = .running → s.sched.stopNow = none →
    (c.at_ ≤ s.now → s.watchReady = true → Gives .schedChangeApply s fun t =>
      t.active = s.active.adopt (s.cfg (c.table.getD 0 ⟨0, 0, 0, 0⟩).config).image ∧ t.sched.table = c.table ∧ t.sched.change = none
        ∧ t.sched.base = (if c.baseChanged then c.base else c.at_) ∧ t.sched.state = .running
        ∧ t.sched.watchNow = 0)
    ∧ ((s.now < c.at_ ∨ s.watchReady = false) → Gives .schedChangeApply s fun t => t = s))
  ∧ (∀ s : State, exec (.shadowCommitApply .schedule) s = exec .schedChangeApply s
      ∧ exec (.shadowCommitApply .clearTable) s = exec .clearTableApply s)
  -- stopping
  ∧ (∀ (ses : Nat) (s : State), Passes ses 0x2100 1 [3#8] s →
    ((s.sched.state = .idle ∨ s.sched.state = .stopping) →
      Gives (.schedStopAtCycleEnd ses) s fun t => Does ses stNotEligible s s t)
    ∧ (s.sched.state = .running → s.sched.stopNow = none → s.sched.stopAtEnd = none →
      Gives (.schedStopAtCycleEnd ses) s fun t =>
        Does ses stOk s { s with sched := { s.sched with state := .stopping, change := none, stopAtEnd := some 0 } } t)
    ∧ (s.sched.state = .armed → Gives (.schedStopAtCycleEnd ses) s fun t =>
        Does ses stOk s { s with sched := t.sched, planner := { s.planner with retry := true } } t
          ∧ t.sched.state = .idle ∧ t.sched.table = s.sched.table))
  ∧ (∀ (ses : Nat) (s : State), Passes ses 0x2100 1 [4#8] s →
    (s.sched.state = .idle → Gives (.schedStopNow ses) s fun t => Does ses stNotEligible s s t)
    ∧ ((s.sched.state = .running ∨ s.sched.state = .stopping) → s.sched.stopNow = none → s.watchMoving = true →
      Gives (.schedStopNow ses) s fun t =>
        Does ses stOk s { s with sched := { s.sched with
          state := .stopping, change := none, stopAtEnd := none, stopNow := some 0, next := 0
          imageReady := false, imageCopy := false } } t)
    ∧ ((s.sched.state = .armed ∨ ((s.sched.state = .running ∨ s.sched.state = .stopping)
          ∧ s.sched.stopNow = none ∧ s.watchMoving = false)) →
      Gives (.schedStopNow ses) s fun t =>
        Does ses stOk s { s with sched := t.sched, planner := { s.planner with retry := true } } t
          ∧ t.sched.state = .idle ∧ t.sched.table = s.sched.table))

/-- R268, R270, R276: the audit engine's own work. Buffered records move to the ring in order, a GAP reports dropped
records, a whole block is hashed, as its records read, into its CHECKPOINT, and a tamper's SEAL with its two SIGNATURE records is completed.
The model's choices of log 5, 11, 17, 47 enter it. -/
def Obligations.AuditEngine : Prop :=
  (∀ (n : Nat) (s : State), s.auditRuns = true → s.audit.ring.length + min n 8192 ≤ ringSize →
    Gives (.auditTransfer n) s fun t =>
      t.apart = s.apart ∧ t.audit.buffer = s.audit.buffer.drop (min n 8192)
        ∧ (∀ r, r ∈ t.audit.ring ↔
            r ∈ s.audit.ring ∨ (r ∈ s.audit.buffer.take (min n 8192) ∧ s.audit.released < r.seq))
        ∧ t.audit.count = s.audit.count ∧ t.audit.headHash = s.audit.headHash)
  ∧ (∀ (n : Nat) (s : State), s.auditRuns = false →
    Gives (.auditTransfer n) s (fun t => t = s) ∧ Gives .checkpointSign s fun t => t = s)
  ∧ (∀ s : State, s.audit.closed = false → s.power.watchOn = true → s.audit.buffer.length < 8192 →
    s.audit.watchWasOff = false →
    (s.audit.dropped = 0 → Gives .auditGapRecord s fun t => t = s)
    ∧ (s.audit.dropped ≠ 0 → Gives .auditGapRecord s fun t =>
        Same s t ∧ t.audit.dropped = 0 ∧ t.audit.count = nextCount s.audit.count
          ∧ t.audit.buffer = s.audit.buffer ++ [makeRecord (auditSeq s.audit.epoch s.audit.count)
              (s.body 0x12 (leBytes 4 s.audit.dropped ++ time96Bytes s.audit.dropFirst
                ++ time96Bytes s.audit.dropLast ++ [0#8]))]))
  ∧ (∀ (n : Nat) (s : State), s.auditRuns = true → s.blockDue = some n → s.audit.ring.length + 3 ≤ ringSize →
    Gives .checkpointSign s fun t =>
      t.apart = s.apart ∧ t.audit.sinceCkpt = s.audit.sinceCkpt.filter (fun r => decide (r.block ≠ n))
        -- the hash is over the records as they read, and one that fails its check is flagged
        ∧ t.audit.headHash = sha256 (s.audit.headHash ++ (s.blockRecords n).flatMap fun r => (s.readRecord r).take 60)
        ∧ (∃ ck a b, t.audit.lastCheckpoint = [ck, a, b]
            ∧ ck.seq = auditSeq s.audit.epoch (259 * n + 256) ∧ a.seq = ck.seq + 1 ∧ b.seq = ck.seq + 2
            ∧ ck.body.type_ = 0x80 ∧ a.body.type_ = 0x81 ∧ b.body.type_ = 0x81
            ∧ ck.body.payload = t.audit.headHash ++ leBytes 4 n
            ∧ (ck.body.flags.testBit 4 = true ↔ ∃ r, r ∈ s.blockRecords n ∧ checkFails r.seq (s.readRecord r) = true))
        ∧ t.audit.buffer = s.audit.buffer)
  ∧ (∀ s : State, s.auditRuns = true → s.audit.sealDue ≠ none → s.audit.closed = false →
    s.audit.buffer.length + 3 ≤ 8192 → s.audit.dropped = 0 → s.audit.watchWasOff = false →
    s.audit.count + 32 < 2 ^ 40 →
    Gives .sealComplete s fun t =>
      Same s t ∧ t.audit.sealDue = none ∧ t.audit.sealed = true ∧ t.audit.prevHead = (sealBody s).2
        ∧ ∃ a b, t.audit.buffer = s.audit.buffer
            ++ [makeRecord (auditSeq s.audit.epoch s.audit.count) (sealBody s).1, a, b]
          ∧ a.body.type_ = 0x81 ∧ b.body.type_ = 0x81)

/-- R21, R271, R272, R393, R486: reading the ring. A session's chunk begins at its read position and moves it past the records given; an
acknowledgement releases every record up to its SEQ, and one beyond the newest record is RANGE.
The export ring starts at offset 0; a chunk is written only where it fits whole before the end and before MBX_AEX_RD, and
then moves WR and the read position of session 1.
The model's choices of log 14, 27, 47, 55, 73 enter it. -/
def Obligations.AuditExport : Prop :=
  (∀ (ses : Nat) (dm : List Damage) (s : State), s.served ses = true →
    (ses = 1 → s.aexOn = true → Gives (.auditExportRead ses dm) s fun t => Does ses stNotEligible s s t)
    ∧ ((ses ≠ 1 ∨ s.aexOn = false) → Gives (.auditExportRead ses dm) s fun t =>
        t.core = s.core ∧ t.audit.ring = s.audit.ring
          ∧ t.audit.damage = (noteDamage dm s).audit.damage
          ∧ (t.session ses).auditPos = ((noteDamage dm s).chunk ses 4096).next ∧ (t.session ses).skipped = 0
          ∧ (t.session ses).snapshot
              = some (objKey 0x3100 5, ((noteDamage dm s).chunk ses 4096).bytes, s.time.elapsed)
          ∧ t.out.status = stOk
          ∧ t.out.bytes = ((noteDamage dm s).chunk ses 4096).bytes.take (min 65500 (s.segMax ses))
          ∧ ∀ n, n ≠ ses → (t.session n).still = (s.session n).still))
  ∧ (∀ (ses seq : Nat) (s : State), Passes ses 0x3100 4 (valBytes 8 seq) s →
    (s.newestSeq < seq → Gives (.auditExportAck ses seq) s fun t => Does ses stRange s s t)
    ∧ (seq ≤ s.newestSeq → Gives (.auditExportAck ses seq) s fun t =>
        t.apart = s.apart ∧ Answered ses stOk s t ∧ t.audit.released = max s.audit.released seq
          ∧ t.audit.ring = (s.audit.ring.filter fun r => decide (seq < r.seq))
          ∧ t.audit.buffer = s.audit.buffer))
  ∧ (∀ (ses seq : Nat) (s : State), Passes ses 0x3100 6 (valBytes 8 seq) s →
    ((∀ r, r ∈ s.audit.ring → r.seq ≠ seq) → Gives (.auditReadFromWrite ses seq) s fun t => Does ses stRange s s t)
    ∧ ((∃ r, r ∈ s.audit.ring ∧ r.seq = seq) → Gives (.auditReadFromWrite ses seq) s fun t =>
        Does ses stOk s { s with
          live := s.live ++ [⟨.audit, false, objKey 0x3100 6, seq, s.time.elapsed, ses⟩] } t))
  -- at a boundary later than the write, and than the lanes' being ready, the read position moves
  ∧ (∀ (ses seq : Nat) (at_ : Instant) (s : State),
    s.live = [⟨.audit, false, objKey 0x3100 6, seq, at_, ses⟩] → at_ < s.time.transitStart →
    s.forge.lanesReady = true → s.forge.lanesReadyAt < s.time.transitStart → Gives (.liveSettingApply .audit) s fun t =>
      t = { s with live := [], sessions := t.sessions } ∧ (∀ n, n ≠ ses → t.session n = s.session n)
        ∧ ((∃ r, r ∈ s.audit.ring ∧ r.seq = seq) → t.session ses = { s.session ses with auditPos := seq })
        ∧ ((∀ r, r ∈ s.audit.ring → r.seq ≠ seq) → t.session ses = s.session ses))
  -- the audit export ring: VECTOR is quiescent, EN and MBX_AEX_RD are live
  ∧ (∀ (w : Writer) (v : Word) (s : State), s.power.forgeOn = true →
    (field v.toNat 16 9 ≠ field (s.reg 0x1400) 16 9 → s.regOn 0x1400 0 = true →
      Gives (.aexEnWrite w v) s fun t => Same { s with reject := insertNum 0x1004 s.reject } t)
    ∧ ((field v.toNat 16 9 = field (s.reg 0x1400) 16 9 ∨ s.regOn 0x1400 0 = false) → Gives (.aexEnWrite w v) s fun t =>
      t = { s with
        regs := t.regs, live := s.live ++ [⟨.hostLinks, true, 0x1400, v.toNat &&& 1, s.time.elapsed, 0⟩] }
        ∧ t.reg 0x1400 = setField (s.reg 0x1400) 16 9 (field v.toNat 16 9) ∧ ∀ o, o ≠ 0x1400 → t.reg o = s.reg o))
  ∧ (∀ (at_ : Instant) (s : State), at_ < s.time.transitStart →
    (s.live = [⟨.hostLinks, true, 0x1400, 1, at_, 0⟩] → (s.reg 0x1400).testBit 0 = false →
      Gives (.liveSettingApply .hostLinks) s fun t =>
      t = { s with live := [], regs := t.regs, aex := {} } ∧ t.reg 0x1400 = s.reg 0x1400 + 1 ∧ t.reg 0x1414 = 0
        ∧ ∀ o, o ≠ 0x1400 → o ≠ 0x1414 → t.reg o = s.reg o)
    ∧ (s.live = [⟨.hostLinks, true, 0x1400, 0, at_, 0⟩] → (s.reg 0x1400).testBit 0 = true →
      Gives (.liveSettingApply .hostLinks) s fun t =>
        t = { s with live := [], regs := t.regs } ∧ t.reg 0x1400 = s.reg 0x1400 - 1
          ∧ ∀ o, o ≠ 0x1400 → t.reg o = s.reg o))
  ∧ (∀ (rd : Nat) (s : State), s.power.forgeOn = true → Gives (.mbxAexRd rd) s fun t =>
      t = { s with live := s.live ++ [⟨.hostLinks, true, 0x1414, rd % 1073741824, s.time.elapsed, 0⟩] })
  ∧ (∀ (dm : List Damage) (c : Chunk) (s : State), s.aexOn = true → s.awake = true →
    c = (noteDamage dm s).chunk 1 4096 → c.count ≠ 0 → s.power.pcie ≠ .down →
    (s.aexPlace c.bytes.length = none → Gives (.aexChunkWrite dm) s fun t => t = s)
    ∧ (∀ at_, s.aexPlace c.bytes.length = some at_ → Gives (.aexChunkWrite dm) s fun t =>
      t.core = { s with aex := t.aex }.core ∧ t.audit.ring = s.audit.ring
        ∧ t.audit.damage = (noteDamage dm s).audit.damage
        ∧ t.aex.wr = (at_ + c.bytes.length) % s.aexSize ∧ t.aex.chunks.head? = some (at_, c.count)
        ∧ t.out.data = at_ ∧ t.out.bytes = c.bytes ∧ (t.session 1).auditPos = c.next
        ∧ ∀ k, k ≠ 1 → (t.session k).still = (s.session k).still))
  ∧ (∀ (n at_ : Nat) (s : State), s.aexPlace n = some at_ →
      at_ + n ≤ s.aexSize ∨ (at_ = s.aex.wr ∧ at_ + n < s.aexRd) ∨ (at_ = 0 ∧ n < s.aexRd))

/-- R9, R266: the host's Hallmark channels, while Watch is on. OPEN folds the context, a data write feeds its bytes while the channel is OPEN
and is otherwise ignored with WRITE_REJECT, a read leaves the channel OPEN, ABORT closes it; the other channel stays as it is.
The model's choices of log 14, 24, 79 enter it. -/
def Obligations.HallmarkChannels : Prop :=
  ∀ (c : Nat) (s : State), c = 6 ∨ c = 7 → s.power.watchOn = true →
    Gives (.hmOpen c) s (fun t =>
      t = { s with hm6 := t.hm6, hm7 := t.hm7 } ∧ t.hmChan (13 - c) = s.hmChan (13 - c)
        ∧ t.hmChan c = ⟨true, crcOpen (s.reg (hmBase c + 8) + 4294967296 * s.reg (hmBase c + 0xC))⟩)
    ∧ Gives (.hmAbort c) s (fun t =>
      t = { s with hm6 := t.hm6, hm7 := t.hm7 } ∧ t.hmChan (13 - c) = s.hmChan (13 - c)
        ∧ (t.hmChan c).isOpen = false)
    ∧ (∀ (w : Writer) (v : Word), (s.hmChan c).isOpen = true →
      Gives (.hmDataB w c v) s (fun t => t = { s with hm6 := t.hm6, hm7 := t.hm7 }
        ∧ t.hmChan (13 - c) = s.hmChan (13 - c)
        ∧ t.hmChan c = ⟨true, crcFeed (s.hmChan c).crc (leBytes 1 v.toNat)⟩)
      ∧ Gives (.hmDataH w c v) s (fun t => t = { s with hm6 := t.hm6, hm7 := t.hm7 }
        ∧ t.hmChan (13 - c) = s.hmChan (13 - c)
        ∧ t.hmChan c = ⟨true, crcFeed (s.hmChan c).crc (leBytes 2 v.toNat)⟩)
      ∧ Gives (.hmDataW w c v) s fun t => t = { s with hm6 := t.hm6, hm7 := t.hm7 }
        ∧ t.hmChan (13 - c) = s.hmChan (13 - c)
        ∧ t.hmChan c = ⟨true, crcFeed (s.hmChan c).crc (leBytes 4 v.toNat)⟩)
    ∧ (∀ (w : Writer) (v : Word), (s.hmChan c).isOpen = false →
      Gives (.hmDataB w c v) s (fun t => Same { s with reject := insertNum (hmBase c + 4) s.reject } t)
      ∧ Gives (.hmDataH w c v) s (fun t => Same { s with reject := insertNum (hmBase c + 4) s.reject } t)
      ∧ Gives (.hmDataW w c v) s fun t => Same { s with reject := insertNum (hmBase c + 4) s.reject } t)
    ∧ Gives (.hmResultRead c) s fun t =>
      t = { s with out := t.out } ∧ t.out.data = (s.hmChan c).crc ^^^ 0xFFFFFFFF

/-- R263, R266: whatever bytes, half-words and words are fed to a host channel after OPEN, in whatever order, HM_RESULT gives
the CRC-32C of their bytes under the channel's context.
The model's choices of log 14, 79 enter it. -/
def Obligations.HallmarkFeeding : Prop :=
  ∀ (w : Writer) (c : Nat) (feeds : List (Nat × Word)) (s : State), c = 6 ∨ c = 7 → s.power.watchOn = true →
    (∀ f, f ∈ feeds → f.1 = 1 ∨ f.1 = 2 ∨ f.1 = 4) →
    ∃ t, runAll (.hmOpen c :: feeds.map (fun f =>
        if f.1 = 1 then .hmDataB w c f.2 else if f.1 = 2 then .hmDataH w c f.2 else .hmDataW w c f.2)
          ++ [.hmResultRead c]) s = some t
      ∧ t.out.data = crc32c (s.reg (hmBase c + 8) + 4294967296 * s.reg (hmBase c + 0xC))
          (feeds.flatMap fun f => leBytes f.1 f.2.toNat)

/-- R265: the unit's two test vectors. -/
def Obligations.HallmarkVectors : Prop :=
  crc32c 0 (List.replicate 24 0#8) = 0x8A9136AA
    ∧ crc32c 0x0706050403020100 ((numbers 8 24).map fun n => BitVec.ofNat 8 n) = 0x46DD794E

/-- R383, R395, R396, R421, R487: sessions of the management ports. A TCP connection takes the lowest free session and is refused where
none is free; a good handshake opens it with its anchor's role, any other gives it back; a close drops what the session
holds.
The model's choices of log 5, 13, 53 enter it. -/
def Obligations.NetworkSessions : Prop :=
  (∀ (p : Nat) (s : State), p < 2 → s.boot.started = true →
    (∀ n, s.freeSession = some n → Gives (.tcpConnect p) s fun t =>
      t.core = s.core ∧ t.session n = { s.session n with taken := some p }
        ∧ ∀ k, k ≠ n → t.session k = s.session k)
    ∧ (s.freeSession = none → Gives (.tcpConnect p) s fun t => Same s t))
  ∧ (∀ (p : Nat) (peer : List Byte) (a : Option Nat) (failed : Bool) (s : State),
    (s.handshakeOn p = none → Gives (.tlsHandshake p peer a failed) s fun t => t = s)
    ∧ (∀ n, s.handshakeOn p = some n →
      (failed = true ∨ s.life.tlsKey = false ∨ a = none) → Gives (.tlsHandshake p peer a failed) s fun t =>
        t.core = s.core ∧ (t.session n).taken = none ∧ (t.session n).isOpen = (s.session n).isOpen
          ∧ ∀ k, k ≠ n → (t.session k).still = (s.session k).still)
    ∧ (∀ n k, s.handshakeOn p = some n → failed = false → s.life.tlsKey = true → a = some k → k < 8 →
      s.blob 0x1600 (0x10 + k) [] ≠ [] → Gives (.tlsHandshake p peer a failed) s fun t =>
        t.core = s.core ∧ (t.session n).isOpen = true ∧ (t.session n).link = 3 ∧ (t.session n).taken = none
          ∧ (t.session n).role = s.obj 0x1600 (0x20 + k) ∧ (t.session n).peer = byte p :: peer
          ∧ (t.session n).reqTokens = s.obj (0x3510 + n) 2 * tokUnit
          ∧ (t.session n).moveTokens = s.obj (0x3510 + n) 4 * tokUnit
          ∧ ∀ k, k ≠ n → (t.session k).still = (s.session k).still))
  ∧ (∀ (n : Nat) (r : CloseReason) (s : State), 1 ≤ n → n ≤ 28 → (s.session n).taken = none →
    (s.closes n r = false → Gives (.sessionClose n r) s fun t => t = s)
    ∧ (s.closes n r = true → (s.session n).isOpen = true → Gives (.sessionClose n r) s fun t =>
      t.core = { s with kept := t.kept, disp := t.disp, live := t.live }.core ∧ (t.session n).isOpen = false
        ∧ (t.session n).control.waiting = [] ∧ (t.session n).query.waiting = [] ∧ (t.session n).subs = []
        ∧ (t.session n).held = 0 ∧ (t.session n).resp = none ∧ (t.session n).snapshot = none
        ∧ ∀ k, k ≠ n → (t.session k).still = (s.session k).still))
  ∧ (∀ (n : Nat) (s : State),
    (s.v2Idle n = false → Gives (.v2SessionIdle n) s fun t => t = s)
    ∧ (s.v2Idle n = true → Gives (.v2SessionIdle n) s fun t =>
      t.core = { s with kept := t.kept, disp := t.disp, live := t.live }.core ∧ (t.session n).isOpen = false
        ∧ ∀ k, k ≠ n → (t.session k).still = (s.session k).still))

/-- R394, R395, R400 to R403, R407, R427, R428: network frames. A whole frame that the pool admits, whose request is new and conforms,
enters its queue; a damaged one is dropped; a repeated request is answered from its kept response and not executed again;
Hearth answers an echo.
The model's choices of log 5, 14, 53, 54 enter it. -/
def Obligations.NetworkFrames : Prop :=
  (∀ (p : Nat) (peer frame : List Byte) (s : State), (2 ≤ p ∨ s.boot.started = false ∨ s.obj 0x1400 4 = 0) →
    Gives (.v2FrameReceive p peer frame) s fun t => t = s)
  ∧ (∀ (p : Nat) (peer frame : List Byte) (s : State), p < 2 → s.boot.started = true → s.obj 0x1400 4 ≠ 0 →
    (∀ n, s.v2Session (byte p :: peer) = some n →
      (frameLenOk 2 frame && frameFormOk 2 frame && frameCheckOk frame) = false →
      Gives (.v2FrameReceive p peer frame) s fun t =>
        t.core = s.core ∧ (t.session n).drops = ((s.session n).drops + 1) % 4294967296
          ∧ (t.session n).lastFrame = s.time.elapsed ∧ (t.session n).control = (s.session n).control
          ∧ (t.session n).query = (s.session n).query)
    ∧ (∀ n, s.v2Session (byte p :: peer) = some n →
      (frameLenOk 2 frame && frameFormOk 2 frame && frameCheckOk frame) = true →
      s.poolAdmits n (buffersFor frame.length) = false → Gives (.v2FrameReceive p peer frame) s fun t =>
        t.core = s.core ∧ (t.session n).quotaDrops = ((s.session n).quotaDrops + 1) % 4294967296
          ∧ (t.session n).control = (s.session n).control ∧ (t.session n).query = (s.session n).query)
    ∧ (s.v2Session (byte p :: peer) = none →
      (frameLenOk 2 frame && frameFormOk 2 frame && frameCheckOk frame) = false →
      Gives (.v2FrameReceive p peer frame) s fun t =>
        Same { s with disp := if p = 0 then { s.disp with portDrops0 := (s.disp.portDrops0 + 1) % 4294967296 }
          else { s.disp with portDrops1 := (s.disp.portDrops1 + 1) % 4294967296 } } t)
    ∧ (s.v2Session (byte p :: peer) = none → s.freeSession = none →
      (frameLenOk 2 frame && frameFormOk 2 frame && frameCheckOk frame) = true →
      Gives (.v2FrameReceive p peer frame) s fun t => Same s t)
    ∧ (∀ n, s.v2Session (byte p :: peer) = none → s.freeSession = some n →
      (frameLenOk 2 frame && frameFormOk 2 frame && frameCheckOk frame) = true →
      Gives (.v2FrameReceive p peer frame) s fun t =>
        (t.session n).isOpen = true ∧ (t.session n).link = 2 ∧ (t.session n).peer = byte p :: peer))
  ∧ (∀ (n : Nat) (frame : List Byte) (s : State), 5 ≤ n → n ≤ 28 → (s.session n).isOpen = true →
    (s.session n).link = 3 → (s.session n).stalled = false → (s.session n).admitted = 0 →
    (frameLenOk 3 frame = false → Gives (.v3FrameReceive n frame) s fun t => (t.session n).isOpen = false)
    ∧ (frameLenOk 3 frame = true → s.poolAdmits n (buffersFor frame.length) = false →
      Gives (.v3FrameReceive n frame) s fun t =>
        t.core = s.core ∧ t.session n = { s.session n with stalled := true })
    ∧ (frameLenOk 3 frame = true → s.poolAdmits n (buffersFor frame.length) = true →
      (frameFormOk 3 frame && frameCheckOk frame) = false → Gives (.v3FrameReceive n frame) s fun t =>
        t.core = { s with disp := t.disp }.core ∧ (t.session n).held = (s.session n).held
          ∧ (t.session n).drops = ((s.session n).drops + 1) % 4294967296
          ∧ (t.session n).control = (s.session n).control ∧ (t.session n).query = (s.session n).query)
    ∧ (∀ r, r = parseReq frame s.time.elapsed (buffersFor frame.length) 0 0 →
      (frameLenOk 3 frame && frameFormOk 3 frame && frameCheckOk frame) = true →
      s.poolAdmits n (buffersFor frame.length) = true →
      (s.keptOf ((s.session n).key n) r.reqId = none → s.keptFull ((s.session n).key n) = false →
        tokUnit ≤ ((fillBuckets n s).session n).reqTokens →
        moveCharge r * tokUnit ≤ ((fillBuckets n s).session n).moveTokens →
        Gives (.v3FrameReceive n frame) s fun t =>
          t.core = { s with
            disp := t.disp
            kept := s.kept ++ [(⟨(s.session n).key n, r.reqId, r.len, r.check, none, 0⟩ : Kept)] }.core
            ∧ (t.session n).held = (s.session n).held + buffersFor frame.length
            ∧ ((t.session n).queueOf (decide (r.op = 2))).waiting
                = ((s.session n).queueOf (decide (r.op = 2))).waiting ++ [r]
            ∧ (t.session n).queueOf (decide (r.op ≠ 2)) = (s.session n).queueOf (decide (r.op ≠ 2))
            ∧ ∀ k, k ≠ n → (t.session k).still = (s.session k).still)
      ∧ (∀ k a, s.keptOf ((s.session n).key n) r.reqId = some k → k.len = r.len → k.check = r.check → k.resp = some a →
        Gives (.v3FrameReceive n frame) s fun t =>
          t.core = { s with disp := t.disp }.core ∧ t.out = ⟨0, a.status, respFrame 3 r a⟩
            ∧ (t.session n).dedupHits = ((s.session n).dedupHits + 1) % 4294967296
            ∧ (t.session n).control = (s.session n).control ∧ (t.session n).query = (s.session n).query
            ∧ (t.session n).held = (s.session n).held)))
  ∧ (∀ (p : Nat) (request : List Byte) (s : State),
    (p < 2 → s.power.vaux = true → s.mgtUp p = true → Gives (.networkEcho p request) s fun t =>
      t = { s with out := ⟨0, 0, request⟩ })
    ∧ ((2 ≤ p ∨ s.power.vaux = false ∨ s.mgtUp p = false) → Gives (.networkEcho p request) s fun t => t = s))

/-- R21, R27, R389 to R391: a mailbox ring. EN, IRQ_EN and the doorbells are live. EN starts it with its session and stops it with its session closed; VECTOR does not change
while it runs; each descriptor fetched moves the head by one; a frame that is not whole completes with its status and is
not executed; a failed DMA halts the ring.
The model's choices of log 5, 24, 55, 72, 73 enter it. -/
def Obligations.MailboxRings : Prop :=
  (∀ (w : Writer) (r : Nat) (v : Word) (s : State), 1 ≤ r → r ≤ 4 → s.power.forgeOn = true →
    (field v.toNat 16 9 ≠ field (s.reg (mbxReg r 0)) 16 9 → s.regOn (mbxReg r 0) 0 = true →
      Gives (.mbxEnWrite w r v) s fun t => Same { s with reject := insertNum (mbxReg r 4) s.reject } t)
    ∧ ((field v.toNat 16 9 = field (s.reg (mbxReg r 0)) 16 9 ∨ s.regOn (mbxReg r 0) 0 = false) →
      Gives (.mbxEnWrite w r v) s fun t =>
      t = { s with
        regs := t.regs, live := s.live ++ [⟨.hostLinks, true, mbxReg r 0, v.toNat &&& 3, s.time.elapsed, 0⟩] }
        ∧ t.reg (mbxReg r 0) = setField (s.reg (mbxReg r 0)) 16 9 (field v.toNat 16 9)
        ∧ ∀ o, o ≠ mbxReg r 0 → t.reg o = s.reg o))
  -- from the next transit boundary the ring runs, or has stopped
  ∧ (∀ (r v : Nat) (at_ : Instant) (s : State), 1 ≤ r → r ≤ 4 → v < 4 →
    s.live = [⟨.hostLinks, true, mbxReg r 0, v, at_, 0⟩] → at_ < s.time.transitStart →
    ((s.reg (mbxReg r 0)).testBit 0 = v.testBit 0 → Gives (.liveSettingApply .hostLinks) s fun t =>
      t = { s with live := [], regs := t.regs }
        ∧ t.reg (mbxReg r 0) = s.reg (mbxReg r 0) - (s.reg (mbxReg r 0) &&& 3) + v)
    ∧ ((s.reg (mbxReg r 0)).testBit 0 = false → v.testBit 0 = true → Gives (.liveSettingApply .hostLinks) s fun t =>
      t.core = { s with live := [], regs := t.regs, mbx := t.mbx }.core
        ∧ t.ring r = { running := true, dmaErr := (s.ring r).dmaErr, vectors := (s.ring r).vectors }
        ∧ t.reg (mbxReg r 0) = s.reg (mbxReg r 0) - (s.reg (mbxReg r 0) &&& 3) + v
        ∧ (∀ o, o ≠ mbxReg r 0 → t.reg o = s.reg o)
        ∧ (s.boot.started = true → (t.session r).isOpen = true ∧ (t.session r).link = 1
            ∧ (t.session r).role = s.obj 0x1400 2))
    ∧ ((s.reg (mbxReg r 0)).testBit 0 = true → v.testBit 0 = false → Gives (.liveSettingApply .hostLinks) s fun t =>
        t.core = { s with live := [], regs := t.regs, mbx := t.mbx, kept := t.kept, disp := t.disp }.core
          ∧ t.ring r = { s.ring r with running := false, halted := false } ∧ (t.session r).isOpen = false
          ∧ t.reg (mbxReg r 0) = s.reg (mbxReg r 0) - (s.reg (mbxReg r 0) &&& 3) + v
          ∧ t.reg (mbxReg r 0x20) = 0 ∧ t.reg (mbxReg r 0x2C) = 0))
  ∧ (∀ (r v : Nat) (s : State), 1 ≤ r → r ≤ 4 → s.power.forgeOn = true →
    Gives (.mbxReqTail r v) s (fun t =>
      t = { s with live := s.live
        ++ [⟨.hostLinks, true, mbxReg r 0x20, v % min 4096 (s.reqSize r), s.time.elapsed, 0⟩] })
    ∧ Gives (.mbxCplHead r v) s fun t =>
      t = { s with live := s.live
        ++ [⟨.hostLinks, true, mbxReg r 0x2C, v % min 4096 (s.cplSize r), s.time.elapsed, 0⟩] })
  ∧ (∀ (r : Nat) (desc frame : List Byte) (s : State), 1 ≤ r → r ≤ 4 → (s.ring r).running = true →
    (s.ring r).halted = false → (s.session r).isOpen = true → (s.session r).link = 1 →
    ((s.ring r).reqHead = s.reg (mbxReg r 0x20) → Gives (.mbxDescriptorFetch r desc frame) s fun t => t = s)
    ∧ ((s.ring r).reqHead ≠ s.reg (mbxReg r 0x20) → s.cplFree r = true → (s.session r).admitted = 0 →
      s.poolAdmits r (buffersFor frame.length) = true →
      (mailboxStatus desc frame ≠ stOk → Gives (.mbxDescriptorFetch r desc frame) s fun t =>
        t.core = { s with mbx := t.mbx, disp := t.disp }.core
          ∧ (t.ring r).reqHead = ((s.ring r).reqHead + 1) % s.reqSize r
          ∧ (t.ring r).completions
              = (leAt desc 24 8, 0, mailboxStatus desc frame, (s.ring r).phase) :: (s.ring r).completions
          ∧ (t.ring r).cplTail = ((s.ring r).cplTail + 1) % s.cplSize r
          ∧ (t.session r).control = (s.session r).control ∧ (t.session r).query = (s.session r).query
          ∧ (t.session r).held = (s.session r).held)
      ∧ (∀ q, q = parseReq frame s.time.elapsed (buffersFor frame.length) (leAt desc 24 8) (leAt desc 12 4) →
        mailboxStatus desc frame = stOk → s.keptOf ((s.session r).key r) q.reqId = none →
        s.keptFull ((s.session r).key r) = false → tokUnit ≤ ((fillBuckets r s).session r).reqTokens →
        moveCharge q * tokUnit ≤ ((fillBuckets r s).session r).moveTokens →
        Gives (.mbxDescriptorFetch r desc frame) s fun t =>
          t.core = { s with mbx := t.mbx, disp := t.disp, kept := t.kept }.core
            ∧ (t.ring r).reqHead = ((s.ring r).reqHead + 1) % s.reqSize r
            ∧ ((t.session r).queueOf (decide (q.op = 2))).waiting
                = ((s.session r).queueOf (decide (q.op = 2))).waiting ++ [q])))
  ∧ (∀ (r : Nat) (s : State), (s.ring r).running = true → (s.ring r).halted = false →
    Gives (.mbxDmaError r) s fun t =>
      Same { s with mbx := t.mbx } t ∧ t.ring r = { s.ring r with halted := true, dmaErr := true }
        ∧ ∀ k, k ≠ r → t.ring k = s.ring k)

/-- R397 to R399: SPI. A request is taken when none is in progress and no response waits, and is otherwise rejected; a
transaction cut short sets FRAMING and takes nothing; the EVENT opcode takes the oldest record of the lowest-numbered SPI queue, and
gives zeros where none waits; TIME gives the latched instant; the status byte shifts out with each opcode.
The model's choices of log 14, 54, 56, 79 enter it. -/
def Obligations.SpiLink : Prop :=
  (∀ (bs : List Byte) (complete : Bool) (s : State), s.power.vaux = true →
    (complete = false ∨ bs.length < 10
      ∨ ((parseV1 bs 0).op = 2 ∧ (parseV1 bs 0).want ≤ 256 ∧ bs.length < 10 + (parseV1 bs 0).want)) →
    Gives (.spiRequest bs complete) s fun t =>
      Same { s with spi := { s.spi with framing := true }, out := ⟨0, s.spiStatus, []⟩ } t)
  ∧ (∀ (bs : List Byte) (s : State), s.power.vaux = true → v1Short bs = false →
    ((s.spi.busy = true ∨ s.spi.resp ≠ none ∨ s.poolAdmits 0 (buffersFor bs.length) = false) →
      Gives (.spiRequest bs true) s fun t =>
        t = { s with spi := { s.spi with framing := false, rejected := true }, out := ⟨0, s.spiStatus, []⟩ })
    ∧ (∀ r, r = parseV1 bs s.time.elapsed → s.spi.busy = false → s.spi.resp = none →
      s.poolAdmits 0 (buffersFor bs.length) = true → v1Ok bs = true →
      tokUnit ≤ ((fillBuckets 0 s).session 0).reqTokens →
      moveCharge r * tokUnit ≤ ((fillBuckets 0 s).session 0).moveTokens →
      Gives (.spiRequest bs true) s fun t =>
        t.core = { s with
          disp := t.disp, spi := { s.spi with framing := false, rejected := false, busy := true } }.core
          ∧ t.out = ⟨0, s.spiStatus, []⟩
          ∧ ((t.session 0).queueOf (decide (r.op = 2))).waiting
              = ((s.session 0).queueOf (decide (r.op = 2))).waiting ++ [r])
    ∧ (s.spi.busy = false → s.spi.resp = none → s.poolAdmits 0 (buffersFor bs.length) = true → v1Ok bs = false →
      Gives (.spiRequest bs true) s fun t => t.spi.resp = some (leBytes 2 stBadType ++ leBytes 2 0 ++ leBytes 4 0)
        ∧ t.spi.busy = false ∧ (t.session 0).held = (s.session 0).held))
  ∧ (∀ (bs : List Byte) (s : State), s.power.vaux = true → s.spi.resp = some bs →
    Gives (.spiResponse true) s (fun t =>
      t = { s with spi := { s.spi with framing := false, resp := none }, out := ⟨0, s.spiStatus, bs⟩ })
    ∧ Gives (.spiResponse false) s fun t =>
      Same { s with spi := { s.spi with framing := true }, out := ⟨0, s.spiStatus, bs⟩ } t)
  ∧ (∀ (s : State), s.power.vaux = true → s.spi.redeliver = [] →
    (s.spiQueue = none → Gives (.spiEvent true) s fun t =>
      t = { s with spi := { s.spi with framing := false }, out := ⟨0, s.spiStatus, List.replicate 32 0⟩ })
    ∧ (∀ q r rest, s.spiQueue = some q → (s.queue q).records = r :: rest → Gives (.spiEvent true) s fun t =>
      t = { s with
          spi := { s.spi with framing := false }, queues := t.queues
          events := { s.events with cycleFrom := s.events.last + 1 }, out := ⟨r.seq, s.spiStatus, r.bytes⟩ }
        ∧ t.queue q = { s.queue q with records := rest } ∧ ∀ k, k ≠ q → t.queue k = s.queue k))
  ∧ (∀ (at_ : Instant) (s : State), s.power.vaux = true → Gives (.spiTime at_) s fun t =>
      t = { s with spi := { s.spi with framing := false }, out := t.out } ∧ t.out.status = s.spiStatus
        ∧ t.out.bytes = if s.time.running then time96Bytes at_ else List.replicate 12 0)

/-- R403, R404, R419, R420, R424 to R428: the dispatch. A head becomes eligible at its instant; the ready queue of the least finish
tag is served, sessions 29 and 30 ahead of the others; a completed request's buffers return and its response is kept;
each sampling period samples every served queue once, and a read of QSTATS restarts its session's accumulations.
Kept responses go 10 s after they were sent, a session's snapshot 2 s after it was taken, an assembly after a pause of
more than 2 s.
The model's choices of log 5, 13, 14, 54, 63 enter it. -/
def Obligations.Dispatch : Prop :=
  (∀ (n len : Nat) (s : State),
    ((s.session n).isOpen = true → ((s.session n).link = 1 ∨ (s.session n).stalled = true) → (s.session n).admitted = 0 →
      s.poolAdmits n (buffersFor len) = true → Gives (.poolAdmit n len) s fun t =>
        t.core = { s with disp := t.disp }.core ∧ (t.session n).stalled = false
          ∧ (t.session n).admitted = buffersFor len
          ∧ (t.session n).held = (s.session n).held + buffersFor len
          ∧ ∀ k, k ≠ n → (t.session k).still = (s.session k).still)
    ∧ (s.poolAdmits n (buffersFor len) = false → Gives (.poolAdmit n len) s fun t => t = s))
  ∧ (∀ (n at_ : Nat) (c : Bool) (s : State), ((s.session n).queueOf c).eligible = some at_ →
    (at_ ≤ s.time.elapsed → Gives (.requestEligible n c) s fun t =>
      t = { s with sessions := t.sessions }
        ∧ t.session n = (s.session n).setQueueOf c { (s.session n).queueOf c with eligible := none }
        ∧ ∀ k, k ≠ n → t.session k = s.session k)
    ∧ (s.time.elapsed < at_ → Gives (.requestEligible n c) s fun t => t = s))
  ∧ (∀ (n : Nat) (c : Bool) (r : Req) (rest : List Req) (s : State), s.boot.started = true → s.awake = true →
    s.executing < 16 → s.nextServed = some (n, c) → ((s.session n).queueOf c).waiting = r :: rest →
    Gives .requestServe s fun t =>
      t = { s with
        sessions := t.sessions, disp := { s.disp with vtime := ((s.session n).queueOf c).start }
        out := ⟨n, 0, r.payload⟩ }
        ∧ ((t.session n).queueOf c).executing = some r ∧ ((t.session n).queueOf c).waiting = rest
        ∧ (t.session n).queueOf (!c) = (s.session n).queueOf (!c) ∧ ∀ k, k ≠ n → t.session k = s.session k)
  ∧ (∀ s : State, s.nextServed = none → Gives .requestServe s fun t => t = s)
  ∧ (∀ (n : Nat) (c : Bool) (r : Req) (a : Resp) (s : State), ((s.session n).queueOf c).executing = some r →
    (s.session n).resp = some a → Gives (.requestComplete n c) s fun t =>
      t.core = { s with kept := t.kept, disp := t.disp, spi := t.spi, mbx := t.mbx }.core
        ∧ ((t.session n).queueOf c).executing = none
        ∧ ((t.session n).queueOf c).waiting = ((s.session n).queueOf c).waiting
        ∧ (t.session n).resp = none ∧ (t.session n).held = (s.session n).held - r.buffers
        ∧ (n ≠ 0 → (s.session n).link = 3 → t.out = ⟨0, a.status, respFrame 3 r a⟩)
        ∧ (∀ k, k ∈ s.kept → k.key = (s.session n).key n → k.reqId = r.reqId → k.resp = none →
            { k with resp := some a, sentAt := s.time.elapsed } ∈ t.kept)
        ∧ ∀ k, k ≠ n → t.session k = s.session k)
  ∧ (∀ s : State, s.obj 0x3500 1 ≠ 0 →
    s.disp.sampledAt / (s.obj 0x3500 1 * usUnits) < s.time.elapsed / (s.obj 0x3500 1 * usUnits) →
    Gives .qsample s fun t =>
      t = { s with sessions := t.sessions, disp := { s.disp with sampledAt := s.time.elapsed } }
        ∧ (∀ n, n < 32 → s.served n = true → t.session n = { s.session n with
            control := (s.session n).control.sample s.time.elapsed
            query := (s.session n).query.sample s.time.elapsed })
        ∧ (∀ n, s.served n = false → t.session n = s.session n))
  ∧ (∀ (ses n : Nat) (s : State), s.served ses = true →
    (n < 32 → Gives (.qstatsRead ses n) s fun t =>
      t.core = s.core ∧ (t.session n).control = (s.session n).control.restart
        ∧ (t.session n).query = (s.session n).query.restart ∧ t.out.status = stOk
        ∧ t.out.bytes = ((s.session n).control.stats ++ (s.session n).query.stats).take (min 48 (s.segMax ses)))
    ∧ (32 ≤ n → Gives (.qstatsRead ses n) s fun t => Does ses stNoObject s s t))
  -- what time takes away
  ∧ (∀ s : State, Gives .dedupExpire s fun t =>
      t = { s with kept := t.kept }
        ∧ ∀ k, k ∈ t.kept ↔ k ∈ s.kept ∧ (k.resp = none ∨ s.time.elapsed < k.sentAt + 10000000000 * 65536))
  ∧ (∀ (n key at_ : Nat) (v : List Byte) (s : State), (s.session n).snapshot = some (key, v, at_) →
    (at_ + 2000000000 * 65536 ≤ s.time.elapsed → Gives (.snapshotDiscard n) s fun t =>
      t = { s with sessions := t.sessions } ∧ t.session n = { s.session n with snapshot := none }
        ∧ ∀ k, k ≠ n → t.session k = s.session k)
    ∧ (s.time.elapsed < at_ + 2000000000 * 65536 → Gives (.snapshotDiscard n) s fun t => t = s))
  ∧ (∀ (n at_ : Nat) (s : State) (a b), (s.session n).assembly = some (a, b, at_) →
    (at_ + 2000000000 * 65536 < s.time.elapsed → Gives (.segmentAssemblyTimeout n) s fun t =>
      t = { s with sessions := t.sessions } ∧ t.session n = { s.session n with assembly := none }
        ∧ ∀ k, k ≠ n → t.session k = s.session k)
    ∧ (s.time.elapsed ≤ at_ + 2000000000 * 65536 → Gives (.segmentAssemblyTimeout n) s fun t => t = s))

/-- R420, R425: the queue that the dispatch serves next. It is ready; it is one of session 29 or 30 where any of those is
ready; and no ready queue of its class has a smaller finish tag.
The model's choices of log 54 enter it. -/
def Obligations.FairService : Prop :=
  ∀ (s : State) (p : Nat × Bool), s.nextServed = some p →
    p ∈ s.readyQueues
      ∧ ((∃ q, q ∈ s.readyQueues ∧ (q.1 = 29 ∨ q.1 = 30)) → p.1 = 29 ∨ p.1 = 30)
      ∧ ∀ q, q ∈ s.readyQueues → ((p.1 = 29 ∨ p.1 = 30) → q.1 = 29 ∨ q.1 = 30) →
          ((s.session p.1).queueOf p.2).finish ≤ ((s.session q.1).queueOf q.2).finish
/-- R383, R404, R405, R407, R409, R414: reads. A request that steps 4 and 5 stop is answered with their status; a read at
OFFSET 0 takes the object's value as the session's snapshot and gives its first segment; a later segment comes from that
snapshot, and without it is NOT_ELIGIBLE; PING gives the time.
The model's choices of log 5, 12, 14, 27, 28 enter it. -/
def Obligations.ObjectReads : Prop :=
  (∀ (ses ix sub off want : Nat) (s : State), s.served ses = false →
    Gives (.jopRead ses ix sub off want) s (fun t => t = s) ∧ Gives (.summaryRead ses) s (fun t => t = s)
      ∧ Gives (.jopPing ses) s fun t => t = s)
  ∧ (∀ (ses ix sub off want : Nat) (s : State), s.served ses = true → readGate ix sub ≠ stOk →
    Gives (.jopRead ses ix sub off want) s fun t => Does ses (readGate ix sub) s s t)
  ∧ (∀ (ses ix sub want : Nat) (s : State), s.served ses = true → readGate ix sub = stOk →
    ix ≠ 0x3100 → ix ≠ 0x1F00 → ix ≠ 0x1300 → (ix < 0x3510 ∨ 0x3530 ≤ ix) →
    Gives (.jopRead ses ix sub 0 want) s fun t =>
      t.core = { s with freeCtr := s.freeCtr + 1 }.core
        ∧ (t.session ses).snapshot = some (objKey ix sub, s.objValue ses ix sub, s.time.elapsed)
        ∧ (t.session ses).resp = some ⟨stOk,
            (s.objValue ses ix sub).take (if want = 0 ∧ ses ≠ 0 then s.segMax ses else min want (s.segMax ses)),
            (s.objValue ses ix sub).length⟩
        ∧ t.out.status = stOk ∧ ∀ k, k ≠ ses → t.session k = s.session k)
  ∧ (∀ (ses want : Nat) (s : State), s.served ses = true →
    exec (.jopRead ses 0x1300 2 0 want) s = exec (.regDataRead ses) s
      ∧ exec (.jopRead ses 0x3100 5 0 want) s = exec (.auditExportRead ses []) s
      ∧ exec (.jopRead ses 0x1F00 1 0 (s.segMax ses)) s = exec (.summaryRead ses) s)
  ∧ (∀ (ses ix sub off want : Nat) (s : State), s.served ses = true → readGate ix sub = stOk → off ≠ 0 →
    (∀ bs at_, (s.session ses).snapshot = some (objKey ix sub, bs, at_) → s.time.elapsed < at_ + twoSeconds →
      Gives (.jopRead ses ix sub off want) s fun t =>
        t.core = s.core
          ∧ (t.session ses).snapshot = some (objKey ix sub, bs, s.time.elapsed)
          ∧ (t.session ses).resp = some ⟨stOk,
              (bs.drop off).take (if want = 0 ∧ ses ≠ 0 then s.segMax ses else min want (s.segMax ses)), bs.length⟩
          ∧ ∀ k, k ≠ ses → t.session k = s.session k)
    ∧ ((∀ key bs at_, (s.session ses).snapshot = some (key, bs, at_) →
        key ≠ objKey ix sub ∨ at_ + twoSeconds ≤ s.time.elapsed) →
      Gives (.jopRead ses ix sub off want) s fun t => Does ses stNotEligible s s t))
  ∧ (∀ (ses : Nat) (s : State), s.served ses = true →
    Gives (.summaryRead ses) s fun t =>
      t.core = { s with freeCtr := s.freeCtr + 1 }.core
        ∧ (t.session ses).snapshot = some (objKey 0x1F00 1, s.summary, s.time.elapsed)
        ∧ (t.session ses).resp = some ⟨stOk, s.summary.take (s.segMax ses), s.summary.length⟩
        ∧ t.out.bytes = s.summary.take (s.segMax ses) ∧ ∀ k, k ≠ ses → t.session k = s.session k)
  ∧ (∀ (ses : Nat) (s : State), s.served ses = true →
    Gives (.jopPing ses) s fun t =>
      t.core = s.core ∧ (t.session ses).resp = some ⟨stOk, time96Bytes s.now, 12⟩
        ∧ t.out.bytes = time96Bytes s.now ∧ ∀ k, k ≠ ses → t.session k = s.session k)

/-- R25, R404, R407, R410: writes. A value that the gate stops changes nothing; an object with a command of its own has
that command's effect; a stored live setting waits for its boundary, is answered when it is in force and
journalled, and its session takes no write until then; segments in order are kept, and the last one writes the whole value.
The model's choices of log 5, 13, 25, 26 enter it. -/
def Obligations.ObjectWrites : Prop :=
  (∀ (ses ix sub off : Nat) (more : Bool) (v : List Byte) (s : State),
    (s.served ses = false ∨ (s.session ses).storing ≠ none) →
    Gives (.jopWrite ses ix sub off more v) s fun t => t = s)
  -- one whole write
  ∧ (∀ (ses ix sub : Nat) (v : List Byte) (s u : State), s.served ses = true → (s.session ses).storing = none →
    (s.session ses).assembly = none → sub < 256 → v.length ≤ 1048576 → u = s.afresh ses →
    (u.writeGate ses ix sub v ≠ stOk → ix ≠ 0x1800 →
      Gives (.jopWrite ses ix sub 0 false v) s fun t => Does ses (u.writeGate ses ix sub v) u u t)
    ∧ exec (.jopWrite ses 0x2200 1 0 false v) s = exec (.batchSubmit ses v) u
    ∧ exec (.jopWrite ses 0x2400 1 0 false v) s = exec (.cfgBodyWrite ses 0 v) u
    ∧ exec (.jopWrite ses 0x1800 3 0 false v) s = exec (.lcRequest ses v) u
    ∧ (∀ e, e < 256 → exec (.jopWrite ses 0x5400 3 0 false (valBytes 1 e)) s = exec (.clearCommit ses e) u)
    ∧ (∀ r, objRow ix sub = some r → u.writeGate ses ix sub v = stOk → ownRow ses ix sub v u = none → ix ≠ 0x1300 →
        (ix < 0x5000 ∨ 0x5040 ≤ ix) → r.cls = .live → r.type_ ≠ .domain →
        r.stored = true → Gives (.jopWrite ses ix sub 0 false v) s fun t =>
          t = { u with
              live := u.live ++ [⟨blockOf ix sub, false, objKey ix sub, leNat v, s.time.elapsed, 0⟩], sessions := t.sessions }
            ∧ t.session ses = { u.session ses with storing := some (objKey ix sub, v) }
            ∧ ∀ k, k ≠ ses → t.session k = s.session k)
    -- REG_OFFSET is live and not stored: it is answered at once and waits
    ∧ (ix = 0x1300 → sub = 1 → u.writeGate ses ix sub v = stOk → Gives (.jopWrite ses ix sub 0 false v) s fun t =>
        Does ses stOk u { u with
          live := u.live ++ [⟨blockOf ix sub, false, objKey ix sub, leNat v, s.time.elapsed, ses⟩] } t))
  -- segments
  ∧ (∀ (ses ix sub off : Nat) (more : Bool) (v : List Byte) (s : State), s.served ses = true →
    (s.session ses).storing = none → sub < 256 → s.segmentGate ses ix sub ≠ stOk → (more = true ∨ off ≠ 0) →
      Gives (.jopWrite ses ix sub off more v) s fun t => Does ses (s.segmentGate ses ix sub) s s t)
  ∧ (∀ (ses ix sub off : Nat) (more : Bool) (v : List Byte) (s u : State), s.served ses = true →
    (s.session ses).storing = none → sub < 256 → s.segmentGate ses ix sub = stOk → u = s.afresh ses →
    ((s.session ses).assembly = none → off ≠ 0 →
      Gives (.jopWrite ses ix sub off more v) s fun t => Does ses stRange u u t)
    ∧ ((s.session ses).assembly = none → v.length ≤ 1048576 →
      Gives (.jopWrite ses ix sub 0 true v) s fun t =>
        t.core = s.core ∧ (t.session ses).assembly = some (objKey ix sub, v, s.time.elapsed)
          ∧ (t.session ses).resp = some ⟨stOk, [], 0⟩ ∧ ∀ k, k ≠ ses → t.session k = s.session k)
    ∧ (∀ bs at_, (s.session ses).assembly = some (objKey ix sub, bs, at_) →
      ((s.time.elapsed ≤ at_ + twoSeconds ∧ bs.length + v.length ≤ 1048576) →
        Gives (.jopWrite ses ix sub bs.length true v) s fun t =>
          t.core = s.core ∧ (t.session ses).assembly = some (objKey ix sub, bs ++ v, s.time.elapsed)
            ∧ (t.session ses).resp = some ⟨stOk, [], 0⟩ ∧ ∀ k, k ≠ ses → t.session k = s.session k)
      ∧ ((s.time.elapsed ≤ at_ + twoSeconds ∧ bs.length + v.length ≤ 1048576) → ix = 0x2200 → sub = 1 →
          exec (.jopWrite ses ix sub bs.length false v) s = exec (.batchSubmit ses (bs ++ v)) u)
      ∧ ((at_ + twoSeconds < s.time.elapsed ∨ off ≠ bs.length ∨ 1048576 < bs.length + v.length) →
          Gives (.jopWrite ses ix sub off more v) s fun t => Does ses stRange u u t)))
  -- a stored value in force and in the journal
  ∧ (∀ (ses key : Nat) (v : List Byte) (s : State), (s.session ses).storing = some (key, v) →
    ((s.live.any fun w => !w.isReg && decide (w.key = key)) = false →
      Gives (.storedWriteComplete ses) s fun t =>
        t.core = s.core ∧ (t.session ses).storing = none ∧ (t.session ses).resp = some ⟨stOk, [], 0⟩
          ∧ ∀ k, k ≠ ses → t.session k = s.session k)
    ∧ ((s.live.any fun w => !w.isReg && decide (w.key = key)) = true →
      Gives (.storedWriteComplete ses) s fun t => t = s))

/-- R405: a session's subscriptions are a set of sources, of at most 64 runs. SUBSCRIBE adds each source of each of up to 16
ranges and UNSUBSCRIBE removes it; a set that would have more runs, or a range whose first source lies above its last,
changes nothing. A record of a subscribed source enters the send queue once, and leaves it in one EVENT frame; a closing session loses its subscriptions.
What the engine answers is read at the model's output port (log 14). -/
def Obligations.Subscriptions : Prop :=
  (∀ (ses : Nat) (bs : List Byte) (s : State), s.served ses = true →
    -- elsewhere than on a v3 session nothing is subscribed, and a well-formed list is NOT_ELIGIBLE
    (((s.session ses).link ≠ 3 ∨ 29 ≤ ses) →
      Gives (.jopSubscribe ses bs) s (fun t => t.core = s.core ∧ (t.session ses).subs = (s.session ses).subs)
        ∧ Gives (.jopUnsubscribe ses bs) s (fun t => t.core = s.core ∧ (t.session ses).subs = (s.session ses).subs)
        ∧ (bs.length % 4 = 0 → bs.length ≤ 64 → (∀ r, r ∈ parseRanges bs → r.1 ≤ r.2) →
          Gives (.jopSubscribe ses bs) s (fun t => Does ses stNotEligible s s t)
            ∧ Gives (.jopUnsubscribe ses bs) s fun t => Does ses stNotEligible s s t))
    ∧ ((s.session ses).link = 3 → ses < 29 →
      ((bs.length % 4 ≠ 0 ∨ 64 < bs.length) →
        Gives (.jopSubscribe ses bs) s (fun t => Does ses stBadType s s t)
          ∧ Gives (.jopUnsubscribe ses bs) s fun t => Does ses stBadType s s t)
      ∧ (bs.length % 4 = 0 → bs.length ≤ 64 →
        ((∃ r, r ∈ parseRanges bs ∧ r.2 < r.1) →
          Gives (.jopSubscribe ses bs) s (fun t => Does ses stRange s s t)
            ∧ Gives (.jopUnsubscribe ses bs) s fun t => Does ses stRange s s t)
        ∧ ((∀ r, r ∈ parseRanges bs → r.1 ≤ r.2) →
          (s.session ses).subs.Pairwise (fun p q => p.2 + 1 < q.1) → (∀ p, p ∈ (s.session ses).subs → p.1 ≤ p.2) →
          Gives (.jopSubscribe ses bs) s (fun t =>
            (t.core = s.core ∧ ∀ k, k ≠ ses → t.session k = s.session k)
              ∧ ∃ runs, RunsOf runs (fun n =>
                  subscribed (s.session ses).subs n = true ∨ ∃ r, r ∈ parseRanges bs ∧ r.1 ≤ n ∧ n ≤ r.2)
                ∧ (runs.length ≤ 64 → (t.session ses).resp = some ⟨stOk, [], 0⟩ ∧ (t.session ses).subs = runs)
                ∧ (64 < runs.length → (t.session ses).resp = some ⟨stRange, [], 0⟩
                    ∧ (t.session ses).subs = (s.session ses).subs))
          ∧ Gives (.jopUnsubscribe ses bs) s fun t =>
            (t.core = s.core ∧ ∀ k, k ≠ ses → t.session k = s.session k)
              ∧ ∃ runs, RunsOf runs (fun n =>
                  subscribed (s.session ses).subs n = true ∧ ∀ r, r ∈ parseRanges bs → n < r.1 ∨ r.2 < n)
                ∧ (runs.length ≤ 64 → (t.session ses).resp = some ⟨stOk, [], 0⟩ ∧ (t.session ses).subs = runs)
                ∧ (64 < runs.length → (t.session ses).resp = some ⟨stRange, [], 0⟩
                    ∧ (t.session ses).subs = (s.session ses).subs)))))
  -- what the set does, and how it ends
  ∧ (∀ (src fl n : Nat) (at_ : Instant) (p : List Byte) (s t : State), s.events.started = true →
    (s.mapEntry src).testBit 31 = true → s.qRoom (field (s.mapEntry src) 24 3) = true → (s.session n).isOpen = true →
    (s.session n).sendq.length < 256 → s.behind src = 0 → t = raiseAt src at_ fl p s →
    (subscribed (s.session n).subs src = true → ∃ r, (t.session n).sendq = (s.session n).sendq ++ [r] ∧ r.source = src)
    ∧ (subscribed (s.session n).subs src = false → (t.session n).sendq = (s.session n).sendq))
  -- the oldest record of the send queue leaves in one EVENT frame
  ∧ (∀ (p n len : Nat) (x : Session) (r : ERec) (rest : List ERec) (s : State), p < 2 → s.power.vaux = true →
    s.obj 0x1400 (0x10 + p) ≠ 1 → (s.gate p).active = none → s.sessions = [(n, x)] → x.isOpen = true → x.link = 3 → (x.peer.headD 0#8).toNat = p →
    x.sendq = r :: rest → Gives (.egressFrameStart p 1 len) s fun t =>
      t = { s with gate0 := t.gate0, gate1 := t.gate1, sessions := t.sessions
                   events := { s.events with cycleFrom := s.events.last + 1 }, out := ⟨r.seq, 0, eventFrame r⟩ }
        ∧ t.session n = { x with sendq := rest } ∧ ∀ k, k ≠ n → t.session k = s.session k)
  ∧ (∀ (n : Nat) (r : CloseReason) (s : State), 5 ≤ n → n ≤ 28 → (s.session n).taken = none →
    (s.session n).isOpen = true → s.closes n r = true →
    Gives (.sessionClose n r) s fun t => (t.session n).isOpen = false ∧ (t.session n).subs = [])
/-- R6, R74, R119, R209, R451, R456 to R458: boot and update. The boot ROM runs the preferred image, else the other one, else none;
firmware starts a new configuration epoch with an empty circuit table; sessions open when no stored configuration
compiles any more. An update erases the spare slot, prefers the one in use until it is done, writes, checks and then prefers the spare; FW_CONFIRM raises FUSED_SVN.
The model's choices of log 5, 11, 40, 54, 59, 64 enter it. -/
def Obligations.BootAndUpdate : Prop :=
  (∀ s : State,
    ((s.power.watchOn = false ∨ s.boot.verified = true) → Gives .bootImageVerify s fun t => t = s)
    ∧ (s.power.watchOn = true → s.boot.verified = false →
      (s.imageValid s.boot.pref (s.imageAt s.boot.pref) = true → Gives .bootImageVerify s fun t =>
        t = { s with boot := { s.boot with running := s.boot.pref, bootField := 0, verified := true } })
      ∧ (s.imageValid s.boot.pref (s.imageAt s.boot.pref) = false → s.imageValid (1 - s.boot.pref) (s.imageAt (1 - s.boot.pref)) = true →
        Gives .bootImageVerify s fun t =>
          t = { s with boot := { s.boot with running := 1 - s.boot.pref, bootField := 1, verified := true } })
      ∧ (s.imageValid s.boot.pref (s.imageAt s.boot.pref) = false → s.imageValid (1 - s.boot.pref) (s.imageAt (1 - s.boot.pref)) = false →
        Gives .bootImageVerify s fun t =>
          t.power.watchOn = false ∧ t.boot.bootField = 2 ∧ t.boot.running = s.boot.running ∧ t.time = s.time
            ∧ t.objs = s.objs ∧ ∀ e, (t.elem e).mode = .parked)))
  ∧ (∀ (ok : Bool) (s : State),
    ((s.boot.verified = false ∨ s.boot.firmware = true ∨ s.power.watchOn = false ∨ s.time.running = false) →
      Gives (.firmwareRunning ok) s fun t => t = s)
    ∧ (s.boot.verified = true → s.boot.firmware = false → s.power.watchOn = true → s.time.running = true →
      Gives (.firmwareRunning ok) s fun t =>
        t.boot.firmware = true ∧ t.genEpoch = (s.genEpoch + 1) % 16777216 ∧ t.genCount = 0 ∧ t.active = {}
          ∧ t.digests = [] ∧ t.ladder.state = bit (ok && t.boot.calUsable) ∧ t.objs = s.objs
          ∧ (∀ p, p < 2 → (t.gate p).enable = decide (s.obj (0x3540 + p) 1 = 1))
          ∧ t.time = s.time ∧ t.ptp0 = s.ptp0 ∧ t.ptp1 = s.ptp1 ∧ t.boot.selftest = ok
          ∧ (∀ p, p ∈ t.cfgs → p.2.state = 0 ∨ p.2.state = 1)))
  ∧ (∀ s : State,
    ((s.boot.firmware = false ∨ s.boot.started = true ∨ ∃ p, p ∈ s.cfgs ∧ p.2.state = 1) →
      Gives .startupComplete s fun t => t = s)
    ∧ (s.boot.firmware = true → s.boot.started = false → (∀ p, p ∈ s.cfgs → p.2.state ≠ 1) →
      Gives .startupComplete s fun t =>
        t.boot = { s.boot with started := true } ∧ (t.session 0).isOpen = true ∧ (t.session 0).link = 0
          ∧ (t.session 0).role = s.obj 0x1400 1
          ∧ (∀ r, 1 ≤ r → r ≤ 4 → (s.ring r).running = true → (t.session r).isOpen = true)
          ∧ (∀ n, 5 ≤ n → (t.session n).still = (s.session n).still) ∧ t.base = { s with boot := t.boot }.base))
  ∧ (∀ (len : Nat) (bs : List Byte) (s : State),
    ∀ i : Image, i = { bytes := bs.take (len % 33554432) } →
    ((s.boot.bootField ≠ 2 ∨ i.sound = false ∨ i.svn < s.boot.fusedSvn) →
      Gives (.bootRecoveryLoad len bs) s fun t => t = s.setReg 0x30018 (len % 33554432))
    ∧ (s.boot.bootField = 2 → s.power.watchOn = false → len % 33554432 ≤ bs.length → i.sound = true →
      s.boot.fusedSvn ≤ i.svn →
      Gives (.bootRecoveryLoad len bs) s fun t =>
        t.boot = { s.boot with imageA := i.store 0, bootField := 0, verified := false }
          ∧ t.imageValid 0 t.boot.imageA = true
          ∧ (s.power.vaux = true → s.power.vmain = true → s.power.modResetHeld = false → s.thermal.trip = false →
              t.power.watchOn = true)))
  -- update
  ∧ (∀ (ses : Nat) (s : State), Passes ses 0x1810 5 [1#8] s →
      Gives (.fwUpdateStart ses 1) s fun t => Does ses stOk s { s with boot := t.boot } t
        ∧ t.boot = { (s.setImage s.spareSlot { erased := true }).boot with pref := s.boot.running })
  ∧ (∀ (ses off : Nat) (v data : List Byte) (s : State), Passes ses 0x1810 6 v s → off = leAt v 0 4 → data = v.drop 4 →
    (16777216 < off + data.length → Gives (.fwUpdateData ses v) s fun t => Does ses stRange s s t)
    ∧ (off + data.length ≤ 16777216 →
      ((s.imageAt s.spareSlot).erased = false → Gives (.fwUpdateData ses v) s fun t => Does ses stNotEligible s s t)
      ∧ ((s.imageAt s.spareSlot).erased = true → Gives (.fwUpdateData ses v) s fun t =>
          Does ses stOk s (s.setImage s.spareSlot { s.imageAt s.spareSlot with bytes := (t.imageAt s.spareSlot).bytes }) t
            ∧ (∀ j, j < data.length → (t.imageAt s.spareSlot).bytes[off + j]? = data[j]?)
            ∧ (∀ k, (k < off ∨ off + data.length ≤ k) → k < (s.imageAt s.spareSlot).bytes.length →
                (t.imageAt s.spareSlot).bytes[k]? = (s.imageAt s.spareSlot).bytes[k]?))))
  ∧ (∀ (ses : Nat) (s : State), Passes ses 0x1810 7 [1#8] s →
    ((s.imageAt s.spareSlot).sound = false → Gives (.fwUpdateCommit ses 1) s fun t => Does ses stCheckFail s s t)
    ∧ ((s.imageAt s.spareSlot).sound = true → (s.imageAt s.spareSlot).svn < s.boot.fusedSvn →
      Gives (.fwUpdateCommit ses 1) s fun t => Does ses stPrecondition s s t)
    ∧ ((s.imageAt s.spareSlot).sound = true → s.boot.fusedSvn ≤ (s.imageAt s.spareSlot).svn →
      Gives (.fwUpdateCommit ses 1) s fun t =>
        Does ses stOk s { s with boot := t.boot } t ∧ t.boot.pref = s.spareSlot ∧ t.boot.fusedSvn = s.boot.fusedSvn
          ∧ t.boot.running = s.boot.running
          -- with the CHECK that the engine writes, the image is valid
          ∧ t.imageAt t.boot.pref = (s.imageAt s.spareSlot).store s.spareSlot
          ∧ t.imageValid t.boot.pref (t.imageAt t.boot.pref) = true))
  ∧ (∀ (ses : Nat) (s : State), Passes ses 0x1810 8 [1#8] s →
    (s.boot.running ≠ s.boot.pref → Gives (.fwConfirm ses 1) s fun t => Does ses stNotEligible s s t)
    ∧ (s.boot.running = s.boot.pref → Gives (.fwConfirm ses 1) s fun t =>
        Does ses stOk s { s with boot := { s.boot with
          fusedSvn := max s.boot.fusedSvn (s.imageAt s.boot.running).svn } } t))

/-- R459 to R465: the life-cycle. Each LC_REQUEST takes a new nonce, whatever its outcome; a permitted one that is ready starts its
transition, which on completion replaces the keys, wipes the Quench banks and answers the session that asked. Tamper
destroys the keys and wipes the Quench banks; an orderly shutdown closes the audit epoch and flushes the ring.
The model's choices of log 5, 11, 60 enter it. -/
def Obligations.LifeCycle : Prop :=
  (∀ (ses : Nat) (v : List Byte) (s u : State), s.served ses = true →
    u = { s with life := { s.life with nonceNo := s.life.nonceNo + 1 } } →
    (leAt v 0 1 ≠ 4 → s.writeGate ses 0x1800 3 v ≠ stOk →
      Gives (.lcRequest ses v) s fun t => Does ses (s.writeGate ses 0x1800 3 v) s u t)
    ∧ (leAt v 0 1 = 4 → v.length ≠ 96 → Gives (.lcRequest ses v) s fun t => Does ses stBadType s u t)
    ∧ (v.length = 96 → (leAt v 0 1 = 4 ∨ s.writeGate ses 0x1800 3 v = stOk) →
      (s.lcTokenOk v = false → Gives (.lcRequest ses v) s fun t => Does ses stDenied s u t)
      ∧ (s.lcTokenOk v = true →
        (lcOf (leAt v 0 1) = none → Gives (.lcRequest ses v) s fun t => Does ses stNotEligible s u t)
        ∧ (∀ x, lcOf (leAt v 0 1) = some x →
          ((s.life.target ≠ none ∨ s.lcPermits ses x = false) →
            Gives (.lcRequest ses v) s fun t => Does ses stNotEligible s u t)
          ∧ (s.life.target = none → s.lcPermits ses x = true →
            (s.lcReady x = false → Gives (.lcRequest ses v) s fun t => Does ses stPrecondition s u t)
            ∧ (s.lcReady x = true → (x ≠ .decommissioned ∨ s.active.slots = []) →
              Gives (.lcRequest ses v) s fun t => t = { u with life := { u.life with target := some x, asker := ses } })
            ∧ (s.lcReady x = true → x = .decommissioned → s.active.slots ≠ [] →
              Gives (.lcRequest ses v) s fun t =>
                t = { u with
                    life := { u.life with target := some x, asker := ses }
                    batches := t.batches, nextBatch := t.nextBatch }
                  ∧ t.batches = s.batches ++ [s.breakAll]))))))
  ∧ (∀ s : State,
    (s.life.target = none → Gives .lcTransitionComplete s fun t => t = s)
    ∧ (s.life.target = some .decommissioned → s.active.slots ≠ [] → Gives .lcTransitionComplete s fun t => t = s)
    ∧ (∀ x, s.life.target = some x →
      (x = .decommissioned → s.active.slots = [] ∧ ∀ b, b ∈ s.batches → b.session ≠ 30) →
      Gives .lcTransitionComplete s fun t =>
        t.life = { s.life with
            state := x, target := none, keyNo := s.life.keyNo + 1
            auditKey := if x = .deployed then some (s.life.keyNo + 1) else none
            tlsKey := decide (x = .deployed ∨ x = .provisioned) }
          ∧ (t.session s.life.asker).resp = some ⟨stOk, [], 0⟩
          ∧ (∀ a, memRead t.mem a = if 62 * bankBytes ≤ a ∧ a < 64 * bankBytes then 0 else memRead s.mem a)
          ∧ t.active = s.active ∧ t.time = s.time
          ∧ t.objs = (if x = .decommissioned then s.objs.filter fun p => !storedEntry p.1 else s.objs)
          ∧ t.cfgs = (if x = .decommissioned then [] else s.cfgs)))
  ∧ (∀ (n : Nat) (at_ : Instant) (s : State),
    (s.power.vaux = false → Gives (.tamper n at_) s fun t => t = s)
    ∧ (s.power.vaux = true → s.tamperSources n = 0 → Gives (.tamper n at_) s fun t =>
        t = { s with life := { s.life with tamperNow := 0 } })
    ∧ (s.power.vaux = true → s.tamperSources n ≠ 0 → Gives (.tamper n at_) s fun t =>
        t.life = { s.life with
            auditKey := none, tlsKey := false, target := none, tamperNow := s.tamperSources n
            tamperCount := (s.life.tamperCount + 1) % 4294967296, tamperLast := at_
            tamperSources := s.tamperSources n }
          ∧ (∀ a, memRead t.mem a = if 62 * bankBytes ≤ a ∧ a < 64 * bankBytes then 0 else memRead s.mem a)
          ∧ (s.life.target ≠ none → (t.session s.life.asker).resp = some ⟨stPrecondition, [], 0⟩)
          ∧ t.active = s.active ∧ t.objs = s.objs ∧ t.time = s.time))
  ∧ (∀ (ses : Nat) (s : State), Passes ses 0x1800 4 [1#8] s →
      Gives (.lcShutdown ses 1) s fun t =>
        t.apart = { s with power := { s.power with flush := if s.power.flush = 0 then 3 else s.power.flush } }.apart
          ∧ Answered ses stOk s t ∧ t.audit.closed = true)
  ∧ (∀ s : State,
    (s.power.flush ≠ 3 → Gives .shutdownReady s fun t => t = s)
    ∧ (s.power.flush = 3 → Gives .shutdownReady s fun t =>
        Same { s with power := { s.power with flush := 0 } } t
          ∧ (∃ u, u.events = s.events ∧ u.sessions = s.sessions ∧ u.queues = s.queues ∧ t = raiseEv 0x086 [] u)
          ∧ t.audit.ring = s.audit.ring ∧ t.audit.buffer = s.audit.buffer
          ∧ (s.boot.firmware = true → t.audit.hasFlush = true
              ∧ t.audit.flushed = lastOf 16384
                  (s.audit.ring ++ s.audit.buffer.filter fun r => decide (s.audit.released < r.seq)))
          ∧ (s.boot.firmware = false → t.audit.hasFlush = s.audit.hasFlush ∧ t.audit.flushed = s.audit.flushed)))
/-- R21, R405, R416, R437, R439 to R441, R443: event records. A raised event of an enabled source takes the next SEQ,
before the records of greater sources of the same 40 ns cycle, and enters the history; its queue takes the record where
it has room, and otherwise drops it and counts it; a subscribed session's send queue takes it. A read of EVT_Q_DATA0 pops
the oldest record into the latch; RD frees a host ring's records; re-delivery gives the held records after FROM_SEQ in
order.
The model's choices of log 14, 58, 73 enter it. -/
def Obligations.EventRecords : Prop :=
  (∀ (src fl : Nat) (at_ : Instant) (p : List Byte) (s : State),
    (s.events.started = false ∨ (s.mapEntry src).testBit 31 = false) → raiseAt src at_ fl p s = s)
  ∧ (∀ (src fl q : Nat) (at_ : Instant) (p : List Byte) (s t : State) (r : ERec), s.events.started = true →
    (s.mapEntry src).testBit 31 = true → q = field (s.mapEntry src) 24 3 → t = raiseAt src at_ fl p s →
    s.behind src = 0 → r = ⟨s.events.last + 1, at_, s.quality, fl, src, padTo 8 p⟩ →
    Same s t
      ∧ (s.qRoom q = true →
          t.events.last = s.events.last + 1 ∧ t.events.history = (r :: s.events.history).take 65536
            ∧ (t.queue q).records = (s.queue q).records
                ++ [if (s.queue q).lostBefore then { r with flags := orBit r.flags 3 } else r]
            ∧ (t.queue q).lost = (s.queue q).lost ∧ (t.queue q).lostBefore = false
            ∧ ((s.queue q).records = [] → field (s.qCtrl q) 16 9 ∈ t.events.vectors)
            ∧ ∀ k, k ≠ q → t.queue k = s.queue k)
      ∧ (s.qRoom q = false → (s.queue q).overflow = true →
          t.events.last = s.events.last + 1 ∧ t.events.history = (r :: s.events.history).take 65536
            ∧ t.queue q = { s.queue q with lost := min ((s.queue q).lost + 1) 0xFFFFFFFF, lostBefore := true }
            ∧ ∀ k, k ≠ q → t.queue k = s.queue k)
      ∧ (s.qRoom q = false → (s.queue q).overflow = false →
          (t.queue q).records.length = (s.queue q).records.length ∧ (t.queue q).overflow = true
            ∧ s.events.last + 1 ≤ t.events.last ∧ t.events.last ≤ s.events.last + 3)
      ∧ (∀ n, (s.session n).isOpen = true → subscribed (s.session n).subs src = true →
          (s.qRoom q = true ∨ (s.queue q).overflow = true) →
          ((s.session n).sendq.length < 256 → (t.session n).sendq = (s.session n).sendq
              ++ [if (s.session n).lostBefore then { r with flags := orBit r.flags 3 } else r])
          ∧ (256 ≤ (s.session n).sendq.length → (t.session n).sendq = (s.session n).sendq
              ∧ (t.session n).evtDrops = ((s.session n).evtDrops + 1) % 4294967296)))
  -- of the records of one 40 ns cycle, those of greater sources come behind it: it takes their least SEQ
  ∧ (∀ (src fl k : Nat) (at_ : Instant) (p : List Byte) (s t : State), s.events.started = true →
    (s.mapEntry src).testBit 31 = true → s.qRoom (field (s.mapEntry src) 24 3) = true → k = s.behind src → 0 < k →
    k ≤ s.events.last → t = raiseAt src at_ fl p s →
    Same s t ∧ t.events.last = s.events.last + 1
      ∧ ∃ r : ERec, r.seq = s.events.last + 1 - k ∧ r.source = src ∧ r.time = at_
        ∧ t.events.history = ((s.events.history.take k).map (fun x => ERec.bump r.seq x)
            ++ r :: (s.events.history.drop k).map (fun x => ERec.bump r.seq x)).take 65536)
  ∧ (∀ (src : Nat) (s : State), s.behind src
      = if s.events.cycle = s.time.elapsed / (40 * 65536) then
          (s.events.history.takeWhile fun r => decide (s.events.cycleFrom ≤ r.seq) && decide (src < r.source)).length
        else 0)
  ∧ (∀ (q : Nat) (s : State), q < 8 → s.power.vaux = true →
    (s.qMode q = 0 → (s.queue q).records = [] → Gives (.evtQData0Read q) s fun t =>
      t = { s with queues := t.queues, out := t.out } ∧ t.queue q = { s.queue q with latch := none }
        ∧ t.out.data = 0 ∧ ∀ k, k ≠ q → t.queue k = s.queue k)
    ∧ (∀ r rest, s.qMode q = 0 → (s.queue q).records = r :: rest → Gives (.evtQData0Read q) s fun t =>
      t = { s with queues := t.queues, events := { s.events with cycleFrom := s.events.last + 1 }, out := t.out }
        ∧ t.queue q = { s.queue q with records := rest, latch := some r }
        ∧ t.out.data = leNat (r.bytes.take 4) ∧ ∀ k, k ≠ q → t.queue k = s.queue k)
    ∧ (s.qMode q ≠ 0 → Gives (.evtQData0Read q) s fun t => t = { s with out := t.out } ∧ t.out.data = 0))
  -- RD is live: it is in force from the next transit boundary
  ∧ (∀ (q rd : Nat) (s : State), q < 8 → s.power.vaux = true → Gives (.evtQRdWrite q rd) s fun t =>
      t = { s with live := s.live ++ [⟨.eventBlock, true, 0x1003C + 0x100 * q, rd % 4096, s.time.elapsed, 0⟩] })
  ∧ (∀ (q rd left : Nat) (at_ : Instant) (s : State), q < 8 → s.qMode q = 1 →
    s.live = [⟨.eventBlock, true, 0x1003C + 0x100 * q, rd, at_, 0⟩] → at_ < s.time.transitStart → rd < 4096 →
    left = ((s.queue q).wr + 2 ^ field (s.qCtrl q) 12 4 - rd % 2 ^ field (s.qCtrl q) 12 4)
      % 2 ^ field (s.qCtrl q) 12 4 →
    (left ≤ (s.queue q).records.length → Gives (.liveSettingApply .eventBlock) s fun t =>
      t = { s with live := [], regs := t.regs, queues := t.queues } ∧ (∀ k, k ≠ q → t.queue k = s.queue k)
        ∧ t.queue q = { s.queue q with records := (s.queue q).records.drop ((s.queue q).records.length - left) }
        ∧ (t.queue q).records.length = left)
    ∧ ((s.queue q).records.length < left → Gives (.liveSettingApply .eventBlock) s fun t =>
      t = { s with live := [], regs := t.regs }))
  ∧ (∀ s : State, s.power.vaux = true → Gives .evtSeqLoRead s fun t =>
      t = { s with events := { s.events with seqHi := s.events.last / 4294967296 }, out := t.out }
        ∧ t.out.data = s.events.last % 4294967296)
  -- re-delivery
  ∧ (∀ (ses from_ max q : Nat) (v : List Byte) (s : State), Passes ses 0x1E00 1 v s → from_ = leAt v 0 8 →
    max = leAt v 8 4 → q = leAt v 12 1 →
    ((s.newestEvent < from_ ∨ 8 ≤ q ∨ (q ≠ 0 ∧ isMailbox (s.linkOf ses) = false) ∨ leAt v 13 3 ≠ 0) →
      Gives (.eventRedeliver ses v) s fun t => Does ses stRange s s t)
    ∧ (from_ ≤ s.newestEvent → leAt v 12 4 = 0 → ses < 29 →
      ((s.session ses).link = 2 → Gives (.eventRedeliver ses v) s fun t => Does ses stNotEligible s s t)
      ∧ ((s.session ses).link = 3 → Gives (.eventRedeliver ses v) s fun t =>
          t.core = s.core ∧ (t.session ses).sendq = (s.session ses).sendq ++ s.heldAfter from_ max
            ∧ (t.session ses).redeliver = (((s.heldAfter from_ max).map fun r => r.seq).headD 0,
                (s.heldAfter from_ max).length, s.lostAfter from_)
            ∧ (t.session ses).resp = some ⟨stOk, [], 0⟩ ∧ ∀ k, k ≠ ses → t.session k = s.session k)))
  ∧ (∀ (from_ max : Nat) (s : State), (max = 0 → (s.heldAfter from_ max).length
        = countWhere (fun r => decide (from_ < r.seq)) s.events.history)
      ∧ (∀ r, r ∈ s.heldAfter from_ max → from_ < r.seq ∧ r.flags.testBit 2 = true)
      ∧ (max ≠ 0 → (s.heldAfter from_ max).length ≤ max)
      ∧ (s.events.history.Pairwise (fun a b => b.seq < a.seq) →
          (s.heldAfter from_ max).Pairwise (fun a b => a.seq < b.seq)))
/-- One step takes the command at the front of the queue and runs it on the state with the queue's rest; an empty queue
idles (the model's choice, log 6). No command ever stops: each gives a next state on every state. -/
def Obligations.StepRunsFrontCommand : Prop :=
  (∀ (c : Instr) (rest : List Instr) (s : State), s.pending = c :: rest → step s = exec c { s with pending := rest })
    ∧ (∀ s : State, s.pending = [] → step s = .next s)
    ∧ ∀ (c : Instr) (s : State), ∃ t, exec c s = .next t

/-- R439, R451, R459: the state at the reset point of the model (log 1): VAUX alone is good and Hearth has just started; nothing waits,
runs, is listed or held, and both invariants of this file hold. Values that the spec does not state are the model's (log 1, 2, 4). -/
def Obligations.ResetState : Prop :=
  State.reset.pending = [] ∧ State.reset.mem = [] ∧ State.reset.ddr = [] ∧ State.reset.sessions = []
    ∧ State.reset.power.vaux = true ∧ State.reset.power.vmain = false ∧ State.reset.power.forgeOn = false ∧
    State.reset.power.watchOn = false
    ∧ State.reset.time.running = false ∧ State.reset.time.quality = .freerun
    ∧ State.reset.life.state = .blank ∧ State.reset.forge.state = .asleep ∧ State.reset.active = {}
    ∧ State.reset.sched.state = .idle ∧ State.reset.keeper.state = .init ∧ State.reset.ladder.state = 0
    ∧ (∀ e, (State.reset.elem e).mode = .parked) ∧ State.reset.audit.ring = [] ∧ State.reset.events.last = 0
    ∧ State.reset.memoryWf ∧ State.reset.historiesBounded

/-- Every step keeps both addressed memories in their canonical form: addresses strictly rise, and no byte is listed that reads
as an unlisted one does.
The model's choices of log 4 enter it. -/
def Obligations.StepKeepsMemoryForm : Prop :=
  ∀ s t : State, s.memoryWf → step s = .next t → t.memoryWf

/-- R79, R101, R308, R416: every step keeps the histories within the lengths that the spec gives them. -/
def Obligations.StepKeepsHistories : Prop :=
  ∀ s t : State, s.historiesBounded → step s = .next t → t.historiesBounded
end

