-- ==== Sys2Proof/Laws/Maps.lean ====
section
/-! SUPPORT. Laws of the sparse tables and of addressed memory: a read after a write, the bytes that a write
leaves alone, and the canonical form, which every memory operation keeps. -/

namespace Sys2Proof.Machine

/-! ### Tables -/

theorem mapGet_mapErase_self {α : Type} (m : SMap α) (k : Nat) (d : α) : mapGet (mapErase m k) k d = d := by
  induction m with
  | nil => rfl
  | cons p rest ih =>
    obtain ⟨j, v⟩ := p
    by_cases h : j = k <;> simp [mapErase, mapGet, h, ih]

theorem mapGet_mapErase_ne {α : Type} (m : SMap α) (k j : Nat) (d : α) (h : j ≠ k) :
    mapGet (mapErase m k) j d = mapGet m j d := by
  induction m with
  | nil => rfl
  | cons p rest ih =>
    obtain ⟨i, v⟩ := p
    by_cases hi : i = k
    · have : i ≠ j := fun e => h (e ▸ hi)
      simp [mapErase, mapGet, hi, ih, Ne.symm h]
    · simp [mapErase, mapGet, hi, ih]

theorem mapGet_mapPut_self {α : Type} (m : SMap α) (k : Nat) (v d : α) : mapGet (mapPut m k v) k d = v := by
  induction m with
  | nil => simp [mapPut, mapGet]
  | cons p rest ih =>
    obtain ⟨j, w⟩ := p
    simp only [mapPut]
    split
    · simp [mapGet]
    · split
      · simp [mapGet]
      · rename_i h
        simp [mapGet, Ne.symm h, ih]

theorem mapGet_mapPut_ne {α : Type} (m : SMap α) (k j : Nat) (v d : α) (h : j ≠ k) :
    mapGet (mapPut m k v) j d = mapGet m j d := by
  induction m with
  | nil => simp [mapPut, mapGet, Ne.symm h]
  | cons p rest ih =>
    obtain ⟨i, w⟩ := p
    simp only [mapPut]
    split
    · simp [mapGet, Ne.symm h]
    · split
      · rename_i _ hk
        subst hk
        simp [mapGet, Ne.symm h]
      · simp [mapGet, ih]

/-- A read after a write of the same key gives the value written. -/
@[simp] theorem mapGet_mapSet_self {α : Type} [DecidableEq α] (m : SMap α) (k : Nat) (v d : α) :
    mapGet (mapSet m k v d) k d = v := by
  unfold mapSet
  split
  · rename_i h; rw [mapGet_mapErase_self, h]
  · exact mapGet_mapPut_self m k v d

/-- A write leaves every other key alone, whatever the read's default. -/
theorem mapGet_mapSet_other {α : Type} [DecidableEq α] (m : SMap α) (k j : Nat) (v d d' : α) (h : j ≠ k) :
    mapGet (mapSet m k v d) j d' = mapGet m j d' := by
  unfold mapSet
  split
  · exact mapGet_mapErase_ne m k j d' h
  · exact mapGet_mapPut_ne m k j v d' h

/-- A write leaves every other key alone. -/
theorem mapGet_mapSet_ne {α : Type} [DecidableEq α] (m : SMap α) (k j : Nat) (v d : α) (h : j ≠ k) :
    mapGet (mapSet m k v d) j d = mapGet m j d := mapGet_mapSet_other m k j v d d h

theorem mapGet_mapSet {α : Type} [DecidableEq α] (m : SMap α) (k : Nat) (v d : α) (j : Nat) :
    mapGet (mapSet m k v d) j d = if j = k then v else mapGet m j d := by
  split
  · next h => rw [h, mapGet_mapSet_self]
  · next h => exact mapGet_mapSet_ne m k j v d h

/-! ### The canonical form -/

theorem mapWfFrom_mono {α : Type} [DecidableEq α] (d : α) (m : SMap α) (lo lo' : Nat) (h : lo' ≤ lo)
    (w : mapWfFrom d lo m = true) : mapWfFrom d lo' m = true := by
  cases m with
  | nil => rfl
  | cons p rest =>
    obtain ⟨j, v⟩ := p
    simp only [mapWfFrom, Bool.and_eq_true, decide_eq_true_eq] at w ⊢
    exact ⟨⟨by omega, w.1.2⟩, w.2⟩

theorem mapWfFrom_mapErase {α : Type} [DecidableEq α] (d : α) (m : SMap α) (k lo : Nat)
    (w : mapWfFrom d lo m = true) : mapWfFrom d lo (mapErase m k) = true := by
  induction m generalizing lo with
  | nil => rfl
  | cons p rest ih =>
    obtain ⟨j, v⟩ := p
    simp only [mapWfFrom, Bool.and_eq_true, decide_eq_true_eq] at w
    simp only [mapErase]
    split
    · exact mapWfFrom_mono d _ (j + 1) lo (by omega) (ih (j + 1) w.2)
    · simp only [mapWfFrom, Bool.and_eq_true, decide_eq_true_eq]
      exact ⟨w.1, ih (j + 1) w.2⟩

theorem mapWfFrom_mapPut {α : Type} [DecidableEq α] (d v : α) (m : SMap α) (k lo : Nat) (hk : lo ≤ k) (hv : v ≠ d)
    (w : mapWfFrom d lo m = true) : mapWfFrom d lo (mapPut m k v) = true := by
  induction m generalizing lo with
  | nil => simp [mapPut, mapWfFrom, hk, hv]
  | cons p rest ih =>
    obtain ⟨j, u⟩ := p
    simp only [mapWfFrom, Bool.and_eq_true, decide_eq_true_eq] at w
    simp only [mapPut]
    split
    · rename_i h
      simp only [mapWfFrom, Bool.and_eq_true, decide_eq_true_eq]
      exact ⟨⟨hk, hv⟩, ⟨by omega, w.1.2⟩, w.2⟩
    · split
      · rename_i _ h
        subst h
        simp only [mapWfFrom, Bool.and_eq_true, decide_eq_true_eq]
        exact ⟨⟨hk, hv⟩, w.2⟩
      · simp only [mapWfFrom, Bool.and_eq_true, decide_eq_true_eq]
        exact ⟨w.1, ih (j + 1) (by omega) w.2⟩

/-- A write keeps a table's canonical form. -/
theorem mapWfFrom_mapSet {α : Type} [DecidableEq α] (d v : α) (m : SMap α) (k : Nat)
    (w : mapWfFrom d 0 m = true) : mapWfFrom d 0 (mapSet m k v d) = true := by
  unfold mapSet
  split
  · exact mapWfFrom_mapErase d m k 0 w
  · rename_i h; exact mapWfFrom_mapPut d v m k 0 (Nat.zero_le _) h w

/-! ### Memory -/

@[simp] theorem memRead_memWrite_self (m : List Host.Cell) (a : Nat) (b : Byte) : memRead (memWrite m a b) a = b :=
  mapGet_mapSet_self m a b memDefault

theorem memRead_memWrite_ne (m : List Host.Cell) (a c : Nat) (b : Byte) (h : c ≠ a) :
    memRead (memWrite m a b) c = memRead m c :=
  mapGet_mapSet_ne m a c b memDefault h

theorem memWrite_wf (m : List Host.Cell) (a : Nat) (b : Byte) (w : Memory.wf m = true) :
    Memory.wf (memWrite m a b) = true :=
  mapWfFrom_mapSet memDefault b m a w

theorem memWriteList_wf (m : List Host.Cell) (a : Nat) (bs : List Byte) (w : Memory.wf m = true) :
    Memory.wf (memWriteList m a bs) = true := by
  induction bs generalizing m a with
  | nil => exact w
  | cons b rest ih => exact ih (memWrite m a b) (a + 1) (memWrite_wf m a b w)

theorem memWriteStrobed_wf (m : List Host.Cell) (a : Nat) (bs : List Byte) (st : List Bool)
    (w : Memory.wf m = true) : Memory.wf (memWriteStrobed m a bs st) = true := by
  induction bs generalizing m a st with
  | nil => exact w
  | cons b rest ih =>
    cases st with
    | nil => exact ih (memWrite m a b) (a + 1) [] (memWrite_wf m a b w)
    | cons e es =>
      simp only [memWriteStrobed]
      split
      · exact ih (memWrite m a b) (a + 1) es (memWrite_wf m a b w)
      · exact ih m (a + 1) es w

theorem mapWfFrom_filter {α : Type} [DecidableEq α] (d : α) (m : SMap α) (f : Nat × α → Bool) (lo : Nat)
    (w : mapWfFrom d lo m = true) : mapWfFrom d lo (m.filter f) = true := by
  induction m generalizing lo with
  | nil => rfl
  | cons p rest ih =>
    obtain ⟨j, v⟩ := p
    simp only [mapWfFrom, Bool.and_eq_true, decide_eq_true_eq] at w
    simp only [List.filter]
    split
    · simp only [mapWfFrom, Bool.and_eq_true, decide_eq_true_eq]
      exact ⟨w.1, ih (j + 1) w.2⟩
    · exact mapWfFrom_mono d _ (j + 1) lo (by omega) (ih (j + 1) w.2)

theorem memZero_wf (m : List Host.Cell) (a n : Nat) (w : Memory.wf m = true) : Memory.wf (memZero m a n) = true :=
  mapWfFrom_filter memDefault m _ 0 w

/-- A write of bytes leaves every byte outside them alone. -/
theorem memRead_memWriteList_out (m : List Host.Cell) (a c : Nat) (bs : List Byte) (h : c < a ∨ a + bs.length ≤ c) :
    memRead (memWriteList m a bs) c = memRead m c := by
  induction bs generalizing m a with
  | nil => rfl
  | cons b rest ih =>
    simp only [List.length_cons] at h
    rw [memWriteList, ih (memWrite m a b) (a + 1) (by omega)]
    exact memRead_memWrite_ne m a c b (by omega)

/-- A strobed write leaves every byte outside its beats alone. -/
theorem memRead_memWriteStrobed_out (m : List Host.Cell) (a c : Nat) (bs : List Byte) (st : List Bool)
    (h : c < a ∨ a + bs.length ≤ c) : memRead (memWriteStrobed m a bs st) c = memRead m c := by
  induction bs generalizing m a st with
  | nil => rfl
  | cons b rest ih =>
    simp only [List.length_cons] at h
    cases st with
    | nil =>
      simp only [memWriteStrobed]
      rw [ih (memWrite m a b) (a + 1) [] (by omega)]
      exact memRead_memWrite_ne m a c b (by omega)
    | cons e es =>
      simp only [memWriteStrobed]
      rw [ih _ (a + 1) es (by omega)]
      split
      · exact memRead_memWrite_ne m a c b (by omega)
      · rfl

/-- Bytes written read back. -/
theorem memReadN_memWriteList (m : List Host.Cell) (a : Nat) (bs : List Byte) :
    memReadN (memWriteList m a bs) a bs.length = bs := by
  induction bs generalizing m a with
  | nil => rfl
  | cons b rest ih =>
    simp only [memWriteList, List.length_cons, memReadN]
    rw [ih (memWrite m a b) (a + 1)]
    rw [memRead_memWriteList_out (memWrite m a b) (a + 1) a rest (Or.inl (Nat.lt_succ_self a)), memRead_memWrite_self]

/-! ### Lists of items -/

/-- What each application keeps, the whole keeps. -/
theorem forEach_keeps {α β : Type} (f : α → State → State) (g : State → β) (h : ∀ x s, g (f x s) = g s)
    (l : List α) (s : State) : g (forEach f l s) = g s := by
  induction l generalizing s with
  | nil => rfl
  | cons x rest ih => rw [forEach, ih, h]

/-- An invariant that each application keeps, the whole keeps. -/
theorem forEach_invariant {α : Type} (f : α → State → State) (p : State → Prop) (h : ∀ x s, p s → p (f x s))
    (l : List α) (s : State) (hs : p s) : p (forEach f l s) := by
  induction l generalizing s with
  | nil => exact hs
  | cons x rest ih => exact ih (f x s) (h x s hs)

end Sys2Proof.Machine
end

