-- ==== Sys2Proof/Laws/Events.lean ====
section
/-! SUPPORT. What raising an event and writing an audit record can do: nothing outside the event block, the audit
chain, the Forge's wake, KPR_HISTORY, the PCIe link's return to L0 and the sessions' send queues. -/

namespace Sys2Proof.Machine

/-! ### Sessions -/

theorem session_map_still (f : Session → Session) (hf : ∀ x, (f x).still = x.still) (hd : f {} = {}) (s : State)
    (m : SMap Session) (n : Nat) (h : m = s.sessions.map fun p => (p.1, f p.2)) :
    (mapGet m n {}).still = (s.session n).still := by
  subst h
  have key : ∀ l : SMap Session, mapGet (l.map fun p => (p.1, f p.2)) n {} = f (mapGet l n {}) := by
    intro l
    induction l with
    | nil => exact hd.symm
    | cons p rest ih =>
      obtain ⟨j, v⟩ := p
      simp only [List.map, mapGet]
      split <;> simp_all
  rw [key, hf]
  rfl

@[simp] theorem Session.still_still (x : Session) : x.still.still = x.still := rfl

@[simp] theorem Session.quiet_still (x : Session) : x.still.quiet = x.quiet := rfl

theorem Session.quiet_of_still {x y : Session} (h : x.still = y.still) : x.quiet = y.quiet := by
  rw [← Session.quiet_still x, ← Session.quiet_still y, h]

theorem SessionsStill.refl (s : State) : SessionsStill s s := fun _ => rfl

theorem SessionsStill.trans {s t u : State} (h : SessionsStill s t) (k : SessionsStill t u) : SessionsStill s u :=
  fun n => (k n).trans (h n)

theorem SessionsStill.of_eq {s t : State} (h : t.sessions = s.sessions) : SessionsStill s t := fun n => by
  simp [State.session, h]

/-! ### Events -/

theorem sendTo_still (k : Nat) (r : ERec) (x : Session) : (sendTo k r x).still = x.still := by
  unfold sendTo
  split
  · split <;> rfl
  · rfl

theorem sendAll_still (k : Nat) (r : ERec) (s : State) : SessionsStill s (sendAll k r s) := fun n =>
  session_map_still (sendTo k r) (sendTo_still k r) (by simp [sendTo]) s _ n rfl

theorem sendAll_base (k : Nat) (r : ERec) (s : State) : (sendAll k r s).base = s.base := rfl

theorem bumpFrom_base (n : Nat) (s : State) : (bumpFrom n s).base = s.base := rfl

theorem bumpFrom_still (n : Nat) (s : State) : SessionsStill s (bumpFrom n s) := fun m =>
  session_map_still (fun x => { x with sendq := x.sendq.map (ERec.bump n) }) (fun _ => rfl) rfl s _ m rfl

/-- A record with nothing of its cycle behind it joins a queue at its end. -/
@[simp] theorem joinQueue_zero (r : ERec) (l : List ERec) : joinQueue 0 r l = l ++ [r] := rfl

@[simp] theorem sealCycle_base (s : State) : (sealCycle s).base = s.base := rfl

@[simp] theorem sealCycle_sessions (s : State) : (sealCycle s).sessions = s.sessions := rfl

theorem raiseVector_base (v : Nat) (s : State) : (raiseVector v s).base = s.base := rfl

theorem ringLink_base (q : Nat) (s : State) : (ringLink q s).base = s.base := by unfold ringLink; split <;> rfl

theorem ringLink_sessions (q : Nat) (s : State) : (ringLink q s).sessions = s.sessions := by
  unfold ringLink; split <;> rfl

theorem takeRecord_base (k q : Nat) (r : ERec) (s : State) : (takeRecord k q r s).base = s.base := by
  have h : ∀ k, (ringLink q (noteDelivered r.seq (s.setQueue q k))).base = s.base := fun k => (ringLink_base q _).trans rfl
  unfold takeRecord
  simp only
  split
  · exact (raiseVector_base _ _).trans (h _)
  · exact h _

theorem takeRecord_sessions (k q : Nat) (r : ERec) (s : State) : (takeRecord k q r s).sessions = s.sessions := by
  have h : ∀ k, (ringLink q (noteDelivered r.seq (s.setQueue q k))).sessions = s.sessions := fun k =>
    (ringLink_sessions q _).trans rfl
  unfold takeRecord
  simp only
  split
  · exact h _
  · exact h _

/-- A queued record, dropped or taken, leaves the rest as it is. -/
theorem queueRecord_keeps (k q m : Nat) (r : ERec) (s s3 : State) (hb : s3.base = s.base) (hs : SessionsStill s s3)
    (ih : ∀ (src : Nat) (t : Instant) (fl : Nat) (p : List Byte) (s : State),
      (raiseDepth m src t fl p s).base = s.base ∧ SessionsStill s (raiseDepth m src t fl p s)) (p : Nat → List Byte) :
    let u := if s3.qRoom q then takeRecord k q r s3
      else if !(s3.queue q).overflow then
        raiseDepth m 0x011 (dropRecord q s3).now 0 (p ((dropRecord q s3).queue q).lost) (dropRecord q s3)
      else dropRecord q s3
    u.base = s.base ∧ SessionsStill s u := by
  intro u
  have hd : (dropRecord q s3).base = s.base := hb
  have kd : SessionsStill s (dropRecord q s3) := hs.trans (SessionsStill.of_eq rfl)
  simp only [u]
  split
  · exact ⟨(takeRecord_base _ _ _ _).trans hb, hs.trans (SessionsStill.of_eq (takeRecord_sessions _ _ _ _))⟩
  · split
    · obtain ⟨h1, h2⟩ := ih 0x011 (dropRecord q s3).now 0 (p ((dropRecord q s3).queue q).lost) (dropRecord q s3)
      exact ⟨h1.trans hd, kd.trans h2⟩
    · exact ⟨hd, kd⟩

theorem raiseDepth_keeps (n : Nat) : ∀ (src : Nat) (t : Instant) (fl : Nat) (p : List Byte) (s : State),
    (raiseDepth n src t fl p s).base = s.base ∧ SessionsStill s (raiseDepth n src t fl p s) := by
  induction n with
  | zero => intro src t fl p s; exact ⟨rfl, SessionsStill.refl s⟩
  | succ m ih =>
    intro src t fl p s
    unfold raiseDepth
    by_cases c1 : (!s.events.started) = true
    · rw [if_pos c1]; exact ⟨rfl, SessionsStill.refl s⟩
    · rw [if_neg c1]
      by_cases c2 : (!(s.mapEntry src).testBit 31) = true
      · simp only; rw [if_pos c2]; exact ⟨rfl, SessionsStill.refl s⟩
      · simp only
        rw [if_neg c2]
        refine queueRecord_keeps (s.behind src) (field (s.mapEntry src) 24 3) m _ s _ ?_ ?_ ih
          (fun l => leBytes 4 (field (s.mapEntry src) 24 3) ++ leBytes 4 l)
        · rw [sendAll_base]
          split <;> split <;> rfl
        · refine SessionsStill.trans ?_ (sendAll_still _ _ _)
          split <;> split <;> first | exact SessionsStill.of_eq rfl | exact (bumpFrom_still _ s).trans (SessionsStill.of_eq rfl)

@[simp] theorem raiseAt_base (src : Nat) (t : Instant) (fl : Nat) (p : List Byte) (s : State) :
    (raiseAt src t fl p s).base = s.base := (raiseDepth_keeps 3 src t fl p s).1

theorem raiseAt_still (src : Nat) (t : Instant) (fl : Nat) (p : List Byte) (s : State) :
    SessionsStill s (raiseAt src t fl p s) := (raiseDepth_keeps 3 src t fl p s).2

@[simp] theorem raiseEv_base (src : Nat) (p : List Byte) (s : State) : (raiseEv src p s).base = s.base :=
  raiseAt_base src s.now 0 p s

theorem raiseEv_still (src : Nat) (p : List Byte) (s : State) : SessionsStill s (raiseEv src p s) :=
  raiseAt_still src s.now 0 p s

@[simp] theorem raiseLimited_base (key i src : Nat) (p : List Byte) (s : State) :
    (raiseLimited key i src p s).base = s.base := by
  unfold raiseLimited
  simp only
  split
  · rfl
  · rw [raiseEv_base]; rfl

theorem raiseLimited_still (key i src : Nat) (p : List Byte) (s : State) :
    SessionsStill s (raiseLimited key i src p s) := by
  unfold raiseLimited
  simp only
  split
  · exact SessionsStill.refl s
  · exact fun n => (raiseEv_still _ _ _ n).trans rfl

@[simp] theorem wakeForge_base (s : State) : (wakeForge s).base = s.base := by
  unfold wakeForge; split <;> rfl

theorem wakeForge_still (s : State) : SessionsStill s (wakeForge s) :=
  SessionsStill.of_eq (by unfold wakeForge; split <;> rfl)

/-! ### Audit records -/

theorem ringPut_base (r : ARec) (s : State) : (ringPut r s).base = s.base := by
  unfold ringPut
  split
  · rfl
  · split <;> rfl

theorem ringPut_still (r : ARec) (s : State) : SessionsStill s (ringPut r s) := by
  unfold ringPut
  split
  · exact SessionsStill.refl s
  · split
    · exact SessionsStill.of_eq rfl
    · intro n
      exact session_map_still (fun x => if x.isOpen ∧ x.auditPos ≤ s.ringOldest then { x with skipped := x.skipped + 1 } else x)
        (by intro x; split <;> rfl) (by simp) s _ n rfl

theorem moveRecords_keeps (n : Nat) : ∀ s : State,
    (moveRecords n s).base = s.base ∧ SessionsStill s (moveRecords n s) := by
  induction n with
  | zero => intro s; exact ⟨rfl, SessionsStill.refl s⟩
  | succ m ih =>
    intro s
    unfold moveRecords
    split
    · exact ⟨rfl, SessionsStill.refl s⟩
    · split
      · simp only
        refine ⟨(ih _).1.trans ((ringPut_base _ _).trans ?_), fun n => ((ih _).2 n).trans ((ringPut_still _ _ n).trans ?_)⟩
        · split <;> rfl
        · split <;> rfl
      · exact ⟨rfl, SessionsStill.refl s⟩

theorem placeSigned_keeps (r : ARec) (s : State) :
    (placeSigned r s).base = s.base ∧ SessionsStill s (placeSigned r s) := by
  unfold placeSigned
  split
  · exact ⟨ringPut_base r s, ringPut_still r s⟩
  · exact ⟨rfl, SessionsStill.of_eq rfl⟩

/-- What keeps the base and the sessions keeps them over a list. -/
theorem forEach_keeps_base {α : Type} (f : α → State → State)
    (h : ∀ x s, (f x s).base = s.base ∧ SessionsStill s (f x s)) (l : List α) (s : State) :
    (forEach f l s).base = s.base ∧ SessionsStill s (forEach f l s) := by
  induction l generalizing s with
  | nil => exact ⟨rfl, SessionsStill.refl s⟩
  | cons x rest ih =>
    obtain ⟨h1, h2⟩ := ih (f x s)
    obtain ⟨k1, k2⟩ := h x s
    exact ⟨h1.trans k1, SessionsStill.trans k2 h2⟩

/-- Records placed, the audit chain changed and 0x063 raised of some: neither base nor sessions change. -/
theorem placed_raised_keeps (l bad : List ARec) (a : Audit) (s : State) :
    (forEach (fun r => raiseEv 0x063 (leBytes 8 r.seq)) bad { forEach placeSigned l s with audit := a }).base = s.base ∧
      SessionsStill s (forEach (fun r => raiseEv 0x063 (leBytes 8 r.seq)) bad { forEach placeSigned l s with audit := a }) := by
  obtain ⟨h1, h2⟩ := forEach_keeps_base (fun r : ARec => raiseEv 0x063 (leBytes 8 r.seq))
    (fun x s => ⟨raiseEv_base _ _ _, raiseEv_still _ _ _⟩) bad { forEach placeSigned l s with audit := a }
  obtain ⟨k1, k2⟩ := forEach_keeps_base placeSigned placeSigned_keeps l s
  exact ⟨h1.trans (Eq.trans rfl k1), SessionsStill.trans (SessionsStill.trans k2 (SessionsStill.of_eq rfl)) h2⟩

theorem writeCheckpoint_keeps (recs : List ARec) (n seq : Nat) (p : Bool) (s : State) :
    (writeCheckpoint recs n seq p s).base = s.base ∧ SessionsStill s (writeCheckpoint recs n seq p s) :=
  placed_raised_keeps _ _ _ s

theorem signBlock_keeps (s : State) : (signBlock s).base = s.base ∧ SessionsStill s (signBlock s) := by
  unfold signBlock
  split
  · exact ⟨rfl, SessionsStill.refl s⟩
  · split
    · exact ⟨rfl, SessionsStill.refl s⟩
    · exact writeCheckpoint_keeps _ _ _ _ s

theorem closeBlock_keeps (s : State) : (closeBlock s).base = s.base ∧ SessionsStill s (closeBlock s) := by
  unfold closeBlock
  split
  · exact ⟨rfl, SessionsStill.refl s⟩
  · simp only
    split <;> exact writeCheckpoint_keeps _ _ _ _ s

theorem closeBlocks_keeps (n : Nat) : ∀ s : State,
    (closeBlocks n s).base = s.base ∧ SessionsStill s (closeBlocks n s) := by
  induction n with
  | zero => intro s; exact ⟨rfl, SessionsStill.refl s⟩
  | succ m ih =>
    intro s
    obtain ⟨h1, h2⟩ := ih (closeBlock s)
    obtain ⟨k1, k2⟩ := closeBlock_keeps s
    exact ⟨h1.trans k1, SessionsStill.trans k2 h2⟩

theorem closeEpoch_keeps (s : State) : (closeEpoch s).base = s.base ∧ SessionsStill s (closeEpoch s) := by
  unfold closeEpoch
  simp only
  obtain ⟨h1, h2⟩ := moveRecords_keeps s.audit.buffer.length s
  obtain ⟨k1, k2⟩ := closeBlocks_keeps
    (addSince (moveRecords s.audit.buffer.length s).uncovered (moveRecords s.audit.buffer.length s)).audit.sinceCkpt.length
    (addSince (moveRecords s.audit.buffer.length s).uncovered (moveRecords s.audit.buffer.length s))
  exact ⟨Eq.trans rfl (k1.trans (Eq.trans rfl h1)),
    SessionsStill.trans (SessionsStill.trans (SessionsStill.trans h2 (SessionsStill.of_eq rfl)) k2) (SessionsStill.of_eq rfl)⟩

theorem buildRecord_keeps (b : ABody) (s : State) :
    (buildRecord b s).base = s.base ∧ SessionsStill s (buildRecord b s) := by
  unfold buildRecord
  simp only
  split
  · refine ⟨?_, ?_⟩
    · rw [wakeForge_base]; split <;> rfl
    · exact SessionsStill.trans (SessionsStill.of_eq rfl) (wakeForge_still _)
  · refine ⟨?_, SessionsStill.of_eq rfl⟩
    split <;> rfl

theorem openEpoch_keeps (l : Nat) (s : State) : (openEpoch l s).base = s.base ∧ SessionsStill s (openEpoch l s) := by
  unfold openEpoch
  simp only
  obtain ⟨h1, h2⟩ := buildRecord_keeps _ _
  exact ⟨h1.trans rfl, SessionsStill.trans (SessionsStill.of_eq rfl) h2⟩

theorem turnEpoch_keeps (s : State) : (turnEpoch s).base = s.base ∧ SessionsStill s (turnEpoch s) := by
  unfold turnEpoch
  split
  · obtain ⟨h1, h2⟩ := closeEpoch_keeps s
    obtain ⟨k1, k2⟩ := openEpoch_keeps 0 (closeEpoch s)
    exact ⟨k1.trans h1, SessionsStill.trans h2 k2⟩
  · exact ⟨rfl, SessionsStill.refl s⟩

theorem gapIfDue_keeps (s : State) : (gapIfDue s).base = s.base ∧ SessionsStill s (gapIfDue s) := by
  unfold gapIfDue
  split
  · exact ⟨rfl, SessionsStill.refl s⟩
  · split
    · simp only
      obtain ⟨h1, h2⟩ := buildRecord_keeps _ _
      exact ⟨(raiseEv_base _ _ _).trans (h1.trans rfl),
        SessionsStill.trans (SessionsStill.trans (SessionsStill.of_eq rfl) h2) (raiseEv_still _ _ _)⟩
    · split
      · exact ⟨rfl, SessionsStill.refl s⟩
      · simp only
        obtain ⟨h1, h2⟩ := buildRecord_keeps _ _
        exact ⟨(raiseEv_base _ _ _).trans (h1.trans rfl),
          SessionsStill.trans (SessionsStill.trans (SessionsStill.of_eq rfl) h2) (raiseEv_still _ _ _)⟩

theorem auditBody_keeps (b : ABody) (s : State) :
    (auditBody b s).base = s.base ∧ SessionsStill s (auditBody b s) := by
  unfold auditBody
  split
  · split
    · exact ⟨rfl, SessionsStill.of_eq rfl⟩
    · exact ⟨rfl, SessionsStill.of_eq rfl⟩
  · split
    · exact ⟨rfl, SessionsStill.of_eq rfl⟩
    · simp only
      obtain ⟨h1, h2⟩ := turnEpoch_keeps s
      obtain ⟨k1, k2⟩ := gapIfDue_keeps (turnEpoch s)
      split
      · obtain ⟨l1, l2⟩ := buildRecord_keeps b (gapIfDue (turnEpoch s))
        exact ⟨l1.trans (k1.trans h1), SessionsStill.trans (SessionsStill.trans h2 k2) l2⟩
      · exact ⟨Eq.trans rfl (k1.trans h1), SessionsStill.trans (SessionsStill.trans h2 k2) (SessionsStill.of_eq rfl)⟩

@[simp] theorem auditBody_base (b : ABody) (s : State) : (auditBody b s).base = s.base := (auditBody_keeps b s).1

theorem auditBody_still (b : ABody) (s : State) : SessionsStill s (auditBody b s) := (auditBody_keeps b s).2

@[simp] theorem audit_base (ty : Nat) (p : List Byte) (s : State) : (audit ty p s).base = s.base :=
  auditBody_base _ s

theorem audit_still (ty : Nat) (p : List Byte) (s : State) : SessionsStill s (audit ty p s) := auditBody_still _ s

@[simp] theorem auditAt_base (t : Instant) (fl ty : Nat) (p : List Byte) (s : State) :
    (auditAt t fl ty p s).base = s.base := auditBody_base _ s

theorem auditAt_still (t : Instant) (fl ty : Nat) (p : List Byte) (s : State) : SessionsStill s (auditAt t fl ty p s) :=
  auditBody_still _ s

theorem rejectWrite_base (st : Nat) (w : Writer) (o : Nat) (s : State) :
    (rejectWrite st w o s).base = { s.base with reject := insertNum st s.reject } := by
  unfold rejectWrite
  rw [raiseEv_base]
  rfl

theorem rejectWrite_still (st : Nat) (w : Writer) (o : Nat) (s : State) : SessionsStill s (rejectWrite st w o s) :=
  fun n => (raiseEv_still _ _ _ n).trans rfl

/-! ### Answers -/

theorem answer_core (ses st : Nat) (d : List Byte) (s : State) : (answer ses st d s).core = s.core := rfl

@[simp] theorem reply_core (ses st : Nat) (s : State) : (reply ses st s).core = s.core := rfl

theorem reply_answered (ses st : Nat) (s : State) : Answered ses st s (reply ses st s) := by
  refine ⟨?_, rfl, ?_, ?_, ?_⟩
  · simp [reply, answer, State.session, State.setSession]
  · simp [reply, answer, State.session, State.setSession]
  · intro n h
    have : (reply ses st s).session n = s.session n := by
      simp [reply, answer, State.session, State.setSession, mapGet_mapSet_ne _ _ _ _ _ h]
    rw [this]
  · simp [reply, answer, State.session, State.setSession, Session.quiet, Session.still]

/-- A command that acts and then answers, answers as from the state before where the act leaves the sessions. -/
theorem Answered.after {ses st : Nat} {s u t : State} (h : SessionsStill s u) (a : Answered ses st u t) :
    Answered ses st s t := by
  obtain ⟨a1, a2, a3, a4, a5⟩ := a
  refine ⟨a1, a2, ?_, ?_, ?_⟩
  · rw [a3]
    have := congrArg Session.requests (h ses)
    simp only [Session.still] at this
    rw [this]
  · intro n hn; exact (a4 n hn).trans (h n)
  · exact a5.trans (Session.quiet_of_still (h ses))

/-- A write that passes the gate runs. -/
theorem gated_pass {ses ix sub : Nat} {v : List Byte} {s : State} (h : Passes ses ix sub v s) (f : State → State) :
    gated ses ix sub v f s = f s := by
  unfold gated
  simp [h.1, h.2, stOk]

/-- A write that the gate refuses is answered with the gate's status (R407). -/
theorem gated_refused {ses ix sub : Nat} {v : List Byte} {s : State} (h : s.served ses = true)
    (g : s.writeGate ses ix sub v ≠ 0) (f : State → State) :
    gated ses ix sub v f s = reply ses (s.writeGate ses ix sub v) s := by
  unfold gated
  simp [h, g, stOk]

/-- A command of a session that is not served has no effect. -/
theorem gated_unserved {ses ix sub : Nat} {v : List Byte} {s : State} (h : s.served ses = false) (f : State → State) :
    gated ses ix sub v f s = s := by
  unfold gated
  simp [h]

/-- A status alone is answered. -/
theorem does_reply (ses st : Nat) (s u : State) (h : SessionsStill s u) : Does ses st s u (reply ses st u) :=
  ⟨Answered.after h (reply_answered ses st u), reply_core ses st u⟩

/-- As before, for the state that the answer leaves but for the fields it names. -/
theorem Does.congr {ses st : Nat} {s u v t : State} (h : Does ses st s u t) (e : v = u) : Does ses st s v t := e ▸ h

end Sys2Proof.Machine
end

