-- ==== Sys2Proof/Laws/State.lean ====
section
/-! SUPPORT. What each update of the state leaves alone, one lemma a field; what an event, an audit record and an
answer leave alone; and what an accessor reads after its update. -/

namespace Sys2Proof.Machine

/-! ### setRing -/

@[simp] theorem State.setRing_pending (s : State) (r : Nat) (v : Mbx) : (s.setRing r v).pending = s.pending := rfl
@[simp] theorem State.setRing_time (s : State) (r : Nat) (v : Mbx) : (s.setRing r v).time = s.time := rfl
@[simp] theorem State.setRing_ptp0 (s : State) (r : Nat) (v : Mbx) : (s.setRing r v).ptp0 = s.ptp0 := rfl
@[simp] theorem State.setRing_ptp1 (s : State) (r : Nat) (v : Mbx) : (s.setRing r v).ptp1 = s.ptp1 := rfl
@[simp] theorem State.setRing_ptpSel (s : State) (r : Nat) (v : Mbx) : (s.setRing r v).ptpSel = s.ptpSel := rfl
@[simp] theorem State.setRing_caps (s : State) (r : Nat) (v : Mbx) : (s.setRing r v).caps = s.caps := rfl
@[simp] theorem State.setRing_beacons (s : State) (r : Nat) (v : Mbx) : (s.setRing r v).beacons = s.beacons := rfl
@[simp] theorem State.setRing_forge (s : State) (r : Nat) (v : Mbx) : (s.setRing r v).forge = s.forge := rfl
@[simp] theorem State.setRing_power (s : State) (r : Nat) (v : Mbx) : (s.setRing r v).power = s.power := rfl
@[simp] theorem State.setRing_boot (s : State) (r : Nat) (v : Mbx) : (s.setRing r v).boot = s.boot := rfl
@[simp] theorem State.setRing_life (s : State) (r : Nat) (v : Mbx) : (s.setRing r v).life = s.life := rfl
@[simp] theorem State.setRing_genEpoch (s : State) (r : Nat) (v : Mbx) : (s.setRing r v).genEpoch = s.genEpoch := rfl
@[simp] theorem State.setRing_genCount (s : State) (r : Nat) (v : Mbx) : (s.setRing r v).genCount = s.genCount := rfl
@[simp] theorem State.setRing_digest (s : State) (r : Nat) (v : Mbx) : (s.setRing r v).digest = s.digest := rfl
@[simp] theorem State.setRing_digests (s : State) (r : Nat) (v : Mbx) : (s.setRing r v).digests = s.digests := rfl
@[simp] theorem State.setRing_active (s : State) (r : Nat) (v : Mbx) : (s.setRing r v).active = s.active := rfl
@[simp] theorem State.setRing_image (s : State) (r : Nat) (v : Mbx) : (s.setRing r v).image = s.image := rfl
@[simp] theorem State.setRing_legs (s : State) (r : Nat) (v : Mbx) : (s.setRing r v).legs = s.legs := rfl
@[simp] theorem State.setRing_planner (s : State) (r : Nat) (v : Mbx) : (s.setRing r v).planner = s.planner := rfl
@[simp] theorem State.setRing_batches (s : State) (r : Nat) (v : Mbx) : (s.setRing r v).batches = s.batches := rfl
@[simp] theorem State.setRing_closed (s : State) (r : Nat) (v : Mbx) : (s.setRing r v).closed = s.closed := rfl
@[simp] theorem State.setRing_nextBatch (s : State) (r : Nat) (v : Mbx) : (s.setRing r v).nextBatch = s.nextBatch := rfl
@[simp] theorem State.setRing_lateBatches (s : State) (r : Nat) (v : Mbx) : (s.setRing r v).lateBatches = s.lateBatches := rfl
@[simp] theorem State.setRing_commitCount (s : State) (r : Nat) (v : Mbx) : (s.setRing r v).commitCount = s.commitCount := rfl
@[simp] theorem State.setRing_sched (s : State) (r : Nat) (v : Mbx) : (s.setRing r v).sched = s.sched := rfl
@[simp] theorem State.setRing_cfgs (s : State) (r : Nat) (v : Mbx) : (s.setRing r v).cfgs = s.cfgs := rfl
@[simp] theorem State.setRing_elems (s : State) (r : Nat) (v : Mbx) : (s.setRing r v).elems = s.elems := rfl
@[simp] theorem State.setRing_loopsStarted (s : State) (r : Nat) (v : Mbx) : (s.setRing r v).loopsStarted = s.loopsStarted := rfl
@[simp] theorem State.setRing_lateSkips (s : State) (r : Nat) (v : Mbx) : (s.setRing r v).lateSkips = s.lateSkips := rfl
@[simp] theorem State.setRing_notches (s : State) (r : Nat) (v : Mbx) : (s.setRing r v).notches = s.notches := rfl
@[simp] theorem State.setRing_lanesA (s : State) (r : Nat) (v : Mbx) : (s.setRing r v).lanesA = s.lanesA := rfl
@[simp] theorem State.setRing_lanesB (s : State) (r : Nat) (v : Mbx) : (s.setRing r v).lanesB = s.lanesB := rfl
@[simp] theorem State.setRing_chans (s : State) (r : Nat) (v : Mbx) : (s.setRing r v).chans = s.chans := rfl
@[simp] theorem State.setRing_ladder (s : State) (r : Nat) (v : Mbx) : (s.setRing r v).ladder = s.ladder := rfl
@[simp] theorem State.setRing_mismatchesCleared (s : State) (r : Nat) (v : Mbx) : (s.setRing r v).mismatchesCleared = s.mismatchesCleared := rfl
@[simp] theorem State.setRing_clear (s : State) (r : Nat) (v : Mbx) : (s.setRing r v).clear = s.clear := rfl
@[simp] theorem State.setRing_aux (s : State) (r : Nat) (v : Mbx) : (s.setRing r v).aux = s.aux := rfl
@[simp] theorem State.setRing_dets (s : State) (r : Nat) (v : Mbx) : (s.setRing r v).dets = s.dets := rfl
@[simp] theorem State.setRing_buoys (s : State) (r : Nat) (v : Mbx) : (s.setRing r v).buoys = s.buoys := rfl
@[simp] theorem State.setRing_ports (s : State) (r : Nat) (v : Mbx) : (s.setRing r v).ports = s.ports := rfl
@[simp] theorem State.setRing_windowsDiscarded (s : State) (r : Nat) (v : Mbx) : (s.setRing r v).windowsDiscarded = s.windowsDiscarded := rfl
@[simp] theorem State.setRing_ampNow (s : State) (r : Nat) (v : Mbx) : (s.setRing r v).ampNow = s.ampNow := rfl
@[simp] theorem State.setRing_ampNext (s : State) (r : Nat) (v : Mbx) : (s.setRing r v).ampNext = s.ampNext := rfl
@[simp] theorem State.setRing_audit (s : State) (r : Nat) (v : Mbx) : (s.setRing r v).audit = s.audit := rfl
@[simp] theorem State.setRing_hm6 (s : State) (r : Nat) (v : Mbx) : (s.setRing r v).hm6 = s.hm6 := rfl
@[simp] theorem State.setRing_hm7 (s : State) (r : Nat) (v : Mbx) : (s.setRing r v).hm7 = s.hm7 := rfl
@[simp] theorem State.setRing_keeper (s : State) (r : Nat) (v : Mbx) : (s.setRing r v).keeper = s.keeper := rfl
@[simp] theorem State.setRing_cal (s : State) (r : Nat) (v : Mbx) : (s.setRing r v).cal = s.cal := rfl
@[simp] theorem State.setRing_thermal (s : State) (r : Nat) (v : Mbx) : (s.setRing r v).thermal = s.thermal := rfl
@[simp] theorem State.setRing_fans (s : State) (r : Nat) (v : Mbx) : (s.setRing r v).fans = s.fans := rfl
@[simp] theorem State.setRing_hkc0 (s : State) (r : Nat) (v : Mbx) : (s.setRing r v).hkc0 = s.hkc0 := rfl
@[simp] theorem State.setRing_hkc1 (s : State) (r : Nat) (v : Mbx) : (s.setRing r v).hkc1 = s.hkc1 := rfl
@[simp] theorem State.setRing_rewriting (s : State) (r : Nat) (v : Mbx) : (s.setRing r v).rewriting = s.rewriting := rfl
@[simp] theorem State.setRing_mem (s : State) (r : Nat) (v : Mbx) : (s.setRing r v).mem = s.mem := rfl
@[simp] theorem State.setRing_ddr (s : State) (r : Nat) (v : Mbx) : (s.setRing r v).ddr = s.ddr := rfl
@[simp] theorem State.setRing_banks (s : State) (r : Nat) (v : Mbx) : (s.setRing r v).banks = s.banks := rfl
@[simp] theorem State.setRing_proof (s : State) (r : Nat) (v : Mbx) : (s.setRing r v).proof = s.proof := rfl
@[simp] theorem State.setRing_matrix (s : State) (r : Nat) (v : Mbx) : (s.setRing r v).matrix = s.matrix := rfl
@[simp] theorem State.setRing_aex (s : State) (r : Nat) (v : Mbx) : (s.setRing r v).aex = s.aex := rfl
@[simp] theorem State.setRing_sessions (s : State) (r : Nat) (v : Mbx) : (s.setRing r v).sessions = s.sessions := rfl
@[simp] theorem State.setRing_kept (s : State) (r : Nat) (v : Mbx) : (s.setRing r v).kept = s.kept := rfl
@[simp] theorem State.setRing_spi (s : State) (r : Nat) (v : Mbx) : (s.setRing r v).spi = s.spi := rfl
@[simp] theorem State.setRing_bar2Sleep (s : State) (r : Nat) (v : Mbx) : (s.setRing r v).bar2Sleep = s.bar2Sleep := rfl
@[simp] theorem State.setRing_disp (s : State) (r : Nat) (v : Mbx) : (s.setRing r v).disp = s.disp := rfl
@[simp] theorem State.setRing_gate0 (s : State) (r : Nat) (v : Mbx) : (s.setRing r v).gate0 = s.gate0 := rfl
@[simp] theorem State.setRing_gate1 (s : State) (r : Nat) (v : Mbx) : (s.setRing r v).gate1 = s.gate1 := rfl
@[simp] theorem State.setRing_queues (s : State) (r : Nat) (v : Mbx) : (s.setRing r v).queues = s.queues := rfl
@[simp] theorem State.setRing_events (s : State) (r : Nat) (v : Mbx) : (s.setRing r v).events = s.events := rfl
@[simp] theorem State.setRing_objs (s : State) (r : Nat) (v : Mbx) : (s.setRing r v).objs = s.objs := rfl
@[simp] theorem State.setRing_blobs (s : State) (r : Nat) (v : Mbx) : (s.setRing r v).blobs = s.blobs := rfl
@[simp] theorem State.setRing_regs (s : State) (r : Nat) (v : Mbx) : (s.setRing r v).regs = s.regs := rfl
@[simp] theorem State.setRing_shadowRegs (s : State) (r : Nat) (v : Mbx) : (s.setRing r v).shadowRegs = s.shadowRegs := rfl
@[simp] theorem State.setRing_live (s : State) (r : Nat) (v : Mbx) : (s.setRing r v).live = s.live := rfl
@[simp] theorem State.setRing_reject (s : State) (r : Nat) (v : Mbx) : (s.setRing r v).reject = s.reject := rfl
@[simp] theorem State.setRing_out (s : State) (r : Nat) (v : Mbx) : (s.setRing r v).out = s.out := rfl
@[simp] theorem State.setRing_freeCtr (s : State) (r : Nat) (v : Mbx) : (s.setRing r v).freeCtr = s.freeCtr := rfl

/-! ### setImage -/

@[simp] theorem State.setImage_pending (s : State) (k : Nat) (v : Image) : (s.setImage k v).pending = s.pending := rfl
@[simp] theorem State.setImage_time (s : State) (k : Nat) (v : Image) : (s.setImage k v).time = s.time := rfl
@[simp] theorem State.setImage_ptp0 (s : State) (k : Nat) (v : Image) : (s.setImage k v).ptp0 = s.ptp0 := rfl
@[simp] theorem State.setImage_ptp1 (s : State) (k : Nat) (v : Image) : (s.setImage k v).ptp1 = s.ptp1 := rfl
@[simp] theorem State.setImage_ptpSel (s : State) (k : Nat) (v : Image) : (s.setImage k v).ptpSel = s.ptpSel := rfl
@[simp] theorem State.setImage_caps (s : State) (k : Nat) (v : Image) : (s.setImage k v).caps = s.caps := rfl
@[simp] theorem State.setImage_beacons (s : State) (k : Nat) (v : Image) : (s.setImage k v).beacons = s.beacons := rfl
@[simp] theorem State.setImage_forge (s : State) (k : Nat) (v : Image) : (s.setImage k v).forge = s.forge := rfl
@[simp] theorem State.setImage_power (s : State) (k : Nat) (v : Image) : (s.setImage k v).power = s.power := rfl
@[simp] theorem State.setImage_life (s : State) (k : Nat) (v : Image) : (s.setImage k v).life = s.life := rfl
@[simp] theorem State.setImage_genEpoch (s : State) (k : Nat) (v : Image) : (s.setImage k v).genEpoch = s.genEpoch := rfl
@[simp] theorem State.setImage_genCount (s : State) (k : Nat) (v : Image) : (s.setImage k v).genCount = s.genCount := rfl
@[simp] theorem State.setImage_digest (s : State) (k : Nat) (v : Image) : (s.setImage k v).digest = s.digest := rfl
@[simp] theorem State.setImage_digests (s : State) (k : Nat) (v : Image) : (s.setImage k v).digests = s.digests := rfl
@[simp] theorem State.setImage_active (s : State) (k : Nat) (v : Image) : (s.setImage k v).active = s.active := rfl
@[simp] theorem State.setImage_image (s : State) (k : Nat) (v : Image) : (s.setImage k v).image = s.image := rfl
@[simp] theorem State.setImage_legs (s : State) (k : Nat) (v : Image) : (s.setImage k v).legs = s.legs := rfl
@[simp] theorem State.setImage_planner (s : State) (k : Nat) (v : Image) : (s.setImage k v).planner = s.planner := rfl
@[simp] theorem State.setImage_batches (s : State) (k : Nat) (v : Image) : (s.setImage k v).batches = s.batches := rfl
@[simp] theorem State.setImage_closed (s : State) (k : Nat) (v : Image) : (s.setImage k v).closed = s.closed := rfl
@[simp] theorem State.setImage_nextBatch (s : State) (k : Nat) (v : Image) : (s.setImage k v).nextBatch = s.nextBatch := rfl
@[simp] theorem State.setImage_lateBatches (s : State) (k : Nat) (v : Image) : (s.setImage k v).lateBatches = s.lateBatches := rfl
@[simp] theorem State.setImage_commitCount (s : State) (k : Nat) (v : Image) : (s.setImage k v).commitCount = s.commitCount := rfl
@[simp] theorem State.setImage_sched (s : State) (k : Nat) (v : Image) : (s.setImage k v).sched = s.sched := rfl
@[simp] theorem State.setImage_cfgs (s : State) (k : Nat) (v : Image) : (s.setImage k v).cfgs = s.cfgs := rfl
@[simp] theorem State.setImage_elems (s : State) (k : Nat) (v : Image) : (s.setImage k v).elems = s.elems := rfl
@[simp] theorem State.setImage_loopsStarted (s : State) (k : Nat) (v : Image) : (s.setImage k v).loopsStarted = s.loopsStarted := rfl
@[simp] theorem State.setImage_lateSkips (s : State) (k : Nat) (v : Image) : (s.setImage k v).lateSkips = s.lateSkips := rfl
@[simp] theorem State.setImage_notches (s : State) (k : Nat) (v : Image) : (s.setImage k v).notches = s.notches := rfl
@[simp] theorem State.setImage_lanesA (s : State) (k : Nat) (v : Image) : (s.setImage k v).lanesA = s.lanesA := rfl
@[simp] theorem State.setImage_lanesB (s : State) (k : Nat) (v : Image) : (s.setImage k v).lanesB = s.lanesB := rfl
@[simp] theorem State.setImage_chans (s : State) (k : Nat) (v : Image) : (s.setImage k v).chans = s.chans := rfl
@[simp] theorem State.setImage_ladder (s : State) (k : Nat) (v : Image) : (s.setImage k v).ladder = s.ladder := rfl
@[simp] theorem State.setImage_mismatchesCleared (s : State) (k : Nat) (v : Image) : (s.setImage k v).mismatchesCleared = s.mismatchesCleared := rfl
@[simp] theorem State.setImage_clear (s : State) (k : Nat) (v : Image) : (s.setImage k v).clear = s.clear := rfl
@[simp] theorem State.setImage_aux (s : State) (k : Nat) (v : Image) : (s.setImage k v).aux = s.aux := rfl
@[simp] theorem State.setImage_dets (s : State) (k : Nat) (v : Image) : (s.setImage k v).dets = s.dets := rfl
@[simp] theorem State.setImage_buoys (s : State) (k : Nat) (v : Image) : (s.setImage k v).buoys = s.buoys := rfl
@[simp] theorem State.setImage_ports (s : State) (k : Nat) (v : Image) : (s.setImage k v).ports = s.ports := rfl
@[simp] theorem State.setImage_windowsDiscarded (s : State) (k : Nat) (v : Image) : (s.setImage k v).windowsDiscarded = s.windowsDiscarded := rfl
@[simp] theorem State.setImage_ampNow (s : State) (k : Nat) (v : Image) : (s.setImage k v).ampNow = s.ampNow := rfl
@[simp] theorem State.setImage_ampNext (s : State) (k : Nat) (v : Image) : (s.setImage k v).ampNext = s.ampNext := rfl
@[simp] theorem State.setImage_audit (s : State) (k : Nat) (v : Image) : (s.setImage k v).audit = s.audit := rfl
@[simp] theorem State.setImage_hm6 (s : State) (k : Nat) (v : Image) : (s.setImage k v).hm6 = s.hm6 := rfl
@[simp] theorem State.setImage_hm7 (s : State) (k : Nat) (v : Image) : (s.setImage k v).hm7 = s.hm7 := rfl
@[simp] theorem State.setImage_keeper (s : State) (k : Nat) (v : Image) : (s.setImage k v).keeper = s.keeper := rfl
@[simp] theorem State.setImage_cal (s : State) (k : Nat) (v : Image) : (s.setImage k v).cal = s.cal := rfl
@[simp] theorem State.setImage_thermal (s : State) (k : Nat) (v : Image) : (s.setImage k v).thermal = s.thermal := rfl
@[simp] theorem State.setImage_fans (s : State) (k : Nat) (v : Image) : (s.setImage k v).fans = s.fans := rfl
@[simp] theorem State.setImage_hkc0 (s : State) (k : Nat) (v : Image) : (s.setImage k v).hkc0 = s.hkc0 := rfl
@[simp] theorem State.setImage_hkc1 (s : State) (k : Nat) (v : Image) : (s.setImage k v).hkc1 = s.hkc1 := rfl
@[simp] theorem State.setImage_rewriting (s : State) (k : Nat) (v : Image) : (s.setImage k v).rewriting = s.rewriting := rfl
@[simp] theorem State.setImage_mem (s : State) (k : Nat) (v : Image) : (s.setImage k v).mem = s.mem := rfl
@[simp] theorem State.setImage_ddr (s : State) (k : Nat) (v : Image) : (s.setImage k v).ddr = s.ddr := rfl
@[simp] theorem State.setImage_banks (s : State) (k : Nat) (v : Image) : (s.setImage k v).banks = s.banks := rfl
@[simp] theorem State.setImage_proof (s : State) (k : Nat) (v : Image) : (s.setImage k v).proof = s.proof := rfl
@[simp] theorem State.setImage_matrix (s : State) (k : Nat) (v : Image) : (s.setImage k v).matrix = s.matrix := rfl
@[simp] theorem State.setImage_mbx (s : State) (k : Nat) (v : Image) : (s.setImage k v).mbx = s.mbx := rfl
@[simp] theorem State.setImage_aex (s : State) (k : Nat) (v : Image) : (s.setImage k v).aex = s.aex := rfl
@[simp] theorem State.setImage_sessions (s : State) (k : Nat) (v : Image) : (s.setImage k v).sessions = s.sessions := rfl
@[simp] theorem State.setImage_kept (s : State) (k : Nat) (v : Image) : (s.setImage k v).kept = s.kept := rfl
@[simp] theorem State.setImage_spi (s : State) (k : Nat) (v : Image) : (s.setImage k v).spi = s.spi := rfl
@[simp] theorem State.setImage_bar2Sleep (s : State) (k : Nat) (v : Image) : (s.setImage k v).bar2Sleep = s.bar2Sleep := rfl
@[simp] theorem State.setImage_disp (s : State) (k : Nat) (v : Image) : (s.setImage k v).disp = s.disp := rfl
@[simp] theorem State.setImage_gate0 (s : State) (k : Nat) (v : Image) : (s.setImage k v).gate0 = s.gate0 := rfl
@[simp] theorem State.setImage_gate1 (s : State) (k : Nat) (v : Image) : (s.setImage k v).gate1 = s.gate1 := rfl
@[simp] theorem State.setImage_queues (s : State) (k : Nat) (v : Image) : (s.setImage k v).queues = s.queues := rfl
@[simp] theorem State.setImage_events (s : State) (k : Nat) (v : Image) : (s.setImage k v).events = s.events := rfl
@[simp] theorem State.setImage_objs (s : State) (k : Nat) (v : Image) : (s.setImage k v).objs = s.objs := rfl
@[simp] theorem State.setImage_blobs (s : State) (k : Nat) (v : Image) : (s.setImage k v).blobs = s.blobs := rfl
@[simp] theorem State.setImage_regs (s : State) (k : Nat) (v : Image) : (s.setImage k v).regs = s.regs := rfl
@[simp] theorem State.setImage_shadowRegs (s : State) (k : Nat) (v : Image) : (s.setImage k v).shadowRegs = s.shadowRegs := rfl
@[simp] theorem State.setImage_live (s : State) (k : Nat) (v : Image) : (s.setImage k v).live = s.live := rfl
@[simp] theorem State.setImage_reject (s : State) (k : Nat) (v : Image) : (s.setImage k v).reject = s.reject := rfl
@[simp] theorem State.setImage_out (s : State) (k : Nat) (v : Image) : (s.setImage k v).out = s.out := rfl
@[simp] theorem State.setImage_freeCtr (s : State) (k : Nat) (v : Image) : (s.setImage k v).freeCtr = s.freeCtr := rfl

/-! ### setCalType -/

@[simp] theorem State.setCalType_pending (s : State) (t : Nat) (v : CalType) : (s.setCalType t v).pending = s.pending := rfl
@[simp] theorem State.setCalType_time (s : State) (t : Nat) (v : CalType) : (s.setCalType t v).time = s.time := rfl
@[simp] theorem State.setCalType_ptp0 (s : State) (t : Nat) (v : CalType) : (s.setCalType t v).ptp0 = s.ptp0 := rfl
@[simp] theorem State.setCalType_ptp1 (s : State) (t : Nat) (v : CalType) : (s.setCalType t v).ptp1 = s.ptp1 := rfl
@[simp] theorem State.setCalType_ptpSel (s : State) (t : Nat) (v : CalType) : (s.setCalType t v).ptpSel = s.ptpSel := rfl
@[simp] theorem State.setCalType_caps (s : State) (t : Nat) (v : CalType) : (s.setCalType t v).caps = s.caps := rfl
@[simp] theorem State.setCalType_beacons (s : State) (t : Nat) (v : CalType) : (s.setCalType t v).beacons = s.beacons := rfl
@[simp] theorem State.setCalType_forge (s : State) (t : Nat) (v : CalType) : (s.setCalType t v).forge = s.forge := rfl
@[simp] theorem State.setCalType_power (s : State) (t : Nat) (v : CalType) : (s.setCalType t v).power = s.power := rfl
@[simp] theorem State.setCalType_boot (s : State) (t : Nat) (v : CalType) : (s.setCalType t v).boot = s.boot := rfl
@[simp] theorem State.setCalType_life (s : State) (t : Nat) (v : CalType) : (s.setCalType t v).life = s.life := rfl
@[simp] theorem State.setCalType_genEpoch (s : State) (t : Nat) (v : CalType) : (s.setCalType t v).genEpoch = s.genEpoch := rfl
@[simp] theorem State.setCalType_genCount (s : State) (t : Nat) (v : CalType) : (s.setCalType t v).genCount = s.genCount := rfl
@[simp] theorem State.setCalType_digest (s : State) (t : Nat) (v : CalType) : (s.setCalType t v).digest = s.digest := rfl
@[simp] theorem State.setCalType_digests (s : State) (t : Nat) (v : CalType) : (s.setCalType t v).digests = s.digests := rfl
@[simp] theorem State.setCalType_active (s : State) (t : Nat) (v : CalType) : (s.setCalType t v).active = s.active := rfl
@[simp] theorem State.setCalType_image (s : State) (t : Nat) (v : CalType) : (s.setCalType t v).image = s.image := rfl
@[simp] theorem State.setCalType_legs (s : State) (t : Nat) (v : CalType) : (s.setCalType t v).legs = s.legs := rfl
@[simp] theorem State.setCalType_planner (s : State) (t : Nat) (v : CalType) : (s.setCalType t v).planner = s.planner := rfl
@[simp] theorem State.setCalType_batches (s : State) (t : Nat) (v : CalType) : (s.setCalType t v).batches = s.batches := rfl
@[simp] theorem State.setCalType_closed (s : State) (t : Nat) (v : CalType) : (s.setCalType t v).closed = s.closed := rfl
@[simp] theorem State.setCalType_nextBatch (s : State) (t : Nat) (v : CalType) : (s.setCalType t v).nextBatch = s.nextBatch := rfl
@[simp] theorem State.setCalType_lateBatches (s : State) (t : Nat) (v : CalType) : (s.setCalType t v).lateBatches = s.lateBatches := rfl
@[simp] theorem State.setCalType_commitCount (s : State) (t : Nat) (v : CalType) : (s.setCalType t v).commitCount = s.commitCount := rfl
@[simp] theorem State.setCalType_sched (s : State) (t : Nat) (v : CalType) : (s.setCalType t v).sched = s.sched := rfl
@[simp] theorem State.setCalType_cfgs (s : State) (t : Nat) (v : CalType) : (s.setCalType t v).cfgs = s.cfgs := rfl
@[simp] theorem State.setCalType_elems (s : State) (t : Nat) (v : CalType) : (s.setCalType t v).elems = s.elems := rfl
@[simp] theorem State.setCalType_loopsStarted (s : State) (t : Nat) (v : CalType) : (s.setCalType t v).loopsStarted = s.loopsStarted := rfl
@[simp] theorem State.setCalType_lateSkips (s : State) (t : Nat) (v : CalType) : (s.setCalType t v).lateSkips = s.lateSkips := rfl
@[simp] theorem State.setCalType_notches (s : State) (t : Nat) (v : CalType) : (s.setCalType t v).notches = s.notches := rfl
@[simp] theorem State.setCalType_lanesA (s : State) (t : Nat) (v : CalType) : (s.setCalType t v).lanesA = s.lanesA := rfl
@[simp] theorem State.setCalType_lanesB (s : State) (t : Nat) (v : CalType) : (s.setCalType t v).lanesB = s.lanesB := rfl
@[simp] theorem State.setCalType_chans (s : State) (t : Nat) (v : CalType) : (s.setCalType t v).chans = s.chans := rfl
@[simp] theorem State.setCalType_ladder (s : State) (t : Nat) (v : CalType) : (s.setCalType t v).ladder = s.ladder := rfl
@[simp] theorem State.setCalType_mismatchesCleared (s : State) (t : Nat) (v : CalType) : (s.setCalType t v).mismatchesCleared = s.mismatchesCleared := rfl
@[simp] theorem State.setCalType_clear (s : State) (t : Nat) (v : CalType) : (s.setCalType t v).clear = s.clear := rfl
@[simp] theorem State.setCalType_aux (s : State) (t : Nat) (v : CalType) : (s.setCalType t v).aux = s.aux := rfl
@[simp] theorem State.setCalType_dets (s : State) (t : Nat) (v : CalType) : (s.setCalType t v).dets = s.dets := rfl
@[simp] theorem State.setCalType_buoys (s : State) (t : Nat) (v : CalType) : (s.setCalType t v).buoys = s.buoys := rfl
@[simp] theorem State.setCalType_ports (s : State) (t : Nat) (v : CalType) : (s.setCalType t v).ports = s.ports := rfl
@[simp] theorem State.setCalType_windowsDiscarded (s : State) (t : Nat) (v : CalType) : (s.setCalType t v).windowsDiscarded = s.windowsDiscarded := rfl
@[simp] theorem State.setCalType_ampNow (s : State) (t : Nat) (v : CalType) : (s.setCalType t v).ampNow = s.ampNow := rfl
@[simp] theorem State.setCalType_ampNext (s : State) (t : Nat) (v : CalType) : (s.setCalType t v).ampNext = s.ampNext := rfl
@[simp] theorem State.setCalType_audit (s : State) (t : Nat) (v : CalType) : (s.setCalType t v).audit = s.audit := rfl
@[simp] theorem State.setCalType_hm6 (s : State) (t : Nat) (v : CalType) : (s.setCalType t v).hm6 = s.hm6 := rfl
@[simp] theorem State.setCalType_hm7 (s : State) (t : Nat) (v : CalType) : (s.setCalType t v).hm7 = s.hm7 := rfl
@[simp] theorem State.setCalType_keeper (s : State) (t : Nat) (v : CalType) : (s.setCalType t v).keeper = s.keeper := rfl
@[simp] theorem State.setCalType_thermal (s : State) (t : Nat) (v : CalType) : (s.setCalType t v).thermal = s.thermal := rfl
@[simp] theorem State.setCalType_fans (s : State) (t : Nat) (v : CalType) : (s.setCalType t v).fans = s.fans := rfl
@[simp] theorem State.setCalType_hkc0 (s : State) (t : Nat) (v : CalType) : (s.setCalType t v).hkc0 = s.hkc0 := rfl
@[simp] theorem State.setCalType_hkc1 (s : State) (t : Nat) (v : CalType) : (s.setCalType t v).hkc1 = s.hkc1 := rfl
@[simp] theorem State.setCalType_rewriting (s : State) (t : Nat) (v : CalType) : (s.setCalType t v).rewriting = s.rewriting := rfl
@[simp] theorem State.setCalType_mem (s : State) (t : Nat) (v : CalType) : (s.setCalType t v).mem = s.mem := rfl
@[simp] theorem State.setCalType_ddr (s : State) (t : Nat) (v : CalType) : (s.setCalType t v).ddr = s.ddr := rfl
@[simp] theorem State.setCalType_banks (s : State) (t : Nat) (v : CalType) : (s.setCalType t v).banks = s.banks := rfl
@[simp] theorem State.setCalType_proof (s : State) (t : Nat) (v : CalType) : (s.setCalType t v).proof = s.proof := rfl
@[simp] theorem State.setCalType_matrix (s : State) (t : Nat) (v : CalType) : (s.setCalType t v).matrix = s.matrix := rfl
@[simp] theorem State.setCalType_mbx (s : State) (t : Nat) (v : CalType) : (s.setCalType t v).mbx = s.mbx := rfl
@[simp] theorem State.setCalType_aex (s : State) (t : Nat) (v : CalType) : (s.setCalType t v).aex = s.aex := rfl
@[simp] theorem State.setCalType_sessions (s : State) (t : Nat) (v : CalType) : (s.setCalType t v).sessions = s.sessions := rfl
@[simp] theorem State.setCalType_kept (s : State) (t : Nat) (v : CalType) : (s.setCalType t v).kept = s.kept := rfl
@[simp] theorem State.setCalType_spi (s : State) (t : Nat) (v : CalType) : (s.setCalType t v).spi = s.spi := rfl
@[simp] theorem State.setCalType_bar2Sleep (s : State) (t : Nat) (v : CalType) : (s.setCalType t v).bar2Sleep = s.bar2Sleep := rfl
@[simp] theorem State.setCalType_disp (s : State) (t : Nat) (v : CalType) : (s.setCalType t v).disp = s.disp := rfl
@[simp] theorem State.setCalType_gate0 (s : State) (t : Nat) (v : CalType) : (s.setCalType t v).gate0 = s.gate0 := rfl
@[simp] theorem State.setCalType_gate1 (s : State) (t : Nat) (v : CalType) : (s.setCalType t v).gate1 = s.gate1 := rfl
@[simp] theorem State.setCalType_queues (s : State) (t : Nat) (v : CalType) : (s.setCalType t v).queues = s.queues := rfl
@[simp] theorem State.setCalType_events (s : State) (t : Nat) (v : CalType) : (s.setCalType t v).events = s.events := rfl
@[simp] theorem State.setCalType_objs (s : State) (t : Nat) (v : CalType) : (s.setCalType t v).objs = s.objs := rfl
@[simp] theorem State.setCalType_blobs (s : State) (t : Nat) (v : CalType) : (s.setCalType t v).blobs = s.blobs := rfl
@[simp] theorem State.setCalType_regs (s : State) (t : Nat) (v : CalType) : (s.setCalType t v).regs = s.regs := rfl
@[simp] theorem State.setCalType_shadowRegs (s : State) (t : Nat) (v : CalType) : (s.setCalType t v).shadowRegs = s.shadowRegs := rfl
@[simp] theorem State.setCalType_live (s : State) (t : Nat) (v : CalType) : (s.setCalType t v).live = s.live := rfl
@[simp] theorem State.setCalType_reject (s : State) (t : Nat) (v : CalType) : (s.setCalType t v).reject = s.reject := rfl
@[simp] theorem State.setCalType_out (s : State) (t : Nat) (v : CalType) : (s.setCalType t v).out = s.out := rfl
@[simp] theorem State.setCalType_freeCtr (s : State) (t : Nat) (v : CalType) : (s.setCalType t v).freeCtr = s.freeCtr := rfl

/-! ### setElem -/

@[simp] theorem State.setElem_pending (s : State) (e : Nat) (v : Elem) : (s.setElem e v).pending = s.pending := rfl
@[simp] theorem State.setElem_time (s : State) (e : Nat) (v : Elem) : (s.setElem e v).time = s.time := rfl
@[simp] theorem State.setElem_ptp0 (s : State) (e : Nat) (v : Elem) : (s.setElem e v).ptp0 = s.ptp0 := rfl
@[simp] theorem State.setElem_ptp1 (s : State) (e : Nat) (v : Elem) : (s.setElem e v).ptp1 = s.ptp1 := rfl
@[simp] theorem State.setElem_ptpSel (s : State) (e : Nat) (v : Elem) : (s.setElem e v).ptpSel = s.ptpSel := rfl
@[simp] theorem State.setElem_caps (s : State) (e : Nat) (v : Elem) : (s.setElem e v).caps = s.caps := rfl
@[simp] theorem State.setElem_beacons (s : State) (e : Nat) (v : Elem) : (s.setElem e v).beacons = s.beacons := rfl
@[simp] theorem State.setElem_forge (s : State) (e : Nat) (v : Elem) : (s.setElem e v).forge = s.forge := rfl
@[simp] theorem State.setElem_power (s : State) (e : Nat) (v : Elem) : (s.setElem e v).power = s.power := rfl
@[simp] theorem State.setElem_boot (s : State) (e : Nat) (v : Elem) : (s.setElem e v).boot = s.boot := rfl
@[simp] theorem State.setElem_life (s : State) (e : Nat) (v : Elem) : (s.setElem e v).life = s.life := rfl
@[simp] theorem State.setElem_genEpoch (s : State) (e : Nat) (v : Elem) : (s.setElem e v).genEpoch = s.genEpoch := rfl
@[simp] theorem State.setElem_genCount (s : State) (e : Nat) (v : Elem) : (s.setElem e v).genCount = s.genCount := rfl
@[simp] theorem State.setElem_digest (s : State) (e : Nat) (v : Elem) : (s.setElem e v).digest = s.digest := rfl
@[simp] theorem State.setElem_digests (s : State) (e : Nat) (v : Elem) : (s.setElem e v).digests = s.digests := rfl
@[simp] theorem State.setElem_active (s : State) (e : Nat) (v : Elem) : (s.setElem e v).active = s.active := rfl
@[simp] theorem State.setElem_image (s : State) (e : Nat) (v : Elem) : (s.setElem e v).image = s.image := rfl
@[simp] theorem State.setElem_legs (s : State) (e : Nat) (v : Elem) : (s.setElem e v).legs = s.legs := rfl
@[simp] theorem State.setElem_planner (s : State) (e : Nat) (v : Elem) : (s.setElem e v).planner = s.planner := rfl
@[simp] theorem State.setElem_batches (s : State) (e : Nat) (v : Elem) : (s.setElem e v).batches = s.batches := rfl
@[simp] theorem State.setElem_closed (s : State) (e : Nat) (v : Elem) : (s.setElem e v).closed = s.closed := rfl
@[simp] theorem State.setElem_nextBatch (s : State) (e : Nat) (v : Elem) : (s.setElem e v).nextBatch = s.nextBatch := rfl
@[simp] theorem State.setElem_lateBatches (s : State) (e : Nat) (v : Elem) : (s.setElem e v).lateBatches = s.lateBatches := rfl
@[simp] theorem State.setElem_commitCount (s : State) (e : Nat) (v : Elem) : (s.setElem e v).commitCount = s.commitCount := rfl
@[simp] theorem State.setElem_sched (s : State) (e : Nat) (v : Elem) : (s.setElem e v).sched = s.sched := rfl
@[simp] theorem State.setElem_cfgs (s : State) (e : Nat) (v : Elem) : (s.setElem e v).cfgs = s.cfgs := rfl
@[simp] theorem State.setElem_loopsStarted (s : State) (e : Nat) (v : Elem) : (s.setElem e v).loopsStarted = s.loopsStarted := rfl
@[simp] theorem State.setElem_lateSkips (s : State) (e : Nat) (v : Elem) : (s.setElem e v).lateSkips = s.lateSkips := rfl
@[simp] theorem State.setElem_notches (s : State) (e : Nat) (v : Elem) : (s.setElem e v).notches = s.notches := rfl
@[simp] theorem State.setElem_lanesA (s : State) (e : Nat) (v : Elem) : (s.setElem e v).lanesA = s.lanesA := rfl
@[simp] theorem State.setElem_lanesB (s : State) (e : Nat) (v : Elem) : (s.setElem e v).lanesB = s.lanesB := rfl
@[simp] theorem State.setElem_chans (s : State) (e : Nat) (v : Elem) : (s.setElem e v).chans = s.chans := rfl
@[simp] theorem State.setElem_ladder (s : State) (e : Nat) (v : Elem) : (s.setElem e v).ladder = s.ladder := rfl
@[simp] theorem State.setElem_mismatchesCleared (s : State) (e : Nat) (v : Elem) : (s.setElem e v).mismatchesCleared = s.mismatchesCleared := rfl
@[simp] theorem State.setElem_clear (s : State) (e : Nat) (v : Elem) : (s.setElem e v).clear = s.clear := rfl
@[simp] theorem State.setElem_aux (s : State) (e : Nat) (v : Elem) : (s.setElem e v).aux = s.aux := rfl
@[simp] theorem State.setElem_dets (s : State) (e : Nat) (v : Elem) : (s.setElem e v).dets = s.dets := rfl
@[simp] theorem State.setElem_buoys (s : State) (e : Nat) (v : Elem) : (s.setElem e v).buoys = s.buoys := rfl
@[simp] theorem State.setElem_ports (s : State) (e : Nat) (v : Elem) : (s.setElem e v).ports = s.ports := rfl
@[simp] theorem State.setElem_windowsDiscarded (s : State) (e : Nat) (v : Elem) : (s.setElem e v).windowsDiscarded = s.windowsDiscarded := rfl
@[simp] theorem State.setElem_ampNow (s : State) (e : Nat) (v : Elem) : (s.setElem e v).ampNow = s.ampNow := rfl
@[simp] theorem State.setElem_ampNext (s : State) (e : Nat) (v : Elem) : (s.setElem e v).ampNext = s.ampNext := rfl
@[simp] theorem State.setElem_audit (s : State) (e : Nat) (v : Elem) : (s.setElem e v).audit = s.audit := rfl
@[simp] theorem State.setElem_hm6 (s : State) (e : Nat) (v : Elem) : (s.setElem e v).hm6 = s.hm6 := rfl
@[simp] theorem State.setElem_hm7 (s : State) (e : Nat) (v : Elem) : (s.setElem e v).hm7 = s.hm7 := rfl
@[simp] theorem State.setElem_keeper (s : State) (e : Nat) (v : Elem) : (s.setElem e v).keeper = s.keeper := rfl
@[simp] theorem State.setElem_cal (s : State) (e : Nat) (v : Elem) : (s.setElem e v).cal = s.cal := rfl
@[simp] theorem State.setElem_thermal (s : State) (e : Nat) (v : Elem) : (s.setElem e v).thermal = s.thermal := rfl
@[simp] theorem State.setElem_fans (s : State) (e : Nat) (v : Elem) : (s.setElem e v).fans = s.fans := rfl
@[simp] theorem State.setElem_hkc0 (s : State) (e : Nat) (v : Elem) : (s.setElem e v).hkc0 = s.hkc0 := rfl
@[simp] theorem State.setElem_hkc1 (s : State) (e : Nat) (v : Elem) : (s.setElem e v).hkc1 = s.hkc1 := rfl
@[simp] theorem State.setElem_rewriting (s : State) (e : Nat) (v : Elem) : (s.setElem e v).rewriting = s.rewriting := rfl
@[simp] theorem State.setElem_mem (s : State) (e : Nat) (v : Elem) : (s.setElem e v).mem = s.mem := rfl
@[simp] theorem State.setElem_ddr (s : State) (e : Nat) (v : Elem) : (s.setElem e v).ddr = s.ddr := rfl
@[simp] theorem State.setElem_banks (s : State) (e : Nat) (v : Elem) : (s.setElem e v).banks = s.banks := rfl
@[simp] theorem State.setElem_proof (s : State) (e : Nat) (v : Elem) : (s.setElem e v).proof = s.proof := rfl
@[simp] theorem State.setElem_matrix (s : State) (e : Nat) (v : Elem) : (s.setElem e v).matrix = s.matrix := rfl
@[simp] theorem State.setElem_mbx (s : State) (e : Nat) (v : Elem) : (s.setElem e v).mbx = s.mbx := rfl
@[simp] theorem State.setElem_aex (s : State) (e : Nat) (v : Elem) : (s.setElem e v).aex = s.aex := rfl
@[simp] theorem State.setElem_sessions (s : State) (e : Nat) (v : Elem) : (s.setElem e v).sessions = s.sessions := rfl
@[simp] theorem State.setElem_kept (s : State) (e : Nat) (v : Elem) : (s.setElem e v).kept = s.kept := rfl
@[simp] theorem State.setElem_spi (s : State) (e : Nat) (v : Elem) : (s.setElem e v).spi = s.spi := rfl
@[simp] theorem State.setElem_bar2Sleep (s : State) (e : Nat) (v : Elem) : (s.setElem e v).bar2Sleep = s.bar2Sleep := rfl
@[simp] theorem State.setElem_disp (s : State) (e : Nat) (v : Elem) : (s.setElem e v).disp = s.disp := rfl
@[simp] theorem State.setElem_gate0 (s : State) (e : Nat) (v : Elem) : (s.setElem e v).gate0 = s.gate0 := rfl
@[simp] theorem State.setElem_gate1 (s : State) (e : Nat) (v : Elem) : (s.setElem e v).gate1 = s.gate1 := rfl
@[simp] theorem State.setElem_queues (s : State) (e : Nat) (v : Elem) : (s.setElem e v).queues = s.queues := rfl
@[simp] theorem State.setElem_events (s : State) (e : Nat) (v : Elem) : (s.setElem e v).events = s.events := rfl
@[simp] theorem State.setElem_objs (s : State) (e : Nat) (v : Elem) : (s.setElem e v).objs = s.objs := rfl
@[simp] theorem State.setElem_blobs (s : State) (e : Nat) (v : Elem) : (s.setElem e v).blobs = s.blobs := rfl
@[simp] theorem State.setElem_regs (s : State) (e : Nat) (v : Elem) : (s.setElem e v).regs = s.regs := rfl
@[simp] theorem State.setElem_shadowRegs (s : State) (e : Nat) (v : Elem) : (s.setElem e v).shadowRegs = s.shadowRegs := rfl
@[simp] theorem State.setElem_live (s : State) (e : Nat) (v : Elem) : (s.setElem e v).live = s.live := rfl
@[simp] theorem State.setElem_reject (s : State) (e : Nat) (v : Elem) : (s.setElem e v).reject = s.reject := rfl
@[simp] theorem State.setElem_out (s : State) (e : Nat) (v : Elem) : (s.setElem e v).out = s.out := rfl
@[simp] theorem State.setElem_freeCtr (s : State) (e : Nat) (v : Elem) : (s.setElem e v).freeCtr = s.freeCtr := rfl

/-! ### setCapture -/

@[simp] theorem State.setCapture_pending (s : State) (i : Nat) (v : Capture) : (s.setCapture i v).pending = s.pending := rfl
@[simp] theorem State.setCapture_time (s : State) (i : Nat) (v : Capture) : (s.setCapture i v).time = s.time := rfl
@[simp] theorem State.setCapture_ptp0 (s : State) (i : Nat) (v : Capture) : (s.setCapture i v).ptp0 = s.ptp0 := rfl
@[simp] theorem State.setCapture_ptp1 (s : State) (i : Nat) (v : Capture) : (s.setCapture i v).ptp1 = s.ptp1 := rfl
@[simp] theorem State.setCapture_ptpSel (s : State) (i : Nat) (v : Capture) : (s.setCapture i v).ptpSel = s.ptpSel := rfl
@[simp] theorem State.setCapture_beacons (s : State) (i : Nat) (v : Capture) : (s.setCapture i v).beacons = s.beacons := rfl
@[simp] theorem State.setCapture_forge (s : State) (i : Nat) (v : Capture) : (s.setCapture i v).forge = s.forge := rfl
@[simp] theorem State.setCapture_power (s : State) (i : Nat) (v : Capture) : (s.setCapture i v).power = s.power := rfl
@[simp] theorem State.setCapture_boot (s : State) (i : Nat) (v : Capture) : (s.setCapture i v).boot = s.boot := rfl
@[simp] theorem State.setCapture_life (s : State) (i : Nat) (v : Capture) : (s.setCapture i v).life = s.life := rfl
@[simp] theorem State.setCapture_genEpoch (s : State) (i : Nat) (v : Capture) : (s.setCapture i v).genEpoch = s.genEpoch := rfl
@[simp] theorem State.setCapture_genCount (s : State) (i : Nat) (v : Capture) : (s.setCapture i v).genCount = s.genCount := rfl
@[simp] theorem State.setCapture_digest (s : State) (i : Nat) (v : Capture) : (s.setCapture i v).digest = s.digest := rfl
@[simp] theorem State.setCapture_digests (s : State) (i : Nat) (v : Capture) : (s.setCapture i v).digests = s.digests := rfl
@[simp] theorem State.setCapture_active (s : State) (i : Nat) (v : Capture) : (s.setCapture i v).active = s.active := rfl
@[simp] theorem State.setCapture_image (s : State) (i : Nat) (v : Capture) : (s.setCapture i v).image = s.image := rfl
@[simp] theorem State.setCapture_legs (s : State) (i : Nat) (v : Capture) : (s.setCapture i v).legs = s.legs := rfl
@[simp] theorem State.setCapture_planner (s : State) (i : Nat) (v : Capture) : (s.setCapture i v).planner = s.planner := rfl
@[simp] theorem State.setCapture_batches (s : State) (i : Nat) (v : Capture) : (s.setCapture i v).batches = s.batches := rfl
@[simp] theorem State.setCapture_closed (s : State) (i : Nat) (v : Capture) : (s.setCapture i v).closed = s.closed := rfl
@[simp] theorem State.setCapture_nextBatch (s : State) (i : Nat) (v : Capture) : (s.setCapture i v).nextBatch = s.nextBatch := rfl
@[simp] theorem State.setCapture_lateBatches (s : State) (i : Nat) (v : Capture) : (s.setCapture i v).lateBatches = s.lateBatches := rfl
@[simp] theorem State.setCapture_commitCount (s : State) (i : Nat) (v : Capture) : (s.setCapture i v).commitCount = s.commitCount := rfl
@[simp] theorem State.setCapture_sched (s : State) (i : Nat) (v : Capture) : (s.setCapture i v).sched = s.sched := rfl
@[simp] theorem State.setCapture_cfgs (s : State) (i : Nat) (v : Capture) : (s.setCapture i v).cfgs = s.cfgs := rfl
@[simp] theorem State.setCapture_elems (s : State) (i : Nat) (v : Capture) : (s.setCapture i v).elems = s.elems := rfl
@[simp] theorem State.setCapture_loopsStarted (s : State) (i : Nat) (v : Capture) : (s.setCapture i v).loopsStarted = s.loopsStarted := rfl
@[simp] theorem State.setCapture_lateSkips (s : State) (i : Nat) (v : Capture) : (s.setCapture i v).lateSkips = s.lateSkips := rfl
@[simp] theorem State.setCapture_notches (s : State) (i : Nat) (v : Capture) : (s.setCapture i v).notches = s.notches := rfl
@[simp] theorem State.setCapture_lanesA (s : State) (i : Nat) (v : Capture) : (s.setCapture i v).lanesA = s.lanesA := rfl
@[simp] theorem State.setCapture_lanesB (s : State) (i : Nat) (v : Capture) : (s.setCapture i v).lanesB = s.lanesB := rfl
@[simp] theorem State.setCapture_chans (s : State) (i : Nat) (v : Capture) : (s.setCapture i v).chans = s.chans := rfl
@[simp] theorem State.setCapture_ladder (s : State) (i : Nat) (v : Capture) : (s.setCapture i v).ladder = s.ladder := rfl
@[simp] theorem State.setCapture_mismatchesCleared (s : State) (i : Nat) (v : Capture) : (s.setCapture i v).mismatchesCleared = s.mismatchesCleared := rfl
@[simp] theorem State.setCapture_clear (s : State) (i : Nat) (v : Capture) : (s.setCapture i v).clear = s.clear := rfl
@[simp] theorem State.setCapture_aux (s : State) (i : Nat) (v : Capture) : (s.setCapture i v).aux = s.aux := rfl
@[simp] theorem State.setCapture_dets (s : State) (i : Nat) (v : Capture) : (s.setCapture i v).dets = s.dets := rfl
@[simp] theorem State.setCapture_buoys (s : State) (i : Nat) (v : Capture) : (s.setCapture i v).buoys = s.buoys := rfl
@[simp] theorem State.setCapture_ports (s : State) (i : Nat) (v : Capture) : (s.setCapture i v).ports = s.ports := rfl
@[simp] theorem State.setCapture_windowsDiscarded (s : State) (i : Nat) (v : Capture) : (s.setCapture i v).windowsDiscarded = s.windowsDiscarded := rfl
@[simp] theorem State.setCapture_ampNow (s : State) (i : Nat) (v : Capture) : (s.setCapture i v).ampNow = s.ampNow := rfl
@[simp] theorem State.setCapture_ampNext (s : State) (i : Nat) (v : Capture) : (s.setCapture i v).ampNext = s.ampNext := rfl
@[simp] theorem State.setCapture_audit (s : State) (i : Nat) (v : Capture) : (s.setCapture i v).audit = s.audit := rfl
@[simp] theorem State.setCapture_hm6 (s : State) (i : Nat) (v : Capture) : (s.setCapture i v).hm6 = s.hm6 := rfl
@[simp] theorem State.setCapture_hm7 (s : State) (i : Nat) (v : Capture) : (s.setCapture i v).hm7 = s.hm7 := rfl
@[simp] theorem State.setCapture_keeper (s : State) (i : Nat) (v : Capture) : (s.setCapture i v).keeper = s.keeper := rfl
@[simp] theorem State.setCapture_cal (s : State) (i : Nat) (v : Capture) : (s.setCapture i v).cal = s.cal := rfl
@[simp] theorem State.setCapture_thermal (s : State) (i : Nat) (v : Capture) : (s.setCapture i v).thermal = s.thermal := rfl
@[simp] theorem State.setCapture_fans (s : State) (i : Nat) (v : Capture) : (s.setCapture i v).fans = s.fans := rfl
@[simp] theorem State.setCapture_hkc0 (s : State) (i : Nat) (v : Capture) : (s.setCapture i v).hkc0 = s.hkc0 := rfl
@[simp] theorem State.setCapture_hkc1 (s : State) (i : Nat) (v : Capture) : (s.setCapture i v).hkc1 = s.hkc1 := rfl
@[simp] theorem State.setCapture_rewriting (s : State) (i : Nat) (v : Capture) : (s.setCapture i v).rewriting = s.rewriting := rfl
@[simp] theorem State.setCapture_mem (s : State) (i : Nat) (v : Capture) : (s.setCapture i v).mem = s.mem := rfl
@[simp] theorem State.setCapture_ddr (s : State) (i : Nat) (v : Capture) : (s.setCapture i v).ddr = s.ddr := rfl
@[simp] theorem State.setCapture_banks (s : State) (i : Nat) (v : Capture) : (s.setCapture i v).banks = s.banks := rfl
@[simp] theorem State.setCapture_proof (s : State) (i : Nat) (v : Capture) : (s.setCapture i v).proof = s.proof := rfl
@[simp] theorem State.setCapture_matrix (s : State) (i : Nat) (v : Capture) : (s.setCapture i v).matrix = s.matrix := rfl
@[simp] theorem State.setCapture_mbx (s : State) (i : Nat) (v : Capture) : (s.setCapture i v).mbx = s.mbx := rfl
@[simp] theorem State.setCapture_aex (s : State) (i : Nat) (v : Capture) : (s.setCapture i v).aex = s.aex := rfl
@[simp] theorem State.setCapture_sessions (s : State) (i : Nat) (v : Capture) : (s.setCapture i v).sessions = s.sessions := rfl
@[simp] theorem State.setCapture_kept (s : State) (i : Nat) (v : Capture) : (s.setCapture i v).kept = s.kept := rfl
@[simp] theorem State.setCapture_spi (s : State) (i : Nat) (v : Capture) : (s.setCapture i v).spi = s.spi := rfl
@[simp] theorem State.setCapture_bar2Sleep (s : State) (i : Nat) (v : Capture) : (s.setCapture i v).bar2Sleep = s.bar2Sleep := rfl
@[simp] theorem State.setCapture_disp (s : State) (i : Nat) (v : Capture) : (s.setCapture i v).disp = s.disp := rfl
@[simp] theorem State.setCapture_gate0 (s : State) (i : Nat) (v : Capture) : (s.setCapture i v).gate0 = s.gate0 := rfl
@[simp] theorem State.setCapture_gate1 (s : State) (i : Nat) (v : Capture) : (s.setCapture i v).gate1 = s.gate1 := rfl
@[simp] theorem State.setCapture_queues (s : State) (i : Nat) (v : Capture) : (s.setCapture i v).queues = s.queues := rfl
@[simp] theorem State.setCapture_events (s : State) (i : Nat) (v : Capture) : (s.setCapture i v).events = s.events := rfl
@[simp] theorem State.setCapture_objs (s : State) (i : Nat) (v : Capture) : (s.setCapture i v).objs = s.objs := rfl
@[simp] theorem State.setCapture_blobs (s : State) (i : Nat) (v : Capture) : (s.setCapture i v).blobs = s.blobs := rfl
@[simp] theorem State.setCapture_regs (s : State) (i : Nat) (v : Capture) : (s.setCapture i v).regs = s.regs := rfl
@[simp] theorem State.setCapture_shadowRegs (s : State) (i : Nat) (v : Capture) : (s.setCapture i v).shadowRegs = s.shadowRegs := rfl
@[simp] theorem State.setCapture_live (s : State) (i : Nat) (v : Capture) : (s.setCapture i v).live = s.live := rfl
@[simp] theorem State.setCapture_reject (s : State) (i : Nat) (v : Capture) : (s.setCapture i v).reject = s.reject := rfl
@[simp] theorem State.setCapture_out (s : State) (i : Nat) (v : Capture) : (s.setCapture i v).out = s.out := rfl
@[simp] theorem State.setCapture_freeCtr (s : State) (i : Nat) (v : Capture) : (s.setCapture i v).freeCtr = s.freeCtr := rfl

/-! ### setBeacon -/

@[simp] theorem State.setBeacon_pending (s : State) (j : Nat) (v : Beacon) : (s.setBeacon j v).pending = s.pending := rfl
@[simp] theorem State.setBeacon_time (s : State) (j : Nat) (v : Beacon) : (s.setBeacon j v).time = s.time := rfl
@[simp] theorem State.setBeacon_ptp0 (s : State) (j : Nat) (v : Beacon) : (s.setBeacon j v).ptp0 = s.ptp0 := rfl
@[simp] theorem State.setBeacon_ptp1 (s : State) (j : Nat) (v : Beacon) : (s.setBeacon j v).ptp1 = s.ptp1 := rfl
@[simp] theorem State.setBeacon_ptpSel (s : State) (j : Nat) (v : Beacon) : (s.setBeacon j v).ptpSel = s.ptpSel := rfl
@[simp] theorem State.setBeacon_caps (s : State) (j : Nat) (v : Beacon) : (s.setBeacon j v).caps = s.caps := rfl
@[simp] theorem State.setBeacon_forge (s : State) (j : Nat) (v : Beacon) : (s.setBeacon j v).forge = s.forge := rfl
@[simp] theorem State.setBeacon_power (s : State) (j : Nat) (v : Beacon) : (s.setBeacon j v).power = s.power := rfl
@[simp] theorem State.setBeacon_boot (s : State) (j : Nat) (v : Beacon) : (s.setBeacon j v).boot = s.boot := rfl
@[simp] theorem State.setBeacon_life (s : State) (j : Nat) (v : Beacon) : (s.setBeacon j v).life = s.life := rfl
@[simp] theorem State.setBeacon_genEpoch (s : State) (j : Nat) (v : Beacon) : (s.setBeacon j v).genEpoch = s.genEpoch := rfl
@[simp] theorem State.setBeacon_genCount (s : State) (j : Nat) (v : Beacon) : (s.setBeacon j v).genCount = s.genCount := rfl
@[simp] theorem State.setBeacon_digest (s : State) (j : Nat) (v : Beacon) : (s.setBeacon j v).digest = s.digest := rfl
@[simp] theorem State.setBeacon_digests (s : State) (j : Nat) (v : Beacon) : (s.setBeacon j v).digests = s.digests := rfl
@[simp] theorem State.setBeacon_active (s : State) (j : Nat) (v : Beacon) : (s.setBeacon j v).active = s.active := rfl
@[simp] theorem State.setBeacon_image (s : State) (j : Nat) (v : Beacon) : (s.setBeacon j v).image = s.image := rfl
@[simp] theorem State.setBeacon_legs (s : State) (j : Nat) (v : Beacon) : (s.setBeacon j v).legs = s.legs := rfl
@[simp] theorem State.setBeacon_planner (s : State) (j : Nat) (v : Beacon) : (s.setBeacon j v).planner = s.planner := rfl
@[simp] theorem State.setBeacon_batches (s : State) (j : Nat) (v : Beacon) : (s.setBeacon j v).batches = s.batches := rfl
@[simp] theorem State.setBeacon_closed (s : State) (j : Nat) (v : Beacon) : (s.setBeacon j v).closed = s.closed := rfl
@[simp] theorem State.setBeacon_nextBatch (s : State) (j : Nat) (v : Beacon) : (s.setBeacon j v).nextBatch = s.nextBatch := rfl
@[simp] theorem State.setBeacon_lateBatches (s : State) (j : Nat) (v : Beacon) : (s.setBeacon j v).lateBatches = s.lateBatches := rfl
@[simp] theorem State.setBeacon_commitCount (s : State) (j : Nat) (v : Beacon) : (s.setBeacon j v).commitCount = s.commitCount := rfl
@[simp] theorem State.setBeacon_sched (s : State) (j : Nat) (v : Beacon) : (s.setBeacon j v).sched = s.sched := rfl
@[simp] theorem State.setBeacon_cfgs (s : State) (j : Nat) (v : Beacon) : (s.setBeacon j v).cfgs = s.cfgs := rfl
@[simp] theorem State.setBeacon_elems (s : State) (j : Nat) (v : Beacon) : (s.setBeacon j v).elems = s.elems := rfl
@[simp] theorem State.setBeacon_loopsStarted (s : State) (j : Nat) (v : Beacon) : (s.setBeacon j v).loopsStarted = s.loopsStarted := rfl
@[simp] theorem State.setBeacon_lateSkips (s : State) (j : Nat) (v : Beacon) : (s.setBeacon j v).lateSkips = s.lateSkips := rfl
@[simp] theorem State.setBeacon_notches (s : State) (j : Nat) (v : Beacon) : (s.setBeacon j v).notches = s.notches := rfl
@[simp] theorem State.setBeacon_lanesA (s : State) (j : Nat) (v : Beacon) : (s.setBeacon j v).lanesA = s.lanesA := rfl
@[simp] theorem State.setBeacon_lanesB (s : State) (j : Nat) (v : Beacon) : (s.setBeacon j v).lanesB = s.lanesB := rfl
@[simp] theorem State.setBeacon_chans (s : State) (j : Nat) (v : Beacon) : (s.setBeacon j v).chans = s.chans := rfl
@[simp] theorem State.setBeacon_ladder (s : State) (j : Nat) (v : Beacon) : (s.setBeacon j v).ladder = s.ladder := rfl
@[simp] theorem State.setBeacon_mismatchesCleared (s : State) (j : Nat) (v : Beacon) : (s.setBeacon j v).mismatchesCleared = s.mismatchesCleared := rfl
@[simp] theorem State.setBeacon_clear (s : State) (j : Nat) (v : Beacon) : (s.setBeacon j v).clear = s.clear := rfl
@[simp] theorem State.setBeacon_aux (s : State) (j : Nat) (v : Beacon) : (s.setBeacon j v).aux = s.aux := rfl
@[simp] theorem State.setBeacon_dets (s : State) (j : Nat) (v : Beacon) : (s.setBeacon j v).dets = s.dets := rfl
@[simp] theorem State.setBeacon_buoys (s : State) (j : Nat) (v : Beacon) : (s.setBeacon j v).buoys = s.buoys := rfl
@[simp] theorem State.setBeacon_ports (s : State) (j : Nat) (v : Beacon) : (s.setBeacon j v).ports = s.ports := rfl
@[simp] theorem State.setBeacon_windowsDiscarded (s : State) (j : Nat) (v : Beacon) : (s.setBeacon j v).windowsDiscarded = s.windowsDiscarded := rfl
@[simp] theorem State.setBeacon_ampNow (s : State) (j : Nat) (v : Beacon) : (s.setBeacon j v).ampNow = s.ampNow := rfl
@[simp] theorem State.setBeacon_ampNext (s : State) (j : Nat) (v : Beacon) : (s.setBeacon j v).ampNext = s.ampNext := rfl
@[simp] theorem State.setBeacon_audit (s : State) (j : Nat) (v : Beacon) : (s.setBeacon j v).audit = s.audit := rfl
@[simp] theorem State.setBeacon_hm6 (s : State) (j : Nat) (v : Beacon) : (s.setBeacon j v).hm6 = s.hm6 := rfl
@[simp] theorem State.setBeacon_hm7 (s : State) (j : Nat) (v : Beacon) : (s.setBeacon j v).hm7 = s.hm7 := rfl
@[simp] theorem State.setBeacon_keeper (s : State) (j : Nat) (v : Beacon) : (s.setBeacon j v).keeper = s.keeper := rfl
@[simp] theorem State.setBeacon_cal (s : State) (j : Nat) (v : Beacon) : (s.setBeacon j v).cal = s.cal := rfl
@[simp] theorem State.setBeacon_thermal (s : State) (j : Nat) (v : Beacon) : (s.setBeacon j v).thermal = s.thermal := rfl
@[simp] theorem State.setBeacon_fans (s : State) (j : Nat) (v : Beacon) : (s.setBeacon j v).fans = s.fans := rfl
@[simp] theorem State.setBeacon_hkc0 (s : State) (j : Nat) (v : Beacon) : (s.setBeacon j v).hkc0 = s.hkc0 := rfl
@[simp] theorem State.setBeacon_hkc1 (s : State) (j : Nat) (v : Beacon) : (s.setBeacon j v).hkc1 = s.hkc1 := rfl
@[simp] theorem State.setBeacon_rewriting (s : State) (j : Nat) (v : Beacon) : (s.setBeacon j v).rewriting = s.rewriting := rfl
@[simp] theorem State.setBeacon_mem (s : State) (j : Nat) (v : Beacon) : (s.setBeacon j v).mem = s.mem := rfl
@[simp] theorem State.setBeacon_ddr (s : State) (j : Nat) (v : Beacon) : (s.setBeacon j v).ddr = s.ddr := rfl
@[simp] theorem State.setBeacon_banks (s : State) (j : Nat) (v : Beacon) : (s.setBeacon j v).banks = s.banks := rfl
@[simp] theorem State.setBeacon_proof (s : State) (j : Nat) (v : Beacon) : (s.setBeacon j v).proof = s.proof := rfl
@[simp] theorem State.setBeacon_matrix (s : State) (j : Nat) (v : Beacon) : (s.setBeacon j v).matrix = s.matrix := rfl
@[simp] theorem State.setBeacon_mbx (s : State) (j : Nat) (v : Beacon) : (s.setBeacon j v).mbx = s.mbx := rfl
@[simp] theorem State.setBeacon_aex (s : State) (j : Nat) (v : Beacon) : (s.setBeacon j v).aex = s.aex := rfl
@[simp] theorem State.setBeacon_sessions (s : State) (j : Nat) (v : Beacon) : (s.setBeacon j v).sessions = s.sessions := rfl
@[simp] theorem State.setBeacon_kept (s : State) (j : Nat) (v : Beacon) : (s.setBeacon j v).kept = s.kept := rfl
@[simp] theorem State.setBeacon_spi (s : State) (j : Nat) (v : Beacon) : (s.setBeacon j v).spi = s.spi := rfl
@[simp] theorem State.setBeacon_bar2Sleep (s : State) (j : Nat) (v : Beacon) : (s.setBeacon j v).bar2Sleep = s.bar2Sleep := rfl
@[simp] theorem State.setBeacon_disp (s : State) (j : Nat) (v : Beacon) : (s.setBeacon j v).disp = s.disp := rfl
@[simp] theorem State.setBeacon_gate0 (s : State) (j : Nat) (v : Beacon) : (s.setBeacon j v).gate0 = s.gate0 := rfl
@[simp] theorem State.setBeacon_gate1 (s : State) (j : Nat) (v : Beacon) : (s.setBeacon j v).gate1 = s.gate1 := rfl
@[simp] theorem State.setBeacon_queues (s : State) (j : Nat) (v : Beacon) : (s.setBeacon j v).queues = s.queues := rfl
@[simp] theorem State.setBeacon_events (s : State) (j : Nat) (v : Beacon) : (s.setBeacon j v).events = s.events := rfl
@[simp] theorem State.setBeacon_objs (s : State) (j : Nat) (v : Beacon) : (s.setBeacon j v).objs = s.objs := rfl
@[simp] theorem State.setBeacon_blobs (s : State) (j : Nat) (v : Beacon) : (s.setBeacon j v).blobs = s.blobs := rfl
@[simp] theorem State.setBeacon_regs (s : State) (j : Nat) (v : Beacon) : (s.setBeacon j v).regs = s.regs := rfl
@[simp] theorem State.setBeacon_shadowRegs (s : State) (j : Nat) (v : Beacon) : (s.setBeacon j v).shadowRegs = s.shadowRegs := rfl
@[simp] theorem State.setBeacon_live (s : State) (j : Nat) (v : Beacon) : (s.setBeacon j v).live = s.live := rfl
@[simp] theorem State.setBeacon_reject (s : State) (j : Nat) (v : Beacon) : (s.setBeacon j v).reject = s.reject := rfl
@[simp] theorem State.setBeacon_out (s : State) (j : Nat) (v : Beacon) : (s.setBeacon j v).out = s.out := rfl
@[simp] theorem State.setBeacon_freeCtr (s : State) (j : Nat) (v : Beacon) : (s.setBeacon j v).freeCtr = s.freeCtr := rfl

/-! ### setPort -/

@[simp] theorem State.setPort_pending (s : State) (p : Nat) (v : Port) : (s.setPort p v).pending = s.pending := rfl
@[simp] theorem State.setPort_time (s : State) (p : Nat) (v : Port) : (s.setPort p v).time = s.time := rfl
@[simp] theorem State.setPort_ptp0 (s : State) (p : Nat) (v : Port) : (s.setPort p v).ptp0 = s.ptp0 := rfl
@[simp] theorem State.setPort_ptp1 (s : State) (p : Nat) (v : Port) : (s.setPort p v).ptp1 = s.ptp1 := rfl
@[simp] theorem State.setPort_ptpSel (s : State) (p : Nat) (v : Port) : (s.setPort p v).ptpSel = s.ptpSel := rfl
@[simp] theorem State.setPort_caps (s : State) (p : Nat) (v : Port) : (s.setPort p v).caps = s.caps := rfl
@[simp] theorem State.setPort_beacons (s : State) (p : Nat) (v : Port) : (s.setPort p v).beacons = s.beacons := rfl
@[simp] theorem State.setPort_forge (s : State) (p : Nat) (v : Port) : (s.setPort p v).forge = s.forge := rfl
@[simp] theorem State.setPort_power (s : State) (p : Nat) (v : Port) : (s.setPort p v).power = s.power := rfl
@[simp] theorem State.setPort_boot (s : State) (p : Nat) (v : Port) : (s.setPort p v).boot = s.boot := rfl
@[simp] theorem State.setPort_life (s : State) (p : Nat) (v : Port) : (s.setPort p v).life = s.life := rfl
@[simp] theorem State.setPort_genEpoch (s : State) (p : Nat) (v : Port) : (s.setPort p v).genEpoch = s.genEpoch := rfl
@[simp] theorem State.setPort_genCount (s : State) (p : Nat) (v : Port) : (s.setPort p v).genCount = s.genCount := rfl
@[simp] theorem State.setPort_digest (s : State) (p : Nat) (v : Port) : (s.setPort p v).digest = s.digest := rfl
@[simp] theorem State.setPort_digests (s : State) (p : Nat) (v : Port) : (s.setPort p v).digests = s.digests := rfl
@[simp] theorem State.setPort_active (s : State) (p : Nat) (v : Port) : (s.setPort p v).active = s.active := rfl
@[simp] theorem State.setPort_image (s : State) (p : Nat) (v : Port) : (s.setPort p v).image = s.image := rfl
@[simp] theorem State.setPort_legs (s : State) (p : Nat) (v : Port) : (s.setPort p v).legs = s.legs := rfl
@[simp] theorem State.setPort_planner (s : State) (p : Nat) (v : Port) : (s.setPort p v).planner = s.planner := rfl
@[simp] theorem State.setPort_batches (s : State) (p : Nat) (v : Port) : (s.setPort p v).batches = s.batches := rfl
@[simp] theorem State.setPort_closed (s : State) (p : Nat) (v : Port) : (s.setPort p v).closed = s.closed := rfl
@[simp] theorem State.setPort_nextBatch (s : State) (p : Nat) (v : Port) : (s.setPort p v).nextBatch = s.nextBatch := rfl
@[simp] theorem State.setPort_lateBatches (s : State) (p : Nat) (v : Port) : (s.setPort p v).lateBatches = s.lateBatches := rfl
@[simp] theorem State.setPort_commitCount (s : State) (p : Nat) (v : Port) : (s.setPort p v).commitCount = s.commitCount := rfl
@[simp] theorem State.setPort_sched (s : State) (p : Nat) (v : Port) : (s.setPort p v).sched = s.sched := rfl
@[simp] theorem State.setPort_cfgs (s : State) (p : Nat) (v : Port) : (s.setPort p v).cfgs = s.cfgs := rfl
@[simp] theorem State.setPort_elems (s : State) (p : Nat) (v : Port) : (s.setPort p v).elems = s.elems := rfl
@[simp] theorem State.setPort_loopsStarted (s : State) (p : Nat) (v : Port) : (s.setPort p v).loopsStarted = s.loopsStarted := rfl
@[simp] theorem State.setPort_lateSkips (s : State) (p : Nat) (v : Port) : (s.setPort p v).lateSkips = s.lateSkips := rfl
@[simp] theorem State.setPort_notches (s : State) (p : Nat) (v : Port) : (s.setPort p v).notches = s.notches := rfl
@[simp] theorem State.setPort_lanesA (s : State) (p : Nat) (v : Port) : (s.setPort p v).lanesA = s.lanesA := rfl
@[simp] theorem State.setPort_lanesB (s : State) (p : Nat) (v : Port) : (s.setPort p v).lanesB = s.lanesB := rfl
@[simp] theorem State.setPort_chans (s : State) (p : Nat) (v : Port) : (s.setPort p v).chans = s.chans := rfl
@[simp] theorem State.setPort_ladder (s : State) (p : Nat) (v : Port) : (s.setPort p v).ladder = s.ladder := rfl
@[simp] theorem State.setPort_mismatchesCleared (s : State) (p : Nat) (v : Port) : (s.setPort p v).mismatchesCleared = s.mismatchesCleared := rfl
@[simp] theorem State.setPort_clear (s : State) (p : Nat) (v : Port) : (s.setPort p v).clear = s.clear := rfl
@[simp] theorem State.setPort_aux (s : State) (p : Nat) (v : Port) : (s.setPort p v).aux = s.aux := rfl
@[simp] theorem State.setPort_dets (s : State) (p : Nat) (v : Port) : (s.setPort p v).dets = s.dets := rfl
@[simp] theorem State.setPort_buoys (s : State) (p : Nat) (v : Port) : (s.setPort p v).buoys = s.buoys := rfl
@[simp] theorem State.setPort_windowsDiscarded (s : State) (p : Nat) (v : Port) : (s.setPort p v).windowsDiscarded = s.windowsDiscarded := rfl
@[simp] theorem State.setPort_ampNow (s : State) (p : Nat) (v : Port) : (s.setPort p v).ampNow = s.ampNow := rfl
@[simp] theorem State.setPort_ampNext (s : State) (p : Nat) (v : Port) : (s.setPort p v).ampNext = s.ampNext := rfl
@[simp] theorem State.setPort_audit (s : State) (p : Nat) (v : Port) : (s.setPort p v).audit = s.audit := rfl
@[simp] theorem State.setPort_hm6 (s : State) (p : Nat) (v : Port) : (s.setPort p v).hm6 = s.hm6 := rfl
@[simp] theorem State.setPort_hm7 (s : State) (p : Nat) (v : Port) : (s.setPort p v).hm7 = s.hm7 := rfl
@[simp] theorem State.setPort_keeper (s : State) (p : Nat) (v : Port) : (s.setPort p v).keeper = s.keeper := rfl
@[simp] theorem State.setPort_cal (s : State) (p : Nat) (v : Port) : (s.setPort p v).cal = s.cal := rfl
@[simp] theorem State.setPort_thermal (s : State) (p : Nat) (v : Port) : (s.setPort p v).thermal = s.thermal := rfl
@[simp] theorem State.setPort_fans (s : State) (p : Nat) (v : Port) : (s.setPort p v).fans = s.fans := rfl
@[simp] theorem State.setPort_hkc0 (s : State) (p : Nat) (v : Port) : (s.setPort p v).hkc0 = s.hkc0 := rfl
@[simp] theorem State.setPort_hkc1 (s : State) (p : Nat) (v : Port) : (s.setPort p v).hkc1 = s.hkc1 := rfl
@[simp] theorem State.setPort_rewriting (s : State) (p : Nat) (v : Port) : (s.setPort p v).rewriting = s.rewriting := rfl
@[simp] theorem State.setPort_mem (s : State) (p : Nat) (v : Port) : (s.setPort p v).mem = s.mem := rfl
@[simp] theorem State.setPort_ddr (s : State) (p : Nat) (v : Port) : (s.setPort p v).ddr = s.ddr := rfl
@[simp] theorem State.setPort_banks (s : State) (p : Nat) (v : Port) : (s.setPort p v).banks = s.banks := rfl
@[simp] theorem State.setPort_proof (s : State) (p : Nat) (v : Port) : (s.setPort p v).proof = s.proof := rfl
@[simp] theorem State.setPort_matrix (s : State) (p : Nat) (v : Port) : (s.setPort p v).matrix = s.matrix := rfl
@[simp] theorem State.setPort_mbx (s : State) (p : Nat) (v : Port) : (s.setPort p v).mbx = s.mbx := rfl
@[simp] theorem State.setPort_aex (s : State) (p : Nat) (v : Port) : (s.setPort p v).aex = s.aex := rfl
@[simp] theorem State.setPort_sessions (s : State) (p : Nat) (v : Port) : (s.setPort p v).sessions = s.sessions := rfl
@[simp] theorem State.setPort_kept (s : State) (p : Nat) (v : Port) : (s.setPort p v).kept = s.kept := rfl
@[simp] theorem State.setPort_spi (s : State) (p : Nat) (v : Port) : (s.setPort p v).spi = s.spi := rfl
@[simp] theorem State.setPort_bar2Sleep (s : State) (p : Nat) (v : Port) : (s.setPort p v).bar2Sleep = s.bar2Sleep := rfl
@[simp] theorem State.setPort_disp (s : State) (p : Nat) (v : Port) : (s.setPort p v).disp = s.disp := rfl
@[simp] theorem State.setPort_gate0 (s : State) (p : Nat) (v : Port) : (s.setPort p v).gate0 = s.gate0 := rfl
@[simp] theorem State.setPort_gate1 (s : State) (p : Nat) (v : Port) : (s.setPort p v).gate1 = s.gate1 := rfl
@[simp] theorem State.setPort_queues (s : State) (p : Nat) (v : Port) : (s.setPort p v).queues = s.queues := rfl
@[simp] theorem State.setPort_events (s : State) (p : Nat) (v : Port) : (s.setPort p v).events = s.events := rfl
@[simp] theorem State.setPort_objs (s : State) (p : Nat) (v : Port) : (s.setPort p v).objs = s.objs := rfl
@[simp] theorem State.setPort_blobs (s : State) (p : Nat) (v : Port) : (s.setPort p v).blobs = s.blobs := rfl
@[simp] theorem State.setPort_regs (s : State) (p : Nat) (v : Port) : (s.setPort p v).regs = s.regs := rfl
@[simp] theorem State.setPort_shadowRegs (s : State) (p : Nat) (v : Port) : (s.setPort p v).shadowRegs = s.shadowRegs := rfl
@[simp] theorem State.setPort_live (s : State) (p : Nat) (v : Port) : (s.setPort p v).live = s.live := rfl
@[simp] theorem State.setPort_reject (s : State) (p : Nat) (v : Port) : (s.setPort p v).reject = s.reject := rfl
@[simp] theorem State.setPort_out (s : State) (p : Nat) (v : Port) : (s.setPort p v).out = s.out := rfl
@[simp] theorem State.setPort_freeCtr (s : State) (p : Nat) (v : Port) : (s.setPort p v).freeCtr = s.freeCtr := rfl

/-! ### setDet -/

@[simp] theorem State.setDet_pending (s : State) (d : Nat) (v : Det) : (s.setDet d v).pending = s.pending := rfl
@[simp] theorem State.setDet_time (s : State) (d : Nat) (v : Det) : (s.setDet d v).time = s.time := rfl
@[simp] theorem State.setDet_ptp0 (s : State) (d : Nat) (v : Det) : (s.setDet d v).ptp0 = s.ptp0 := rfl
@[simp] theorem State.setDet_ptp1 (s : State) (d : Nat) (v : Det) : (s.setDet d v).ptp1 = s.ptp1 := rfl
@[simp] theorem State.setDet_ptpSel (s : State) (d : Nat) (v : Det) : (s.setDet d v).ptpSel = s.ptpSel := rfl
@[simp] theorem State.setDet_caps (s : State) (d : Nat) (v : Det) : (s.setDet d v).caps = s.caps := rfl
@[simp] theorem State.setDet_beacons (s : State) (d : Nat) (v : Det) : (s.setDet d v).beacons = s.beacons := rfl
@[simp] theorem State.setDet_forge (s : State) (d : Nat) (v : Det) : (s.setDet d v).forge = s.forge := rfl
@[simp] theorem State.setDet_power (s : State) (d : Nat) (v : Det) : (s.setDet d v).power = s.power := rfl
@[simp] theorem State.setDet_boot (s : State) (d : Nat) (v : Det) : (s.setDet d v).boot = s.boot := rfl
@[simp] theorem State.setDet_life (s : State) (d : Nat) (v : Det) : (s.setDet d v).life = s.life := rfl
@[simp] theorem State.setDet_genEpoch (s : State) (d : Nat) (v : Det) : (s.setDet d v).genEpoch = s.genEpoch := rfl
@[simp] theorem State.setDet_genCount (s : State) (d : Nat) (v : Det) : (s.setDet d v).genCount = s.genCount := rfl
@[simp] theorem State.setDet_digest (s : State) (d : Nat) (v : Det) : (s.setDet d v).digest = s.digest := rfl
@[simp] theorem State.setDet_digests (s : State) (d : Nat) (v : Det) : (s.setDet d v).digests = s.digests := rfl
@[simp] theorem State.setDet_active (s : State) (d : Nat) (v : Det) : (s.setDet d v).active = s.active := rfl
@[simp] theorem State.setDet_image (s : State) (d : Nat) (v : Det) : (s.setDet d v).image = s.image := rfl
@[simp] theorem State.setDet_legs (s : State) (d : Nat) (v : Det) : (s.setDet d v).legs = s.legs := rfl
@[simp] theorem State.setDet_planner (s : State) (d : Nat) (v : Det) : (s.setDet d v).planner = s.planner := rfl
@[simp] theorem State.setDet_batches (s : State) (d : Nat) (v : Det) : (s.setDet d v).batches = s.batches := rfl
@[simp] theorem State.setDet_closed (s : State) (d : Nat) (v : Det) : (s.setDet d v).closed = s.closed := rfl
@[simp] theorem State.setDet_nextBatch (s : State) (d : Nat) (v : Det) : (s.setDet d v).nextBatch = s.nextBatch := rfl
@[simp] theorem State.setDet_lateBatches (s : State) (d : Nat) (v : Det) : (s.setDet d v).lateBatches = s.lateBatches := rfl
@[simp] theorem State.setDet_commitCount (s : State) (d : Nat) (v : Det) : (s.setDet d v).commitCount = s.commitCount := rfl
@[simp] theorem State.setDet_sched (s : State) (d : Nat) (v : Det) : (s.setDet d v).sched = s.sched := rfl
@[simp] theorem State.setDet_cfgs (s : State) (d : Nat) (v : Det) : (s.setDet d v).cfgs = s.cfgs := rfl
@[simp] theorem State.setDet_elems (s : State) (d : Nat) (v : Det) : (s.setDet d v).elems = s.elems := rfl
@[simp] theorem State.setDet_loopsStarted (s : State) (d : Nat) (v : Det) : (s.setDet d v).loopsStarted = s.loopsStarted := rfl
@[simp] theorem State.setDet_lateSkips (s : State) (d : Nat) (v : Det) : (s.setDet d v).lateSkips = s.lateSkips := rfl
@[simp] theorem State.setDet_notches (s : State) (d : Nat) (v : Det) : (s.setDet d v).notches = s.notches := rfl
@[simp] theorem State.setDet_lanesA (s : State) (d : Nat) (v : Det) : (s.setDet d v).lanesA = s.lanesA := rfl
@[simp] theorem State.setDet_lanesB (s : State) (d : Nat) (v : Det) : (s.setDet d v).lanesB = s.lanesB := rfl
@[simp] theorem State.setDet_chans (s : State) (d : Nat) (v : Det) : (s.setDet d v).chans = s.chans := rfl
@[simp] theorem State.setDet_ladder (s : State) (d : Nat) (v : Det) : (s.setDet d v).ladder = s.ladder := rfl
@[simp] theorem State.setDet_mismatchesCleared (s : State) (d : Nat) (v : Det) : (s.setDet d v).mismatchesCleared = s.mismatchesCleared := rfl
@[simp] theorem State.setDet_clear (s : State) (d : Nat) (v : Det) : (s.setDet d v).clear = s.clear := rfl
@[simp] theorem State.setDet_aux (s : State) (d : Nat) (v : Det) : (s.setDet d v).aux = s.aux := rfl
@[simp] theorem State.setDet_buoys (s : State) (d : Nat) (v : Det) : (s.setDet d v).buoys = s.buoys := rfl
@[simp] theorem State.setDet_ports (s : State) (d : Nat) (v : Det) : (s.setDet d v).ports = s.ports := rfl
@[simp] theorem State.setDet_windowsDiscarded (s : State) (d : Nat) (v : Det) : (s.setDet d v).windowsDiscarded = s.windowsDiscarded := rfl
@[simp] theorem State.setDet_ampNow (s : State) (d : Nat) (v : Det) : (s.setDet d v).ampNow = s.ampNow := rfl
@[simp] theorem State.setDet_ampNext (s : State) (d : Nat) (v : Det) : (s.setDet d v).ampNext = s.ampNext := rfl
@[simp] theorem State.setDet_audit (s : State) (d : Nat) (v : Det) : (s.setDet d v).audit = s.audit := rfl
@[simp] theorem State.setDet_hm6 (s : State) (d : Nat) (v : Det) : (s.setDet d v).hm6 = s.hm6 := rfl
@[simp] theorem State.setDet_hm7 (s : State) (d : Nat) (v : Det) : (s.setDet d v).hm7 = s.hm7 := rfl
@[simp] theorem State.setDet_keeper (s : State) (d : Nat) (v : Det) : (s.setDet d v).keeper = s.keeper := rfl
@[simp] theorem State.setDet_cal (s : State) (d : Nat) (v : Det) : (s.setDet d v).cal = s.cal := rfl
@[simp] theorem State.setDet_thermal (s : State) (d : Nat) (v : Det) : (s.setDet d v).thermal = s.thermal := rfl
@[simp] theorem State.setDet_fans (s : State) (d : Nat) (v : Det) : (s.setDet d v).fans = s.fans := rfl
@[simp] theorem State.setDet_hkc0 (s : State) (d : Nat) (v : Det) : (s.setDet d v).hkc0 = s.hkc0 := rfl
@[simp] theorem State.setDet_hkc1 (s : State) (d : Nat) (v : Det) : (s.setDet d v).hkc1 = s.hkc1 := rfl
@[simp] theorem State.setDet_rewriting (s : State) (d : Nat) (v : Det) : (s.setDet d v).rewriting = s.rewriting := rfl
@[simp] theorem State.setDet_mem (s : State) (d : Nat) (v : Det) : (s.setDet d v).mem = s.mem := rfl
@[simp] theorem State.setDet_ddr (s : State) (d : Nat) (v : Det) : (s.setDet d v).ddr = s.ddr := rfl
@[simp] theorem State.setDet_banks (s : State) (d : Nat) (v : Det) : (s.setDet d v).banks = s.banks := rfl
@[simp] theorem State.setDet_proof (s : State) (d : Nat) (v : Det) : (s.setDet d v).proof = s.proof := rfl
@[simp] theorem State.setDet_matrix (s : State) (d : Nat) (v : Det) : (s.setDet d v).matrix = s.matrix := rfl
@[simp] theorem State.setDet_mbx (s : State) (d : Nat) (v : Det) : (s.setDet d v).mbx = s.mbx := rfl
@[simp] theorem State.setDet_aex (s : State) (d : Nat) (v : Det) : (s.setDet d v).aex = s.aex := rfl
@[simp] theorem State.setDet_sessions (s : State) (d : Nat) (v : Det) : (s.setDet d v).sessions = s.sessions := rfl
@[simp] theorem State.setDet_kept (s : State) (d : Nat) (v : Det) : (s.setDet d v).kept = s.kept := rfl
@[simp] theorem State.setDet_spi (s : State) (d : Nat) (v : Det) : (s.setDet d v).spi = s.spi := rfl
@[simp] theorem State.setDet_bar2Sleep (s : State) (d : Nat) (v : Det) : (s.setDet d v).bar2Sleep = s.bar2Sleep := rfl
@[simp] theorem State.setDet_disp (s : State) (d : Nat) (v : Det) : (s.setDet d v).disp = s.disp := rfl
@[simp] theorem State.setDet_gate0 (s : State) (d : Nat) (v : Det) : (s.setDet d v).gate0 = s.gate0 := rfl
@[simp] theorem State.setDet_gate1 (s : State) (d : Nat) (v : Det) : (s.setDet d v).gate1 = s.gate1 := rfl
@[simp] theorem State.setDet_queues (s : State) (d : Nat) (v : Det) : (s.setDet d v).queues = s.queues := rfl
@[simp] theorem State.setDet_events (s : State) (d : Nat) (v : Det) : (s.setDet d v).events = s.events := rfl
@[simp] theorem State.setDet_objs (s : State) (d : Nat) (v : Det) : (s.setDet d v).objs = s.objs := rfl
@[simp] theorem State.setDet_blobs (s : State) (d : Nat) (v : Det) : (s.setDet d v).blobs = s.blobs := rfl
@[simp] theorem State.setDet_regs (s : State) (d : Nat) (v : Det) : (s.setDet d v).regs = s.regs := rfl
@[simp] theorem State.setDet_shadowRegs (s : State) (d : Nat) (v : Det) : (s.setDet d v).shadowRegs = s.shadowRegs := rfl
@[simp] theorem State.setDet_live (s : State) (d : Nat) (v : Det) : (s.setDet d v).live = s.live := rfl
@[simp] theorem State.setDet_reject (s : State) (d : Nat) (v : Det) : (s.setDet d v).reject = s.reject := rfl
@[simp] theorem State.setDet_out (s : State) (d : Nat) (v : Det) : (s.setDet d v).out = s.out := rfl
@[simp] theorem State.setDet_freeCtr (s : State) (d : Nat) (v : Det) : (s.setDet d v).freeCtr = s.freeCtr := rfl

/-! ### setLeg -/

@[simp] theorem State.setLeg_pending (s : State) (i : Nat) (v : LegSt) : (s.setLeg i v).pending = s.pending := rfl
@[simp] theorem State.setLeg_time (s : State) (i : Nat) (v : LegSt) : (s.setLeg i v).time = s.time := rfl
@[simp] theorem State.setLeg_ptp0 (s : State) (i : Nat) (v : LegSt) : (s.setLeg i v).ptp0 = s.ptp0 := rfl
@[simp] theorem State.setLeg_ptp1 (s : State) (i : Nat) (v : LegSt) : (s.setLeg i v).ptp1 = s.ptp1 := rfl
@[simp] theorem State.setLeg_ptpSel (s : State) (i : Nat) (v : LegSt) : (s.setLeg i v).ptpSel = s.ptpSel := rfl
@[simp] theorem State.setLeg_caps (s : State) (i : Nat) (v : LegSt) : (s.setLeg i v).caps = s.caps := rfl
@[simp] theorem State.setLeg_beacons (s : State) (i : Nat) (v : LegSt) : (s.setLeg i v).beacons = s.beacons := rfl
@[simp] theorem State.setLeg_forge (s : State) (i : Nat) (v : LegSt) : (s.setLeg i v).forge = s.forge := rfl
@[simp] theorem State.setLeg_power (s : State) (i : Nat) (v : LegSt) : (s.setLeg i v).power = s.power := rfl
@[simp] theorem State.setLeg_boot (s : State) (i : Nat) (v : LegSt) : (s.setLeg i v).boot = s.boot := rfl
@[simp] theorem State.setLeg_life (s : State) (i : Nat) (v : LegSt) : (s.setLeg i v).life = s.life := rfl
@[simp] theorem State.setLeg_genEpoch (s : State) (i : Nat) (v : LegSt) : (s.setLeg i v).genEpoch = s.genEpoch := rfl
@[simp] theorem State.setLeg_genCount (s : State) (i : Nat) (v : LegSt) : (s.setLeg i v).genCount = s.genCount := rfl
@[simp] theorem State.setLeg_digest (s : State) (i : Nat) (v : LegSt) : (s.setLeg i v).digest = s.digest := rfl
@[simp] theorem State.setLeg_digests (s : State) (i : Nat) (v : LegSt) : (s.setLeg i v).digests = s.digests := rfl
@[simp] theorem State.setLeg_active (s : State) (i : Nat) (v : LegSt) : (s.setLeg i v).active = s.active := rfl
@[simp] theorem State.setLeg_image (s : State) (i : Nat) (v : LegSt) : (s.setLeg i v).image = s.image := rfl
@[simp] theorem State.setLeg_planner (s : State) (i : Nat) (v : LegSt) : (s.setLeg i v).planner = s.planner := rfl
@[simp] theorem State.setLeg_batches (s : State) (i : Nat) (v : LegSt) : (s.setLeg i v).batches = s.batches := rfl
@[simp] theorem State.setLeg_closed (s : State) (i : Nat) (v : LegSt) : (s.setLeg i v).closed = s.closed := rfl
@[simp] theorem State.setLeg_nextBatch (s : State) (i : Nat) (v : LegSt) : (s.setLeg i v).nextBatch = s.nextBatch := rfl
@[simp] theorem State.setLeg_lateBatches (s : State) (i : Nat) (v : LegSt) : (s.setLeg i v).lateBatches = s.lateBatches := rfl
@[simp] theorem State.setLeg_commitCount (s : State) (i : Nat) (v : LegSt) : (s.setLeg i v).commitCount = s.commitCount := rfl
@[simp] theorem State.setLeg_sched (s : State) (i : Nat) (v : LegSt) : (s.setLeg i v).sched = s.sched := rfl
@[simp] theorem State.setLeg_cfgs (s : State) (i : Nat) (v : LegSt) : (s.setLeg i v).cfgs = s.cfgs := rfl
@[simp] theorem State.setLeg_elems (s : State) (i : Nat) (v : LegSt) : (s.setLeg i v).elems = s.elems := rfl
@[simp] theorem State.setLeg_loopsStarted (s : State) (i : Nat) (v : LegSt) : (s.setLeg i v).loopsStarted = s.loopsStarted := rfl
@[simp] theorem State.setLeg_lateSkips (s : State) (i : Nat) (v : LegSt) : (s.setLeg i v).lateSkips = s.lateSkips := rfl
@[simp] theorem State.setLeg_notches (s : State) (i : Nat) (v : LegSt) : (s.setLeg i v).notches = s.notches := rfl
@[simp] theorem State.setLeg_lanesA (s : State) (i : Nat) (v : LegSt) : (s.setLeg i v).lanesA = s.lanesA := rfl
@[simp] theorem State.setLeg_lanesB (s : State) (i : Nat) (v : LegSt) : (s.setLeg i v).lanesB = s.lanesB := rfl
@[simp] theorem State.setLeg_chans (s : State) (i : Nat) (v : LegSt) : (s.setLeg i v).chans = s.chans := rfl
@[simp] theorem State.setLeg_ladder (s : State) (i : Nat) (v : LegSt) : (s.setLeg i v).ladder = s.ladder := rfl
@[simp] theorem State.setLeg_mismatchesCleared (s : State) (i : Nat) (v : LegSt) : (s.setLeg i v).mismatchesCleared = s.mismatchesCleared := rfl
@[simp] theorem State.setLeg_clear (s : State) (i : Nat) (v : LegSt) : (s.setLeg i v).clear = s.clear := rfl
@[simp] theorem State.setLeg_aux (s : State) (i : Nat) (v : LegSt) : (s.setLeg i v).aux = s.aux := rfl
@[simp] theorem State.setLeg_dets (s : State) (i : Nat) (v : LegSt) : (s.setLeg i v).dets = s.dets := rfl
@[simp] theorem State.setLeg_buoys (s : State) (i : Nat) (v : LegSt) : (s.setLeg i v).buoys = s.buoys := rfl
@[simp] theorem State.setLeg_ports (s : State) (i : Nat) (v : LegSt) : (s.setLeg i v).ports = s.ports := rfl
@[simp] theorem State.setLeg_windowsDiscarded (s : State) (i : Nat) (v : LegSt) : (s.setLeg i v).windowsDiscarded = s.windowsDiscarded := rfl
@[simp] theorem State.setLeg_ampNow (s : State) (i : Nat) (v : LegSt) : (s.setLeg i v).ampNow = s.ampNow := rfl
@[simp] theorem State.setLeg_ampNext (s : State) (i : Nat) (v : LegSt) : (s.setLeg i v).ampNext = s.ampNext := rfl
@[simp] theorem State.setLeg_audit (s : State) (i : Nat) (v : LegSt) : (s.setLeg i v).audit = s.audit := rfl
@[simp] theorem State.setLeg_hm6 (s : State) (i : Nat) (v : LegSt) : (s.setLeg i v).hm6 = s.hm6 := rfl
@[simp] theorem State.setLeg_hm7 (s : State) (i : Nat) (v : LegSt) : (s.setLeg i v).hm7 = s.hm7 := rfl
@[simp] theorem State.setLeg_keeper (s : State) (i : Nat) (v : LegSt) : (s.setLeg i v).keeper = s.keeper := rfl
@[simp] theorem State.setLeg_cal (s : State) (i : Nat) (v : LegSt) : (s.setLeg i v).cal = s.cal := rfl
@[simp] theorem State.setLeg_thermal (s : State) (i : Nat) (v : LegSt) : (s.setLeg i v).thermal = s.thermal := rfl
@[simp] theorem State.setLeg_fans (s : State) (i : Nat) (v : LegSt) : (s.setLeg i v).fans = s.fans := rfl
@[simp] theorem State.setLeg_hkc0 (s : State) (i : Nat) (v : LegSt) : (s.setLeg i v).hkc0 = s.hkc0 := rfl
@[simp] theorem State.setLeg_hkc1 (s : State) (i : Nat) (v : LegSt) : (s.setLeg i v).hkc1 = s.hkc1 := rfl
@[simp] theorem State.setLeg_rewriting (s : State) (i : Nat) (v : LegSt) : (s.setLeg i v).rewriting = s.rewriting := rfl
@[simp] theorem State.setLeg_mem (s : State) (i : Nat) (v : LegSt) : (s.setLeg i v).mem = s.mem := rfl
@[simp] theorem State.setLeg_ddr (s : State) (i : Nat) (v : LegSt) : (s.setLeg i v).ddr = s.ddr := rfl
@[simp] theorem State.setLeg_banks (s : State) (i : Nat) (v : LegSt) : (s.setLeg i v).banks = s.banks := rfl
@[simp] theorem State.setLeg_proof (s : State) (i : Nat) (v : LegSt) : (s.setLeg i v).proof = s.proof := rfl
@[simp] theorem State.setLeg_matrix (s : State) (i : Nat) (v : LegSt) : (s.setLeg i v).matrix = s.matrix := rfl
@[simp] theorem State.setLeg_mbx (s : State) (i : Nat) (v : LegSt) : (s.setLeg i v).mbx = s.mbx := rfl
@[simp] theorem State.setLeg_aex (s : State) (i : Nat) (v : LegSt) : (s.setLeg i v).aex = s.aex := rfl
@[simp] theorem State.setLeg_sessions (s : State) (i : Nat) (v : LegSt) : (s.setLeg i v).sessions = s.sessions := rfl
@[simp] theorem State.setLeg_kept (s : State) (i : Nat) (v : LegSt) : (s.setLeg i v).kept = s.kept := rfl
@[simp] theorem State.setLeg_spi (s : State) (i : Nat) (v : LegSt) : (s.setLeg i v).spi = s.spi := rfl
@[simp] theorem State.setLeg_bar2Sleep (s : State) (i : Nat) (v : LegSt) : (s.setLeg i v).bar2Sleep = s.bar2Sleep := rfl
@[simp] theorem State.setLeg_disp (s : State) (i : Nat) (v : LegSt) : (s.setLeg i v).disp = s.disp := rfl
@[simp] theorem State.setLeg_gate0 (s : State) (i : Nat) (v : LegSt) : (s.setLeg i v).gate0 = s.gate0 := rfl
@[simp] theorem State.setLeg_gate1 (s : State) (i : Nat) (v : LegSt) : (s.setLeg i v).gate1 = s.gate1 := rfl
@[simp] theorem State.setLeg_queues (s : State) (i : Nat) (v : LegSt) : (s.setLeg i v).queues = s.queues := rfl
@[simp] theorem State.setLeg_events (s : State) (i : Nat) (v : LegSt) : (s.setLeg i v).events = s.events := rfl
@[simp] theorem State.setLeg_objs (s : State) (i : Nat) (v : LegSt) : (s.setLeg i v).objs = s.objs := rfl
@[simp] theorem State.setLeg_blobs (s : State) (i : Nat) (v : LegSt) : (s.setLeg i v).blobs = s.blobs := rfl
@[simp] theorem State.setLeg_regs (s : State) (i : Nat) (v : LegSt) : (s.setLeg i v).regs = s.regs := rfl
@[simp] theorem State.setLeg_shadowRegs (s : State) (i : Nat) (v : LegSt) : (s.setLeg i v).shadowRegs = s.shadowRegs := rfl
@[simp] theorem State.setLeg_live (s : State) (i : Nat) (v : LegSt) : (s.setLeg i v).live = s.live := rfl
@[simp] theorem State.setLeg_reject (s : State) (i : Nat) (v : LegSt) : (s.setLeg i v).reject = s.reject := rfl
@[simp] theorem State.setLeg_out (s : State) (i : Nat) (v : LegSt) : (s.setLeg i v).out = s.out := rfl
@[simp] theorem State.setLeg_freeCtr (s : State) (i : Nat) (v : LegSt) : (s.setLeg i v).freeCtr = s.freeCtr := rfl

/-! ### setBatch -/

@[simp] theorem State.setBatch_pending (s : State) (b : Batch) : (s.setBatch b).pending = s.pending := rfl
@[simp] theorem State.setBatch_time (s : State) (b : Batch) : (s.setBatch b).time = s.time := rfl
@[simp] theorem State.setBatch_ptp0 (s : State) (b : Batch) : (s.setBatch b).ptp0 = s.ptp0 := rfl
@[simp] theorem State.setBatch_ptp1 (s : State) (b : Batch) : (s.setBatch b).ptp1 = s.ptp1 := rfl
@[simp] theorem State.setBatch_ptpSel (s : State) (b : Batch) : (s.setBatch b).ptpSel = s.ptpSel := rfl
@[simp] theorem State.setBatch_caps (s : State) (b : Batch) : (s.setBatch b).caps = s.caps := rfl
@[simp] theorem State.setBatch_beacons (s : State) (b : Batch) : (s.setBatch b).beacons = s.beacons := rfl
@[simp] theorem State.setBatch_forge (s : State) (b : Batch) : (s.setBatch b).forge = s.forge := rfl
@[simp] theorem State.setBatch_power (s : State) (b : Batch) : (s.setBatch b).power = s.power := rfl
@[simp] theorem State.setBatch_boot (s : State) (b : Batch) : (s.setBatch b).boot = s.boot := rfl
@[simp] theorem State.setBatch_life (s : State) (b : Batch) : (s.setBatch b).life = s.life := rfl
@[simp] theorem State.setBatch_genEpoch (s : State) (b : Batch) : (s.setBatch b).genEpoch = s.genEpoch := rfl
@[simp] theorem State.setBatch_genCount (s : State) (b : Batch) : (s.setBatch b).genCount = s.genCount := rfl
@[simp] theorem State.setBatch_digest (s : State) (b : Batch) : (s.setBatch b).digest = s.digest := rfl
@[simp] theorem State.setBatch_digests (s : State) (b : Batch) : (s.setBatch b).digests = s.digests := rfl
@[simp] theorem State.setBatch_active (s : State) (b : Batch) : (s.setBatch b).active = s.active := rfl
@[simp] theorem State.setBatch_image (s : State) (b : Batch) : (s.setBatch b).image = s.image := rfl
@[simp] theorem State.setBatch_legs (s : State) (b : Batch) : (s.setBatch b).legs = s.legs := rfl
@[simp] theorem State.setBatch_planner (s : State) (b : Batch) : (s.setBatch b).planner = s.planner := rfl
@[simp] theorem State.setBatch_closed (s : State) (b : Batch) : (s.setBatch b).closed = s.closed := rfl
@[simp] theorem State.setBatch_nextBatch (s : State) (b : Batch) : (s.setBatch b).nextBatch = s.nextBatch := rfl
@[simp] theorem State.setBatch_lateBatches (s : State) (b : Batch) : (s.setBatch b).lateBatches = s.lateBatches := rfl
@[simp] theorem State.setBatch_commitCount (s : State) (b : Batch) : (s.setBatch b).commitCount = s.commitCount := rfl
@[simp] theorem State.setBatch_sched (s : State) (b : Batch) : (s.setBatch b).sched = s.sched := rfl
@[simp] theorem State.setBatch_cfgs (s : State) (b : Batch) : (s.setBatch b).cfgs = s.cfgs := rfl
@[simp] theorem State.setBatch_elems (s : State) (b : Batch) : (s.setBatch b).elems = s.elems := rfl
@[simp] theorem State.setBatch_loopsStarted (s : State) (b : Batch) : (s.setBatch b).loopsStarted = s.loopsStarted := rfl
@[simp] theorem State.setBatch_lateSkips (s : State) (b : Batch) : (s.setBatch b).lateSkips = s.lateSkips := rfl
@[simp] theorem State.setBatch_notches (s : State) (b : Batch) : (s.setBatch b).notches = s.notches := rfl
@[simp] theorem State.setBatch_lanesA (s : State) (b : Batch) : (s.setBatch b).lanesA = s.lanesA := rfl
@[simp] theorem State.setBatch_lanesB (s : State) (b : Batch) : (s.setBatch b).lanesB = s.lanesB := rfl
@[simp] theorem State.setBatch_chans (s : State) (b : Batch) : (s.setBatch b).chans = s.chans := rfl
@[simp] theorem State.setBatch_ladder (s : State) (b : Batch) : (s.setBatch b).ladder = s.ladder := rfl
@[simp] theorem State.setBatch_mismatchesCleared (s : State) (b : Batch) : (s.setBatch b).mismatchesCleared = s.mismatchesCleared := rfl
@[simp] theorem State.setBatch_clear (s : State) (b : Batch) : (s.setBatch b).clear = s.clear := rfl
@[simp] theorem State.setBatch_aux (s : State) (b : Batch) : (s.setBatch b).aux = s.aux := rfl
@[simp] theorem State.setBatch_dets (s : State) (b : Batch) : (s.setBatch b).dets = s.dets := rfl
@[simp] theorem State.setBatch_buoys (s : State) (b : Batch) : (s.setBatch b).buoys = s.buoys := rfl
@[simp] theorem State.setBatch_ports (s : State) (b : Batch) : (s.setBatch b).ports = s.ports := rfl
@[simp] theorem State.setBatch_windowsDiscarded (s : State) (b : Batch) : (s.setBatch b).windowsDiscarded = s.windowsDiscarded := rfl
@[simp] theorem State.setBatch_ampNow (s : State) (b : Batch) : (s.setBatch b).ampNow = s.ampNow := rfl
@[simp] theorem State.setBatch_ampNext (s : State) (b : Batch) : (s.setBatch b).ampNext = s.ampNext := rfl
@[simp] theorem State.setBatch_audit (s : State) (b : Batch) : (s.setBatch b).audit = s.audit := rfl
@[simp] theorem State.setBatch_hm6 (s : State) (b : Batch) : (s.setBatch b).hm6 = s.hm6 := rfl
@[simp] theorem State.setBatch_hm7 (s : State) (b : Batch) : (s.setBatch b).hm7 = s.hm7 := rfl
@[simp] theorem State.setBatch_keeper (s : State) (b : Batch) : (s.setBatch b).keeper = s.keeper := rfl
@[simp] theorem State.setBatch_cal (s : State) (b : Batch) : (s.setBatch b).cal = s.cal := rfl
@[simp] theorem State.setBatch_thermal (s : State) (b : Batch) : (s.setBatch b).thermal = s.thermal := rfl
@[simp] theorem State.setBatch_fans (s : State) (b : Batch) : (s.setBatch b).fans = s.fans := rfl
@[simp] theorem State.setBatch_hkc0 (s : State) (b : Batch) : (s.setBatch b).hkc0 = s.hkc0 := rfl
@[simp] theorem State.setBatch_hkc1 (s : State) (b : Batch) : (s.setBatch b).hkc1 = s.hkc1 := rfl
@[simp] theorem State.setBatch_rewriting (s : State) (b : Batch) : (s.setBatch b).rewriting = s.rewriting := rfl
@[simp] theorem State.setBatch_mem (s : State) (b : Batch) : (s.setBatch b).mem = s.mem := rfl
@[simp] theorem State.setBatch_ddr (s : State) (b : Batch) : (s.setBatch b).ddr = s.ddr := rfl
@[simp] theorem State.setBatch_banks (s : State) (b : Batch) : (s.setBatch b).banks = s.banks := rfl
@[simp] theorem State.setBatch_proof (s : State) (b : Batch) : (s.setBatch b).proof = s.proof := rfl
@[simp] theorem State.setBatch_matrix (s : State) (b : Batch) : (s.setBatch b).matrix = s.matrix := rfl
@[simp] theorem State.setBatch_mbx (s : State) (b : Batch) : (s.setBatch b).mbx = s.mbx := rfl
@[simp] theorem State.setBatch_aex (s : State) (b : Batch) : (s.setBatch b).aex = s.aex := rfl
@[simp] theorem State.setBatch_sessions (s : State) (b : Batch) : (s.setBatch b).sessions = s.sessions := rfl
@[simp] theorem State.setBatch_kept (s : State) (b : Batch) : (s.setBatch b).kept = s.kept := rfl
@[simp] theorem State.setBatch_spi (s : State) (b : Batch) : (s.setBatch b).spi = s.spi := rfl
@[simp] theorem State.setBatch_bar2Sleep (s : State) (b : Batch) : (s.setBatch b).bar2Sleep = s.bar2Sleep := rfl
@[simp] theorem State.setBatch_disp (s : State) (b : Batch) : (s.setBatch b).disp = s.disp := rfl
@[simp] theorem State.setBatch_gate0 (s : State) (b : Batch) : (s.setBatch b).gate0 = s.gate0 := rfl
@[simp] theorem State.setBatch_gate1 (s : State) (b : Batch) : (s.setBatch b).gate1 = s.gate1 := rfl
@[simp] theorem State.setBatch_queues (s : State) (b : Batch) : (s.setBatch b).queues = s.queues := rfl
@[simp] theorem State.setBatch_events (s : State) (b : Batch) : (s.setBatch b).events = s.events := rfl
@[simp] theorem State.setBatch_objs (s : State) (b : Batch) : (s.setBatch b).objs = s.objs := rfl
@[simp] theorem State.setBatch_blobs (s : State) (b : Batch) : (s.setBatch b).blobs = s.blobs := rfl
@[simp] theorem State.setBatch_regs (s : State) (b : Batch) : (s.setBatch b).regs = s.regs := rfl
@[simp] theorem State.setBatch_shadowRegs (s : State) (b : Batch) : (s.setBatch b).shadowRegs = s.shadowRegs := rfl
@[simp] theorem State.setBatch_live (s : State) (b : Batch) : (s.setBatch b).live = s.live := rfl
@[simp] theorem State.setBatch_reject (s : State) (b : Batch) : (s.setBatch b).reject = s.reject := rfl
@[simp] theorem State.setBatch_out (s : State) (b : Batch) : (s.setBatch b).out = s.out := rfl
@[simp] theorem State.setBatch_freeCtr (s : State) (b : Batch) : (s.setBatch b).freeCtr = s.freeCtr := rfl

/-! ### setChan -/

@[simp] theorem State.setChan_pending (s : State) (e : Nat) (v : Chan) : (s.setChan e v).pending = s.pending := rfl
@[simp] theorem State.setChan_time (s : State) (e : Nat) (v : Chan) : (s.setChan e v).time = s.time := rfl
@[simp] theorem State.setChan_ptp0 (s : State) (e : Nat) (v : Chan) : (s.setChan e v).ptp0 = s.ptp0 := rfl
@[simp] theorem State.setChan_ptp1 (s : State) (e : Nat) (v : Chan) : (s.setChan e v).ptp1 = s.ptp1 := rfl
@[simp] theorem State.setChan_ptpSel (s : State) (e : Nat) (v : Chan) : (s.setChan e v).ptpSel = s.ptpSel := rfl
@[simp] theorem State.setChan_caps (s : State) (e : Nat) (v : Chan) : (s.setChan e v).caps = s.caps := rfl
@[simp] theorem State.setChan_beacons (s : State) (e : Nat) (v : Chan) : (s.setChan e v).beacons = s.beacons := rfl
@[simp] theorem State.setChan_forge (s : State) (e : Nat) (v : Chan) : (s.setChan e v).forge = s.forge := rfl
@[simp] theorem State.setChan_power (s : State) (e : Nat) (v : Chan) : (s.setChan e v).power = s.power := rfl
@[simp] theorem State.setChan_boot (s : State) (e : Nat) (v : Chan) : (s.setChan e v).boot = s.boot := rfl
@[simp] theorem State.setChan_life (s : State) (e : Nat) (v : Chan) : (s.setChan e v).life = s.life := rfl
@[simp] theorem State.setChan_genEpoch (s : State) (e : Nat) (v : Chan) : (s.setChan e v).genEpoch = s.genEpoch := rfl
@[simp] theorem State.setChan_genCount (s : State) (e : Nat) (v : Chan) : (s.setChan e v).genCount = s.genCount := rfl
@[simp] theorem State.setChan_digest (s : State) (e : Nat) (v : Chan) : (s.setChan e v).digest = s.digest := rfl
@[simp] theorem State.setChan_digests (s : State) (e : Nat) (v : Chan) : (s.setChan e v).digests = s.digests := rfl
@[simp] theorem State.setChan_active (s : State) (e : Nat) (v : Chan) : (s.setChan e v).active = s.active := rfl
@[simp] theorem State.setChan_image (s : State) (e : Nat) (v : Chan) : (s.setChan e v).image = s.image := rfl
@[simp] theorem State.setChan_legs (s : State) (e : Nat) (v : Chan) : (s.setChan e v).legs = s.legs := rfl
@[simp] theorem State.setChan_planner (s : State) (e : Nat) (v : Chan) : (s.setChan e v).planner = s.planner := rfl
@[simp] theorem State.setChan_batches (s : State) (e : Nat) (v : Chan) : (s.setChan e v).batches = s.batches := rfl
@[simp] theorem State.setChan_closed (s : State) (e : Nat) (v : Chan) : (s.setChan e v).closed = s.closed := rfl
@[simp] theorem State.setChan_nextBatch (s : State) (e : Nat) (v : Chan) : (s.setChan e v).nextBatch = s.nextBatch := rfl
@[simp] theorem State.setChan_lateBatches (s : State) (e : Nat) (v : Chan) : (s.setChan e v).lateBatches = s.lateBatches := rfl
@[simp] theorem State.setChan_commitCount (s : State) (e : Nat) (v : Chan) : (s.setChan e v).commitCount = s.commitCount := rfl
@[simp] theorem State.setChan_sched (s : State) (e : Nat) (v : Chan) : (s.setChan e v).sched = s.sched := rfl
@[simp] theorem State.setChan_cfgs (s : State) (e : Nat) (v : Chan) : (s.setChan e v).cfgs = s.cfgs := rfl
@[simp] theorem State.setChan_elems (s : State) (e : Nat) (v : Chan) : (s.setChan e v).elems = s.elems := rfl
@[simp] theorem State.setChan_loopsStarted (s : State) (e : Nat) (v : Chan) : (s.setChan e v).loopsStarted = s.loopsStarted := rfl
@[simp] theorem State.setChan_lateSkips (s : State) (e : Nat) (v : Chan) : (s.setChan e v).lateSkips = s.lateSkips := rfl
@[simp] theorem State.setChan_notches (s : State) (e : Nat) (v : Chan) : (s.setChan e v).notches = s.notches := rfl
@[simp] theorem State.setChan_lanesA (s : State) (e : Nat) (v : Chan) : (s.setChan e v).lanesA = s.lanesA := rfl
@[simp] theorem State.setChan_lanesB (s : State) (e : Nat) (v : Chan) : (s.setChan e v).lanesB = s.lanesB := rfl
@[simp] theorem State.setChan_ladder (s : State) (e : Nat) (v : Chan) : (s.setChan e v).ladder = s.ladder := rfl
@[simp] theorem State.setChan_mismatchesCleared (s : State) (e : Nat) (v : Chan) : (s.setChan e v).mismatchesCleared = s.mismatchesCleared := rfl
@[simp] theorem State.setChan_clear (s : State) (e : Nat) (v : Chan) : (s.setChan e v).clear = s.clear := rfl
@[simp] theorem State.setChan_aux (s : State) (e : Nat) (v : Chan) : (s.setChan e v).aux = s.aux := rfl
@[simp] theorem State.setChan_dets (s : State) (e : Nat) (v : Chan) : (s.setChan e v).dets = s.dets := rfl
@[simp] theorem State.setChan_buoys (s : State) (e : Nat) (v : Chan) : (s.setChan e v).buoys = s.buoys := rfl
@[simp] theorem State.setChan_ports (s : State) (e : Nat) (v : Chan) : (s.setChan e v).ports = s.ports := rfl
@[simp] theorem State.setChan_windowsDiscarded (s : State) (e : Nat) (v : Chan) : (s.setChan e v).windowsDiscarded = s.windowsDiscarded := rfl
@[simp] theorem State.setChan_ampNow (s : State) (e : Nat) (v : Chan) : (s.setChan e v).ampNow = s.ampNow := rfl
@[simp] theorem State.setChan_ampNext (s : State) (e : Nat) (v : Chan) : (s.setChan e v).ampNext = s.ampNext := rfl
@[simp] theorem State.setChan_audit (s : State) (e : Nat) (v : Chan) : (s.setChan e v).audit = s.audit := rfl
@[simp] theorem State.setChan_hm6 (s : State) (e : Nat) (v : Chan) : (s.setChan e v).hm6 = s.hm6 := rfl
@[simp] theorem State.setChan_hm7 (s : State) (e : Nat) (v : Chan) : (s.setChan e v).hm7 = s.hm7 := rfl
@[simp] theorem State.setChan_keeper (s : State) (e : Nat) (v : Chan) : (s.setChan e v).keeper = s.keeper := rfl
@[simp] theorem State.setChan_cal (s : State) (e : Nat) (v : Chan) : (s.setChan e v).cal = s.cal := rfl
@[simp] theorem State.setChan_thermal (s : State) (e : Nat) (v : Chan) : (s.setChan e v).thermal = s.thermal := rfl
@[simp] theorem State.setChan_fans (s : State) (e : Nat) (v : Chan) : (s.setChan e v).fans = s.fans := rfl
@[simp] theorem State.setChan_hkc0 (s : State) (e : Nat) (v : Chan) : (s.setChan e v).hkc0 = s.hkc0 := rfl
@[simp] theorem State.setChan_hkc1 (s : State) (e : Nat) (v : Chan) : (s.setChan e v).hkc1 = s.hkc1 := rfl
@[simp] theorem State.setChan_rewriting (s : State) (e : Nat) (v : Chan) : (s.setChan e v).rewriting = s.rewriting := rfl
@[simp] theorem State.setChan_mem (s : State) (e : Nat) (v : Chan) : (s.setChan e v).mem = s.mem := rfl
@[simp] theorem State.setChan_ddr (s : State) (e : Nat) (v : Chan) : (s.setChan e v).ddr = s.ddr := rfl
@[simp] theorem State.setChan_banks (s : State) (e : Nat) (v : Chan) : (s.setChan e v).banks = s.banks := rfl
@[simp] theorem State.setChan_proof (s : State) (e : Nat) (v : Chan) : (s.setChan e v).proof = s.proof := rfl
@[simp] theorem State.setChan_matrix (s : State) (e : Nat) (v : Chan) : (s.setChan e v).matrix = s.matrix := rfl
@[simp] theorem State.setChan_mbx (s : State) (e : Nat) (v : Chan) : (s.setChan e v).mbx = s.mbx := rfl
@[simp] theorem State.setChan_aex (s : State) (e : Nat) (v : Chan) : (s.setChan e v).aex = s.aex := rfl
@[simp] theorem State.setChan_sessions (s : State) (e : Nat) (v : Chan) : (s.setChan e v).sessions = s.sessions := rfl
@[simp] theorem State.setChan_kept (s : State) (e : Nat) (v : Chan) : (s.setChan e v).kept = s.kept := rfl
@[simp] theorem State.setChan_spi (s : State) (e : Nat) (v : Chan) : (s.setChan e v).spi = s.spi := rfl
@[simp] theorem State.setChan_bar2Sleep (s : State) (e : Nat) (v : Chan) : (s.setChan e v).bar2Sleep = s.bar2Sleep := rfl
@[simp] theorem State.setChan_disp (s : State) (e : Nat) (v : Chan) : (s.setChan e v).disp = s.disp := rfl
@[simp] theorem State.setChan_gate0 (s : State) (e : Nat) (v : Chan) : (s.setChan e v).gate0 = s.gate0 := rfl
@[simp] theorem State.setChan_gate1 (s : State) (e : Nat) (v : Chan) : (s.setChan e v).gate1 = s.gate1 := rfl
@[simp] theorem State.setChan_queues (s : State) (e : Nat) (v : Chan) : (s.setChan e v).queues = s.queues := rfl
@[simp] theorem State.setChan_events (s : State) (e : Nat) (v : Chan) : (s.setChan e v).events = s.events := rfl
@[simp] theorem State.setChan_objs (s : State) (e : Nat) (v : Chan) : (s.setChan e v).objs = s.objs := rfl
@[simp] theorem State.setChan_blobs (s : State) (e : Nat) (v : Chan) : (s.setChan e v).blobs = s.blobs := rfl
@[simp] theorem State.setChan_regs (s : State) (e : Nat) (v : Chan) : (s.setChan e v).regs = s.regs := rfl
@[simp] theorem State.setChan_shadowRegs (s : State) (e : Nat) (v : Chan) : (s.setChan e v).shadowRegs = s.shadowRegs := rfl
@[simp] theorem State.setChan_live (s : State) (e : Nat) (v : Chan) : (s.setChan e v).live = s.live := rfl
@[simp] theorem State.setChan_reject (s : State) (e : Nat) (v : Chan) : (s.setChan e v).reject = s.reject := rfl
@[simp] theorem State.setChan_out (s : State) (e : Nat) (v : Chan) : (s.setChan e v).out = s.out := rfl
@[simp] theorem State.setChan_freeCtr (s : State) (e : Nat) (v : Chan) : (s.setChan e v).freeCtr = s.freeCtr := rfl

/-! ### setAux -/

@[simp] theorem State.setAux_pending (s : State) (a : Nat) (v : Aux) : (s.setAux a v).pending = s.pending := rfl
@[simp] theorem State.setAux_time (s : State) (a : Nat) (v : Aux) : (s.setAux a v).time = s.time := rfl
@[simp] theorem State.setAux_ptp0 (s : State) (a : Nat) (v : Aux) : (s.setAux a v).ptp0 = s.ptp0 := rfl
@[simp] theorem State.setAux_ptp1 (s : State) (a : Nat) (v : Aux) : (s.setAux a v).ptp1 = s.ptp1 := rfl
@[simp] theorem State.setAux_ptpSel (s : State) (a : Nat) (v : Aux) : (s.setAux a v).ptpSel = s.ptpSel := rfl
@[simp] theorem State.setAux_caps (s : State) (a : Nat) (v : Aux) : (s.setAux a v).caps = s.caps := rfl
@[simp] theorem State.setAux_beacons (s : State) (a : Nat) (v : Aux) : (s.setAux a v).beacons = s.beacons := rfl
@[simp] theorem State.setAux_forge (s : State) (a : Nat) (v : Aux) : (s.setAux a v).forge = s.forge := rfl
@[simp] theorem State.setAux_power (s : State) (a : Nat) (v : Aux) : (s.setAux a v).power = s.power := rfl
@[simp] theorem State.setAux_boot (s : State) (a : Nat) (v : Aux) : (s.setAux a v).boot = s.boot := rfl
@[simp] theorem State.setAux_life (s : State) (a : Nat) (v : Aux) : (s.setAux a v).life = s.life := rfl
@[simp] theorem State.setAux_genEpoch (s : State) (a : Nat) (v : Aux) : (s.setAux a v).genEpoch = s.genEpoch := rfl
@[simp] theorem State.setAux_genCount (s : State) (a : Nat) (v : Aux) : (s.setAux a v).genCount = s.genCount := rfl
@[simp] theorem State.setAux_digest (s : State) (a : Nat) (v : Aux) : (s.setAux a v).digest = s.digest := rfl
@[simp] theorem State.setAux_digests (s : State) (a : Nat) (v : Aux) : (s.setAux a v).digests = s.digests := rfl
@[simp] theorem State.setAux_active (s : State) (a : Nat) (v : Aux) : (s.setAux a v).active = s.active := rfl
@[simp] theorem State.setAux_image (s : State) (a : Nat) (v : Aux) : (s.setAux a v).image = s.image := rfl
@[simp] theorem State.setAux_legs (s : State) (a : Nat) (v : Aux) : (s.setAux a v).legs = s.legs := rfl
@[simp] theorem State.setAux_planner (s : State) (a : Nat) (v : Aux) : (s.setAux a v).planner = s.planner := rfl
@[simp] theorem State.setAux_batches (s : State) (a : Nat) (v : Aux) : (s.setAux a v).batches = s.batches := rfl
@[simp] theorem State.setAux_closed (s : State) (a : Nat) (v : Aux) : (s.setAux a v).closed = s.closed := rfl
@[simp] theorem State.setAux_nextBatch (s : State) (a : Nat) (v : Aux) : (s.setAux a v).nextBatch = s.nextBatch := rfl
@[simp] theorem State.setAux_lateBatches (s : State) (a : Nat) (v : Aux) : (s.setAux a v).lateBatches = s.lateBatches := rfl
@[simp] theorem State.setAux_commitCount (s : State) (a : Nat) (v : Aux) : (s.setAux a v).commitCount = s.commitCount := rfl
@[simp] theorem State.setAux_sched (s : State) (a : Nat) (v : Aux) : (s.setAux a v).sched = s.sched := rfl
@[simp] theorem State.setAux_cfgs (s : State) (a : Nat) (v : Aux) : (s.setAux a v).cfgs = s.cfgs := rfl
@[simp] theorem State.setAux_elems (s : State) (a : Nat) (v : Aux) : (s.setAux a v).elems = s.elems := rfl
@[simp] theorem State.setAux_loopsStarted (s : State) (a : Nat) (v : Aux) : (s.setAux a v).loopsStarted = s.loopsStarted := rfl
@[simp] theorem State.setAux_lateSkips (s : State) (a : Nat) (v : Aux) : (s.setAux a v).lateSkips = s.lateSkips := rfl
@[simp] theorem State.setAux_notches (s : State) (a : Nat) (v : Aux) : (s.setAux a v).notches = s.notches := rfl
@[simp] theorem State.setAux_lanesA (s : State) (a : Nat) (v : Aux) : (s.setAux a v).lanesA = s.lanesA := rfl
@[simp] theorem State.setAux_lanesB (s : State) (a : Nat) (v : Aux) : (s.setAux a v).lanesB = s.lanesB := rfl
@[simp] theorem State.setAux_chans (s : State) (a : Nat) (v : Aux) : (s.setAux a v).chans = s.chans := rfl
@[simp] theorem State.setAux_ladder (s : State) (a : Nat) (v : Aux) : (s.setAux a v).ladder = s.ladder := rfl
@[simp] theorem State.setAux_mismatchesCleared (s : State) (a : Nat) (v : Aux) : (s.setAux a v).mismatchesCleared = s.mismatchesCleared := rfl
@[simp] theorem State.setAux_clear (s : State) (a : Nat) (v : Aux) : (s.setAux a v).clear = s.clear := rfl
@[simp] theorem State.setAux_dets (s : State) (a : Nat) (v : Aux) : (s.setAux a v).dets = s.dets := rfl
@[simp] theorem State.setAux_buoys (s : State) (a : Nat) (v : Aux) : (s.setAux a v).buoys = s.buoys := rfl
@[simp] theorem State.setAux_ports (s : State) (a : Nat) (v : Aux) : (s.setAux a v).ports = s.ports := rfl
@[simp] theorem State.setAux_windowsDiscarded (s : State) (a : Nat) (v : Aux) : (s.setAux a v).windowsDiscarded = s.windowsDiscarded := rfl
@[simp] theorem State.setAux_ampNow (s : State) (a : Nat) (v : Aux) : (s.setAux a v).ampNow = s.ampNow := rfl
@[simp] theorem State.setAux_ampNext (s : State) (a : Nat) (v : Aux) : (s.setAux a v).ampNext = s.ampNext := rfl
@[simp] theorem State.setAux_audit (s : State) (a : Nat) (v : Aux) : (s.setAux a v).audit = s.audit := rfl
@[simp] theorem State.setAux_hm6 (s : State) (a : Nat) (v : Aux) : (s.setAux a v).hm6 = s.hm6 := rfl
@[simp] theorem State.setAux_hm7 (s : State) (a : Nat) (v : Aux) : (s.setAux a v).hm7 = s.hm7 := rfl
@[simp] theorem State.setAux_keeper (s : State) (a : Nat) (v : Aux) : (s.setAux a v).keeper = s.keeper := rfl
@[simp] theorem State.setAux_cal (s : State) (a : Nat) (v : Aux) : (s.setAux a v).cal = s.cal := rfl
@[simp] theorem State.setAux_thermal (s : State) (a : Nat) (v : Aux) : (s.setAux a v).thermal = s.thermal := rfl
@[simp] theorem State.setAux_fans (s : State) (a : Nat) (v : Aux) : (s.setAux a v).fans = s.fans := rfl
@[simp] theorem State.setAux_hkc0 (s : State) (a : Nat) (v : Aux) : (s.setAux a v).hkc0 = s.hkc0 := rfl
@[simp] theorem State.setAux_hkc1 (s : State) (a : Nat) (v : Aux) : (s.setAux a v).hkc1 = s.hkc1 := rfl
@[simp] theorem State.setAux_rewriting (s : State) (a : Nat) (v : Aux) : (s.setAux a v).rewriting = s.rewriting := rfl
@[simp] theorem State.setAux_mem (s : State) (a : Nat) (v : Aux) : (s.setAux a v).mem = s.mem := rfl
@[simp] theorem State.setAux_ddr (s : State) (a : Nat) (v : Aux) : (s.setAux a v).ddr = s.ddr := rfl
@[simp] theorem State.setAux_banks (s : State) (a : Nat) (v : Aux) : (s.setAux a v).banks = s.banks := rfl
@[simp] theorem State.setAux_proof (s : State) (a : Nat) (v : Aux) : (s.setAux a v).proof = s.proof := rfl
@[simp] theorem State.setAux_matrix (s : State) (a : Nat) (v : Aux) : (s.setAux a v).matrix = s.matrix := rfl
@[simp] theorem State.setAux_mbx (s : State) (a : Nat) (v : Aux) : (s.setAux a v).mbx = s.mbx := rfl
@[simp] theorem State.setAux_aex (s : State) (a : Nat) (v : Aux) : (s.setAux a v).aex = s.aex := rfl
@[simp] theorem State.setAux_sessions (s : State) (a : Nat) (v : Aux) : (s.setAux a v).sessions = s.sessions := rfl
@[simp] theorem State.setAux_kept (s : State) (a : Nat) (v : Aux) : (s.setAux a v).kept = s.kept := rfl
@[simp] theorem State.setAux_spi (s : State) (a : Nat) (v : Aux) : (s.setAux a v).spi = s.spi := rfl
@[simp] theorem State.setAux_bar2Sleep (s : State) (a : Nat) (v : Aux) : (s.setAux a v).bar2Sleep = s.bar2Sleep := rfl
@[simp] theorem State.setAux_disp (s : State) (a : Nat) (v : Aux) : (s.setAux a v).disp = s.disp := rfl
@[simp] theorem State.setAux_gate0 (s : State) (a : Nat) (v : Aux) : (s.setAux a v).gate0 = s.gate0 := rfl
@[simp] theorem State.setAux_gate1 (s : State) (a : Nat) (v : Aux) : (s.setAux a v).gate1 = s.gate1 := rfl
@[simp] theorem State.setAux_queues (s : State) (a : Nat) (v : Aux) : (s.setAux a v).queues = s.queues := rfl
@[simp] theorem State.setAux_events (s : State) (a : Nat) (v : Aux) : (s.setAux a v).events = s.events := rfl
@[simp] theorem State.setAux_objs (s : State) (a : Nat) (v : Aux) : (s.setAux a v).objs = s.objs := rfl
@[simp] theorem State.setAux_blobs (s : State) (a : Nat) (v : Aux) : (s.setAux a v).blobs = s.blobs := rfl
@[simp] theorem State.setAux_regs (s : State) (a : Nat) (v : Aux) : (s.setAux a v).regs = s.regs := rfl
@[simp] theorem State.setAux_shadowRegs (s : State) (a : Nat) (v : Aux) : (s.setAux a v).shadowRegs = s.shadowRegs := rfl
@[simp] theorem State.setAux_live (s : State) (a : Nat) (v : Aux) : (s.setAux a v).live = s.live := rfl
@[simp] theorem State.setAux_reject (s : State) (a : Nat) (v : Aux) : (s.setAux a v).reject = s.reject := rfl
@[simp] theorem State.setAux_out (s : State) (a : Nat) (v : Aux) : (s.setAux a v).out = s.out := rfl
@[simp] theorem State.setAux_freeCtr (s : State) (a : Nat) (v : Aux) : (s.setAux a v).freeCtr = s.freeCtr := rfl

/-! ### setQueue -/

@[simp] theorem State.setQueue_pending (s : State) (q : Nat) (v : EvQueue) : (s.setQueue q v).pending = s.pending := rfl
@[simp] theorem State.setQueue_time (s : State) (q : Nat) (v : EvQueue) : (s.setQueue q v).time = s.time := rfl
@[simp] theorem State.setQueue_ptp0 (s : State) (q : Nat) (v : EvQueue) : (s.setQueue q v).ptp0 = s.ptp0 := rfl
@[simp] theorem State.setQueue_ptp1 (s : State) (q : Nat) (v : EvQueue) : (s.setQueue q v).ptp1 = s.ptp1 := rfl
@[simp] theorem State.setQueue_ptpSel (s : State) (q : Nat) (v : EvQueue) : (s.setQueue q v).ptpSel = s.ptpSel := rfl
@[simp] theorem State.setQueue_caps (s : State) (q : Nat) (v : EvQueue) : (s.setQueue q v).caps = s.caps := rfl
@[simp] theorem State.setQueue_beacons (s : State) (q : Nat) (v : EvQueue) : (s.setQueue q v).beacons = s.beacons := rfl
@[simp] theorem State.setQueue_forge (s : State) (q : Nat) (v : EvQueue) : (s.setQueue q v).forge = s.forge := rfl
@[simp] theorem State.setQueue_power (s : State) (q : Nat) (v : EvQueue) : (s.setQueue q v).power = s.power := rfl
@[simp] theorem State.setQueue_boot (s : State) (q : Nat) (v : EvQueue) : (s.setQueue q v).boot = s.boot := rfl
@[simp] theorem State.setQueue_life (s : State) (q : Nat) (v : EvQueue) : (s.setQueue q v).life = s.life := rfl
@[simp] theorem State.setQueue_genEpoch (s : State) (q : Nat) (v : EvQueue) : (s.setQueue q v).genEpoch = s.genEpoch := rfl
@[simp] theorem State.setQueue_genCount (s : State) (q : Nat) (v : EvQueue) : (s.setQueue q v).genCount = s.genCount := rfl
@[simp] theorem State.setQueue_digest (s : State) (q : Nat) (v : EvQueue) : (s.setQueue q v).digest = s.digest := rfl
@[simp] theorem State.setQueue_digests (s : State) (q : Nat) (v : EvQueue) : (s.setQueue q v).digests = s.digests := rfl
@[simp] theorem State.setQueue_active (s : State) (q : Nat) (v : EvQueue) : (s.setQueue q v).active = s.active := rfl
@[simp] theorem State.setQueue_image (s : State) (q : Nat) (v : EvQueue) : (s.setQueue q v).image = s.image := rfl
@[simp] theorem State.setQueue_legs (s : State) (q : Nat) (v : EvQueue) : (s.setQueue q v).legs = s.legs := rfl
@[simp] theorem State.setQueue_planner (s : State) (q : Nat) (v : EvQueue) : (s.setQueue q v).planner = s.planner := rfl
@[simp] theorem State.setQueue_batches (s : State) (q : Nat) (v : EvQueue) : (s.setQueue q v).batches = s.batches := rfl
@[simp] theorem State.setQueue_closed (s : State) (q : Nat) (v : EvQueue) : (s.setQueue q v).closed = s.closed := rfl
@[simp] theorem State.setQueue_nextBatch (s : State) (q : Nat) (v : EvQueue) : (s.setQueue q v).nextBatch = s.nextBatch := rfl
@[simp] theorem State.setQueue_lateBatches (s : State) (q : Nat) (v : EvQueue) : (s.setQueue q v).lateBatches = s.lateBatches := rfl
@[simp] theorem State.setQueue_commitCount (s : State) (q : Nat) (v : EvQueue) : (s.setQueue q v).commitCount = s.commitCount := rfl
@[simp] theorem State.setQueue_sched (s : State) (q : Nat) (v : EvQueue) : (s.setQueue q v).sched = s.sched := rfl
@[simp] theorem State.setQueue_cfgs (s : State) (q : Nat) (v : EvQueue) : (s.setQueue q v).cfgs = s.cfgs := rfl
@[simp] theorem State.setQueue_elems (s : State) (q : Nat) (v : EvQueue) : (s.setQueue q v).elems = s.elems := rfl
@[simp] theorem State.setQueue_loopsStarted (s : State) (q : Nat) (v : EvQueue) : (s.setQueue q v).loopsStarted = s.loopsStarted := rfl
@[simp] theorem State.setQueue_lateSkips (s : State) (q : Nat) (v : EvQueue) : (s.setQueue q v).lateSkips = s.lateSkips := rfl
@[simp] theorem State.setQueue_notches (s : State) (q : Nat) (v : EvQueue) : (s.setQueue q v).notches = s.notches := rfl
@[simp] theorem State.setQueue_lanesA (s : State) (q : Nat) (v : EvQueue) : (s.setQueue q v).lanesA = s.lanesA := rfl
@[simp] theorem State.setQueue_lanesB (s : State) (q : Nat) (v : EvQueue) : (s.setQueue q v).lanesB = s.lanesB := rfl
@[simp] theorem State.setQueue_chans (s : State) (q : Nat) (v : EvQueue) : (s.setQueue q v).chans = s.chans := rfl
@[simp] theorem State.setQueue_ladder (s : State) (q : Nat) (v : EvQueue) : (s.setQueue q v).ladder = s.ladder := rfl
@[simp] theorem State.setQueue_mismatchesCleared (s : State) (q : Nat) (v : EvQueue) : (s.setQueue q v).mismatchesCleared = s.mismatchesCleared := rfl
@[simp] theorem State.setQueue_clear (s : State) (q : Nat) (v : EvQueue) : (s.setQueue q v).clear = s.clear := rfl
@[simp] theorem State.setQueue_aux (s : State) (q : Nat) (v : EvQueue) : (s.setQueue q v).aux = s.aux := rfl
@[simp] theorem State.setQueue_dets (s : State) (q : Nat) (v : EvQueue) : (s.setQueue q v).dets = s.dets := rfl
@[simp] theorem State.setQueue_buoys (s : State) (q : Nat) (v : EvQueue) : (s.setQueue q v).buoys = s.buoys := rfl
@[simp] theorem State.setQueue_ports (s : State) (q : Nat) (v : EvQueue) : (s.setQueue q v).ports = s.ports := rfl
@[simp] theorem State.setQueue_windowsDiscarded (s : State) (q : Nat) (v : EvQueue) : (s.setQueue q v).windowsDiscarded = s.windowsDiscarded := rfl
@[simp] theorem State.setQueue_ampNow (s : State) (q : Nat) (v : EvQueue) : (s.setQueue q v).ampNow = s.ampNow := rfl
@[simp] theorem State.setQueue_ampNext (s : State) (q : Nat) (v : EvQueue) : (s.setQueue q v).ampNext = s.ampNext := rfl
@[simp] theorem State.setQueue_audit (s : State) (q : Nat) (v : EvQueue) : (s.setQueue q v).audit = s.audit := rfl
@[simp] theorem State.setQueue_hm6 (s : State) (q : Nat) (v : EvQueue) : (s.setQueue q v).hm6 = s.hm6 := rfl
@[simp] theorem State.setQueue_hm7 (s : State) (q : Nat) (v : EvQueue) : (s.setQueue q v).hm7 = s.hm7 := rfl
@[simp] theorem State.setQueue_keeper (s : State) (q : Nat) (v : EvQueue) : (s.setQueue q v).keeper = s.keeper := rfl
@[simp] theorem State.setQueue_cal (s : State) (q : Nat) (v : EvQueue) : (s.setQueue q v).cal = s.cal := rfl
@[simp] theorem State.setQueue_thermal (s : State) (q : Nat) (v : EvQueue) : (s.setQueue q v).thermal = s.thermal := rfl
@[simp] theorem State.setQueue_fans (s : State) (q : Nat) (v : EvQueue) : (s.setQueue q v).fans = s.fans := rfl
@[simp] theorem State.setQueue_hkc0 (s : State) (q : Nat) (v : EvQueue) : (s.setQueue q v).hkc0 = s.hkc0 := rfl
@[simp] theorem State.setQueue_hkc1 (s : State) (q : Nat) (v : EvQueue) : (s.setQueue q v).hkc1 = s.hkc1 := rfl
@[simp] theorem State.setQueue_rewriting (s : State) (q : Nat) (v : EvQueue) : (s.setQueue q v).rewriting = s.rewriting := rfl
@[simp] theorem State.setQueue_mem (s : State) (q : Nat) (v : EvQueue) : (s.setQueue q v).mem = s.mem := rfl
@[simp] theorem State.setQueue_ddr (s : State) (q : Nat) (v : EvQueue) : (s.setQueue q v).ddr = s.ddr := rfl
@[simp] theorem State.setQueue_banks (s : State) (q : Nat) (v : EvQueue) : (s.setQueue q v).banks = s.banks := rfl
@[simp] theorem State.setQueue_proof (s : State) (q : Nat) (v : EvQueue) : (s.setQueue q v).proof = s.proof := rfl
@[simp] theorem State.setQueue_matrix (s : State) (q : Nat) (v : EvQueue) : (s.setQueue q v).matrix = s.matrix := rfl
@[simp] theorem State.setQueue_mbx (s : State) (q : Nat) (v : EvQueue) : (s.setQueue q v).mbx = s.mbx := rfl
@[simp] theorem State.setQueue_aex (s : State) (q : Nat) (v : EvQueue) : (s.setQueue q v).aex = s.aex := rfl
@[simp] theorem State.setQueue_sessions (s : State) (q : Nat) (v : EvQueue) : (s.setQueue q v).sessions = s.sessions := rfl
@[simp] theorem State.setQueue_kept (s : State) (q : Nat) (v : EvQueue) : (s.setQueue q v).kept = s.kept := rfl
@[simp] theorem State.setQueue_spi (s : State) (q : Nat) (v : EvQueue) : (s.setQueue q v).spi = s.spi := rfl
@[simp] theorem State.setQueue_bar2Sleep (s : State) (q : Nat) (v : EvQueue) : (s.setQueue q v).bar2Sleep = s.bar2Sleep := rfl
@[simp] theorem State.setQueue_disp (s : State) (q : Nat) (v : EvQueue) : (s.setQueue q v).disp = s.disp := rfl
@[simp] theorem State.setQueue_gate0 (s : State) (q : Nat) (v : EvQueue) : (s.setQueue q v).gate0 = s.gate0 := rfl
@[simp] theorem State.setQueue_gate1 (s : State) (q : Nat) (v : EvQueue) : (s.setQueue q v).gate1 = s.gate1 := rfl
@[simp] theorem State.setQueue_events (s : State) (q : Nat) (v : EvQueue) : (s.setQueue q v).events = s.events := rfl
@[simp] theorem State.setQueue_objs (s : State) (q : Nat) (v : EvQueue) : (s.setQueue q v).objs = s.objs := rfl
@[simp] theorem State.setQueue_blobs (s : State) (q : Nat) (v : EvQueue) : (s.setQueue q v).blobs = s.blobs := rfl
@[simp] theorem State.setQueue_regs (s : State) (q : Nat) (v : EvQueue) : (s.setQueue q v).regs = s.regs := rfl
@[simp] theorem State.setQueue_shadowRegs (s : State) (q : Nat) (v : EvQueue) : (s.setQueue q v).shadowRegs = s.shadowRegs := rfl
@[simp] theorem State.setQueue_live (s : State) (q : Nat) (v : EvQueue) : (s.setQueue q v).live = s.live := rfl
@[simp] theorem State.setQueue_reject (s : State) (q : Nat) (v : EvQueue) : (s.setQueue q v).reject = s.reject := rfl
@[simp] theorem State.setQueue_out (s : State) (q : Nat) (v : EvQueue) : (s.setQueue q v).out = s.out := rfl
@[simp] theorem State.setQueue_freeCtr (s : State) (q : Nat) (v : EvQueue) : (s.setQueue q v).freeCtr = s.freeCtr := rfl

/-! ### setHm -/

@[simp] theorem State.setHm_pending (s : State) (c : Nat) (v : HmChan) : (s.setHm c v).pending = s.pending := rfl
@[simp] theorem State.setHm_time (s : State) (c : Nat) (v : HmChan) : (s.setHm c v).time = s.time := rfl
@[simp] theorem State.setHm_ptp0 (s : State) (c : Nat) (v : HmChan) : (s.setHm c v).ptp0 = s.ptp0 := rfl
@[simp] theorem State.setHm_ptp1 (s : State) (c : Nat) (v : HmChan) : (s.setHm c v).ptp1 = s.ptp1 := rfl
@[simp] theorem State.setHm_ptpSel (s : State) (c : Nat) (v : HmChan) : (s.setHm c v).ptpSel = s.ptpSel := rfl
@[simp] theorem State.setHm_caps (s : State) (c : Nat) (v : HmChan) : (s.setHm c v).caps = s.caps := rfl
@[simp] theorem State.setHm_beacons (s : State) (c : Nat) (v : HmChan) : (s.setHm c v).beacons = s.beacons := rfl
@[simp] theorem State.setHm_forge (s : State) (c : Nat) (v : HmChan) : (s.setHm c v).forge = s.forge := rfl
@[simp] theorem State.setHm_power (s : State) (c : Nat) (v : HmChan) : (s.setHm c v).power = s.power := rfl
@[simp] theorem State.setHm_boot (s : State) (c : Nat) (v : HmChan) : (s.setHm c v).boot = s.boot := rfl
@[simp] theorem State.setHm_life (s : State) (c : Nat) (v : HmChan) : (s.setHm c v).life = s.life := rfl
@[simp] theorem State.setHm_genEpoch (s : State) (c : Nat) (v : HmChan) : (s.setHm c v).genEpoch = s.genEpoch := rfl
@[simp] theorem State.setHm_genCount (s : State) (c : Nat) (v : HmChan) : (s.setHm c v).genCount = s.genCount := rfl
@[simp] theorem State.setHm_digest (s : State) (c : Nat) (v : HmChan) : (s.setHm c v).digest = s.digest := rfl
@[simp] theorem State.setHm_digests (s : State) (c : Nat) (v : HmChan) : (s.setHm c v).digests = s.digests := rfl
@[simp] theorem State.setHm_active (s : State) (c : Nat) (v : HmChan) : (s.setHm c v).active = s.active := rfl
@[simp] theorem State.setHm_image (s : State) (c : Nat) (v : HmChan) : (s.setHm c v).image = s.image := rfl
@[simp] theorem State.setHm_legs (s : State) (c : Nat) (v : HmChan) : (s.setHm c v).legs = s.legs := rfl
@[simp] theorem State.setHm_planner (s : State) (c : Nat) (v : HmChan) : (s.setHm c v).planner = s.planner := rfl
@[simp] theorem State.setHm_batches (s : State) (c : Nat) (v : HmChan) : (s.setHm c v).batches = s.batches := rfl
@[simp] theorem State.setHm_closed (s : State) (c : Nat) (v : HmChan) : (s.setHm c v).closed = s.closed := rfl
@[simp] theorem State.setHm_nextBatch (s : State) (c : Nat) (v : HmChan) : (s.setHm c v).nextBatch = s.nextBatch := rfl
@[simp] theorem State.setHm_lateBatches (s : State) (c : Nat) (v : HmChan) : (s.setHm c v).lateBatches = s.lateBatches := rfl
@[simp] theorem State.setHm_commitCount (s : State) (c : Nat) (v : HmChan) : (s.setHm c v).commitCount = s.commitCount := rfl
@[simp] theorem State.setHm_sched (s : State) (c : Nat) (v : HmChan) : (s.setHm c v).sched = s.sched := rfl
@[simp] theorem State.setHm_cfgs (s : State) (c : Nat) (v : HmChan) : (s.setHm c v).cfgs = s.cfgs := rfl
@[simp] theorem State.setHm_elems (s : State) (c : Nat) (v : HmChan) : (s.setHm c v).elems = s.elems := rfl
@[simp] theorem State.setHm_loopsStarted (s : State) (c : Nat) (v : HmChan) : (s.setHm c v).loopsStarted = s.loopsStarted := rfl
@[simp] theorem State.setHm_lateSkips (s : State) (c : Nat) (v : HmChan) : (s.setHm c v).lateSkips = s.lateSkips := rfl
@[simp] theorem State.setHm_notches (s : State) (c : Nat) (v : HmChan) : (s.setHm c v).notches = s.notches := rfl
@[simp] theorem State.setHm_lanesA (s : State) (c : Nat) (v : HmChan) : (s.setHm c v).lanesA = s.lanesA := rfl
@[simp] theorem State.setHm_lanesB (s : State) (c : Nat) (v : HmChan) : (s.setHm c v).lanesB = s.lanesB := rfl
@[simp] theorem State.setHm_chans (s : State) (c : Nat) (v : HmChan) : (s.setHm c v).chans = s.chans := rfl
@[simp] theorem State.setHm_ladder (s : State) (c : Nat) (v : HmChan) : (s.setHm c v).ladder = s.ladder := rfl
@[simp] theorem State.setHm_mismatchesCleared (s : State) (c : Nat) (v : HmChan) : (s.setHm c v).mismatchesCleared = s.mismatchesCleared := rfl
@[simp] theorem State.setHm_clear (s : State) (c : Nat) (v : HmChan) : (s.setHm c v).clear = s.clear := rfl
@[simp] theorem State.setHm_aux (s : State) (c : Nat) (v : HmChan) : (s.setHm c v).aux = s.aux := rfl
@[simp] theorem State.setHm_dets (s : State) (c : Nat) (v : HmChan) : (s.setHm c v).dets = s.dets := rfl
@[simp] theorem State.setHm_buoys (s : State) (c : Nat) (v : HmChan) : (s.setHm c v).buoys = s.buoys := rfl
@[simp] theorem State.setHm_ports (s : State) (c : Nat) (v : HmChan) : (s.setHm c v).ports = s.ports := rfl
@[simp] theorem State.setHm_windowsDiscarded (s : State) (c : Nat) (v : HmChan) : (s.setHm c v).windowsDiscarded = s.windowsDiscarded := rfl
@[simp] theorem State.setHm_ampNow (s : State) (c : Nat) (v : HmChan) : (s.setHm c v).ampNow = s.ampNow := rfl
@[simp] theorem State.setHm_ampNext (s : State) (c : Nat) (v : HmChan) : (s.setHm c v).ampNext = s.ampNext := rfl
@[simp] theorem State.setHm_audit (s : State) (c : Nat) (v : HmChan) : (s.setHm c v).audit = s.audit := rfl
@[simp] theorem State.setHm_keeper (s : State) (c : Nat) (v : HmChan) : (s.setHm c v).keeper = s.keeper := rfl
@[simp] theorem State.setHm_cal (s : State) (c : Nat) (v : HmChan) : (s.setHm c v).cal = s.cal := rfl
@[simp] theorem State.setHm_thermal (s : State) (c : Nat) (v : HmChan) : (s.setHm c v).thermal = s.thermal := rfl
@[simp] theorem State.setHm_fans (s : State) (c : Nat) (v : HmChan) : (s.setHm c v).fans = s.fans := rfl
@[simp] theorem State.setHm_hkc0 (s : State) (c : Nat) (v : HmChan) : (s.setHm c v).hkc0 = s.hkc0 := rfl
@[simp] theorem State.setHm_hkc1 (s : State) (c : Nat) (v : HmChan) : (s.setHm c v).hkc1 = s.hkc1 := rfl
@[simp] theorem State.setHm_rewriting (s : State) (c : Nat) (v : HmChan) : (s.setHm c v).rewriting = s.rewriting := rfl
@[simp] theorem State.setHm_mem (s : State) (c : Nat) (v : HmChan) : (s.setHm c v).mem = s.mem := rfl
@[simp] theorem State.setHm_ddr (s : State) (c : Nat) (v : HmChan) : (s.setHm c v).ddr = s.ddr := rfl
@[simp] theorem State.setHm_banks (s : State) (c : Nat) (v : HmChan) : (s.setHm c v).banks = s.banks := rfl
@[simp] theorem State.setHm_proof (s : State) (c : Nat) (v : HmChan) : (s.setHm c v).proof = s.proof := rfl
@[simp] theorem State.setHm_matrix (s : State) (c : Nat) (v : HmChan) : (s.setHm c v).matrix = s.matrix := rfl
@[simp] theorem State.setHm_mbx (s : State) (c : Nat) (v : HmChan) : (s.setHm c v).mbx = s.mbx := rfl
@[simp] theorem State.setHm_aex (s : State) (c : Nat) (v : HmChan) : (s.setHm c v).aex = s.aex := rfl
@[simp] theorem State.setHm_sessions (s : State) (c : Nat) (v : HmChan) : (s.setHm c v).sessions = s.sessions := rfl
@[simp] theorem State.setHm_kept (s : State) (c : Nat) (v : HmChan) : (s.setHm c v).kept = s.kept := rfl
@[simp] theorem State.setHm_spi (s : State) (c : Nat) (v : HmChan) : (s.setHm c v).spi = s.spi := rfl
@[simp] theorem State.setHm_bar2Sleep (s : State) (c : Nat) (v : HmChan) : (s.setHm c v).bar2Sleep = s.bar2Sleep := rfl
@[simp] theorem State.setHm_disp (s : State) (c : Nat) (v : HmChan) : (s.setHm c v).disp = s.disp := rfl
@[simp] theorem State.setHm_gate0 (s : State) (c : Nat) (v : HmChan) : (s.setHm c v).gate0 = s.gate0 := rfl
@[simp] theorem State.setHm_gate1 (s : State) (c : Nat) (v : HmChan) : (s.setHm c v).gate1 = s.gate1 := rfl
@[simp] theorem State.setHm_queues (s : State) (c : Nat) (v : HmChan) : (s.setHm c v).queues = s.queues := rfl
@[simp] theorem State.setHm_events (s : State) (c : Nat) (v : HmChan) : (s.setHm c v).events = s.events := rfl
@[simp] theorem State.setHm_objs (s : State) (c : Nat) (v : HmChan) : (s.setHm c v).objs = s.objs := rfl
@[simp] theorem State.setHm_blobs (s : State) (c : Nat) (v : HmChan) : (s.setHm c v).blobs = s.blobs := rfl
@[simp] theorem State.setHm_regs (s : State) (c : Nat) (v : HmChan) : (s.setHm c v).regs = s.regs := rfl
@[simp] theorem State.setHm_shadowRegs (s : State) (c : Nat) (v : HmChan) : (s.setHm c v).shadowRegs = s.shadowRegs := rfl
@[simp] theorem State.setHm_live (s : State) (c : Nat) (v : HmChan) : (s.setHm c v).live = s.live := rfl
@[simp] theorem State.setHm_reject (s : State) (c : Nat) (v : HmChan) : (s.setHm c v).reject = s.reject := rfl
@[simp] theorem State.setHm_out (s : State) (c : Nat) (v : HmChan) : (s.setHm c v).out = s.out := rfl
@[simp] theorem State.setHm_freeCtr (s : State) (c : Nat) (v : HmChan) : (s.setHm c v).freeCtr = s.freeCtr := rfl

/-! ### setSession -/

@[simp] theorem State.setSession_pending (s : State) (n : Nat) (x : Session) : (s.setSession n x).pending = s.pending := rfl
@[simp] theorem State.setSession_time (s : State) (n : Nat) (x : Session) : (s.setSession n x).time = s.time := rfl
@[simp] theorem State.setSession_ptp0 (s : State) (n : Nat) (x : Session) : (s.setSession n x).ptp0 = s.ptp0 := rfl
@[simp] theorem State.setSession_ptp1 (s : State) (n : Nat) (x : Session) : (s.setSession n x).ptp1 = s.ptp1 := rfl
@[simp] theorem State.setSession_ptpSel (s : State) (n : Nat) (x : Session) : (s.setSession n x).ptpSel = s.ptpSel := rfl
@[simp] theorem State.setSession_caps (s : State) (n : Nat) (x : Session) : (s.setSession n x).caps = s.caps := rfl
@[simp] theorem State.setSession_beacons (s : State) (n : Nat) (x : Session) : (s.setSession n x).beacons = s.beacons := rfl
@[simp] theorem State.setSession_forge (s : State) (n : Nat) (x : Session) : (s.setSession n x).forge = s.forge := rfl
@[simp] theorem State.setSession_power (s : State) (n : Nat) (x : Session) : (s.setSession n x).power = s.power := rfl
@[simp] theorem State.setSession_boot (s : State) (n : Nat) (x : Session) : (s.setSession n x).boot = s.boot := rfl
@[simp] theorem State.setSession_life (s : State) (n : Nat) (x : Session) : (s.setSession n x).life = s.life := rfl
@[simp] theorem State.setSession_genEpoch (s : State) (n : Nat) (x : Session) : (s.setSession n x).genEpoch = s.genEpoch := rfl
@[simp] theorem State.setSession_genCount (s : State) (n : Nat) (x : Session) : (s.setSession n x).genCount = s.genCount := rfl
@[simp] theorem State.setSession_digest (s : State) (n : Nat) (x : Session) : (s.setSession n x).digest = s.digest := rfl
@[simp] theorem State.setSession_digests (s : State) (n : Nat) (x : Session) : (s.setSession n x).digests = s.digests := rfl
@[simp] theorem State.setSession_active (s : State) (n : Nat) (x : Session) : (s.setSession n x).active = s.active := rfl
@[simp] theorem State.setSession_image (s : State) (n : Nat) (x : Session) : (s.setSession n x).image = s.image := rfl
@[simp] theorem State.setSession_legs (s : State) (n : Nat) (x : Session) : (s.setSession n x).legs = s.legs := rfl
@[simp] theorem State.setSession_planner (s : State) (n : Nat) (x : Session) : (s.setSession n x).planner = s.planner := rfl
@[simp] theorem State.setSession_batches (s : State) (n : Nat) (x : Session) : (s.setSession n x).batches = s.batches := rfl
@[simp] theorem State.setSession_closed (s : State) (n : Nat) (x : Session) : (s.setSession n x).closed = s.closed := rfl
@[simp] theorem State.setSession_nextBatch (s : State) (n : Nat) (x : Session) : (s.setSession n x).nextBatch = s.nextBatch := rfl
@[simp] theorem State.setSession_lateBatches (s : State) (n : Nat) (x : Session) : (s.setSession n x).lateBatches = s.lateBatches := rfl
@[simp] theorem State.setSession_commitCount (s : State) (n : Nat) (x : Session) : (s.setSession n x).commitCount = s.commitCount := rfl
@[simp] theorem State.setSession_sched (s : State) (n : Nat) (x : Session) : (s.setSession n x).sched = s.sched := rfl
@[simp] theorem State.setSession_cfgs (s : State) (n : Nat) (x : Session) : (s.setSession n x).cfgs = s.cfgs := rfl
@[simp] theorem State.setSession_elems (s : State) (n : Nat) (x : Session) : (s.setSession n x).elems = s.elems := rfl
@[simp] theorem State.setSession_loopsStarted (s : State) (n : Nat) (x : Session) : (s.setSession n x).loopsStarted = s.loopsStarted := rfl
@[simp] theorem State.setSession_lateSkips (s : State) (n : Nat) (x : Session) : (s.setSession n x).lateSkips = s.lateSkips := rfl
@[simp] theorem State.setSession_notches (s : State) (n : Nat) (x : Session) : (s.setSession n x).notches = s.notches := rfl
@[simp] theorem State.setSession_lanesA (s : State) (n : Nat) (x : Session) : (s.setSession n x).lanesA = s.lanesA := rfl
@[simp] theorem State.setSession_lanesB (s : State) (n : Nat) (x : Session) : (s.setSession n x).lanesB = s.lanesB := rfl
@[simp] theorem State.setSession_chans (s : State) (n : Nat) (x : Session) : (s.setSession n x).chans = s.chans := rfl
@[simp] theorem State.setSession_ladder (s : State) (n : Nat) (x : Session) : (s.setSession n x).ladder = s.ladder := rfl
@[simp] theorem State.setSession_mismatchesCleared (s : State) (n : Nat) (x : Session) : (s.setSession n x).mismatchesCleared = s.mismatchesCleared := rfl
@[simp] theorem State.setSession_clear (s : State) (n : Nat) (x : Session) : (s.setSession n x).clear = s.clear := rfl
@[simp] theorem State.setSession_aux (s : State) (n : Nat) (x : Session) : (s.setSession n x).aux = s.aux := rfl
@[simp] theorem State.setSession_dets (s : State) (n : Nat) (x : Session) : (s.setSession n x).dets = s.dets := rfl
@[simp] theorem State.setSession_buoys (s : State) (n : Nat) (x : Session) : (s.setSession n x).buoys = s.buoys := rfl
@[simp] theorem State.setSession_ports (s : State) (n : Nat) (x : Session) : (s.setSession n x).ports = s.ports := rfl
@[simp] theorem State.setSession_windowsDiscarded (s : State) (n : Nat) (x : Session) : (s.setSession n x).windowsDiscarded = s.windowsDiscarded := rfl
@[simp] theorem State.setSession_ampNow (s : State) (n : Nat) (x : Session) : (s.setSession n x).ampNow = s.ampNow := rfl
@[simp] theorem State.setSession_ampNext (s : State) (n : Nat) (x : Session) : (s.setSession n x).ampNext = s.ampNext := rfl
@[simp] theorem State.setSession_audit (s : State) (n : Nat) (x : Session) : (s.setSession n x).audit = s.audit := rfl
@[simp] theorem State.setSession_hm6 (s : State) (n : Nat) (x : Session) : (s.setSession n x).hm6 = s.hm6 := rfl
@[simp] theorem State.setSession_hm7 (s : State) (n : Nat) (x : Session) : (s.setSession n x).hm7 = s.hm7 := rfl
@[simp] theorem State.setSession_keeper (s : State) (n : Nat) (x : Session) : (s.setSession n x).keeper = s.keeper := rfl
@[simp] theorem State.setSession_cal (s : State) (n : Nat) (x : Session) : (s.setSession n x).cal = s.cal := rfl
@[simp] theorem State.setSession_thermal (s : State) (n : Nat) (x : Session) : (s.setSession n x).thermal = s.thermal := rfl
@[simp] theorem State.setSession_fans (s : State) (n : Nat) (x : Session) : (s.setSession n x).fans = s.fans := rfl
@[simp] theorem State.setSession_hkc0 (s : State) (n : Nat) (x : Session) : (s.setSession n x).hkc0 = s.hkc0 := rfl
@[simp] theorem State.setSession_hkc1 (s : State) (n : Nat) (x : Session) : (s.setSession n x).hkc1 = s.hkc1 := rfl
@[simp] theorem State.setSession_rewriting (s : State) (n : Nat) (x : Session) : (s.setSession n x).rewriting = s.rewriting := rfl
@[simp] theorem State.setSession_mem (s : State) (n : Nat) (x : Session) : (s.setSession n x).mem = s.mem := rfl
@[simp] theorem State.setSession_ddr (s : State) (n : Nat) (x : Session) : (s.setSession n x).ddr = s.ddr := rfl
@[simp] theorem State.setSession_banks (s : State) (n : Nat) (x : Session) : (s.setSession n x).banks = s.banks := rfl
@[simp] theorem State.setSession_proof (s : State) (n : Nat) (x : Session) : (s.setSession n x).proof = s.proof := rfl
@[simp] theorem State.setSession_matrix (s : State) (n : Nat) (x : Session) : (s.setSession n x).matrix = s.matrix := rfl
@[simp] theorem State.setSession_mbx (s : State) (n : Nat) (x : Session) : (s.setSession n x).mbx = s.mbx := rfl
@[simp] theorem State.setSession_aex (s : State) (n : Nat) (x : Session) : (s.setSession n x).aex = s.aex := rfl
@[simp] theorem State.setSession_kept (s : State) (n : Nat) (x : Session) : (s.setSession n x).kept = s.kept := rfl
@[simp] theorem State.setSession_spi (s : State) (n : Nat) (x : Session) : (s.setSession n x).spi = s.spi := rfl
@[simp] theorem State.setSession_bar2Sleep (s : State) (n : Nat) (x : Session) : (s.setSession n x).bar2Sleep = s.bar2Sleep := rfl
@[simp] theorem State.setSession_disp (s : State) (n : Nat) (x : Session) : (s.setSession n x).disp = s.disp := rfl
@[simp] theorem State.setSession_gate0 (s : State) (n : Nat) (x : Session) : (s.setSession n x).gate0 = s.gate0 := rfl
@[simp] theorem State.setSession_gate1 (s : State) (n : Nat) (x : Session) : (s.setSession n x).gate1 = s.gate1 := rfl
@[simp] theorem State.setSession_queues (s : State) (n : Nat) (x : Session) : (s.setSession n x).queues = s.queues := rfl
@[simp] theorem State.setSession_events (s : State) (n : Nat) (x : Session) : (s.setSession n x).events = s.events := rfl
@[simp] theorem State.setSession_objs (s : State) (n : Nat) (x : Session) : (s.setSession n x).objs = s.objs := rfl
@[simp] theorem State.setSession_blobs (s : State) (n : Nat) (x : Session) : (s.setSession n x).blobs = s.blobs := rfl
@[simp] theorem State.setSession_regs (s : State) (n : Nat) (x : Session) : (s.setSession n x).regs = s.regs := rfl
@[simp] theorem State.setSession_shadowRegs (s : State) (n : Nat) (x : Session) : (s.setSession n x).shadowRegs = s.shadowRegs := rfl
@[simp] theorem State.setSession_live (s : State) (n : Nat) (x : Session) : (s.setSession n x).live = s.live := rfl
@[simp] theorem State.setSession_reject (s : State) (n : Nat) (x : Session) : (s.setSession n x).reject = s.reject := rfl
@[simp] theorem State.setSession_out (s : State) (n : Nat) (x : Session) : (s.setSession n x).out = s.out := rfl
@[simp] theorem State.setSession_freeCtr (s : State) (n : Nat) (x : Session) : (s.setSession n x).freeCtr = s.freeCtr := rfl

/-! ### setGate -/

@[simp] theorem State.setGate_pending (s : State) (p : Nat) (g : Gate) : (s.setGate p g).pending = s.pending := rfl
@[simp] theorem State.setGate_time (s : State) (p : Nat) (g : Gate) : (s.setGate p g).time = s.time := rfl
@[simp] theorem State.setGate_ptp0 (s : State) (p : Nat) (g : Gate) : (s.setGate p g).ptp0 = s.ptp0 := rfl
@[simp] theorem State.setGate_ptp1 (s : State) (p : Nat) (g : Gate) : (s.setGate p g).ptp1 = s.ptp1 := rfl
@[simp] theorem State.setGate_ptpSel (s : State) (p : Nat) (g : Gate) : (s.setGate p g).ptpSel = s.ptpSel := rfl
@[simp] theorem State.setGate_caps (s : State) (p : Nat) (g : Gate) : (s.setGate p g).caps = s.caps := rfl
@[simp] theorem State.setGate_beacons (s : State) (p : Nat) (g : Gate) : (s.setGate p g).beacons = s.beacons := rfl
@[simp] theorem State.setGate_forge (s : State) (p : Nat) (g : Gate) : (s.setGate p g).forge = s.forge := rfl
@[simp] theorem State.setGate_power (s : State) (p : Nat) (g : Gate) : (s.setGate p g).power = s.power := rfl
@[simp] theorem State.setGate_boot (s : State) (p : Nat) (g : Gate) : (s.setGate p g).boot = s.boot := rfl
@[simp] theorem State.setGate_life (s : State) (p : Nat) (g : Gate) : (s.setGate p g).life = s.life := rfl
@[simp] theorem State.setGate_genEpoch (s : State) (p : Nat) (g : Gate) : (s.setGate p g).genEpoch = s.genEpoch := rfl
@[simp] theorem State.setGate_genCount (s : State) (p : Nat) (g : Gate) : (s.setGate p g).genCount = s.genCount := rfl
@[simp] theorem State.setGate_digest (s : State) (p : Nat) (g : Gate) : (s.setGate p g).digest = s.digest := rfl
@[simp] theorem State.setGate_digests (s : State) (p : Nat) (g : Gate) : (s.setGate p g).digests = s.digests := rfl
@[simp] theorem State.setGate_active (s : State) (p : Nat) (g : Gate) : (s.setGate p g).active = s.active := rfl
@[simp] theorem State.setGate_image (s : State) (p : Nat) (g : Gate) : (s.setGate p g).image = s.image := rfl
@[simp] theorem State.setGate_legs (s : State) (p : Nat) (g : Gate) : (s.setGate p g).legs = s.legs := rfl
@[simp] theorem State.setGate_planner (s : State) (p : Nat) (g : Gate) : (s.setGate p g).planner = s.planner := rfl
@[simp] theorem State.setGate_batches (s : State) (p : Nat) (g : Gate) : (s.setGate p g).batches = s.batches := rfl
@[simp] theorem State.setGate_closed (s : State) (p : Nat) (g : Gate) : (s.setGate p g).closed = s.closed := rfl
@[simp] theorem State.setGate_nextBatch (s : State) (p : Nat) (g : Gate) : (s.setGate p g).nextBatch = s.nextBatch := rfl
@[simp] theorem State.setGate_lateBatches (s : State) (p : Nat) (g : Gate) : (s.setGate p g).lateBatches = s.lateBatches := rfl
@[simp] theorem State.setGate_commitCount (s : State) (p : Nat) (g : Gate) : (s.setGate p g).commitCount = s.commitCount := rfl
@[simp] theorem State.setGate_sched (s : State) (p : Nat) (g : Gate) : (s.setGate p g).sched = s.sched := rfl
@[simp] theorem State.setGate_cfgs (s : State) (p : Nat) (g : Gate) : (s.setGate p g).cfgs = s.cfgs := rfl
@[simp] theorem State.setGate_elems (s : State) (p : Nat) (g : Gate) : (s.setGate p g).elems = s.elems := rfl
@[simp] theorem State.setGate_loopsStarted (s : State) (p : Nat) (g : Gate) : (s.setGate p g).loopsStarted = s.loopsStarted := rfl
@[simp] theorem State.setGate_lateSkips (s : State) (p : Nat) (g : Gate) : (s.setGate p g).lateSkips = s.lateSkips := rfl
@[simp] theorem State.setGate_notches (s : State) (p : Nat) (g : Gate) : (s.setGate p g).notches = s.notches := rfl
@[simp] theorem State.setGate_lanesA (s : State) (p : Nat) (g : Gate) : (s.setGate p g).lanesA = s.lanesA := rfl
@[simp] theorem State.setGate_lanesB (s : State) (p : Nat) (g : Gate) : (s.setGate p g).lanesB = s.lanesB := rfl
@[simp] theorem State.setGate_chans (s : State) (p : Nat) (g : Gate) : (s.setGate p g).chans = s.chans := rfl
@[simp] theorem State.setGate_ladder (s : State) (p : Nat) (g : Gate) : (s.setGate p g).ladder = s.ladder := rfl
@[simp] theorem State.setGate_mismatchesCleared (s : State) (p : Nat) (g : Gate) : (s.setGate p g).mismatchesCleared = s.mismatchesCleared := rfl
@[simp] theorem State.setGate_clear (s : State) (p : Nat) (g : Gate) : (s.setGate p g).clear = s.clear := rfl
@[simp] theorem State.setGate_aux (s : State) (p : Nat) (g : Gate) : (s.setGate p g).aux = s.aux := rfl
@[simp] theorem State.setGate_dets (s : State) (p : Nat) (g : Gate) : (s.setGate p g).dets = s.dets := rfl
@[simp] theorem State.setGate_buoys (s : State) (p : Nat) (g : Gate) : (s.setGate p g).buoys = s.buoys := rfl
@[simp] theorem State.setGate_ports (s : State) (p : Nat) (g : Gate) : (s.setGate p g).ports = s.ports := rfl
@[simp] theorem State.setGate_windowsDiscarded (s : State) (p : Nat) (g : Gate) : (s.setGate p g).windowsDiscarded = s.windowsDiscarded := rfl
@[simp] theorem State.setGate_ampNow (s : State) (p : Nat) (g : Gate) : (s.setGate p g).ampNow = s.ampNow := rfl
@[simp] theorem State.setGate_ampNext (s : State) (p : Nat) (g : Gate) : (s.setGate p g).ampNext = s.ampNext := rfl
@[simp] theorem State.setGate_audit (s : State) (p : Nat) (g : Gate) : (s.setGate p g).audit = s.audit := rfl
@[simp] theorem State.setGate_hm6 (s : State) (p : Nat) (g : Gate) : (s.setGate p g).hm6 = s.hm6 := rfl
@[simp] theorem State.setGate_hm7 (s : State) (p : Nat) (g : Gate) : (s.setGate p g).hm7 = s.hm7 := rfl
@[simp] theorem State.setGate_keeper (s : State) (p : Nat) (g : Gate) : (s.setGate p g).keeper = s.keeper := rfl
@[simp] theorem State.setGate_cal (s : State) (p : Nat) (g : Gate) : (s.setGate p g).cal = s.cal := rfl
@[simp] theorem State.setGate_thermal (s : State) (p : Nat) (g : Gate) : (s.setGate p g).thermal = s.thermal := rfl
@[simp] theorem State.setGate_fans (s : State) (p : Nat) (g : Gate) : (s.setGate p g).fans = s.fans := rfl
@[simp] theorem State.setGate_hkc0 (s : State) (p : Nat) (g : Gate) : (s.setGate p g).hkc0 = s.hkc0 := rfl
@[simp] theorem State.setGate_hkc1 (s : State) (p : Nat) (g : Gate) : (s.setGate p g).hkc1 = s.hkc1 := rfl
@[simp] theorem State.setGate_rewriting (s : State) (p : Nat) (g : Gate) : (s.setGate p g).rewriting = s.rewriting := rfl
@[simp] theorem State.setGate_mem (s : State) (p : Nat) (g : Gate) : (s.setGate p g).mem = s.mem := rfl
@[simp] theorem State.setGate_ddr (s : State) (p : Nat) (g : Gate) : (s.setGate p g).ddr = s.ddr := rfl
@[simp] theorem State.setGate_banks (s : State) (p : Nat) (g : Gate) : (s.setGate p g).banks = s.banks := rfl
@[simp] theorem State.setGate_proof (s : State) (p : Nat) (g : Gate) : (s.setGate p g).proof = s.proof := rfl
@[simp] theorem State.setGate_matrix (s : State) (p : Nat) (g : Gate) : (s.setGate p g).matrix = s.matrix := rfl
@[simp] theorem State.setGate_mbx (s : State) (p : Nat) (g : Gate) : (s.setGate p g).mbx = s.mbx := rfl
@[simp] theorem State.setGate_aex (s : State) (p : Nat) (g : Gate) : (s.setGate p g).aex = s.aex := rfl
@[simp] theorem State.setGate_sessions (s : State) (p : Nat) (g : Gate) : (s.setGate p g).sessions = s.sessions := rfl
@[simp] theorem State.setGate_kept (s : State) (p : Nat) (g : Gate) : (s.setGate p g).kept = s.kept := rfl
@[simp] theorem State.setGate_spi (s : State) (p : Nat) (g : Gate) : (s.setGate p g).spi = s.spi := rfl
@[simp] theorem State.setGate_bar2Sleep (s : State) (p : Nat) (g : Gate) : (s.setGate p g).bar2Sleep = s.bar2Sleep := rfl
@[simp] theorem State.setGate_disp (s : State) (p : Nat) (g : Gate) : (s.setGate p g).disp = s.disp := rfl
@[simp] theorem State.setGate_queues (s : State) (p : Nat) (g : Gate) : (s.setGate p g).queues = s.queues := rfl
@[simp] theorem State.setGate_events (s : State) (p : Nat) (g : Gate) : (s.setGate p g).events = s.events := rfl
@[simp] theorem State.setGate_objs (s : State) (p : Nat) (g : Gate) : (s.setGate p g).objs = s.objs := rfl
@[simp] theorem State.setGate_blobs (s : State) (p : Nat) (g : Gate) : (s.setGate p g).blobs = s.blobs := rfl
@[simp] theorem State.setGate_regs (s : State) (p : Nat) (g : Gate) : (s.setGate p g).regs = s.regs := rfl
@[simp] theorem State.setGate_shadowRegs (s : State) (p : Nat) (g : Gate) : (s.setGate p g).shadowRegs = s.shadowRegs := rfl
@[simp] theorem State.setGate_live (s : State) (p : Nat) (g : Gate) : (s.setGate p g).live = s.live := rfl
@[simp] theorem State.setGate_reject (s : State) (p : Nat) (g : Gate) : (s.setGate p g).reject = s.reject := rfl
@[simp] theorem State.setGate_out (s : State) (p : Nat) (g : Gate) : (s.setGate p g).out = s.out := rfl
@[simp] theorem State.setGate_freeCtr (s : State) (p : Nat) (g : Gate) : (s.setGate p g).freeCtr = s.freeCtr := rfl

/-! ### setHkc -/

@[simp] theorem State.setHkc_pending (s : State) (n : Nat) (v : Hkc) : (s.setHkc n v).pending = s.pending := rfl
@[simp] theorem State.setHkc_time (s : State) (n : Nat) (v : Hkc) : (s.setHkc n v).time = s.time := rfl
@[simp] theorem State.setHkc_ptp0 (s : State) (n : Nat) (v : Hkc) : (s.setHkc n v).ptp0 = s.ptp0 := rfl
@[simp] theorem State.setHkc_ptp1 (s : State) (n : Nat) (v : Hkc) : (s.setHkc n v).ptp1 = s.ptp1 := rfl
@[simp] theorem State.setHkc_ptpSel (s : State) (n : Nat) (v : Hkc) : (s.setHkc n v).ptpSel = s.ptpSel := rfl
@[simp] theorem State.setHkc_caps (s : State) (n : Nat) (v : Hkc) : (s.setHkc n v).caps = s.caps := rfl
@[simp] theorem State.setHkc_beacons (s : State) (n : Nat) (v : Hkc) : (s.setHkc n v).beacons = s.beacons := rfl
@[simp] theorem State.setHkc_forge (s : State) (n : Nat) (v : Hkc) : (s.setHkc n v).forge = s.forge := rfl
@[simp] theorem State.setHkc_power (s : State) (n : Nat) (v : Hkc) : (s.setHkc n v).power = s.power := rfl
@[simp] theorem State.setHkc_boot (s : State) (n : Nat) (v : Hkc) : (s.setHkc n v).boot = s.boot := rfl
@[simp] theorem State.setHkc_life (s : State) (n : Nat) (v : Hkc) : (s.setHkc n v).life = s.life := rfl
@[simp] theorem State.setHkc_genEpoch (s : State) (n : Nat) (v : Hkc) : (s.setHkc n v).genEpoch = s.genEpoch := rfl
@[simp] theorem State.setHkc_genCount (s : State) (n : Nat) (v : Hkc) : (s.setHkc n v).genCount = s.genCount := rfl
@[simp] theorem State.setHkc_digest (s : State) (n : Nat) (v : Hkc) : (s.setHkc n v).digest = s.digest := rfl
@[simp] theorem State.setHkc_digests (s : State) (n : Nat) (v : Hkc) : (s.setHkc n v).digests = s.digests := rfl
@[simp] theorem State.setHkc_active (s : State) (n : Nat) (v : Hkc) : (s.setHkc n v).active = s.active := rfl
@[simp] theorem State.setHkc_image (s : State) (n : Nat) (v : Hkc) : (s.setHkc n v).image = s.image := rfl
@[simp] theorem State.setHkc_legs (s : State) (n : Nat) (v : Hkc) : (s.setHkc n v).legs = s.legs := rfl
@[simp] theorem State.setHkc_planner (s : State) (n : Nat) (v : Hkc) : (s.setHkc n v).planner = s.planner := rfl
@[simp] theorem State.setHkc_batches (s : State) (n : Nat) (v : Hkc) : (s.setHkc n v).batches = s.batches := rfl
@[simp] theorem State.setHkc_closed (s : State) (n : Nat) (v : Hkc) : (s.setHkc n v).closed = s.closed := rfl
@[simp] theorem State.setHkc_nextBatch (s : State) (n : Nat) (v : Hkc) : (s.setHkc n v).nextBatch = s.nextBatch := rfl
@[simp] theorem State.setHkc_lateBatches (s : State) (n : Nat) (v : Hkc) : (s.setHkc n v).lateBatches = s.lateBatches := rfl
@[simp] theorem State.setHkc_commitCount (s : State) (n : Nat) (v : Hkc) : (s.setHkc n v).commitCount = s.commitCount := rfl
@[simp] theorem State.setHkc_sched (s : State) (n : Nat) (v : Hkc) : (s.setHkc n v).sched = s.sched := rfl
@[simp] theorem State.setHkc_cfgs (s : State) (n : Nat) (v : Hkc) : (s.setHkc n v).cfgs = s.cfgs := rfl
@[simp] theorem State.setHkc_elems (s : State) (n : Nat) (v : Hkc) : (s.setHkc n v).elems = s.elems := rfl
@[simp] theorem State.setHkc_loopsStarted (s : State) (n : Nat) (v : Hkc) : (s.setHkc n v).loopsStarted = s.loopsStarted := rfl
@[simp] theorem State.setHkc_lateSkips (s : State) (n : Nat) (v : Hkc) : (s.setHkc n v).lateSkips = s.lateSkips := rfl
@[simp] theorem State.setHkc_notches (s : State) (n : Nat) (v : Hkc) : (s.setHkc n v).notches = s.notches := rfl
@[simp] theorem State.setHkc_lanesA (s : State) (n : Nat) (v : Hkc) : (s.setHkc n v).lanesA = s.lanesA := rfl
@[simp] theorem State.setHkc_lanesB (s : State) (n : Nat) (v : Hkc) : (s.setHkc n v).lanesB = s.lanesB := rfl
@[simp] theorem State.setHkc_chans (s : State) (n : Nat) (v : Hkc) : (s.setHkc n v).chans = s.chans := rfl
@[simp] theorem State.setHkc_ladder (s : State) (n : Nat) (v : Hkc) : (s.setHkc n v).ladder = s.ladder := rfl
@[simp] theorem State.setHkc_mismatchesCleared (s : State) (n : Nat) (v : Hkc) : (s.setHkc n v).mismatchesCleared = s.mismatchesCleared := rfl
@[simp] theorem State.setHkc_clear (s : State) (n : Nat) (v : Hkc) : (s.setHkc n v).clear = s.clear := rfl
@[simp] theorem State.setHkc_aux (s : State) (n : Nat) (v : Hkc) : (s.setHkc n v).aux = s.aux := rfl
@[simp] theorem State.setHkc_dets (s : State) (n : Nat) (v : Hkc) : (s.setHkc n v).dets = s.dets := rfl
@[simp] theorem State.setHkc_buoys (s : State) (n : Nat) (v : Hkc) : (s.setHkc n v).buoys = s.buoys := rfl
@[simp] theorem State.setHkc_ports (s : State) (n : Nat) (v : Hkc) : (s.setHkc n v).ports = s.ports := rfl
@[simp] theorem State.setHkc_windowsDiscarded (s : State) (n : Nat) (v : Hkc) : (s.setHkc n v).windowsDiscarded = s.windowsDiscarded := rfl
@[simp] theorem State.setHkc_ampNow (s : State) (n : Nat) (v : Hkc) : (s.setHkc n v).ampNow = s.ampNow := rfl
@[simp] theorem State.setHkc_ampNext (s : State) (n : Nat) (v : Hkc) : (s.setHkc n v).ampNext = s.ampNext := rfl
@[simp] theorem State.setHkc_audit (s : State) (n : Nat) (v : Hkc) : (s.setHkc n v).audit = s.audit := rfl
@[simp] theorem State.setHkc_hm6 (s : State) (n : Nat) (v : Hkc) : (s.setHkc n v).hm6 = s.hm6 := rfl
@[simp] theorem State.setHkc_hm7 (s : State) (n : Nat) (v : Hkc) : (s.setHkc n v).hm7 = s.hm7 := rfl
@[simp] theorem State.setHkc_keeper (s : State) (n : Nat) (v : Hkc) : (s.setHkc n v).keeper = s.keeper := rfl
@[simp] theorem State.setHkc_cal (s : State) (n : Nat) (v : Hkc) : (s.setHkc n v).cal = s.cal := rfl
@[simp] theorem State.setHkc_thermal (s : State) (n : Nat) (v : Hkc) : (s.setHkc n v).thermal = s.thermal := rfl
@[simp] theorem State.setHkc_fans (s : State) (n : Nat) (v : Hkc) : (s.setHkc n v).fans = s.fans := rfl
@[simp] theorem State.setHkc_rewriting (s : State) (n : Nat) (v : Hkc) : (s.setHkc n v).rewriting = s.rewriting := rfl
@[simp] theorem State.setHkc_mem (s : State) (n : Nat) (v : Hkc) : (s.setHkc n v).mem = s.mem := rfl
@[simp] theorem State.setHkc_ddr (s : State) (n : Nat) (v : Hkc) : (s.setHkc n v).ddr = s.ddr := rfl
@[simp] theorem State.setHkc_banks (s : State) (n : Nat) (v : Hkc) : (s.setHkc n v).banks = s.banks := rfl
@[simp] theorem State.setHkc_proof (s : State) (n : Nat) (v : Hkc) : (s.setHkc n v).proof = s.proof := rfl
@[simp] theorem State.setHkc_matrix (s : State) (n : Nat) (v : Hkc) : (s.setHkc n v).matrix = s.matrix := rfl
@[simp] theorem State.setHkc_mbx (s : State) (n : Nat) (v : Hkc) : (s.setHkc n v).mbx = s.mbx := rfl
@[simp] theorem State.setHkc_aex (s : State) (n : Nat) (v : Hkc) : (s.setHkc n v).aex = s.aex := rfl
@[simp] theorem State.setHkc_sessions (s : State) (n : Nat) (v : Hkc) : (s.setHkc n v).sessions = s.sessions := rfl
@[simp] theorem State.setHkc_kept (s : State) (n : Nat) (v : Hkc) : (s.setHkc n v).kept = s.kept := rfl
@[simp] theorem State.setHkc_spi (s : State) (n : Nat) (v : Hkc) : (s.setHkc n v).spi = s.spi := rfl
@[simp] theorem State.setHkc_bar2Sleep (s : State) (n : Nat) (v : Hkc) : (s.setHkc n v).bar2Sleep = s.bar2Sleep := rfl
@[simp] theorem State.setHkc_disp (s : State) (n : Nat) (v : Hkc) : (s.setHkc n v).disp = s.disp := rfl
@[simp] theorem State.setHkc_gate0 (s : State) (n : Nat) (v : Hkc) : (s.setHkc n v).gate0 = s.gate0 := rfl
@[simp] theorem State.setHkc_gate1 (s : State) (n : Nat) (v : Hkc) : (s.setHkc n v).gate1 = s.gate1 := rfl
@[simp] theorem State.setHkc_queues (s : State) (n : Nat) (v : Hkc) : (s.setHkc n v).queues = s.queues := rfl
@[simp] theorem State.setHkc_events (s : State) (n : Nat) (v : Hkc) : (s.setHkc n v).events = s.events := rfl
@[simp] theorem State.setHkc_objs (s : State) (n : Nat) (v : Hkc) : (s.setHkc n v).objs = s.objs := rfl
@[simp] theorem State.setHkc_blobs (s : State) (n : Nat) (v : Hkc) : (s.setHkc n v).blobs = s.blobs := rfl
@[simp] theorem State.setHkc_regs (s : State) (n : Nat) (v : Hkc) : (s.setHkc n v).regs = s.regs := rfl
@[simp] theorem State.setHkc_shadowRegs (s : State) (n : Nat) (v : Hkc) : (s.setHkc n v).shadowRegs = s.shadowRegs := rfl
@[simp] theorem State.setHkc_live (s : State) (n : Nat) (v : Hkc) : (s.setHkc n v).live = s.live := rfl
@[simp] theorem State.setHkc_reject (s : State) (n : Nat) (v : Hkc) : (s.setHkc n v).reject = s.reject := rfl
@[simp] theorem State.setHkc_out (s : State) (n : Nat) (v : Hkc) : (s.setHkc n v).out = s.out := rfl
@[simp] theorem State.setHkc_freeCtr (s : State) (n : Nat) (v : Hkc) : (s.setHkc n v).freeCtr = s.freeCtr := rfl

/-! ### setNotch -/

@[simp] theorem State.setNotch_pending (s : State) (n : Nat) (v : Notch) : (s.setNotch n v).pending = s.pending := rfl
@[simp] theorem State.setNotch_time (s : State) (n : Nat) (v : Notch) : (s.setNotch n v).time = s.time := rfl
@[simp] theorem State.setNotch_ptp0 (s : State) (n : Nat) (v : Notch) : (s.setNotch n v).ptp0 = s.ptp0 := rfl
@[simp] theorem State.setNotch_ptp1 (s : State) (n : Nat) (v : Notch) : (s.setNotch n v).ptp1 = s.ptp1 := rfl
@[simp] theorem State.setNotch_ptpSel (s : State) (n : Nat) (v : Notch) : (s.setNotch n v).ptpSel = s.ptpSel := rfl
@[simp] theorem State.setNotch_caps (s : State) (n : Nat) (v : Notch) : (s.setNotch n v).caps = s.caps := rfl
@[simp] theorem State.setNotch_beacons (s : State) (n : Nat) (v : Notch) : (s.setNotch n v).beacons = s.beacons := rfl
@[simp] theorem State.setNotch_forge (s : State) (n : Nat) (v : Notch) : (s.setNotch n v).forge = s.forge := rfl
@[simp] theorem State.setNotch_power (s : State) (n : Nat) (v : Notch) : (s.setNotch n v).power = s.power := rfl
@[simp] theorem State.setNotch_boot (s : State) (n : Nat) (v : Notch) : (s.setNotch n v).boot = s.boot := rfl
@[simp] theorem State.setNotch_life (s : State) (n : Nat) (v : Notch) : (s.setNotch n v).life = s.life := rfl
@[simp] theorem State.setNotch_genEpoch (s : State) (n : Nat) (v : Notch) : (s.setNotch n v).genEpoch = s.genEpoch := rfl
@[simp] theorem State.setNotch_genCount (s : State) (n : Nat) (v : Notch) : (s.setNotch n v).genCount = s.genCount := rfl
@[simp] theorem State.setNotch_digest (s : State) (n : Nat) (v : Notch) : (s.setNotch n v).digest = s.digest := rfl
@[simp] theorem State.setNotch_digests (s : State) (n : Nat) (v : Notch) : (s.setNotch n v).digests = s.digests := rfl
@[simp] theorem State.setNotch_active (s : State) (n : Nat) (v : Notch) : (s.setNotch n v).active = s.active := rfl
@[simp] theorem State.setNotch_image (s : State) (n : Nat) (v : Notch) : (s.setNotch n v).image = s.image := rfl
@[simp] theorem State.setNotch_legs (s : State) (n : Nat) (v : Notch) : (s.setNotch n v).legs = s.legs := rfl
@[simp] theorem State.setNotch_planner (s : State) (n : Nat) (v : Notch) : (s.setNotch n v).planner = s.planner := rfl
@[simp] theorem State.setNotch_batches (s : State) (n : Nat) (v : Notch) : (s.setNotch n v).batches = s.batches := rfl
@[simp] theorem State.setNotch_closed (s : State) (n : Nat) (v : Notch) : (s.setNotch n v).closed = s.closed := rfl
@[simp] theorem State.setNotch_nextBatch (s : State) (n : Nat) (v : Notch) : (s.setNotch n v).nextBatch = s.nextBatch := rfl
@[simp] theorem State.setNotch_lateBatches (s : State) (n : Nat) (v : Notch) : (s.setNotch n v).lateBatches = s.lateBatches := rfl
@[simp] theorem State.setNotch_commitCount (s : State) (n : Nat) (v : Notch) : (s.setNotch n v).commitCount = s.commitCount := rfl
@[simp] theorem State.setNotch_sched (s : State) (n : Nat) (v : Notch) : (s.setNotch n v).sched = s.sched := rfl
@[simp] theorem State.setNotch_cfgs (s : State) (n : Nat) (v : Notch) : (s.setNotch n v).cfgs = s.cfgs := rfl
@[simp] theorem State.setNotch_elems (s : State) (n : Nat) (v : Notch) : (s.setNotch n v).elems = s.elems := rfl
@[simp] theorem State.setNotch_loopsStarted (s : State) (n : Nat) (v : Notch) : (s.setNotch n v).loopsStarted = s.loopsStarted := rfl
@[simp] theorem State.setNotch_lateSkips (s : State) (n : Nat) (v : Notch) : (s.setNotch n v).lateSkips = s.lateSkips := rfl
@[simp] theorem State.setNotch_lanesA (s : State) (n : Nat) (v : Notch) : (s.setNotch n v).lanesA = s.lanesA := rfl
@[simp] theorem State.setNotch_lanesB (s : State) (n : Nat) (v : Notch) : (s.setNotch n v).lanesB = s.lanesB := rfl
@[simp] theorem State.setNotch_chans (s : State) (n : Nat) (v : Notch) : (s.setNotch n v).chans = s.chans := rfl
@[simp] theorem State.setNotch_ladder (s : State) (n : Nat) (v : Notch) : (s.setNotch n v).ladder = s.ladder := rfl
@[simp] theorem State.setNotch_mismatchesCleared (s : State) (n : Nat) (v : Notch) : (s.setNotch n v).mismatchesCleared = s.mismatchesCleared := rfl
@[simp] theorem State.setNotch_clear (s : State) (n : Nat) (v : Notch) : (s.setNotch n v).clear = s.clear := rfl
@[simp] theorem State.setNotch_aux (s : State) (n : Nat) (v : Notch) : (s.setNotch n v).aux = s.aux := rfl
@[simp] theorem State.setNotch_dets (s : State) (n : Nat) (v : Notch) : (s.setNotch n v).dets = s.dets := rfl
@[simp] theorem State.setNotch_buoys (s : State) (n : Nat) (v : Notch) : (s.setNotch n v).buoys = s.buoys := rfl
@[simp] theorem State.setNotch_ports (s : State) (n : Nat) (v : Notch) : (s.setNotch n v).ports = s.ports := rfl
@[simp] theorem State.setNotch_windowsDiscarded (s : State) (n : Nat) (v : Notch) : (s.setNotch n v).windowsDiscarded = s.windowsDiscarded := rfl
@[simp] theorem State.setNotch_ampNow (s : State) (n : Nat) (v : Notch) : (s.setNotch n v).ampNow = s.ampNow := rfl
@[simp] theorem State.setNotch_ampNext (s : State) (n : Nat) (v : Notch) : (s.setNotch n v).ampNext = s.ampNext := rfl
@[simp] theorem State.setNotch_audit (s : State) (n : Nat) (v : Notch) : (s.setNotch n v).audit = s.audit := rfl
@[simp] theorem State.setNotch_hm6 (s : State) (n : Nat) (v : Notch) : (s.setNotch n v).hm6 = s.hm6 := rfl
@[simp] theorem State.setNotch_hm7 (s : State) (n : Nat) (v : Notch) : (s.setNotch n v).hm7 = s.hm7 := rfl
@[simp] theorem State.setNotch_keeper (s : State) (n : Nat) (v : Notch) : (s.setNotch n v).keeper = s.keeper := rfl
@[simp] theorem State.setNotch_cal (s : State) (n : Nat) (v : Notch) : (s.setNotch n v).cal = s.cal := rfl
@[simp] theorem State.setNotch_thermal (s : State) (n : Nat) (v : Notch) : (s.setNotch n v).thermal = s.thermal := rfl
@[simp] theorem State.setNotch_fans (s : State) (n : Nat) (v : Notch) : (s.setNotch n v).fans = s.fans := rfl
@[simp] theorem State.setNotch_hkc0 (s : State) (n : Nat) (v : Notch) : (s.setNotch n v).hkc0 = s.hkc0 := rfl
@[simp] theorem State.setNotch_hkc1 (s : State) (n : Nat) (v : Notch) : (s.setNotch n v).hkc1 = s.hkc1 := rfl
@[simp] theorem State.setNotch_rewriting (s : State) (n : Nat) (v : Notch) : (s.setNotch n v).rewriting = s.rewriting := rfl
@[simp] theorem State.setNotch_mem (s : State) (n : Nat) (v : Notch) : (s.setNotch n v).mem = s.mem := rfl
@[simp] theorem State.setNotch_ddr (s : State) (n : Nat) (v : Notch) : (s.setNotch n v).ddr = s.ddr := rfl
@[simp] theorem State.setNotch_banks (s : State) (n : Nat) (v : Notch) : (s.setNotch n v).banks = s.banks := rfl
@[simp] theorem State.setNotch_proof (s : State) (n : Nat) (v : Notch) : (s.setNotch n v).proof = s.proof := rfl
@[simp] theorem State.setNotch_matrix (s : State) (n : Nat) (v : Notch) : (s.setNotch n v).matrix = s.matrix := rfl
@[simp] theorem State.setNotch_mbx (s : State) (n : Nat) (v : Notch) : (s.setNotch n v).mbx = s.mbx := rfl
@[simp] theorem State.setNotch_aex (s : State) (n : Nat) (v : Notch) : (s.setNotch n v).aex = s.aex := rfl
@[simp] theorem State.setNotch_sessions (s : State) (n : Nat) (v : Notch) : (s.setNotch n v).sessions = s.sessions := rfl
@[simp] theorem State.setNotch_kept (s : State) (n : Nat) (v : Notch) : (s.setNotch n v).kept = s.kept := rfl
@[simp] theorem State.setNotch_spi (s : State) (n : Nat) (v : Notch) : (s.setNotch n v).spi = s.spi := rfl
@[simp] theorem State.setNotch_bar2Sleep (s : State) (n : Nat) (v : Notch) : (s.setNotch n v).bar2Sleep = s.bar2Sleep := rfl
@[simp] theorem State.setNotch_disp (s : State) (n : Nat) (v : Notch) : (s.setNotch n v).disp = s.disp := rfl
@[simp] theorem State.setNotch_gate0 (s : State) (n : Nat) (v : Notch) : (s.setNotch n v).gate0 = s.gate0 := rfl
@[simp] theorem State.setNotch_gate1 (s : State) (n : Nat) (v : Notch) : (s.setNotch n v).gate1 = s.gate1 := rfl
@[simp] theorem State.setNotch_queues (s : State) (n : Nat) (v : Notch) : (s.setNotch n v).queues = s.queues := rfl
@[simp] theorem State.setNotch_events (s : State) (n : Nat) (v : Notch) : (s.setNotch n v).events = s.events := rfl
@[simp] theorem State.setNotch_objs (s : State) (n : Nat) (v : Notch) : (s.setNotch n v).objs = s.objs := rfl
@[simp] theorem State.setNotch_blobs (s : State) (n : Nat) (v : Notch) : (s.setNotch n v).blobs = s.blobs := rfl
@[simp] theorem State.setNotch_regs (s : State) (n : Nat) (v : Notch) : (s.setNotch n v).regs = s.regs := rfl
@[simp] theorem State.setNotch_shadowRegs (s : State) (n : Nat) (v : Notch) : (s.setNotch n v).shadowRegs = s.shadowRegs := rfl
@[simp] theorem State.setNotch_live (s : State) (n : Nat) (v : Notch) : (s.setNotch n v).live = s.live := rfl
@[simp] theorem State.setNotch_reject (s : State) (n : Nat) (v : Notch) : (s.setNotch n v).reject = s.reject := rfl
@[simp] theorem State.setNotch_out (s : State) (n : Nat) (v : Notch) : (s.setNotch n v).out = s.out := rfl
@[simp] theorem State.setNotch_freeCtr (s : State) (n : Nat) (v : Notch) : (s.setNotch n v).freeCtr = s.freeCtr := rfl

/-! ### setLane -/

@[simp] theorem State.setLane_pending (s : State) (v : Anvil) (n : Nat) (l : Lane) : (s.setLane v n l).pending = s.pending := rfl
@[simp] theorem State.setLane_time (s : State) (v : Anvil) (n : Nat) (l : Lane) : (s.setLane v n l).time = s.time := rfl
@[simp] theorem State.setLane_ptp0 (s : State) (v : Anvil) (n : Nat) (l : Lane) : (s.setLane v n l).ptp0 = s.ptp0 := rfl
@[simp] theorem State.setLane_ptp1 (s : State) (v : Anvil) (n : Nat) (l : Lane) : (s.setLane v n l).ptp1 = s.ptp1 := rfl
@[simp] theorem State.setLane_ptpSel (s : State) (v : Anvil) (n : Nat) (l : Lane) : (s.setLane v n l).ptpSel = s.ptpSel := rfl
@[simp] theorem State.setLane_caps (s : State) (v : Anvil) (n : Nat) (l : Lane) : (s.setLane v n l).caps = s.caps := rfl
@[simp] theorem State.setLane_beacons (s : State) (v : Anvil) (n : Nat) (l : Lane) : (s.setLane v n l).beacons = s.beacons := rfl
@[simp] theorem State.setLane_forge (s : State) (v : Anvil) (n : Nat) (l : Lane) : (s.setLane v n l).forge = s.forge := rfl
@[simp] theorem State.setLane_power (s : State) (v : Anvil) (n : Nat) (l : Lane) : (s.setLane v n l).power = s.power := rfl
@[simp] theorem State.setLane_boot (s : State) (v : Anvil) (n : Nat) (l : Lane) : (s.setLane v n l).boot = s.boot := rfl
@[simp] theorem State.setLane_life (s : State) (v : Anvil) (n : Nat) (l : Lane) : (s.setLane v n l).life = s.life := rfl
@[simp] theorem State.setLane_genEpoch (s : State) (v : Anvil) (n : Nat) (l : Lane) : (s.setLane v n l).genEpoch = s.genEpoch := rfl
@[simp] theorem State.setLane_genCount (s : State) (v : Anvil) (n : Nat) (l : Lane) : (s.setLane v n l).genCount = s.genCount := rfl
@[simp] theorem State.setLane_digest (s : State) (v : Anvil) (n : Nat) (l : Lane) : (s.setLane v n l).digest = s.digest := rfl
@[simp] theorem State.setLane_digests (s : State) (v : Anvil) (n : Nat) (l : Lane) : (s.setLane v n l).digests = s.digests := rfl
@[simp] theorem State.setLane_active (s : State) (v : Anvil) (n : Nat) (l : Lane) : (s.setLane v n l).active = s.active := rfl
@[simp] theorem State.setLane_image (s : State) (v : Anvil) (n : Nat) (l : Lane) : (s.setLane v n l).image = s.image := rfl
@[simp] theorem State.setLane_legs (s : State) (v : Anvil) (n : Nat) (l : Lane) : (s.setLane v n l).legs = s.legs := rfl
@[simp] theorem State.setLane_planner (s : State) (v : Anvil) (n : Nat) (l : Lane) : (s.setLane v n l).planner = s.planner := rfl
@[simp] theorem State.setLane_batches (s : State) (v : Anvil) (n : Nat) (l : Lane) : (s.setLane v n l).batches = s.batches := rfl
@[simp] theorem State.setLane_closed (s : State) (v : Anvil) (n : Nat) (l : Lane) : (s.setLane v n l).closed = s.closed := rfl
@[simp] theorem State.setLane_nextBatch (s : State) (v : Anvil) (n : Nat) (l : Lane) : (s.setLane v n l).nextBatch = s.nextBatch := rfl
@[simp] theorem State.setLane_lateBatches (s : State) (v : Anvil) (n : Nat) (l : Lane) : (s.setLane v n l).lateBatches = s.lateBatches := rfl
@[simp] theorem State.setLane_commitCount (s : State) (v : Anvil) (n : Nat) (l : Lane) : (s.setLane v n l).commitCount = s.commitCount := rfl
@[simp] theorem State.setLane_sched (s : State) (v : Anvil) (n : Nat) (l : Lane) : (s.setLane v n l).sched = s.sched := rfl
@[simp] theorem State.setLane_cfgs (s : State) (v : Anvil) (n : Nat) (l : Lane) : (s.setLane v n l).cfgs = s.cfgs := rfl
@[simp] theorem State.setLane_elems (s : State) (v : Anvil) (n : Nat) (l : Lane) : (s.setLane v n l).elems = s.elems := rfl
@[simp] theorem State.setLane_loopsStarted (s : State) (v : Anvil) (n : Nat) (l : Lane) : (s.setLane v n l).loopsStarted = s.loopsStarted := rfl
@[simp] theorem State.setLane_lateSkips (s : State) (v : Anvil) (n : Nat) (l : Lane) : (s.setLane v n l).lateSkips = s.lateSkips := rfl
@[simp] theorem State.setLane_notches (s : State) (v : Anvil) (n : Nat) (l : Lane) : (s.setLane v n l).notches = s.notches := rfl
@[simp] theorem State.setLane_chans (s : State) (v : Anvil) (n : Nat) (l : Lane) : (s.setLane v n l).chans = s.chans := rfl
@[simp] theorem State.setLane_ladder (s : State) (v : Anvil) (n : Nat) (l : Lane) : (s.setLane v n l).ladder = s.ladder := rfl
@[simp] theorem State.setLane_mismatchesCleared (s : State) (v : Anvil) (n : Nat) (l : Lane) : (s.setLane v n l).mismatchesCleared = s.mismatchesCleared := rfl
@[simp] theorem State.setLane_clear (s : State) (v : Anvil) (n : Nat) (l : Lane) : (s.setLane v n l).clear = s.clear := rfl
@[simp] theorem State.setLane_aux (s : State) (v : Anvil) (n : Nat) (l : Lane) : (s.setLane v n l).aux = s.aux := rfl
@[simp] theorem State.setLane_dets (s : State) (v : Anvil) (n : Nat) (l : Lane) : (s.setLane v n l).dets = s.dets := rfl
@[simp] theorem State.setLane_buoys (s : State) (v : Anvil) (n : Nat) (l : Lane) : (s.setLane v n l).buoys = s.buoys := rfl
@[simp] theorem State.setLane_ports (s : State) (v : Anvil) (n : Nat) (l : Lane) : (s.setLane v n l).ports = s.ports := rfl
@[simp] theorem State.setLane_windowsDiscarded (s : State) (v : Anvil) (n : Nat) (l : Lane) : (s.setLane v n l).windowsDiscarded = s.windowsDiscarded := rfl
@[simp] theorem State.setLane_ampNow (s : State) (v : Anvil) (n : Nat) (l : Lane) : (s.setLane v n l).ampNow = s.ampNow := rfl
@[simp] theorem State.setLane_ampNext (s : State) (v : Anvil) (n : Nat) (l : Lane) : (s.setLane v n l).ampNext = s.ampNext := rfl
@[simp] theorem State.setLane_audit (s : State) (v : Anvil) (n : Nat) (l : Lane) : (s.setLane v n l).audit = s.audit := rfl
@[simp] theorem State.setLane_hm6 (s : State) (v : Anvil) (n : Nat) (l : Lane) : (s.setLane v n l).hm6 = s.hm6 := rfl
@[simp] theorem State.setLane_hm7 (s : State) (v : Anvil) (n : Nat) (l : Lane) : (s.setLane v n l).hm7 = s.hm7 := rfl
@[simp] theorem State.setLane_keeper (s : State) (v : Anvil) (n : Nat) (l : Lane) : (s.setLane v n l).keeper = s.keeper := rfl
@[simp] theorem State.setLane_cal (s : State) (v : Anvil) (n : Nat) (l : Lane) : (s.setLane v n l).cal = s.cal := rfl
@[simp] theorem State.setLane_thermal (s : State) (v : Anvil) (n : Nat) (l : Lane) : (s.setLane v n l).thermal = s.thermal := rfl
@[simp] theorem State.setLane_fans (s : State) (v : Anvil) (n : Nat) (l : Lane) : (s.setLane v n l).fans = s.fans := rfl
@[simp] theorem State.setLane_hkc0 (s : State) (v : Anvil) (n : Nat) (l : Lane) : (s.setLane v n l).hkc0 = s.hkc0 := rfl
@[simp] theorem State.setLane_hkc1 (s : State) (v : Anvil) (n : Nat) (l : Lane) : (s.setLane v n l).hkc1 = s.hkc1 := rfl
@[simp] theorem State.setLane_rewriting (s : State) (v : Anvil) (n : Nat) (l : Lane) : (s.setLane v n l).rewriting = s.rewriting := rfl
@[simp] theorem State.setLane_mem (s : State) (v : Anvil) (n : Nat) (l : Lane) : (s.setLane v n l).mem = s.mem := rfl
@[simp] theorem State.setLane_ddr (s : State) (v : Anvil) (n : Nat) (l : Lane) : (s.setLane v n l).ddr = s.ddr := rfl
@[simp] theorem State.setLane_banks (s : State) (v : Anvil) (n : Nat) (l : Lane) : (s.setLane v n l).banks = s.banks := rfl
@[simp] theorem State.setLane_proof (s : State) (v : Anvil) (n : Nat) (l : Lane) : (s.setLane v n l).proof = s.proof := rfl
@[simp] theorem State.setLane_matrix (s : State) (v : Anvil) (n : Nat) (l : Lane) : (s.setLane v n l).matrix = s.matrix := rfl
@[simp] theorem State.setLane_mbx (s : State) (v : Anvil) (n : Nat) (l : Lane) : (s.setLane v n l).mbx = s.mbx := rfl
@[simp] theorem State.setLane_aex (s : State) (v : Anvil) (n : Nat) (l : Lane) : (s.setLane v n l).aex = s.aex := rfl
@[simp] theorem State.setLane_sessions (s : State) (v : Anvil) (n : Nat) (l : Lane) : (s.setLane v n l).sessions = s.sessions := rfl
@[simp] theorem State.setLane_kept (s : State) (v : Anvil) (n : Nat) (l : Lane) : (s.setLane v n l).kept = s.kept := rfl
@[simp] theorem State.setLane_spi (s : State) (v : Anvil) (n : Nat) (l : Lane) : (s.setLane v n l).spi = s.spi := rfl
@[simp] theorem State.setLane_bar2Sleep (s : State) (v : Anvil) (n : Nat) (l : Lane) : (s.setLane v n l).bar2Sleep = s.bar2Sleep := rfl
@[simp] theorem State.setLane_disp (s : State) (v : Anvil) (n : Nat) (l : Lane) : (s.setLane v n l).disp = s.disp := rfl
@[simp] theorem State.setLane_gate0 (s : State) (v : Anvil) (n : Nat) (l : Lane) : (s.setLane v n l).gate0 = s.gate0 := rfl
@[simp] theorem State.setLane_gate1 (s : State) (v : Anvil) (n : Nat) (l : Lane) : (s.setLane v n l).gate1 = s.gate1 := rfl
@[simp] theorem State.setLane_queues (s : State) (v : Anvil) (n : Nat) (l : Lane) : (s.setLane v n l).queues = s.queues := rfl
@[simp] theorem State.setLane_events (s : State) (v : Anvil) (n : Nat) (l : Lane) : (s.setLane v n l).events = s.events := rfl
@[simp] theorem State.setLane_objs (s : State) (v : Anvil) (n : Nat) (l : Lane) : (s.setLane v n l).objs = s.objs := rfl
@[simp] theorem State.setLane_blobs (s : State) (v : Anvil) (n : Nat) (l : Lane) : (s.setLane v n l).blobs = s.blobs := rfl
@[simp] theorem State.setLane_regs (s : State) (v : Anvil) (n : Nat) (l : Lane) : (s.setLane v n l).regs = s.regs := rfl
@[simp] theorem State.setLane_shadowRegs (s : State) (v : Anvil) (n : Nat) (l : Lane) : (s.setLane v n l).shadowRegs = s.shadowRegs := rfl
@[simp] theorem State.setLane_live (s : State) (v : Anvil) (n : Nat) (l : Lane) : (s.setLane v n l).live = s.live := rfl
@[simp] theorem State.setLane_reject (s : State) (v : Anvil) (n : Nat) (l : Lane) : (s.setLane v n l).reject = s.reject := rfl
@[simp] theorem State.setLane_out (s : State) (v : Anvil) (n : Nat) (l : Lane) : (s.setLane v n l).out = s.out := rfl
@[simp] theorem State.setLane_freeCtr (s : State) (v : Anvil) (n : Nat) (l : Lane) : (s.setLane v n l).freeCtr = s.freeCtr := rfl

/-! ### setAnvil -/

@[simp] theorem State.setAnvil_pending (s : State) (v : Anvil) (x : AnvilSt) : (s.setAnvil v x).pending = s.pending := rfl
@[simp] theorem State.setAnvil_time (s : State) (v : Anvil) (x : AnvilSt) : (s.setAnvil v x).time = s.time := rfl
@[simp] theorem State.setAnvil_ptp0 (s : State) (v : Anvil) (x : AnvilSt) : (s.setAnvil v x).ptp0 = s.ptp0 := rfl
@[simp] theorem State.setAnvil_ptp1 (s : State) (v : Anvil) (x : AnvilSt) : (s.setAnvil v x).ptp1 = s.ptp1 := rfl
@[simp] theorem State.setAnvil_ptpSel (s : State) (v : Anvil) (x : AnvilSt) : (s.setAnvil v x).ptpSel = s.ptpSel := rfl
@[simp] theorem State.setAnvil_caps (s : State) (v : Anvil) (x : AnvilSt) : (s.setAnvil v x).caps = s.caps := rfl
@[simp] theorem State.setAnvil_beacons (s : State) (v : Anvil) (x : AnvilSt) : (s.setAnvil v x).beacons = s.beacons := rfl
@[simp] theorem State.setAnvil_forge (s : State) (v : Anvil) (x : AnvilSt) : (s.setAnvil v x).forge = s.forge := rfl
@[simp] theorem State.setAnvil_power (s : State) (v : Anvil) (x : AnvilSt) : (s.setAnvil v x).power = s.power := rfl
@[simp] theorem State.setAnvil_boot (s : State) (v : Anvil) (x : AnvilSt) : (s.setAnvil v x).boot = s.boot := rfl
@[simp] theorem State.setAnvil_life (s : State) (v : Anvil) (x : AnvilSt) : (s.setAnvil v x).life = s.life := rfl
@[simp] theorem State.setAnvil_genEpoch (s : State) (v : Anvil) (x : AnvilSt) : (s.setAnvil v x).genEpoch = s.genEpoch := rfl
@[simp] theorem State.setAnvil_genCount (s : State) (v : Anvil) (x : AnvilSt) : (s.setAnvil v x).genCount = s.genCount := rfl
@[simp] theorem State.setAnvil_digest (s : State) (v : Anvil) (x : AnvilSt) : (s.setAnvil v x).digest = s.digest := rfl
@[simp] theorem State.setAnvil_digests (s : State) (v : Anvil) (x : AnvilSt) : (s.setAnvil v x).digests = s.digests := rfl
@[simp] theorem State.setAnvil_active (s : State) (v : Anvil) (x : AnvilSt) : (s.setAnvil v x).active = s.active := rfl
@[simp] theorem State.setAnvil_image (s : State) (v : Anvil) (x : AnvilSt) : (s.setAnvil v x).image = s.image := rfl
@[simp] theorem State.setAnvil_legs (s : State) (v : Anvil) (x : AnvilSt) : (s.setAnvil v x).legs = s.legs := rfl
@[simp] theorem State.setAnvil_planner (s : State) (v : Anvil) (x : AnvilSt) : (s.setAnvil v x).planner = s.planner := rfl
@[simp] theorem State.setAnvil_batches (s : State) (v : Anvil) (x : AnvilSt) : (s.setAnvil v x).batches = s.batches := rfl
@[simp] theorem State.setAnvil_closed (s : State) (v : Anvil) (x : AnvilSt) : (s.setAnvil v x).closed = s.closed := rfl
@[simp] theorem State.setAnvil_nextBatch (s : State) (v : Anvil) (x : AnvilSt) : (s.setAnvil v x).nextBatch = s.nextBatch := rfl
@[simp] theorem State.setAnvil_lateBatches (s : State) (v : Anvil) (x : AnvilSt) : (s.setAnvil v x).lateBatches = s.lateBatches := rfl
@[simp] theorem State.setAnvil_commitCount (s : State) (v : Anvil) (x : AnvilSt) : (s.setAnvil v x).commitCount = s.commitCount := rfl
@[simp] theorem State.setAnvil_sched (s : State) (v : Anvil) (x : AnvilSt) : (s.setAnvil v x).sched = s.sched := rfl
@[simp] theorem State.setAnvil_cfgs (s : State) (v : Anvil) (x : AnvilSt) : (s.setAnvil v x).cfgs = s.cfgs := rfl
@[simp] theorem State.setAnvil_elems (s : State) (v : Anvil) (x : AnvilSt) : (s.setAnvil v x).elems = s.elems := rfl
@[simp] theorem State.setAnvil_loopsStarted (s : State) (v : Anvil) (x : AnvilSt) : (s.setAnvil v x).loopsStarted = s.loopsStarted := rfl
@[simp] theorem State.setAnvil_lateSkips (s : State) (v : Anvil) (x : AnvilSt) : (s.setAnvil v x).lateSkips = s.lateSkips := rfl
@[simp] theorem State.setAnvil_notches (s : State) (v : Anvil) (x : AnvilSt) : (s.setAnvil v x).notches = s.notches := rfl
@[simp] theorem State.setAnvil_lanesA (s : State) (v : Anvil) (x : AnvilSt) : (s.setAnvil v x).lanesA = s.lanesA := rfl
@[simp] theorem State.setAnvil_lanesB (s : State) (v : Anvil) (x : AnvilSt) : (s.setAnvil v x).lanesB = s.lanesB := rfl
@[simp] theorem State.setAnvil_chans (s : State) (v : Anvil) (x : AnvilSt) : (s.setAnvil v x).chans = s.chans := rfl
@[simp] theorem State.setAnvil_ladder (s : State) (v : Anvil) (x : AnvilSt) : (s.setAnvil v x).ladder = s.ladder := rfl
@[simp] theorem State.setAnvil_mismatchesCleared (s : State) (v : Anvil) (x : AnvilSt) : (s.setAnvil v x).mismatchesCleared = s.mismatchesCleared := rfl
@[simp] theorem State.setAnvil_clear (s : State) (v : Anvil) (x : AnvilSt) : (s.setAnvil v x).clear = s.clear := rfl
@[simp] theorem State.setAnvil_aux (s : State) (v : Anvil) (x : AnvilSt) : (s.setAnvil v x).aux = s.aux := rfl
@[simp] theorem State.setAnvil_dets (s : State) (v : Anvil) (x : AnvilSt) : (s.setAnvil v x).dets = s.dets := rfl
@[simp] theorem State.setAnvil_buoys (s : State) (v : Anvil) (x : AnvilSt) : (s.setAnvil v x).buoys = s.buoys := rfl
@[simp] theorem State.setAnvil_ports (s : State) (v : Anvil) (x : AnvilSt) : (s.setAnvil v x).ports = s.ports := rfl
@[simp] theorem State.setAnvil_windowsDiscarded (s : State) (v : Anvil) (x : AnvilSt) : (s.setAnvil v x).windowsDiscarded = s.windowsDiscarded := rfl
@[simp] theorem State.setAnvil_ampNow (s : State) (v : Anvil) (x : AnvilSt) : (s.setAnvil v x).ampNow = s.ampNow := rfl
@[simp] theorem State.setAnvil_ampNext (s : State) (v : Anvil) (x : AnvilSt) : (s.setAnvil v x).ampNext = s.ampNext := rfl
@[simp] theorem State.setAnvil_audit (s : State) (v : Anvil) (x : AnvilSt) : (s.setAnvil v x).audit = s.audit := rfl
@[simp] theorem State.setAnvil_hm6 (s : State) (v : Anvil) (x : AnvilSt) : (s.setAnvil v x).hm6 = s.hm6 := rfl
@[simp] theorem State.setAnvil_hm7 (s : State) (v : Anvil) (x : AnvilSt) : (s.setAnvil v x).hm7 = s.hm7 := rfl
@[simp] theorem State.setAnvil_cal (s : State) (v : Anvil) (x : AnvilSt) : (s.setAnvil v x).cal = s.cal := rfl
@[simp] theorem State.setAnvil_thermal (s : State) (v : Anvil) (x : AnvilSt) : (s.setAnvil v x).thermal = s.thermal := rfl
@[simp] theorem State.setAnvil_fans (s : State) (v : Anvil) (x : AnvilSt) : (s.setAnvil v x).fans = s.fans := rfl
@[simp] theorem State.setAnvil_hkc0 (s : State) (v : Anvil) (x : AnvilSt) : (s.setAnvil v x).hkc0 = s.hkc0 := rfl
@[simp] theorem State.setAnvil_hkc1 (s : State) (v : Anvil) (x : AnvilSt) : (s.setAnvil v x).hkc1 = s.hkc1 := rfl
@[simp] theorem State.setAnvil_rewriting (s : State) (v : Anvil) (x : AnvilSt) : (s.setAnvil v x).rewriting = s.rewriting := rfl
@[simp] theorem State.setAnvil_mem (s : State) (v : Anvil) (x : AnvilSt) : (s.setAnvil v x).mem = s.mem := rfl
@[simp] theorem State.setAnvil_ddr (s : State) (v : Anvil) (x : AnvilSt) : (s.setAnvil v x).ddr = s.ddr := rfl
@[simp] theorem State.setAnvil_banks (s : State) (v : Anvil) (x : AnvilSt) : (s.setAnvil v x).banks = s.banks := rfl
@[simp] theorem State.setAnvil_proof (s : State) (v : Anvil) (x : AnvilSt) : (s.setAnvil v x).proof = s.proof := rfl
@[simp] theorem State.setAnvil_matrix (s : State) (v : Anvil) (x : AnvilSt) : (s.setAnvil v x).matrix = s.matrix := rfl
@[simp] theorem State.setAnvil_mbx (s : State) (v : Anvil) (x : AnvilSt) : (s.setAnvil v x).mbx = s.mbx := rfl
@[simp] theorem State.setAnvil_aex (s : State) (v : Anvil) (x : AnvilSt) : (s.setAnvil v x).aex = s.aex := rfl
@[simp] theorem State.setAnvil_sessions (s : State) (v : Anvil) (x : AnvilSt) : (s.setAnvil v x).sessions = s.sessions := rfl
@[simp] theorem State.setAnvil_kept (s : State) (v : Anvil) (x : AnvilSt) : (s.setAnvil v x).kept = s.kept := rfl
@[simp] theorem State.setAnvil_spi (s : State) (v : Anvil) (x : AnvilSt) : (s.setAnvil v x).spi = s.spi := rfl
@[simp] theorem State.setAnvil_bar2Sleep (s : State) (v : Anvil) (x : AnvilSt) : (s.setAnvil v x).bar2Sleep = s.bar2Sleep := rfl
@[simp] theorem State.setAnvil_disp (s : State) (v : Anvil) (x : AnvilSt) : (s.setAnvil v x).disp = s.disp := rfl
@[simp] theorem State.setAnvil_gate0 (s : State) (v : Anvil) (x : AnvilSt) : (s.setAnvil v x).gate0 = s.gate0 := rfl
@[simp] theorem State.setAnvil_gate1 (s : State) (v : Anvil) (x : AnvilSt) : (s.setAnvil v x).gate1 = s.gate1 := rfl
@[simp] theorem State.setAnvil_queues (s : State) (v : Anvil) (x : AnvilSt) : (s.setAnvil v x).queues = s.queues := rfl
@[simp] theorem State.setAnvil_events (s : State) (v : Anvil) (x : AnvilSt) : (s.setAnvil v x).events = s.events := rfl
@[simp] theorem State.setAnvil_objs (s : State) (v : Anvil) (x : AnvilSt) : (s.setAnvil v x).objs = s.objs := rfl
@[simp] theorem State.setAnvil_blobs (s : State) (v : Anvil) (x : AnvilSt) : (s.setAnvil v x).blobs = s.blobs := rfl
@[simp] theorem State.setAnvil_regs (s : State) (v : Anvil) (x : AnvilSt) : (s.setAnvil v x).regs = s.regs := rfl
@[simp] theorem State.setAnvil_shadowRegs (s : State) (v : Anvil) (x : AnvilSt) : (s.setAnvil v x).shadowRegs = s.shadowRegs := rfl
@[simp] theorem State.setAnvil_live (s : State) (v : Anvil) (x : AnvilSt) : (s.setAnvil v x).live = s.live := rfl
@[simp] theorem State.setAnvil_reject (s : State) (v : Anvil) (x : AnvilSt) : (s.setAnvil v x).reject = s.reject := rfl
@[simp] theorem State.setAnvil_out (s : State) (v : Anvil) (x : AnvilSt) : (s.setAnvil v x).out = s.out := rfl
@[simp] theorem State.setAnvil_freeCtr (s : State) (v : Anvil) (x : AnvilSt) : (s.setAnvil v x).freeCtr = s.freeCtr := rfl

/-! ### setBank -/

@[simp] theorem State.setBank_pending (s : State) (b : Nat) (v : Bank) : (s.setBank b v).pending = s.pending := rfl
@[simp] theorem State.setBank_time (s : State) (b : Nat) (v : Bank) : (s.setBank b v).time = s.time := rfl
@[simp] theorem State.setBank_ptp0 (s : State) (b : Nat) (v : Bank) : (s.setBank b v).ptp0 = s.ptp0 := rfl
@[simp] theorem State.setBank_ptp1 (s : State) (b : Nat) (v : Bank) : (s.setBank b v).ptp1 = s.ptp1 := rfl
@[simp] theorem State.setBank_ptpSel (s : State) (b : Nat) (v : Bank) : (s.setBank b v).ptpSel = s.ptpSel := rfl
@[simp] theorem State.setBank_caps (s : State) (b : Nat) (v : Bank) : (s.setBank b v).caps = s.caps := rfl
@[simp] theorem State.setBank_beacons (s : State) (b : Nat) (v : Bank) : (s.setBank b v).beacons = s.beacons := rfl
@[simp] theorem State.setBank_forge (s : State) (b : Nat) (v : Bank) : (s.setBank b v).forge = s.forge := rfl
@[simp] theorem State.setBank_power (s : State) (b : Nat) (v : Bank) : (s.setBank b v).power = s.power := rfl
@[simp] theorem State.setBank_boot (s : State) (b : Nat) (v : Bank) : (s.setBank b v).boot = s.boot := rfl
@[simp] theorem State.setBank_life (s : State) (b : Nat) (v : Bank) : (s.setBank b v).life = s.life := rfl
@[simp] theorem State.setBank_genEpoch (s : State) (b : Nat) (v : Bank) : (s.setBank b v).genEpoch = s.genEpoch := rfl
@[simp] theorem State.setBank_genCount (s : State) (b : Nat) (v : Bank) : (s.setBank b v).genCount = s.genCount := rfl
@[simp] theorem State.setBank_digest (s : State) (b : Nat) (v : Bank) : (s.setBank b v).digest = s.digest := rfl
@[simp] theorem State.setBank_digests (s : State) (b : Nat) (v : Bank) : (s.setBank b v).digests = s.digests := rfl
@[simp] theorem State.setBank_active (s : State) (b : Nat) (v : Bank) : (s.setBank b v).active = s.active := rfl
@[simp] theorem State.setBank_image (s : State) (b : Nat) (v : Bank) : (s.setBank b v).image = s.image := rfl
@[simp] theorem State.setBank_legs (s : State) (b : Nat) (v : Bank) : (s.setBank b v).legs = s.legs := rfl
@[simp] theorem State.setBank_planner (s : State) (b : Nat) (v : Bank) : (s.setBank b v).planner = s.planner := rfl
@[simp] theorem State.setBank_batches (s : State) (b : Nat) (v : Bank) : (s.setBank b v).batches = s.batches := rfl
@[simp] theorem State.setBank_closed (s : State) (b : Nat) (v : Bank) : (s.setBank b v).closed = s.closed := rfl
@[simp] theorem State.setBank_nextBatch (s : State) (b : Nat) (v : Bank) : (s.setBank b v).nextBatch = s.nextBatch := rfl
@[simp] theorem State.setBank_lateBatches (s : State) (b : Nat) (v : Bank) : (s.setBank b v).lateBatches = s.lateBatches := rfl
@[simp] theorem State.setBank_commitCount (s : State) (b : Nat) (v : Bank) : (s.setBank b v).commitCount = s.commitCount := rfl
@[simp] theorem State.setBank_sched (s : State) (b : Nat) (v : Bank) : (s.setBank b v).sched = s.sched := rfl
@[simp] theorem State.setBank_cfgs (s : State) (b : Nat) (v : Bank) : (s.setBank b v).cfgs = s.cfgs := rfl
@[simp] theorem State.setBank_elems (s : State) (b : Nat) (v : Bank) : (s.setBank b v).elems = s.elems := rfl
@[simp] theorem State.setBank_loopsStarted (s : State) (b : Nat) (v : Bank) : (s.setBank b v).loopsStarted = s.loopsStarted := rfl
@[simp] theorem State.setBank_lateSkips (s : State) (b : Nat) (v : Bank) : (s.setBank b v).lateSkips = s.lateSkips := rfl
@[simp] theorem State.setBank_notches (s : State) (b : Nat) (v : Bank) : (s.setBank b v).notches = s.notches := rfl
@[simp] theorem State.setBank_lanesA (s : State) (b : Nat) (v : Bank) : (s.setBank b v).lanesA = s.lanesA := rfl
@[simp] theorem State.setBank_lanesB (s : State) (b : Nat) (v : Bank) : (s.setBank b v).lanesB = s.lanesB := rfl
@[simp] theorem State.setBank_chans (s : State) (b : Nat) (v : Bank) : (s.setBank b v).chans = s.chans := rfl
@[simp] theorem State.setBank_ladder (s : State) (b : Nat) (v : Bank) : (s.setBank b v).ladder = s.ladder := rfl
@[simp] theorem State.setBank_mismatchesCleared (s : State) (b : Nat) (v : Bank) : (s.setBank b v).mismatchesCleared = s.mismatchesCleared := rfl
@[simp] theorem State.setBank_clear (s : State) (b : Nat) (v : Bank) : (s.setBank b v).clear = s.clear := rfl
@[simp] theorem State.setBank_aux (s : State) (b : Nat) (v : Bank) : (s.setBank b v).aux = s.aux := rfl
@[simp] theorem State.setBank_dets (s : State) (b : Nat) (v : Bank) : (s.setBank b v).dets = s.dets := rfl
@[simp] theorem State.setBank_buoys (s : State) (b : Nat) (v : Bank) : (s.setBank b v).buoys = s.buoys := rfl
@[simp] theorem State.setBank_ports (s : State) (b : Nat) (v : Bank) : (s.setBank b v).ports = s.ports := rfl
@[simp] theorem State.setBank_windowsDiscarded (s : State) (b : Nat) (v : Bank) : (s.setBank b v).windowsDiscarded = s.windowsDiscarded := rfl
@[simp] theorem State.setBank_ampNow (s : State) (b : Nat) (v : Bank) : (s.setBank b v).ampNow = s.ampNow := rfl
@[simp] theorem State.setBank_ampNext (s : State) (b : Nat) (v : Bank) : (s.setBank b v).ampNext = s.ampNext := rfl
@[simp] theorem State.setBank_audit (s : State) (b : Nat) (v : Bank) : (s.setBank b v).audit = s.audit := rfl
@[simp] theorem State.setBank_hm6 (s : State) (b : Nat) (v : Bank) : (s.setBank b v).hm6 = s.hm6 := rfl
@[simp] theorem State.setBank_hm7 (s : State) (b : Nat) (v : Bank) : (s.setBank b v).hm7 = s.hm7 := rfl
@[simp] theorem State.setBank_keeper (s : State) (b : Nat) (v : Bank) : (s.setBank b v).keeper = s.keeper := rfl
@[simp] theorem State.setBank_cal (s : State) (b : Nat) (v : Bank) : (s.setBank b v).cal = s.cal := rfl
@[simp] theorem State.setBank_thermal (s : State) (b : Nat) (v : Bank) : (s.setBank b v).thermal = s.thermal := rfl
@[simp] theorem State.setBank_fans (s : State) (b : Nat) (v : Bank) : (s.setBank b v).fans = s.fans := rfl
@[simp] theorem State.setBank_hkc0 (s : State) (b : Nat) (v : Bank) : (s.setBank b v).hkc0 = s.hkc0 := rfl
@[simp] theorem State.setBank_hkc1 (s : State) (b : Nat) (v : Bank) : (s.setBank b v).hkc1 = s.hkc1 := rfl
@[simp] theorem State.setBank_rewriting (s : State) (b : Nat) (v : Bank) : (s.setBank b v).rewriting = s.rewriting := rfl
@[simp] theorem State.setBank_mem (s : State) (b : Nat) (v : Bank) : (s.setBank b v).mem = s.mem := rfl
@[simp] theorem State.setBank_ddr (s : State) (b : Nat) (v : Bank) : (s.setBank b v).ddr = s.ddr := rfl
@[simp] theorem State.setBank_proof (s : State) (b : Nat) (v : Bank) : (s.setBank b v).proof = s.proof := rfl
@[simp] theorem State.setBank_matrix (s : State) (b : Nat) (v : Bank) : (s.setBank b v).matrix = s.matrix := rfl
@[simp] theorem State.setBank_mbx (s : State) (b : Nat) (v : Bank) : (s.setBank b v).mbx = s.mbx := rfl
@[simp] theorem State.setBank_aex (s : State) (b : Nat) (v : Bank) : (s.setBank b v).aex = s.aex := rfl
@[simp] theorem State.setBank_sessions (s : State) (b : Nat) (v : Bank) : (s.setBank b v).sessions = s.sessions := rfl
@[simp] theorem State.setBank_kept (s : State) (b : Nat) (v : Bank) : (s.setBank b v).kept = s.kept := rfl
@[simp] theorem State.setBank_spi (s : State) (b : Nat) (v : Bank) : (s.setBank b v).spi = s.spi := rfl
@[simp] theorem State.setBank_bar2Sleep (s : State) (b : Nat) (v : Bank) : (s.setBank b v).bar2Sleep = s.bar2Sleep := rfl
@[simp] theorem State.setBank_disp (s : State) (b : Nat) (v : Bank) : (s.setBank b v).disp = s.disp := rfl
@[simp] theorem State.setBank_gate0 (s : State) (b : Nat) (v : Bank) : (s.setBank b v).gate0 = s.gate0 := rfl
@[simp] theorem State.setBank_gate1 (s : State) (b : Nat) (v : Bank) : (s.setBank b v).gate1 = s.gate1 := rfl
@[simp] theorem State.setBank_queues (s : State) (b : Nat) (v : Bank) : (s.setBank b v).queues = s.queues := rfl
@[simp] theorem State.setBank_events (s : State) (b : Nat) (v : Bank) : (s.setBank b v).events = s.events := rfl
@[simp] theorem State.setBank_objs (s : State) (b : Nat) (v : Bank) : (s.setBank b v).objs = s.objs := rfl
@[simp] theorem State.setBank_blobs (s : State) (b : Nat) (v : Bank) : (s.setBank b v).blobs = s.blobs := rfl
@[simp] theorem State.setBank_regs (s : State) (b : Nat) (v : Bank) : (s.setBank b v).regs = s.regs := rfl
@[simp] theorem State.setBank_shadowRegs (s : State) (b : Nat) (v : Bank) : (s.setBank b v).shadowRegs = s.shadowRegs := rfl
@[simp] theorem State.setBank_live (s : State) (b : Nat) (v : Bank) : (s.setBank b v).live = s.live := rfl
@[simp] theorem State.setBank_reject (s : State) (b : Nat) (v : Bank) : (s.setBank b v).reject = s.reject := rfl
@[simp] theorem State.setBank_out (s : State) (b : Nat) (v : Bank) : (s.setBank b v).out = s.out := rfl
@[simp] theorem State.setBank_freeCtr (s : State) (b : Nat) (v : Bank) : (s.setBank b v).freeCtr = s.freeCtr := rfl

/-! ### setObj -/

@[simp] theorem State.setObj_pending (s : State) (ix sub v : Nat) : (s.setObj ix sub v).pending = s.pending := rfl
@[simp] theorem State.setObj_time (s : State) (ix sub v : Nat) : (s.setObj ix sub v).time = s.time := rfl
@[simp] theorem State.setObj_ptp0 (s : State) (ix sub v : Nat) : (s.setObj ix sub v).ptp0 = s.ptp0 := rfl
@[simp] theorem State.setObj_ptp1 (s : State) (ix sub v : Nat) : (s.setObj ix sub v).ptp1 = s.ptp1 := rfl
@[simp] theorem State.setObj_ptpSel (s : State) (ix sub v : Nat) : (s.setObj ix sub v).ptpSel = s.ptpSel := rfl
@[simp] theorem State.setObj_caps (s : State) (ix sub v : Nat) : (s.setObj ix sub v).caps = s.caps := rfl
@[simp] theorem State.setObj_beacons (s : State) (ix sub v : Nat) : (s.setObj ix sub v).beacons = s.beacons := rfl
@[simp] theorem State.setObj_forge (s : State) (ix sub v : Nat) : (s.setObj ix sub v).forge = s.forge := rfl
@[simp] theorem State.setObj_power (s : State) (ix sub v : Nat) : (s.setObj ix sub v).power = s.power := rfl
@[simp] theorem State.setObj_boot (s : State) (ix sub v : Nat) : (s.setObj ix sub v).boot = s.boot := rfl
@[simp] theorem State.setObj_life (s : State) (ix sub v : Nat) : (s.setObj ix sub v).life = s.life := rfl
@[simp] theorem State.setObj_genEpoch (s : State) (ix sub v : Nat) : (s.setObj ix sub v).genEpoch = s.genEpoch := rfl
@[simp] theorem State.setObj_genCount (s : State) (ix sub v : Nat) : (s.setObj ix sub v).genCount = s.genCount := rfl
@[simp] theorem State.setObj_digest (s : State) (ix sub v : Nat) : (s.setObj ix sub v).digest = s.digest := rfl
@[simp] theorem State.setObj_digests (s : State) (ix sub v : Nat) : (s.setObj ix sub v).digests = s.digests := rfl
@[simp] theorem State.setObj_active (s : State) (ix sub v : Nat) : (s.setObj ix sub v).active = s.active := rfl
@[simp] theorem State.setObj_image (s : State) (ix sub v : Nat) : (s.setObj ix sub v).image = s.image := rfl
@[simp] theorem State.setObj_legs (s : State) (ix sub v : Nat) : (s.setObj ix sub v).legs = s.legs := rfl
@[simp] theorem State.setObj_planner (s : State) (ix sub v : Nat) : (s.setObj ix sub v).planner = s.planner := rfl
@[simp] theorem State.setObj_batches (s : State) (ix sub v : Nat) : (s.setObj ix sub v).batches = s.batches := rfl
@[simp] theorem State.setObj_closed (s : State) (ix sub v : Nat) : (s.setObj ix sub v).closed = s.closed := rfl
@[simp] theorem State.setObj_nextBatch (s : State) (ix sub v : Nat) : (s.setObj ix sub v).nextBatch = s.nextBatch := rfl
@[simp] theorem State.setObj_lateBatches (s : State) (ix sub v : Nat) : (s.setObj ix sub v).lateBatches = s.lateBatches := rfl
@[simp] theorem State.setObj_commitCount (s : State) (ix sub v : Nat) : (s.setObj ix sub v).commitCount = s.commitCount := rfl
@[simp] theorem State.setObj_sched (s : State) (ix sub v : Nat) : (s.setObj ix sub v).sched = s.sched := rfl
@[simp] theorem State.setObj_cfgs (s : State) (ix sub v : Nat) : (s.setObj ix sub v).cfgs = s.cfgs := rfl
@[simp] theorem State.setObj_elems (s : State) (ix sub v : Nat) : (s.setObj ix sub v).elems = s.elems := rfl
@[simp] theorem State.setObj_loopsStarted (s : State) (ix sub v : Nat) : (s.setObj ix sub v).loopsStarted = s.loopsStarted := rfl
@[simp] theorem State.setObj_lateSkips (s : State) (ix sub v : Nat) : (s.setObj ix sub v).lateSkips = s.lateSkips := rfl
@[simp] theorem State.setObj_notches (s : State) (ix sub v : Nat) : (s.setObj ix sub v).notches = s.notches := rfl
@[simp] theorem State.setObj_lanesA (s : State) (ix sub v : Nat) : (s.setObj ix sub v).lanesA = s.lanesA := rfl
@[simp] theorem State.setObj_lanesB (s : State) (ix sub v : Nat) : (s.setObj ix sub v).lanesB = s.lanesB := rfl
@[simp] theorem State.setObj_chans (s : State) (ix sub v : Nat) : (s.setObj ix sub v).chans = s.chans := rfl
@[simp] theorem State.setObj_ladder (s : State) (ix sub v : Nat) : (s.setObj ix sub v).ladder = s.ladder := rfl
@[simp] theorem State.setObj_mismatchesCleared (s : State) (ix sub v : Nat) : (s.setObj ix sub v).mismatchesCleared = s.mismatchesCleared := rfl
@[simp] theorem State.setObj_clear (s : State) (ix sub v : Nat) : (s.setObj ix sub v).clear = s.clear := rfl
@[simp] theorem State.setObj_aux (s : State) (ix sub v : Nat) : (s.setObj ix sub v).aux = s.aux := rfl
@[simp] theorem State.setObj_dets (s : State) (ix sub v : Nat) : (s.setObj ix sub v).dets = s.dets := rfl
@[simp] theorem State.setObj_buoys (s : State) (ix sub v : Nat) : (s.setObj ix sub v).buoys = s.buoys := rfl
@[simp] theorem State.setObj_ports (s : State) (ix sub v : Nat) : (s.setObj ix sub v).ports = s.ports := rfl
@[simp] theorem State.setObj_windowsDiscarded (s : State) (ix sub v : Nat) : (s.setObj ix sub v).windowsDiscarded = s.windowsDiscarded := rfl
@[simp] theorem State.setObj_ampNow (s : State) (ix sub v : Nat) : (s.setObj ix sub v).ampNow = s.ampNow := rfl
@[simp] theorem State.setObj_ampNext (s : State) (ix sub v : Nat) : (s.setObj ix sub v).ampNext = s.ampNext := rfl
@[simp] theorem State.setObj_audit (s : State) (ix sub v : Nat) : (s.setObj ix sub v).audit = s.audit := rfl
@[simp] theorem State.setObj_hm6 (s : State) (ix sub v : Nat) : (s.setObj ix sub v).hm6 = s.hm6 := rfl
@[simp] theorem State.setObj_hm7 (s : State) (ix sub v : Nat) : (s.setObj ix sub v).hm7 = s.hm7 := rfl
@[simp] theorem State.setObj_keeper (s : State) (ix sub v : Nat) : (s.setObj ix sub v).keeper = s.keeper := rfl
@[simp] theorem State.setObj_cal (s : State) (ix sub v : Nat) : (s.setObj ix sub v).cal = s.cal := rfl
@[simp] theorem State.setObj_thermal (s : State) (ix sub v : Nat) : (s.setObj ix sub v).thermal = s.thermal := rfl
@[simp] theorem State.setObj_fans (s : State) (ix sub v : Nat) : (s.setObj ix sub v).fans = s.fans := rfl
@[simp] theorem State.setObj_hkc0 (s : State) (ix sub v : Nat) : (s.setObj ix sub v).hkc0 = s.hkc0 := rfl
@[simp] theorem State.setObj_hkc1 (s : State) (ix sub v : Nat) : (s.setObj ix sub v).hkc1 = s.hkc1 := rfl
@[simp] theorem State.setObj_rewriting (s : State) (ix sub v : Nat) : (s.setObj ix sub v).rewriting = s.rewriting := rfl
@[simp] theorem State.setObj_mem (s : State) (ix sub v : Nat) : (s.setObj ix sub v).mem = s.mem := rfl
@[simp] theorem State.setObj_ddr (s : State) (ix sub v : Nat) : (s.setObj ix sub v).ddr = s.ddr := rfl
@[simp] theorem State.setObj_banks (s : State) (ix sub v : Nat) : (s.setObj ix sub v).banks = s.banks := rfl
@[simp] theorem State.setObj_proof (s : State) (ix sub v : Nat) : (s.setObj ix sub v).proof = s.proof := rfl
@[simp] theorem State.setObj_matrix (s : State) (ix sub v : Nat) : (s.setObj ix sub v).matrix = s.matrix := rfl
@[simp] theorem State.setObj_mbx (s : State) (ix sub v : Nat) : (s.setObj ix sub v).mbx = s.mbx := rfl
@[simp] theorem State.setObj_aex (s : State) (ix sub v : Nat) : (s.setObj ix sub v).aex = s.aex := rfl
@[simp] theorem State.setObj_sessions (s : State) (ix sub v : Nat) : (s.setObj ix sub v).sessions = s.sessions := rfl
@[simp] theorem State.setObj_kept (s : State) (ix sub v : Nat) : (s.setObj ix sub v).kept = s.kept := rfl
@[simp] theorem State.setObj_spi (s : State) (ix sub v : Nat) : (s.setObj ix sub v).spi = s.spi := rfl
@[simp] theorem State.setObj_bar2Sleep (s : State) (ix sub v : Nat) : (s.setObj ix sub v).bar2Sleep = s.bar2Sleep := rfl
@[simp] theorem State.setObj_disp (s : State) (ix sub v : Nat) : (s.setObj ix sub v).disp = s.disp := rfl
@[simp] theorem State.setObj_gate0 (s : State) (ix sub v : Nat) : (s.setObj ix sub v).gate0 = s.gate0 := rfl
@[simp] theorem State.setObj_gate1 (s : State) (ix sub v : Nat) : (s.setObj ix sub v).gate1 = s.gate1 := rfl
@[simp] theorem State.setObj_queues (s : State) (ix sub v : Nat) : (s.setObj ix sub v).queues = s.queues := rfl
@[simp] theorem State.setObj_events (s : State) (ix sub v : Nat) : (s.setObj ix sub v).events = s.events := rfl
@[simp] theorem State.setObj_blobs (s : State) (ix sub v : Nat) : (s.setObj ix sub v).blobs = s.blobs := rfl
@[simp] theorem State.setObj_regs (s : State) (ix sub v : Nat) : (s.setObj ix sub v).regs = s.regs := rfl
@[simp] theorem State.setObj_shadowRegs (s : State) (ix sub v : Nat) : (s.setObj ix sub v).shadowRegs = s.shadowRegs := rfl
@[simp] theorem State.setObj_live (s : State) (ix sub v : Nat) : (s.setObj ix sub v).live = s.live := rfl
@[simp] theorem State.setObj_reject (s : State) (ix sub v : Nat) : (s.setObj ix sub v).reject = s.reject := rfl
@[simp] theorem State.setObj_out (s : State) (ix sub v : Nat) : (s.setObj ix sub v).out = s.out := rfl
@[simp] theorem State.setObj_freeCtr (s : State) (ix sub v : Nat) : (s.setObj ix sub v).freeCtr = s.freeCtr := rfl

/-! ### setPtp -/

@[simp] theorem State.setPtp_pending (s : State) (p : Nat) (v : PtpPort) : (s.setPtp p v).pending = s.pending := rfl
@[simp] theorem State.setPtp_time (s : State) (p : Nat) (v : PtpPort) : (s.setPtp p v).time = s.time := rfl
@[simp] theorem State.setPtp_ptpSel (s : State) (p : Nat) (v : PtpPort) : (s.setPtp p v).ptpSel = s.ptpSel := rfl
@[simp] theorem State.setPtp_caps (s : State) (p : Nat) (v : PtpPort) : (s.setPtp p v).caps = s.caps := rfl
@[simp] theorem State.setPtp_beacons (s : State) (p : Nat) (v : PtpPort) : (s.setPtp p v).beacons = s.beacons := rfl
@[simp] theorem State.setPtp_forge (s : State) (p : Nat) (v : PtpPort) : (s.setPtp p v).forge = s.forge := rfl
@[simp] theorem State.setPtp_power (s : State) (p : Nat) (v : PtpPort) : (s.setPtp p v).power = s.power := rfl
@[simp] theorem State.setPtp_boot (s : State) (p : Nat) (v : PtpPort) : (s.setPtp p v).boot = s.boot := rfl
@[simp] theorem State.setPtp_life (s : State) (p : Nat) (v : PtpPort) : (s.setPtp p v).life = s.life := rfl
@[simp] theorem State.setPtp_genEpoch (s : State) (p : Nat) (v : PtpPort) : (s.setPtp p v).genEpoch = s.genEpoch := rfl
@[simp] theorem State.setPtp_genCount (s : State) (p : Nat) (v : PtpPort) : (s.setPtp p v).genCount = s.genCount := rfl
@[simp] theorem State.setPtp_digest (s : State) (p : Nat) (v : PtpPort) : (s.setPtp p v).digest = s.digest := rfl
@[simp] theorem State.setPtp_digests (s : State) (p : Nat) (v : PtpPort) : (s.setPtp p v).digests = s.digests := rfl
@[simp] theorem State.setPtp_active (s : State) (p : Nat) (v : PtpPort) : (s.setPtp p v).active = s.active := rfl
@[simp] theorem State.setPtp_image (s : State) (p : Nat) (v : PtpPort) : (s.setPtp p v).image = s.image := rfl
@[simp] theorem State.setPtp_legs (s : State) (p : Nat) (v : PtpPort) : (s.setPtp p v).legs = s.legs := rfl
@[simp] theorem State.setPtp_planner (s : State) (p : Nat) (v : PtpPort) : (s.setPtp p v).planner = s.planner := rfl
@[simp] theorem State.setPtp_batches (s : State) (p : Nat) (v : PtpPort) : (s.setPtp p v).batches = s.batches := rfl
@[simp] theorem State.setPtp_closed (s : State) (p : Nat) (v : PtpPort) : (s.setPtp p v).closed = s.closed := rfl
@[simp] theorem State.setPtp_nextBatch (s : State) (p : Nat) (v : PtpPort) : (s.setPtp p v).nextBatch = s.nextBatch := rfl
@[simp] theorem State.setPtp_lateBatches (s : State) (p : Nat) (v : PtpPort) : (s.setPtp p v).lateBatches = s.lateBatches := rfl
@[simp] theorem State.setPtp_commitCount (s : State) (p : Nat) (v : PtpPort) : (s.setPtp p v).commitCount = s.commitCount := rfl
@[simp] theorem State.setPtp_sched (s : State) (p : Nat) (v : PtpPort) : (s.setPtp p v).sched = s.sched := rfl
@[simp] theorem State.setPtp_cfgs (s : State) (p : Nat) (v : PtpPort) : (s.setPtp p v).cfgs = s.cfgs := rfl
@[simp] theorem State.setPtp_elems (s : State) (p : Nat) (v : PtpPort) : (s.setPtp p v).elems = s.elems := rfl
@[simp] theorem State.setPtp_loopsStarted (s : State) (p : Nat) (v : PtpPort) : (s.setPtp p v).loopsStarted = s.loopsStarted := rfl
@[simp] theorem State.setPtp_lateSkips (s : State) (p : Nat) (v : PtpPort) : (s.setPtp p v).lateSkips = s.lateSkips := rfl
@[simp] theorem State.setPtp_notches (s : State) (p : Nat) (v : PtpPort) : (s.setPtp p v).notches = s.notches := rfl
@[simp] theorem State.setPtp_lanesA (s : State) (p : Nat) (v : PtpPort) : (s.setPtp p v).lanesA = s.lanesA := rfl
@[simp] theorem State.setPtp_lanesB (s : State) (p : Nat) (v : PtpPort) : (s.setPtp p v).lanesB = s.lanesB := rfl
@[simp] theorem State.setPtp_chans (s : State) (p : Nat) (v : PtpPort) : (s.setPtp p v).chans = s.chans := rfl
@[simp] theorem State.setPtp_ladder (s : State) (p : Nat) (v : PtpPort) : (s.setPtp p v).ladder = s.ladder := rfl
@[simp] theorem State.setPtp_mismatchesCleared (s : State) (p : Nat) (v : PtpPort) : (s.setPtp p v).mismatchesCleared = s.mismatchesCleared := rfl
@[simp] theorem State.setPtp_clear (s : State) (p : Nat) (v : PtpPort) : (s.setPtp p v).clear = s.clear := rfl
@[simp] theorem State.setPtp_aux (s : State) (p : Nat) (v : PtpPort) : (s.setPtp p v).aux = s.aux := rfl
@[simp] theorem State.setPtp_dets (s : State) (p : Nat) (v : PtpPort) : (s.setPtp p v).dets = s.dets := rfl
@[simp] theorem State.setPtp_buoys (s : State) (p : Nat) (v : PtpPort) : (s.setPtp p v).buoys = s.buoys := rfl
@[simp] theorem State.setPtp_ports (s : State) (p : Nat) (v : PtpPort) : (s.setPtp p v).ports = s.ports := rfl
@[simp] theorem State.setPtp_windowsDiscarded (s : State) (p : Nat) (v : PtpPort) : (s.setPtp p v).windowsDiscarded = s.windowsDiscarded := rfl
@[simp] theorem State.setPtp_ampNow (s : State) (p : Nat) (v : PtpPort) : (s.setPtp p v).ampNow = s.ampNow := rfl
@[simp] theorem State.setPtp_ampNext (s : State) (p : Nat) (v : PtpPort) : (s.setPtp p v).ampNext = s.ampNext := rfl
@[simp] theorem State.setPtp_audit (s : State) (p : Nat) (v : PtpPort) : (s.setPtp p v).audit = s.audit := rfl
@[simp] theorem State.setPtp_hm6 (s : State) (p : Nat) (v : PtpPort) : (s.setPtp p v).hm6 = s.hm6 := rfl
@[simp] theorem State.setPtp_hm7 (s : State) (p : Nat) (v : PtpPort) : (s.setPtp p v).hm7 = s.hm7 := rfl
@[simp] theorem State.setPtp_keeper (s : State) (p : Nat) (v : PtpPort) : (s.setPtp p v).keeper = s.keeper := rfl
@[simp] theorem State.setPtp_cal (s : State) (p : Nat) (v : PtpPort) : (s.setPtp p v).cal = s.cal := rfl
@[simp] theorem State.setPtp_thermal (s : State) (p : Nat) (v : PtpPort) : (s.setPtp p v).thermal = s.thermal := rfl
@[simp] theorem State.setPtp_fans (s : State) (p : Nat) (v : PtpPort) : (s.setPtp p v).fans = s.fans := rfl
@[simp] theorem State.setPtp_hkc0 (s : State) (p : Nat) (v : PtpPort) : (s.setPtp p v).hkc0 = s.hkc0 := rfl
@[simp] theorem State.setPtp_hkc1 (s : State) (p : Nat) (v : PtpPort) : (s.setPtp p v).hkc1 = s.hkc1 := rfl
@[simp] theorem State.setPtp_rewriting (s : State) (p : Nat) (v : PtpPort) : (s.setPtp p v).rewriting = s.rewriting := rfl
@[simp] theorem State.setPtp_mem (s : State) (p : Nat) (v : PtpPort) : (s.setPtp p v).mem = s.mem := rfl
@[simp] theorem State.setPtp_ddr (s : State) (p : Nat) (v : PtpPort) : (s.setPtp p v).ddr = s.ddr := rfl
@[simp] theorem State.setPtp_banks (s : State) (p : Nat) (v : PtpPort) : (s.setPtp p v).banks = s.banks := rfl
@[simp] theorem State.setPtp_proof (s : State) (p : Nat) (v : PtpPort) : (s.setPtp p v).proof = s.proof := rfl
@[simp] theorem State.setPtp_matrix (s : State) (p : Nat) (v : PtpPort) : (s.setPtp p v).matrix = s.matrix := rfl
@[simp] theorem State.setPtp_mbx (s : State) (p : Nat) (v : PtpPort) : (s.setPtp p v).mbx = s.mbx := rfl
@[simp] theorem State.setPtp_aex (s : State) (p : Nat) (v : PtpPort) : (s.setPtp p v).aex = s.aex := rfl
@[simp] theorem State.setPtp_sessions (s : State) (p : Nat) (v : PtpPort) : (s.setPtp p v).sessions = s.sessions := rfl
@[simp] theorem State.setPtp_kept (s : State) (p : Nat) (v : PtpPort) : (s.setPtp p v).kept = s.kept := rfl
@[simp] theorem State.setPtp_spi (s : State) (p : Nat) (v : PtpPort) : (s.setPtp p v).spi = s.spi := rfl
@[simp] theorem State.setPtp_bar2Sleep (s : State) (p : Nat) (v : PtpPort) : (s.setPtp p v).bar2Sleep = s.bar2Sleep := rfl
@[simp] theorem State.setPtp_disp (s : State) (p : Nat) (v : PtpPort) : (s.setPtp p v).disp = s.disp := rfl
@[simp] theorem State.setPtp_gate0 (s : State) (p : Nat) (v : PtpPort) : (s.setPtp p v).gate0 = s.gate0 := rfl
@[simp] theorem State.setPtp_gate1 (s : State) (p : Nat) (v : PtpPort) : (s.setPtp p v).gate1 = s.gate1 := rfl
@[simp] theorem State.setPtp_queues (s : State) (p : Nat) (v : PtpPort) : (s.setPtp p v).queues = s.queues := rfl
@[simp] theorem State.setPtp_events (s : State) (p : Nat) (v : PtpPort) : (s.setPtp p v).events = s.events := rfl
@[simp] theorem State.setPtp_objs (s : State) (p : Nat) (v : PtpPort) : (s.setPtp p v).objs = s.objs := rfl
@[simp] theorem State.setPtp_blobs (s : State) (p : Nat) (v : PtpPort) : (s.setPtp p v).blobs = s.blobs := rfl
@[simp] theorem State.setPtp_regs (s : State) (p : Nat) (v : PtpPort) : (s.setPtp p v).regs = s.regs := rfl
@[simp] theorem State.setPtp_shadowRegs (s : State) (p : Nat) (v : PtpPort) : (s.setPtp p v).shadowRegs = s.shadowRegs := rfl
@[simp] theorem State.setPtp_live (s : State) (p : Nat) (v : PtpPort) : (s.setPtp p v).live = s.live := rfl
@[simp] theorem State.setPtp_reject (s : State) (p : Nat) (v : PtpPort) : (s.setPtp p v).reject = s.reject := rfl
@[simp] theorem State.setPtp_out (s : State) (p : Nat) (v : PtpPort) : (s.setPtp p v).out = s.out := rfl
@[simp] theorem State.setPtp_freeCtr (s : State) (p : Nat) (v : PtpPort) : (s.setPtp p v).freeCtr = s.freeCtr := rfl

/-! ### setReg -/

@[simp] theorem State.setReg_pending (s : State) (off v : Nat) : (s.setReg off v).pending = s.pending := rfl
@[simp] theorem State.setReg_time (s : State) (off v : Nat) : (s.setReg off v).time = s.time := rfl
@[simp] theorem State.setReg_ptp0 (s : State) (off v : Nat) : (s.setReg off v).ptp0 = s.ptp0 := rfl
@[simp] theorem State.setReg_ptp1 (s : State) (off v : Nat) : (s.setReg off v).ptp1 = s.ptp1 := rfl
@[simp] theorem State.setReg_ptpSel (s : State) (off v : Nat) : (s.setReg off v).ptpSel = s.ptpSel := rfl
@[simp] theorem State.setReg_caps (s : State) (off v : Nat) : (s.setReg off v).caps = s.caps := rfl
@[simp] theorem State.setReg_beacons (s : State) (off v : Nat) : (s.setReg off v).beacons = s.beacons := rfl
@[simp] theorem State.setReg_forge (s : State) (off v : Nat) : (s.setReg off v).forge = s.forge := rfl
@[simp] theorem State.setReg_power (s : State) (off v : Nat) : (s.setReg off v).power = s.power := rfl
@[simp] theorem State.setReg_boot (s : State) (off v : Nat) : (s.setReg off v).boot = s.boot := rfl
@[simp] theorem State.setReg_life (s : State) (off v : Nat) : (s.setReg off v).life = s.life := rfl
@[simp] theorem State.setReg_genEpoch (s : State) (off v : Nat) : (s.setReg off v).genEpoch = s.genEpoch := rfl
@[simp] theorem State.setReg_genCount (s : State) (off v : Nat) : (s.setReg off v).genCount = s.genCount := rfl
@[simp] theorem State.setReg_digest (s : State) (off v : Nat) : (s.setReg off v).digest = s.digest := rfl
@[simp] theorem State.setReg_digests (s : State) (off v : Nat) : (s.setReg off v).digests = s.digests := rfl
@[simp] theorem State.setReg_active (s : State) (off v : Nat) : (s.setReg off v).active = s.active := rfl
@[simp] theorem State.setReg_image (s : State) (off v : Nat) : (s.setReg off v).image = s.image := rfl
@[simp] theorem State.setReg_legs (s : State) (off v : Nat) : (s.setReg off v).legs = s.legs := rfl
@[simp] theorem State.setReg_planner (s : State) (off v : Nat) : (s.setReg off v).planner = s.planner := rfl
@[simp] theorem State.setReg_batches (s : State) (off v : Nat) : (s.setReg off v).batches = s.batches := rfl
@[simp] theorem State.setReg_closed (s : State) (off v : Nat) : (s.setReg off v).closed = s.closed := rfl
@[simp] theorem State.setReg_nextBatch (s : State) (off v : Nat) : (s.setReg off v).nextBatch = s.nextBatch := rfl
@[simp] theorem State.setReg_lateBatches (s : State) (off v : Nat) : (s.setReg off v).lateBatches = s.lateBatches := rfl
@[simp] theorem State.setReg_commitCount (s : State) (off v : Nat) : (s.setReg off v).commitCount = s.commitCount := rfl
@[simp] theorem State.setReg_sched (s : State) (off v : Nat) : (s.setReg off v).sched = s.sched := rfl
@[simp] theorem State.setReg_cfgs (s : State) (off v : Nat) : (s.setReg off v).cfgs = s.cfgs := rfl
@[simp] theorem State.setReg_elems (s : State) (off v : Nat) : (s.setReg off v).elems = s.elems := rfl
@[simp] theorem State.setReg_loopsStarted (s : State) (off v : Nat) : (s.setReg off v).loopsStarted = s.loopsStarted := rfl
@[simp] theorem State.setReg_lateSkips (s : State) (off v : Nat) : (s.setReg off v).lateSkips = s.lateSkips := rfl
@[simp] theorem State.setReg_notches (s : State) (off v : Nat) : (s.setReg off v).notches = s.notches := rfl
@[simp] theorem State.setReg_lanesA (s : State) (off v : Nat) : (s.setReg off v).lanesA = s.lanesA := rfl
@[simp] theorem State.setReg_lanesB (s : State) (off v : Nat) : (s.setReg off v).lanesB = s.lanesB := rfl
@[simp] theorem State.setReg_chans (s : State) (off v : Nat) : (s.setReg off v).chans = s.chans := rfl
@[simp] theorem State.setReg_ladder (s : State) (off v : Nat) : (s.setReg off v).ladder = s.ladder := rfl
@[simp] theorem State.setReg_mismatchesCleared (s : State) (off v : Nat) : (s.setReg off v).mismatchesCleared = s.mismatchesCleared := rfl
@[simp] theorem State.setReg_clear (s : State) (off v : Nat) : (s.setReg off v).clear = s.clear := rfl
@[simp] theorem State.setReg_aux (s : State) (off v : Nat) : (s.setReg off v).aux = s.aux := rfl
@[simp] theorem State.setReg_dets (s : State) (off v : Nat) : (s.setReg off v).dets = s.dets := rfl
@[simp] theorem State.setReg_buoys (s : State) (off v : Nat) : (s.setReg off v).buoys = s.buoys := rfl
@[simp] theorem State.setReg_ports (s : State) (off v : Nat) : (s.setReg off v).ports = s.ports := rfl
@[simp] theorem State.setReg_windowsDiscarded (s : State) (off v : Nat) : (s.setReg off v).windowsDiscarded = s.windowsDiscarded := rfl
@[simp] theorem State.setReg_ampNow (s : State) (off v : Nat) : (s.setReg off v).ampNow = s.ampNow := rfl
@[simp] theorem State.setReg_ampNext (s : State) (off v : Nat) : (s.setReg off v).ampNext = s.ampNext := rfl
@[simp] theorem State.setReg_audit (s : State) (off v : Nat) : (s.setReg off v).audit = s.audit := rfl
@[simp] theorem State.setReg_hm6 (s : State) (off v : Nat) : (s.setReg off v).hm6 = s.hm6 := rfl
@[simp] theorem State.setReg_hm7 (s : State) (off v : Nat) : (s.setReg off v).hm7 = s.hm7 := rfl
@[simp] theorem State.setReg_keeper (s : State) (off v : Nat) : (s.setReg off v).keeper = s.keeper := rfl
@[simp] theorem State.setReg_cal (s : State) (off v : Nat) : (s.setReg off v).cal = s.cal := rfl
@[simp] theorem State.setReg_thermal (s : State) (off v : Nat) : (s.setReg off v).thermal = s.thermal := rfl
@[simp] theorem State.setReg_fans (s : State) (off v : Nat) : (s.setReg off v).fans = s.fans := rfl
@[simp] theorem State.setReg_hkc0 (s : State) (off v : Nat) : (s.setReg off v).hkc0 = s.hkc0 := rfl
@[simp] theorem State.setReg_hkc1 (s : State) (off v : Nat) : (s.setReg off v).hkc1 = s.hkc1 := rfl
@[simp] theorem State.setReg_rewriting (s : State) (off v : Nat) : (s.setReg off v).rewriting = s.rewriting := rfl
@[simp] theorem State.setReg_mem (s : State) (off v : Nat) : (s.setReg off v).mem = s.mem := rfl
@[simp] theorem State.setReg_ddr (s : State) (off v : Nat) : (s.setReg off v).ddr = s.ddr := rfl
@[simp] theorem State.setReg_banks (s : State) (off v : Nat) : (s.setReg off v).banks = s.banks := rfl
@[simp] theorem State.setReg_proof (s : State) (off v : Nat) : (s.setReg off v).proof = s.proof := rfl
@[simp] theorem State.setReg_matrix (s : State) (off v : Nat) : (s.setReg off v).matrix = s.matrix := rfl
@[simp] theorem State.setReg_mbx (s : State) (off v : Nat) : (s.setReg off v).mbx = s.mbx := rfl
@[simp] theorem State.setReg_aex (s : State) (off v : Nat) : (s.setReg off v).aex = s.aex := rfl
@[simp] theorem State.setReg_sessions (s : State) (off v : Nat) : (s.setReg off v).sessions = s.sessions := rfl
@[simp] theorem State.setReg_kept (s : State) (off v : Nat) : (s.setReg off v).kept = s.kept := rfl
@[simp] theorem State.setReg_spi (s : State) (off v : Nat) : (s.setReg off v).spi = s.spi := rfl
@[simp] theorem State.setReg_bar2Sleep (s : State) (off v : Nat) : (s.setReg off v).bar2Sleep = s.bar2Sleep := rfl
@[simp] theorem State.setReg_disp (s : State) (off v : Nat) : (s.setReg off v).disp = s.disp := rfl
@[simp] theorem State.setReg_gate0 (s : State) (off v : Nat) : (s.setReg off v).gate0 = s.gate0 := rfl
@[simp] theorem State.setReg_gate1 (s : State) (off v : Nat) : (s.setReg off v).gate1 = s.gate1 := rfl
@[simp] theorem State.setReg_queues (s : State) (off v : Nat) : (s.setReg off v).queues = s.queues := rfl
@[simp] theorem State.setReg_events (s : State) (off v : Nat) : (s.setReg off v).events = s.events := rfl
@[simp] theorem State.setReg_objs (s : State) (off v : Nat) : (s.setReg off v).objs = s.objs := rfl
@[simp] theorem State.setReg_blobs (s : State) (off v : Nat) : (s.setReg off v).blobs = s.blobs := rfl
@[simp] theorem State.setReg_shadowRegs (s : State) (off v : Nat) : (s.setReg off v).shadowRegs = s.shadowRegs := rfl
@[simp] theorem State.setReg_live (s : State) (off v : Nat) : (s.setReg off v).live = s.live := rfl
@[simp] theorem State.setReg_reject (s : State) (off v : Nat) : (s.setReg off v).reject = s.reject := rfl
@[simp] theorem State.setReg_out (s : State) (off v : Nat) : (s.setReg off v).out = s.out := rfl
@[simp] theorem State.setReg_freeCtr (s : State) (off v : Nat) : (s.setReg off v).freeCtr = s.freeCtr := rfl

/-! ### setCfg -/

@[simp] theorem State.setCfg_pending (s : State) (c : Nat) (v : StoredCfg) : (s.setCfg c v).pending = s.pending := rfl
@[simp] theorem State.setCfg_time (s : State) (c : Nat) (v : StoredCfg) : (s.setCfg c v).time = s.time := rfl
@[simp] theorem State.setCfg_ptp0 (s : State) (c : Nat) (v : StoredCfg) : (s.setCfg c v).ptp0 = s.ptp0 := rfl
@[simp] theorem State.setCfg_ptp1 (s : State) (c : Nat) (v : StoredCfg) : (s.setCfg c v).ptp1 = s.ptp1 := rfl
@[simp] theorem State.setCfg_ptpSel (s : State) (c : Nat) (v : StoredCfg) : (s.setCfg c v).ptpSel = s.ptpSel := rfl
@[simp] theorem State.setCfg_caps (s : State) (c : Nat) (v : StoredCfg) : (s.setCfg c v).caps = s.caps := rfl
@[simp] theorem State.setCfg_beacons (s : State) (c : Nat) (v : StoredCfg) : (s.setCfg c v).beacons = s.beacons := rfl
@[simp] theorem State.setCfg_forge (s : State) (c : Nat) (v : StoredCfg) : (s.setCfg c v).forge = s.forge := rfl
@[simp] theorem State.setCfg_power (s : State) (c : Nat) (v : StoredCfg) : (s.setCfg c v).power = s.power := rfl
@[simp] theorem State.setCfg_boot (s : State) (c : Nat) (v : StoredCfg) : (s.setCfg c v).boot = s.boot := rfl
@[simp] theorem State.setCfg_life (s : State) (c : Nat) (v : StoredCfg) : (s.setCfg c v).life = s.life := rfl
@[simp] theorem State.setCfg_genEpoch (s : State) (c : Nat) (v : StoredCfg) : (s.setCfg c v).genEpoch = s.genEpoch := rfl
@[simp] theorem State.setCfg_genCount (s : State) (c : Nat) (v : StoredCfg) : (s.setCfg c v).genCount = s.genCount := rfl
@[simp] theorem State.setCfg_digest (s : State) (c : Nat) (v : StoredCfg) : (s.setCfg c v).digest = s.digest := rfl
@[simp] theorem State.setCfg_digests (s : State) (c : Nat) (v : StoredCfg) : (s.setCfg c v).digests = s.digests := rfl
@[simp] theorem State.setCfg_active (s : State) (c : Nat) (v : StoredCfg) : (s.setCfg c v).active = s.active := rfl
@[simp] theorem State.setCfg_image (s : State) (c : Nat) (v : StoredCfg) : (s.setCfg c v).image = s.image := rfl
@[simp] theorem State.setCfg_legs (s : State) (c : Nat) (v : StoredCfg) : (s.setCfg c v).legs = s.legs := rfl
@[simp] theorem State.setCfg_planner (s : State) (c : Nat) (v : StoredCfg) : (s.setCfg c v).planner = s.planner := rfl
@[simp] theorem State.setCfg_batches (s : State) (c : Nat) (v : StoredCfg) : (s.setCfg c v).batches = s.batches := rfl
@[simp] theorem State.setCfg_closed (s : State) (c : Nat) (v : StoredCfg) : (s.setCfg c v).closed = s.closed := rfl
@[simp] theorem State.setCfg_nextBatch (s : State) (c : Nat) (v : StoredCfg) : (s.setCfg c v).nextBatch = s.nextBatch := rfl
@[simp] theorem State.setCfg_lateBatches (s : State) (c : Nat) (v : StoredCfg) : (s.setCfg c v).lateBatches = s.lateBatches := rfl
@[simp] theorem State.setCfg_commitCount (s : State) (c : Nat) (v : StoredCfg) : (s.setCfg c v).commitCount = s.commitCount := rfl
@[simp] theorem State.setCfg_sched (s : State) (c : Nat) (v : StoredCfg) : (s.setCfg c v).sched = s.sched := rfl
@[simp] theorem State.setCfg_elems (s : State) (c : Nat) (v : StoredCfg) : (s.setCfg c v).elems = s.elems := rfl
@[simp] theorem State.setCfg_loopsStarted (s : State) (c : Nat) (v : StoredCfg) : (s.setCfg c v).loopsStarted = s.loopsStarted := rfl
@[simp] theorem State.setCfg_lateSkips (s : State) (c : Nat) (v : StoredCfg) : (s.setCfg c v).lateSkips = s.lateSkips := rfl
@[simp] theorem State.setCfg_notches (s : State) (c : Nat) (v : StoredCfg) : (s.setCfg c v).notches = s.notches := rfl
@[simp] theorem State.setCfg_lanesA (s : State) (c : Nat) (v : StoredCfg) : (s.setCfg c v).lanesA = s.lanesA := rfl
@[simp] theorem State.setCfg_lanesB (s : State) (c : Nat) (v : StoredCfg) : (s.setCfg c v).lanesB = s.lanesB := rfl
@[simp] theorem State.setCfg_chans (s : State) (c : Nat) (v : StoredCfg) : (s.setCfg c v).chans = s.chans := rfl
@[simp] theorem State.setCfg_ladder (s : State) (c : Nat) (v : StoredCfg) : (s.setCfg c v).ladder = s.ladder := rfl
@[simp] theorem State.setCfg_mismatchesCleared (s : State) (c : Nat) (v : StoredCfg) : (s.setCfg c v).mismatchesCleared = s.mismatchesCleared := rfl
@[simp] theorem State.setCfg_clear (s : State) (c : Nat) (v : StoredCfg) : (s.setCfg c v).clear = s.clear := rfl
@[simp] theorem State.setCfg_aux (s : State) (c : Nat) (v : StoredCfg) : (s.setCfg c v).aux = s.aux := rfl
@[simp] theorem State.setCfg_dets (s : State) (c : Nat) (v : StoredCfg) : (s.setCfg c v).dets = s.dets := rfl
@[simp] theorem State.setCfg_buoys (s : State) (c : Nat) (v : StoredCfg) : (s.setCfg c v).buoys = s.buoys := rfl
@[simp] theorem State.setCfg_ports (s : State) (c : Nat) (v : StoredCfg) : (s.setCfg c v).ports = s.ports := rfl
@[simp] theorem State.setCfg_windowsDiscarded (s : State) (c : Nat) (v : StoredCfg) : (s.setCfg c v).windowsDiscarded = s.windowsDiscarded := rfl
@[simp] theorem State.setCfg_ampNow (s : State) (c : Nat) (v : StoredCfg) : (s.setCfg c v).ampNow = s.ampNow := rfl
@[simp] theorem State.setCfg_ampNext (s : State) (c : Nat) (v : StoredCfg) : (s.setCfg c v).ampNext = s.ampNext := rfl
@[simp] theorem State.setCfg_audit (s : State) (c : Nat) (v : StoredCfg) : (s.setCfg c v).audit = s.audit := rfl
@[simp] theorem State.setCfg_hm6 (s : State) (c : Nat) (v : StoredCfg) : (s.setCfg c v).hm6 = s.hm6 := rfl
@[simp] theorem State.setCfg_hm7 (s : State) (c : Nat) (v : StoredCfg) : (s.setCfg c v).hm7 = s.hm7 := rfl
@[simp] theorem State.setCfg_keeper (s : State) (c : Nat) (v : StoredCfg) : (s.setCfg c v).keeper = s.keeper := rfl
@[simp] theorem State.setCfg_cal (s : State) (c : Nat) (v : StoredCfg) : (s.setCfg c v).cal = s.cal := rfl
@[simp] theorem State.setCfg_thermal (s : State) (c : Nat) (v : StoredCfg) : (s.setCfg c v).thermal = s.thermal := rfl
@[simp] theorem State.setCfg_fans (s : State) (c : Nat) (v : StoredCfg) : (s.setCfg c v).fans = s.fans := rfl
@[simp] theorem State.setCfg_hkc0 (s : State) (c : Nat) (v : StoredCfg) : (s.setCfg c v).hkc0 = s.hkc0 := rfl
@[simp] theorem State.setCfg_hkc1 (s : State) (c : Nat) (v : StoredCfg) : (s.setCfg c v).hkc1 = s.hkc1 := rfl
@[simp] theorem State.setCfg_rewriting (s : State) (c : Nat) (v : StoredCfg) : (s.setCfg c v).rewriting = s.rewriting := rfl
@[simp] theorem State.setCfg_mem (s : State) (c : Nat) (v : StoredCfg) : (s.setCfg c v).mem = s.mem := rfl
@[simp] theorem State.setCfg_ddr (s : State) (c : Nat) (v : StoredCfg) : (s.setCfg c v).ddr = s.ddr := rfl
@[simp] theorem State.setCfg_banks (s : State) (c : Nat) (v : StoredCfg) : (s.setCfg c v).banks = s.banks := rfl
@[simp] theorem State.setCfg_proof (s : State) (c : Nat) (v : StoredCfg) : (s.setCfg c v).proof = s.proof := rfl
@[simp] theorem State.setCfg_matrix (s : State) (c : Nat) (v : StoredCfg) : (s.setCfg c v).matrix = s.matrix := rfl
@[simp] theorem State.setCfg_mbx (s : State) (c : Nat) (v : StoredCfg) : (s.setCfg c v).mbx = s.mbx := rfl
@[simp] theorem State.setCfg_aex (s : State) (c : Nat) (v : StoredCfg) : (s.setCfg c v).aex = s.aex := rfl
@[simp] theorem State.setCfg_sessions (s : State) (c : Nat) (v : StoredCfg) : (s.setCfg c v).sessions = s.sessions := rfl
@[simp] theorem State.setCfg_kept (s : State) (c : Nat) (v : StoredCfg) : (s.setCfg c v).kept = s.kept := rfl
@[simp] theorem State.setCfg_spi (s : State) (c : Nat) (v : StoredCfg) : (s.setCfg c v).spi = s.spi := rfl
@[simp] theorem State.setCfg_bar2Sleep (s : State) (c : Nat) (v : StoredCfg) : (s.setCfg c v).bar2Sleep = s.bar2Sleep := rfl
@[simp] theorem State.setCfg_disp (s : State) (c : Nat) (v : StoredCfg) : (s.setCfg c v).disp = s.disp := rfl
@[simp] theorem State.setCfg_gate0 (s : State) (c : Nat) (v : StoredCfg) : (s.setCfg c v).gate0 = s.gate0 := rfl
@[simp] theorem State.setCfg_gate1 (s : State) (c : Nat) (v : StoredCfg) : (s.setCfg c v).gate1 = s.gate1 := rfl
@[simp] theorem State.setCfg_queues (s : State) (c : Nat) (v : StoredCfg) : (s.setCfg c v).queues = s.queues := rfl
@[simp] theorem State.setCfg_events (s : State) (c : Nat) (v : StoredCfg) : (s.setCfg c v).events = s.events := rfl
@[simp] theorem State.setCfg_objs (s : State) (c : Nat) (v : StoredCfg) : (s.setCfg c v).objs = s.objs := rfl
@[simp] theorem State.setCfg_blobs (s : State) (c : Nat) (v : StoredCfg) : (s.setCfg c v).blobs = s.blobs := rfl
@[simp] theorem State.setCfg_regs (s : State) (c : Nat) (v : StoredCfg) : (s.setCfg c v).regs = s.regs := rfl
@[simp] theorem State.setCfg_shadowRegs (s : State) (c : Nat) (v : StoredCfg) : (s.setCfg c v).shadowRegs = s.shadowRegs := rfl
@[simp] theorem State.setCfg_live (s : State) (c : Nat) (v : StoredCfg) : (s.setCfg c v).live = s.live := rfl
@[simp] theorem State.setCfg_reject (s : State) (c : Nat) (v : StoredCfg) : (s.setCfg c v).reject = s.reject := rfl
@[simp] theorem State.setCfg_out (s : State) (c : Nat) (v : StoredCfg) : (s.setCfg c v).out = s.out := rfl
@[simp] theorem State.setCfg_freeCtr (s : State) (c : Nat) (v : StoredCfg) : (s.setCfg c v).freeCtr = s.freeCtr := rfl

/-! ### setSensor -/

@[simp] theorem State.setSensor_pending (s : State) (i : Nat) (v : Sensor) : (s.setSensor i v).pending = s.pending := rfl
@[simp] theorem State.setSensor_time (s : State) (i : Nat) (v : Sensor) : (s.setSensor i v).time = s.time := rfl
@[simp] theorem State.setSensor_ptp0 (s : State) (i : Nat) (v : Sensor) : (s.setSensor i v).ptp0 = s.ptp0 := rfl
@[simp] theorem State.setSensor_ptp1 (s : State) (i : Nat) (v : Sensor) : (s.setSensor i v).ptp1 = s.ptp1 := rfl
@[simp] theorem State.setSensor_ptpSel (s : State) (i : Nat) (v : Sensor) : (s.setSensor i v).ptpSel = s.ptpSel := rfl
@[simp] theorem State.setSensor_caps (s : State) (i : Nat) (v : Sensor) : (s.setSensor i v).caps = s.caps := rfl
@[simp] theorem State.setSensor_beacons (s : State) (i : Nat) (v : Sensor) : (s.setSensor i v).beacons = s.beacons := rfl
@[simp] theorem State.setSensor_forge (s : State) (i : Nat) (v : Sensor) : (s.setSensor i v).forge = s.forge := rfl
@[simp] theorem State.setSensor_power (s : State) (i : Nat) (v : Sensor) : (s.setSensor i v).power = s.power := rfl
@[simp] theorem State.setSensor_boot (s : State) (i : Nat) (v : Sensor) : (s.setSensor i v).boot = s.boot := rfl
@[simp] theorem State.setSensor_life (s : State) (i : Nat) (v : Sensor) : (s.setSensor i v).life = s.life := rfl
@[simp] theorem State.setSensor_genEpoch (s : State) (i : Nat) (v : Sensor) : (s.setSensor i v).genEpoch = s.genEpoch := rfl
@[simp] theorem State.setSensor_genCount (s : State) (i : Nat) (v : Sensor) : (s.setSensor i v).genCount = s.genCount := rfl
@[simp] theorem State.setSensor_digest (s : State) (i : Nat) (v : Sensor) : (s.setSensor i v).digest = s.digest := rfl
@[simp] theorem State.setSensor_digests (s : State) (i : Nat) (v : Sensor) : (s.setSensor i v).digests = s.digests := rfl
@[simp] theorem State.setSensor_active (s : State) (i : Nat) (v : Sensor) : (s.setSensor i v).active = s.active := rfl
@[simp] theorem State.setSensor_image (s : State) (i : Nat) (v : Sensor) : (s.setSensor i v).image = s.image := rfl
@[simp] theorem State.setSensor_legs (s : State) (i : Nat) (v : Sensor) : (s.setSensor i v).legs = s.legs := rfl
@[simp] theorem State.setSensor_planner (s : State) (i : Nat) (v : Sensor) : (s.setSensor i v).planner = s.planner := rfl
@[simp] theorem State.setSensor_batches (s : State) (i : Nat) (v : Sensor) : (s.setSensor i v).batches = s.batches := rfl
@[simp] theorem State.setSensor_closed (s : State) (i : Nat) (v : Sensor) : (s.setSensor i v).closed = s.closed := rfl
@[simp] theorem State.setSensor_nextBatch (s : State) (i : Nat) (v : Sensor) : (s.setSensor i v).nextBatch = s.nextBatch := rfl
@[simp] theorem State.setSensor_lateBatches (s : State) (i : Nat) (v : Sensor) : (s.setSensor i v).lateBatches = s.lateBatches := rfl
@[simp] theorem State.setSensor_commitCount (s : State) (i : Nat) (v : Sensor) : (s.setSensor i v).commitCount = s.commitCount := rfl
@[simp] theorem State.setSensor_sched (s : State) (i : Nat) (v : Sensor) : (s.setSensor i v).sched = s.sched := rfl
@[simp] theorem State.setSensor_cfgs (s : State) (i : Nat) (v : Sensor) : (s.setSensor i v).cfgs = s.cfgs := rfl
@[simp] theorem State.setSensor_elems (s : State) (i : Nat) (v : Sensor) : (s.setSensor i v).elems = s.elems := rfl
@[simp] theorem State.setSensor_loopsStarted (s : State) (i : Nat) (v : Sensor) : (s.setSensor i v).loopsStarted = s.loopsStarted := rfl
@[simp] theorem State.setSensor_lateSkips (s : State) (i : Nat) (v : Sensor) : (s.setSensor i v).lateSkips = s.lateSkips := rfl
@[simp] theorem State.setSensor_notches (s : State) (i : Nat) (v : Sensor) : (s.setSensor i v).notches = s.notches := rfl
@[simp] theorem State.setSensor_lanesA (s : State) (i : Nat) (v : Sensor) : (s.setSensor i v).lanesA = s.lanesA := rfl
@[simp] theorem State.setSensor_lanesB (s : State) (i : Nat) (v : Sensor) : (s.setSensor i v).lanesB = s.lanesB := rfl
@[simp] theorem State.setSensor_chans (s : State) (i : Nat) (v : Sensor) : (s.setSensor i v).chans = s.chans := rfl
@[simp] theorem State.setSensor_ladder (s : State) (i : Nat) (v : Sensor) : (s.setSensor i v).ladder = s.ladder := rfl
@[simp] theorem State.setSensor_mismatchesCleared (s : State) (i : Nat) (v : Sensor) : (s.setSensor i v).mismatchesCleared = s.mismatchesCleared := rfl
@[simp] theorem State.setSensor_clear (s : State) (i : Nat) (v : Sensor) : (s.setSensor i v).clear = s.clear := rfl
@[simp] theorem State.setSensor_aux (s : State) (i : Nat) (v : Sensor) : (s.setSensor i v).aux = s.aux := rfl
@[simp] theorem State.setSensor_dets (s : State) (i : Nat) (v : Sensor) : (s.setSensor i v).dets = s.dets := rfl
@[simp] theorem State.setSensor_buoys (s : State) (i : Nat) (v : Sensor) : (s.setSensor i v).buoys = s.buoys := rfl
@[simp] theorem State.setSensor_ports (s : State) (i : Nat) (v : Sensor) : (s.setSensor i v).ports = s.ports := rfl
@[simp] theorem State.setSensor_windowsDiscarded (s : State) (i : Nat) (v : Sensor) : (s.setSensor i v).windowsDiscarded = s.windowsDiscarded := rfl
@[simp] theorem State.setSensor_ampNow (s : State) (i : Nat) (v : Sensor) : (s.setSensor i v).ampNow = s.ampNow := rfl
@[simp] theorem State.setSensor_ampNext (s : State) (i : Nat) (v : Sensor) : (s.setSensor i v).ampNext = s.ampNext := rfl
@[simp] theorem State.setSensor_audit (s : State) (i : Nat) (v : Sensor) : (s.setSensor i v).audit = s.audit := rfl
@[simp] theorem State.setSensor_hm6 (s : State) (i : Nat) (v : Sensor) : (s.setSensor i v).hm6 = s.hm6 := rfl
@[simp] theorem State.setSensor_hm7 (s : State) (i : Nat) (v : Sensor) : (s.setSensor i v).hm7 = s.hm7 := rfl
@[simp] theorem State.setSensor_keeper (s : State) (i : Nat) (v : Sensor) : (s.setSensor i v).keeper = s.keeper := rfl
@[simp] theorem State.setSensor_cal (s : State) (i : Nat) (v : Sensor) : (s.setSensor i v).cal = s.cal := rfl
@[simp] theorem State.setSensor_fans (s : State) (i : Nat) (v : Sensor) : (s.setSensor i v).fans = s.fans := rfl
@[simp] theorem State.setSensor_hkc0 (s : State) (i : Nat) (v : Sensor) : (s.setSensor i v).hkc0 = s.hkc0 := rfl
@[simp] theorem State.setSensor_hkc1 (s : State) (i : Nat) (v : Sensor) : (s.setSensor i v).hkc1 = s.hkc1 := rfl
@[simp] theorem State.setSensor_rewriting (s : State) (i : Nat) (v : Sensor) : (s.setSensor i v).rewriting = s.rewriting := rfl
@[simp] theorem State.setSensor_mem (s : State) (i : Nat) (v : Sensor) : (s.setSensor i v).mem = s.mem := rfl
@[simp] theorem State.setSensor_ddr (s : State) (i : Nat) (v : Sensor) : (s.setSensor i v).ddr = s.ddr := rfl
@[simp] theorem State.setSensor_banks (s : State) (i : Nat) (v : Sensor) : (s.setSensor i v).banks = s.banks := rfl
@[simp] theorem State.setSensor_proof (s : State) (i : Nat) (v : Sensor) : (s.setSensor i v).proof = s.proof := rfl
@[simp] theorem State.setSensor_matrix (s : State) (i : Nat) (v : Sensor) : (s.setSensor i v).matrix = s.matrix := rfl
@[simp] theorem State.setSensor_mbx (s : State) (i : Nat) (v : Sensor) : (s.setSensor i v).mbx = s.mbx := rfl
@[simp] theorem State.setSensor_aex (s : State) (i : Nat) (v : Sensor) : (s.setSensor i v).aex = s.aex := rfl
@[simp] theorem State.setSensor_sessions (s : State) (i : Nat) (v : Sensor) : (s.setSensor i v).sessions = s.sessions := rfl
@[simp] theorem State.setSensor_kept (s : State) (i : Nat) (v : Sensor) : (s.setSensor i v).kept = s.kept := rfl
@[simp] theorem State.setSensor_spi (s : State) (i : Nat) (v : Sensor) : (s.setSensor i v).spi = s.spi := rfl
@[simp] theorem State.setSensor_bar2Sleep (s : State) (i : Nat) (v : Sensor) : (s.setSensor i v).bar2Sleep = s.bar2Sleep := rfl
@[simp] theorem State.setSensor_disp (s : State) (i : Nat) (v : Sensor) : (s.setSensor i v).disp = s.disp := rfl
@[simp] theorem State.setSensor_gate0 (s : State) (i : Nat) (v : Sensor) : (s.setSensor i v).gate0 = s.gate0 := rfl
@[simp] theorem State.setSensor_gate1 (s : State) (i : Nat) (v : Sensor) : (s.setSensor i v).gate1 = s.gate1 := rfl
@[simp] theorem State.setSensor_queues (s : State) (i : Nat) (v : Sensor) : (s.setSensor i v).queues = s.queues := rfl
@[simp] theorem State.setSensor_events (s : State) (i : Nat) (v : Sensor) : (s.setSensor i v).events = s.events := rfl
@[simp] theorem State.setSensor_objs (s : State) (i : Nat) (v : Sensor) : (s.setSensor i v).objs = s.objs := rfl
@[simp] theorem State.setSensor_blobs (s : State) (i : Nat) (v : Sensor) : (s.setSensor i v).blobs = s.blobs := rfl
@[simp] theorem State.setSensor_regs (s : State) (i : Nat) (v : Sensor) : (s.setSensor i v).regs = s.regs := rfl
@[simp] theorem State.setSensor_shadowRegs (s : State) (i : Nat) (v : Sensor) : (s.setSensor i v).shadowRegs = s.shadowRegs := rfl
@[simp] theorem State.setSensor_live (s : State) (i : Nat) (v : Sensor) : (s.setSensor i v).live = s.live := rfl
@[simp] theorem State.setSensor_reject (s : State) (i : Nat) (v : Sensor) : (s.setSensor i v).reject = s.reject := rfl
@[simp] theorem State.setSensor_out (s : State) (i : Nat) (v : Sensor) : (s.setSensor i v).out = s.out := rfl
@[simp] theorem State.setSensor_freeCtr (s : State) (i : Nat) (v : Sensor) : (s.setSensor i v).freeCtr = s.freeCtr := rfl

/-! ### setZone -/

@[simp] theorem State.setZone_pending (s : State) (z : Nat) (v : Zone) : (s.setZone z v).pending = s.pending := rfl
@[simp] theorem State.setZone_time (s : State) (z : Nat) (v : Zone) : (s.setZone z v).time = s.time := rfl
@[simp] theorem State.setZone_ptp0 (s : State) (z : Nat) (v : Zone) : (s.setZone z v).ptp0 = s.ptp0 := rfl
@[simp] theorem State.setZone_ptp1 (s : State) (z : Nat) (v : Zone) : (s.setZone z v).ptp1 = s.ptp1 := rfl
@[simp] theorem State.setZone_ptpSel (s : State) (z : Nat) (v : Zone) : (s.setZone z v).ptpSel = s.ptpSel := rfl
@[simp] theorem State.setZone_caps (s : State) (z : Nat) (v : Zone) : (s.setZone z v).caps = s.caps := rfl
@[simp] theorem State.setZone_beacons (s : State) (z : Nat) (v : Zone) : (s.setZone z v).beacons = s.beacons := rfl
@[simp] theorem State.setZone_forge (s : State) (z : Nat) (v : Zone) : (s.setZone z v).forge = s.forge := rfl
@[simp] theorem State.setZone_power (s : State) (z : Nat) (v : Zone) : (s.setZone z v).power = s.power := rfl
@[simp] theorem State.setZone_boot (s : State) (z : Nat) (v : Zone) : (s.setZone z v).boot = s.boot := rfl
@[simp] theorem State.setZone_life (s : State) (z : Nat) (v : Zone) : (s.setZone z v).life = s.life := rfl
@[simp] theorem State.setZone_genEpoch (s : State) (z : Nat) (v : Zone) : (s.setZone z v).genEpoch = s.genEpoch := rfl
@[simp] theorem State.setZone_genCount (s : State) (z : Nat) (v : Zone) : (s.setZone z v).genCount = s.genCount := rfl
@[simp] theorem State.setZone_digest (s : State) (z : Nat) (v : Zone) : (s.setZone z v).digest = s.digest := rfl
@[simp] theorem State.setZone_digests (s : State) (z : Nat) (v : Zone) : (s.setZone z v).digests = s.digests := rfl
@[simp] theorem State.setZone_active (s : State) (z : Nat) (v : Zone) : (s.setZone z v).active = s.active := rfl
@[simp] theorem State.setZone_image (s : State) (z : Nat) (v : Zone) : (s.setZone z v).image = s.image := rfl
@[simp] theorem State.setZone_legs (s : State) (z : Nat) (v : Zone) : (s.setZone z v).legs = s.legs := rfl
@[simp] theorem State.setZone_planner (s : State) (z : Nat) (v : Zone) : (s.setZone z v).planner = s.planner := rfl
@[simp] theorem State.setZone_batches (s : State) (z : Nat) (v : Zone) : (s.setZone z v).batches = s.batches := rfl
@[simp] theorem State.setZone_closed (s : State) (z : Nat) (v : Zone) : (s.setZone z v).closed = s.closed := rfl
@[simp] theorem State.setZone_nextBatch (s : State) (z : Nat) (v : Zone) : (s.setZone z v).nextBatch = s.nextBatch := rfl
@[simp] theorem State.setZone_lateBatches (s : State) (z : Nat) (v : Zone) : (s.setZone z v).lateBatches = s.lateBatches := rfl
@[simp] theorem State.setZone_commitCount (s : State) (z : Nat) (v : Zone) : (s.setZone z v).commitCount = s.commitCount := rfl
@[simp] theorem State.setZone_sched (s : State) (z : Nat) (v : Zone) : (s.setZone z v).sched = s.sched := rfl
@[simp] theorem State.setZone_cfgs (s : State) (z : Nat) (v : Zone) : (s.setZone z v).cfgs = s.cfgs := rfl
@[simp] theorem State.setZone_elems (s : State) (z : Nat) (v : Zone) : (s.setZone z v).elems = s.elems := rfl
@[simp] theorem State.setZone_loopsStarted (s : State) (z : Nat) (v : Zone) : (s.setZone z v).loopsStarted = s.loopsStarted := rfl
@[simp] theorem State.setZone_lateSkips (s : State) (z : Nat) (v : Zone) : (s.setZone z v).lateSkips = s.lateSkips := rfl
@[simp] theorem State.setZone_notches (s : State) (z : Nat) (v : Zone) : (s.setZone z v).notches = s.notches := rfl
@[simp] theorem State.setZone_lanesA (s : State) (z : Nat) (v : Zone) : (s.setZone z v).lanesA = s.lanesA := rfl
@[simp] theorem State.setZone_lanesB (s : State) (z : Nat) (v : Zone) : (s.setZone z v).lanesB = s.lanesB := rfl
@[simp] theorem State.setZone_chans (s : State) (z : Nat) (v : Zone) : (s.setZone z v).chans = s.chans := rfl
@[simp] theorem State.setZone_ladder (s : State) (z : Nat) (v : Zone) : (s.setZone z v).ladder = s.ladder := rfl
@[simp] theorem State.setZone_mismatchesCleared (s : State) (z : Nat) (v : Zone) : (s.setZone z v).mismatchesCleared = s.mismatchesCleared := rfl
@[simp] theorem State.setZone_clear (s : State) (z : Nat) (v : Zone) : (s.setZone z v).clear = s.clear := rfl
@[simp] theorem State.setZone_aux (s : State) (z : Nat) (v : Zone) : (s.setZone z v).aux = s.aux := rfl
@[simp] theorem State.setZone_dets (s : State) (z : Nat) (v : Zone) : (s.setZone z v).dets = s.dets := rfl
@[simp] theorem State.setZone_buoys (s : State) (z : Nat) (v : Zone) : (s.setZone z v).buoys = s.buoys := rfl
@[simp] theorem State.setZone_ports (s : State) (z : Nat) (v : Zone) : (s.setZone z v).ports = s.ports := rfl
@[simp] theorem State.setZone_windowsDiscarded (s : State) (z : Nat) (v : Zone) : (s.setZone z v).windowsDiscarded = s.windowsDiscarded := rfl
@[simp] theorem State.setZone_ampNow (s : State) (z : Nat) (v : Zone) : (s.setZone z v).ampNow = s.ampNow := rfl
@[simp] theorem State.setZone_ampNext (s : State) (z : Nat) (v : Zone) : (s.setZone z v).ampNext = s.ampNext := rfl
@[simp] theorem State.setZone_audit (s : State) (z : Nat) (v : Zone) : (s.setZone z v).audit = s.audit := rfl
@[simp] theorem State.setZone_hm6 (s : State) (z : Nat) (v : Zone) : (s.setZone z v).hm6 = s.hm6 := rfl
@[simp] theorem State.setZone_hm7 (s : State) (z : Nat) (v : Zone) : (s.setZone z v).hm7 = s.hm7 := rfl
@[simp] theorem State.setZone_keeper (s : State) (z : Nat) (v : Zone) : (s.setZone z v).keeper = s.keeper := rfl
@[simp] theorem State.setZone_cal (s : State) (z : Nat) (v : Zone) : (s.setZone z v).cal = s.cal := rfl
@[simp] theorem State.setZone_fans (s : State) (z : Nat) (v : Zone) : (s.setZone z v).fans = s.fans := rfl
@[simp] theorem State.setZone_hkc0 (s : State) (z : Nat) (v : Zone) : (s.setZone z v).hkc0 = s.hkc0 := rfl
@[simp] theorem State.setZone_hkc1 (s : State) (z : Nat) (v : Zone) : (s.setZone z v).hkc1 = s.hkc1 := rfl
@[simp] theorem State.setZone_rewriting (s : State) (z : Nat) (v : Zone) : (s.setZone z v).rewriting = s.rewriting := rfl
@[simp] theorem State.setZone_mem (s : State) (z : Nat) (v : Zone) : (s.setZone z v).mem = s.mem := rfl
@[simp] theorem State.setZone_ddr (s : State) (z : Nat) (v : Zone) : (s.setZone z v).ddr = s.ddr := rfl
@[simp] theorem State.setZone_banks (s : State) (z : Nat) (v : Zone) : (s.setZone z v).banks = s.banks := rfl
@[simp] theorem State.setZone_proof (s : State) (z : Nat) (v : Zone) : (s.setZone z v).proof = s.proof := rfl
@[simp] theorem State.setZone_matrix (s : State) (z : Nat) (v : Zone) : (s.setZone z v).matrix = s.matrix := rfl
@[simp] theorem State.setZone_mbx (s : State) (z : Nat) (v : Zone) : (s.setZone z v).mbx = s.mbx := rfl
@[simp] theorem State.setZone_aex (s : State) (z : Nat) (v : Zone) : (s.setZone z v).aex = s.aex := rfl
@[simp] theorem State.setZone_sessions (s : State) (z : Nat) (v : Zone) : (s.setZone z v).sessions = s.sessions := rfl
@[simp] theorem State.setZone_kept (s : State) (z : Nat) (v : Zone) : (s.setZone z v).kept = s.kept := rfl
@[simp] theorem State.setZone_spi (s : State) (z : Nat) (v : Zone) : (s.setZone z v).spi = s.spi := rfl
@[simp] theorem State.setZone_bar2Sleep (s : State) (z : Nat) (v : Zone) : (s.setZone z v).bar2Sleep = s.bar2Sleep := rfl
@[simp] theorem State.setZone_disp (s : State) (z : Nat) (v : Zone) : (s.setZone z v).disp = s.disp := rfl
@[simp] theorem State.setZone_gate0 (s : State) (z : Nat) (v : Zone) : (s.setZone z v).gate0 = s.gate0 := rfl
@[simp] theorem State.setZone_gate1 (s : State) (z : Nat) (v : Zone) : (s.setZone z v).gate1 = s.gate1 := rfl
@[simp] theorem State.setZone_queues (s : State) (z : Nat) (v : Zone) : (s.setZone z v).queues = s.queues := rfl
@[simp] theorem State.setZone_events (s : State) (z : Nat) (v : Zone) : (s.setZone z v).events = s.events := rfl
@[simp] theorem State.setZone_objs (s : State) (z : Nat) (v : Zone) : (s.setZone z v).objs = s.objs := rfl
@[simp] theorem State.setZone_blobs (s : State) (z : Nat) (v : Zone) : (s.setZone z v).blobs = s.blobs := rfl
@[simp] theorem State.setZone_regs (s : State) (z : Nat) (v : Zone) : (s.setZone z v).regs = s.regs := rfl
@[simp] theorem State.setZone_shadowRegs (s : State) (z : Nat) (v : Zone) : (s.setZone z v).shadowRegs = s.shadowRegs := rfl
@[simp] theorem State.setZone_live (s : State) (z : Nat) (v : Zone) : (s.setZone z v).live = s.live := rfl
@[simp] theorem State.setZone_reject (s : State) (z : Nat) (v : Zone) : (s.setZone z v).reject = s.reject := rfl
@[simp] theorem State.setZone_out (s : State) (z : Nat) (v : Zone) : (s.setZone z v).out = s.out := rfl
@[simp] theorem State.setZone_freeCtr (s : State) (z : Nat) (v : Zone) : (s.setZone z v).freeCtr = s.freeCtr := rfl

/-! ### setFan -/

@[simp] theorem State.setFan_pending (s : State) (f : Nat) (v : Fan) : (s.setFan f v).pending = s.pending := rfl
@[simp] theorem State.setFan_time (s : State) (f : Nat) (v : Fan) : (s.setFan f v).time = s.time := rfl
@[simp] theorem State.setFan_ptp0 (s : State) (f : Nat) (v : Fan) : (s.setFan f v).ptp0 = s.ptp0 := rfl
@[simp] theorem State.setFan_ptp1 (s : State) (f : Nat) (v : Fan) : (s.setFan f v).ptp1 = s.ptp1 := rfl
@[simp] theorem State.setFan_ptpSel (s : State) (f : Nat) (v : Fan) : (s.setFan f v).ptpSel = s.ptpSel := rfl
@[simp] theorem State.setFan_caps (s : State) (f : Nat) (v : Fan) : (s.setFan f v).caps = s.caps := rfl
@[simp] theorem State.setFan_beacons (s : State) (f : Nat) (v : Fan) : (s.setFan f v).beacons = s.beacons := rfl
@[simp] theorem State.setFan_forge (s : State) (f : Nat) (v : Fan) : (s.setFan f v).forge = s.forge := rfl
@[simp] theorem State.setFan_power (s : State) (f : Nat) (v : Fan) : (s.setFan f v).power = s.power := rfl
@[simp] theorem State.setFan_boot (s : State) (f : Nat) (v : Fan) : (s.setFan f v).boot = s.boot := rfl
@[simp] theorem State.setFan_life (s : State) (f : Nat) (v : Fan) : (s.setFan f v).life = s.life := rfl
@[simp] theorem State.setFan_genEpoch (s : State) (f : Nat) (v : Fan) : (s.setFan f v).genEpoch = s.genEpoch := rfl
@[simp] theorem State.setFan_genCount (s : State) (f : Nat) (v : Fan) : (s.setFan f v).genCount = s.genCount := rfl
@[simp] theorem State.setFan_digest (s : State) (f : Nat) (v : Fan) : (s.setFan f v).digest = s.digest := rfl
@[simp] theorem State.setFan_digests (s : State) (f : Nat) (v : Fan) : (s.setFan f v).digests = s.digests := rfl
@[simp] theorem State.setFan_active (s : State) (f : Nat) (v : Fan) : (s.setFan f v).active = s.active := rfl
@[simp] theorem State.setFan_image (s : State) (f : Nat) (v : Fan) : (s.setFan f v).image = s.image := rfl
@[simp] theorem State.setFan_legs (s : State) (f : Nat) (v : Fan) : (s.setFan f v).legs = s.legs := rfl
@[simp] theorem State.setFan_planner (s : State) (f : Nat) (v : Fan) : (s.setFan f v).planner = s.planner := rfl
@[simp] theorem State.setFan_batches (s : State) (f : Nat) (v : Fan) : (s.setFan f v).batches = s.batches := rfl
@[simp] theorem State.setFan_closed (s : State) (f : Nat) (v : Fan) : (s.setFan f v).closed = s.closed := rfl
@[simp] theorem State.setFan_nextBatch (s : State) (f : Nat) (v : Fan) : (s.setFan f v).nextBatch = s.nextBatch := rfl
@[simp] theorem State.setFan_lateBatches (s : State) (f : Nat) (v : Fan) : (s.setFan f v).lateBatches = s.lateBatches := rfl
@[simp] theorem State.setFan_commitCount (s : State) (f : Nat) (v : Fan) : (s.setFan f v).commitCount = s.commitCount := rfl
@[simp] theorem State.setFan_sched (s : State) (f : Nat) (v : Fan) : (s.setFan f v).sched = s.sched := rfl
@[simp] theorem State.setFan_cfgs (s : State) (f : Nat) (v : Fan) : (s.setFan f v).cfgs = s.cfgs := rfl
@[simp] theorem State.setFan_elems (s : State) (f : Nat) (v : Fan) : (s.setFan f v).elems = s.elems := rfl
@[simp] theorem State.setFan_loopsStarted (s : State) (f : Nat) (v : Fan) : (s.setFan f v).loopsStarted = s.loopsStarted := rfl
@[simp] theorem State.setFan_lateSkips (s : State) (f : Nat) (v : Fan) : (s.setFan f v).lateSkips = s.lateSkips := rfl
@[simp] theorem State.setFan_notches (s : State) (f : Nat) (v : Fan) : (s.setFan f v).notches = s.notches := rfl
@[simp] theorem State.setFan_lanesA (s : State) (f : Nat) (v : Fan) : (s.setFan f v).lanesA = s.lanesA := rfl
@[simp] theorem State.setFan_lanesB (s : State) (f : Nat) (v : Fan) : (s.setFan f v).lanesB = s.lanesB := rfl
@[simp] theorem State.setFan_chans (s : State) (f : Nat) (v : Fan) : (s.setFan f v).chans = s.chans := rfl
@[simp] theorem State.setFan_ladder (s : State) (f : Nat) (v : Fan) : (s.setFan f v).ladder = s.ladder := rfl
@[simp] theorem State.setFan_mismatchesCleared (s : State) (f : Nat) (v : Fan) : (s.setFan f v).mismatchesCleared = s.mismatchesCleared := rfl
@[simp] theorem State.setFan_clear (s : State) (f : Nat) (v : Fan) : (s.setFan f v).clear = s.clear := rfl
@[simp] theorem State.setFan_aux (s : State) (f : Nat) (v : Fan) : (s.setFan f v).aux = s.aux := rfl
@[simp] theorem State.setFan_dets (s : State) (f : Nat) (v : Fan) : (s.setFan f v).dets = s.dets := rfl
@[simp] theorem State.setFan_buoys (s : State) (f : Nat) (v : Fan) : (s.setFan f v).buoys = s.buoys := rfl
@[simp] theorem State.setFan_ports (s : State) (f : Nat) (v : Fan) : (s.setFan f v).ports = s.ports := rfl
@[simp] theorem State.setFan_windowsDiscarded (s : State) (f : Nat) (v : Fan) : (s.setFan f v).windowsDiscarded = s.windowsDiscarded := rfl
@[simp] theorem State.setFan_ampNow (s : State) (f : Nat) (v : Fan) : (s.setFan f v).ampNow = s.ampNow := rfl
@[simp] theorem State.setFan_ampNext (s : State) (f : Nat) (v : Fan) : (s.setFan f v).ampNext = s.ampNext := rfl
@[simp] theorem State.setFan_audit (s : State) (f : Nat) (v : Fan) : (s.setFan f v).audit = s.audit := rfl
@[simp] theorem State.setFan_hm6 (s : State) (f : Nat) (v : Fan) : (s.setFan f v).hm6 = s.hm6 := rfl
@[simp] theorem State.setFan_hm7 (s : State) (f : Nat) (v : Fan) : (s.setFan f v).hm7 = s.hm7 := rfl
@[simp] theorem State.setFan_keeper (s : State) (f : Nat) (v : Fan) : (s.setFan f v).keeper = s.keeper := rfl
@[simp] theorem State.setFan_cal (s : State) (f : Nat) (v : Fan) : (s.setFan f v).cal = s.cal := rfl
@[simp] theorem State.setFan_thermal (s : State) (f : Nat) (v : Fan) : (s.setFan f v).thermal = s.thermal := rfl
@[simp] theorem State.setFan_hkc0 (s : State) (f : Nat) (v : Fan) : (s.setFan f v).hkc0 = s.hkc0 := rfl
@[simp] theorem State.setFan_hkc1 (s : State) (f : Nat) (v : Fan) : (s.setFan f v).hkc1 = s.hkc1 := rfl
@[simp] theorem State.setFan_rewriting (s : State) (f : Nat) (v : Fan) : (s.setFan f v).rewriting = s.rewriting := rfl
@[simp] theorem State.setFan_mem (s : State) (f : Nat) (v : Fan) : (s.setFan f v).mem = s.mem := rfl
@[simp] theorem State.setFan_ddr (s : State) (f : Nat) (v : Fan) : (s.setFan f v).ddr = s.ddr := rfl
@[simp] theorem State.setFan_banks (s : State) (f : Nat) (v : Fan) : (s.setFan f v).banks = s.banks := rfl
@[simp] theorem State.setFan_proof (s : State) (f : Nat) (v : Fan) : (s.setFan f v).proof = s.proof := rfl
@[simp] theorem State.setFan_matrix (s : State) (f : Nat) (v : Fan) : (s.setFan f v).matrix = s.matrix := rfl
@[simp] theorem State.setFan_mbx (s : State) (f : Nat) (v : Fan) : (s.setFan f v).mbx = s.mbx := rfl
@[simp] theorem State.setFan_aex (s : State) (f : Nat) (v : Fan) : (s.setFan f v).aex = s.aex := rfl
@[simp] theorem State.setFan_sessions (s : State) (f : Nat) (v : Fan) : (s.setFan f v).sessions = s.sessions := rfl
@[simp] theorem State.setFan_kept (s : State) (f : Nat) (v : Fan) : (s.setFan f v).kept = s.kept := rfl
@[simp] theorem State.setFan_spi (s : State) (f : Nat) (v : Fan) : (s.setFan f v).spi = s.spi := rfl
@[simp] theorem State.setFan_bar2Sleep (s : State) (f : Nat) (v : Fan) : (s.setFan f v).bar2Sleep = s.bar2Sleep := rfl
@[simp] theorem State.setFan_disp (s : State) (f : Nat) (v : Fan) : (s.setFan f v).disp = s.disp := rfl
@[simp] theorem State.setFan_gate0 (s : State) (f : Nat) (v : Fan) : (s.setFan f v).gate0 = s.gate0 := rfl
@[simp] theorem State.setFan_gate1 (s : State) (f : Nat) (v : Fan) : (s.setFan f v).gate1 = s.gate1 := rfl
@[simp] theorem State.setFan_queues (s : State) (f : Nat) (v : Fan) : (s.setFan f v).queues = s.queues := rfl
@[simp] theorem State.setFan_events (s : State) (f : Nat) (v : Fan) : (s.setFan f v).events = s.events := rfl
@[simp] theorem State.setFan_objs (s : State) (f : Nat) (v : Fan) : (s.setFan f v).objs = s.objs := rfl
@[simp] theorem State.setFan_blobs (s : State) (f : Nat) (v : Fan) : (s.setFan f v).blobs = s.blobs := rfl
@[simp] theorem State.setFan_regs (s : State) (f : Nat) (v : Fan) : (s.setFan f v).regs = s.regs := rfl
@[simp] theorem State.setFan_shadowRegs (s : State) (f : Nat) (v : Fan) : (s.setFan f v).shadowRegs = s.shadowRegs := rfl
@[simp] theorem State.setFan_live (s : State) (f : Nat) (v : Fan) : (s.setFan f v).live = s.live := rfl
@[simp] theorem State.setFan_reject (s : State) (f : Nat) (v : Fan) : (s.setFan f v).reject = s.reject := rfl
@[simp] theorem State.setFan_out (s : State) (f : Nat) (v : Fan) : (s.setFan f v).out = s.out := rfl
@[simp] theorem State.setFan_freeCtr (s : State) (f : Nat) (v : Fan) : (s.setFan f v).freeCtr = s.freeCtr := rfl

/-! ### setBuoy -/

@[simp] theorem State.setBuoy_pending (s : State) (c : Nat) (v : Buoy) : (s.setBuoy c v).pending = s.pending := rfl
@[simp] theorem State.setBuoy_time (s : State) (c : Nat) (v : Buoy) : (s.setBuoy c v).time = s.time := rfl
@[simp] theorem State.setBuoy_ptp0 (s : State) (c : Nat) (v : Buoy) : (s.setBuoy c v).ptp0 = s.ptp0 := rfl
@[simp] theorem State.setBuoy_ptp1 (s : State) (c : Nat) (v : Buoy) : (s.setBuoy c v).ptp1 = s.ptp1 := rfl
@[simp] theorem State.setBuoy_ptpSel (s : State) (c : Nat) (v : Buoy) : (s.setBuoy c v).ptpSel = s.ptpSel := rfl
@[simp] theorem State.setBuoy_caps (s : State) (c : Nat) (v : Buoy) : (s.setBuoy c v).caps = s.caps := rfl
@[simp] theorem State.setBuoy_beacons (s : State) (c : Nat) (v : Buoy) : (s.setBuoy c v).beacons = s.beacons := rfl
@[simp] theorem State.setBuoy_forge (s : State) (c : Nat) (v : Buoy) : (s.setBuoy c v).forge = s.forge := rfl
@[simp] theorem State.setBuoy_power (s : State) (c : Nat) (v : Buoy) : (s.setBuoy c v).power = s.power := rfl
@[simp] theorem State.setBuoy_boot (s : State) (c : Nat) (v : Buoy) : (s.setBuoy c v).boot = s.boot := rfl
@[simp] theorem State.setBuoy_life (s : State) (c : Nat) (v : Buoy) : (s.setBuoy c v).life = s.life := rfl
@[simp] theorem State.setBuoy_genEpoch (s : State) (c : Nat) (v : Buoy) : (s.setBuoy c v).genEpoch = s.genEpoch := rfl
@[simp] theorem State.setBuoy_genCount (s : State) (c : Nat) (v : Buoy) : (s.setBuoy c v).genCount = s.genCount := rfl
@[simp] theorem State.setBuoy_digest (s : State) (c : Nat) (v : Buoy) : (s.setBuoy c v).digest = s.digest := rfl
@[simp] theorem State.setBuoy_digests (s : State) (c : Nat) (v : Buoy) : (s.setBuoy c v).digests = s.digests := rfl
@[simp] theorem State.setBuoy_active (s : State) (c : Nat) (v : Buoy) : (s.setBuoy c v).active = s.active := rfl
@[simp] theorem State.setBuoy_image (s : State) (c : Nat) (v : Buoy) : (s.setBuoy c v).image = s.image := rfl
@[simp] theorem State.setBuoy_legs (s : State) (c : Nat) (v : Buoy) : (s.setBuoy c v).legs = s.legs := rfl
@[simp] theorem State.setBuoy_planner (s : State) (c : Nat) (v : Buoy) : (s.setBuoy c v).planner = s.planner := rfl
@[simp] theorem State.setBuoy_batches (s : State) (c : Nat) (v : Buoy) : (s.setBuoy c v).batches = s.batches := rfl
@[simp] theorem State.setBuoy_closed (s : State) (c : Nat) (v : Buoy) : (s.setBuoy c v).closed = s.closed := rfl
@[simp] theorem State.setBuoy_nextBatch (s : State) (c : Nat) (v : Buoy) : (s.setBuoy c v).nextBatch = s.nextBatch := rfl
@[simp] theorem State.setBuoy_lateBatches (s : State) (c : Nat) (v : Buoy) : (s.setBuoy c v).lateBatches = s.lateBatches := rfl
@[simp] theorem State.setBuoy_commitCount (s : State) (c : Nat) (v : Buoy) : (s.setBuoy c v).commitCount = s.commitCount := rfl
@[simp] theorem State.setBuoy_sched (s : State) (c : Nat) (v : Buoy) : (s.setBuoy c v).sched = s.sched := rfl
@[simp] theorem State.setBuoy_cfgs (s : State) (c : Nat) (v : Buoy) : (s.setBuoy c v).cfgs = s.cfgs := rfl
@[simp] theorem State.setBuoy_elems (s : State) (c : Nat) (v : Buoy) : (s.setBuoy c v).elems = s.elems := rfl
@[simp] theorem State.setBuoy_loopsStarted (s : State) (c : Nat) (v : Buoy) : (s.setBuoy c v).loopsStarted = s.loopsStarted := rfl
@[simp] theorem State.setBuoy_lateSkips (s : State) (c : Nat) (v : Buoy) : (s.setBuoy c v).lateSkips = s.lateSkips := rfl
@[simp] theorem State.setBuoy_notches (s : State) (c : Nat) (v : Buoy) : (s.setBuoy c v).notches = s.notches := rfl
@[simp] theorem State.setBuoy_lanesA (s : State) (c : Nat) (v : Buoy) : (s.setBuoy c v).lanesA = s.lanesA := rfl
@[simp] theorem State.setBuoy_lanesB (s : State) (c : Nat) (v : Buoy) : (s.setBuoy c v).lanesB = s.lanesB := rfl
@[simp] theorem State.setBuoy_chans (s : State) (c : Nat) (v : Buoy) : (s.setBuoy c v).chans = s.chans := rfl
@[simp] theorem State.setBuoy_ladder (s : State) (c : Nat) (v : Buoy) : (s.setBuoy c v).ladder = s.ladder := rfl
@[simp] theorem State.setBuoy_mismatchesCleared (s : State) (c : Nat) (v : Buoy) : (s.setBuoy c v).mismatchesCleared = s.mismatchesCleared := rfl
@[simp] theorem State.setBuoy_clear (s : State) (c : Nat) (v : Buoy) : (s.setBuoy c v).clear = s.clear := rfl
@[simp] theorem State.setBuoy_aux (s : State) (c : Nat) (v : Buoy) : (s.setBuoy c v).aux = s.aux := rfl
@[simp] theorem State.setBuoy_dets (s : State) (c : Nat) (v : Buoy) : (s.setBuoy c v).dets = s.dets := rfl
@[simp] theorem State.setBuoy_ports (s : State) (c : Nat) (v : Buoy) : (s.setBuoy c v).ports = s.ports := rfl
@[simp] theorem State.setBuoy_windowsDiscarded (s : State) (c : Nat) (v : Buoy) : (s.setBuoy c v).windowsDiscarded = s.windowsDiscarded := rfl
@[simp] theorem State.setBuoy_ampNow (s : State) (c : Nat) (v : Buoy) : (s.setBuoy c v).ampNow = s.ampNow := rfl
@[simp] theorem State.setBuoy_ampNext (s : State) (c : Nat) (v : Buoy) : (s.setBuoy c v).ampNext = s.ampNext := rfl
@[simp] theorem State.setBuoy_audit (s : State) (c : Nat) (v : Buoy) : (s.setBuoy c v).audit = s.audit := rfl
@[simp] theorem State.setBuoy_hm6 (s : State) (c : Nat) (v : Buoy) : (s.setBuoy c v).hm6 = s.hm6 := rfl
@[simp] theorem State.setBuoy_hm7 (s : State) (c : Nat) (v : Buoy) : (s.setBuoy c v).hm7 = s.hm7 := rfl
@[simp] theorem State.setBuoy_keeper (s : State) (c : Nat) (v : Buoy) : (s.setBuoy c v).keeper = s.keeper := rfl
@[simp] theorem State.setBuoy_cal (s : State) (c : Nat) (v : Buoy) : (s.setBuoy c v).cal = s.cal := rfl
@[simp] theorem State.setBuoy_thermal (s : State) (c : Nat) (v : Buoy) : (s.setBuoy c v).thermal = s.thermal := rfl
@[simp] theorem State.setBuoy_fans (s : State) (c : Nat) (v : Buoy) : (s.setBuoy c v).fans = s.fans := rfl
@[simp] theorem State.setBuoy_hkc0 (s : State) (c : Nat) (v : Buoy) : (s.setBuoy c v).hkc0 = s.hkc0 := rfl
@[simp] theorem State.setBuoy_hkc1 (s : State) (c : Nat) (v : Buoy) : (s.setBuoy c v).hkc1 = s.hkc1 := rfl
@[simp] theorem State.setBuoy_rewriting (s : State) (c : Nat) (v : Buoy) : (s.setBuoy c v).rewriting = s.rewriting := rfl
@[simp] theorem State.setBuoy_mem (s : State) (c : Nat) (v : Buoy) : (s.setBuoy c v).mem = s.mem := rfl
@[simp] theorem State.setBuoy_ddr (s : State) (c : Nat) (v : Buoy) : (s.setBuoy c v).ddr = s.ddr := rfl
@[simp] theorem State.setBuoy_banks (s : State) (c : Nat) (v : Buoy) : (s.setBuoy c v).banks = s.banks := rfl
@[simp] theorem State.setBuoy_proof (s : State) (c : Nat) (v : Buoy) : (s.setBuoy c v).proof = s.proof := rfl
@[simp] theorem State.setBuoy_matrix (s : State) (c : Nat) (v : Buoy) : (s.setBuoy c v).matrix = s.matrix := rfl
@[simp] theorem State.setBuoy_mbx (s : State) (c : Nat) (v : Buoy) : (s.setBuoy c v).mbx = s.mbx := rfl
@[simp] theorem State.setBuoy_aex (s : State) (c : Nat) (v : Buoy) : (s.setBuoy c v).aex = s.aex := rfl
@[simp] theorem State.setBuoy_sessions (s : State) (c : Nat) (v : Buoy) : (s.setBuoy c v).sessions = s.sessions := rfl
@[simp] theorem State.setBuoy_kept (s : State) (c : Nat) (v : Buoy) : (s.setBuoy c v).kept = s.kept := rfl
@[simp] theorem State.setBuoy_spi (s : State) (c : Nat) (v : Buoy) : (s.setBuoy c v).spi = s.spi := rfl
@[simp] theorem State.setBuoy_bar2Sleep (s : State) (c : Nat) (v : Buoy) : (s.setBuoy c v).bar2Sleep = s.bar2Sleep := rfl
@[simp] theorem State.setBuoy_disp (s : State) (c : Nat) (v : Buoy) : (s.setBuoy c v).disp = s.disp := rfl
@[simp] theorem State.setBuoy_gate0 (s : State) (c : Nat) (v : Buoy) : (s.setBuoy c v).gate0 = s.gate0 := rfl
@[simp] theorem State.setBuoy_gate1 (s : State) (c : Nat) (v : Buoy) : (s.setBuoy c v).gate1 = s.gate1 := rfl
@[simp] theorem State.setBuoy_queues (s : State) (c : Nat) (v : Buoy) : (s.setBuoy c v).queues = s.queues := rfl
@[simp] theorem State.setBuoy_events (s : State) (c : Nat) (v : Buoy) : (s.setBuoy c v).events = s.events := rfl
@[simp] theorem State.setBuoy_objs (s : State) (c : Nat) (v : Buoy) : (s.setBuoy c v).objs = s.objs := rfl
@[simp] theorem State.setBuoy_blobs (s : State) (c : Nat) (v : Buoy) : (s.setBuoy c v).blobs = s.blobs := rfl
@[simp] theorem State.setBuoy_regs (s : State) (c : Nat) (v : Buoy) : (s.setBuoy c v).regs = s.regs := rfl
@[simp] theorem State.setBuoy_shadowRegs (s : State) (c : Nat) (v : Buoy) : (s.setBuoy c v).shadowRegs = s.shadowRegs := rfl
@[simp] theorem State.setBuoy_live (s : State) (c : Nat) (v : Buoy) : (s.setBuoy c v).live = s.live := rfl
@[simp] theorem State.setBuoy_reject (s : State) (c : Nat) (v : Buoy) : (s.setBuoy c v).reject = s.reject := rfl
@[simp] theorem State.setBuoy_out (s : State) (c : Nat) (v : Buoy) : (s.setBuoy c v).out = s.out := rfl
@[simp] theorem State.setBuoy_freeCtr (s : State) (c : Nat) (v : Buoy) : (s.setBuoy c v).freeCtr = s.freeCtr := rfl

/-! ### raiseAt -/

@[simp] theorem raiseAt_pending (src : Nat) (t : Instant) (fl : Nat) (p : List Byte) (s : State) : (raiseAt src t fl p s).pending = s.pending :=
  (congrArg State.pending (raiseAt_base src t fl p s) :)
@[simp] theorem raiseAt_time (src : Nat) (t : Instant) (fl : Nat) (p : List Byte) (s : State) : (raiseAt src t fl p s).time = s.time :=
  (congrArg State.time (raiseAt_base src t fl p s) :)
@[simp] theorem raiseAt_ptp0 (src : Nat) (t : Instant) (fl : Nat) (p : List Byte) (s : State) : (raiseAt src t fl p s).ptp0 = s.ptp0 :=
  (congrArg State.ptp0 (raiseAt_base src t fl p s) :)
@[simp] theorem raiseAt_ptp1 (src : Nat) (t : Instant) (fl : Nat) (p : List Byte) (s : State) : (raiseAt src t fl p s).ptp1 = s.ptp1 :=
  (congrArg State.ptp1 (raiseAt_base src t fl p s) :)
@[simp] theorem raiseAt_ptpSel (src : Nat) (t : Instant) (fl : Nat) (p : List Byte) (s : State) : (raiseAt src t fl p s).ptpSel = s.ptpSel :=
  (congrArg State.ptpSel (raiseAt_base src t fl p s) :)
@[simp] theorem raiseAt_caps (src : Nat) (t : Instant) (fl : Nat) (p : List Byte) (s : State) : (raiseAt src t fl p s).caps = s.caps :=
  (congrArg State.caps (raiseAt_base src t fl p s) :)
@[simp] theorem raiseAt_beacons (src : Nat) (t : Instant) (fl : Nat) (p : List Byte) (s : State) : (raiseAt src t fl p s).beacons = s.beacons :=
  (congrArg State.beacons (raiseAt_base src t fl p s) :)
@[simp] theorem raiseAt_boot (src : Nat) (t : Instant) (fl : Nat) (p : List Byte) (s : State) : (raiseAt src t fl p s).boot = s.boot :=
  (congrArg State.boot (raiseAt_base src t fl p s) :)
@[simp] theorem raiseAt_life (src : Nat) (t : Instant) (fl : Nat) (p : List Byte) (s : State) : (raiseAt src t fl p s).life = s.life :=
  (congrArg State.life (raiseAt_base src t fl p s) :)
@[simp] theorem raiseAt_genEpoch (src : Nat) (t : Instant) (fl : Nat) (p : List Byte) (s : State) : (raiseAt src t fl p s).genEpoch = s.genEpoch :=
  (congrArg State.genEpoch (raiseAt_base src t fl p s) :)
@[simp] theorem raiseAt_genCount (src : Nat) (t : Instant) (fl : Nat) (p : List Byte) (s : State) : (raiseAt src t fl p s).genCount = s.genCount :=
  (congrArg State.genCount (raiseAt_base src t fl p s) :)
@[simp] theorem raiseAt_digest (src : Nat) (t : Instant) (fl : Nat) (p : List Byte) (s : State) : (raiseAt src t fl p s).digest = s.digest :=
  (congrArg State.digest (raiseAt_base src t fl p s) :)
@[simp] theorem raiseAt_digests (src : Nat) (t : Instant) (fl : Nat) (p : List Byte) (s : State) : (raiseAt src t fl p s).digests = s.digests :=
  (congrArg State.digests (raiseAt_base src t fl p s) :)
@[simp] theorem raiseAt_active (src : Nat) (t : Instant) (fl : Nat) (p : List Byte) (s : State) : (raiseAt src t fl p s).active = s.active :=
  (congrArg State.active (raiseAt_base src t fl p s) :)
@[simp] theorem raiseAt_image (src : Nat) (t : Instant) (fl : Nat) (p : List Byte) (s : State) : (raiseAt src t fl p s).image = s.image :=
  (congrArg State.image (raiseAt_base src t fl p s) :)
@[simp] theorem raiseAt_legs (src : Nat) (t : Instant) (fl : Nat) (p : List Byte) (s : State) : (raiseAt src t fl p s).legs = s.legs :=
  (congrArg State.legs (raiseAt_base src t fl p s) :)
@[simp] theorem raiseAt_planner (src : Nat) (t : Instant) (fl : Nat) (p : List Byte) (s : State) : (raiseAt src t fl p s).planner = s.planner :=
  (congrArg State.planner (raiseAt_base src t fl p s) :)
@[simp] theorem raiseAt_batches (src : Nat) (t : Instant) (fl : Nat) (p : List Byte) (s : State) : (raiseAt src t fl p s).batches = s.batches :=
  (congrArg State.batches (raiseAt_base src t fl p s) :)
@[simp] theorem raiseAt_closed (src : Nat) (t : Instant) (fl : Nat) (p : List Byte) (s : State) : (raiseAt src t fl p s).closed = s.closed :=
  (congrArg State.closed (raiseAt_base src t fl p s) :)
@[simp] theorem raiseAt_nextBatch (src : Nat) (t : Instant) (fl : Nat) (p : List Byte) (s : State) : (raiseAt src t fl p s).nextBatch = s.nextBatch :=
  (congrArg State.nextBatch (raiseAt_base src t fl p s) :)
@[simp] theorem raiseAt_lateBatches (src : Nat) (t : Instant) (fl : Nat) (p : List Byte) (s : State) : (raiseAt src t fl p s).lateBatches = s.lateBatches :=
  (congrArg State.lateBatches (raiseAt_base src t fl p s) :)
@[simp] theorem raiseAt_commitCount (src : Nat) (t : Instant) (fl : Nat) (p : List Byte) (s : State) : (raiseAt src t fl p s).commitCount = s.commitCount :=
  (congrArg State.commitCount (raiseAt_base src t fl p s) :)
@[simp] theorem raiseAt_sched (src : Nat) (t : Instant) (fl : Nat) (p : List Byte) (s : State) : (raiseAt src t fl p s).sched = s.sched :=
  (congrArg State.sched (raiseAt_base src t fl p s) :)
@[simp] theorem raiseAt_cfgs (src : Nat) (t : Instant) (fl : Nat) (p : List Byte) (s : State) : (raiseAt src t fl p s).cfgs = s.cfgs :=
  (congrArg State.cfgs (raiseAt_base src t fl p s) :)
@[simp] theorem raiseAt_elems (src : Nat) (t : Instant) (fl : Nat) (p : List Byte) (s : State) : (raiseAt src t fl p s).elems = s.elems :=
  (congrArg State.elems (raiseAt_base src t fl p s) :)
@[simp] theorem raiseAt_loopsStarted (src : Nat) (t : Instant) (fl : Nat) (p : List Byte) (s : State) : (raiseAt src t fl p s).loopsStarted = s.loopsStarted :=
  (congrArg State.loopsStarted (raiseAt_base src t fl p s) :)
@[simp] theorem raiseAt_lateSkips (src : Nat) (t : Instant) (fl : Nat) (p : List Byte) (s : State) : (raiseAt src t fl p s).lateSkips = s.lateSkips :=
  (congrArg State.lateSkips (raiseAt_base src t fl p s) :)
@[simp] theorem raiseAt_notches (src : Nat) (t : Instant) (fl : Nat) (p : List Byte) (s : State) : (raiseAt src t fl p s).notches = s.notches :=
  (congrArg State.notches (raiseAt_base src t fl p s) :)
@[simp] theorem raiseAt_lanesA (src : Nat) (t : Instant) (fl : Nat) (p : List Byte) (s : State) : (raiseAt src t fl p s).lanesA = s.lanesA :=
  (congrArg State.lanesA (raiseAt_base src t fl p s) :)
@[simp] theorem raiseAt_lanesB (src : Nat) (t : Instant) (fl : Nat) (p : List Byte) (s : State) : (raiseAt src t fl p s).lanesB = s.lanesB :=
  (congrArg State.lanesB (raiseAt_base src t fl p s) :)
@[simp] theorem raiseAt_chans (src : Nat) (t : Instant) (fl : Nat) (p : List Byte) (s : State) : (raiseAt src t fl p s).chans = s.chans :=
  (congrArg State.chans (raiseAt_base src t fl p s) :)
@[simp] theorem raiseAt_ladder (src : Nat) (t : Instant) (fl : Nat) (p : List Byte) (s : State) : (raiseAt src t fl p s).ladder = s.ladder :=
  (congrArg State.ladder (raiseAt_base src t fl p s) :)
@[simp] theorem raiseAt_mismatchesCleared (src : Nat) (t : Instant) (fl : Nat) (p : List Byte) (s : State) : (raiseAt src t fl p s).mismatchesCleared = s.mismatchesCleared :=
  (congrArg State.mismatchesCleared (raiseAt_base src t fl p s) :)
@[simp] theorem raiseAt_clear (src : Nat) (t : Instant) (fl : Nat) (p : List Byte) (s : State) : (raiseAt src t fl p s).clear = s.clear :=
  (congrArg State.clear (raiseAt_base src t fl p s) :)
@[simp] theorem raiseAt_aux (src : Nat) (t : Instant) (fl : Nat) (p : List Byte) (s : State) : (raiseAt src t fl p s).aux = s.aux :=
  (congrArg State.aux (raiseAt_base src t fl p s) :)
@[simp] theorem raiseAt_dets (src : Nat) (t : Instant) (fl : Nat) (p : List Byte) (s : State) : (raiseAt src t fl p s).dets = s.dets :=
  (congrArg State.dets (raiseAt_base src t fl p s) :)
@[simp] theorem raiseAt_buoys (src : Nat) (t : Instant) (fl : Nat) (p : List Byte) (s : State) : (raiseAt src t fl p s).buoys = s.buoys :=
  (congrArg State.buoys (raiseAt_base src t fl p s) :)
@[simp] theorem raiseAt_ports (src : Nat) (t : Instant) (fl : Nat) (p : List Byte) (s : State) : (raiseAt src t fl p s).ports = s.ports :=
  (congrArg State.ports (raiseAt_base src t fl p s) :)
@[simp] theorem raiseAt_windowsDiscarded (src : Nat) (t : Instant) (fl : Nat) (p : List Byte) (s : State) : (raiseAt src t fl p s).windowsDiscarded = s.windowsDiscarded :=
  (congrArg State.windowsDiscarded (raiseAt_base src t fl p s) :)
@[simp] theorem raiseAt_ampNow (src : Nat) (t : Instant) (fl : Nat) (p : List Byte) (s : State) : (raiseAt src t fl p s).ampNow = s.ampNow :=
  (congrArg State.ampNow (raiseAt_base src t fl p s) :)
@[simp] theorem raiseAt_ampNext (src : Nat) (t : Instant) (fl : Nat) (p : List Byte) (s : State) : (raiseAt src t fl p s).ampNext = s.ampNext :=
  (congrArg State.ampNext (raiseAt_base src t fl p s) :)
@[simp] theorem raiseAt_hm6 (src : Nat) (t : Instant) (fl : Nat) (p : List Byte) (s : State) : (raiseAt src t fl p s).hm6 = s.hm6 :=
  (congrArg State.hm6 (raiseAt_base src t fl p s) :)
@[simp] theorem raiseAt_hm7 (src : Nat) (t : Instant) (fl : Nat) (p : List Byte) (s : State) : (raiseAt src t fl p s).hm7 = s.hm7 :=
  (congrArg State.hm7 (raiseAt_base src t fl p s) :)
@[simp] theorem raiseAt_cal (src : Nat) (t : Instant) (fl : Nat) (p : List Byte) (s : State) : (raiseAt src t fl p s).cal = s.cal :=
  (congrArg State.cal (raiseAt_base src t fl p s) :)
@[simp] theorem raiseAt_thermal (src : Nat) (t : Instant) (fl : Nat) (p : List Byte) (s : State) : (raiseAt src t fl p s).thermal = s.thermal :=
  (congrArg State.thermal (raiseAt_base src t fl p s) :)
@[simp] theorem raiseAt_fans (src : Nat) (t : Instant) (fl : Nat) (p : List Byte) (s : State) : (raiseAt src t fl p s).fans = s.fans :=
  (congrArg State.fans (raiseAt_base src t fl p s) :)
@[simp] theorem raiseAt_hkc0 (src : Nat) (t : Instant) (fl : Nat) (p : List Byte) (s : State) : (raiseAt src t fl p s).hkc0 = s.hkc0 :=
  (congrArg State.hkc0 (raiseAt_base src t fl p s) :)
@[simp] theorem raiseAt_hkc1 (src : Nat) (t : Instant) (fl : Nat) (p : List Byte) (s : State) : (raiseAt src t fl p s).hkc1 = s.hkc1 :=
  (congrArg State.hkc1 (raiseAt_base src t fl p s) :)
@[simp] theorem raiseAt_rewriting (src : Nat) (t : Instant) (fl : Nat) (p : List Byte) (s : State) : (raiseAt src t fl p s).rewriting = s.rewriting :=
  (congrArg State.rewriting (raiseAt_base src t fl p s) :)
@[simp] theorem raiseAt_mem (src : Nat) (t : Instant) (fl : Nat) (p : List Byte) (s : State) : (raiseAt src t fl p s).mem = s.mem :=
  (congrArg State.mem (raiseAt_base src t fl p s) :)
@[simp] theorem raiseAt_ddr (src : Nat) (t : Instant) (fl : Nat) (p : List Byte) (s : State) : (raiseAt src t fl p s).ddr = s.ddr :=
  (congrArg State.ddr (raiseAt_base src t fl p s) :)
@[simp] theorem raiseAt_banks (src : Nat) (t : Instant) (fl : Nat) (p : List Byte) (s : State) : (raiseAt src t fl p s).banks = s.banks :=
  (congrArg State.banks (raiseAt_base src t fl p s) :)
@[simp] theorem raiseAt_proof (src : Nat) (t : Instant) (fl : Nat) (p : List Byte) (s : State) : (raiseAt src t fl p s).proof = s.proof :=
  (congrArg State.proof (raiseAt_base src t fl p s) :)
@[simp] theorem raiseAt_matrix (src : Nat) (t : Instant) (fl : Nat) (p : List Byte) (s : State) : (raiseAt src t fl p s).matrix = s.matrix :=
  (congrArg State.matrix (raiseAt_base src t fl p s) :)
@[simp] theorem raiseAt_mbx (src : Nat) (t : Instant) (fl : Nat) (p : List Byte) (s : State) : (raiseAt src t fl p s).mbx = s.mbx :=
  (congrArg State.mbx (raiseAt_base src t fl p s) :)
@[simp] theorem raiseAt_aex (src : Nat) (t : Instant) (fl : Nat) (p : List Byte) (s : State) : (raiseAt src t fl p s).aex = s.aex :=
  (congrArg State.aex (raiseAt_base src t fl p s) :)
@[simp] theorem raiseAt_kept (src : Nat) (t : Instant) (fl : Nat) (p : List Byte) (s : State) : (raiseAt src t fl p s).kept = s.kept :=
  (congrArg State.kept (raiseAt_base src t fl p s) :)
@[simp] theorem raiseAt_spi (src : Nat) (t : Instant) (fl : Nat) (p : List Byte) (s : State) : (raiseAt src t fl p s).spi = s.spi :=
  (congrArg State.spi (raiseAt_base src t fl p s) :)
@[simp] theorem raiseAt_bar2Sleep (src : Nat) (t : Instant) (fl : Nat) (p : List Byte) (s : State) : (raiseAt src t fl p s).bar2Sleep = s.bar2Sleep :=
  (congrArg State.bar2Sleep (raiseAt_base src t fl p s) :)
@[simp] theorem raiseAt_disp (src : Nat) (t : Instant) (fl : Nat) (p : List Byte) (s : State) : (raiseAt src t fl p s).disp = s.disp :=
  (congrArg State.disp (raiseAt_base src t fl p s) :)
@[simp] theorem raiseAt_gate0 (src : Nat) (t : Instant) (fl : Nat) (p : List Byte) (s : State) : (raiseAt src t fl p s).gate0 = s.gate0 :=
  (congrArg State.gate0 (raiseAt_base src t fl p s) :)
@[simp] theorem raiseAt_gate1 (src : Nat) (t : Instant) (fl : Nat) (p : List Byte) (s : State) : (raiseAt src t fl p s).gate1 = s.gate1 :=
  (congrArg State.gate1 (raiseAt_base src t fl p s) :)
@[simp] theorem raiseAt_objs (src : Nat) (t : Instant) (fl : Nat) (p : List Byte) (s : State) : (raiseAt src t fl p s).objs = s.objs :=
  (congrArg State.objs (raiseAt_base src t fl p s) :)
@[simp] theorem raiseAt_blobs (src : Nat) (t : Instant) (fl : Nat) (p : List Byte) (s : State) : (raiseAt src t fl p s).blobs = s.blobs :=
  (congrArg State.blobs (raiseAt_base src t fl p s) :)
@[simp] theorem raiseAt_regs (src : Nat) (t : Instant) (fl : Nat) (p : List Byte) (s : State) : (raiseAt src t fl p s).regs = s.regs :=
  (congrArg State.regs (raiseAt_base src t fl p s) :)
@[simp] theorem raiseAt_shadowRegs (src : Nat) (t : Instant) (fl : Nat) (p : List Byte) (s : State) : (raiseAt src t fl p s).shadowRegs = s.shadowRegs :=
  (congrArg State.shadowRegs (raiseAt_base src t fl p s) :)
@[simp] theorem raiseAt_live (src : Nat) (t : Instant) (fl : Nat) (p : List Byte) (s : State) : (raiseAt src t fl p s).live = s.live :=
  (congrArg State.live (raiseAt_base src t fl p s) :)
@[simp] theorem raiseAt_reject (src : Nat) (t : Instant) (fl : Nat) (p : List Byte) (s : State) : (raiseAt src t fl p s).reject = s.reject :=
  (congrArg State.reject (raiseAt_base src t fl p s) :)
@[simp] theorem raiseAt_out (src : Nat) (t : Instant) (fl : Nat) (p : List Byte) (s : State) : (raiseAt src t fl p s).out = s.out :=
  (congrArg State.out (raiseAt_base src t fl p s) :)
@[simp] theorem raiseAt_freeCtr (src : Nat) (t : Instant) (fl : Nat) (p : List Byte) (s : State) : (raiseAt src t fl p s).freeCtr = s.freeCtr :=
  (congrArg State.freeCtr (raiseAt_base src t fl p s) :)

/-! ### raiseEv -/

@[simp] theorem raiseEv_pending (src : Nat) (p : List Byte) (s : State) : (raiseEv src p s).pending = s.pending :=
  (congrArg State.pending (raiseEv_base src p s) :)
@[simp] theorem raiseEv_time (src : Nat) (p : List Byte) (s : State) : (raiseEv src p s).time = s.time :=
  (congrArg State.time (raiseEv_base src p s) :)
@[simp] theorem raiseEv_ptp0 (src : Nat) (p : List Byte) (s : State) : (raiseEv src p s).ptp0 = s.ptp0 :=
  (congrArg State.ptp0 (raiseEv_base src p s) :)
@[simp] theorem raiseEv_ptp1 (src : Nat) (p : List Byte) (s : State) : (raiseEv src p s).ptp1 = s.ptp1 :=
  (congrArg State.ptp1 (raiseEv_base src p s) :)
@[simp] theorem raiseEv_ptpSel (src : Nat) (p : List Byte) (s : State) : (raiseEv src p s).ptpSel = s.ptpSel :=
  (congrArg State.ptpSel (raiseEv_base src p s) :)
@[simp] theorem raiseEv_caps (src : Nat) (p : List Byte) (s : State) : (raiseEv src p s).caps = s.caps :=
  (congrArg State.caps (raiseEv_base src p s) :)
@[simp] theorem raiseEv_beacons (src : Nat) (p : List Byte) (s : State) : (raiseEv src p s).beacons = s.beacons :=
  (congrArg State.beacons (raiseEv_base src p s) :)
@[simp] theorem raiseEv_boot (src : Nat) (p : List Byte) (s : State) : (raiseEv src p s).boot = s.boot :=
  (congrArg State.boot (raiseEv_base src p s) :)
@[simp] theorem raiseEv_life (src : Nat) (p : List Byte) (s : State) : (raiseEv src p s).life = s.life :=
  (congrArg State.life (raiseEv_base src p s) :)
@[simp] theorem raiseEv_genEpoch (src : Nat) (p : List Byte) (s : State) : (raiseEv src p s).genEpoch = s.genEpoch :=
  (congrArg State.genEpoch (raiseEv_base src p s) :)
@[simp] theorem raiseEv_genCount (src : Nat) (p : List Byte) (s : State) : (raiseEv src p s).genCount = s.genCount :=
  (congrArg State.genCount (raiseEv_base src p s) :)
@[simp] theorem raiseEv_digest (src : Nat) (p : List Byte) (s : State) : (raiseEv src p s).digest = s.digest :=
  (congrArg State.digest (raiseEv_base src p s) :)
@[simp] theorem raiseEv_digests (src : Nat) (p : List Byte) (s : State) : (raiseEv src p s).digests = s.digests :=
  (congrArg State.digests (raiseEv_base src p s) :)
@[simp] theorem raiseEv_active (src : Nat) (p : List Byte) (s : State) : (raiseEv src p s).active = s.active :=
  (congrArg State.active (raiseEv_base src p s) :)
@[simp] theorem raiseEv_image (src : Nat) (p : List Byte) (s : State) : (raiseEv src p s).image = s.image :=
  (congrArg State.image (raiseEv_base src p s) :)
@[simp] theorem raiseEv_legs (src : Nat) (p : List Byte) (s : State) : (raiseEv src p s).legs = s.legs :=
  (congrArg State.legs (raiseEv_base src p s) :)
@[simp] theorem raiseEv_planner (src : Nat) (p : List Byte) (s : State) : (raiseEv src p s).planner = s.planner :=
  (congrArg State.planner (raiseEv_base src p s) :)
@[simp] theorem raiseEv_batches (src : Nat) (p : List Byte) (s : State) : (raiseEv src p s).batches = s.batches :=
  (congrArg State.batches (raiseEv_base src p s) :)
@[simp] theorem raiseEv_closed (src : Nat) (p : List Byte) (s : State) : (raiseEv src p s).closed = s.closed :=
  (congrArg State.closed (raiseEv_base src p s) :)
@[simp] theorem raiseEv_nextBatch (src : Nat) (p : List Byte) (s : State) : (raiseEv src p s).nextBatch = s.nextBatch :=
  (congrArg State.nextBatch (raiseEv_base src p s) :)
@[simp] theorem raiseEv_lateBatches (src : Nat) (p : List Byte) (s : State) : (raiseEv src p s).lateBatches = s.lateBatches :=
  (congrArg State.lateBatches (raiseEv_base src p s) :)
@[simp] theorem raiseEv_commitCount (src : Nat) (p : List Byte) (s : State) : (raiseEv src p s).commitCount = s.commitCount :=
  (congrArg State.commitCount (raiseEv_base src p s) :)
@[simp] theorem raiseEv_sched (src : Nat) (p : List Byte) (s : State) : (raiseEv src p s).sched = s.sched :=
  (congrArg State.sched (raiseEv_base src p s) :)
@[simp] theorem raiseEv_cfgs (src : Nat) (p : List Byte) (s : State) : (raiseEv src p s).cfgs = s.cfgs :=
  (congrArg State.cfgs (raiseEv_base src p s) :)
@[simp] theorem raiseEv_elems (src : Nat) (p : List Byte) (s : State) : (raiseEv src p s).elems = s.elems :=
  (congrArg State.elems (raiseEv_base src p s) :)
@[simp] theorem raiseEv_loopsStarted (src : Nat) (p : List Byte) (s : State) : (raiseEv src p s).loopsStarted = s.loopsStarted :=
  (congrArg State.loopsStarted (raiseEv_base src p s) :)
@[simp] theorem raiseEv_lateSkips (src : Nat) (p : List Byte) (s : State) : (raiseEv src p s).lateSkips = s.lateSkips :=
  (congrArg State.lateSkips (raiseEv_base src p s) :)
@[simp] theorem raiseEv_notches (src : Nat) (p : List Byte) (s : State) : (raiseEv src p s).notches = s.notches :=
  (congrArg State.notches (raiseEv_base src p s) :)
@[simp] theorem raiseEv_lanesA (src : Nat) (p : List Byte) (s : State) : (raiseEv src p s).lanesA = s.lanesA :=
  (congrArg State.lanesA (raiseEv_base src p s) :)
@[simp] theorem raiseEv_lanesB (src : Nat) (p : List Byte) (s : State) : (raiseEv src p s).lanesB = s.lanesB :=
  (congrArg State.lanesB (raiseEv_base src p s) :)
@[simp] theorem raiseEv_chans (src : Nat) (p : List Byte) (s : State) : (raiseEv src p s).chans = s.chans :=
  (congrArg State.chans (raiseEv_base src p s) :)
@[simp] theorem raiseEv_ladder (src : Nat) (p : List Byte) (s : State) : (raiseEv src p s).ladder = s.ladder :=
  (congrArg State.ladder (raiseEv_base src p s) :)
@[simp] theorem raiseEv_mismatchesCleared (src : Nat) (p : List Byte) (s : State) : (raiseEv src p s).mismatchesCleared = s.mismatchesCleared :=
  (congrArg State.mismatchesCleared (raiseEv_base src p s) :)
@[simp] theorem raiseEv_clear (src : Nat) (p : List Byte) (s : State) : (raiseEv src p s).clear = s.clear :=
  (congrArg State.clear (raiseEv_base src p s) :)
@[simp] theorem raiseEv_aux (src : Nat) (p : List Byte) (s : State) : (raiseEv src p s).aux = s.aux :=
  (congrArg State.aux (raiseEv_base src p s) :)
@[simp] theorem raiseEv_dets (src : Nat) (p : List Byte) (s : State) : (raiseEv src p s).dets = s.dets :=
  (congrArg State.dets (raiseEv_base src p s) :)
@[simp] theorem raiseEv_buoys (src : Nat) (p : List Byte) (s : State) : (raiseEv src p s).buoys = s.buoys :=
  (congrArg State.buoys (raiseEv_base src p s) :)
@[simp] theorem raiseEv_ports (src : Nat) (p : List Byte) (s : State) : (raiseEv src p s).ports = s.ports :=
  (congrArg State.ports (raiseEv_base src p s) :)
@[simp] theorem raiseEv_windowsDiscarded (src : Nat) (p : List Byte) (s : State) : (raiseEv src p s).windowsDiscarded = s.windowsDiscarded :=
  (congrArg State.windowsDiscarded (raiseEv_base src p s) :)
@[simp] theorem raiseEv_ampNow (src : Nat) (p : List Byte) (s : State) : (raiseEv src p s).ampNow = s.ampNow :=
  (congrArg State.ampNow (raiseEv_base src p s) :)
@[simp] theorem raiseEv_ampNext (src : Nat) (p : List Byte) (s : State) : (raiseEv src p s).ampNext = s.ampNext :=
  (congrArg State.ampNext (raiseEv_base src p s) :)
@[simp] theorem raiseEv_hm6 (src : Nat) (p : List Byte) (s : State) : (raiseEv src p s).hm6 = s.hm6 :=
  (congrArg State.hm6 (raiseEv_base src p s) :)
@[simp] theorem raiseEv_hm7 (src : Nat) (p : List Byte) (s : State) : (raiseEv src p s).hm7 = s.hm7 :=
  (congrArg State.hm7 (raiseEv_base src p s) :)
@[simp] theorem raiseEv_cal (src : Nat) (p : List Byte) (s : State) : (raiseEv src p s).cal = s.cal :=
  (congrArg State.cal (raiseEv_base src p s) :)
@[simp] theorem raiseEv_thermal (src : Nat) (p : List Byte) (s : State) : (raiseEv src p s).thermal = s.thermal :=
  (congrArg State.thermal (raiseEv_base src p s) :)
@[simp] theorem raiseEv_fans (src : Nat) (p : List Byte) (s : State) : (raiseEv src p s).fans = s.fans :=
  (congrArg State.fans (raiseEv_base src p s) :)
@[simp] theorem raiseEv_hkc0 (src : Nat) (p : List Byte) (s : State) : (raiseEv src p s).hkc0 = s.hkc0 :=
  (congrArg State.hkc0 (raiseEv_base src p s) :)
@[simp] theorem raiseEv_hkc1 (src : Nat) (p : List Byte) (s : State) : (raiseEv src p s).hkc1 = s.hkc1 :=
  (congrArg State.hkc1 (raiseEv_base src p s) :)
@[simp] theorem raiseEv_rewriting (src : Nat) (p : List Byte) (s : State) : (raiseEv src p s).rewriting = s.rewriting :=
  (congrArg State.rewriting (raiseEv_base src p s) :)
@[simp] theorem raiseEv_mem (src : Nat) (p : List Byte) (s : State) : (raiseEv src p s).mem = s.mem :=
  (congrArg State.mem (raiseEv_base src p s) :)
@[simp] theorem raiseEv_ddr (src : Nat) (p : List Byte) (s : State) : (raiseEv src p s).ddr = s.ddr :=
  (congrArg State.ddr (raiseEv_base src p s) :)
@[simp] theorem raiseEv_banks (src : Nat) (p : List Byte) (s : State) : (raiseEv src p s).banks = s.banks :=
  (congrArg State.banks (raiseEv_base src p s) :)
@[simp] theorem raiseEv_proof (src : Nat) (p : List Byte) (s : State) : (raiseEv src p s).proof = s.proof :=
  (congrArg State.proof (raiseEv_base src p s) :)
@[simp] theorem raiseEv_matrix (src : Nat) (p : List Byte) (s : State) : (raiseEv src p s).matrix = s.matrix :=
  (congrArg State.matrix (raiseEv_base src p s) :)
@[simp] theorem raiseEv_mbx (src : Nat) (p : List Byte) (s : State) : (raiseEv src p s).mbx = s.mbx :=
  (congrArg State.mbx (raiseEv_base src p s) :)
@[simp] theorem raiseEv_aex (src : Nat) (p : List Byte) (s : State) : (raiseEv src p s).aex = s.aex :=
  (congrArg State.aex (raiseEv_base src p s) :)
@[simp] theorem raiseEv_kept (src : Nat) (p : List Byte) (s : State) : (raiseEv src p s).kept = s.kept :=
  (congrArg State.kept (raiseEv_base src p s) :)
@[simp] theorem raiseEv_spi (src : Nat) (p : List Byte) (s : State) : (raiseEv src p s).spi = s.spi :=
  (congrArg State.spi (raiseEv_base src p s) :)
@[simp] theorem raiseEv_bar2Sleep (src : Nat) (p : List Byte) (s : State) : (raiseEv src p s).bar2Sleep = s.bar2Sleep :=
  (congrArg State.bar2Sleep (raiseEv_base src p s) :)
@[simp] theorem raiseEv_disp (src : Nat) (p : List Byte) (s : State) : (raiseEv src p s).disp = s.disp :=
  (congrArg State.disp (raiseEv_base src p s) :)
@[simp] theorem raiseEv_gate0 (src : Nat) (p : List Byte) (s : State) : (raiseEv src p s).gate0 = s.gate0 :=
  (congrArg State.gate0 (raiseEv_base src p s) :)
@[simp] theorem raiseEv_gate1 (src : Nat) (p : List Byte) (s : State) : (raiseEv src p s).gate1 = s.gate1 :=
  (congrArg State.gate1 (raiseEv_base src p s) :)
@[simp] theorem raiseEv_objs (src : Nat) (p : List Byte) (s : State) : (raiseEv src p s).objs = s.objs :=
  (congrArg State.objs (raiseEv_base src p s) :)
@[simp] theorem raiseEv_blobs (src : Nat) (p : List Byte) (s : State) : (raiseEv src p s).blobs = s.blobs :=
  (congrArg State.blobs (raiseEv_base src p s) :)
@[simp] theorem raiseEv_regs (src : Nat) (p : List Byte) (s : State) : (raiseEv src p s).regs = s.regs :=
  (congrArg State.regs (raiseEv_base src p s) :)
@[simp] theorem raiseEv_shadowRegs (src : Nat) (p : List Byte) (s : State) : (raiseEv src p s).shadowRegs = s.shadowRegs :=
  (congrArg State.shadowRegs (raiseEv_base src p s) :)
@[simp] theorem raiseEv_live (src : Nat) (p : List Byte) (s : State) : (raiseEv src p s).live = s.live :=
  (congrArg State.live (raiseEv_base src p s) :)
@[simp] theorem raiseEv_reject (src : Nat) (p : List Byte) (s : State) : (raiseEv src p s).reject = s.reject :=
  (congrArg State.reject (raiseEv_base src p s) :)
@[simp] theorem raiseEv_out (src : Nat) (p : List Byte) (s : State) : (raiseEv src p s).out = s.out :=
  (congrArg State.out (raiseEv_base src p s) :)
@[simp] theorem raiseEv_freeCtr (src : Nat) (p : List Byte) (s : State) : (raiseEv src p s).freeCtr = s.freeCtr :=
  (congrArg State.freeCtr (raiseEv_base src p s) :)

/-! ### raiseLimited -/

@[simp] theorem raiseLimited_pending (key i src : Nat) (p : List Byte) (s : State) : (raiseLimited key i src p s).pending = s.pending :=
  (congrArg State.pending (raiseLimited_base key i src p s) :)
@[simp] theorem raiseLimited_time (key i src : Nat) (p : List Byte) (s : State) : (raiseLimited key i src p s).time = s.time :=
  (congrArg State.time (raiseLimited_base key i src p s) :)
@[simp] theorem raiseLimited_ptp0 (key i src : Nat) (p : List Byte) (s : State) : (raiseLimited key i src p s).ptp0 = s.ptp0 :=
  (congrArg State.ptp0 (raiseLimited_base key i src p s) :)
@[simp] theorem raiseLimited_ptp1 (key i src : Nat) (p : List Byte) (s : State) : (raiseLimited key i src p s).ptp1 = s.ptp1 :=
  (congrArg State.ptp1 (raiseLimited_base key i src p s) :)
@[simp] theorem raiseLimited_ptpSel (key i src : Nat) (p : List Byte) (s : State) : (raiseLimited key i src p s).ptpSel = s.ptpSel :=
  (congrArg State.ptpSel (raiseLimited_base key i src p s) :)
@[simp] theorem raiseLimited_caps (key i src : Nat) (p : List Byte) (s : State) : (raiseLimited key i src p s).caps = s.caps :=
  (congrArg State.caps (raiseLimited_base key i src p s) :)
@[simp] theorem raiseLimited_beacons (key i src : Nat) (p : List Byte) (s : State) : (raiseLimited key i src p s).beacons = s.beacons :=
  (congrArg State.beacons (raiseLimited_base key i src p s) :)
@[simp] theorem raiseLimited_boot (key i src : Nat) (p : List Byte) (s : State) : (raiseLimited key i src p s).boot = s.boot :=
  (congrArg State.boot (raiseLimited_base key i src p s) :)
@[simp] theorem raiseLimited_life (key i src : Nat) (p : List Byte) (s : State) : (raiseLimited key i src p s).life = s.life :=
  (congrArg State.life (raiseLimited_base key i src p s) :)
@[simp] theorem raiseLimited_genEpoch (key i src : Nat) (p : List Byte) (s : State) : (raiseLimited key i src p s).genEpoch = s.genEpoch :=
  (congrArg State.genEpoch (raiseLimited_base key i src p s) :)
@[simp] theorem raiseLimited_genCount (key i src : Nat) (p : List Byte) (s : State) : (raiseLimited key i src p s).genCount = s.genCount :=
  (congrArg State.genCount (raiseLimited_base key i src p s) :)
@[simp] theorem raiseLimited_digest (key i src : Nat) (p : List Byte) (s : State) : (raiseLimited key i src p s).digest = s.digest :=
  (congrArg State.digest (raiseLimited_base key i src p s) :)
@[simp] theorem raiseLimited_digests (key i src : Nat) (p : List Byte) (s : State) : (raiseLimited key i src p s).digests = s.digests :=
  (congrArg State.digests (raiseLimited_base key i src p s) :)
@[simp] theorem raiseLimited_active (key i src : Nat) (p : List Byte) (s : State) : (raiseLimited key i src p s).active = s.active :=
  (congrArg State.active (raiseLimited_base key i src p s) :)
@[simp] theorem raiseLimited_image (key i src : Nat) (p : List Byte) (s : State) : (raiseLimited key i src p s).image = s.image :=
  (congrArg State.image (raiseLimited_base key i src p s) :)
@[simp] theorem raiseLimited_legs (key i src : Nat) (p : List Byte) (s : State) : (raiseLimited key i src p s).legs = s.legs :=
  (congrArg State.legs (raiseLimited_base key i src p s) :)
@[simp] theorem raiseLimited_planner (key i src : Nat) (p : List Byte) (s : State) : (raiseLimited key i src p s).planner = s.planner :=
  (congrArg State.planner (raiseLimited_base key i src p s) :)
@[simp] theorem raiseLimited_batches (key i src : Nat) (p : List Byte) (s : State) : (raiseLimited key i src p s).batches = s.batches :=
  (congrArg State.batches (raiseLimited_base key i src p s) :)
@[simp] theorem raiseLimited_closed (key i src : Nat) (p : List Byte) (s : State) : (raiseLimited key i src p s).closed = s.closed :=
  (congrArg State.closed (raiseLimited_base key i src p s) :)
@[simp] theorem raiseLimited_nextBatch (key i src : Nat) (p : List Byte) (s : State) : (raiseLimited key i src p s).nextBatch = s.nextBatch :=
  (congrArg State.nextBatch (raiseLimited_base key i src p s) :)
@[simp] theorem raiseLimited_lateBatches (key i src : Nat) (p : List Byte) (s : State) : (raiseLimited key i src p s).lateBatches = s.lateBatches :=
  (congrArg State.lateBatches (raiseLimited_base key i src p s) :)
@[simp] theorem raiseLimited_commitCount (key i src : Nat) (p : List Byte) (s : State) : (raiseLimited key i src p s).commitCount = s.commitCount :=
  (congrArg State.commitCount (raiseLimited_base key i src p s) :)
@[simp] theorem raiseLimited_sched (key i src : Nat) (p : List Byte) (s : State) : (raiseLimited key i src p s).sched = s.sched :=
  (congrArg State.sched (raiseLimited_base key i src p s) :)
@[simp] theorem raiseLimited_cfgs (key i src : Nat) (p : List Byte) (s : State) : (raiseLimited key i src p s).cfgs = s.cfgs :=
  (congrArg State.cfgs (raiseLimited_base key i src p s) :)
@[simp] theorem raiseLimited_elems (key i src : Nat) (p : List Byte) (s : State) : (raiseLimited key i src p s).elems = s.elems :=
  (congrArg State.elems (raiseLimited_base key i src p s) :)
@[simp] theorem raiseLimited_loopsStarted (key i src : Nat) (p : List Byte) (s : State) : (raiseLimited key i src p s).loopsStarted = s.loopsStarted :=
  (congrArg State.loopsStarted (raiseLimited_base key i src p s) :)
@[simp] theorem raiseLimited_lateSkips (key i src : Nat) (p : List Byte) (s : State) : (raiseLimited key i src p s).lateSkips = s.lateSkips :=
  (congrArg State.lateSkips (raiseLimited_base key i src p s) :)
@[simp] theorem raiseLimited_notches (key i src : Nat) (p : List Byte) (s : State) : (raiseLimited key i src p s).notches = s.notches :=
  (congrArg State.notches (raiseLimited_base key i src p s) :)
@[simp] theorem raiseLimited_lanesA (key i src : Nat) (p : List Byte) (s : State) : (raiseLimited key i src p s).lanesA = s.lanesA :=
  (congrArg State.lanesA (raiseLimited_base key i src p s) :)
@[simp] theorem raiseLimited_lanesB (key i src : Nat) (p : List Byte) (s : State) : (raiseLimited key i src p s).lanesB = s.lanesB :=
  (congrArg State.lanesB (raiseLimited_base key i src p s) :)
@[simp] theorem raiseLimited_chans (key i src : Nat) (p : List Byte) (s : State) : (raiseLimited key i src p s).chans = s.chans :=
  (congrArg State.chans (raiseLimited_base key i src p s) :)
@[simp] theorem raiseLimited_ladder (key i src : Nat) (p : List Byte) (s : State) : (raiseLimited key i src p s).ladder = s.ladder :=
  (congrArg State.ladder (raiseLimited_base key i src p s) :)
@[simp] theorem raiseLimited_mismatchesCleared (key i src : Nat) (p : List Byte) (s : State) : (raiseLimited key i src p s).mismatchesCleared = s.mismatchesCleared :=
  (congrArg State.mismatchesCleared (raiseLimited_base key i src p s) :)
@[simp] theorem raiseLimited_clear (key i src : Nat) (p : List Byte) (s : State) : (raiseLimited key i src p s).clear = s.clear :=
  (congrArg State.clear (raiseLimited_base key i src p s) :)
@[simp] theorem raiseLimited_aux (key i src : Nat) (p : List Byte) (s : State) : (raiseLimited key i src p s).aux = s.aux :=
  (congrArg State.aux (raiseLimited_base key i src p s) :)
@[simp] theorem raiseLimited_dets (key i src : Nat) (p : List Byte) (s : State) : (raiseLimited key i src p s).dets = s.dets :=
  (congrArg State.dets (raiseLimited_base key i src p s) :)
@[simp] theorem raiseLimited_buoys (key i src : Nat) (p : List Byte) (s : State) : (raiseLimited key i src p s).buoys = s.buoys :=
  (congrArg State.buoys (raiseLimited_base key i src p s) :)
@[simp] theorem raiseLimited_ports (key i src : Nat) (p : List Byte) (s : State) : (raiseLimited key i src p s).ports = s.ports :=
  (congrArg State.ports (raiseLimited_base key i src p s) :)
@[simp] theorem raiseLimited_windowsDiscarded (key i src : Nat) (p : List Byte) (s : State) : (raiseLimited key i src p s).windowsDiscarded = s.windowsDiscarded :=
  (congrArg State.windowsDiscarded (raiseLimited_base key i src p s) :)
@[simp] theorem raiseLimited_ampNow (key i src : Nat) (p : List Byte) (s : State) : (raiseLimited key i src p s).ampNow = s.ampNow :=
  (congrArg State.ampNow (raiseLimited_base key i src p s) :)
@[simp] theorem raiseLimited_ampNext (key i src : Nat) (p : List Byte) (s : State) : (raiseLimited key i src p s).ampNext = s.ampNext :=
  (congrArg State.ampNext (raiseLimited_base key i src p s) :)
@[simp] theorem raiseLimited_hm6 (key i src : Nat) (p : List Byte) (s : State) : (raiseLimited key i src p s).hm6 = s.hm6 :=
  (congrArg State.hm6 (raiseLimited_base key i src p s) :)
@[simp] theorem raiseLimited_hm7 (key i src : Nat) (p : List Byte) (s : State) : (raiseLimited key i src p s).hm7 = s.hm7 :=
  (congrArg State.hm7 (raiseLimited_base key i src p s) :)
@[simp] theorem raiseLimited_cal (key i src : Nat) (p : List Byte) (s : State) : (raiseLimited key i src p s).cal = s.cal :=
  (congrArg State.cal (raiseLimited_base key i src p s) :)
@[simp] theorem raiseLimited_thermal (key i src : Nat) (p : List Byte) (s : State) : (raiseLimited key i src p s).thermal = s.thermal :=
  (congrArg State.thermal (raiseLimited_base key i src p s) :)
@[simp] theorem raiseLimited_fans (key i src : Nat) (p : List Byte) (s : State) : (raiseLimited key i src p s).fans = s.fans :=
  (congrArg State.fans (raiseLimited_base key i src p s) :)
@[simp] theorem raiseLimited_hkc0 (key i src : Nat) (p : List Byte) (s : State) : (raiseLimited key i src p s).hkc0 = s.hkc0 :=
  (congrArg State.hkc0 (raiseLimited_base key i src p s) :)
@[simp] theorem raiseLimited_hkc1 (key i src : Nat) (p : List Byte) (s : State) : (raiseLimited key i src p s).hkc1 = s.hkc1 :=
  (congrArg State.hkc1 (raiseLimited_base key i src p s) :)
@[simp] theorem raiseLimited_rewriting (key i src : Nat) (p : List Byte) (s : State) : (raiseLimited key i src p s).rewriting = s.rewriting :=
  (congrArg State.rewriting (raiseLimited_base key i src p s) :)
@[simp] theorem raiseLimited_mem (key i src : Nat) (p : List Byte) (s : State) : (raiseLimited key i src p s).mem = s.mem :=
  (congrArg State.mem (raiseLimited_base key i src p s) :)
@[simp] theorem raiseLimited_ddr (key i src : Nat) (p : List Byte) (s : State) : (raiseLimited key i src p s).ddr = s.ddr :=
  (congrArg State.ddr (raiseLimited_base key i src p s) :)
@[simp] theorem raiseLimited_banks (key i src : Nat) (p : List Byte) (s : State) : (raiseLimited key i src p s).banks = s.banks :=
  (congrArg State.banks (raiseLimited_base key i src p s) :)
@[simp] theorem raiseLimited_proof (key i src : Nat) (p : List Byte) (s : State) : (raiseLimited key i src p s).proof = s.proof :=
  (congrArg State.proof (raiseLimited_base key i src p s) :)
@[simp] theorem raiseLimited_matrix (key i src : Nat) (p : List Byte) (s : State) : (raiseLimited key i src p s).matrix = s.matrix :=
  (congrArg State.matrix (raiseLimited_base key i src p s) :)
@[simp] theorem raiseLimited_mbx (key i src : Nat) (p : List Byte) (s : State) : (raiseLimited key i src p s).mbx = s.mbx :=
  (congrArg State.mbx (raiseLimited_base key i src p s) :)
@[simp] theorem raiseLimited_aex (key i src : Nat) (p : List Byte) (s : State) : (raiseLimited key i src p s).aex = s.aex :=
  (congrArg State.aex (raiseLimited_base key i src p s) :)
@[simp] theorem raiseLimited_kept (key i src : Nat) (p : List Byte) (s : State) : (raiseLimited key i src p s).kept = s.kept :=
  (congrArg State.kept (raiseLimited_base key i src p s) :)
@[simp] theorem raiseLimited_spi (key i src : Nat) (p : List Byte) (s : State) : (raiseLimited key i src p s).spi = s.spi :=
  (congrArg State.spi (raiseLimited_base key i src p s) :)
@[simp] theorem raiseLimited_bar2Sleep (key i src : Nat) (p : List Byte) (s : State) : (raiseLimited key i src p s).bar2Sleep = s.bar2Sleep :=
  (congrArg State.bar2Sleep (raiseLimited_base key i src p s) :)
@[simp] theorem raiseLimited_disp (key i src : Nat) (p : List Byte) (s : State) : (raiseLimited key i src p s).disp = s.disp :=
  (congrArg State.disp (raiseLimited_base key i src p s) :)
@[simp] theorem raiseLimited_gate0 (key i src : Nat) (p : List Byte) (s : State) : (raiseLimited key i src p s).gate0 = s.gate0 :=
  (congrArg State.gate0 (raiseLimited_base key i src p s) :)
@[simp] theorem raiseLimited_gate1 (key i src : Nat) (p : List Byte) (s : State) : (raiseLimited key i src p s).gate1 = s.gate1 :=
  (congrArg State.gate1 (raiseLimited_base key i src p s) :)
@[simp] theorem raiseLimited_objs (key i src : Nat) (p : List Byte) (s : State) : (raiseLimited key i src p s).objs = s.objs :=
  (congrArg State.objs (raiseLimited_base key i src p s) :)
@[simp] theorem raiseLimited_blobs (key i src : Nat) (p : List Byte) (s : State) : (raiseLimited key i src p s).blobs = s.blobs :=
  (congrArg State.blobs (raiseLimited_base key i src p s) :)
@[simp] theorem raiseLimited_regs (key i src : Nat) (p : List Byte) (s : State) : (raiseLimited key i src p s).regs = s.regs :=
  (congrArg State.regs (raiseLimited_base key i src p s) :)
@[simp] theorem raiseLimited_shadowRegs (key i src : Nat) (p : List Byte) (s : State) : (raiseLimited key i src p s).shadowRegs = s.shadowRegs :=
  (congrArg State.shadowRegs (raiseLimited_base key i src p s) :)
@[simp] theorem raiseLimited_live (key i src : Nat) (p : List Byte) (s : State) : (raiseLimited key i src p s).live = s.live :=
  (congrArg State.live (raiseLimited_base key i src p s) :)
@[simp] theorem raiseLimited_reject (key i src : Nat) (p : List Byte) (s : State) : (raiseLimited key i src p s).reject = s.reject :=
  (congrArg State.reject (raiseLimited_base key i src p s) :)
@[simp] theorem raiseLimited_out (key i src : Nat) (p : List Byte) (s : State) : (raiseLimited key i src p s).out = s.out :=
  (congrArg State.out (raiseLimited_base key i src p s) :)
@[simp] theorem raiseLimited_freeCtr (key i src : Nat) (p : List Byte) (s : State) : (raiseLimited key i src p s).freeCtr = s.freeCtr :=
  (congrArg State.freeCtr (raiseLimited_base key i src p s) :)

/-! ### wakeForge -/

@[simp] theorem wakeForge_pending  (s : State) : (wakeForge s).pending = s.pending :=
  (congrArg State.pending (wakeForge_base s) :)
@[simp] theorem wakeForge_time  (s : State) : (wakeForge s).time = s.time :=
  (congrArg State.time (wakeForge_base s) :)
@[simp] theorem wakeForge_ptp0  (s : State) : (wakeForge s).ptp0 = s.ptp0 :=
  (congrArg State.ptp0 (wakeForge_base s) :)
@[simp] theorem wakeForge_ptp1  (s : State) : (wakeForge s).ptp1 = s.ptp1 :=
  (congrArg State.ptp1 (wakeForge_base s) :)
@[simp] theorem wakeForge_ptpSel  (s : State) : (wakeForge s).ptpSel = s.ptpSel :=
  (congrArg State.ptpSel (wakeForge_base s) :)
@[simp] theorem wakeForge_caps  (s : State) : (wakeForge s).caps = s.caps :=
  (congrArg State.caps (wakeForge_base s) :)
@[simp] theorem wakeForge_beacons  (s : State) : (wakeForge s).beacons = s.beacons :=
  (congrArg State.beacons (wakeForge_base s) :)
@[simp] theorem wakeForge_boot  (s : State) : (wakeForge s).boot = s.boot :=
  (congrArg State.boot (wakeForge_base s) :)
@[simp] theorem wakeForge_life  (s : State) : (wakeForge s).life = s.life :=
  (congrArg State.life (wakeForge_base s) :)
@[simp] theorem wakeForge_genEpoch  (s : State) : (wakeForge s).genEpoch = s.genEpoch :=
  (congrArg State.genEpoch (wakeForge_base s) :)
@[simp] theorem wakeForge_genCount  (s : State) : (wakeForge s).genCount = s.genCount :=
  (congrArg State.genCount (wakeForge_base s) :)
@[simp] theorem wakeForge_digest  (s : State) : (wakeForge s).digest = s.digest :=
  (congrArg State.digest (wakeForge_base s) :)
@[simp] theorem wakeForge_digests  (s : State) : (wakeForge s).digests = s.digests :=
  (congrArg State.digests (wakeForge_base s) :)
@[simp] theorem wakeForge_active  (s : State) : (wakeForge s).active = s.active :=
  (congrArg State.active (wakeForge_base s) :)
@[simp] theorem wakeForge_image  (s : State) : (wakeForge s).image = s.image :=
  (congrArg State.image (wakeForge_base s) :)
@[simp] theorem wakeForge_legs  (s : State) : (wakeForge s).legs = s.legs :=
  (congrArg State.legs (wakeForge_base s) :)
@[simp] theorem wakeForge_planner  (s : State) : (wakeForge s).planner = s.planner :=
  (congrArg State.planner (wakeForge_base s) :)
@[simp] theorem wakeForge_batches  (s : State) : (wakeForge s).batches = s.batches :=
  (congrArg State.batches (wakeForge_base s) :)
@[simp] theorem wakeForge_closed  (s : State) : (wakeForge s).closed = s.closed :=
  (congrArg State.closed (wakeForge_base s) :)
@[simp] theorem wakeForge_nextBatch  (s : State) : (wakeForge s).nextBatch = s.nextBatch :=
  (congrArg State.nextBatch (wakeForge_base s) :)
@[simp] theorem wakeForge_lateBatches  (s : State) : (wakeForge s).lateBatches = s.lateBatches :=
  (congrArg State.lateBatches (wakeForge_base s) :)
@[simp] theorem wakeForge_commitCount  (s : State) : (wakeForge s).commitCount = s.commitCount :=
  (congrArg State.commitCount (wakeForge_base s) :)
@[simp] theorem wakeForge_sched  (s : State) : (wakeForge s).sched = s.sched :=
  (congrArg State.sched (wakeForge_base s) :)
@[simp] theorem wakeForge_cfgs  (s : State) : (wakeForge s).cfgs = s.cfgs :=
  (congrArg State.cfgs (wakeForge_base s) :)
@[simp] theorem wakeForge_elems  (s : State) : (wakeForge s).elems = s.elems :=
  (congrArg State.elems (wakeForge_base s) :)
@[simp] theorem wakeForge_loopsStarted  (s : State) : (wakeForge s).loopsStarted = s.loopsStarted :=
  (congrArg State.loopsStarted (wakeForge_base s) :)
@[simp] theorem wakeForge_lateSkips  (s : State) : (wakeForge s).lateSkips = s.lateSkips :=
  (congrArg State.lateSkips (wakeForge_base s) :)
@[simp] theorem wakeForge_notches  (s : State) : (wakeForge s).notches = s.notches :=
  (congrArg State.notches (wakeForge_base s) :)
@[simp] theorem wakeForge_lanesA  (s : State) : (wakeForge s).lanesA = s.lanesA :=
  (congrArg State.lanesA (wakeForge_base s) :)
@[simp] theorem wakeForge_lanesB  (s : State) : (wakeForge s).lanesB = s.lanesB :=
  (congrArg State.lanesB (wakeForge_base s) :)
@[simp] theorem wakeForge_chans  (s : State) : (wakeForge s).chans = s.chans :=
  (congrArg State.chans (wakeForge_base s) :)
@[simp] theorem wakeForge_ladder  (s : State) : (wakeForge s).ladder = s.ladder :=
  (congrArg State.ladder (wakeForge_base s) :)
@[simp] theorem wakeForge_mismatchesCleared  (s : State) : (wakeForge s).mismatchesCleared = s.mismatchesCleared :=
  (congrArg State.mismatchesCleared (wakeForge_base s) :)
@[simp] theorem wakeForge_clear  (s : State) : (wakeForge s).clear = s.clear :=
  (congrArg State.clear (wakeForge_base s) :)
@[simp] theorem wakeForge_aux  (s : State) : (wakeForge s).aux = s.aux :=
  (congrArg State.aux (wakeForge_base s) :)
@[simp] theorem wakeForge_dets  (s : State) : (wakeForge s).dets = s.dets :=
  (congrArg State.dets (wakeForge_base s) :)
@[simp] theorem wakeForge_buoys  (s : State) : (wakeForge s).buoys = s.buoys :=
  (congrArg State.buoys (wakeForge_base s) :)
@[simp] theorem wakeForge_ports  (s : State) : (wakeForge s).ports = s.ports :=
  (congrArg State.ports (wakeForge_base s) :)
@[simp] theorem wakeForge_windowsDiscarded  (s : State) : (wakeForge s).windowsDiscarded = s.windowsDiscarded :=
  (congrArg State.windowsDiscarded (wakeForge_base s) :)
@[simp] theorem wakeForge_ampNow  (s : State) : (wakeForge s).ampNow = s.ampNow :=
  (congrArg State.ampNow (wakeForge_base s) :)
@[simp] theorem wakeForge_ampNext  (s : State) : (wakeForge s).ampNext = s.ampNext :=
  (congrArg State.ampNext (wakeForge_base s) :)
@[simp] theorem wakeForge_hm6  (s : State) : (wakeForge s).hm6 = s.hm6 :=
  (congrArg State.hm6 (wakeForge_base s) :)
@[simp] theorem wakeForge_hm7  (s : State) : (wakeForge s).hm7 = s.hm7 :=
  (congrArg State.hm7 (wakeForge_base s) :)
@[simp] theorem wakeForge_cal  (s : State) : (wakeForge s).cal = s.cal :=
  (congrArg State.cal (wakeForge_base s) :)
@[simp] theorem wakeForge_thermal  (s : State) : (wakeForge s).thermal = s.thermal :=
  (congrArg State.thermal (wakeForge_base s) :)
@[simp] theorem wakeForge_fans  (s : State) : (wakeForge s).fans = s.fans :=
  (congrArg State.fans (wakeForge_base s) :)
@[simp] theorem wakeForge_hkc0  (s : State) : (wakeForge s).hkc0 = s.hkc0 :=
  (congrArg State.hkc0 (wakeForge_base s) :)
@[simp] theorem wakeForge_hkc1  (s : State) : (wakeForge s).hkc1 = s.hkc1 :=
  (congrArg State.hkc1 (wakeForge_base s) :)
@[simp] theorem wakeForge_rewriting  (s : State) : (wakeForge s).rewriting = s.rewriting :=
  (congrArg State.rewriting (wakeForge_base s) :)
@[simp] theorem wakeForge_mem  (s : State) : (wakeForge s).mem = s.mem :=
  (congrArg State.mem (wakeForge_base s) :)
@[simp] theorem wakeForge_ddr  (s : State) : (wakeForge s).ddr = s.ddr :=
  (congrArg State.ddr (wakeForge_base s) :)
@[simp] theorem wakeForge_banks  (s : State) : (wakeForge s).banks = s.banks :=
  (congrArg State.banks (wakeForge_base s) :)
@[simp] theorem wakeForge_proof  (s : State) : (wakeForge s).proof = s.proof :=
  (congrArg State.proof (wakeForge_base s) :)
@[simp] theorem wakeForge_matrix  (s : State) : (wakeForge s).matrix = s.matrix :=
  (congrArg State.matrix (wakeForge_base s) :)
@[simp] theorem wakeForge_mbx  (s : State) : (wakeForge s).mbx = s.mbx :=
  (congrArg State.mbx (wakeForge_base s) :)
@[simp] theorem wakeForge_aex  (s : State) : (wakeForge s).aex = s.aex :=
  (congrArg State.aex (wakeForge_base s) :)
@[simp] theorem wakeForge_kept  (s : State) : (wakeForge s).kept = s.kept :=
  (congrArg State.kept (wakeForge_base s) :)
@[simp] theorem wakeForge_spi  (s : State) : (wakeForge s).spi = s.spi :=
  (congrArg State.spi (wakeForge_base s) :)
@[simp] theorem wakeForge_bar2Sleep  (s : State) : (wakeForge s).bar2Sleep = s.bar2Sleep :=
  (congrArg State.bar2Sleep (wakeForge_base s) :)
@[simp] theorem wakeForge_disp  (s : State) : (wakeForge s).disp = s.disp :=
  (congrArg State.disp (wakeForge_base s) :)
@[simp] theorem wakeForge_gate0  (s : State) : (wakeForge s).gate0 = s.gate0 :=
  (congrArg State.gate0 (wakeForge_base s) :)
@[simp] theorem wakeForge_gate1  (s : State) : (wakeForge s).gate1 = s.gate1 :=
  (congrArg State.gate1 (wakeForge_base s) :)
@[simp] theorem wakeForge_objs  (s : State) : (wakeForge s).objs = s.objs :=
  (congrArg State.objs (wakeForge_base s) :)
@[simp] theorem wakeForge_blobs  (s : State) : (wakeForge s).blobs = s.blobs :=
  (congrArg State.blobs (wakeForge_base s) :)
@[simp] theorem wakeForge_regs  (s : State) : (wakeForge s).regs = s.regs :=
  (congrArg State.regs (wakeForge_base s) :)
@[simp] theorem wakeForge_shadowRegs  (s : State) : (wakeForge s).shadowRegs = s.shadowRegs :=
  (congrArg State.shadowRegs (wakeForge_base s) :)
@[simp] theorem wakeForge_live  (s : State) : (wakeForge s).live = s.live :=
  (congrArg State.live (wakeForge_base s) :)
@[simp] theorem wakeForge_reject  (s : State) : (wakeForge s).reject = s.reject :=
  (congrArg State.reject (wakeForge_base s) :)
@[simp] theorem wakeForge_out  (s : State) : (wakeForge s).out = s.out :=
  (congrArg State.out (wakeForge_base s) :)
@[simp] theorem wakeForge_freeCtr  (s : State) : (wakeForge s).freeCtr = s.freeCtr :=
  (congrArg State.freeCtr (wakeForge_base s) :)

/-! ### audit -/

@[simp] theorem audit_pending (ty : Nat) (p : List Byte) (s : State) : (audit ty p s).pending = s.pending :=
  (congrArg State.pending (audit_base ty p s) :)
@[simp] theorem audit_time (ty : Nat) (p : List Byte) (s : State) : (audit ty p s).time = s.time :=
  (congrArg State.time (audit_base ty p s) :)
@[simp] theorem audit_ptp0 (ty : Nat) (p : List Byte) (s : State) : (audit ty p s).ptp0 = s.ptp0 :=
  (congrArg State.ptp0 (audit_base ty p s) :)
@[simp] theorem audit_ptp1 (ty : Nat) (p : List Byte) (s : State) : (audit ty p s).ptp1 = s.ptp1 :=
  (congrArg State.ptp1 (audit_base ty p s) :)
@[simp] theorem audit_ptpSel (ty : Nat) (p : List Byte) (s : State) : (audit ty p s).ptpSel = s.ptpSel :=
  (congrArg State.ptpSel (audit_base ty p s) :)
@[simp] theorem audit_caps (ty : Nat) (p : List Byte) (s : State) : (audit ty p s).caps = s.caps :=
  (congrArg State.caps (audit_base ty p s) :)
@[simp] theorem audit_beacons (ty : Nat) (p : List Byte) (s : State) : (audit ty p s).beacons = s.beacons :=
  (congrArg State.beacons (audit_base ty p s) :)
@[simp] theorem audit_boot (ty : Nat) (p : List Byte) (s : State) : (audit ty p s).boot = s.boot :=
  (congrArg State.boot (audit_base ty p s) :)
@[simp] theorem audit_life (ty : Nat) (p : List Byte) (s : State) : (audit ty p s).life = s.life :=
  (congrArg State.life (audit_base ty p s) :)
@[simp] theorem audit_genEpoch (ty : Nat) (p : List Byte) (s : State) : (audit ty p s).genEpoch = s.genEpoch :=
  (congrArg State.genEpoch (audit_base ty p s) :)
@[simp] theorem audit_genCount (ty : Nat) (p : List Byte) (s : State) : (audit ty p s).genCount = s.genCount :=
  (congrArg State.genCount (audit_base ty p s) :)
@[simp] theorem audit_digest (ty : Nat) (p : List Byte) (s : State) : (audit ty p s).digest = s.digest :=
  (congrArg State.digest (audit_base ty p s) :)
@[simp] theorem audit_digests (ty : Nat) (p : List Byte) (s : State) : (audit ty p s).digests = s.digests :=
  (congrArg State.digests (audit_base ty p s) :)
@[simp] theorem audit_active (ty : Nat) (p : List Byte) (s : State) : (audit ty p s).active = s.active :=
  (congrArg State.active (audit_base ty p s) :)
@[simp] theorem audit_image (ty : Nat) (p : List Byte) (s : State) : (audit ty p s).image = s.image :=
  (congrArg State.image (audit_base ty p s) :)
@[simp] theorem audit_legs (ty : Nat) (p : List Byte) (s : State) : (audit ty p s).legs = s.legs :=
  (congrArg State.legs (audit_base ty p s) :)
@[simp] theorem audit_planner (ty : Nat) (p : List Byte) (s : State) : (audit ty p s).planner = s.planner :=
  (congrArg State.planner (audit_base ty p s) :)
@[simp] theorem audit_batches (ty : Nat) (p : List Byte) (s : State) : (audit ty p s).batches = s.batches :=
  (congrArg State.batches (audit_base ty p s) :)
@[simp] theorem audit_closed (ty : Nat) (p : List Byte) (s : State) : (audit ty p s).closed = s.closed :=
  (congrArg State.closed (audit_base ty p s) :)
@[simp] theorem audit_nextBatch (ty : Nat) (p : List Byte) (s : State) : (audit ty p s).nextBatch = s.nextBatch :=
  (congrArg State.nextBatch (audit_base ty p s) :)
@[simp] theorem audit_lateBatches (ty : Nat) (p : List Byte) (s : State) : (audit ty p s).lateBatches = s.lateBatches :=
  (congrArg State.lateBatches (audit_base ty p s) :)
@[simp] theorem audit_commitCount (ty : Nat) (p : List Byte) (s : State) : (audit ty p s).commitCount = s.commitCount :=
  (congrArg State.commitCount (audit_base ty p s) :)
@[simp] theorem audit_sched (ty : Nat) (p : List Byte) (s : State) : (audit ty p s).sched = s.sched :=
  (congrArg State.sched (audit_base ty p s) :)
@[simp] theorem audit_cfgs (ty : Nat) (p : List Byte) (s : State) : (audit ty p s).cfgs = s.cfgs :=
  (congrArg State.cfgs (audit_base ty p s) :)
@[simp] theorem audit_elems (ty : Nat) (p : List Byte) (s : State) : (audit ty p s).elems = s.elems :=
  (congrArg State.elems (audit_base ty p s) :)
@[simp] theorem audit_loopsStarted (ty : Nat) (p : List Byte) (s : State) : (audit ty p s).loopsStarted = s.loopsStarted :=
  (congrArg State.loopsStarted (audit_base ty p s) :)
@[simp] theorem audit_lateSkips (ty : Nat) (p : List Byte) (s : State) : (audit ty p s).lateSkips = s.lateSkips :=
  (congrArg State.lateSkips (audit_base ty p s) :)
@[simp] theorem audit_notches (ty : Nat) (p : List Byte) (s : State) : (audit ty p s).notches = s.notches :=
  (congrArg State.notches (audit_base ty p s) :)
@[simp] theorem audit_lanesA (ty : Nat) (p : List Byte) (s : State) : (audit ty p s).lanesA = s.lanesA :=
  (congrArg State.lanesA (audit_base ty p s) :)
@[simp] theorem audit_lanesB (ty : Nat) (p : List Byte) (s : State) : (audit ty p s).lanesB = s.lanesB :=
  (congrArg State.lanesB (audit_base ty p s) :)
@[simp] theorem audit_chans (ty : Nat) (p : List Byte) (s : State) : (audit ty p s).chans = s.chans :=
  (congrArg State.chans (audit_base ty p s) :)
@[simp] theorem audit_ladder (ty : Nat) (p : List Byte) (s : State) : (audit ty p s).ladder = s.ladder :=
  (congrArg State.ladder (audit_base ty p s) :)
@[simp] theorem audit_mismatchesCleared (ty : Nat) (p : List Byte) (s : State) : (audit ty p s).mismatchesCleared = s.mismatchesCleared :=
  (congrArg State.mismatchesCleared (audit_base ty p s) :)
@[simp] theorem audit_clear (ty : Nat) (p : List Byte) (s : State) : (audit ty p s).clear = s.clear :=
  (congrArg State.clear (audit_base ty p s) :)
@[simp] theorem audit_aux (ty : Nat) (p : List Byte) (s : State) : (audit ty p s).aux = s.aux :=
  (congrArg State.aux (audit_base ty p s) :)
@[simp] theorem audit_dets (ty : Nat) (p : List Byte) (s : State) : (audit ty p s).dets = s.dets :=
  (congrArg State.dets (audit_base ty p s) :)
@[simp] theorem audit_buoys (ty : Nat) (p : List Byte) (s : State) : (audit ty p s).buoys = s.buoys :=
  (congrArg State.buoys (audit_base ty p s) :)
@[simp] theorem audit_ports (ty : Nat) (p : List Byte) (s : State) : (audit ty p s).ports = s.ports :=
  (congrArg State.ports (audit_base ty p s) :)
@[simp] theorem audit_windowsDiscarded (ty : Nat) (p : List Byte) (s : State) : (audit ty p s).windowsDiscarded = s.windowsDiscarded :=
  (congrArg State.windowsDiscarded (audit_base ty p s) :)
@[simp] theorem audit_ampNow (ty : Nat) (p : List Byte) (s : State) : (audit ty p s).ampNow = s.ampNow :=
  (congrArg State.ampNow (audit_base ty p s) :)
@[simp] theorem audit_ampNext (ty : Nat) (p : List Byte) (s : State) : (audit ty p s).ampNext = s.ampNext :=
  (congrArg State.ampNext (audit_base ty p s) :)
@[simp] theorem audit_hm6 (ty : Nat) (p : List Byte) (s : State) : (audit ty p s).hm6 = s.hm6 :=
  (congrArg State.hm6 (audit_base ty p s) :)
@[simp] theorem audit_hm7 (ty : Nat) (p : List Byte) (s : State) : (audit ty p s).hm7 = s.hm7 :=
  (congrArg State.hm7 (audit_base ty p s) :)
@[simp] theorem audit_cal (ty : Nat) (p : List Byte) (s : State) : (audit ty p s).cal = s.cal :=
  (congrArg State.cal (audit_base ty p s) :)
@[simp] theorem audit_thermal (ty : Nat) (p : List Byte) (s : State) : (audit ty p s).thermal = s.thermal :=
  (congrArg State.thermal (audit_base ty p s) :)
@[simp] theorem audit_fans (ty : Nat) (p : List Byte) (s : State) : (audit ty p s).fans = s.fans :=
  (congrArg State.fans (audit_base ty p s) :)
@[simp] theorem audit_hkc0 (ty : Nat) (p : List Byte) (s : State) : (audit ty p s).hkc0 = s.hkc0 :=
  (congrArg State.hkc0 (audit_base ty p s) :)
@[simp] theorem audit_hkc1 (ty : Nat) (p : List Byte) (s : State) : (audit ty p s).hkc1 = s.hkc1 :=
  (congrArg State.hkc1 (audit_base ty p s) :)
@[simp] theorem audit_rewriting (ty : Nat) (p : List Byte) (s : State) : (audit ty p s).rewriting = s.rewriting :=
  (congrArg State.rewriting (audit_base ty p s) :)
@[simp] theorem audit_mem (ty : Nat) (p : List Byte) (s : State) : (audit ty p s).mem = s.mem :=
  (congrArg State.mem (audit_base ty p s) :)
@[simp] theorem audit_ddr (ty : Nat) (p : List Byte) (s : State) : (audit ty p s).ddr = s.ddr :=
  (congrArg State.ddr (audit_base ty p s) :)
@[simp] theorem audit_banks (ty : Nat) (p : List Byte) (s : State) : (audit ty p s).banks = s.banks :=
  (congrArg State.banks (audit_base ty p s) :)
@[simp] theorem audit_proof (ty : Nat) (p : List Byte) (s : State) : (audit ty p s).proof = s.proof :=
  (congrArg State.proof (audit_base ty p s) :)
@[simp] theorem audit_matrix (ty : Nat) (p : List Byte) (s : State) : (audit ty p s).matrix = s.matrix :=
  (congrArg State.matrix (audit_base ty p s) :)
@[simp] theorem audit_mbx (ty : Nat) (p : List Byte) (s : State) : (audit ty p s).mbx = s.mbx :=
  (congrArg State.mbx (audit_base ty p s) :)
@[simp] theorem audit_aex (ty : Nat) (p : List Byte) (s : State) : (audit ty p s).aex = s.aex :=
  (congrArg State.aex (audit_base ty p s) :)
@[simp] theorem audit_kept (ty : Nat) (p : List Byte) (s : State) : (audit ty p s).kept = s.kept :=
  (congrArg State.kept (audit_base ty p s) :)
@[simp] theorem audit_spi (ty : Nat) (p : List Byte) (s : State) : (audit ty p s).spi = s.spi :=
  (congrArg State.spi (audit_base ty p s) :)
@[simp] theorem audit_bar2Sleep (ty : Nat) (p : List Byte) (s : State) : (audit ty p s).bar2Sleep = s.bar2Sleep :=
  (congrArg State.bar2Sleep (audit_base ty p s) :)
@[simp] theorem audit_disp (ty : Nat) (p : List Byte) (s : State) : (audit ty p s).disp = s.disp :=
  (congrArg State.disp (audit_base ty p s) :)
@[simp] theorem audit_gate0 (ty : Nat) (p : List Byte) (s : State) : (audit ty p s).gate0 = s.gate0 :=
  (congrArg State.gate0 (audit_base ty p s) :)
@[simp] theorem audit_gate1 (ty : Nat) (p : List Byte) (s : State) : (audit ty p s).gate1 = s.gate1 :=
  (congrArg State.gate1 (audit_base ty p s) :)
@[simp] theorem audit_objs (ty : Nat) (p : List Byte) (s : State) : (audit ty p s).objs = s.objs :=
  (congrArg State.objs (audit_base ty p s) :)
@[simp] theorem audit_blobs (ty : Nat) (p : List Byte) (s : State) : (audit ty p s).blobs = s.blobs :=
  (congrArg State.blobs (audit_base ty p s) :)
@[simp] theorem audit_regs (ty : Nat) (p : List Byte) (s : State) : (audit ty p s).regs = s.regs :=
  (congrArg State.regs (audit_base ty p s) :)
@[simp] theorem audit_shadowRegs (ty : Nat) (p : List Byte) (s : State) : (audit ty p s).shadowRegs = s.shadowRegs :=
  (congrArg State.shadowRegs (audit_base ty p s) :)
@[simp] theorem audit_live (ty : Nat) (p : List Byte) (s : State) : (audit ty p s).live = s.live :=
  (congrArg State.live (audit_base ty p s) :)
@[simp] theorem audit_reject (ty : Nat) (p : List Byte) (s : State) : (audit ty p s).reject = s.reject :=
  (congrArg State.reject (audit_base ty p s) :)
@[simp] theorem audit_out (ty : Nat) (p : List Byte) (s : State) : (audit ty p s).out = s.out :=
  (congrArg State.out (audit_base ty p s) :)
@[simp] theorem audit_freeCtr (ty : Nat) (p : List Byte) (s : State) : (audit ty p s).freeCtr = s.freeCtr :=
  (congrArg State.freeCtr (audit_base ty p s) :)

/-! ### auditAt -/

@[simp] theorem auditAt_pending (t : Instant) (fl ty : Nat) (p : List Byte) (s : State) : (auditAt t fl ty p s).pending = s.pending :=
  (congrArg State.pending (auditAt_base t fl ty p s) :)
@[simp] theorem auditAt_time (t : Instant) (fl ty : Nat) (p : List Byte) (s : State) : (auditAt t fl ty p s).time = s.time :=
  (congrArg State.time (auditAt_base t fl ty p s) :)
@[simp] theorem auditAt_ptp0 (t : Instant) (fl ty : Nat) (p : List Byte) (s : State) : (auditAt t fl ty p s).ptp0 = s.ptp0 :=
  (congrArg State.ptp0 (auditAt_base t fl ty p s) :)
@[simp] theorem auditAt_ptp1 (t : Instant) (fl ty : Nat) (p : List Byte) (s : State) : (auditAt t fl ty p s).ptp1 = s.ptp1 :=
  (congrArg State.ptp1 (auditAt_base t fl ty p s) :)
@[simp] theorem auditAt_ptpSel (t : Instant) (fl ty : Nat) (p : List Byte) (s : State) : (auditAt t fl ty p s).ptpSel = s.ptpSel :=
  (congrArg State.ptpSel (auditAt_base t fl ty p s) :)
@[simp] theorem auditAt_caps (t : Instant) (fl ty : Nat) (p : List Byte) (s : State) : (auditAt t fl ty p s).caps = s.caps :=
  (congrArg State.caps (auditAt_base t fl ty p s) :)
@[simp] theorem auditAt_beacons (t : Instant) (fl ty : Nat) (p : List Byte) (s : State) : (auditAt t fl ty p s).beacons = s.beacons :=
  (congrArg State.beacons (auditAt_base t fl ty p s) :)
@[simp] theorem auditAt_boot (t : Instant) (fl ty : Nat) (p : List Byte) (s : State) : (auditAt t fl ty p s).boot = s.boot :=
  (congrArg State.boot (auditAt_base t fl ty p s) :)
@[simp] theorem auditAt_life (t : Instant) (fl ty : Nat) (p : List Byte) (s : State) : (auditAt t fl ty p s).life = s.life :=
  (congrArg State.life (auditAt_base t fl ty p s) :)
@[simp] theorem auditAt_genEpoch (t : Instant) (fl ty : Nat) (p : List Byte) (s : State) : (auditAt t fl ty p s).genEpoch = s.genEpoch :=
  (congrArg State.genEpoch (auditAt_base t fl ty p s) :)
@[simp] theorem auditAt_genCount (t : Instant) (fl ty : Nat) (p : List Byte) (s : State) : (auditAt t fl ty p s).genCount = s.genCount :=
  (congrArg State.genCount (auditAt_base t fl ty p s) :)
@[simp] theorem auditAt_digest (t : Instant) (fl ty : Nat) (p : List Byte) (s : State) : (auditAt t fl ty p s).digest = s.digest :=
  (congrArg State.digest (auditAt_base t fl ty p s) :)
@[simp] theorem auditAt_digests (t : Instant) (fl ty : Nat) (p : List Byte) (s : State) : (auditAt t fl ty p s).digests = s.digests :=
  (congrArg State.digests (auditAt_base t fl ty p s) :)
@[simp] theorem auditAt_active (t : Instant) (fl ty : Nat) (p : List Byte) (s : State) : (auditAt t fl ty p s).active = s.active :=
  (congrArg State.active (auditAt_base t fl ty p s) :)
@[simp] theorem auditAt_image (t : Instant) (fl ty : Nat) (p : List Byte) (s : State) : (auditAt t fl ty p s).image = s.image :=
  (congrArg State.image (auditAt_base t fl ty p s) :)
@[simp] theorem auditAt_legs (t : Instant) (fl ty : Nat) (p : List Byte) (s : State) : (auditAt t fl ty p s).legs = s.legs :=
  (congrArg State.legs (auditAt_base t fl ty p s) :)
@[simp] theorem auditAt_planner (t : Instant) (fl ty : Nat) (p : List Byte) (s : State) : (auditAt t fl ty p s).planner = s.planner :=
  (congrArg State.planner (auditAt_base t fl ty p s) :)
@[simp] theorem auditAt_batches (t : Instant) (fl ty : Nat) (p : List Byte) (s : State) : (auditAt t fl ty p s).batches = s.batches :=
  (congrArg State.batches (auditAt_base t fl ty p s) :)
@[simp] theorem auditAt_closed (t : Instant) (fl ty : Nat) (p : List Byte) (s : State) : (auditAt t fl ty p s).closed = s.closed :=
  (congrArg State.closed (auditAt_base t fl ty p s) :)
@[simp] theorem auditAt_nextBatch (t : Instant) (fl ty : Nat) (p : List Byte) (s : State) : (auditAt t fl ty p s).nextBatch = s.nextBatch :=
  (congrArg State.nextBatch (auditAt_base t fl ty p s) :)
@[simp] theorem auditAt_lateBatches (t : Instant) (fl ty : Nat) (p : List Byte) (s : State) : (auditAt t fl ty p s).lateBatches = s.lateBatches :=
  (congrArg State.lateBatches (auditAt_base t fl ty p s) :)
@[simp] theorem auditAt_commitCount (t : Instant) (fl ty : Nat) (p : List Byte) (s : State) : (auditAt t fl ty p s).commitCount = s.commitCount :=
  (congrArg State.commitCount (auditAt_base t fl ty p s) :)
@[simp] theorem auditAt_sched (t : Instant) (fl ty : Nat) (p : List Byte) (s : State) : (auditAt t fl ty p s).sched = s.sched :=
  (congrArg State.sched (auditAt_base t fl ty p s) :)
@[simp] theorem auditAt_cfgs (t : Instant) (fl ty : Nat) (p : List Byte) (s : State) : (auditAt t fl ty p s).cfgs = s.cfgs :=
  (congrArg State.cfgs (auditAt_base t fl ty p s) :)
@[simp] theorem auditAt_elems (t : Instant) (fl ty : Nat) (p : List Byte) (s : State) : (auditAt t fl ty p s).elems = s.elems :=
  (congrArg State.elems (auditAt_base t fl ty p s) :)
@[simp] theorem auditAt_loopsStarted (t : Instant) (fl ty : Nat) (p : List Byte) (s : State) : (auditAt t fl ty p s).loopsStarted = s.loopsStarted :=
  (congrArg State.loopsStarted (auditAt_base t fl ty p s) :)
@[simp] theorem auditAt_lateSkips (t : Instant) (fl ty : Nat) (p : List Byte) (s : State) : (auditAt t fl ty p s).lateSkips = s.lateSkips :=
  (congrArg State.lateSkips (auditAt_base t fl ty p s) :)
@[simp] theorem auditAt_notches (t : Instant) (fl ty : Nat) (p : List Byte) (s : State) : (auditAt t fl ty p s).notches = s.notches :=
  (congrArg State.notches (auditAt_base t fl ty p s) :)
@[simp] theorem auditAt_lanesA (t : Instant) (fl ty : Nat) (p : List Byte) (s : State) : (auditAt t fl ty p s).lanesA = s.lanesA :=
  (congrArg State.lanesA (auditAt_base t fl ty p s) :)
@[simp] theorem auditAt_lanesB (t : Instant) (fl ty : Nat) (p : List Byte) (s : State) : (auditAt t fl ty p s).lanesB = s.lanesB :=
  (congrArg State.lanesB (auditAt_base t fl ty p s) :)
@[simp] theorem auditAt_chans (t : Instant) (fl ty : Nat) (p : List Byte) (s : State) : (auditAt t fl ty p s).chans = s.chans :=
  (congrArg State.chans (auditAt_base t fl ty p s) :)
@[simp] theorem auditAt_ladder (t : Instant) (fl ty : Nat) (p : List Byte) (s : State) : (auditAt t fl ty p s).ladder = s.ladder :=
  (congrArg State.ladder (auditAt_base t fl ty p s) :)
@[simp] theorem auditAt_mismatchesCleared (t : Instant) (fl ty : Nat) (p : List Byte) (s : State) : (auditAt t fl ty p s).mismatchesCleared = s.mismatchesCleared :=
  (congrArg State.mismatchesCleared (auditAt_base t fl ty p s) :)
@[simp] theorem auditAt_clear (t : Instant) (fl ty : Nat) (p : List Byte) (s : State) : (auditAt t fl ty p s).clear = s.clear :=
  (congrArg State.clear (auditAt_base t fl ty p s) :)
@[simp] theorem auditAt_aux (t : Instant) (fl ty : Nat) (p : List Byte) (s : State) : (auditAt t fl ty p s).aux = s.aux :=
  (congrArg State.aux (auditAt_base t fl ty p s) :)
@[simp] theorem auditAt_dets (t : Instant) (fl ty : Nat) (p : List Byte) (s : State) : (auditAt t fl ty p s).dets = s.dets :=
  (congrArg State.dets (auditAt_base t fl ty p s) :)
@[simp] theorem auditAt_buoys (t : Instant) (fl ty : Nat) (p : List Byte) (s : State) : (auditAt t fl ty p s).buoys = s.buoys :=
  (congrArg State.buoys (auditAt_base t fl ty p s) :)
@[simp] theorem auditAt_ports (t : Instant) (fl ty : Nat) (p : List Byte) (s : State) : (auditAt t fl ty p s).ports = s.ports :=
  (congrArg State.ports (auditAt_base t fl ty p s) :)
@[simp] theorem auditAt_windowsDiscarded (t : Instant) (fl ty : Nat) (p : List Byte) (s : State) : (auditAt t fl ty p s).windowsDiscarded = s.windowsDiscarded :=
  (congrArg State.windowsDiscarded (auditAt_base t fl ty p s) :)
@[simp] theorem auditAt_ampNow (t : Instant) (fl ty : Nat) (p : List Byte) (s : State) : (auditAt t fl ty p s).ampNow = s.ampNow :=
  (congrArg State.ampNow (auditAt_base t fl ty p s) :)
@[simp] theorem auditAt_ampNext (t : Instant) (fl ty : Nat) (p : List Byte) (s : State) : (auditAt t fl ty p s).ampNext = s.ampNext :=
  (congrArg State.ampNext (auditAt_base t fl ty p s) :)
@[simp] theorem auditAt_hm6 (t : Instant) (fl ty : Nat) (p : List Byte) (s : State) : (auditAt t fl ty p s).hm6 = s.hm6 :=
  (congrArg State.hm6 (auditAt_base t fl ty p s) :)
@[simp] theorem auditAt_hm7 (t : Instant) (fl ty : Nat) (p : List Byte) (s : State) : (auditAt t fl ty p s).hm7 = s.hm7 :=
  (congrArg State.hm7 (auditAt_base t fl ty p s) :)
@[simp] theorem auditAt_cal (t : Instant) (fl ty : Nat) (p : List Byte) (s : State) : (auditAt t fl ty p s).cal = s.cal :=
  (congrArg State.cal (auditAt_base t fl ty p s) :)
@[simp] theorem auditAt_thermal (t : Instant) (fl ty : Nat) (p : List Byte) (s : State) : (auditAt t fl ty p s).thermal = s.thermal :=
  (congrArg State.thermal (auditAt_base t fl ty p s) :)
@[simp] theorem auditAt_fans (t : Instant) (fl ty : Nat) (p : List Byte) (s : State) : (auditAt t fl ty p s).fans = s.fans :=
  (congrArg State.fans (auditAt_base t fl ty p s) :)
@[simp] theorem auditAt_hkc0 (t : Instant) (fl ty : Nat) (p : List Byte) (s : State) : (auditAt t fl ty p s).hkc0 = s.hkc0 :=
  (congrArg State.hkc0 (auditAt_base t fl ty p s) :)
@[simp] theorem auditAt_hkc1 (t : Instant) (fl ty : Nat) (p : List Byte) (s : State) : (auditAt t fl ty p s).hkc1 = s.hkc1 :=
  (congrArg State.hkc1 (auditAt_base t fl ty p s) :)
@[simp] theorem auditAt_rewriting (t : Instant) (fl ty : Nat) (p : List Byte) (s : State) : (auditAt t fl ty p s).rewriting = s.rewriting :=
  (congrArg State.rewriting (auditAt_base t fl ty p s) :)
@[simp] theorem auditAt_mem (t : Instant) (fl ty : Nat) (p : List Byte) (s : State) : (auditAt t fl ty p s).mem = s.mem :=
  (congrArg State.mem (auditAt_base t fl ty p s) :)
@[simp] theorem auditAt_ddr (t : Instant) (fl ty : Nat) (p : List Byte) (s : State) : (auditAt t fl ty p s).ddr = s.ddr :=
  (congrArg State.ddr (auditAt_base t fl ty p s) :)
@[simp] theorem auditAt_banks (t : Instant) (fl ty : Nat) (p : List Byte) (s : State) : (auditAt t fl ty p s).banks = s.banks :=
  (congrArg State.banks (auditAt_base t fl ty p s) :)
@[simp] theorem auditAt_proof (t : Instant) (fl ty : Nat) (p : List Byte) (s : State) : (auditAt t fl ty p s).proof = s.proof :=
  (congrArg State.proof (auditAt_base t fl ty p s) :)
@[simp] theorem auditAt_matrix (t : Instant) (fl ty : Nat) (p : List Byte) (s : State) : (auditAt t fl ty p s).matrix = s.matrix :=
  (congrArg State.matrix (auditAt_base t fl ty p s) :)
@[simp] theorem auditAt_mbx (t : Instant) (fl ty : Nat) (p : List Byte) (s : State) : (auditAt t fl ty p s).mbx = s.mbx :=
  (congrArg State.mbx (auditAt_base t fl ty p s) :)
@[simp] theorem auditAt_aex (t : Instant) (fl ty : Nat) (p : List Byte) (s : State) : (auditAt t fl ty p s).aex = s.aex :=
  (congrArg State.aex (auditAt_base t fl ty p s) :)
@[simp] theorem auditAt_kept (t : Instant) (fl ty : Nat) (p : List Byte) (s : State) : (auditAt t fl ty p s).kept = s.kept :=
  (congrArg State.kept (auditAt_base t fl ty p s) :)
@[simp] theorem auditAt_spi (t : Instant) (fl ty : Nat) (p : List Byte) (s : State) : (auditAt t fl ty p s).spi = s.spi :=
  (congrArg State.spi (auditAt_base t fl ty p s) :)
@[simp] theorem auditAt_bar2Sleep (t : Instant) (fl ty : Nat) (p : List Byte) (s : State) : (auditAt t fl ty p s).bar2Sleep = s.bar2Sleep :=
  (congrArg State.bar2Sleep (auditAt_base t fl ty p s) :)
@[simp] theorem auditAt_disp (t : Instant) (fl ty : Nat) (p : List Byte) (s : State) : (auditAt t fl ty p s).disp = s.disp :=
  (congrArg State.disp (auditAt_base t fl ty p s) :)
@[simp] theorem auditAt_gate0 (t : Instant) (fl ty : Nat) (p : List Byte) (s : State) : (auditAt t fl ty p s).gate0 = s.gate0 :=
  (congrArg State.gate0 (auditAt_base t fl ty p s) :)
@[simp] theorem auditAt_gate1 (t : Instant) (fl ty : Nat) (p : List Byte) (s : State) : (auditAt t fl ty p s).gate1 = s.gate1 :=
  (congrArg State.gate1 (auditAt_base t fl ty p s) :)
@[simp] theorem auditAt_objs (t : Instant) (fl ty : Nat) (p : List Byte) (s : State) : (auditAt t fl ty p s).objs = s.objs :=
  (congrArg State.objs (auditAt_base t fl ty p s) :)
@[simp] theorem auditAt_blobs (t : Instant) (fl ty : Nat) (p : List Byte) (s : State) : (auditAt t fl ty p s).blobs = s.blobs :=
  (congrArg State.blobs (auditAt_base t fl ty p s) :)
@[simp] theorem auditAt_regs (t : Instant) (fl ty : Nat) (p : List Byte) (s : State) : (auditAt t fl ty p s).regs = s.regs :=
  (congrArg State.regs (auditAt_base t fl ty p s) :)
@[simp] theorem auditAt_shadowRegs (t : Instant) (fl ty : Nat) (p : List Byte) (s : State) : (auditAt t fl ty p s).shadowRegs = s.shadowRegs :=
  (congrArg State.shadowRegs (auditAt_base t fl ty p s) :)
@[simp] theorem auditAt_live (t : Instant) (fl ty : Nat) (p : List Byte) (s : State) : (auditAt t fl ty p s).live = s.live :=
  (congrArg State.live (auditAt_base t fl ty p s) :)
@[simp] theorem auditAt_reject (t : Instant) (fl ty : Nat) (p : List Byte) (s : State) : (auditAt t fl ty p s).reject = s.reject :=
  (congrArg State.reject (auditAt_base t fl ty p s) :)
@[simp] theorem auditAt_out (t : Instant) (fl ty : Nat) (p : List Byte) (s : State) : (auditAt t fl ty p s).out = s.out :=
  (congrArg State.out (auditAt_base t fl ty p s) :)
@[simp] theorem auditAt_freeCtr (t : Instant) (fl ty : Nat) (p : List Byte) (s : State) : (auditAt t fl ty p s).freeCtr = s.freeCtr :=
  (congrArg State.freeCtr (auditAt_base t fl ty p s) :)

/-! ### Accessors after their updates -/

@[simp] theorem State.elem_setElem (s : State) (k : Nat) (v : Elem) (j : Nat) :
    (s.setElem k v).elem j = if j = k then v else s.elem j := mapGet_mapSet _ _ _ _ _
@[simp] theorem State.capture_setCapture (s : State) (k : Nat) (v : Capture) (j : Nat) :
    (s.setCapture k v).capture_ j = if j = k then v else s.capture_ j := mapGet_mapSet _ _ _ _ _
@[simp] theorem State.port_setPort (s : State) (k : Nat) (v : Port) (j : Nat) :
    (s.setPort k v).port j = if j = k then v else s.port j := mapGet_mapSet _ _ _ _ _
@[simp] theorem State.det_setDet (s : State) (k : Nat) (v : Det) (j : Nat) :
    (s.setDet k v).det j = if j = k then v else s.det j := mapGet_mapSet _ _ _ _ _
@[simp] theorem State.leg_setLeg (s : State) (k : Nat) (v : LegSt) (j : Nat) :
    (s.setLeg k v).leg j = if j = k then v else s.leg j := mapGet_mapSet _ _ _ _ _
@[simp] theorem State.chan_setChan (s : State) (k : Nat) (v : Chan) (j : Nat) :
    (s.setChan k v).chan j = if j = k then v else s.chan j := mapGet_mapSet _ _ _ _ _
@[simp] theorem State.auxOut_setAux (s : State) (k : Nat) (v : Aux) (j : Nat) :
    (s.setAux k v).auxOut j = if j = k then v else s.auxOut j := mapGet_mapSet _ _ _ _ _
@[simp] theorem State.queue_setQueue (s : State) (k : Nat) (v : EvQueue) (j : Nat) :
    (s.setQueue k v).queue j = if j = k then v else s.queue j := mapGet_mapSet _ _ _ _ _
@[simp] theorem State.session_setSession (s : State) (k : Nat) (v : Session) (j : Nat) :
    (s.setSession k v).session j = if j = k then v else s.session j := mapGet_mapSet _ _ _ _ _
@[simp] theorem State.notch_setNotch (s : State) (k : Nat) (v : Notch) (j : Nat) :
    (s.setNotch k v).notch j = if j = k then v else s.notch j := mapGet_mapSet _ _ _ _ _
@[simp] theorem State.bank_setBank (s : State) (k : Nat) (v : Bank) (j : Nat) :
    (s.setBank k v).bank j = if j = k then v else s.bank j := mapGet_mapSet _ _ _ _ _
@[simp] theorem State.buoy_setBuoy (s : State) (k : Nat) (v : Buoy) (j : Nat) :
    (s.setBuoy k v).buoy j = if j = k then v else s.buoy j := mapGet_mapSet _ _ _ _ _
@[simp] theorem State.sensor_setSensor (s : State) (k : Nat) (v : Sensor) (j : Nat) :
    (s.setSensor k v).sensor j = if j = k then v else s.sensor j := mapGet_mapSet _ _ _ _ _
@[simp] theorem State.zone_setZone (s : State) (k : Nat) (v : Zone) (j : Nat) :
    (s.setZone k v).zone j = if j = k then v else s.zone j := mapGet_mapSet _ _ _ _ _
@[simp] theorem State.fan_setFan (s : State) (k : Nat) (v : Fan) (j : Nat) :
    (s.setFan k v).fan j = if j = k then v else s.fan j := mapGet_mapSet _ _ _ _ _
@[simp] theorem State.cfg_setCfg (s : State) (k : Nat) (v : StoredCfg) (j : Nat) :
    (s.setCfg k v).cfg j = if j = k then v else s.cfg j := mapGet_mapSet _ _ _ _ _
@[simp] theorem State.ring_setRing (s : State) (k : Nat) (v : Mbx) (j : Nat) :
    (s.setRing k v).ring j = if j = k then v else s.ring j := mapGet_mapSet _ _ _ _ _
@[simp] theorem State.calType_setCalType (s : State) (k : Nat) (v : CalType) (j : Nat) :
    (s.setCalType k v).calType j = if j = k then v else s.calType j := mapGet_mapSet _ _ _ _ _
@[simp] theorem State.beacon_setBeacon (s : State) (k : Nat) (v : Beacon) (j : Nat) :
    (s.setBeacon k v).beacon j = if j = k then v else s.beacon j := mapGet_mapSet _ _ _ _ _

@[simp] theorem State.lane_setLane (s : State) (v w : Anvil) (n m : Nat) (l : Lane) :
    (s.setLane v n l).lane w m = if w = v ∧ m = n then l else s.lane w m := by
  by_cases h : m = n
  · subst h
    cases v <;> cases w <;> simp [State.lane, State.lanes, State.setLane]
  · cases v <;> cases w <;> simp [State.lane, State.lanes, State.setLane, h, mapGet_mapSet_other]

@[simp] theorem State.anvil_setAnvil (s : State) (v w : Anvil) (x : AnvilSt) :
    (s.setAnvil v x).anvil w = if w = v then x else s.anvil w := by
  cases v <;> cases w <;> rfl

@[simp] theorem State.obj_setObj_self (s : State) (ix sub v : Nat) : (s.setObj ix sub v).obj ix sub = v :=
  mapGet_mapSet_self _ _ _ _

@[simp] theorem State.reg_setReg (s : State) (a v b : Nat) :
    (s.setReg a v).reg b = if b = a then v else s.reg b := by
  unfold State.reg State.setReg
  by_cases h : b = a
  · subst h; simp
  · simp [mapGet_mapSet_other _ _ _ _ _ _ h, h]

/-! ### reply and answer -/

theorem answer_eq (ses st : Nat) (b : List Byte) (s : State) :
    answer ses st b s = { s with sessions := (answer ses st b s).sessions, out := ⟨leNat (b.take 8), st, b⟩ } := rfl

@[simp] theorem answer_pending (ses st : Nat) (b : List Byte) (s : State) : (answer ses st b s).pending = s.pending :=
  (congrArg State.pending (answer_eq ses st b s) :)
@[simp] theorem answer_time (ses st : Nat) (b : List Byte) (s : State) : (answer ses st b s).time = s.time :=
  (congrArg State.time (answer_eq ses st b s) :)
@[simp] theorem answer_ptp0 (ses st : Nat) (b : List Byte) (s : State) : (answer ses st b s).ptp0 = s.ptp0 :=
  (congrArg State.ptp0 (answer_eq ses st b s) :)
@[simp] theorem answer_ptp1 (ses st : Nat) (b : List Byte) (s : State) : (answer ses st b s).ptp1 = s.ptp1 :=
  (congrArg State.ptp1 (answer_eq ses st b s) :)
@[simp] theorem answer_ptpSel (ses st : Nat) (b : List Byte) (s : State) : (answer ses st b s).ptpSel = s.ptpSel :=
  (congrArg State.ptpSel (answer_eq ses st b s) :)
@[simp] theorem answer_caps (ses st : Nat) (b : List Byte) (s : State) : (answer ses st b s).caps = s.caps :=
  (congrArg State.caps (answer_eq ses st b s) :)
@[simp] theorem answer_beacons (ses st : Nat) (b : List Byte) (s : State) : (answer ses st b s).beacons = s.beacons :=
  (congrArg State.beacons (answer_eq ses st b s) :)
@[simp] theorem answer_forge (ses st : Nat) (b : List Byte) (s : State) : (answer ses st b s).forge = s.forge :=
  (congrArg State.forge (answer_eq ses st b s) :)
@[simp] theorem answer_power (ses st : Nat) (b : List Byte) (s : State) : (answer ses st b s).power = s.power :=
  (congrArg State.power (answer_eq ses st b s) :)
@[simp] theorem answer_boot (ses st : Nat) (b : List Byte) (s : State) : (answer ses st b s).boot = s.boot :=
  (congrArg State.boot (answer_eq ses st b s) :)
@[simp] theorem answer_life (ses st : Nat) (b : List Byte) (s : State) : (answer ses st b s).life = s.life :=
  (congrArg State.life (answer_eq ses st b s) :)
@[simp] theorem answer_genEpoch (ses st : Nat) (b : List Byte) (s : State) : (answer ses st b s).genEpoch = s.genEpoch :=
  (congrArg State.genEpoch (answer_eq ses st b s) :)
@[simp] theorem answer_genCount (ses st : Nat) (b : List Byte) (s : State) : (answer ses st b s).genCount = s.genCount :=
  (congrArg State.genCount (answer_eq ses st b s) :)
@[simp] theorem answer_digest (ses st : Nat) (b : List Byte) (s : State) : (answer ses st b s).digest = s.digest :=
  (congrArg State.digest (answer_eq ses st b s) :)
@[simp] theorem answer_digests (ses st : Nat) (b : List Byte) (s : State) : (answer ses st b s).digests = s.digests :=
  (congrArg State.digests (answer_eq ses st b s) :)
@[simp] theorem answer_active (ses st : Nat) (b : List Byte) (s : State) : (answer ses st b s).active = s.active :=
  (congrArg State.active (answer_eq ses st b s) :)
@[simp] theorem answer_image (ses st : Nat) (b : List Byte) (s : State) : (answer ses st b s).image = s.image :=
  (congrArg State.image (answer_eq ses st b s) :)
@[simp] theorem answer_legs (ses st : Nat) (b : List Byte) (s : State) : (answer ses st b s).legs = s.legs :=
  (congrArg State.legs (answer_eq ses st b s) :)
@[simp] theorem answer_planner (ses st : Nat) (b : List Byte) (s : State) : (answer ses st b s).planner = s.planner :=
  (congrArg State.planner (answer_eq ses st b s) :)
@[simp] theorem answer_batches (ses st : Nat) (b : List Byte) (s : State) : (answer ses st b s).batches = s.batches :=
  (congrArg State.batches (answer_eq ses st b s) :)
@[simp] theorem answer_closed (ses st : Nat) (b : List Byte) (s : State) : (answer ses st b s).closed = s.closed :=
  (congrArg State.closed (answer_eq ses st b s) :)
@[simp] theorem answer_nextBatch (ses st : Nat) (b : List Byte) (s : State) : (answer ses st b s).nextBatch = s.nextBatch :=
  (congrArg State.nextBatch (answer_eq ses st b s) :)
@[simp] theorem answer_lateBatches (ses st : Nat) (b : List Byte) (s : State) : (answer ses st b s).lateBatches = s.lateBatches :=
  (congrArg State.lateBatches (answer_eq ses st b s) :)
@[simp] theorem answer_commitCount (ses st : Nat) (b : List Byte) (s : State) : (answer ses st b s).commitCount = s.commitCount :=
  (congrArg State.commitCount (answer_eq ses st b s) :)
@[simp] theorem answer_sched (ses st : Nat) (b : List Byte) (s : State) : (answer ses st b s).sched = s.sched :=
  (congrArg State.sched (answer_eq ses st b s) :)
@[simp] theorem answer_cfgs (ses st : Nat) (b : List Byte) (s : State) : (answer ses st b s).cfgs = s.cfgs :=
  (congrArg State.cfgs (answer_eq ses st b s) :)
@[simp] theorem answer_elems (ses st : Nat) (b : List Byte) (s : State) : (answer ses st b s).elems = s.elems :=
  (congrArg State.elems (answer_eq ses st b s) :)
@[simp] theorem answer_loopsStarted (ses st : Nat) (b : List Byte) (s : State) : (answer ses st b s).loopsStarted = s.loopsStarted :=
  (congrArg State.loopsStarted (answer_eq ses st b s) :)
@[simp] theorem answer_lateSkips (ses st : Nat) (b : List Byte) (s : State) : (answer ses st b s).lateSkips = s.lateSkips :=
  (congrArg State.lateSkips (answer_eq ses st b s) :)
@[simp] theorem answer_notches (ses st : Nat) (b : List Byte) (s : State) : (answer ses st b s).notches = s.notches :=
  (congrArg State.notches (answer_eq ses st b s) :)
@[simp] theorem answer_lanesA (ses st : Nat) (b : List Byte) (s : State) : (answer ses st b s).lanesA = s.lanesA :=
  (congrArg State.lanesA (answer_eq ses st b s) :)
@[simp] theorem answer_lanesB (ses st : Nat) (b : List Byte) (s : State) : (answer ses st b s).lanesB = s.lanesB :=
  (congrArg State.lanesB (answer_eq ses st b s) :)
@[simp] theorem answer_chans (ses st : Nat) (b : List Byte) (s : State) : (answer ses st b s).chans = s.chans :=
  (congrArg State.chans (answer_eq ses st b s) :)
@[simp] theorem answer_ladder (ses st : Nat) (b : List Byte) (s : State) : (answer ses st b s).ladder = s.ladder :=
  (congrArg State.ladder (answer_eq ses st b s) :)
@[simp] theorem answer_mismatchesCleared (ses st : Nat) (b : List Byte) (s : State) : (answer ses st b s).mismatchesCleared = s.mismatchesCleared :=
  (congrArg State.mismatchesCleared (answer_eq ses st b s) :)
@[simp] theorem answer_clear (ses st : Nat) (b : List Byte) (s : State) : (answer ses st b s).clear = s.clear :=
  (congrArg State.clear (answer_eq ses st b s) :)
@[simp] theorem answer_aux (ses st : Nat) (b : List Byte) (s : State) : (answer ses st b s).aux = s.aux :=
  (congrArg State.aux (answer_eq ses st b s) :)
@[simp] theorem answer_dets (ses st : Nat) (b : List Byte) (s : State) : (answer ses st b s).dets = s.dets :=
  (congrArg State.dets (answer_eq ses st b s) :)
@[simp] theorem answer_buoys (ses st : Nat) (b : List Byte) (s : State) : (answer ses st b s).buoys = s.buoys :=
  (congrArg State.buoys (answer_eq ses st b s) :)
@[simp] theorem answer_ports (ses st : Nat) (b : List Byte) (s : State) : (answer ses st b s).ports = s.ports :=
  (congrArg State.ports (answer_eq ses st b s) :)
@[simp] theorem answer_windowsDiscarded (ses st : Nat) (b : List Byte) (s : State) : (answer ses st b s).windowsDiscarded = s.windowsDiscarded :=
  (congrArg State.windowsDiscarded (answer_eq ses st b s) :)
@[simp] theorem answer_ampNow (ses st : Nat) (b : List Byte) (s : State) : (answer ses st b s).ampNow = s.ampNow :=
  (congrArg State.ampNow (answer_eq ses st b s) :)
@[simp] theorem answer_ampNext (ses st : Nat) (b : List Byte) (s : State) : (answer ses st b s).ampNext = s.ampNext :=
  (congrArg State.ampNext (answer_eq ses st b s) :)
@[simp] theorem answer_audit (ses st : Nat) (b : List Byte) (s : State) : (answer ses st b s).audit = s.audit :=
  (congrArg State.audit (answer_eq ses st b s) :)
@[simp] theorem answer_hm6 (ses st : Nat) (b : List Byte) (s : State) : (answer ses st b s).hm6 = s.hm6 :=
  (congrArg State.hm6 (answer_eq ses st b s) :)
@[simp] theorem answer_hm7 (ses st : Nat) (b : List Byte) (s : State) : (answer ses st b s).hm7 = s.hm7 :=
  (congrArg State.hm7 (answer_eq ses st b s) :)
@[simp] theorem answer_keeper (ses st : Nat) (b : List Byte) (s : State) : (answer ses st b s).keeper = s.keeper :=
  (congrArg State.keeper (answer_eq ses st b s) :)
@[simp] theorem answer_cal (ses st : Nat) (b : List Byte) (s : State) : (answer ses st b s).cal = s.cal :=
  (congrArg State.cal (answer_eq ses st b s) :)
@[simp] theorem answer_thermal (ses st : Nat) (b : List Byte) (s : State) : (answer ses st b s).thermal = s.thermal :=
  (congrArg State.thermal (answer_eq ses st b s) :)
@[simp] theorem answer_fans (ses st : Nat) (b : List Byte) (s : State) : (answer ses st b s).fans = s.fans :=
  (congrArg State.fans (answer_eq ses st b s) :)
@[simp] theorem answer_hkc0 (ses st : Nat) (b : List Byte) (s : State) : (answer ses st b s).hkc0 = s.hkc0 :=
  (congrArg State.hkc0 (answer_eq ses st b s) :)
@[simp] theorem answer_hkc1 (ses st : Nat) (b : List Byte) (s : State) : (answer ses st b s).hkc1 = s.hkc1 :=
  (congrArg State.hkc1 (answer_eq ses st b s) :)
@[simp] theorem answer_rewriting (ses st : Nat) (b : List Byte) (s : State) : (answer ses st b s).rewriting = s.rewriting :=
  (congrArg State.rewriting (answer_eq ses st b s) :)
@[simp] theorem answer_mem (ses st : Nat) (b : List Byte) (s : State) : (answer ses st b s).mem = s.mem :=
  (congrArg State.mem (answer_eq ses st b s) :)
@[simp] theorem answer_ddr (ses st : Nat) (b : List Byte) (s : State) : (answer ses st b s).ddr = s.ddr :=
  (congrArg State.ddr (answer_eq ses st b s) :)
@[simp] theorem answer_banks (ses st : Nat) (b : List Byte) (s : State) : (answer ses st b s).banks = s.banks :=
  (congrArg State.banks (answer_eq ses st b s) :)
@[simp] theorem answer_proof (ses st : Nat) (b : List Byte) (s : State) : (answer ses st b s).proof = s.proof :=
  (congrArg State.proof (answer_eq ses st b s) :)
@[simp] theorem answer_matrix (ses st : Nat) (b : List Byte) (s : State) : (answer ses st b s).matrix = s.matrix :=
  (congrArg State.matrix (answer_eq ses st b s) :)
@[simp] theorem answer_mbx (ses st : Nat) (b : List Byte) (s : State) : (answer ses st b s).mbx = s.mbx :=
  (congrArg State.mbx (answer_eq ses st b s) :)
@[simp] theorem answer_aex (ses st : Nat) (b : List Byte) (s : State) : (answer ses st b s).aex = s.aex :=
  (congrArg State.aex (answer_eq ses st b s) :)
@[simp] theorem answer_kept (ses st : Nat) (b : List Byte) (s : State) : (answer ses st b s).kept = s.kept :=
  (congrArg State.kept (answer_eq ses st b s) :)
@[simp] theorem answer_spi (ses st : Nat) (b : List Byte) (s : State) : (answer ses st b s).spi = s.spi :=
  (congrArg State.spi (answer_eq ses st b s) :)
@[simp] theorem answer_bar2Sleep (ses st : Nat) (b : List Byte) (s : State) : (answer ses st b s).bar2Sleep = s.bar2Sleep :=
  (congrArg State.bar2Sleep (answer_eq ses st b s) :)
@[simp] theorem answer_disp (ses st : Nat) (b : List Byte) (s : State) : (answer ses st b s).disp = s.disp :=
  (congrArg State.disp (answer_eq ses st b s) :)
@[simp] theorem answer_gate0 (ses st : Nat) (b : List Byte) (s : State) : (answer ses st b s).gate0 = s.gate0 :=
  (congrArg State.gate0 (answer_eq ses st b s) :)
@[simp] theorem answer_gate1 (ses st : Nat) (b : List Byte) (s : State) : (answer ses st b s).gate1 = s.gate1 :=
  (congrArg State.gate1 (answer_eq ses st b s) :)
@[simp] theorem answer_queues (ses st : Nat) (b : List Byte) (s : State) : (answer ses st b s).queues = s.queues :=
  (congrArg State.queues (answer_eq ses st b s) :)
@[simp] theorem answer_events (ses st : Nat) (b : List Byte) (s : State) : (answer ses st b s).events = s.events :=
  (congrArg State.events (answer_eq ses st b s) :)
@[simp] theorem answer_objs (ses st : Nat) (b : List Byte) (s : State) : (answer ses st b s).objs = s.objs :=
  (congrArg State.objs (answer_eq ses st b s) :)
@[simp] theorem answer_blobs (ses st : Nat) (b : List Byte) (s : State) : (answer ses st b s).blobs = s.blobs :=
  (congrArg State.blobs (answer_eq ses st b s) :)
@[simp] theorem answer_regs (ses st : Nat) (b : List Byte) (s : State) : (answer ses st b s).regs = s.regs :=
  (congrArg State.regs (answer_eq ses st b s) :)
@[simp] theorem answer_shadowRegs (ses st : Nat) (b : List Byte) (s : State) : (answer ses st b s).shadowRegs = s.shadowRegs :=
  (congrArg State.shadowRegs (answer_eq ses st b s) :)
@[simp] theorem answer_live (ses st : Nat) (b : List Byte) (s : State) : (answer ses st b s).live = s.live :=
  (congrArg State.live (answer_eq ses st b s) :)
@[simp] theorem answer_reject (ses st : Nat) (b : List Byte) (s : State) : (answer ses st b s).reject = s.reject :=
  (congrArg State.reject (answer_eq ses st b s) :)
@[simp] theorem answer_freeCtr (ses st : Nat) (b : List Byte) (s : State) : (answer ses st b s).freeCtr = s.freeCtr :=
  (congrArg State.freeCtr (answer_eq ses st b s) :)
@[simp] theorem reply_pending (ses st : Nat) (s : State) : (reply ses st s).pending = s.pending := answer_pending ses st [] s
@[simp] theorem reply_time (ses st : Nat) (s : State) : (reply ses st s).time = s.time := answer_time ses st [] s
@[simp] theorem reply_ptp0 (ses st : Nat) (s : State) : (reply ses st s).ptp0 = s.ptp0 := answer_ptp0 ses st [] s
@[simp] theorem reply_ptp1 (ses st : Nat) (s : State) : (reply ses st s).ptp1 = s.ptp1 := answer_ptp1 ses st [] s
@[simp] theorem reply_ptpSel (ses st : Nat) (s : State) : (reply ses st s).ptpSel = s.ptpSel := answer_ptpSel ses st [] s
@[simp] theorem reply_caps (ses st : Nat) (s : State) : (reply ses st s).caps = s.caps := answer_caps ses st [] s
@[simp] theorem reply_beacons (ses st : Nat) (s : State) : (reply ses st s).beacons = s.beacons := answer_beacons ses st [] s
@[simp] theorem reply_forge (ses st : Nat) (s : State) : (reply ses st s).forge = s.forge := answer_forge ses st [] s
@[simp] theorem reply_power (ses st : Nat) (s : State) : (reply ses st s).power = s.power := answer_power ses st [] s
@[simp] theorem reply_boot (ses st : Nat) (s : State) : (reply ses st s).boot = s.boot := answer_boot ses st [] s
@[simp] theorem reply_life (ses st : Nat) (s : State) : (reply ses st s).life = s.life := answer_life ses st [] s
@[simp] theorem reply_genEpoch (ses st : Nat) (s : State) : (reply ses st s).genEpoch = s.genEpoch := answer_genEpoch ses st [] s
@[simp] theorem reply_genCount (ses st : Nat) (s : State) : (reply ses st s).genCount = s.genCount := answer_genCount ses st [] s
@[simp] theorem reply_digest (ses st : Nat) (s : State) : (reply ses st s).digest = s.digest := answer_digest ses st [] s
@[simp] theorem reply_digests (ses st : Nat) (s : State) : (reply ses st s).digests = s.digests := answer_digests ses st [] s
@[simp] theorem reply_active (ses st : Nat) (s : State) : (reply ses st s).active = s.active := answer_active ses st [] s
@[simp] theorem reply_image (ses st : Nat) (s : State) : (reply ses st s).image = s.image := answer_image ses st [] s
@[simp] theorem reply_legs (ses st : Nat) (s : State) : (reply ses st s).legs = s.legs := answer_legs ses st [] s
@[simp] theorem reply_planner (ses st : Nat) (s : State) : (reply ses st s).planner = s.planner := answer_planner ses st [] s
@[simp] theorem reply_batches (ses st : Nat) (s : State) : (reply ses st s).batches = s.batches := answer_batches ses st [] s
@[simp] theorem reply_closed (ses st : Nat) (s : State) : (reply ses st s).closed = s.closed := answer_closed ses st [] s
@[simp] theorem reply_nextBatch (ses st : Nat) (s : State) : (reply ses st s).nextBatch = s.nextBatch := answer_nextBatch ses st [] s
@[simp] theorem reply_lateBatches (ses st : Nat) (s : State) : (reply ses st s).lateBatches = s.lateBatches := answer_lateBatches ses st [] s
@[simp] theorem reply_commitCount (ses st : Nat) (s : State) : (reply ses st s).commitCount = s.commitCount := answer_commitCount ses st [] s
@[simp] theorem reply_sched (ses st : Nat) (s : State) : (reply ses st s).sched = s.sched := answer_sched ses st [] s
@[simp] theorem reply_cfgs (ses st : Nat) (s : State) : (reply ses st s).cfgs = s.cfgs := answer_cfgs ses st [] s
@[simp] theorem reply_elems (ses st : Nat) (s : State) : (reply ses st s).elems = s.elems := answer_elems ses st [] s
@[simp] theorem reply_loopsStarted (ses st : Nat) (s : State) : (reply ses st s).loopsStarted = s.loopsStarted := answer_loopsStarted ses st [] s
@[simp] theorem reply_lateSkips (ses st : Nat) (s : State) : (reply ses st s).lateSkips = s.lateSkips := answer_lateSkips ses st [] s
@[simp] theorem reply_notches (ses st : Nat) (s : State) : (reply ses st s).notches = s.notches := answer_notches ses st [] s
@[simp] theorem reply_lanesA (ses st : Nat) (s : State) : (reply ses st s).lanesA = s.lanesA := answer_lanesA ses st [] s
@[simp] theorem reply_lanesB (ses st : Nat) (s : State) : (reply ses st s).lanesB = s.lanesB := answer_lanesB ses st [] s
@[simp] theorem reply_chans (ses st : Nat) (s : State) : (reply ses st s).chans = s.chans := answer_chans ses st [] s
@[simp] theorem reply_ladder (ses st : Nat) (s : State) : (reply ses st s).ladder = s.ladder := answer_ladder ses st [] s
@[simp] theorem reply_mismatchesCleared (ses st : Nat) (s : State) : (reply ses st s).mismatchesCleared = s.mismatchesCleared := answer_mismatchesCleared ses st [] s
@[simp] theorem reply_clear (ses st : Nat) (s : State) : (reply ses st s).clear = s.clear := answer_clear ses st [] s
@[simp] theorem reply_aux (ses st : Nat) (s : State) : (reply ses st s).aux = s.aux := answer_aux ses st [] s
@[simp] theorem reply_dets (ses st : Nat) (s : State) : (reply ses st s).dets = s.dets := answer_dets ses st [] s
@[simp] theorem reply_buoys (ses st : Nat) (s : State) : (reply ses st s).buoys = s.buoys := answer_buoys ses st [] s
@[simp] theorem reply_ports (ses st : Nat) (s : State) : (reply ses st s).ports = s.ports := answer_ports ses st [] s
@[simp] theorem reply_windowsDiscarded (ses st : Nat) (s : State) : (reply ses st s).windowsDiscarded = s.windowsDiscarded := answer_windowsDiscarded ses st [] s
@[simp] theorem reply_ampNow (ses st : Nat) (s : State) : (reply ses st s).ampNow = s.ampNow := answer_ampNow ses st [] s
@[simp] theorem reply_ampNext (ses st : Nat) (s : State) : (reply ses st s).ampNext = s.ampNext := answer_ampNext ses st [] s
@[simp] theorem reply_audit (ses st : Nat) (s : State) : (reply ses st s).audit = s.audit := answer_audit ses st [] s
@[simp] theorem reply_hm6 (ses st : Nat) (s : State) : (reply ses st s).hm6 = s.hm6 := answer_hm6 ses st [] s
@[simp] theorem reply_hm7 (ses st : Nat) (s : State) : (reply ses st s).hm7 = s.hm7 := answer_hm7 ses st [] s
@[simp] theorem reply_keeper (ses st : Nat) (s : State) : (reply ses st s).keeper = s.keeper := answer_keeper ses st [] s
@[simp] theorem reply_cal (ses st : Nat) (s : State) : (reply ses st s).cal = s.cal := answer_cal ses st [] s
@[simp] theorem reply_thermal (ses st : Nat) (s : State) : (reply ses st s).thermal = s.thermal := answer_thermal ses st [] s
@[simp] theorem reply_fans (ses st : Nat) (s : State) : (reply ses st s).fans = s.fans := answer_fans ses st [] s
@[simp] theorem reply_hkc0 (ses st : Nat) (s : State) : (reply ses st s).hkc0 = s.hkc0 := answer_hkc0 ses st [] s
@[simp] theorem reply_hkc1 (ses st : Nat) (s : State) : (reply ses st s).hkc1 = s.hkc1 := answer_hkc1 ses st [] s
@[simp] theorem reply_rewriting (ses st : Nat) (s : State) : (reply ses st s).rewriting = s.rewriting := answer_rewriting ses st [] s
@[simp] theorem reply_mem (ses st : Nat) (s : State) : (reply ses st s).mem = s.mem := answer_mem ses st [] s
@[simp] theorem reply_ddr (ses st : Nat) (s : State) : (reply ses st s).ddr = s.ddr := answer_ddr ses st [] s
@[simp] theorem reply_banks (ses st : Nat) (s : State) : (reply ses st s).banks = s.banks := answer_banks ses st [] s
@[simp] theorem reply_proof (ses st : Nat) (s : State) : (reply ses st s).proof = s.proof := answer_proof ses st [] s
@[simp] theorem reply_matrix (ses st : Nat) (s : State) : (reply ses st s).matrix = s.matrix := answer_matrix ses st [] s
@[simp] theorem reply_mbx (ses st : Nat) (s : State) : (reply ses st s).mbx = s.mbx := answer_mbx ses st [] s
@[simp] theorem reply_aex (ses st : Nat) (s : State) : (reply ses st s).aex = s.aex := answer_aex ses st [] s
@[simp] theorem reply_kept (ses st : Nat) (s : State) : (reply ses st s).kept = s.kept := answer_kept ses st [] s
@[simp] theorem reply_spi (ses st : Nat) (s : State) : (reply ses st s).spi = s.spi := answer_spi ses st [] s
@[simp] theorem reply_bar2Sleep (ses st : Nat) (s : State) : (reply ses st s).bar2Sleep = s.bar2Sleep := answer_bar2Sleep ses st [] s
@[simp] theorem reply_disp (ses st : Nat) (s : State) : (reply ses st s).disp = s.disp := answer_disp ses st [] s
@[simp] theorem reply_gate0 (ses st : Nat) (s : State) : (reply ses st s).gate0 = s.gate0 := answer_gate0 ses st [] s
@[simp] theorem reply_gate1 (ses st : Nat) (s : State) : (reply ses st s).gate1 = s.gate1 := answer_gate1 ses st [] s
@[simp] theorem reply_queues (ses st : Nat) (s : State) : (reply ses st s).queues = s.queues := answer_queues ses st [] s
@[simp] theorem reply_events (ses st : Nat) (s : State) : (reply ses st s).events = s.events := answer_events ses st [] s
@[simp] theorem reply_objs (ses st : Nat) (s : State) : (reply ses st s).objs = s.objs := answer_objs ses st [] s
@[simp] theorem reply_blobs (ses st : Nat) (s : State) : (reply ses st s).blobs = s.blobs := answer_blobs ses st [] s
@[simp] theorem reply_regs (ses st : Nat) (s : State) : (reply ses st s).regs = s.regs := answer_regs ses st [] s
@[simp] theorem reply_shadowRegs (ses st : Nat) (s : State) : (reply ses st s).shadowRegs = s.shadowRegs := answer_shadowRegs ses st [] s
@[simp] theorem reply_live (ses st : Nat) (s : State) : (reply ses st s).live = s.live := answer_live ses st [] s
@[simp] theorem reply_reject (ses st : Nat) (s : State) : (reply ses st s).reject = s.reject := answer_reject ses st [] s
@[simp] theorem reply_freeCtr (ses st : Nat) (s : State) : (reply ses st s).freeCtr = s.freeCtr := answer_freeCtr ses st [] s

end Sys2Proof.Machine
end

