-- ==== Sys2Proof/Laws/Batches.lean ====
section
/-! SUPPORT. What the closing of a batch, a re-plan, a stop of the schedule and an element's fault can do: nothing
outside `State.apart`, and for a fault nothing but that and the element and its notch slot. -/

namespace Sys2Proof.Machine

theorem State.apart_of_base {s t : State} (h : t.base = s.base) : t.apart = s.apart :=
  congrArg (fun b : State => { b with
    batches := [], closed := [], lateBatches := 0, sched := {}, planner := {}, image := none, legs := [], out := {} }) h

theorem raiseEv_apart (src : Nat) (p : List Byte) (s : State) : (raiseEv src p s).apart = s.apart :=
  State.apart_of_base (raiseEv_base src p s)

theorem raiseAt_apart (src : Nat) (t : Instant) (fl : Nat) (p : List Byte) (s : State) :
    (raiseAt src t fl p s).apart = s.apart := State.apart_of_base (raiseAt_base src t fl p s)

theorem audit_apart (ty : Nat) (p : List Byte) (s : State) : (audit ty p s).apart = s.apart :=
  State.apart_of_base (audit_base ty p s)

theorem wakeForge_apart (s : State) : (wakeForge s).apart = s.apart := State.apart_of_base (wakeForge_base s)

theorem degradeLeg_apart (e r id : Nat) (s : State) : (degradeLeg e r id s).apart = s.apart := by
  unfold degradeLeg
  simp only
  split
  · rfl
  · exact (raiseEv_apart _ _ _).trans rfl

theorem tryQualify_apart (id : Nat) (s : State) : (tryQualify id s).apart = s.apart := by
  unfold tryQualify
  simp only
  split <;> rfl

theorem settleLegState_apart (id : Nat) (s : State) : (settleLegState id s).apart = s.apart := by
  unfold settleLegState
  simp only
  split
  · exact (tryQualify_apart _ _).trans rfl
  · rfl

theorem bidirEval_apart (first : Bool) (id : Nat) (s : State) : (bidirEval first id s).apart = s.apart := by
  unfold bidirEval
  simp only
  split
  · rfl
  · split
    · split
      · rfl
      · split
        · rfl
        · exact raiseEv_apart _ _ _
    · split
      · rfl
      · exact (raiseEv_apart _ _ _).trans rfl

theorem schedToIdle_apart (r : Nat) (s : State) : (schedToIdle r s).apart = s.apart := by
  unfold schedToIdle
  exact (raiseEv_apart _ _ _).trans rfl

theorem schedStopCheck_apart (s : State) : (schedStopCheck s).apart = s.apart := by
  unfold schedStopCheck
  split
  · split
    · exact schedToIdle_apart _ _
    · rfl
  · rfl

theorem schedStop_apart (r : Nat) (e : Bool) (s : State) : (schedStop r e s).apart = s.apart := by
  unfold schedStop
  split
  · rfl
  · exact schedToIdle_apart _ _
  · split
    · rfl
    · split
      · split <;> rfl
      · exact (schedStopCheck_apart _).trans rfl

/-- Closing a batch. -/
theorem closeBatch_apart (b : Batch) (l : Bool) (s : State) : (closeBatch b l s).apart = s.apart := by
  unfold closeBatch
  refine (schedStopCheck_apart _).trans ?_
  refine (forEach_keeps _ State.apart (fun x s => bidirEval_apart _ _ _) _ _).trans ?_
  refine (forEach_keeps _ State.apart (fun x s => settleLegState_apart _ _) _ _).trans ?_
  split
  · refine (audit_apart _ _ _).trans ?_
    split
    · exact (raiseAt_apart _ _ _ _ _).trans rfl
    · rfl
  · refine (forEach_keeps _ State.apart (fun x s => audit_apart _ _ _) _ _).trans ?_
    refine (audit_apart _ _ _).trans ?_
    exact (raiseEv_apart _ _ _).trans rfl

theorem closeSettled_apart (s : State) : (closeSettled s).apart = s.apart :=
  forEach_keeps _ State.apart (fun b s => closeBatch_apart b false s) _ s

theorem replyBatch_apart (b : Batch) (st : Nat) (s : State) : (replyBatch b st s).apart = s.apart := by
  unfold replyBatch
  split <;> rfl

theorem degradeLegs_apart (l : List (Nat × Nat)) (s : State) : (degradeLegs l s).apart = s.apart :=
  forEach_keeps _ State.apart (fun _ _ => degradeLeg_apart _ _ _ _) _ _

theorem dropMoves_apart (b : Batch) (s : State) : (dropMoves b s).apart = s.apart := by
  unfold dropMoves
  split
  · exact degradeLegs_apart _ _
  · rfl

theorem failBatch_apart (b : Batch) (st : Nat) (s : State) : (failBatch b st s).apart = s.apart := by
  unfold failBatch
  rw [replyBatch_apart, dropMoves_apart, raiseEv_apart]
  rfl

theorem keepPlan_apart (ses : Nat) (p : Plan) (s : State) : (keepPlan ses p s).apart = s.apart := rfl

theorem countPlan_apart (ns : Nat) (s : State) : (countPlan ns s).apart = s.apart := rfl

theorem putBatch_apart (b : Batch) (s : State) : (s.putBatch b).apart = s.apart := rfl

theorem replanAll_apart (must : Batch → Bool) (bs : List Batch) :
    ∀ (c : Cfg) (n : Nat) (s : State), (replanAll must c n bs s).apart = s.apart := by
  induction bs with
  | nil => intro c n s; rfl
  | cons b rest ih =>
    intro c n s
    unfold replanAll
    simp only
    split
    · exact ih _ _ _
    · split
      · rw [ih, raiseEv_apart, keepPlan_apart, putBatch_apart, countPlan_apart, degradeLegs_apart]
      · rw [ih, failBatch_apart, keepPlan_apart, countPlan_apart, degradeLegs_apart]

theorem refreshImage_apart (s : State) : (refreshImage s).apart = s.apart := by
  unfold refreshImage
  split
  · split <;> rfl
  · rfl

theorem replanFrom_apart (hit : Batch → Bool) (s : State) : (replanFrom hit s).apart = s.apart := by
  unfold replanFrom
  exact (refreshImage_apart _).trans (replanAll_apart _ _ _ _ _)

theorem askReroute_apart (l : List Nat) (s : State) : (askReroute l s).apart = s.apart := by
  unfold askReroute
  split
  · rfl
  · exact (wakeForge_apart _).trans rfl

theorem faultLegs_apart (e : Nat) (ids : List Nat) (s : State) : (faultLegs e ids s).apart = s.apart := by
  unfold faultLegs
  refine (askReroute_apart _ _).trans ?_
  refine (forEach_keeps (fun id (t : State) => t.setLeg id { t.leg id with affected := true }) State.apart
    (fun _ _ => rfl) _ _).trans ?_
  exact forEach_keeps _ State.apart (fun _ _ => degradeLeg_apart _ _ _ _) _ _

theorem schedFault_apart (e : Nat) (s : State) : (schedFault e s).apart = s.apart := by
  unfold schedFault
  simp only
  split
  · split
    · exact raiseEv_apart _ _ _
    · exact (schedStop_apart _ _ _).trans (raiseEv_apart _ _ _)
  · rfl

/-- What follows the change of the element and its notch slot in a fault. -/
theorem faultTail_apart (src e : Nat) (p : List Byte) (ids : List Nat) (f : Batch → Batch) (hit : State → Batch → Bool) (s : State) :
    State.apart (closeSettled (replanFrom
      (hit (schedFault e (faultLegs e ids { raiseEv src p s with
        batches := (raiseEv src p s).batches.map f })))
      (schedFault e (faultLegs e ids { raiseEv src p s with
        batches := (raiseEv src p s).batches.map f })))) = s.apart := by
  rw [closeSettled_apart, replanFrom_apart, schedFault_apart, faultLegs_apart]
  exact raiseEv_apart src p s

/-- The element and its notch slot as a fault leaves them. -/
def faultHead (e b : Nat) (s : State) : State :=
  match (s.elem e).notch with
  | none => s.setElem e ((s.elem e).enterFault b)
  | some n => (s.setElem e ((s.elem e).enterFault b)).setNotch n
      { (s.setElem e ((s.elem e).enterFault b)).notch n with s1 := 0, s2 := 0 }

theorem enterFault_apart_head (e b : Nat) (s : State)
    (h : ¬ ((s.elem e).mode = .faulted ∨ ((s.elem e).mode = .manual ∧ b ≠ 4))) :
    (enterFault e b s).apart = (faultHead e b s).apart := by
  unfold enterFault
  rw [if_neg h]
  exact faultTail_apart _ e _ _ _ (fun u => u.planThrough e) (faultHead e b s)

theorem faultHead_elem (e b f : Nat) (s : State) :
    (faultHead e b s).elem f = if f = e then (s.elem e).enterFault b else s.elem f := by
  have h : (faultHead e b s).elem f = (s.setElem e ((s.elem e).enterFault b)).elem f := by
    unfold faultHead
    split <;> rfl
  rw [h, State.elem_setElem]

/-- An element's fault changes the element, its notch slot and what `State.apart` leaves out. -/
theorem enterFault_apart (e b : Nat) (s : State) :
    (enterFault e b s).apart =
      { s with elems := (enterFault e b s).elems, notches := (enterFault e b s).notches }.apart := by
  by_cases h : (s.elem e).mode = .faulted ∨ ((s.elem e).mode = .manual ∧ b ≠ 4)
  · unfold enterFault
    rw [if_pos h]
    rfl
  · have k := enterFault_apart_head e b s h
    have he : (enterFault e b s).elems = (faultHead e b s).elems := (congrArg State.elems k :)
    have hn : (enterFault e b s).notches = (faultHead e b s).notches := (congrArg State.notches k :)
    rw [he, hn, k]
    unfold faultHead
    split <;> rfl

/-- The elements after a fault. -/
theorem enterFault_elem (e b f : Nat) (s : State) :
    (enterFault e b s).elem f =
      if f ≠ e then s.elem f
      else if (s.elem e).mode = .faulted ∨ ((s.elem e).mode = .manual ∧ b ≠ 4) then
        { s.elem e with causes := orBit (s.elem e).causes b }
      else (s.elem e).enterFault b := by
  by_cases h : (s.elem e).mode = .faulted ∨ ((s.elem e).mode = .manual ∧ b ≠ 4)
  · have : enterFault e b s = s.setElem e { s.elem e with causes := orBit (s.elem e).causes b } := by
      unfold enterFault
      rw [if_pos h]
    rw [this, State.elem_setElem]
    by_cases hf : f = e <;> simp [hf, h]
  · have k := enterFault_apart_head e b s h
    have he : (enterFault e b s).elems = (faultHead e b s).elems := (congrArg State.elems k :)
    have : (enterFault e b s).elem f = (faultHead e b s).elem f := by
      unfold State.elem
      rw [he]
    rw [this, faultHead_elem]
    by_cases hf : f = e <;> simp [hf, h]

end Sys2Proof.Machine
end

