-- ==== Sys2Proof/WellFormed.lean ====
section
/-!
DEFINITION. Which commands name things that the engine has: the check of each operand against the number
of sessions, elements, ports, banks and so on that the spec gives. The machine is total: a command that
fails its check has no effect of its own.
-/

namespace Sys2Proof

/-- Sessions 0 to 31 (R382, R420). -/
def sesOk (n : Nat) : Bool := decide (n < 32)

/-- Elements 0 to 11,775 (R18, R19). -/
def elemOk (e : Nat) : Bool := decide (e < 11776)

/-- Transit lanes 0 to 67 and hold lanes 0x80 to 0x87 (R159). -/
def laneOk (n : Nat) : Bool := decide (n < 68) || (decide (128 ≤ n) && decide (n < 136))

/-- Circuit slots 0 to 2,047 (R50). -/
def legOk (id : Nat) : Bool := decide (id < 2048)

/-- Batch identifiers 1 to 0xFFFF_FFFF (R101). -/
def batchOk (id : Nat) : Bool := decide (1 ≤ id ∧ id < 4294967296)

/-- A batch identifier, or the 0 of a watch boundary's batch. -/
def idOk (id : Nat) : Bool := decide (id < 4294967296)

/-- Stored configurations 0 to 63 (R104). -/
def cfgOk (c : Nat) : Bool := decide (c < 64)

/-- Port detectors 0 to 4,095 and buoy converters 0 to 127 (R161). -/
def detOk (d : Nat) : Bool := decide (d < 4096)
def convOk (c : Nat) : Bool := decide (c < 128)

/-- AUX outputs 0 to 15 (R212). -/
def auxOk (a : Nat) : Bool := decide (a < 16)

/-- Management ports 0 and 1, beacons 0 to 7, TS_IN inputs 0 to 7 (R239, R248, R252). -/
def portOk (p : Nat) : Bool := decide (p < 2)
def beaconOk (j : Nat) : Bool := decide (j < 8)
def tsOk (i : Nat) : Bool := decide (i < 8)

/-- Temperature sensors 0 to 89, zones 0 to 2, fans 0 to 3, converters 0 and 1 (R329, R333, R340, R343). -/
def sensorOk (i : Nat) : Bool := decide (i < 90)
def zoneOk (z : Nat) : Bool := decide (z < 3)
def fanOk (f : Nat) : Bool := decide (f < 4)
def hkcOk (n : Nat) : Bool := decide (n < 2)

/-- Host Hallmark channels 6 and 7 (R266). -/
def hmOk (c : Nat) : Bool := decide (c = 6 ∨ c = 7)

/-- SRAM banks 0 to 63 and matrix masters 0 to 11 (R352, R371). -/
def bankOk (b : Nat) : Bool := decide (b < 64)
def masterOk (m : Nat) : Bool := decide (m < 12)

/-- Mailbox rings 1 to 4 and event queues 0 to 7 (R389, R440). -/
def ringOk (r : Nat) : Bool := decide (1 ≤ r ∧ r ≤ 4)
def queueOk (q : Nat) : Bool := decide (q < 8)

/-- A register write comes from BAR0 or a session. -/
def writerOk : Writer → Bool
  | .bar0 => true
  | .session n => sesOk n

/-- Mailbox rings 1 to 4 and management ports 0 and 1 (R382). -/
def linkOk : Link → Bool
  | .mailbox r => ringOk r
  | .mgt p => decide (p < 2)
  | _ => true

/-- Offsets of whole registers in BAR0, which is 64 MiB (R385). -/
def regOk (o : Nat) : Bool := decide (o % 4 = 0 ∧ o < 67108864)

/-- Matrix addresses have 40 bits (R372). -/
def addrOk (a : Nat) : Bool := decide (a < 2 ^ 40)

/-- An access lies in BAR2, four banks of 512 KiB (R386). -/
def bar2Ok (off len : Nat) : Bool := decide (off + len ≤ 2097152)

/-- PTP sequence numbers have 16 bits (R255). -/
def seqOk (n : Nat) : Bool := decide (n < 65536)

/-- A data set's fields have their widths (R243). -/
def dsOk (m : MasterDs) : Bool :=
  decide (m.gm < 2 ^ 64 ∧ m.priority1 < 256 ∧ m.clockClass < 256 ∧ m.accuracy < 256 ∧ m.variance < 65536
    ∧ m.priority2 < 256 ∧ m.steps < 65536)

/-- A damage flips bits of one of a record's 64 bytes. -/
def damageOk (d : Damage) : Bool := decide (d.byte < 64)

/-- A burst's beats done are among its beats (R378). -/
def burstOk (x : Burst) : Bool := addrOk x.addr && decide (x.done ≤ x.total ∧ x.total ≤ 16)

/-- A shadow block that exists. -/
def shadowOk : ShadowBlock → Bool
  | .beacon j => beaconOk j
  | .gate p => portOk p
  | _ => true

/-- Every part of a boundary's input names an element, a lane or a bank that exists. -/
def inputOk (x : PeriodInput) : Bool :=
  (x.samples.all fun p => elemOk p.1) && (x.lanes.all fun r => laneOk r.lane && r.lateElems.all elemOk)
    && (x.badCodes.all fun p => elemOk p.2.1) && (x.readbacks.all fun p => elemOk p.1)
    && (x.auxReadbacks.all fun p => auxOk p.1) && (x.carriers.all fun p => elemOk p.1)
    && (x.sramErrs.all fun r => bankOk r.bank)

/-- The command names things that exist. -/
def Instr.wellFormed : Instr → Bool
  | .transitBoundary inp => inputOk inp
  | .holdBoundary inp => inputOk inp
  | .trimBoundary => true
  | .liveSettingApply _ => true
  | .shadowCommitApply b => shadowOk b
  | .registerWrite w offset _ => writerOk w && regOk offset
  | .forgeTimedWake => true
  | .forgeLanesReady => true
  | .forgeCoresResumed => true
  | .forgeSleepStart => true
  | .forgeSleepComplete => true
  | .laneRetire _ lane => laneOk lane
  | .settleTimeout e => elemOk e
  | .elemFault e _ => elemOk e
  | .reroutePlanComplete _ => true
  | .planQuery ses _ _ => sesOk ses
  | .batchSubmit ses _ => sesOk ses
  | .batchPlanComplete id _ => batchOk id
  | .routeImageComplete => true
  | .batchFire ses _ => sesOk ses
  | .batchCancel ses _ => sesOk ses
  | .batchCommit => true
  | .batchSettleLimit id => idOk id
  | .cfgBodyWrite ses c _ => sesOk ses && cfgOk c
  | .cfgCompileDone c _ => cfgOk c
  | .schedArm ses => sesOk ses
  | .schedCommit ses => sesOk ses
  | .schedStopAtCycleEnd ses => sesOk ses
  | .schedStopNow ses => sesOk ses
  | .schedImageCopyStart => true
  | .schedStart => true
  | .watchBoundaryCommit => true
  | .schedChangeApply => true
  | .elemModeWrite ses e _ => sesOk ses && elemOk e
  | .elemTargetSetWrite ses e _ => sesOk ses && elemOk e
  | .elemManualCodeWrite ses e _ => sesOk ses && elemOk e
  | .elemFaultClear ses e _ => sesOk ses && elemOk e
  | .faultClearReadback e _ _ _ => elemOk e
  | .fabricClearAssert _ => true
  | .fabricClearRelease _ => true
  | .auxClearReturn => true
  | .buoySample c i _ => convOk c && decide (i < 10)
  | .overpowerClear d => detOk d
  | .lightOn d _ => detOk d
  | .lightOff d _ => detOk d
  | .thresholdChangeCrossing d => detOk d
  | .trimQualified leg => legOk leg
  | .splitUnbalanced e => elemOk e
  | .trimLossDrift leg => legOk leg
  | .buoySlow c => convOk c
  | .buoyRestored c => convOk c
  | .compensationApply e => elemOk e
  | .channelFault e _ => elemOk e
  | .ladderCellRetire level => decide (level < 16)
  | .ladderSelectionChange => true
  | .ladderUv => true
  | .ladderRestart deviates => deviates.all fun l => decide (l < 16)
  | .ladderRegulating => true
  | .clearCommit ses _ => sesOk ses
  | .clearTableApply => true
  | .chanSpanWrite ses e _ => sesOk ses && elemOk e
  | .chanSpanDwellEnd e => elemOk e
  | .auxConfigWrite ses aux _ => sesOk ses && auxOk aux
  | .auxDwellStart aux => auxOk aux
  | .auxStageSwitch aux => auxOk aux
  | .auxRangeEnable aux => auxOk aux
  | .auxValueWrite ses aux _ => sesOk ses && auxOk aux
  | .auxFault aux _ => auxOk aux
  | .auxCompliance aux => auxOk aux
  | .auxComplianceClear aux => auxOk aux
  | .timePllLock => true
  | .timeNowNsRead l _ => linkOk l
  | .ptpSyncReceive p _ seq _ => portOk p && seqOk seq
  | .ptpFollowUpReceive p seq _ => portOk p && seqOk seq
  | .timeStepApply => true
  | .stepDeferTimeout => true
  | .timeForce w => writerOk w
  | .timeLoad w => writerOk w
  | .calWrite w => writerOk w
  | .calendarWrite => true
  | .ppsInEdge _ => true
  | .ppsLost => true
  | .refclkLost => true
  | .refclkRestored => true
  | .ptpAnnounceReceive p ds _ => portOk p && dsOk ds
  | .announceReceiptTimeout p => portOk p
  | .ptpSelHoldExpire => true
  | .ptpDelayReqSend p seq _ => portOk p && seqOk seq
  | .ptpDelayRespReceive p seq _ => portOk p && seqOk seq
  | .ptpPdelayReqReceive p seq _ => portOk p && seqOk seq
  | .txqStaleRetire p => portOk p
  | .utcOffsetChange => true
  | .mgtLinkChange p _ => portOk p
  | .tsInEdge i _ _ => tsOk i
  | .timeCapNsRead i => tsOk i
  | .beaconArm w j => writerOk w && beaconOk j
  | .beaconStop j => beaconOk j
  | .beaconEdge j => beaconOk j
  | .auditTransfer _ => true
  | .auditGapRecord => true
  | .checkpointSign => true
  | .auditExportRead ses damage => sesOk ses && damage.all damageOk
  | .auditExportAck ses _ => sesOk ses
  | .auditReadFromWrite ses _ => sesOk ses
  | .sealComplete => true
  | .hmOpen c => hmOk c
  | .hmAbort c => hmOk c
  | .hmDataB w c _ => writerOk w && hmOk c
  | .hmDataH w c _ => writerOk w && hmOk c
  | .hmDataW w c _ => writerOk w && hmOk c
  | .hmResultRead c => hmOk c
  | .anvilHeartbeatLoss _ => true
  | .signatureMismatch _ _ => true
  | .failover => true
  | .anvilSelftestDone _ _ => true
  | .resyncCopyDone _ => true
  | .resyncLive _ => true
  | .anvilStandby _ => true
  | .kprRevert => true
  | .kprSwap ses _ => sesOk ses
  | .kprRestart ses _ => sesOk ses
  | .kprRemove ses _ => sesOk ses
  | .rebuildComplete _ => true
  | .keeperLost => true
  | .noDriveSource => true
  | .keeperRestored => true
  | .keeperLeaveInit => true
  | .calRun ses _ _ => sesOk ses
  | .calAbort ses _ => sesOk ses
  | .calPreconditionFail _ unit => decide (unit < 65536)
  | .calMeasureDone _ => true
  | .calStoreDone _ => true
  | .calSwap => true
  | .calUserClear ses _ => sesOk ses
  | .thmSample samples => samples.all fun x => sensorOk x.1
  | .thmSensorSuspect i => sensorOk i
  | .thmSensorRestored i => sensorOk i
  | .thmConditionChange z _ => zoneOk z
  | .thmTrip i => sensorOk i
  | .thmTripPowerOff => true
  | .thmRestartReady => true
  | .thmRestart w => writerOk w
  | .fanRpmUpdate f _ => fanOk f
  | .thmFanStall f => fanOk f
  | .thmFanRestored f => fanOk f
  | .hkcArmWrite n _ => hkcOk n
  | .hkcSoftTrig n => hkcOk n
  | .hkcTimerTrigger n => hkcOk n
  | .hkcFanEdgeTrigger n f _ => hkcOk n && fanOk f
  | .hkcTriggerEffect n => hkcOk n
  | .hkcConversionDone n _ _ => hkcOk n
  | .hkcInjStart w n _ => writerOk w && hkcOk n
  | .hkcDataRead n => hkcOk n
  | .hkcClrCounts n => hkcOk n
  | .bankOwnerWrite w b _ => writerOk w && bankOk b
  | .bankHandoverDone b => bankOk b
  | .bankHandoverTimeout b => bankOk b
  | .bankRetWrite w b _ => writerOk w && bankOk b
  | .bankRetentionEnter b => bankOk b
  | .bankWakeDone b => bankOk b
  | .matrixRead m addr beats _ => masterOk m && addrOk addr && decide (1 ≤ beats ∧ beats ≤ 16)
  | .matrixWrite m addr data strobes _ => masterOk m && addrOk addr && decide (strobes.length = data.length)
  | .matrixAtomic m addr _ _ => masterOk m && addrOk addr && decide (addr % 4 = 0)
  | .privatePortWrite _ addr _ => decide (addr / 0x80000 = 42 ∧ addr % 4 = 0)
  | .proofWindowStart => true
  | .proofWindowDone found => found.word.all fun w => decide (w < 131072)
  | .masterReset m bursts => masterOk m && bursts.all burstOk
  | .masterResetDrainDone m => masterOk m
  | .bankErrCountWrite b => bankOk b
  | .mtxConflictWrite m g => masterOk m && decide (g < 6)
  | .ddrPatrolScrub addr _ => decide (addr < 0x333333000)
  | .bar2Read offset len _ => bar2Ok offset len
  | .bar2Write offset data strobes _ => bar2Ok offset data.length && decide (strobes.length = data.length)
  | .mbxReqTail r _ => ringOk r
  | .mbxDescriptorFetch r desc _ => ringOk r && decide (desc.length = 32)
  | .mbxCplHead r _ => ringOk r
  | .mbxEnWrite w r _ => writerOk w && ringOk r
  | .mbxDmaError r => ringOk r
  | .aexEnWrite w _ => writerOk w
  | .aexChunkWrite damage => damage.all damageOk
  | .mbxAexRd _ => true
  | .tcpConnect p => portOk p
  | .tlsHandshake p _ _ _ => portOk p
  | .sessionClose ses _ => sesOk ses
  | .v2SessionIdle ses => sesOk ses
  | .v2FrameReceive p _ _ => portOk p
  | .v3FrameReceive ses _ => sesOk ses
  | .networkEcho p _ => portOk p
  | .spiRequest _ _ => true
  | .spiResponse _ => true
  | .spiEvent _ => true
  | .spiTime _ => true
  | .jopRead ses index sub _ _ => sesOk ses && decide (index < 65536) && decide (sub < 256)
  | .jopWrite ses index sub _ _ _ => sesOk ses && decide (index < 65536) && decide (sub < 256)
  | .jopSubscribe ses _ => sesOk ses
  | .jopUnsubscribe ses _ => sesOk ses
  | .jopPing ses => sesOk ses
  | .dedupExpire => true
  | .snapshotDiscard ses => sesOk ses
  | .segmentAssemblyTimeout ses => sesOk ses
  | .storedWriteComplete ses => sesOk ses
  | .regDataRead ses => sesOk ses
  | .regDataWrite ses _ => sesOk ses
  | .summaryRead ses => sesOk ses
  | .eventRedeliver ses _ => sesOk ses
  | .poolAdmit ses _ => sesOk ses
  | .requestEligible ses _ => sesOk ses
  | .requestServe => true
  | .requestComplete ses _ => sesOk ses
  | .qsample => true
  | .qstatsRead ses of_ => sesOk ses && sesOk of_
  | .gateCommit ses p _ => sesOk ses && portOk p
  | .gateEnableWrite ses p _ => sesOk ses && portOk p
  | .gateListApply p => portOk p
  | .gateRealign p => portOk p
  | .gateEntryAdvance p => portOk p
  | .egressFrameStart p cls _ => portOk p && decide (cls < 4)
  | .evtQData0Read q => queueOk q
  | .evtQRdWrite q _ => queueOk q
  | .evtSeqLoRead => true
  | .vauxGood _ _ => true
  | .vauxLost _ => true
  | .vmainGood => true
  | .bootImageVerify => true
  | .firmwareRunning _ => true
  | .startupComplete => true
  | .vmainLost => true
  | .vmainFlushDone => true
  | .modResetAssert => true
  | .modResetRelease => true
  | .perstAssert => true
  | .perstRelease => true
  | .lcSwResetModule w _ => writerOk w
  | .lcSwResetWatch w _ => writerOk w
  | .lcSwResetForge w _ => writerOk w
  | .bootRecoveryLoad _ _ => true
  | .fwUpdateStart ses _ => sesOk ses
  | .fwUpdateData ses _ => sesOk ses
  | .fwUpdateCommit ses _ => sesOk ses
  | .fwConfirm ses _ => sesOk ses
  | .lcRequest ses _ => sesOk ses
  | .lcShutdown ses _ => sesOk ses
  | .tamper sources _ => decide (sources < 256)
  | .pcieLinkStateChange _ => true
  | .lcTransitionComplete => true
  | .shutdownReady => true
  | .modResetFlushDone => true

end Sys2Proof
end

