-- ==== Sys2Proof/Tests/Slice0.lean ====
section
/-!
SUPPORT. The model's own tests: ill-formed commands that WellFormed refuses, the spec's worked examples, and for every
statement with hypotheses a theorem that shows, clause by clause, a state and operands that meet them. Two clauses turn on
an opaque constant: `witness_clear_limit` and `image0_valid` take the constant's value as their hypothesis. For the last
clause of ReroutePlans the planner is shown to find a way whatever proposals Config.proposeReroute makes.
-/

namespace Sys2Proof.Tests

open Sys2Proof.Machine

/-! ### Ill-formed commands -/

theorem test_ill_formed_links :
    (Instr.jopPing 32).wellFormed = false ∧ (Instr.timeForce (.session 32)).wellFormed = false
      ∧ (Instr.registerWrite .bar0 2 0).wellFormed = false ∧ (Instr.registerWrite .bar0 67108864 0).wellFormed = false
      ∧ (Instr.jopRead 0 65536 0 0 0).wellFormed = false ∧ (Instr.jopRead 0 0 256 0 0).wellFormed = false
      ∧ (Instr.mbxReqTail 0 0).wellFormed = false ∧ (Instr.mbxReqTail 5 0).wellFormed = false
      ∧ (Instr.mbxDescriptorFetch 1 [] []).wellFormed = false ∧ (Instr.tcpConnect 2).wellFormed = false
      ∧ (Instr.evtQData0Read 8).wellFormed = false ∧ (Instr.qstatsRead 0 32).wellFormed = false
      ∧ (Instr.egressFrameStart 0 4 64).wellFormed = false ∧ (Instr.tamper 256 0).wellFormed = false
      ∧ (Instr.shadowCommitApply (.beacon 8)).wellFormed = false ∧ (Instr.shadowCommitApply (.gate 2)).wellFormed = false := by
  decide

theorem test_ill_formed_fabric :
    (Instr.settleTimeout 11776).wellFormed = false ∧ (Instr.laneRetire .a 68).wellFormed = false
      ∧ (Instr.laneRetire .a 136).wellFormed = false ∧ (Instr.trimQualified 2048).wellFormed = false
      ∧ (Instr.batchPlanComplete 0 0).wellFormed = false ∧ (Instr.batchSettleLimit 4294967296).wellFormed = false
      ∧ (Instr.cfgCompileDone 64 0).wellFormed = false ∧ (Instr.overpowerClear 4096).wellFormed = false
      ∧ (Instr.buoySlow 128).wellFormed = false ∧ (Instr.buoySample 0 10 []).wellFormed = false
      ∧ (Instr.auxDwellStart 16).wellFormed = false ∧ (Instr.ladderCellRetire 16).wellFormed = false
      ∧ (Instr.ladderRestart [16]).wellFormed = false
      ∧ (Instr.transitBoundary { samples := [(11776, 0)] }).wellFormed = false
      ∧ (Instr.transitBoundary { lanes := [⟨.a, 68, 0, []⟩] }).wellFormed = false
      ∧ (Instr.transitBoundary { lanes := [⟨.a, 0, 0, [11776]⟩] }).wellFormed = false
      ∧ (Instr.transitBoundary { badCodes := [(.a, 11776, 0)] }).wellFormed = false
      ∧ (Instr.holdBoundary { readbacks := [(11776, 0)] }).wellFormed = false
      ∧ (Instr.holdBoundary { auxReadbacks := [(16, 0)] }).wellFormed = false
      ∧ (Instr.holdBoundary { carriers := [(11776, 0)] }).wellFormed = false
      ∧ (Instr.holdBoundary { sramErrs := [⟨64, 0, false, .element 0⟩] }).wellFormed = false := by
  decide

theorem test_ill_formed_other :
    (Instr.ptpSyncReceive 2 false 0 0).wellFormed = false ∧ (Instr.ptpSyncReceive 0 false 65536 0).wellFormed = false
      ∧ (Instr.ptpAnnounceReceive 0 ⟨0, 256, 0, 0, 0, 0, 0⟩ ⟨0, 0, 0, false, false, false⟩).wellFormed = false
      ∧ (Instr.beaconStop 8).wellFormed = false ∧ (Instr.timeCapNsRead 8).wellFormed = false
      ∧ (Instr.thmSensorSuspect 90).wellFormed = false ∧ (Instr.thmSample [(90, 0)]).wellFormed = false
      ∧ (Instr.thmConditionChange 3 .warn).wellFormed = false
      ∧ (Instr.thmFanStall 4).wellFormed = false ∧ (Instr.hkcSoftTrig 2).wellFormed = false
      ∧ (Instr.calPreconditionFail 1 65536).wellFormed = false ∧ (Instr.hmOpen 5).wellFormed = false
      ∧ (Instr.bankWakeDone 64).wellFormed = false ∧ (Instr.masterResetDrainDone 12).wellFormed = false
      ∧ (Instr.matrixAtomic 0 2 .add 0).wellFormed = false ∧ (Instr.matrixAtomic 0 (2 ^ 40) .add 0).wellFormed = false
      ∧ (Instr.matrixRead 0 0 0 .ok).wellFormed = false ∧ (Instr.matrixRead 0 0 17 .ok).wellFormed = false
      ∧ (Instr.matrixWrite 0 0 [0] [] .ok).wellFormed = false
      ∧ (Instr.privatePortWrite .a 0 0).wellFormed = false ∧ (Instr.proofWindowDone (.single 131072)).wellFormed = false
      ∧ (Instr.masterReset 0 [⟨0, true, 2, 1, []⟩]).wellFormed = false
      ∧ (Instr.mtxConflictWrite 0 6).wellFormed = false ∧ (Instr.ddrPatrolScrub 0x333333000 .ok).wellFormed = false
      ∧ (Instr.bar2Read 2097152 4 .ok).wellFormed = false ∧ (Instr.bar2Write 0 [0] [] .ok).wellFormed = false
      ∧ (Instr.auditExportRead 0 [⟨0, 64, 1⟩]).wellFormed = false := by
  decide

/-- The table gives its rows no bits. -/
theorem test_no_words : decodeTableWord 32 0 = none ∧ decodeTableWord 0 0 = none := by decide

/-! ### The spec's worked examples -/

/-- 01, numbering: port element 11,365, element 4,908 and their objects. -/
theorem test_numbers : portElem (1024 + 613) = 11365 ∧ elemAt 9 300 = 4908 ∧ 0x8000 + elemAt 9 300 = 0x932C := by decide

/-- 02, the line of port 613 at rest. -/
theorem test_rest_line :
    ({ kind := .p2p, north := 613, south := 613, mid := 306 } : Slot).fabricElems
      = [101, 869, 1381, 1829, 2341, 2869, 3381, 3889, 4403, 4914, 5427, 5937, 6453, 6965, 7461, 7973, 8549, 9061, 9317] := by
  decide

/-- 07, the first code of a move: eight edges of the modulator and its error after them. -/
theorem test_modulator :
    (modEdges 15 98213 (List.replicate 8 none) ⟨0, 0, 0⟩).1 = [1, 2, 1, 2, 1, 2, 0, 3]
      ∧ (modEdges 15 98213 (List.replicate 8 none) ⟨0, 0, 0⟩).2.e1 = 442305 := by
  decide

/-- R228: the increment at f = +37.5 ppb. -/
theorem test_increment : ({ time := { freqNow := 2457600 } } : State).timeInc = 8589934914 := by decide

/-- 04, the schedule armed after its base: the first grid point at least 50 µs on. -/
theorem test_schedule_start : gridPoint 0 50000 (3123506789 * 65536) = 3123550000 * 65536 := by decide

/-- 15, the gate list committed after its base. -/
theorem test_gate_start :
    ({ base := 1750000300 * 1000000000 * 65536, entries := [(8, 10000), (15, 490000)] } : GateList).startAfter
        ((1750000302 * 1000000000 + 400030000) * 65536)
      = (1750000302 * 1000000000 + 400500000) * 65536 := by
  decide

set_option maxRecDepth 10000 in
/-- R265: the two check values. -/
theorem test_hallmark_zeros : crc32c 0 (List.replicate 24 0) = 0x8A9136AA := by decide

set_option maxRecDepth 10000 in
theorem test_hallmark_counting :
    crc32c 0x0706050403020100 ((numbers 8 24).map fun i => BitVec.ofNat 8 i) = 0x46DD794E := by
  decide

/-- 12, the overdriven input: HKC_DATA of entry 0. -/
theorem test_hkc_overdriven :
    ({} : State).hkcCode 0 { start := 0, input := 16, gain := 3, sample := 7, level := 0, entry := 0, injected := false } 200000 = (0x7FFF, true)
      ∧ ({ valid := true, overRange := true, code := 0x7FFF } : Hkc).word = 0x90007FFF := by
  decide

set_option maxRecDepth 10000 in
/-- 13, the Ethernet DMA reset: master 4, target 5, 9 of 16 beats. -/
theorem test_burst_reset :
    burstFits { addr := 0x01689800, write := true, done := 9, total := 16, data := List.replicate 144 0 } = true
      ∧ addrTarget 0x01689800 = 5 ∧ 0x01689800 / bankBytes = 45 := by
  decide

/-- 14, the JOP v2 frame's check is taken under the context of its KIND and REQUEST_ID. -/
theorem test_context : (1 * 2 ^ 56 + 0x51A7C3 : Nat) = 0x010000000051A7C3 := by decide

/-- An idle step, and a step that runs the command in front. -/
theorem test_step :
    step {} = .next {} ∧ step { pending := [.tcpConnect 0, .qsample] } = exec (.tcpConnect 0) { pending := [.qsample] } :=
  ⟨rfl, rfl⟩

/-! ### Witnesses -/

/-- At a transit boundary that is also due as a hold boundary. -/
def due : TimeSt := { running := true, count := 128000 * 4294967296, elapsed := 128000 * 65536, transitStart := 128000 * 65536 }

/-- At a hold boundary that is also due as a trim boundary. -/
def atTrim : TimeSt := { running := true, count := 128000 * 4294967296, elapsed := 128000 * 65536, transitStart := 128000 * 65536, holdStart := 128000 * 65536 }

/-- A CAL_RUN value for the first interpolator. -/
def runBytes (t : Nat) : List Byte := leBytes 8 (t + 0x100000000 + 0xFFFF000000000000) ++ leBytes 24 0

/-- Its run. -/
def calRun : CalRunSt := { type_ := 3, flags := 0, first := 0, count := 1, source := 0xFFFF, refPower := 0, started := 0 }

/-- The row of a register. -/
def row (off : Nat) : RegRow := (regRow off).getD ⟨0, 0, 0, 0, 0, 0, 0, .timeBlock⟩

/-- PTP port 0 enabled, with its TWO_STEP setting. -/
def ptpObjs (two : Nat) : SMap Nat := [(0x300001, 1), (0x301001, 1), (0x301004, two)]

/-- A gate list whose first entry opens class 0 for 1,000 ns and whose second opens none. -/
def gateList : GateList := { entries := [(1, 1000), (0, 1000)] }

/-- A batch of no records. -/
def batch1 : Batch := { id := 1 }

/-- An audit record. -/
def rec0 : ARec := { seq := 7, body := ⟨0, 0, 0, 0, []⟩, check := 0 }

/-- A table of one watch of 1 ms. -/
def table1 : List Watch := [⟨0, 0, 1000, 0⟩]

/-- An entry of every element with selection bytes of 0. -/
def noNotch : SMap (List Byte) := (numbers 0 elemCount).map fun e => (e, List.replicate 677 0#8)

/-- A schedule in a state, with the table of one watch in its shadow and the watch's configuration compiled; the
user layer asks for no permanent notch. -/
def scheduled (x : SchedState) : State :=
  { sched := { state := x, shadowTable := table1 }, cfgs := [(0, { state := 2 })],
    cal := { types := [(5, { inForce := some 0, user0 := { entries := noNotch } })] } }

theorem mapGet_numbers {α : Type} (f : α) (d : α) (n a k : Nat) (h1 : a ≤ k) (h2 : k < a + n) :
    mapGet ((numbers a n).map fun e => (e, f)) k d = f := by
  induction n generalizing a with
  | zero => omega
  | succ n ih =>
    simp only [numbers, List.map_cons, mapGet]
    split
    · rfl
    · exact ih (a + 1) (by omega) (by omega)

theorem countWhere_numbers (p : Nat → Bool) (n a : Nat) (h : ∀ k, a ≤ k → k < a + n → p k = false) :
    countWhere p (numbers a n) = 0 := by
  induction n generalizing a with
  | zero => rfl
  | succ n ih =>
    simp only [numbers, countWhere, h a (by omega) (by omega)]
    simpa using ih (a + 1) fun k h1 h2 => h k (by omega) (by omega)

theorem countWhere_false {α : Type} (l : List α) : countWhere (fun _ => false) l = 0 := by
  induction l with
  | nil => rfl
  | cons a l ih => simp [countWhere, ih]

theorem legsChanging_empty : legsChanging {} {} = 0 := by
  simp [legsChanging, Cfg.slot, Slot.isLeg, mapGet, countWhere_false]

theorem scheduled_auditLoad (x : SchedState) : (scheduled x).auditLoad table1 = 2 := by
  simp [State.auditLoad, State.tableCfgs, table1, cyclePairs, State.cfg, scheduled, mapGet, legsChanging_empty]

set_option maxRecDepth 10000 in
theorem scheduled_notchOk (x : SchedState) : (scheduled x).notchOk {} {} = true := by
  have h5 : countWhere (scheduled x).notchAlways (numbers 0 elemCount) = 0 := by
    refine countWhere_numbers _ _ _ fun k h1 h3 => ?_
    have h4 : (scheduled x).userEntry 5 k = List.replicate 677 0#8 := mapGet_numbers _ _ _ 0 k h1 h3
    rw [State.notchAlways, State.calSel, h4]
    rfl
  have h2 : (scheduled x).notchHeld = 0 := by rw [State.notchHeld, h5]; rfl
  rw [State.notchOk, h2]
  decide

theorem scheduled_row (x : SchedState) (a : Bool) : (scheduled x).schedRow table1 0 a = 0 := by
  unfold State.schedRow
  rw [scheduled_auditLoad]
  rw [if_neg (by decide), if_neg (by decide), if_neg (by decide), if_neg (by cases x <;> decide)]
  rw [if_neg (by show ¬ (!(scheduled x).notchOk {} {} || (!(scheduled x).notchOk {} {} || false)) = true; rw [scheduled_notchOk]; decide)]
  rw [if_neg (by cases x <;> decide), if_neg (by decide), if_neg (by cases x <;> cases a <;> decide)]

/-- A request frame of an empty payload: operation 1, request ID 1. -/
def frame (ver : Nat) : List Byte :=
  let b := [0x4A#8, BitVec.ofNat 8 (0x30 + ver), BitVec.ofNat 8 ver, 1#8] ++ leBytes 4 36 ++ leBytes 8 (1 + 2 ^ 56) ++ leBytes 16 0
  b ++ leBytes 4 (crc32c (2 ^ 56 + 1) b)

/-- One session. -/
def withSession (n : Nat) (x : Session) : State := { sessions := [(n, x)] }

/-- The firmware has started, v2 is enabled, and session 5 serves a v2 peer. -/
def v2State (quota : Nat) : State := { boot := { started := true }, objs := [(0x140004, 1), (0x351508, quota)], sessions := [(5, { isOpen := true, link := 2, peer := [0, 7] })] }

/-- Session 5 serves a v3 connection and has one request token. -/
def v3State (quota : Nat) : State := { objs := [(0x351508, quota)], sessions := [(5, { isOpen := true, link := 3, reqTokens := tokUnit })] }

/-- Every network session is open. -/
def allOpen : SMap Session := (numbers 5 24).map fun n => (n, { isOpen := true })

/-- Mailbox ring 1 runs and holds one descriptor. -/
def ringState : State := { mbx := [(1, { running := true })], sessions := [(1, { isOpen := true, link := 1, reqTokens := tokUnit })], regs := [(mbxReg 1 32, 1)] }

/-- An event record. -/
def erec : ERec := ⟨1, 0, 0, 0, 0, []⟩

/-- Event source 0x100 is mapped to queue 0, which is enabled. -/
def evOn : State := { events := { started := true }, regs := [(0x10000, 1), (0x11400, 0x80000000)] }

/-- A queue whose head may be served. -/
def ready : Queue := { waiting := [{}] }

/-- An LC_REQUEST value without a token. -/
def token (t n : Nat) : List Byte := leBytes 8 t ++ leBytes 8 n ++ List.replicate 80 0#8

theorem leNat_leBytes (k n : Nat) (h : n < 256 ^ k) : leNat (leBytes k n) = n := by
  induction k generalizing n with
  | zero => simp at h; simp [leBytes, leNat, h]
  | succ k ih =>
    have h1 : n / 256 < 256 ^ k := by
      rw [Nat.div_lt_iff_lt_mul (by decide)]; rw [Nat.pow_succ] at h; exact h
    simp only [leBytes, leNat, ih _ h1, BitVec.toNat_ofNat]
    omega

theorem token_nonce (t n : Nat) (h : n < 2 ^ 64) : leAt (token t n) 8 8 = n := leNat_leBytes 8 n h

set_option maxRecDepth 4000 in
theorem token_ok (t : Nat) (s : State) (h : leAt (token t s.nonce) 0 1 ≠ 4) : s.lcTokenOk (token t s.nonce) = true := by
  have h1 : leAt (token t s.nonce) 8 8 = s.nonce := token_nonce t _ (Nat.mod_lt _ (by decide))
  have h2 : leAt (token t s.nonce) 16 80 = 0 := by
    show leNat (List.replicate 80 0#8) = 0
    decide
  simp [State.lcTokenOk, h, h1, h2]

/-- A configuration of one P2P circuit, on a middle line. -/
def oneCircuit (m : Nat) : Cfg := { slots := [(0, { kind := .p2p, north := 0, south := 0, mid := m })] }

/-- A circuit's path holds a FAULTED element, and a re-route waits for it. -/
def rerouted : State :=
  { planner := { reroute := some [0] }, forge := { state := .awake }, loopsStarted := true, ladder := { state := 2 },
    active := (oneCircuit 0).routed, elems := [(elemOn 9 (lineInto 0 0 0 9), { mode := .faulted })],
    objs := [(0x50000C, 0), (0x50000D, 65535), (0x50010C, 0), (0x50010D, 65535)],
    cal := { types := [(5, { inForce := some 0, user0 := { entries := noNotch } })] } }

theorem planMoves_none (s : State) (a : Bool) (b : Cfg) : (s.planMoves a b []).placed = [] := by
  unfold State.planMoves
  split <;> rfl

theorem clampInt_le (a b x : Int) (k : Nat) (ha : a ≤ k) (hb : b ≤ k) : (clampInt a b x).toNat ≤ k := by
  unfold clampInt
  split <;> [skip; split] <;> omega

/-- An element's travel window is the whole travel. -/
def wide (e : Nat) : Bool := decide (rerouted.prof e 0x0C = 0) && decide (rerouted.prof e 0x0D = 65535)

theorem rerouted_window (e t : Nat) (hw : wide e = true) (h : t ≤ 65535) : rerouted.inTravelWindow e t = true := by
  simp only [wide, Bool.and_eq_true, decide_eq_true_eq] at hw
  simp [State.inTravelWindow, hw.1, hw.2, h]

theorem travel_le (n : Nat) : n % 65536 ≤ 65535 := Nat.le_of_lt_succ (Nat.mod_lt _ (by decide))

theorem rerouted_port (c : Cfg) (p : Nat) (hw : wide (portElem p) = true) (hs : rerouted.shunned (portElem p) = false) :
    rerouted.portUsable c p = true := by
  have h : rerouted.attenTravel (portElem p) (rerouted.attenNow c p) ≤ 65535 :=
    clampInt_le _ _ _ _ (Int.ofNat_le.mpr (travel_le _)) (Int.ofNat_le.mpr (travel_le _))
  simp [State.portUsable, rerouted_window _ _ hw h, hs]

theorem rerouted_elem (e : Nat) (r : RState) (hw : wide e = true) (hs : rerouted.shunned e = false) :
    rerouted.elemUsable e r = true := by
  have h : rerouted.stateTravel e r ≤ 65535 := by
    cases r <;> exact clampInt_le _ _ _ _ (by decide) (by decide)
  simp [State.elemUsable, rerouted_window e _ hw h, hs]

set_option maxRecDepth 10000 in
theorem rerouted_path : rerouted.pathUsable (oneCircuit 1).routed 0 = true := by
  have h : ∀ es ∈ (oneCircuit 1).routed.pathOf 0, wide es.1 = true ∧ rerouted.shunned es.1 = false := by decide +kernel
  have h1 : rerouted.portUsable (oneCircuit 1).routed 0 = true := rerouted_port _ 0 (by decide +kernel) (by decide +kernel)
  have h2 : rerouted.portUsable (oneCircuit 1).routed 1024 = true :=
    rerouted_port _ 1024 (by decide +kernel) (by decide +kernel)
  have h3 : (((oneCircuit 1).routed.pathOf 0).all fun es => rerouted.elemUsable es.1 es.2) = true :=
    List.all_eq_true.mpr fun es hs => rerouted_elem es.1 es.2 (h es hs).1 (h es hs).2
  simp only [State.pathUsable, Bool.and_eq_true]
  exact ⟨⟨h1, h2⟩, h3⟩

set_option maxRecDepth 10000 in
theorem rerouted_notchHeld : rerouted.notchHeld = 0 := by
  have h5 : countWhere rerouted.notchAlways (numbers 0 elemCount) = 0 := by
    refine countWhere_numbers _ _ _ fun k h1 h3 => ?_
    have h4 : rerouted.userEntry 5 k = List.replicate 677 0#8 := mapGet_numbers _ _ _ 0 k h1 h3
    rw [State.notchAlways, State.calSel, h4]
    rfl
  rw [State.notchHeld, h5]
  rfl

theorem rerouted_ok : rerouted.moveOk 1 (oneCircuit 0).routed [0] (oneCircuit 1).routed = true := by
  have h1 : movedLegs (oneCircuit 0).routed (oneCircuit 1).routed = [0] := by decide
  have h2 : (oneCircuit 1).routed.stands = true := by decide
  have h3 : (oneCircuit 0).routed.newTraces (oneCircuit 1).routed = [] := by decide
  have h4 : (oneCircuit 1).routed.ratiosOk = true := by decide
  have h5 : peakSplits (oneCircuit 0).routed (oneCircuit 1).routed = 0 := by decide
  simp [State.moveOk, State.changeUsable, State.notchOk, h1, h2, h3, h4, h5, rerouted_notchHeld, rerouted_path]

theorem mem_numbers (n a k : Nat) (h1 : a ≤ k) (h2 : k < a + n) : k ∈ numbers a n := by
  induction n generalizing a with
  | zero => omega
  | succ n ih =>
    rcases Nat.eq_or_lt_of_le h1 with rfl | h3
    · exact List.mem_cons_self
    · exact List.mem_cons_of_mem _ (ih (a + 1) h3 (by omega))

theorem tryMids_some (f : Cfg → Option Cfg) (c : Cfg) (l m : Nat) (hm : m < 512) (h : (f (c.setMid (l, m))).isSome = true) :
    (tryMids f [l] c).isSome = true := by
  simp only [tryMids, List.findSome?_isSome_iff]
  exact ⟨m, mem_numbers 512 0 m (by omega) (by omega), h⟩

theorem rerouted_found (ps : List Proposal) :
    (rerouted.findPlan (oneCircuit 0).routed (oneCircuit 0).routed [0] true ps (rerouted.moveOk 1 (oneCircuit 0).routed [0])).isSome = true := by
  unfold State.findPlan
  split
  · rfl
  · refine tryMids_some _ _ 0 1 (by decide) ?_
    have h1 : ((oneCircuit 0).routed.setMid (0, 1)).traceKeys true = [] := by decide
    have h2 : ((oneCircuit 0).routed.setMid (0, 1)).settled = (oneCircuit 1).routed := by decide
    simp [h1, h2, tryTraces, rerouted_ok]

theorem rerouted_placed : (rerouted.planMoves (decide (rerouted.obj 8192 4 = 1)) (cfgAfter rerouted.active (rerouted.pendingBefore rerouted.nextBoundary))
    (List.filter (fun l => (rerouted.active.slot l).isLeg && rerouted.legFaulted l) [0])).placed ≠ [] := by
  have h1 : cfgAfter rerouted.active (rerouted.pendingBefore rerouted.nextBoundary) = (oneCircuit 0).routed := rfl
  have h2 : List.filter (fun l => (rerouted.active.slot l).isLeg && rerouted.legFaulted l) [0] = [0] := by decide
  rw [h1, h2]
  obtain ⟨d, hd⟩ := Option.isSome_iff_exists.mp (rerouted_found (Config.proposeReroute 1 (oneCircuit 0).routed rerouted.shunnedSet (512 - rerouted.notchHeld) [0]))
  simp [State.planMoves, State.planMove, hd]

/-- The calibration contents of the ladder's spare cells are written and zero. -/
def cellsZero : Cal := { types := [(1, { inForce := some 0, user0 := { entries := [(0, List.replicate 48 0#8)] } })] }


/-- The largest clear code is a factory constant: a larger code passes the gate where it is not the largest of all. -/
theorem witness_clear_limit (h : clearLimit 0 < 1048575) :
    ∃ (ses e v : Nat) (s : State), Passes ses (32768 + e) 9 (valBytes 4 v) s ∧ clearLimit e < v
      ∧ ¬(ses = 31 ∧ s.life.state ≠ LcState.deployed) :=
  ⟨30, 0, 1048575, {}, by unfold Passes; decide, h, by decide⟩
/-- A firmware image of an empty body. -/
def image0 : List Byte :=
  leBytes 4 0x57464B48 ++ leBytes 16 0 ++ sha256 [] ++ List.replicate 76 0#8
set_option maxRecDepth 100000 in
theorem image0_sound (h : Config.pelliotteSigned 0 (image0.take 52) ((image0.drop 52).take 64) = true) :
    ({ bytes := image0 } : Image).sound = true := by
  have h1 : decide (sha256 ((image0.drop 128).take (leAt image0 16 4)) = (image0.drop 20).take 32) = true := by decide +kernel
  have h2 : (decide (leAt image0 0 4 = 0x57464B48) && decide (leAt image0 16 4 ≤ 16777088) && decide (128 + leAt image0 16 4 ≤ image0.length)
      && decide (leAt image0 8 1 < 64) && decide (leAt image0 9 7 = 0)) = true := by decide +kernel
  simp only [Image.sound, Image.body, h, h2]
  simp
  exact h1
set_option maxRecDepth 100000 in
/-- A recovery image loads where its signature verifies: the form and the hash of this one do. -/
theorem witness_recovery_load (h : Config.pelliotteSigned 0 (image0.take 52) ((image0.drop 52).take 64) = true) :
    ∃ (len : Nat) (bs : List Byte) (s : State), s.boot.bootField = 2 ∧ s.power.watchOn = false ∧ len % 33554432 ≤ bs.length
      ∧ ({ bytes := bs.take (len % 33554432) } : Image).sound = true
      ∧ s.boot.fusedSvn ≤ ({ bytes := bs.take (len % 33554432) } : Image).svn := by
  have hl : image0.length = 128 := by decide +kernel
  refine ⟨128, image0, { boot := { bootField := 2 } }, rfl, rfl, by rw [hl], ?_, Nat.zero_le _⟩
  have h3 : image0.take (128 % 33554432) = image0 := List.take_of_length_le (by rw [hl])
  rw [h3]
  exact image0_sound h
/-- R437: of two records of one 40 ns cycle the one of the lower source takes the lower SEQ. -/
theorem test_cycle_order :
    (raiseEv 0x100 [] (raiseEv 0x200 [] { evOn with
        regs := [(0x10000, 1), (0x11400, 0x80000000), (0x11800, 0x80000000)] })).events.history.map (fun r => (r.seq, r.source))
      = [(2, 0x200), (1, 0x100)] := by decide +kernel
theorem witness_forge_wakes_and_sleeps :
    (∃ (s : State), s.power.forgeOn = true ∧
      (s.forge.state = ForgeState.asleep ∨ s.forge.state = ForgeState.sleeping) ∧ s.timedDue = true) ∧
    (∃ (s : State), s.timedDue = false) ∧
    (∃ (s : State), s.forge.state = ForgeState.waking ∧ s.forge.lanesReady = false ∧
      s.forge.coresReady = false) ∧
    (∃ (s : State), s.forge.state = ForgeState.waking ∧ s.forge.lanesReady = true ∧
      s.forge.coresReady = false) ∧
    (∃ (s : State), s.forge.state = ForgeState.awake ∧ s.forgeIdle = true ∧
      s.forge.idleSince + s.sleepDelay ≤ s.time.elapsed) ∧
    (∃ (s : State), s.forge.state = ForgeState.sleeping ∧ s.matrixQuiet = true) :=
  ⟨
    ⟨{ power := { forgeOn := true }, batches := [{ id := 1, state := .pending, mode := 1 }] }, by decide⟩,
    ⟨{ }, by decide⟩,
    ⟨{ forge := { state := .waking } }, by decide⟩,
    ⟨{ forge := { state := .waking, lanesReady := true } }, by decide⟩,
    ⟨{ forge := { state := .awake }, time := { elapsed := 655360000000000 } }, by decide⟩,
    ⟨{ forge := { state := .sleeping } }, by decide⟩⟩

theorem witness_element_writes :
    (∃ (ses : Nat) (e : Nat) (v : Nat) (s : State), Passes ses (32768 + e) 4 (valBytes 1 v) s ∧ v ≠ 0 ∧ v ≠ 1 ∧
      v ≠ 4) ∧
    (∃ (ses : Nat) (e : Nat) (v : Nat) (s : State), Passes ses (32768 + e) 4 (valBytes 1 v) s ∧
      (v = 0 ∨ v = 1 ∨ v = 4) ∧ s.modeRefused e v = true) ∧
    (∃ (ses : Nat) (e : Nat) (v : Nat) (s : State), Passes ses (32768 + e) 4 (valBytes 1 v) s ∧
      (v = 0 ∨ v = 1 ∨ v = 4) ∧ s.modeRefused e v = false) ∧
    (∃ (ses : Nat) (e : Nat) (v : Nat) (s : State), Passes ses (32768 + e) 8 (valBytes 2 v) s ∧
      (s.inTravelWindow e v = false ∨ s.beyondCross e v = true)) ∧
    (∃ (ses : Nat) (e : Nat) (v : Nat) (s : State), Passes ses (32768 + e) 8 (valBytes 2 v) s ∧
      s.inTravelWindow e v = true ∧ s.beyondCross e v = false ∧
      (s.active.onLeg e = true ∨ (s.elem e).mode ≠ EMode.hold)) ∧
    (∃ (ses : Nat) (e : Nat) (v : Nat) (s : State), Passes ses (32768 + e) 8 (valBytes 2 v) s ∧
      s.inTravelWindow e v = true ∧ s.beyondCross e v = false ∧ s.active.onLeg e = false ∧
      (s.elem e).mode = EMode.hold) ∧
    (∃ (ses : Nat) (e : Nat) (v : Nat) (s : State), Passes ses (32768 + e) 9 (valBytes 4 v) s ∧
      ¬(clearLimit e < v ∧ ¬(ses = 31 ∧ s.life.state ≠ LcState.deployed))) :=
  ⟨
    ⟨30, 0, 2, { }, by unfold Passes; decide⟩,
    ⟨30, 9728, 0, { loopsStarted := true }, by unfold Passes; decide⟩,
    ⟨30, 0, 4, { loopsStarted := true }, by unfold Passes; decide⟩,
    ⟨30, 9728, 99, { objs := [(0x50000C, 100), (0x50000D, 200), (0xA60005, 0)] }, by unfold Passes; decide⟩,
    ⟨30, 9728, 100, { objs := [(0x50000C, 100), (0x50000D, 200), (0xA60005, 0)] }, by unfold Passes; decide⟩,
    ⟨30, 9728, 200, { objs := [(0x50000C, 100), (0x50000D, 200), (0xA60005, 0)], elems := [(9728, { mode := .hold })] }, by unfold Passes; decide⟩,
    ⟨30, 0, 0, { }, by unfold Passes; decide⟩⟩

theorem witness_element_faults :
    (∃ (e : Nat) (c : FaultBit) (s : State), s.power.watchOn = true ∧ s.causePresent e c = true ∧
      (s.elem e).heeds c = true) ∧
    (∃ (e : Nat) (s : State), s.timedOut e = true) ∧
    (∃ (ses : Nat) (e : Nat) (s : State), Passes ses (32768 + e) 15 [1#8] s ∧ s.stillPresent e = true) ∧
    (∃ (ses : Nat) (e : Nat) (s : State), Passes ses (32768 + e) 15 [1#8] s ∧ s.stillPresent e = false) ∧
    (∃ (ses : Nat) (e : Nat) (mv : Nat) (sh : Bool) (op : Bool) (s : State), (s.elem e).clearAsked = some ses ∧
      s.clearDue e = true ∧
      (mismatched (s.chan e).spanMv mv 0 = true ∨ sh = true ∨ op = true ∨ s.ladder.state ≠ 2)) ∧
    (∃ (ses : Nat) (e : Nat) (mv : Nat) (sh : Bool) (op : Bool) (s : State), (s.elem e).clearAsked = some ses ∧
      s.clearDue e = true ∧ mismatched (s.chan e).spanMv mv 0 = false ∧ sh = false ∧ op = false ∧
      s.ladder.state = 2) :=
  ⟨
    ⟨0, .stateCheck, { power := { watchOn := true } }, by decide⟩,
    ⟨0, { elems := [(0, { mode := .transit, reachedAt := some 0 })], time := { elapsed := 6553600000 } }, by decide⟩,
    ⟨30, 0, { }, ⟨by unfold Passes; decide, Bool.or_true _⟩⟩,
    ⟨30, 0, { elems := [(0, { mode := .faulted })], ladder := { state := 2 }, objs := [(0x500018, 1), (0x500019, 1)] }, by unfold Passes; decide⟩,
    ⟨30, 0, 0, false, false, { elems := [(0, { clearAsked := some 30 })], ladder := { state := 1 }, time := { holdStart := 1, elapsed := 100000000 } }, by decide⟩,
    ⟨30, 0, 0, false, false, { elems := [(0, { clearAsked := some 30 })], ladder := { state := 2 }, time := { holdStart := 1, elapsed := 100000000 } }, by decide⟩⟩

theorem witness_lane_retirement :
    (∃ (v : Anvil) (n : Nat) (s : State), (s.lane v n).works = true ∧ 3 ≤ (s.lane v n).lowRun) :=
    ⟨.a, 0, { lanesA := [(0, { lowRun := 3 })] }, by decide⟩

theorem witness_fabric_clear :
    (∃ (s : State), s.clear.asserted = false ∧ s.power.vaux = true) ∧
    (∃ (s : State), s.clear.asserted = false ∧ s.power.vaux = false) ∧
    (∃ (s : State), s.clear.asserted = true ∧ s.power.vaux = true) ∧
    (∃ (s : State), s.clear.asserted = false ∧ s.clear.auxFollowing = true ∧ s.atHold = true ∧
      s.clear.releasedAt < s.time.elapsed) :=
  ⟨
    ⟨{ }, by decide⟩,
    ⟨{ power := { vaux := false } }, by decide⟩,
    ⟨{ clear := { asserted := true } }, by decide⟩,
    ⟨{ clear := { auxFollowing := true }, time := atTrim }, by decide⟩⟩

theorem witness_clear_table_commit :
    (∃ (ses : Nat) (s : State) (n : Nat), Passes ses 21504 3 (valBytes 1 1) s ∧ s.clearReject = some n) ∧
    (∃ (ses : Nat) (s : State), Passes ses 21504 3 (valBytes 1 1) s ∧ s.clearReject = none) ∧
    (∃ (table : Sys2Proof.SMap Nat) (auxTable : Sys2Proof.SMap Nat) (s : State), s.power.watchOn = true ∧
      s.atHold = true ∧ s.clear.waitingAt < s.time.elapsed ∧ s.clear.waiting = some (table, auxTable)) ∧
    (∃ (s : State), s.clear.waiting = none) :=
  ⟨
    ⟨30, { clear := { shadowAux := [(0, 2000000)] } }, 0x10000, by unfold Passes; decide⟩,
    ⟨30, { }, by unfold Passes; decide⟩,
    ⟨[], [], { power := { watchOn := true }, clear := { waiting := some ([], []) }, time := atTrim }, by decide⟩,
    ⟨{ }, by decide⟩⟩

theorem witness_channels_and_ladder :
    (∃ (e : Nat) (c : ChanCause) (s : State), s.power.watchOn = true ∧
      (s.chan e).causes.testBit (chanBit c) = false ∧ s.chanCausePresent e c = true) ∧
    (∃ (level : Nat) (s : State) (c : Nat), s.ladder.state = 2 ∧ level < 16 ∧
      s.ladder.bestSpare level (s.ladder.wanted.getD level 0) (({ s.ladder with retired := insertNum (s.ladder.wanted.getD level 0) s.ladder.retired } : Ladder).free s.ladder.wanted) = some c) ∧
    (∃ (level : Nat) (s : State), s.ladder.state = 2 ∧ level < 16 ∧
      s.ladder.bestSpare level (s.ladder.wanted.getD level 0) (({ s.ladder with retired := insertNum (s.ladder.wanted.getD level 0) s.ladder.retired } : Ladder).free s.ladder.wanted) = none) ∧
    (∃ (sel : List Nat) (errs : List Int) (s : State), s.ladder.calSel = some (sel, some errs) ∧
      s.atTransit = true ∧ s.atHold = true) ∧
    (∃ (sel : List Nat) (s : State), s.ladder.calSel = some (sel, none) ∧ s.atTransit = true ∧
      s.atHold = true) ∧
    (∃ (sel : List Nat) (s : State), s.ladder.pendingSel = some sel ∧ s.atTransit = true ∧
      (s.ladder.calSel = none ∨ s.atHold = false)) ∧
    (∃ (s : State), (s.ladder.state = 1 ∨ s.ladder.state = 2)) ∧
    (∃ (s : State), s.ladder.state ≠ 4 ∧ (s.ladder.state = 3 ∨ s.ladder.checking = true) ∧
      (s.ladder.loaded = true ∨ (loadSelection s).2 = none)) ∧
    (∃ (s : State), s.ladder.state = 1 ∧ s.ladder.checking = false ∧ (loadSelection s).2 = none ∧
      s.power.vhv = true) ∧
    (∃ (s : State), s.ladder.state = 1 ∧ s.ladder.checking = false ∧ (loadSelection s).2 = none ∧
      s.power.vhv = false) ∧
    (∃ (j : Nat) (s : State), s.ladder.state = 1 ∧ s.ladder.checking = false ∧ (loadSelection s).2 = some j) ∧
    (∃ (ses : Nat) (e : Nat) (v : Nat) (s : State), Passes ses (32768 + e) 48 (valBytes 1 v) s) ∧
    (∃ (e : Nat) (at_ : Nat) (v : Nat) (s : State), (s.chan e).dwellAt = some at_ ∧
      (s.chan e).spanNext = some v ∧ at_ + 10000 * 65536 ≤ s.time.elapsed ∧ (s.elem e).mode.runs = false) ∧
    (∃ (e : Nat) (at_ : Nat) (v : Nat) (s : State), (s.chan e).dwellAt = some at_ ∧
      (s.chan e).spanNext = some v ∧ at_ + 10000 * 65536 ≤ s.time.elapsed ∧ (s.elem e).mode.runs = true) :=
  ⟨
    ⟨0, .short, { power := { watchOn := true } }, by decide⟩,
    ⟨0, { ladder := { state := 2, retired := numbers 0 23 } }, 23, by decide⟩,
    ⟨0, { ladder := { state := 2, retired := numbers 0 24 } }, by decide⟩,
    ⟨[], [], { ladder := { calSel := some ([], some []) } }, by decide⟩,
    ⟨[], { ladder := { calSel := some ([], none) } }, by decide⟩,
    ⟨[], { ladder := { pendingSel := some [] } }, by decide⟩,
    ⟨{ ladder := { state := 1 } }, by decide⟩,
    ⟨{ ladder := { state := 3, loaded := true } }, by decide⟩,
    ⟨{ ladder := { state := 1 }, cal := cellsZero, power := { vhv := true } }, by decide⟩,
    ⟨{ ladder := { state := 1 }, cal := cellsZero, power := { vhv := false } }, by decide⟩,
    ⟨0, { ladder := { state := 1, retired := numbers 0 24 }, cal := cellsZero }, by decide⟩,
    ⟨31, 0, 1, { }, by unfold Passes; decide⟩,
    ⟨0, 0, 1, { chans := [(0, { dwellAt := some 0, spanNext := some 1 })], time := { elapsed := 655360000 } }, by decide⟩,
    ⟨0, 0, 1, { chans := [(0, { dwellAt := some 0, spanNext := some 1 })], elems := [(0, { mode := .hold })], time := { elapsed := 655360000 } }, by decide⟩⟩

theorem witness_aux_outputs :
    (∃ (ses : Nat) (a : Nat) (v : Nat) (s : State), Passes ses (21760 + a) 1 (valBytes 1 v) s ∧ v ≤ 3) ∧
    (∃ (a : Nat) (s : State), (s.auxOut a).changing = true ∧ (s.auxOut a).changeAt < s.time.elapsed ∧
      s.atHold = true ∧ s.power.watchOn = true) ∧
    (∃ (a : Nat) (at_ : Nat) (s : State), (s.auxOut a).dwellAt = some at_ ∧
      (s.auxOut a).state = AuxState.dwell ∧ (s.auxOut a).changing = false ∧ (s.auxOut a).switched = false ∧
      at_ + 1000 * 65536 ≤ s.time.elapsed) ∧
    (∃ (a : Nat) (at_ : Nat) (s : State), (s.auxOut a).dwellAt = some at_ ∧
      (s.auxOut a).state = AuxState.dwell ∧ (s.auxOut a).changing = false ∧ (s.auxOut a).switched = true ∧
      at_ + 10000 * 65536 ≤ s.time.elapsed) ∧
    (∃ (ses : Nat) (a : Nat) (v : Nat) (s : State), Passes ses (21760 + a) 2 (valBytes 4 v) s) ∧
    (∃ (a : Nat) (c : AuxCause) (s : State), ((s.auxOut a).driven = true ∨ (s.auxOut a).state = AuxState.dwell ∧
      c ≠ AuxCause.readback) ∧ (s.auxOut a).causePresent c = true) ∧
    (∃ (a : Nat) (s : State), (s.auxOut a).driven = true ∧ (s.auxOut a).config = 3 ∧
      (s.auxOut a).compliance = false) ∧
    (∃ (a : Nat) (s : State), (s.auxOut a).compliance = true ∧
      (s.auxOut a).complianceAt + 1000000 * 65536 ≤ s.time.elapsed) ∧
    (∃ (a : Nat) (b : Nat), b ≠ a) :=
  ⟨
    ⟨30, 0, 3, { }, by unfold Passes; decide⟩,
    ⟨0, { aux := [(0, { changing := true })], power := { watchOn := true }, time := atTrim }, by decide⟩,
    ⟨0, 0, { aux := [(0, { dwellAt := some 0, state := .dwell })], time := { elapsed := 65536000 } }, by decide⟩,
    ⟨0, 0, { aux := [(0, { dwellAt := some 0, state := .dwell, switched := true })], time := { elapsed := 655360000 } }, by decide⟩,
    ⟨30, 0, 0, { }, by unfold Passes; decide⟩,
    ⟨0, .supply, { aux := [(0, { state := .active })] }, by decide⟩,
    ⟨0, { aux := [(0, { state := .active, config := 3 })] }, by decide⟩,
    ⟨0, { aux := [(0, { compliance := true })], time := { elapsed := 65536000000 } }, by decide⟩,
    ⟨0, 15, by decide⟩⟩

theorem witness_light_detection :
    (∃ (c : Nat) (i : Nat) (codes : List Nat) (s : State), s.power.watchOn = true ∧ c < 128 ∧ i < 10 ∧
      codes.length = 32) ∧
    (∃ (d : Nat) (at_ : Nat) (s : State), s.power.watchOn = true ∧ (s.det d).overpower = true ∧
      (s.det d).below = some at_ ∧ at_ + 1000000 * 65536 ≤ s.time.elapsed) ∧
    (∃ (d : Nat) (s : State), s.power.vaux = true ∧ d < 4096 ∧ (s.det d).lit = false) ∧
    (∃ (d : Nat) (s : State), s.power.vaux = true ∧ d < 4096 ∧ (s.det d).lit = true) ∧
    (∃ (d : Nat) (s : State), (s.det d).latch = []) ∧
    (∃ (d : Nat) (s : State), s.power.vaux = true ∧ d < 4096 ∧ s.atTransit = true ∧
      (s.det d).threshAt = some s.time.elapsed) :=
  ⟨
    ⟨0, 0, List.replicate 32 0, { power := { watchOn := true } }, by decide⟩,
    ⟨0, 0, { power := { watchOn := true }, dets := [(0, { overpower := true, below := some 0 })], time := { elapsed := 65536000000 } }, by decide⟩,
    ⟨4095, { }, by decide⟩,
    ⟨0, { dets := [(0, { lit := true })] }, by decide⟩,
    ⟨0, { }, by decide⟩,
    ⟨4095, { dets := [(4095, { threshAt := some 0 })] }, by decide⟩⟩

theorem witness_path_trim_commands :
    (∃ (id : Nat) (s : State), (s.leg id).trim = TrimState.qualifying ∧
      (s.leg id).qualAt + 2000 * 65536 ≤ s.time.elapsed) ∧
    (∃ (e : Nat) (s : State), (s.elem e).etaRaised = false ∧
      (16 ≤ (s.elem e).etaRun ∨ 16 ≤ (s.elem e).rangeRun)) ∧
    (∃ (id : Nat) (s : State), 16 ≤ (s.leg id).lossRun ∧ (s.leg id).lossRaised = false) ∧
    (∃ (c : Nat) (s : State), s.trimDue = true ∧ (s.buoy c).slow = false ∧ (s.buoy c).lateNow = true ∧
      (s.buoy c).latePrev = true) ∧
    (∃ (c : Nat) (s : State), s.trimDue = true ∧ (s.buoy c).slow = true ∧ (s.buoy c).lateNow = false) :=
  ⟨
    ⟨0, { legs := [(0, { trim := .qualifying })], time := { elapsed := 131072000 } }, by decide⟩,
    ⟨0, { elems := [(0, { etaRun := 16 })] }, by decide⟩,
    ⟨0, { legs := [(0, { lossRun := 16 })] }, by decide⟩,
    ⟨0, { time := atTrim, buoys := [(0, { lateNow := true, latePrev := true })] }, by decide⟩,
    ⟨0, { time := atTrim, buoys := [(0, { slow := true })] }, by decide⟩⟩

theorem witness_thermal_stages :
    (∃ (s : State), s.sampleDue = false) ∧
    (∃ (s : State), s.sampleDue = true) ∧
    (∃ (i : Nat) (s : State), s.power.vaux = true ∧ i < 90 ∧ (s.sensor i).suspect = false ∧
      1000 ≤ (s.sensor i).offRun) ∧
    (∃ (i : Nat) (s : State), s.power.vaux = true ∧ i < 90 ∧ (s.sensor i).suspect = true ∧
      10000 ≤ (s.sensor i).onRun) ∧
    (∃ (z : Nat) (c : ThmCond) (s : State), s.condDue z c = false) ∧
    (∃ (z : Nat) (c : ThmCond) (s : State), s.power.vaux = true ∧ z < 3 ∧ s.condDue z c = true) ∧
    (∃ (e : Nat) (q : Int) (s : State), s.power.watchOn = true ∧ (s.elem e).tqNext = some q ∧
      (s.holdDue = true ∨ s.atHold = true)) :=
  ⟨
    ⟨{ power := { vaux := false } }, by decide⟩,
    ⟨{ time := { elapsed := 1000000000000 } }, by decide⟩,
    ⟨0, { thermal := { sensors := [(0, { offRun := 1000 })] } }, by decide⟩,
    ⟨89, { thermal := { sensors := [(89, { suspect := true, onRun := 10000 })] } }, by decide⟩,
    ⟨2, .warn, { }, by decide⟩,
    ⟨2, .warn, { thermal := { zones := [(2, { warn := { upRun := 16 } })] } }, by decide⟩,
    ⟨0, 0, { power := { watchOn := true }, elems := [(0, { tqNext := some 0 })] }, by decide⟩⟩

theorem witness_thermal_trip_and_fans :
    (∃ (i : Nat) (s : State), s.power.vaux = true ∧ s.thermal.trip = false ∧ (s.sensor i).suspect = false ∧
      (2 ≤ s.thermal.tripRun ∧ s.atTrip i = true ∨ 2 ≤ s.thermal.predictRun ∧ s.nearTrip i = true)) ∧
    (∃ (at_ : Nat) (s : State), s.thermal.trip = true ∧ s.thermal.tripAt = some at_ ∧ s.power.watchOn = true ∧
      at_ + 100000 * 65536 ≤ s.time.elapsed) ∧
    (∃ (s : State), s.restartDue = true ∧ ((s.reg 3538948).testBit 0 = false ∨ s.power.vmain = false)) ∧
    (∃ (s : State), s.restartDue = true ∧ (s.reg 3538948).testBit 0 = true ∧ s.power.vmain = true) ∧
    (∃ (s : State), s.power.vaux = true ∧ s.thermal.restartReady = true ∧ s.power.vmain = true) ∧
    (∃ (s : State), s.power.vaux = true ∧ s.thermal.restartReady = false) ∧
    (∃ (f : Nat) (s : State), f < 4 ∧ s.rpmDue f = false) ∧
    (∃ (f : Nat) (s : State), f < 4 ∧ s.rpmDue f = true) ∧
    (∃ (f : Nat) (s : State), s.power.vaux = true ∧ f < 4 ∧ (s.fan f).stall = false ∧ 2 ≤ (s.fan f).lowRun) ∧
    (∃ (f : Nat) (s : State), s.power.vaux = true ∧ f < 4 ∧ (s.fan f).stall = true ∧ 2 ≤ (s.fan f).goodRun) :=
  ⟨
    ⟨0, { thermal := { tripRun := 2, sensors := [(0, { v := 32767 })] } }, by decide⟩,
    ⟨0, { thermal := { trip := true, tripAt := some 0 }, power := { watchOn := true }, time := { elapsed := 6553600000 } }, by decide⟩,
    ⟨{ thermal := { trip := true, coolSince := some 0 }, time := { elapsed := 3932160000000000 } }, by decide⟩,
    ⟨{ thermal := { trip := true, coolSince := some 0 }, time := { elapsed := 3932160000000000 }, power := { vmain := true }, regs := [(0x360004, 1)] }, by decide⟩,
    ⟨{ thermal := { restartReady := true }, power := { vmain := true } }, by decide⟩,
    ⟨{ }, by decide⟩,
    ⟨3, { power := { vaux := false } }, by decide⟩,
    ⟨3, { time := { elapsed := 65536000000000 } }, by decide⟩,
    ⟨3, { fans := [(3, { lowRun := 2 })] }, by decide⟩,
    ⟨3, { fans := [(3, { stall := true, goodRun := 2 })] }, by decide⟩⟩

theorem witness_supplies_and_reset :
    (∃ (s : State), s.power.vaux = false ∧ s.power.vmain = false) ∧
    (∃ (s : State), s.power.vmain = false ∧ s.power.flush ≠ 1 ∧ s.power.vaux = true ∧
      s.power.modResetHeld = false ∧ s.thermal.trip = false ∧ s.power.watchOn = false) ∧
    (∃ (s : State), s.power.vmain = false ∧ s.power.flush ≠ 1 ∧ s.power.modResetHeld = true) ∧
    (∃ (s : State), s.power.vmain = true ∧ s.power.watchOn = true ∧ s.power.flush ≠ 2) ∧
    (∃ (s : State), s.power.flush = 1) ∧
    (∃ (s : State), s.power.vaux = true ∧ s.power.modResetLow = false ∧ s.power.flush ≠ 2 ∧
      s.power.vmain = true) ∧
    (∃ (s : State), s.power.flush = 2 ∧ s.power.modResetLow = true) ∧
    (∃ (s : State), s.power.modResetLow = true ∧ s.power.watchOn = false ∧ s.power.vaux = true ∧
      s.power.vmain = true ∧ s.thermal.trip = false) :=
  ⟨
    ⟨{ power := { vaux := false } }, by decide⟩,
    ⟨{ }, by decide⟩,
    ⟨{ power := { modResetHeld := true } }, by decide⟩,
    ⟨{ power := { vmain := true, watchOn := true } }, by decide⟩,
    ⟨{ power := { flush := 1 } }, by decide⟩,
    ⟨{ power := { vmain := true } }, by decide⟩,
    ⟨{ power := { flush := 2, modResetLow := true } }, by decide⟩,
    ⟨{ power := { modResetLow := true, vmain := true } }, by decide⟩⟩

theorem witness_host_and_software_resets :
    (∃ (s : State), s.power.vaux = true ∧ s.power.perstLow = false) ∧
    (∃ (s : State), s.power.perstLow = true) ∧
    (∃ (k : Nat) (s : State), s.power.vaux = true ∧ k ≠ 165) ∧
    (∃ (s : State), s.power.vaux = true ∧ s.power.vmain = true ∧ s.power.flush ≠ 2) ∧
    (∃ (s : State), s.power.vaux = true ∧ s.power.watchOn = true) ∧
    (∃ (s : State), s.power.vaux = true ∧ s.forgeRuns = true) ∧
    (∃ (s : State), s.power.vaux = true ∧ s.forgeRuns = false ∧ s.power.forgeOn = true) :=
  ⟨
    ⟨{ }, by decide⟩,
    ⟨{ power := { perstLow := true } }, by decide⟩,
    ⟨0xA4, { }, by decide⟩,
    ⟨{ power := { vmain := true } }, by decide⟩,
    ⟨{ power := { watchOn := true } }, by decide⟩,
    ⟨{ sched := { state := .armed } }, by decide⟩,
    ⟨{ power := { forgeOn := true } }, by decide⟩⟩

theorem witness_anvil_failures :
    (∃ (v : Anvil) (s : State), s.keeper.alive = true ∧ 2 ≤ (s.anvil v).missed ∧
      (s.anvil v).state = AState.active ∧ s.keeper.takeover = none ∧ s.keeper.state.source = some v ∧
      (s.anvil (otherAnvil v)).state = AState.standby ∧ (s.anvil (otherAnvil v)).missed < 2) ∧
    (∃ (v : Anvil) (s : State), s.keeper.alive = true ∧ 2 ≤ (s.anvil v).missed ∧
      (s.anvil v).state = AState.active ∧ s.keeper.takeover = none ∧ s.keeper.state.source = some v ∧
      (s.anvil (otherAnvil v)).state ≠ AState.standby ∧ s.sched.stopNow = none) ∧
    (∃ (v : Anvil) (s : State), s.keeper.alive = true ∧ 2 ≤ (s.anvil v).missed ∧
      (s.anvil v).state = AState.standby ∧ s.keeper.takeover = none ∧
      s.keeper.state = duplexOf (otherAnvil v)) ∧
    (∃ (s : State), s.keeper.verdict = none) ∧
    (∃ (v : Anvil) (d : SignReport) (s : State), s.keeper.alive = true ∧ s.keeper.verdict = some d ∧
      s.keeper.takeover = none ∧ s.keeper.state = duplexOf v ∧
      (d.diverged = none ∨ ∃ n, d.diverged = some (otherAnvil v, n))) ∧
    (∃ (v : Anvil) (n : Nat) (d : SignReport) (s : State), s.keeper.alive = true ∧ s.keeper.verdict = some d ∧
      s.keeper.takeover = none ∧ s.keeper.state = duplexOf v ∧ d.diverged = some (v, n) ∧
      (s.anvil (otherAnvil v)).state = AState.standby ∧ (s.anvil (otherAnvil v)).missed < 2) ∧
    (∃ (d : SignReport), d.aImpl ≠ 0 ∧ d.bImpl = 0) ∧
    (∃ (d : SignReport), d.bImpl ≠ 0 ∧ d.aImpl = 0) ∧
    (∃ (d : SignReport), (d.aImpl = 0 ↔ d.bImpl = 0) ∧ d.aSelf = true ∧ d.bSelf = false) ∧
    (∃ (d : SignReport), (d.aImpl = 0 ↔ d.bImpl = 0) ∧ d.bSelf = true ∧ d.aSelf = false) ∧
    (∃ (d : SignReport), (d.aImpl = 0 ↔ d.bImpl = 0) ∧ d.aSelf = d.bSelf) ∧
    (∃ (v : Anvil) (cause : Nat) (lost : Nat) (s : State), s.keeper.takeover = some (v, cause, lost) ∧
      (if s.anyTransit = true then s.atTransit else s.atHold) = true ∧
      (s.anvil (otherAnvil v)).fails.headD 0 < s.time.elapsed) :=
  ⟨
    ⟨.a, { keeper := { alive := true, state := .duplexA, a := { state := .active, missed := 2 }, b := { state := .standby, missed := 1 } } }, by decide⟩,
    ⟨.a, { keeper := { alive := true, state := .simplexA, a := { state := .active, missed := 2 } } }, by decide⟩,
    ⟨.b, { keeper := { alive := true, state := .duplexA, a := { state := .active }, b := { state := .standby, missed := 2 } } }, by decide⟩,
    ⟨{ }, by decide⟩,
    ⟨.a, ⟨1, 1, false, false⟩, { keeper := { alive := true, state := .duplexA, verdict := some ⟨1, 1, false, false⟩ } }, ⟨rfl, rfl, rfl, rfl, .inl rfl⟩⟩,
    ⟨.a, 1, ⟨1, 0, false, false⟩, { keeper := { alive := true, state := .duplexA, verdict := some ⟨1, 0, false, false⟩, b := { state := .standby } } }, by decide⟩,
    ⟨⟨1, 0, false, false⟩, by decide⟩,
    ⟨⟨0, 1, false, false⟩, by decide⟩,
    ⟨⟨0, 0, true, false⟩, by decide⟩,
    ⟨⟨0, 0, false, true⟩, by decide⟩,
    ⟨⟨0, 0, false, false⟩, by decide⟩,
    ⟨.b, 0, 0, { keeper := { takeover := some (.b, 0, 0) }, time := { elapsed := 1, holdStart := 1 } }, by decide⟩⟩

theorem witness_anvil_returns :
    (∃ (v : Anvil) (s : State), (s.anvil v).state = AState.selftest ∧ (s.anvil v).step ≠ 3 ∧
      s.keeper.state = KState.init) ∧
    (∃ (v : Anvil) (s : State), (s.anvil v).state = AState.selftest ∧ (s.anvil v).step ≠ 3 ∧
      s.keeper.state ≠ KState.init ∧ s.failStatic = false) ∧
    (∃ (v : Anvil) (s : State), (s.anvil v).state = AState.selftest ∧ (s.anvil v).step ≠ 3 ∧
      (s.keeper.state ≠ KState.init ∨ (s.anvil v).retried = true)) ∧
    (∃ (v : Anvil) (s : State), s.resyncing 1 = some v) ∧
    (∃ (v : Anvil) (s : State), s.resyncing 2 = some v) ∧
    (∃ (v : Anvil) (s : State), s.keeper.alive = true ∧ (s.anvil v).state = AState.resync ∧
      (s.anvil v).step = 3 ∧ 16 ≤ s.keeper.matched ∧ s.atHold = true) ∧
    (∃ (v : Anvil) (s : State), s.keeper.alive = true ∧ s.failStatic = true ∧ (s.anvil v).rebuilding = true ∧
      s.atHold = true ∧ s.clear.asserted = true) ∧
    (∃ (s : State), s.keeper.alive = true ∧ s.power.watchOn = true ∧ s.keeper.state = KState.init ∧
      s.atHold = true ∧ s.keeper.a.state = AState.selftest ∧ s.keeper.b.state = AState.selftest ∧
      s.keeper.a.step = 3 ∧ s.keeper.b.step = 3) ∧
    (∃ (s : State), s.keeper.alive = true ∧ s.power.watchOn = true ∧ s.keeper.state = KState.init ∧
      s.atHold = true ∧ s.keeper.a.state = AState.out ∧ s.keeper.b.state = AState.out) :=
  ⟨
    ⟨.a, { keeper := { a := { state := .selftest } } }, by decide⟩,
    ⟨.b, { keeper := { state := .simplexA, b := { state := .selftest, step := 2 } } }, by decide⟩,
    ⟨.b, { keeper := { state := .simplexA, b := { state := .selftest } } }, by decide⟩,
    ⟨.b, { keeper := { b := { state := .resync, step := 1 } } }, by decide⟩,
    ⟨.b, { keeper := { b := { state := .resync, step := 2 } } }, by decide⟩,
    ⟨.b, { keeper := { alive := true, state := .simplexA, matched := 16, b := { state := .resync, step := 3 } } }, by decide⟩,
    ⟨.a, { keeper := { alive := true, state := .failStatic, a := { rebuilding := true } }, clear := { asserted := true } }, by decide⟩,
    ⟨{ keeper := { alive := true, a := { state := .selftest, step := 3 }, b := { state := .selftest, step := 3 } }, power := { watchOn := true } }, by decide⟩,
    ⟨{ keeper := { alive := true, a := { state := .out }, b := { state := .out } }, power := { watchOn := true } }, by decide⟩⟩

theorem witness_keeper_requests_and_loss :
    (∃ (due : Nat) (at_ : Nat) (s : State), s.keeper.revertAt = some (due, at_) ∧ at_ ≤ s.time.elapsed ∧
      s.mayMove = true ∧ s.keeper.state = KState.duplexB) ∧
    (∃ (ses : Nat) (s : State), Passes ses 13312 9 (valBytes 1 1) s ∧
      (s.keeper.alive = false ∨ s.duplex = false ∨ s.keeper.takeover ≠ none)) ∧
    (∃ (ses : Nat) (s : State), Passes ses 13312 9 (valBytes 1 1) s ∧ s.keeper.alive = true ∧ s.duplex = true ∧
      s.keeper.takeover = none) ∧
    (∃ (ses : Nat) (n : Nat) (s : State), n ≤ 1 ∧ Passes ses 13312 10 (valBytes 1 n) s ∧
      (s.keeper.alive = false ∨ s.drives (anvilOf n) = true)) ∧
    (∃ (ses : Nat) (n : Nat) (s : State), n ≤ 1 ∧ Passes ses 13312 10 (valBytes 1 n) s ∧ s.keeper.alive = true ∧
      s.drives (anvilOf n) = false ∧ (s.anvil (anvilOf n)).state ≠ AState.off) ∧
    (∃ (ses : Nat) (n : Nat) (s : State), n ≤ 1 ∧ Passes ses 13312 11 (valBytes 1 n) s ∧ s.keeper.alive = true ∧
      s.drives (anvilOf n) = false) ∧
    (∃ (ses : Nat) (n : Nat) (s : State), n ≤ 1 ∧ Passes ses 13312 11 (valBytes 1 n) s ∧ s.keeper.alive = true ∧
      s.drives (anvilOf n) = true ∧ (s.anvil (otherAnvil (anvilOf n))).state = AState.standby ∧
      s.keeper.takeover = none) ∧
    (∃ (s : State), s.keeper.alive = false ∧ s.keeper.noSource = false ∧ s.latchedMissing = true) ∧
    (∃ (s : State), s.keeper.alive = false ∧ s.keeper.losses ≠ [] ∧ s.keeper.losses.length < 3 ∧
      s.arbiterChecked = true) ∧
    (∃ (s : State), s.arbiterChecked = false) ∧
    (∃ (s : State), s.keeper.alive = false ∧ 3 ≤ s.keeper.losses.length) :=
  ⟨
    ⟨0, 0, { keeper := { alive := true, state := .duplexB, matched := 16, revertAt := some (0, 0) } }, by decide⟩,
    ⟨30, { }, by unfold Passes; decide⟩,
    ⟨30, { keeper := { alive := true, state := .duplexA } }, by unfold Passes; decide⟩,
    ⟨30, 1, { keeper := { alive := true, state := .duplexB, b := { state := .active } } }, by unfold Passes; decide⟩,
    ⟨30, 0, { keeper := { alive := true, state := .duplexB, a := { state := .standby } } }, by unfold Passes; decide⟩,
    ⟨30, 1, { keeper := { alive := true, state := .simplexA } }, by unfold Passes; decide⟩,
    ⟨30, 0, { keeper := { alive := true, state := .duplexA, a := { state := .active }, b := { state := .standby } } }, by unfold Passes; decide⟩,
    ⟨{ keeper := { latched := 0, a := { silent := 2 } } }, by decide⟩,
    ⟨{ keeper := { losses := [0, 0], checked := 16 } }, by decide⟩,
    ⟨{ keeper := { losses := [1] } }, by decide⟩,
    ⟨{ keeper := { losses := [0, 0, 0] } }, by decide⟩⟩

theorem witness_calibration_runs :
    (∃ (ses : Nat) (v : List Byte) (s : State), Passes ses 12800 1 v s ∧ runBad v = true) ∧
    (∃ (ses : Nat) (v : List Byte) (s : State), Passes ses 12800 1 v s ∧ runBad v = false ∧ s.cal.run ≠ none) ∧
    (∃ (ses : Nat) (v : List Byte) (ns : Nat) (s : State) (reason : Nat), Passes ses 12800 1 v s ∧
      runBad v = false ∧ s.cal.run = none ∧
      s.calCheck { type_ := (parseRun v).type_, flags := (parseRun v).flags, first := (parseRun v).first, count := (parseRun v).count, source := (parseRun v).source, refPower := (parseRun v).refPower, started := s.now, results := (parseRun v).results, temp := (parseRun v).temp, slot := (parseRun v).slot, clear := (parseRun v).clear, stored := (parseRun v).stored, sourcePower := if (parseRun v).type_ = 6 then s.sourceLight (parseRun v).source else (s.det (parseRun v).first).power, failovers := s.keeper.failovers, planNs := ns } true = some reason) ∧
    (∃ (ses : Nat) (v : List Byte) (ns : Nat) (s : State), Passes ses 12800 1 v s ∧ runBad v = false ∧
      s.cal.run = none ∧ ((parseRun v).type_ ≠ 6 ∨ s.awake = false) ∧
      s.calCheck { type_ := (parseRun v).type_, flags := (parseRun v).flags, first := (parseRun v).first, count := (parseRun v).count, source := (parseRun v).source, refPower := (parseRun v).refPower, started := s.now, results := (parseRun v).results, temp := (parseRun v).temp, slot := (parseRun v).slot, clear := (parseRun v).clear, stored := (parseRun v).stored, sourcePower := if (parseRun v).type_ = 6 then s.sourceLight (parseRun v).source else (s.det (parseRun v).first).power, failovers := s.keeper.failovers, planNs := ns } true = none) ∧
    (∃ (ses : Nat) (r : CalRunSt) (s : State), Passes ses 12800 2 (valBytes 1 1) s ∧ s.cal.run = some r ∧
      r.clear = false ∧ calMoves r.type_ = false ∧ s.cal.queued = [] ∧ s.cal.freeing = []) ∧
    (∃ (res : CalOutcome) (r : CalRunSt) (s : State), s.cal.run = some r ∧ s.cal.state = 2 ∧ r.clear = false ∧
      s.awake = true ∧ s.calCheck r false = none ∧ s.firstBad r.type_ (s.resultsOf r res) = none ∧
      (r.type_ = 5 → s.poolShort (s.resultsOf r res) = none)) ∧
    (∃ (res : CalOutcome) (r : CalRunSt) (reason : Nat) (unit : Nat) (s : State), s.cal.run = some r ∧
      s.cal.state = 2 ∧ r.clear = false ∧ calMoves r.type_ = false ∧ s.cal.queued = [] ∧ s.cal.freeing = [] ∧
      s.awake = true ∧ s.calCheck r false = none ∧
      s.firstBad r.type_ (s.resultsOf r res) = some (reason, unit)) ∧
    (∃ (r : CalRunSt) (reason : Nat) (s : State), s.cal.run = some r ∧ s.cal.state = 2 ∧ r.clear = false ∧
      calMoves r.type_ = false ∧ s.cal.queued = [] ∧ s.cal.freeing = [] ∧ s.awake = true ∧
      s.calCheck r false = some reason) ∧
    (∃ (r : CalRunSt) (s : State), s.cal.run = some r ∧ s.cal.state = 4 ∧ calMoves r.type_ = false ∧
      s.cal.queued = [] ∧ s.cal.freeing = [] ∧ (r.clear = true ∨ s.calCheck r false = none)) ∧
    (∃ (r : CalRunSt) (s : State), s.cal.run = some r ∧ s.cal.state = 5 ∧ (s.atHold = true ∨ s.holdDue = true) ∧
      r.clear = false ∧ calMoves r.type_ = false ∧ r.type_ ≠ 1 ∧ s.cal.queued = [] ∧ s.cal.freeing = [] ∧
      s.calCheck r false = none) ∧
    (∃ (ses : Nat) (ty : Nat) (s : State) (r : CalRunSt), Passes ses 12800 7 (valBytes 1 ty) s ∧
      s.cal.run = some r ∧ r.type_ = ty) ∧
    (∃ (ses : Nat) (ty : Nat) (s : State) (r : CalRunSt), Passes ses 12800 7 (valBytes 1 ty) s ∧
      s.cal.run = some r ∧ r.type_ ≠ ty) ∧
    (∃ (ses : Nat) (ty : Nat) (s : State), Passes ses 12800 7 (valBytes 1 ty) s ∧ s.cal.run = none) :=
  ⟨
    ⟨30, leBytes 32 0, { }, by unfold Passes; decide⟩,
    ⟨30, runBytes 3, { cal := { run := some calRun } }, by unfold Passes; decide⟩,
    ⟨30, runBytes 3, 0, { thermal := { stage := 2 } }, 4, by unfold Passes; decide⟩,
    ⟨30, runBytes 3, 0, { }, by unfold Passes; decide⟩,
    ⟨30, calRun, { cal := { run := some calRun } }, by unfold Passes; decide⟩,
    ⟨{ units := [{ unit := 0, dev := [250, 250, 250, 250, 250, 250, 250, 250], body := [] }] }, calRun, { cal := { run := some calRun, state := 2 }, forge := { state := .awake } }, by decide⟩,
    ⟨{ units := [] }, calRun, 14, 0, { cal := { run := some calRun, state := 2 }, forge := { state := .awake } }, by decide⟩,
    ⟨calRun, 4, { cal := { run := some calRun, state := 2 }, forge := { state := .awake }, thermal := { stage := 2 } }, by decide⟩,
    ⟨calRun, { cal := { run := some calRun, state := 4 }, forge := { state := .awake } }, by decide⟩,
    ⟨calRun, { cal := { run := some calRun, state := 5 }, time := due, forge := { state := .awake } }, by decide⟩,
    ⟨30, 3, { cal := { run := some calRun } }, calRun, by unfold Passes; decide⟩,
    ⟨30, 2, { cal := { run := some calRun } }, calRun, by unfold Passes; decide⟩,
    ⟨30, 2, { }, by unfold Passes; decide⟩⟩

theorem witness_housekeeping_converters :
    (∃ (n : Nat) (s : State) (at_ : Nat), n < 2 ∧
      s.live = [{ block := Block.hkc, isReg := true, key := hkcReg n 0, value := 1, at_ := at_ }] ∧
      at_ < s.time.transitStart ∧ (s.hkc n).armed = false) ∧
    (∃ (n : Nat) (s : State) (at_ : Nat), n < 2 ∧
      s.live = [{ block := Block.hkc, isReg := true, key := hkcReg n 0, value := 0, at_ := at_ }] ∧
      at_ < s.time.transitStart ∧ (s.hkc n).armed = true) ∧
    (∃ (n : Nat) (s : State), s.power.vaux = true ∧ s.hkcSrc n 0 = true) ∧
    (∃ (n : Nat) (s : State), s.power.vaux = true ∧ s.hkcSrc n 1 = true ∧ s.dueBy (s.hkc n).timerAt = true) ∧
    (∃ (n : Nat) (f : Nat) (at_ : Nat) (up : Bool) (s : State), s.power.vaux = true ∧
      s.hkcSrc n (if up = true then 2 else 3) = true ∧ field (s.reg (hkcReg n 8)) 4 2 = f ∧
      s.fanEdge f up = some at_ ∧ (s.hkc n).edgeAt ≠ some at_) ∧
    (∃ (f : Nat) (up : Bool) (s : State), s.fanEdge f up = none) ∧
    (∃ (n : Nat) (at_ : Nat) (rest : List Nat) (s : State), n < 2 ∧ s.power.vaux = true ∧
      (s.hkc n).trigs = at_ :: rest ∧ (s.hkc n).armed = true ∧ s.dueBy at_ = true ∧
      (s.hkc n).calActive = false ∧ (s.hkc n).calWaiting = false ∧ (s.hkc n).seqPos = none ∧
      (s.hkc n).current = none ∧ (s.hkc n).inject = none) ∧
    (∃ (n : Nat) (at_ : Nat) (rest : List Nat) (s : State), n < 2 ∧ s.power.vaux = true ∧
      (s.hkc n).trigs = at_ :: rest ∧ (s.hkc n).armed = true ∧ s.dueBy at_ = true ∧
      (s.hkc n).calActive = false ∧ (s.hkc n).calWaiting = false ∧ (s.hkc n).seqPos ≠ none) ∧
    (∃ (n : Nat) (at_ : Nat) (rest : List Nat) (s : State), n < 2 ∧ s.power.vaux = true ∧
      (s.hkc n).trigs = at_ :: rest ∧ (s.hkc n).armed = true ∧ s.dueBy at_ = true ∧ (s.hkc n).calActive = true ∧
      (s.hkc n).heldTrig = false) ∧
    (∃ (n : Nat) (c : Conv) (s : State), n < 2 ∧ s.power.vaux = true ∧ (s.hkc n).current = some c ∧
      s.dueBy c.done = false) ∧
    (∃ (n : Nat) (c : Conv) (s : State), n < 2 ∧ s.power.vaux = true ∧ (s.hkc n).current = some c ∧
      s.dueBy c.done = true) ∧
    (∃ (n : Nat) (v : Word) (s : State), n < 2 ∧ s.power.vaux = true ∧
      ((s.hkc n).inject ≠ none ∨ 24 ≤ field (BitVec.toNat v) 0 5)) ∧
    (∃ (n : Nat) (v : Word) (s : State), n < 2 ∧ s.power.vaux = true ∧ (s.hkc n).inject = none ∧
      field (BitVec.toNat v) 0 5 < 24) :=
  ⟨
    ⟨1, { live := [⟨.hkc, true, hkcReg 1 0, 1, 0, 0⟩], time := due }, 0, by decide⟩,
    ⟨1, { live := [⟨.hkc, true, hkcReg 1 0, 0, 0, 0⟩], time := due, hkc1 := { armed := true } }, 0, by decide⟩,
    ⟨1, { hkc1 := { armed := true } }, by decide⟩,
    ⟨1, { hkc1 := { armed := true }, regs := [(hkcReg 1 8, 1)] }, by decide⟩,
    ⟨1, 0, 0, true, { hkc1 := { armed := true }, regs := [(hkcReg 1 8, 2)], fans := [(0, { duty := 1 })] }, by decide⟩,
    ⟨0, true, { fans := [(0, { duty := 255 })] }, by decide⟩,
    ⟨1, 0, [], { hkc1 := { armed := true, trigs := [0] } }, by decide⟩,
    ⟨1, 0, [], { hkc1 := { armed := true, trigs := [0], seqPos := some 0 } }, by decide⟩,
    ⟨1, 0, [], { hkc1 := { armed := true, trigs := [0], calActive := true } }, by decide⟩,
    ⟨1, convOf_ 0 0 false 0, { hkc1 := { current := some (convOf_ 0 0 false 0) } }, by decide⟩,
    ⟨1, convOf_ 0 0 false 0, { hkc1 := { current := some (convOf_ 0 0 false 0) }, time := { elapsed := 65536000000, transitStart := 65536000000 } }, by decide⟩,
    ⟨1, 24, { }, by decide⟩,
    ⟨1, 23, { }, by decide⟩⟩

theorem witness_bank_owners_and_retention :
    (∃ (b : Nat) (v : Word) (s : State), b < 64 ∧ s.power.watchOn = true ∧
      s.bankWriteBad b (BitVec.toNat v) = false ∧ field (BitVec.toNat v) 16 4 ≠ s.bankOwner b ∧
      s.handingOver b = false) ∧
    (∃ (b : Nat) (v : Word) (s : State), b < 64 ∧ s.power.watchOn = true ∧
      s.bankWriteBad b (BitVec.toNat v) = true) ∧
    (∃ (b : Nat) (at_ : Nat) (s : State), b < 64 ∧ (s.bank b).pendingSince = some at_ ∧ s.atTransit = true ∧
      at_ < s.time.elapsed ∧ s.time.elapsed ≤ at_ + 10000 * 65536 ∧ (s.bank b).stalled = []) ∧
    (∃ (b : Nat) (at_ : Nat) (s : State), (s.bank b).pendingSince = some at_ ∧
      at_ + 10000 * 65536 ≤ s.time.elapsed ∧ s.bankOwner b < 16) ∧
    (∃ (b : Nat) (at_ : Nat) (s : State), (s.bank b).pendingSince = some at_ ∧
      s.time.elapsed < at_ + 10000 * 65536) ∧
    (∃ (b : Nat) (ret : Bool) (s : State), b < 64 ∧ s.power.watchOn = true ∧
      s.bankWriteBad b (setField (s.latest (bankCtrlOff b)) 1 1 (bit ret)) = false ∧
      (field (setField (s.latest (bankCtrlOff b)) 1 1 (bit ret)) 16 4 = s.bankOwner b ∨ s.handingOver b = true)) ∧
    (∃ (b : Nat) (v : Nat) (at_ : Nat) (s : State), b < 64 ∧
      s.live = [{ block := Block.banks, isReg := true, key := bankCtrlOff b, value := v, at_ := at_ }] ∧
      at_ < s.time.transitStart) ∧
    (∃ (b : Nat) (s : State), (s.bank b).power = 1 ∧ s.atTransit = true ∧ (s.bank b).stalled = []) ∧
    (∃ (b : Nat) (s : State), (s.bank b).power = 1 ∧ s.atTransit = true ∧ (s.bank b).stalled ≠ []) ∧
    (∃ (b : Nat) (s : State), b < 64 ∧ (s.bank b).power = 3 ∧ (s.bank b).stalled = []) :=
  ⟨
    ⟨50, 0, { power := { watchOn := true } }, by decide⟩,
    ⟨63, 0x20000, { power := { watchOn := true } }, by decide⟩,
    ⟨50, 118000 * 65536, { banks := [(50, { pendingSince := some (118000 * 65536) })], time := due }, by decide⟩,
    ⟨50, 0, { banks := [(50, { pendingSince := some 0 })], time := { elapsed := 655360000 } }, by decide⟩,
    ⟨50, 0, { banks := [(50, { pendingSince := some 0 })] }, by decide⟩,
    ⟨50, true, { power := { watchOn := true }, banks := [(50, { pendingSince := some 0 })] }, by decide⟩,
    ⟨50, 2, 0, { live := [⟨.banks, true, bankCtrlOff 50, 2, 0, 0⟩], time := due }, by decide⟩,
    ⟨50, { banks := [(50, { power := 1 })] }, by decide⟩,
    ⟨50, { banks := [(50, { power := 1, stalled := [.keeperLost] })] }, by decide⟩,
    ⟨50, { banks := [(50, { power := 3 })] }, by decide⟩⟩

theorem witness_bank_upkeep :
    (∃ (anvil : Anvil) (addr : Nat) (s : State), addr / bankBytes = 42 ∧ addr % 4 = 0 ∧
      s.activeAnvil = some anvil ∧ (s.bank 42).power = 0) ∧
    (∃ (anvil : Anvil) (addr : Nat) (s : State), addr / bankBytes = 42 ∧ addr % 4 = 0 ∧
      (s.activeAnvil ≠ some anvil ∨ (s.bank 42).power = 2)) ∧
    (∃ (b : Nat) (s : State), b < 64 ∧ s.power.watchOn = true) ∧
    (∃ (b : Nat) (at_ : Nat) (s : State), b < 64 ∧
      s.live = [{ block := Block.banks, isReg := true, key := 3801096 + 64 * b, value := 0, at_ := at_ }] ∧
      at_ < s.time.transitStart) ∧
    (∃ (m : Nat) (g : Nat) (s : State), m < 12 ∧ g < 8 ∧ s.power.forgeOn = true) ∧
    (∃ (m : Nat) (g : Nat) (at_ : Nat) (s : State), m < 12 ∧ g < 8 ∧
      s.live = [{ block := Block.matrix, isReg := true, key := 3866880 + 4 * (8 * m + g), value := 0, at_ := at_ }] ∧
      at_ < s.time.transitStart ∧ s.forge.lanesReady = true ∧ s.forge.lanesReadyAt < s.time.transitStart) ∧
    (∃ (b : Nat) (s : State), s.awake = true ∧ (s.reg 3866688).testBit 0 = true ∧ s.proof.active = false ∧
      s.proofDue = true ∧ s.nextProof s.proof.bank = some b) ∧
    (∃ (s : State), s.proof.active = true ∧ s.awake = true) :=
  ⟨
    ⟨.a, 42 * bankBytes + 8, { keeper := { state := .duplexA } }, by decide⟩,
    ⟨.b, 42 * bankBytes + 8, { keeper := { state := .duplexA } }, by decide⟩,
    ⟨63, { power := { watchOn := true } }, by decide⟩,
    ⟨63, 0, { live := [⟨.banks, true, 0x3A0008 + 64 * 63, 0, 0, 0⟩], time := due }, by decide⟩,
    ⟨11, 7, { power := { forgeOn := true } }, by decide⟩,
    ⟨11, 7, 0, { live := [⟨.matrix, true, 0x3B0100 + 4 * (8 * 11 + 7), 0, 0, 0⟩], time := due, forge := { lanesReady := true } }, by decide⟩,
    ⟨0, { forge := { state := .awake }, regs := [(0x3B0040, 1)] }, by decide⟩,
    ⟨{ proof := { active := true }, forge := { state := .awake } }, by decide⟩⟩

theorem witness_matrix_access :
    (∃ (m : Nat) (addr : Nat) (data : List Byte) (s : State), Machine.burstOk m (addr / 16 * 16) data.length = true ∧
      s.matrix.draining.contains m = false ∧ s.matrixOn = true ∧ targetOf m (addr / 16 * 16) < 8 ∧
      s.verdict m (addr / 16 * 16 / bankBytes) needWrite = Verdict.serve ∧
      (s.bank (addr / 16 * 16 / bankBytes)).borrowed = none) ∧
    (∃ (m : Nat) (addr : Nat) (data : List Byte) (s : State), Machine.burstOk m (addr / 16 * 16) data.length = true ∧
      s.matrix.draining.contains m = false ∧ s.matrixOn = true ∧ targetOf m (addr / 16 * 16) = 8) ∧
    (∃ (m : Nat) (addr : Nat) (beats : Nat) (s : State), Machine.burstOk m (addr / 16 * 16) (16 * beats) = true ∧
      s.matrix.draining.contains m = false ∧ s.matrixOn = true ∧ targetOf m (addr / 16 * 16) = 8) ∧
    (∃ (m : Nat) (addr : Nat) (beats : Nat) (w : Nat) (s : State), Machine.burstOk m (addr / 16 * 16) (16 * beats) = true ∧
      s.matrix.draining.contains m = false ∧ s.matrixOn = true ∧ targetOf m (addr / 16 * 16) < 8 ∧
      s.verdict m (addr / 16 * 16 / bankBytes) needRead = Verdict.serve ∧
      (s.bank (addr / 16 * 16 / bankBytes)).borrowed = none ∧ w < 4 * beats) ∧
    (∃ (m : Nat) (addr : Nat) (s : State), m < 12 ∧ addr % 4 = 0 ∧ targetOf m addr < 8 ∧
      s.matrix.draining.contains m = false ∧ s.matrixOn = true ∧
      s.verdict m (addr / bankBytes) needAtomic = Verdict.serve ∧ (s.bank (addr / bankBytes)).borrowed = none) ∧
    (∃ (m : Nat) (addr : Nat) (data : List Byte) (s : State), Machine.burstOk m (addr / 16 * 16) data.length = true ∧
      s.matrix.draining.contains m = false ∧ s.matrixOn = true ∧ targetOf m (addr / 16 * 16) < 8 ∧
      s.verdict m (addr / 16 * 16 / bankBytes) needWrite = Verdict.denied) ∧
    (∃ (m : Nat) (addr : Nat) (data : List Byte) (s : State), Machine.burstOk m (addr / 16 * 16) data.length = true ∧
      s.matrix.draining.contains m = false ∧ s.matrixOn = true ∧ targetOf m (addr / 16 * 16) < 8 ∧
      s.verdict m (addr / 16 * 16 / bankBytes) needWrite = Verdict.retained) ∧
    (∃ (m : Nat) (addr : Nat) (beats : Nat) (s : State), Machine.burstOk m (addr / 16 * 16) (16 * beats) = true ∧
      s.matrix.draining.contains m = false ∧ s.matrixOn = true ∧ targetOf m (addr / 16 * 16) = 11) :=
  ⟨
    ⟨0, 0, List.replicate 16 0, { power := { watchOn := true, forgeOn := true }, forge := { state := .awake }, banks := [(0, { owner := some 0 })] }, by decide⟩,
    ⟨0, 0x1000000000, List.replicate 16 0, { power := { watchOn := true, forgeOn := true }, forge := { state := .awake } }, by decide⟩,
    ⟨0, 0x1000000000, 1, { power := { watchOn := true, forgeOn := true }, forge := { state := .awake } }, by decide⟩,
    ⟨0, 0, 1, 0, { power := { watchOn := true, forgeOn := true }, forge := { state := .awake }, banks := [(0, { owner := some 0 })] }, by decide⟩,
    ⟨0, 0, { power := { watchOn := true, forgeOn := true }, forge := { state := .awake }, banks := [(0, { owner := some 0 })] }, by decide⟩,
    ⟨0, 63 * bankBytes, List.replicate 16 0, { power := { watchOn := true, forgeOn := true }, forge := { state := .awake } }, by decide⟩,
    ⟨0, 0, List.replicate 16 0, { power := { watchOn := true, forgeOn := true }, forge := { state := .awake }, banks := [(0, { power := 2, owner := some 0 })], regs := [(bankCtrlOff 0, 0)] }, by decide⟩,
    ⟨0, 0x2000000, 1, { power := { watchOn := true, forgeOn := true }, forge := { state := .awake } }, by decide⟩⟩

theorem witness_bar2_and_master_reset :
    (∃ (off : Nat) (s : State), s.power.vaux = true ∧ off < 2097152 ∧ s.awake = false) ∧
    (∃ (off : Nat) (len : Nat) (s : State), s.power.vaux = true ∧ off < 2097152 ∧ s.awake = true ∧
      s.matrix.draining.contains 3 = false ∧ 0 < len ∧ off % 4096 + len ≤ 4096 ∧
      s.verdict 3 (56 + off / bankBytes) needRead = Verdict.serve ∧
      (s.bank (56 + off / bankBytes)).borrowed = none) ∧
    (∃ (off : Nat) (data : List Byte) (s : State), s.power.vaux = true ∧ off < 2097152 ∧ s.awake = true ∧
      s.matrix.draining.contains 3 = false ∧ data ≠ [] ∧ off % 4096 + data.length ≤ 4096 ∧
      s.verdict 3 (56 + off / bankBytes) needWrite = Verdict.serve ∧
      (s.bank (56 + off / bankBytes)).borrowed = none) ∧
    (∃ (m : Nat) (x : Burst) (s : State), m < 12 ∧ s.matrixOn = true ∧ burstFits x = true ∧ x.write = true ∧
      0 < x.done ∧ x.done < x.total ∧ addrTarget x.addr < 8) ∧
    (∃ (m : Nat) (s : State), s.matrix.draining.contains m = true ∧ s.matrix.stalled = []) :=
  ⟨
    ⟨0, { }, by decide⟩,
    ⟨0, 4, { forge := { state := .awake } }, by decide⟩,
    ⟨0, [1], { forge := { state := .awake } }, by decide⟩,
    ⟨0, { addr := 0, write := true, total := 2, done := 1, data := List.replicate 16 0 }, { power := { watchOn := true, forgeOn := true }, forge := { state := .awake } }, by decide⟩,
    ⟨0, { matrix := { draining := [0] } }, by decide⟩⟩

theorem witness_period_boundaries :
    (∃ (s : State), s.time.running = true ∧ s.live = [] ∧ s.time.transitStart ≤ s.time.elapsed) ∧
    (∃ (s : State), s.holdDue = true) ∧
    (∃ (s : State), s.trimDue = true) :=
  ⟨
    ⟨{ time := due }, by decide⟩,
    ⟨{ time := due }, by decide⟩,
    ⟨{ time := atTrim }, by decide⟩⟩

theorem witness_live_settings :
    (∃ (b : Block) (s : State), (∀ w ∈ s.live, w.block = b → w.due s = false)) ∧
    (∃ (w : LiveWrite) (ix : Nat) (sub : Nat) (s : State), s.live = [w] ∧ w.due s = true ∧ w.isReg = false ∧
      w.key = 256 * ix + sub ∧ sub < 256 ∧ 16384 ≤ ix ∧ ix < 18432 ∧ sub ≠ 21 ∧ sub ≠ 22) ∧
    (∃ (w : LiveWrite) (r : RegRow) (s : State), s.live = [w] ∧ w.due s = true ∧ w.isReg = true ∧
      regRow w.key = some r ∧ (w.key < 4096 ∨ 5124 ≤ w.key ∧ w.key < 65536 ∨ 67584 ≤ w.key ∧
      w.key < 3538944 ∨ 3604992 ≤ w.key ∧ w.key < 3801088 ∨ 3866624 ≤ w.key ∧
      w.key < 3866880 ∨ 3867264 ≤ w.key) ∧ w.key ≠ 3145744 ∧ w.key ≠ 3145768 ∧ w.key ≠ 3145788) ∧
    (∃ (w : LiveWrite) (s : State), s.live = [w] ∧ w.due s = true ∧ w.isReg = false ∧ w.key = objKey 4864 1) ∧
    (∃ (w : LiveWrite) (s : State) (e : Nat), s.live = [w] ∧ w.due s = true ∧ w.isReg = false ∧ e < elemCount ∧
      w.key = objKey (32768 + e) 9) :=
  ⟨
    ⟨.matrix, { }, by decide⟩,
    ⟨{ block := .eventBlock, isReg := false, key := 0x400001, value := 0, at_ := 0 }, 0x4000, 1, { live := [{ block := .eventBlock, isReg := false, key := 0x400001, value := 0, at_ := 0 }], time := due }, by decide⟩,
    ⟨{ block := .timeBlock, isReg := true, key := 0x30004C, value := 5, at_ := 0 }, row 0x30004C, { live := [{ block := .timeBlock, isReg := true, key := 0x30004C, value := 5, at_ := 0 }], time := due }, by decide⟩,
    ⟨⟨.hostLinks, false, objKey 0x1300 1, 2000, 0, 0⟩, { live := [⟨.hostLinks, false, objKey 0x1300 1, 2000, 0, 0⟩], time := due }, by decide⟩,
    ⟨⟨.elementLoop, false, objKey 0x8000 9, 5, 0, 0⟩, { live := [⟨.elementLoop, false, objKey 0x8000 9, 5, 0, 0⟩], time := due }, 0, by decide⟩⟩

theorem witness_register_access :
    (∃ (off : Nat) (s : State), (off % 4 ≠ 0 ∨ s.power.vaux = false ∨ s.regPowered off = false ∨ regRow off = none)) ∧
    (∃ (off : Nat) (v : Word) (r : RegRow) (s : State), off % 4 = 0 ∧ s.power.vaux = true ∧
      s.regPowered off = true ∧ regRow off = some r ∧
      s.regBad off (BitVec.toNat v &&& (r.rw ||| r.shad ||| r.act)) = true) ∧
    (∃ (off : Nat) (v : Word) (r : RegRow) (s : State), off % 4 = 0 ∧ s.power.vaux = true ∧
      s.regPowered off = true ∧ regRow off = some r ∧
      s.regBad off (BitVec.toNat v &&& (r.rw ||| r.shad ||| r.act)) = false ∧ (3145748 ≤ off ∧
      off < 3145984 ∨ 3538952 ≤ off ∧ off < 3604480) ∧ r.shad = 0 ∧ r.quies = 0 ∧ r.live ≠ 0) ∧
    (∃ (off : Nat) (v : Word) (r : RegRow) (s : State), off % 4 = 0 ∧ s.power.vaux = true ∧
      s.regPowered off = true ∧ regRow off = some r ∧
      s.regBad off (BitVec.toNat v &&& (r.rw ||| r.shad ||| r.act)) = false ∧ (4096 ≤ off ∧
      off < 5120 ∨ 3604480 ≤ off ∧ off < 3604992) ∧ off % 256 ≠ 0 ∧ r.live = 0 ∧ r.quies ≠ 0 ∧
      s.regRuns off = false) ∧
    (∃ (off : Nat) (v : Word) (r : RegRow) (s : State), off % 4 = 0 ∧ s.power.vaux = true ∧
      s.regPowered off = true ∧ regRow off = some r ∧
      s.regBad off (BitVec.toNat v &&& (r.rw ||| r.shad ||| r.act)) = false ∧ (4096 ≤ off ∧
      off < 5120 ∨ 3604480 ≤ off ∧ off < 3604992) ∧ off % 256 ≠ 0 ∧ r.live = 0 ∧ r.quies ≠ 0 ∧
      s.regRuns off = true ∧
      BitVec.toNat v &&& (r.rw ||| r.shad ||| r.act) &&& r.quies ≠ s.reg off &&& r.quies) ∧
    (∃ (ses : Nat) (v : Word) (s : State), Passes ses 4864 2 (leBytes 4 (BitVec.toNat v)) s ∧
      offsetOk (s.session ses).regOffset = false) ∧
    (∃ (ses : Nat) (v : Word) (s : State), Passes ses 4864 2 (leBytes 4 (BitVec.toNat v)) s ∧
      offsetOk (s.session ses).regOffset = true) ∧
    (∃ (ses : Nat) (s : State), s.served ses = true ∧ offsetOk (s.session ses).regOffset = false) ∧
    (∃ (ses : Nat) (s : State), s.served ses = true ∧ offsetOk (s.session ses).regOffset = true ∧
      (4096 ≤ (s.session ses).regOffset ∧
      (s.session ses).regOffset < 65536 ∨ 131072 ≤ (s.session ses).regOffset ∧
      (s.session ses).regOffset < 3145728 ∨ 3146240 ≤ (s.session ses).regOffset ∧
      (s.session ses).regOffset < 3604480)) :=
  ⟨
    ⟨1, { }, by decide⟩,
    ⟨0x30004C, 0, row 0x30004C, { }, by decide⟩,
    ⟨0x30004C, 1, row 0x30004C, { }, by decide⟩,
    ⟨0x1010, 4, row 0x1010, { power := { forgeOn := true } }, by decide⟩,
    ⟨0x1010, 5, row 0x1010, { regs := [(0x1000, 1), (0x1010, 4)], power := { forgeOn := true } }, by decide⟩,
    ⟨30, 0, { sessions := [(30, { regOffset := 1 })] }, by unfold Passes; decide⟩,
    ⟨30, 0, { }, by unfold Passes; decide⟩,
    ⟨30, { sessions := [(30, { regOffset := 1 })] }, by decide⟩,
    ⟨30, { sessions := [(30, { regOffset := 4096 })] }, by decide⟩⟩

theorem witness_counter_starts_and_steps :
    (∃ (s : State), s.time.running = false ∧ s.power.vaux = true) ∧
    (∃ (at_ : Instant) (s : State), s.power.vaux = true ∧ s.now ≤ at_ ∧ at_ < s.nextBoundary) ∧
    (∃ (s : State), (s.time.req = none ∨ s.time.forced = true)) ∧
    (∃ (s : State), s.time.req ≠ none ∧ s.time.forced = false ∧ s.time.deferred = true ∧ s.reg 3145808 ≠ 0 ∧
      s.time.deferSince + s.reg 3145808 * 65536000000000 ≤ s.time.elapsed) ∧
    (∃ (r : TimeReq) (s : State), s.time.req = some r ∧ s.reqDue = true) ∧
    (∃ (s : State), s.reqDue = false) ∧
    (∃ (u : Instant) (s : State), s.time.req = some (TimeReq.load u)) ∧
    (∃ (s : State), s.time.running = true ∧ s.atTransit = true ∧ s.now % 65536000000000 = 0 ∧
      (s.time.calWritePending = true ∨ s.time.quality = Quality.locked ∧
      (s.time.calValid = false ∨ s.time.calLastWrite + 60 * 65536000000000 ≤ s.time.elapsed))) :=
  ⟨
    ⟨{ }, by decide⟩,
    ⟨0, { }, by decide⟩,
    ⟨{ }, by decide⟩,
    ⟨{ time := { req := some (.step 0), deferred := true, elapsed := 65536000000000 }, regs := [(0x300050, 1)] }, by decide⟩,
    ⟨.step 0, { time := { due with req := some (.step 0) } }, by decide⟩,
    ⟨{ }, by decide⟩,
    ⟨0, { time := { req := some (.load 0) } }, by decide⟩,
    ⟨{ time := { running := true, calWritePending := true } }, by decide⟩⟩

theorem witness_time_references :
    (∃ (s : State) (u : Nat), s.time.running = true ∧ s.time.ppsLast = some u ∧
      s.time.elapsed < u + 500000000 * 65536) ∧
    (∃ (s : State), s.time.running = true ∧
      (∀ (u : Nat), s.time.ppsLast = some u → u + 500000000 * 65536 ≤ s.time.elapsed) ∧ s.wantedRef ≠ 3) ∧
    (∃ (s : State), s.time.running = true ∧
      (∀ (u : Nat), s.time.ppsLast = some u → u + 500000000 * 65536 ≤ s.time.elapsed) ∧ s.wantedRef = 3) ∧
    (∃ (s : State), s.wantedRef = 3 ∧ s.time.refPresent = true ∧
      (∀ (u : Nat), s.time.ppsLast = some u → u + 1500000000 * 65536 ≤ s.time.elapsed)) ∧
    (∃ (s : State), s.time.clkActive = 1) ∧
    (∃ (s : State), field (s.reg 3145744) 3 2 ≠ 0 ∧ s.time.clkActive = 0) ∧
    (∃ (s : State), s.time.leap61 ≠ s.time.leap59 ∧ s.dayEnds = true) ∧
    (∃ (s : State), (s.time.leap61 = s.time.leap59 ∨ s.dayEnds = false)) :=
  ⟨
    ⟨{ time := { running := true, ppsLast := some 0 } }, 0, by decide⟩,
    ⟨{ time := { running := true } }, ⟨by decide, fun u h => (nomatch h), by decide⟩⟩,
    ⟨{ time := { running := true }, regs := [(0x300010, 5)] }, ⟨by decide, fun u h => (nomatch h), by decide⟩⟩,
    ⟨{ time := { refPresent := true }, regs := [(0x300010, 5)] }, ⟨by decide, by decide, fun u h => (nomatch h)⟩⟩,
    ⟨{ time := { clkActive := 1 } }, by decide⟩,
    ⟨{ regs := [(0x300010, 8)] }, by decide⟩,
    ⟨{ time := { leap61 := true, running := true, utcOffset := -1 } }, by decide⟩,
    ⟨{ }, by decide⟩⟩

theorem witness_ptp_messages :
    (∃ (p : Nat) (seq : Nat) (s : State) (q : Nat) (o : Int), s.ptpRuns p = true ∧ (s.ptpPort p).state = 9 ∧
      (s.ptpPort p).pendingSync = some (q, o) ∧ q ≠ seq) ∧
    (∃ (p : Nat) (seq : Nat) (s : State) (q : Nat) (o : Int), s.ptpRuns p = true ∧ (s.ptpPort p).state = 9 ∧
      (s.ptpPort p).pendingSync = some (q, o) ∧ q = seq) ∧
    (∃ (p : Nat) (s : State), s.ptpRuns p = true ∧ s.twoStep p = true ∧ (s.ptpPort p).txq.length < 32) ∧
    (∃ (p : Nat) (s : State), s.ptpRuns p = true ∧ s.twoStep p = true ∧ 32 ≤ (s.ptpPort p).txq.length) ∧
    (∃ (p : Nat) (s : State), s.ptpRuns p = true ∧ (s.ptpPort p).state = 9 ∧ s.twoStep p = false ∧
      (s.ptpPort p).delays.length < 8) ∧
    (∃ (p : Nat) (delay : Int) (s : State), s.ptpRuns p = true ∧ (s.ptpPort p).state = 9 ∧ s.twoStep p = false ∧
      8 ≤ (s.ptpPort p).delays.length ∧
      (delay - (stampLatency p 0 + stampLatency p 4) / 2 - (s.ptpPort p).meanDelay).natAbs ≤ 100 * 65536) ∧
    (∃ (p : Nat) (delay : Int) (s : State), s.ptpRuns p = true ∧ (s.ptpPort p).state = 9 ∧ s.twoStep p = false ∧
      8 ≤ (s.ptpPort p).delays.length ∧
      100 * 65536 < (delay - (stampLatency p 0 + stampLatency p 4) / 2 - (s.ptpPort p).meanDelay).natAbs ∧
      (s.ptpPort p).rejects + 1 < 8) ∧
    (∃ (p : Nat) (seq : Nat) (s : State), s.ptpRuns p = true ∧ s.twoStep p = true ∧
      claim (seq % 65536) [1, 2] (s.ptpPort p).txq = none) ∧
    (∃ (p : Nat) (seq : Nat) (s : State) (x : TxStamp) (l : List TxStamp), s.ptpRuns p = true ∧
      s.twoStep p = true ∧ claim (seq % 65536) [1, 2] (s.ptpPort p).txq = some (x, l) ∧
      (s.ptpPort p).state = 9 ∧ (s.ptpPort p).delays.length < 8) ∧
    (∃ (p : Nat) (s : State), p < 2 ∧ s.ptpEnabled p = true ∧ (s.ptpPort p).linkUp = true ∧ s.obj 12288 1 = 1 ∧
      s.twoStep p = false) ∧
    (∃ (p : Nat) (s : State), p < 2 ∧ s.ptpEnabled p = true ∧ (s.ptpPort p).linkUp = true ∧ s.obj 12288 1 = 1 ∧
      s.twoStep p = true ∧ (s.ptpPort p).txq.length < 32) ∧
    (∃ (p : Nat) (seq : Nat) (s : State), p < 2 ∧ s.ptpEnabled p = true ∧ (s.ptpPort p).linkUp = true ∧
      s.obj 12288 1 = 1 ∧ s.twoStep p = true ∧ 32 ≤ (s.ptpPort p).txq.length ∧
      claim (seq % 65536) [3] (s.ptpPort p).txq = none) :=
  ⟨
    ⟨0, 1, { objs := ptpObjs 0, ptp0 := { state := 9, pendingSync := some (0, 0) } }, 0, 0, by decide⟩,
    ⟨0, 0, { objs := ptpObjs 0, ptp0 := { state := 9, pendingSync := some (0, 0) } }, 0, 0, by decide⟩,
    ⟨0, { objs := ptpObjs 1, ptp0 := { state := 9 } }, by decide⟩,
    ⟨0, { objs := ptpObjs 1, ptp0 := { state := 9, txq := List.replicate 32 ⟨0, 0, 0, 0, 0⟩ } }, by decide⟩,
    ⟨0, { objs := ptpObjs 0, ptp0 := { state := 9 } }, by decide⟩,
    ⟨0, (stampLatency 0 0 + stampLatency 0 4) / 2, { objs := ptpObjs 0, ptp0 := { state := 9, delays := List.replicate 8 0 } }, ⟨by decide, by decide, by decide, by decide, by rw [Int.sub_self]; decide⟩⟩,
    ⟨0, 6553601 + (stampLatency 0 0 + stampLatency 0 4) / 2, { objs := ptpObjs 0, ptp0 := { state := 9, delays := List.replicate 8 0 } }, ⟨by decide, by decide, by decide, by decide, by rw [Int.add_sub_cancel]; decide, by decide⟩⟩,
    ⟨0, 0, { objs := ptpObjs 1, ptp0 := { state := 9 } }, by decide⟩,
    ⟨0, 1, { objs := ptpObjs 1, ptp0 := { linkUp := true, state := 9, txq := [⟨0, 1, 1, 0, 0⟩] } }, ⟨0, 1, 1, 0, 0⟩, [], by decide⟩,
    ⟨0, { objs := ptpObjs 0, ptp0 := { linkUp := true } }, by decide⟩,
    ⟨0, { objs := ptpObjs 1, ptp0 := { linkUp := true } }, by decide⟩,
    ⟨0, 0, { objs := ptpObjs 1, ptp0 := { linkUp := true, txq := List.replicate 32 ⟨0, 0, 1, 0, 0⟩ } }, by decide⟩⟩

theorem witness_ptp_ports_and_selection :
    (∃ (p : Nat) (utc : UtcInfo) (s : State), p < 2 ∧ s.time.running = true ∧ s.ptpEnabled p = true ∧
      (s.ptpPort p).linkUp = true ∧ (utc.interval < -3 ∨ 4 < utc.interval)) ∧
    (∃ (p : Nat) (utc : UtcInfo) (s : State), p < 2 ∧ s.time.running = true ∧ s.ptpEnabled p = true ∧
      (s.ptpPort p).linkUp = true ∧ -3 ≤ utc.interval ∧ utc.interval ≤ 4 ∧
      ((s.ptpPort p).state = 4 ∨ (s.ptpPort p).state = 8 ∨ (s.ptpPort p).state = 9)) ∧
    (∃ (p : Nat) (s : State), p < 2 ∧ ((s.ptpPort p).state = 8 ∨ (s.ptpPort p).state = 9) ∧
      s.masterSilent p = true) ∧
    (∃ (p : Nat) (s : State), p < 2 ∧ ((s.ptpPort p).state = 8 ∨ (s.ptpPort p).state = 9) ∧
      s.masterSilent p = false) ∧
    (∃ (p : Nat) (at_ : Nat) (s : State), s.ptpSel.better = some (p, at_) ∧ s.bestPort = some p ∧
      at_ + s.obj 12288 4 * 65536000000000 ≤ s.time.elapsed) ∧
    (∃ (p : Nat) (up : Bool) (s : State), p < 2 ∧ s.power.vaux = true ∧ (s.ptpPort p).linkUp = !up) :=
  ⟨
    ⟨0, ⟨0, 5, 0, false, false, false⟩, { objs := ptpObjs 1, ptp0 := { linkUp := true, state := 4 }, time := due }, by decide⟩,
    ⟨0, ⟨0, 0, 0, false, false, false⟩, { objs := ptpObjs 1, ptp0 := { linkUp := true, state := 4 }, time := due }, by decide⟩,
    ⟨0, { ptp0 := { linkUp := true, state := 8 } }, by decide⟩,
    ⟨0, { ptp0 := { linkUp := true, state := 8, utc := some ⟨0, 0, 0, false, false, false⟩, foreign := [⟨⟨0, 0, 0, 0, 0, 0, 0⟩, ⟨0, 0, 0, false, false, false⟩, 0⟩] } }, by decide⟩,
    ⟨0, 0, { objs := (0x300004, 0) :: ptpObjs 1, ptp0 := { linkUp := true, state := 9 }, ptpSel := { better := some (0, 0) } }, by decide⟩,
    ⟨0, true, { }, by decide⟩⟩

theorem witness_captures :
    (∃ (i : Nat) (rising : Bool) (s : State), i < 8 ∧ s.power.vaux = true ∧ s.time.running = true ∧
      s.captures i rising = false) ∧
    (∃ (i : Nat) (rising : Bool) (stamp : Instant) (s : State) (l : Instant), i < 8 ∧ s.power.vaux = true ∧
      s.time.running = true ∧ s.captures i rising = true ∧ (s.capture_ i).last = some l ∧
      l ≤ stamp / 16384 * 16384 ∧ stamp / 16384 * 16384 < l + 8 * 65536) ∧
    (∃ (i : Nat) (rising : Bool) (stamp : Instant) (s : State), i < 8 ∧ s.power.vaux = true ∧
      s.time.running = true ∧ s.captures i rising = true ∧
      (∀ (l : Instant), (s.capture_ i).last = some l → stamp / 16384 * 16384 < l ∨ l + 8 * 65536 ≤ stamp / 16384 * 16384) ∧
      (s.capture_ i).fifo.length < 16) ∧
    (∃ (i : Nat) (rising : Bool) (stamp : Instant) (s : State), i < 8 ∧ s.power.vaux = true ∧
      s.time.running = true ∧ s.captures i rising = true ∧
      (∀ (l : Instant), (s.capture_ i).last = some l → stamp / 16384 * 16384 < l ∨ l + 8 * 65536 ≤ stamp / 16384 * 16384) ∧
      16 ≤ (s.capture_ i).fifo.length) ∧
    (∃ (i : Nat) (s : State), i < 8 ∧ s.power.vaux = true ∧ (s.capture_ i).fifo = []) ∧
    (∃ (i : Nat) (s : State) (e : Instant × Bool) (rest : List (Instant × Bool)), i < 8 ∧ s.power.vaux = true ∧
      (s.capture_ i).fifo = e :: rest) :=
  ⟨
    ⟨0, true, { time := due }, by decide⟩,
    ⟨0, true, 0, { time := due, regs := [(0x300100, 3)], caps := [(0, { last := some 0 })] }, 0, by decide⟩,
    ⟨0, true, 0, { time := due, regs := [(0x300100, 3)] }, ⟨by decide, by decide, by decide, by decide, fun l h => (nomatch h), by decide⟩⟩,
    ⟨0, true, 0, { time := due, regs := [(0x300100, 3)], caps := [(0, { fifo := List.replicate 16 (0, true) })] }, ⟨by decide, by decide, by decide, by decide, fun l h => (nomatch h), by decide⟩⟩,
    ⟨0, { }, by decide⟩,
    ⟨0, { caps := [(0, { fifo := [(0, true)] })] }, (0, true), [], by decide⟩⟩

theorem witness_beacons :
    (∃ (j : Nat) (s : State), j < 8 ∧ s.power.vaux = true ∧ (s.beaconShadow j).ok = false) ∧
    (∃ (j : Nat) (s : State), j < 8 ∧ s.power.vaux = true ∧ (s.beaconShadow j).ok = true ∧
      (s.beaconShadow j).mode = 1 ∧ (s.beaconShadow j).start < s.now + 2000 * 65536) ∧
    (∃ (j : Nat) (s : State), j < 8 ∧ s.power.vaux = true ∧ (s.beaconShadow j).ok = true ∧
      ((s.beaconShadow j).mode ≠ 1 ∨ s.now + 2000 * 65536 ≤ (s.beaconShadow j).start)) ∧
    (∃ (j : Nat) (c : BeaconCfg) (at_ : Instant) (s : State), j < 8 ∧ s.atTransit = true ∧
      (s.beacon j).snapshot = some (c, at_) ∧ (s.beacon j).snapAt < s.time.elapsed ∧ (s.beacon j).fall = none) ∧
    (∃ (j : Nat) (at_ : Instant) (s : State), j < 8 ∧ s.time.running = true ∧ at_ < s.nextBoundary ∧
      (s.beacon j).fall = none ∧ (s.beacon j).next = some at_) ∧
    (∃ (j : Nat) (at_ : Instant) (s : State), j < 8 ∧ s.time.running = true ∧ at_ < s.nextBoundary ∧
      (s.beacon j).fall = some at_) :=
  ⟨
    ⟨0, { shadowRegs := [(0x300200, 3)] }, by decide⟩,
    ⟨0, { shadowRegs := [(0x300200, 1), (0x300214, 100), (0x30021C, 10)] }, by decide⟩,
    ⟨0, { }, by decide⟩,
    ⟨0, {}, 0, { beacons := [(0, { snapshot := some ({}, 0) })], time := due }, by decide⟩,
    ⟨0, 0, { beacons := [(0, { next := some 0 })], time := { running := true } }, by decide⟩,
    ⟨0, 0, { beacons := [(0, { fall := some 0 })], time := { running := true } }, by decide⟩⟩

theorem witness_egress_gates :
    (∃ (ses : Nat) (p : Nat) (v : Nat) (s : State), Passes ses (13632 + p) 4 (valBytes 1 v) s ∧ v = 0) ∧
    (∃ (ses : Nat) (p : Nat) (v : Nat) (s : State), Passes ses (13632 + p) 4 (valBytes 1 v) s ∧ v ≠ 0 ∧
      gateReject (s.gateShadow p).2 ≠ 0) ∧
    (∃ (ses : Nat) (p : Nat) (v : Nat) (s : State), Passes ses (13632 + p) 4 (valBytes 1 v) s ∧ v ≠ 0 ∧
      gateReject (s.gateShadow p).2 = 0) ∧
    (∃ (ses : Nat) (p : Nat) (v : Nat) (s : State), Passes ses (13632 + p) 1 (valBytes 1 v) s) ∧
    (∃ (p : Nat) (v : Nat) (at_ : Instant) (s : State), p < 2 ∧ v ≤ 1 ∧
      s.live = [{ block := Block.dispatch, isReg := false, key := objKey (13632 + p) 1, value := v, at_ := at_ }] ∧
      at_ < s.time.transitStart ∧ s.forge.lanesReady = true ∧ s.forge.lanesReadyAt < s.time.transitStart) ∧
    (∃ (p : Nat) (l : GateList) (s : State), p < 2 ∧ (s.gate p).committed = some l ∧ (s.gate p).changeAt ≠ 0 ∧
      (s.gate p).changeAt ≤ s.now) ∧
    (∃ (p : Nat) (l : GateList) (s : State), p < 2 ∧ (s.gate p).committed = some l ∧
      s.now < (s.gate p).changeAt) ∧
    (∃ (p : Nat) (l : GateList) (s : State), p < 2 ∧ (s.gate p).active = some l ∧ (s.gate p).entryEnd ≤ s.now ∧
      (s.gate p).held = false) ∧
    (∃ (p : Nat) (l : GateList) (s : State), p < 2 ∧ (s.gate p).active = some l ∧ (s.gate p).entryEnd ≤ s.now ∧
      (s.gate p).held = true) ∧
    (∃ (p : Nat) (cls : Nat) (s : State), p < 2 ∧ cls < 4 ∧ s.power.vaux = true ∧ s.obj 5120 (16 + p) ≠ 1 ∧
      (s.gate p).active = none ∧ cls ≠ 1) ∧
    (∃ (p : Nat) (cls : Nat) (len : Nat) (s : State) (l : GateList) (w : Nat), p < 2 ∧ cls < 4 ∧
      s.power.vaux = true ∧ s.obj 5120 (16 + p) ≠ 1 ∧ (s.gate p).active = some l ∧ (s.gate p).enable = true ∧
      l.longest cls = some w ∧ w * 65536 < s.frameTime p len) ∧
    (∃ (p : Nat) (cls : Nat) (len : Nat) (s : State) (l : GateList) (w : Nat), p < 2 ∧ cls < 4 ∧
      s.power.vaux = true ∧ s.obj 5120 (16 + p) ≠ 1 ∧ (s.gate p).active = some l ∧ (s.gate p).enable = true ∧
      l.longest cls = some w ∧ s.frameTime p len ≤ w * 65536 ∧ s.windowLeft p cls = some 0) ∧
    (∃ (p : Nat) (cls : Nat) (len : Nat) (s : State) (l : GateList) (w : Nat) (left : Nat), p < 2 ∧ cls < 4 ∧
      s.power.vaux = true ∧ s.obj 5120 (16 + p) ≠ 1 ∧ (s.gate p).active = some l ∧ (s.gate p).enable = true ∧
      l.longest cls = some w ∧ s.frameTime p len ≤ w * 65536 ∧ s.windowLeft p cls = some left ∧ left ≠ 0 ∧
      left < s.frameTime p len) ∧
    (∃ (p : Nat) (cls : Nat) (len : Nat) (s : State) (l : GateList) (w : Nat) (left : Nat), p < 2 ∧ cls < 4 ∧
      s.power.vaux = true ∧ s.obj 5120 (16 + p) ≠ 1 ∧ (s.gate p).active = some l ∧ (s.gate p).enable = true ∧
      l.longest cls = some w ∧ s.frameTime p len ≤ w * 65536 ∧ s.windowLeft p cls = some left ∧ left ≠ 0 ∧
      s.frameTime p len ≤ left ∧ cls ≠ 1) :=
  ⟨
    ⟨30, 0, 0, { }, by unfold Passes; decide⟩,
    ⟨30, 0, 1, { }, by unfold Passes; decide⟩,
    ⟨30, 0, 1, { blobs := [(0x35400B, leBytes 8 (1 + 1000 * 4294967296))] }, by unfold Passes; decide⟩,
    ⟨30, 0, 1, { }, by unfold Passes; decide⟩,
    ⟨1, 1, 0, { live := [⟨.dispatch, false, 0x354101, 1, 0, 0⟩], time := due, forge := { lanesReady := true } }, by decide⟩,
    ⟨0, {}, { gate0 := { committed := some {}, changeAt := 1 }, time := due }, by decide⟩,
    ⟨0, {}, { gate0 := { committed := some {}, changeAt := 1 } }, by decide⟩,
    ⟨0, {}, { gate0 := { active := some {} } }, by decide⟩,
    ⟨0, {}, { gate0 := { active := some {}, held := true } }, by decide⟩,
    ⟨0, 0, { objs := [(0x140010, 0)] }, by decide⟩,
    ⟨0, 0, 1500, { objs := [(0x140010, 0)], gate0 := { enable := true, active := some gateList } }, gateList, 1000, by decide⟩,
    ⟨0, 0, 64, { objs := [(0x140010, 0)], gate0 := { enable := true, active := some gateList, entry := 1 } }, gateList, 1000, by decide⟩,
    ⟨0, 0, 64, { objs := [(0x140010, 0)], gate0 := { enable := true, active := some gateList, entryEnd := 65536 } }, gateList, 1000, 65536, by decide⟩,
    ⟨0, 0, 64, { objs := [(0x140010, 0)], gate0 := { enable := true, active := some gateList, entryEnd := 65536000 } }, gateList, 1000, 65536000, by decide⟩⟩

theorem witness_plan_queries :
    (∃ (ses : Nat) (v : List Byte) (s : State), Passes ses 8192 1 v s) :=
    ⟨30, leBytes 32 0, { }, by unfold Passes; decide⟩

theorem witness_batch_submission :
    (∃ (ses : Nat) (v : List Byte) (s : State), Passes ses 8704 1 v s ∧ headerBad v = true) ∧
    (∃ (ses : Nat) (v : List Byte) (s : State), Passes ses 8704 1 v s ∧ headerBad v = false ∧
      s.submitStatus (parseBatch ses s.nextBatch v) = stOk) ∧
    (∃ (ses : Nat) (v : List Byte) (s : State) (st : Nat), Passes ses 8704 1 v s ∧ headerBad v = false ∧
      (∀ b ∈ s.batches, b.id ≠ s.nextBatch) ∧ s.submitStatus (parseBatch ses s.nextBatch v) = st ∧ st ≠ stOk) ∧
    (∃ (s : State), s.awake = false) ∧
    (∃ (b : Batch) (ns : Nat) (s : State), s.batches = [b] ∧ b.state = BState.planning ∧ b.hold = false ∧
      b.origin = 0 ∧ b.moves = [] ∧ b.imageReady = false ∧ s.awake = true ∧ b.mode = 0 ∧
      (makePlan s s.active (s.generationPlus 0) b.records ns).status = stOk ∧ s.batchBarred = false) ∧
    (∃ (b : Batch) (ns : Nat) (s : State) (st : Nat), s.batches = [b] ∧ b.state = BState.planning ∧
      b.hold = false ∧ b.origin = 0 ∧ b.moves = [] ∧ b.imageReady = false ∧ s.awake = true ∧ b.mode = 0 ∧
      ((makePlan s s.active (s.generationPlus 0) b.records ns).status ≠ stOk ∧
      st = (makePlan s s.active (s.generationPlus 0) b.records ns).status ∨ (makePlan s s.active (s.generationPlus 0) b.records ns).status = stOk ∧
      s.batchBarred = true ∧ st = stNotEligible)) ∧
    (∃ (b : Batch) (s : State), s.batches = [b] ∧ b.state = BState.planning ∧ b.hold = false ∧ b.origin = 0 ∧
      b.moves = [] ∧ b.imageReady = false ∧ s.awake = true ∧ b.mode = 1 ∧ b.tReq ≤ s.now ∧
      b.allowLate = false) ∧
    (∃ (ses : Nat) (id : Nat) (s : State), Passes ses 8704 3 (leBytes 4 id) s ∧
      (∀ (b : Batch), s.batch id = some b → b.state ≠ BState.held)) ∧
    (∃ (ses : Nat) (id : Nat) (s : State) (b : Batch), Passes ses 8704 3 (leBytes 4 id) s ∧
      s.batch id = some b ∧ b.state = BState.held) ∧
    (∃ (ses : Nat) (id : Nat) (s : State), Passes ses 8704 4 (leBytes 4 id) s ∧
      (∀ (b : Batch), s.batch id = some b → b.state ≠ BState.held ∧
      (b.state ≠ BState.pending ∨ b.t0 < s.now + 10000 * 65536))) ∧
    (∃ (ses : Nat) (id : Nat) (s : State) (b : Batch), Passes ses 8704 4 (leBytes 4 id) s ∧ s.batches = [b] ∧
      b.id = id ∧ (b.state = BState.held ∨ b.state = BState.pending ∧ s.now + 10000 * 65536 ≤ b.t0)) :=
  ⟨
    ⟨30, leBytes 64 65538, { }, by unfold Passes; decide⟩,
    ⟨30, leBytes 64 65536, { }, by unfold Passes; decide⟩,
    ⟨30, leBytes 64 65536, { thermal := { stage := 2 } }, 12, by unfold Passes; decide⟩,
    ⟨{ }, by decide⟩,
    ⟨batch1, 0, { batches := [batch1], forge := { state := .awake } }, by decide⟩,
    ⟨batch1, 0, { batches := [batch1], forge := { state := .awake }, boot := { calUsable := false } }, stNotEligible, by decide⟩,
    ⟨{ batch1 with mode := 1 }, { batches := [{ batch1 with mode := 1 }], forge := { state := .awake } }, by decide⟩,
    ⟨30, 0, { }, ⟨by unfold Passes; decide, fun b h => (nomatch h)⟩⟩,
    ⟨30, 1, { batches := [{ batch1 with state := .held }] }, { batch1 with state := .held }, by unfold Passes; decide⟩,
    ⟨30, 1, { }, ⟨by unfold Passes; decide, fun b h => (nomatch h)⟩⟩,
    ⟨30, 1, { batches := [{ batch1 with state := .held }] }, { batch1 with state := .held }, by unfold Passes; decide⟩⟩

theorem witness_batch_commits :
    (∃ (s : State), s.awake = false) ∧
    (∃ (b : Batch) (rest : List Batch) (s : State), s.awake = true ∧ s.sched.imageCopy = false ∧
      s.pendingBatches = b :: rest ∧ b.imageReady = false ∧ (b.state = BState.held ∨ b.state = BState.pending ∧
      b.late = false ∧ (b.mode = 1 ∧ s.now < b.tReq ∨ b.mode = 0 ∧ b.fired = true ∧ s.now < b.t0))) ∧
    (∃ (b : Batch) (rest : List Batch) (s : State), s.awake = true ∧ s.sched.imageCopy = false ∧
      s.pendingBatches = b :: rest ∧ b.imageReady = false ∧ b.state = BState.pending ∧ (b.mode = 0 ∧
      b.fired = false ∨ b.late = true)) ∧
    (∃ (b : Batch) (rest : List Batch) (s : State), s.awake = true ∧ s.sched.imageCopy = false ∧
      s.pendingBatches = b :: rest ∧ b.imageReady = false ∧ b.state = BState.pending ∧ b.mode = 1 ∧
      b.late = false ∧ b.tReq ≤ s.now ∧ b.t0 ≤ s.now) ∧
    (∃ (s : State), s.awake = true ∧ s.sched.imageCopy = true) ∧
    (∃ (b : Batch) (rest : List Batch) (s : State), s.pendingBatches = b :: rest ∧ s.failStatic = false ∧
      b.state = BState.pending ∧ b.imageReady = true ∧ b.t0 ≤ s.now ∧ s.atTransit = true ∧ s.awake = true) ∧
    (∃ (b : Batch) (rest : List Batch) (s : State), s.pendingBatches = b :: rest ∧
      (b.state ≠ BState.pending ∨ s.now < b.t0 ∨ s.atTransit = false ∨ s.failStatic = false ∧
      (b.imageReady = false ∨ s.awake = false))) ∧
    (∃ (b : Batch) (rest : List Batch) (s : State), s.pendingBatches = b :: rest ∧ s.failStatic = true ∧
      s.batches = [b] ∧ b.origin ≠ 1 ∧ b.state = BState.pending ∧ b.t0 ≤ s.now ∧ s.atTransit = true) ∧
    (∃ (b : Batch) (s : State), s.batches = [b] ∧ b.state = BState.moving ∧ b.mode ≠ 2 ∧
      b.t0Elapsed + 100000 * 65536 ≤ s.clock true) :=
  ⟨
    ⟨{ }, by decide⟩,
    ⟨{ batch1 with state := .pending, mode := 1, tReq := 1, t0 := 1 }, [], { batches := [{ batch1 with state := .pending, mode := 1, tReq := 1, t0 := 1 }], forge := { state := .awake } }, by decide⟩,
    ⟨{ batch1 with state := .pending }, [], { batches := [{ batch1 with state := .pending }], forge := { state := .awake } }, by decide⟩,
    ⟨{ batch1 with state := .pending, mode := 1 }, [], { batches := [{ batch1 with state := .pending, mode := 1 }], forge := { state := .awake } }, by decide⟩,
    ⟨{ sched := { imageCopy := true }, forge := { state := .awake } }, by decide⟩,
    ⟨{ batch1 with state := .pending, imageReady := true }, [], { batches := [{ batch1 with state := .pending, imageReady := true }], forge := { state := .awake } }, by decide⟩,
    ⟨{ batch1 with state := .pending }, [], { batches := [{ batch1 with state := .pending }] }, by decide⟩,
    ⟨{ batch1 with state := .pending }, [], { batches := [{ batch1 with state := .pending }], keeper := { state := .failStatic } }, by decide⟩,
    ⟨{ batch1 with state := .moving }, { batches := [{ batch1 with state := .moving }], time := { elapsed := 6553600000 } }, by decide⟩⟩

theorem witness_reroute_plans :
    (∃ (all : List Nat) (s : State), s.planner.reroute = some all ∧ s.awake = false) ∧
    (∃ (all : List Nat) (s : State), s.planner.reroute = some all ∧ s.awake = true ∧ s.rerouteAllowed = false) ∧
    (∃ (all : List Nat) (s : State), s.planner.reroute = some all ∧ s.awake = true ∧ s.rerouteAllowed = true ∧
      (s.planMoves (decide (s.obj 8192 4 = 1)) (cfgAfter s.active (s.pendingBefore s.nextBoundary)) (List.filter (fun l => (s.active.slot l).isLeg && s.legFaulted l) all)).placed = []) ∧
    (∃ (all : List Nat) (s : State), s.planner.reroute = some all ∧ s.awake = true ∧ s.rerouteAllowed = true ∧
      (s.planMoves (decide (s.obj 8192 4 = 1)) (cfgAfter s.active (s.pendingBefore s.nextBoundary)) (List.filter (fun l => (s.active.slot l).isLeg && s.legFaulted l) all)).placed ≠ [] ∧
      s.batches = []) :=
  ⟨
    ⟨[], { planner := { reroute := some [] } }, by decide⟩,
    ⟨[], { planner := { reroute := some [] }, forge := { state := .awake } }, by decide⟩,
    ⟨[], { planner := { reroute := some [] }, forge := { state := .awake }, loopsStarted := true, ladder := { state := 2 } }, ⟨rfl, by decide, by decide, planMoves_none _ _ _⟩⟩,
    ⟨[0], rerouted, ⟨rfl, by decide, by decide, rerouted_placed, rfl⟩⟩⟩

theorem witness_schedule_tables :
    (∃ (ses : Nat) (c : Nat) (v : List Byte) (s : State), Passes ses (9216 + c) 1 v s) ∧
    (∃ (c : Nat) (s : State), ((s.cfg c).state ≠ 1 ∨ s.awake = false)) ∧
    (∃ (c : Nat) (s : State), (s.cfg c).state = 1 ∧ s.awake = true) ∧
    (∃ (ses : Nat) (s : State), Passes ses 8448 1 [1#8] s ∧
      (s.sched.state ≠ SchedState.idle ∨ s.auditNearFull = true ∨ s.failStatic = true ∨ s.stopped2 = true)) ∧
    (∃ (ses : Nat) (s : State), Passes ses 8448 1 [1#8] s ∧ s.sched.state = SchedState.idle ∧
      s.auditNearFull = false ∧ s.failStatic = false ∧ s.stopped2 = false ∧
      s.schedRow s.sched.shadowTable s.sched.shadowBase true ≠ 0) ∧
    (∃ (ses : Nat) (s : State), Passes ses 8448 1 [1#8] s ∧ s.sched.state = SchedState.idle ∧
      s.auditNearFull = false ∧ s.failStatic = false ∧ s.stopped2 = false ∧
      s.schedRow s.sched.shadowTable s.sched.shadowBase true = 0) ∧
    (∃ (ses : Nat) (s : State), Passes ses 8448 1 [2#8] s ∧
      (s.sched.state = SchedState.idle ∨ s.sched.state = SchedState.stopping)) ∧
    (∃ (ses : Nat) (s : State), Passes ses 8448 1 [2#8] s ∧ s.sched.state = SchedState.running ∧
      s.schedRow s.sched.shadowTable s.sched.shadowBase false ≠ 0) ∧
    (∃ (ses : Nat) (s : State), Passes ses 8448 1 [2#8] s ∧ s.sched.state = SchedState.running ∧
      s.schedRow s.sched.shadowTable s.sched.shadowBase false = 0) ∧
    (∃ (ses : Nat) (s : State), Passes ses 8448 1 [2#8] s ∧ s.sched.state = SchedState.armed ∧
      s.schedRow s.sched.shadowTable s.sched.shadowBase false = 0) :=
  ⟨
    ⟨30, 0, [], { }, by unfold Passes; decide⟩,
    ⟨0, { }, by decide⟩,
    ⟨0, { cfgs := [(0, { state := 1 })], forge := { state := .awake } }, by decide⟩,
    ⟨30, { sched := { state := .armed } }, by unfold Passes; decide⟩,
    ⟨30, { }, by unfold Passes; decide⟩,
    ⟨30, scheduled .idle, ⟨by unfold Passes; decide, by decide, by decide, by decide, by decide, scheduled_row .idle true⟩⟩,
    ⟨30, { }, by unfold Passes; decide⟩,
    ⟨30, { sched := { state := .running } }, by unfold Passes; decide⟩,
    ⟨30, scheduled .running, ⟨by unfold Passes; decide, by decide, scheduled_row .running false⟩⟩,
    ⟨30, scheduled .armed, ⟨by unfold Passes; decide, by decide, scheduled_row .armed false⟩⟩⟩

theorem witness_schedule_runs :
    (∃ (s : State), s.sched.state = SchedState.armed ∧ s.now < s.sched.start ∧ s.sched.imageReady = false) ∧
    (∃ (s : State), s.sched.state = SchedState.armed ∧ s.sched.start ≤ s.now ∧ s.sched.imageReady = true ∧
      s.atTransit = true ∧ s.awake = true ∧ s.stopped2 = false ∧ s.sched.stopNow = none) ∧
    (∃ (s : State), (s.sched.state ≠ SchedState.armed ∨ s.now < s.sched.start ∨ s.watchReady = false)) ∧
    (∃ (s : State), s.stopped2 = true) ∧
    (∃ (s : State), s.schedRuns = true ∧ s.sched.next ≤ s.now ∧ s.atTransit = true ∧ s.awake = true ∧
      s.stopped2 = false ∧ s.changeDue = false ∧ (s.sched.stopAtEnd = none ∨ s.nextWatch ≠ 0) ∧
      s.sched.imageReady = false) ∧
    (∃ (s : State), s.schedRuns = true ∧ s.sched.next ≤ s.now ∧ s.atTransit = true ∧ s.awake = true ∧
      s.stopped2 = false ∧ s.changeDue = false ∧ (s.sched.stopAtEnd = none ∨ s.nextWatch ≠ 0) ∧
      s.sched.imageReady = true) ∧
    (∃ (s : State) (r : Nat), s.schedRuns = true ∧ s.sched.next ≤ s.now ∧ s.atTransit = true ∧ s.awake = true ∧
      s.stopped2 = false ∧ s.changeDue = false ∧ s.sched.stopAtEnd = some r ∧ s.nextWatch = 0 ∧
      s.sched.state = SchedState.stopping ∧ s.watchMoving = false) ∧
    (∃ (c : SchedChange) (s : State), s.sched.change = some c ∧ s.sched.state = SchedState.running ∧
      s.sched.stopNow = none ∧ c.at_ ≤ s.now ∧ s.watchReady = true) ∧
    (∃ (c : SchedChange) (s : State), s.sched.change = some c ∧ s.sched.state = SchedState.running ∧
      s.sched.stopNow = none ∧ (s.now < c.at_ ∨ s.watchReady = false)) ∧
    (∃ (ses : Nat) (s : State), Passes ses 8448 1 [3#8] s ∧
      (s.sched.state = SchedState.idle ∨ s.sched.state = SchedState.stopping)) ∧
    (∃ (ses : Nat) (s : State), Passes ses 8448 1 [3#8] s ∧ s.sched.state = SchedState.running ∧
      s.sched.stopNow = none ∧ s.sched.stopAtEnd = none) ∧
    (∃ (ses : Nat) (s : State), Passes ses 8448 1 [3#8] s ∧ s.sched.state = SchedState.armed) ∧
    (∃ (ses : Nat) (s : State), Passes ses 8448 1 [4#8] s ∧ s.sched.state = SchedState.idle) ∧
    (∃ (ses : Nat) (s : State), Passes ses 8448 1 [4#8] s ∧
      (s.sched.state = SchedState.running ∨ s.sched.state = SchedState.stopping) ∧ s.sched.stopNow = none ∧
      s.watchMoving = true) ∧
    (∃ (ses : Nat) (s : State), Passes ses 8448 1 [4#8] s ∧
      (s.sched.state = SchedState.armed ∨ (s.sched.state = SchedState.running ∨ s.sched.state = SchedState.stopping) ∧
      s.sched.stopNow = none ∧ s.watchMoving = false)) :=
  ⟨
    ⟨{ sched := { state := .armed, start := 1 } }, by decide⟩,
    ⟨{ sched := { state := .armed, imageReady := true }, forge := { state := .awake } }, by decide⟩,
    ⟨{ }, by decide⟩,
    ⟨{ thermal := { stage := 3 } }, by decide⟩,
    ⟨{ sched := { state := .running }, forge := { state := .awake } }, by decide⟩,
    ⟨{ sched := { state := .running, imageReady := true }, forge := { state := .awake } }, by decide⟩,
    ⟨{ sched := { state := .stopping, stopAtEnd := some 1 }, forge := { state := .awake } }, 1, by decide⟩,
    ⟨⟨[], 0, false, 0⟩, { sched := { state := .running, change := some ⟨[], 0, false, 0⟩, imageReady := true }, forge := { state := .awake } }, by decide⟩,
    ⟨⟨[], 0, false, 1⟩, { sched := { state := .running, change := some ⟨[], 0, false, 1⟩ } }, by decide⟩,
    ⟨30, { }, by unfold Passes; decide⟩,
    ⟨30, { sched := { state := .running } }, by unfold Passes; decide⟩,
    ⟨30, { sched := { state := .armed } }, by unfold Passes; decide⟩,
    ⟨30, { }, by unfold Passes; decide⟩,
    ⟨30, { sched := { state := .running }, batches := [{ batch1 with mode := 2, state := .moving }] }, by unfold Passes; decide⟩,
    ⟨30, { sched := { state := .armed } }, by unfold Passes; decide⟩⟩

theorem witness_audit_engine :
    (∃ (n : Nat) (s : State), s.auditRuns = true ∧ s.audit.ring.length + min n 8192 ≤ ringSize) ∧
    (∃ (s : State), s.auditRuns = false) ∧
    (∃ (s : State), s.audit.closed = false ∧ s.power.watchOn = true ∧ s.audit.buffer.length < 8192 ∧
      s.audit.watchWasOff = false ∧ s.audit.dropped = 0) ∧
    (∃ (s : State), s.audit.closed = false ∧ s.power.watchOn = true ∧ s.audit.buffer.length < 8192 ∧
      s.audit.watchWasOff = false ∧ s.audit.dropped ≠ 0) ∧
    (∃ (n : Nat) (s : State), s.auditRuns = true ∧ s.blockDue = some n ∧ s.audit.ring.length + 3 ≤ ringSize) ∧
    (∃ (s : State), s.auditRuns = true ∧ s.audit.sealDue ≠ none ∧ s.audit.closed = false ∧
      s.audit.buffer.length + 3 ≤ 8192 ∧ s.audit.dropped = 0 ∧ s.audit.watchWasOff = false ∧
      s.audit.count + 32 < 2 ^ 40) :=
  ⟨
    ⟨5, { power := { watchOn := true }, forge := { state := .awake } }, by decide⟩,
    ⟨{ }, by decide⟩,
    ⟨{ audit := { closed := false }, power := { watchOn := true } }, by decide⟩,
    ⟨{ audit := { closed := false, dropped := 3 }, power := { watchOn := true } }, by decide⟩,
    ⟨0, { power := { watchOn := true }, forge := { state := .awake }, audit := { count := 256, sinceCkpt := [{ rec0 with seq := 255 }] } }, by decide⟩,
    ⟨{ power := { watchOn := true }, forge := { state := .awake }, audit := { closed := false, sealDue := some (0, 0) } }, by decide⟩⟩

set_option maxRecDepth 100000 in
theorem witness_audit_export :
    (∃ (ses : Nat) (s : State), s.served ses = true ∧ ses = 1 ∧ s.aexOn = true) ∧
    (∃ (ses : Nat) (s : State), s.served ses = true ∧ (ses ≠ 1 ∨ s.aexOn = false)) ∧
    (∃ (ses : Nat) (seq : Nat) (s : State), Passes ses 12544 4 (valBytes 8 seq) s ∧ s.newestSeq < seq) ∧
    (∃ (ses : Nat) (seq : Nat) (s : State), Passes ses 12544 4 (valBytes 8 seq) s ∧ seq ≤ s.newestSeq) ∧
    (∃ (ses : Nat) (seq : Nat) (s : State), Passes ses 12544 6 (valBytes 8 seq) s ∧
      (∀ r ∈ s.audit.ring, r.seq ≠ seq)) ∧
    (∃ (ses : Nat) (seq : Nat) (s : State), Passes ses 12544 6 (valBytes 8 seq) s ∧
      (∃ r ∈ s.audit.ring, r.seq = seq)) ∧
    (∃ (ses : Nat) (seq : Nat) (at_ : Instant) (s : State), s.live = [{ block := Block.audit, isReg := false, key := objKey 12544 6, value := seq, at_ := at_, ses := ses }] ∧
      at_ < s.time.transitStart ∧ s.forge.lanesReady = true ∧ s.forge.lanesReadyAt < s.time.transitStart) ∧
    (∃ (v : Word) (s : State), s.power.forgeOn = true ∧ field (BitVec.toNat v) 16 9 ≠ field (s.reg 5120) 16 9 ∧
      s.regOn 5120 0 = true) ∧
    (∃ (v : Word) (s : State), s.power.forgeOn = true ∧
      (field (BitVec.toNat v) 16 9 = field (s.reg 5120) 16 9 ∨ s.regOn 5120 0 = false)) ∧
    (∃ (at_ : Instant) (s : State), at_ < s.time.transitStart ∧
      s.live = [{ block := Block.hostLinks, isReg := true, key := 5120, value := 1, at_ := at_ }] ∧
      (s.reg 5120).testBit 0 = false) ∧
    (∃ (at_ : Instant) (s : State), at_ < s.time.transitStart ∧
      s.live = [{ block := Block.hostLinks, isReg := true, key := 5120, value := 0, at_ := at_ }] ∧
      (s.reg 5120).testBit 0 = true) ∧
    (∃ (dm : List Damage) (s : State), s.aexOn = true ∧ s.awake = true ∧
      ((noteDamage dm s).chunk 1 4096).count ≠ 0 ∧ s.power.pcie ≠ PcieLink.down ∧
      s.aexPlace ((noteDamage dm s).chunk 1 4096).bytes.length = none) ∧
    (∃ (dm : List Damage) (s : State) (at_ : Nat), s.aexOn = true ∧ s.awake = true ∧
      ((noteDamage dm s).chunk 1 4096).count ≠ 0 ∧ s.power.pcie ≠ PcieLink.down ∧
      s.aexPlace ((noteDamage dm s).chunk 1 4096).bytes.length = some at_) ∧
    (∃ (n : Nat) (at_ : Nat) (s : State), s.aexPlace n = some at_) :=
  ⟨
    ⟨1, { sessions := [(1, { isOpen := true })], regs := [(0x1400, 1)] }, by decide⟩,
    ⟨30, { }, by decide⟩,
    ⟨30, 1, { }, by unfold Passes; decide⟩,
    ⟨30, 0, { }, by unfold Passes; decide⟩,
    ⟨30, 0, { }, by unfold Passes; decide⟩,
    ⟨30, 7, { audit := { ring := [rec0] } }, by unfold Passes; decide⟩,
    ⟨30, 7, 0, { live := [⟨.audit, false, 0x310006, 7, 0, 30⟩], time := due, forge := { lanesReady := true } }, by decide⟩,
    ⟨0x10000, { regs := [(0x1400, 1)], power := { forgeOn := true } }, by decide⟩,
    ⟨1, { power := { forgeOn := true } }, by decide⟩,
    ⟨0, { live := [⟨.hostLinks, true, 0x1400, 1, 0, 0⟩], time := due }, by decide⟩,
    ⟨0, { live := [⟨.hostLinks, true, 0x1400, 0, 0, 0⟩], time := due, regs := [(0x1400, 1)] }, by decide⟩,
    ⟨[], { regs := [(0x1400, 0x10001)], forge := { state := .awake }, audit := { ring := [rec0] }, power := { pcie := .l0 }, aex := { wr := 67108800 } }, by decide +kernel⟩,
    ⟨[], { regs := [(0x1400, 0x10001)], forge := { state := .awake }, audit := { ring := [rec0] }, power := { pcie := .l0 } }, 0, by decide +kernel⟩,
    ⟨1000, 0, { regs := [(0x1400, 0x10001)] }, by decide⟩⟩

theorem witness_hallmark_channels :
    (∃ (c : Nat) (s : State), (c = 6 ∨ c = 7) ∧ s.power.watchOn = true ∧ (s.hmChan c).isOpen = true) ∧
    (∃ (c : Nat) (s : State), (c = 6 ∨ c = 7) ∧ s.power.watchOn = true ∧ (s.hmChan c).isOpen = false) :=
  ⟨
    ⟨6, { hm6 := { isOpen := true }, power := { watchOn := true } }, by decide⟩,
    ⟨7, { power := { watchOn := true } }, by decide⟩⟩

theorem witness_hallmark_feeding :
    (∃ (c : Nat) (feeds : List (Nat × Word)) (s : State), (c = 6 ∨ c = 7) ∧ s.power.watchOn = true ∧
      (∀ f ∈ feeds, f.1 = 1 ∨ f.1 = 2 ∨ f.1 = 4)) :=
    ⟨6, [(4, 5)], { power := { watchOn := true } }, by decide⟩

theorem witness_network_sessions :
    (∃ (p : Nat) (s : State) (n : Nat), p < 2 ∧ s.boot.started = true ∧ s.freeSession = some n) ∧
    (∃ (p : Nat) (s : State), p < 2 ∧ s.boot.started = true ∧ s.freeSession = none) ∧
    (∃ (p : Nat) (s : State), s.handshakeOn p = none) ∧
    (∃ (p : Nat) (a : Option Nat) (failed : Bool) (s : State) (n : Nat), s.handshakeOn p = some n ∧
      (failed = true ∨ s.life.tlsKey = false ∨ a = none)) ∧
    (∃ (p : Nat) (failed : Bool) (s : State) (n : Nat) (k : Nat), s.handshakeOn p = some n ∧ failed = false ∧
      s.life.tlsKey = true ∧ k < 8 ∧ s.blob 5632 (16 + k) [] ≠ []) ∧
    (∃ (n : Nat) (r : CloseReason) (s : State), 1 ≤ n ∧ n ≤ 28 ∧ (s.session n).taken = none ∧
      s.closes n r = false) ∧
    (∃ (n : Nat) (r : CloseReason) (s : State), 1 ≤ n ∧ n ≤ 28 ∧ (s.session n).taken = none ∧
      s.closes n r = true ∧ (s.session n).isOpen = true) ∧
    (∃ (n : Nat) (s : State), s.v2Idle n = false) ∧
    (∃ (n : Nat) (s : State), s.v2Idle n = true) :=
  ⟨
    ⟨0, { boot := { started := true } }, 5, by decide⟩,
    ⟨0, { boot := { started := true }, sessions := allOpen }, by decide⟩,
    ⟨0, { }, by decide⟩,
    ⟨0, none, false, { sessions := [(5, { taken := some 0 })] }, 5, by decide⟩,
    ⟨0, false, { sessions := [(5, { taken := some 0 })], life := { tlsKey := true }, blobs := [(0x160010, [1])] }, 5, 0, by decide⟩,
    ⟨5, .peerClose, { }, by decide⟩,
    ⟨5, .peerClose, v3State 64, by decide⟩,
    ⟨5, { }, by decide⟩,
    ⟨5, { sessions := [(5, { isOpen := true, link := 2 })], objs := [(0x140005, 0)] }, by decide⟩⟩

set_option maxRecDepth 100000 in
theorem witness_network_frames :
    (∃ (p : Nat) (s : State), (2 ≤ p ∨ s.boot.started = false ∨ s.obj 5120 4 = 0)) ∧
    (∃ (p : Nat) (peer : List Byte) (frame : List Byte) (s : State) (n : Nat), p < 2 ∧ s.boot.started = true ∧
      s.obj 5120 4 ≠ 0 ∧ s.v2Session (byte p :: peer) = some n ∧
      (frameLenOk 2 frame && frameFormOk 2 frame && frameCheckOk frame) = false) ∧
    (∃ (p : Nat) (peer : List Byte) (frame : List Byte) (s : State) (n : Nat), p < 2 ∧ s.boot.started = true ∧
      s.obj 5120 4 ≠ 0 ∧ s.v2Session (byte p :: peer) = some n ∧
      (frameLenOk 2 frame && frameFormOk 2 frame && frameCheckOk frame) = true ∧
      s.poolAdmits n (buffersFor frame.length) = false) ∧
    (∃ (p : Nat) (peer : List Byte) (frame : List Byte) (s : State), p < 2 ∧ s.boot.started = true ∧
      s.obj 5120 4 ≠ 0 ∧ s.v2Session (byte p :: peer) = none ∧
      (frameLenOk 2 frame && frameFormOk 2 frame && frameCheckOk frame) = false) ∧
    (∃ (p : Nat) (peer : List Byte) (frame : List Byte) (s : State), p < 2 ∧ s.boot.started = true ∧
      s.obj 5120 4 ≠ 0 ∧ s.v2Session (byte p :: peer) = none ∧ s.freeSession = none ∧
      (frameLenOk 2 frame && frameFormOk 2 frame && frameCheckOk frame) = true) ∧
    (∃ (p : Nat) (peer : List Byte) (frame : List Byte) (s : State) (n : Nat), p < 2 ∧ s.boot.started = true ∧
      s.obj 5120 4 ≠ 0 ∧ s.v2Session (byte p :: peer) = none ∧ s.freeSession = some n ∧
      (frameLenOk 2 frame && frameFormOk 2 frame && frameCheckOk frame) = true) ∧
    (∃ (n : Nat) (frame : List Byte) (s : State), 5 ≤ n ∧ n ≤ 28 ∧ (s.session n).isOpen = true ∧
      (s.session n).link = 3 ∧ (s.session n).stalled = false ∧ (s.session n).admitted = 0 ∧
      frameLenOk 3 frame = false) ∧
    (∃ (n : Nat) (frame : List Byte) (s : State), 5 ≤ n ∧ n ≤ 28 ∧ (s.session n).isOpen = true ∧
      (s.session n).link = 3 ∧ (s.session n).stalled = false ∧ (s.session n).admitted = 0 ∧
      frameLenOk 3 frame = true ∧ s.poolAdmits n (buffersFor frame.length) = false) ∧
    (∃ (n : Nat) (frame : List Byte) (s : State), 5 ≤ n ∧ n ≤ 28 ∧ (s.session n).isOpen = true ∧
      (s.session n).link = 3 ∧ (s.session n).stalled = false ∧ (s.session n).admitted = 0 ∧
      frameLenOk 3 frame = true ∧ s.poolAdmits n (buffersFor frame.length) = true ∧
      (frameFormOk 3 frame && frameCheckOk frame) = false) ∧
    (∃ (n : Nat) (frame : List Byte) (s : State), 5 ≤ n ∧ n ≤ 28 ∧ (s.session n).isOpen = true ∧
      (s.session n).link = 3 ∧ (s.session n).stalled = false ∧ (s.session n).admitted = 0 ∧
      (frameLenOk 3 frame && frameFormOk 3 frame && frameCheckOk frame) = true ∧
      s.poolAdmits n (buffersFor frame.length) = true ∧
      s.keptOf ((s.session n).key n) (parseReq frame s.time.elapsed (buffersFor frame.length) 0 0).reqId = none ∧
      s.keptFull ((s.session n).key n) = false ∧ tokUnit ≤ ((fillBuckets n s).session n).reqTokens ∧
      moveCharge (parseReq frame s.time.elapsed (buffersFor frame.length) 0 0) * tokUnit ≤ ((fillBuckets n s).session n).moveTokens) ∧
    (∃ (n : Nat) (frame : List Byte) (s : State) (k : Kept) (a : Resp), 5 ≤ n ∧ n ≤ 28 ∧
      (s.session n).isOpen = true ∧ (s.session n).link = 3 ∧ (s.session n).stalled = false ∧
      (s.session n).admitted = 0 ∧ (frameLenOk 3 frame && frameFormOk 3 frame && frameCheckOk frame) = true ∧
      s.poolAdmits n (buffersFor frame.length) = true ∧
      s.keptOf ((s.session n).key n) (parseReq frame s.time.elapsed (buffersFor frame.length) 0 0).reqId = some k ∧
      k.len = (parseReq frame s.time.elapsed (buffersFor frame.length) 0 0).len ∧
      k.check = (parseReq frame s.time.elapsed (buffersFor frame.length) 0 0).check ∧ k.resp = some a) ∧
    (∃ (p : Nat) (s : State), p < 2 ∧ s.power.vaux = true ∧ s.mgtUp p = true) ∧
    (∃ (p : Nat) (s : State), (2 ≤ p ∨ s.power.vaux = false ∨ s.mgtUp p = false)) :=
  ⟨
    ⟨2, { }, by decide⟩,
    ⟨0, [7], [], v2State 64, 5, by decide⟩,
    ⟨0, [7], frame 2, v2State 0, 5, by decide⟩,
    ⟨0, [8], [], v2State 64, by decide⟩,
    ⟨0, [8], frame 2, { v2State 64 with sessions := allOpen }, by decide⟩,
    ⟨0, [8], frame 2, v2State 64, 6, by decide⟩,
    ⟨5, [], v3State 64, by decide⟩,
    ⟨5, frame 3, v3State 0, by decide⟩,
    ⟨5, frame 2, v3State 64, by decide⟩,
    ⟨5, frame 3, v3State 64, by decide⟩,
    ⟨5, frame 3, { v3State 64 with kept := [⟨[3], 1, 36, leAt (frame 3) 32 4, some {}, 0⟩] }, ⟨[3], 1, 36, leAt (frame 3) 32 4, some {}, 0⟩, {}, by decide⟩,
    ⟨1, { ptp1 := { linkUp := true } }, by decide⟩,
    ⟨2, { }, by decide⟩⟩

set_option maxRecDepth 100000 in
theorem witness_mailbox_rings :
    (∃ (r : Nat) (v : Word) (s : State), 1 ≤ r ∧ r ≤ 4 ∧ s.power.forgeOn = true ∧
      field (BitVec.toNat v) 16 9 ≠ field (s.reg (mbxReg r 0)) 16 9 ∧ s.regOn (mbxReg r 0) 0 = true) ∧
    (∃ (r : Nat) (v : Word) (s : State), 1 ≤ r ∧ r ≤ 4 ∧ s.power.forgeOn = true ∧
      (field (BitVec.toNat v) 16 9 = field (s.reg (mbxReg r 0)) 16 9 ∨ s.regOn (mbxReg r 0) 0 = false)) ∧
    (∃ (r : Nat) (v : Nat) (at_ : Instant) (s : State), 1 ≤ r ∧ r ≤ 4 ∧ v < 4 ∧
      s.live = [{ block := Block.hostLinks, isReg := true, key := mbxReg r 0, value := v, at_ := at_ }] ∧
      at_ < s.time.transitStart ∧ (s.reg (mbxReg r 0)).testBit 0 = v.testBit 0) ∧
    (∃ (r : Nat) (v : Nat) (at_ : Instant) (s : State), 1 ≤ r ∧ r ≤ 4 ∧ v < 4 ∧
      s.live = [{ block := Block.hostLinks, isReg := true, key := mbxReg r 0, value := v, at_ := at_ }] ∧
      at_ < s.time.transitStart ∧ (s.reg (mbxReg r 0)).testBit 0 = false ∧ v.testBit 0 = true) ∧
    (∃ (r : Nat) (v : Nat) (at_ : Instant) (s : State), 1 ≤ r ∧ r ≤ 4 ∧ v < 4 ∧
      s.live = [{ block := Block.hostLinks, isReg := true, key := mbxReg r 0, value := v, at_ := at_ }] ∧
      at_ < s.time.transitStart ∧ (s.reg (mbxReg r 0)).testBit 0 = true ∧ v.testBit 0 = false) ∧
    (∃ (r : Nat) (s : State), 1 ≤ r ∧ r ≤ 4 ∧ (s.ring r).running = true ∧ (s.ring r).halted = false ∧
      (s.session r).isOpen = true ∧ (s.session r).link = 1 ∧ (s.ring r).reqHead = s.reg (mbxReg r 32)) ∧
    (∃ (r : Nat) (desc : List Byte) (frame : List Byte) (s : State), 1 ≤ r ∧ r ≤ 4 ∧ (s.ring r).running = true ∧
      (s.ring r).halted = false ∧ (s.session r).isOpen = true ∧ (s.session r).link = 1 ∧
      (s.ring r).reqHead ≠ s.reg (mbxReg r 32) ∧ s.cplFree r = true ∧ (s.session r).admitted = 0 ∧
      s.poolAdmits r (buffersFor frame.length) = true ∧ mailboxStatus desc frame ≠ stOk) ∧
    (∃ (r : Nat) (desc : List Byte) (frame : List Byte) (s : State), 1 ≤ r ∧ r ≤ 4 ∧ (s.ring r).running = true ∧
      (s.ring r).halted = false ∧ (s.session r).isOpen = true ∧ (s.session r).link = 1 ∧
      (s.ring r).reqHead ≠ s.reg (mbxReg r 32) ∧ s.cplFree r = true ∧ (s.session r).admitted = 0 ∧
      s.poolAdmits r (buffersFor frame.length) = true ∧ mailboxStatus desc frame = stOk ∧
      s.keptOf ((s.session r).key r) (parseReq frame s.time.elapsed (buffersFor frame.length) (leAt desc 24 8) (leAt desc 12 4)).reqId = none ∧
      s.keptFull ((s.session r).key r) = false ∧ tokUnit ≤ ((fillBuckets r s).session r).reqTokens ∧
      moveCharge (parseReq frame s.time.elapsed (buffersFor frame.length) (leAt desc 24 8) (leAt desc 12 4)) * tokUnit ≤ ((fillBuckets r s).session r).moveTokens) :=
  ⟨
    ⟨1, 0x10000, { regs := [(mbxReg 1 0, 1)], power := { forgeOn := true } }, by decide⟩,
    ⟨4, 1, { power := { forgeOn := true } }, by decide⟩,
    ⟨4, 2, 0, { live := [⟨.hostLinks, true, mbxReg 4 0, 2, 0, 0⟩], time := due }, by decide⟩,
    ⟨1, 3, 0, { live := [⟨.hostLinks, true, mbxReg 1 0, 3, 0, 0⟩], time := due }, by decide⟩,
    ⟨1, 0, 0, { live := [⟨.hostLinks, true, mbxReg 1 0, 0, 0, 0⟩], time := due, regs := [(mbxReg 1 0, 1)] }, by decide⟩,
    ⟨1, { ringState with regs := [] }, by decide⟩,
    ⟨1, [], [], ringState, by decide⟩,
    ⟨1, leBytes 32 ((36 + 64 * 2 ^ 32) * 2 ^ 64), frame 3, ringState, by decide⟩⟩

theorem witness_spi_link :
    (∃ (bs : List Byte) (complete : Bool) (s : State), s.power.vaux = true ∧
      (complete = false ∨ bs.length < 10 ∨ (parseV1 bs 0).op = 2 ∧ (parseV1 bs 0).want ≤ 256 ∧
      bs.length < 10 + (parseV1 bs 0).want)) ∧
    (∃ (bs : List Byte) (s : State), s.power.vaux = true ∧ v1Short bs = false ∧
      (s.spi.busy = true ∨ s.spi.resp ≠ none ∨ s.poolAdmits 0 (buffersFor bs.length) = false)) ∧
    (∃ (bs : List Byte) (s : State), s.power.vaux = true ∧ v1Short bs = false ∧ s.spi.busy = false ∧
      s.spi.resp = none ∧ s.poolAdmits 0 (buffersFor bs.length) = true ∧ v1Ok bs = true ∧
      tokUnit ≤ ((fillBuckets 0 s).session 0).reqTokens ∧
      moveCharge (parseV1 bs s.time.elapsed) * tokUnit ≤ ((fillBuckets 0 s).session 0).moveTokens) ∧
    (∃ (bs : List Byte) (s : State), s.power.vaux = true ∧ v1Short bs = false ∧ s.spi.busy = false ∧
      s.spi.resp = none ∧ s.poolAdmits 0 (buffersFor bs.length) = true ∧ v1Ok bs = false) ∧
    (∃ (bs : List Byte) (s : State), s.power.vaux = true ∧ s.spi.resp = some bs) ∧
    (∃ (s : State), s.power.vaux = true ∧ s.spi.redeliver = [] ∧ s.spiQueue = none) ∧
    (∃ (s : State) (q : Nat) (r : ERec) (rest : List ERec), s.power.vaux = true ∧ s.spi.redeliver = [] ∧
      s.spiQueue = some q ∧ (s.queue q).records = r :: rest) :=
  ⟨
    ⟨leBytes 10 (2 + 2 ^ 40), true, { }, by decide⟩,
    ⟨leBytes 10 0, { spi := { busy := true } }, by decide⟩,
    ⟨leBytes 10 1, { }, by decide⟩,
    ⟨leBytes 10 0, { }, by decide⟩,
    ⟨[], { spi := { resp := some [] } }, by decide⟩,
    ⟨{ }, by decide⟩,
    ⟨{ regs := [(0x10000, 8)], queues := [(0, { records := [erec] })] }, 0, erec, [], by decide⟩⟩

theorem witness_dispatch :
    (∃ (n : Nat) (len : Nat) (s : State), (s.session n).isOpen = true ∧
      ((s.session n).link = 1 ∨ (s.session n).stalled = true) ∧ (s.session n).admitted = 0 ∧
      s.poolAdmits n (buffersFor len) = true) ∧
    (∃ (n : Nat) (len : Nat) (s : State), s.poolAdmits n (buffersFor len) = false) ∧
    (∃ (n : Nat) (at_ : Nat) (c : Bool) (s : State), ((s.session n).queueOf c).eligible = some at_ ∧
      at_ ≤ s.time.elapsed) ∧
    (∃ (n : Nat) (at_ : Nat) (c : Bool) (s : State), ((s.session n).queueOf c).eligible = some at_ ∧
      s.time.elapsed < at_) ∧
    (∃ (n : Nat) (c : Bool) (r : Req) (rest : List Req) (s : State), s.boot.started = true ∧ s.awake = true ∧
      s.executing < 16 ∧ s.nextServed = some (n, c) ∧ ((s.session n).queueOf c).waiting = r :: rest) ∧
    (∃ (s : State), s.nextServed = none) ∧
    (∃ (n : Nat) (c : Bool) (r : Req) (a : Resp) (s : State), ((s.session n).queueOf c).executing = some r ∧
      (s.session n).resp = some a) ∧
    (∃ (s : State), s.obj 13568 1 ≠ 0 ∧
      s.disp.sampledAt / (s.obj 13568 1 * usUnits) < s.time.elapsed / (s.obj 13568 1 * usUnits)) ∧
    (∃ (ses : Nat) (n : Nat) (s : State), s.served ses = true ∧ n < 32) ∧
    (∃ (ses : Nat) (n : Nat) (s : State), s.served ses = true ∧ 32 ≤ n) ∧
    (∃ (n : Nat) (key : Nat) (at_ : Nat) (v : List Byte) (s : State), (s.session n).snapshot = some (key, v, at_) ∧
      at_ + 2000000000 * 65536 ≤ s.time.elapsed) ∧
    (∃ (n : Nat) (key : Nat) (at_ : Nat) (v : List Byte) (s : State), (s.session n).snapshot = some (key, v, at_) ∧
      s.time.elapsed < at_ + 2000000000 * 65536) ∧
    (∃ (n : Nat) (at_ : Nat) (s : State) (a : Nat) (b : List Byte), (s.session n).assembly = some (a, b, at_) ∧
      at_ + 2000000000 * 65536 < s.time.elapsed) ∧
    (∃ (n : Nat) (at_ : Nat) (s : State) (a : Nat) (b : List Byte), (s.session n).assembly = some (a, b, at_) ∧
      s.time.elapsed ≤ at_ + 2000000000 * 65536) :=
  ⟨
    ⟨1, 0, withSession 1 { isOpen := true, link := 1 }, by decide⟩,
    ⟨1, 1, { objs := [(0x351108, 0)] }, by decide⟩,
    ⟨1, 0, true, withSession 1 { control := { eligible := some 0 } }, by decide⟩,
    ⟨1, 1, true, withSession 1 { control := { eligible := some 1 } }, by decide⟩,
    ⟨1, true, {}, [], { boot := { started := true }, forge := { state := .awake }, sessions := [(1, { isOpen := true, control := ready })] }, by decide⟩,
    ⟨{ }, by decide⟩,
    ⟨1, true, {}, {}, withSession 1 { control := { executing := some {} }, resp := some {} }, by decide⟩,
    ⟨{ objs := [(0x350001, 1)], time := { elapsed := 65536000 } }, by decide⟩,
    ⟨30, 0, { }, by decide⟩,
    ⟨30, 32, { }, by decide⟩,
    ⟨1, 0, 0, [], { sessions := [(1, { snapshot := some (0, [], 0) })], time := { elapsed := 131072000000000 } }, by decide⟩,
    ⟨1, 0, 0, [], withSession 1 { snapshot := some (0, [], 0) }, by decide⟩,
    ⟨1, 0, { sessions := [(1, { assembly := some (0, [], 0) })], time := { elapsed := 131072000000001 } }, 0, [], by decide⟩,
    ⟨1, 0, withSession 1 { assembly := some (0, [], 0) }, 0, [], by decide⟩⟩

theorem witness_fair_service :
    (∃ (s : State) (p : Nat × Bool), s.nextServed = some p ∧ (∃ q ∈ s.readyQueues, q.1 = 29 ∨ q.1 = 30)) ∧
    (∃ (s : State) (p : Nat × Bool) (q : Nat × Bool), s.nextServed = some p ∧ q ∈ s.readyQueues ∧
      (p.1 = 29 ∨ p.1 = 30 → q.1 = 29 ∨ q.1 = 30)) :=
  ⟨
    ⟨withSession 30 { control := ready }, (30, true), by decide⟩,
    ⟨withSession 1 { isOpen := true, control := ready }, (1, true), (1, true), by decide⟩⟩

theorem witness_object_reads :
    (∃ (ses : Nat) (s : State), s.served ses = false) ∧
    (∃ (ses : Nat) (ix : Nat) (sub : Nat) (s : State), s.served ses = true ∧ readGate ix sub ≠ stOk) ∧
    (∃ (ses : Nat) (ix : Nat) (sub : Nat) (s : State), s.served ses = true ∧ readGate ix sub = stOk ∧
      ix ≠ 12544 ∧ ix ≠ 7936 ∧ ix ≠ 4864 ∧ (ix < 13584 ∨ 13616 ≤ ix)) ∧
    (∃ (ses : Nat) (ix : Nat) (sub : Nat) (off : Nat) (s : State) (bs : List Byte) (at_ : Nat), s.served ses = true ∧
      readGate ix sub = stOk ∧ off ≠ 0 ∧ (s.session ses).snapshot = some (objKey ix sub, bs, at_) ∧
      s.time.elapsed < at_ + twoSeconds) ∧
    (∃ (ses : Nat) (ix : Nat) (sub : Nat) (off : Nat) (s : State), s.served ses = true ∧
      readGate ix sub = stOk ∧ off ≠ 0 ∧
      (∀ (key : Nat) (bs : List Byte) (at_ : Nat), (s.session ses).snapshot = some (key, bs, at_) → key ≠ objKey ix sub ∨ at_ + twoSeconds ≤ s.time.elapsed)) :=
  ⟨
    ⟨0, { }, by decide⟩,
    ⟨30, 0, 0, { }, by decide⟩,
    ⟨30, 0x1400, 4, { }, by decide⟩,
    ⟨30, 0x1400, 4, 1, withSession 30 { snapshot := some (0x140004, [], 0) }, [], 0, by decide⟩,
    ⟨30, 0x1400, 4, 1, { }, ⟨by decide, by decide, by decide, fun _ _ _ h => (nomatch h)⟩⟩⟩

theorem witness_object_writes :
    (∃ (ses : Nat) (s : State), (s.served ses = false ∨ (s.session ses).storing ≠ none)) ∧
    (∃ (ses : Nat) (ix : Nat) (sub : Nat) (v : List Byte) (s : State), s.served ses = true ∧
      (s.session ses).storing = none ∧ (s.session ses).assembly = none ∧ sub < 256 ∧ v.length ≤ 1048576 ∧
      (s.afresh ses).writeGate ses ix sub v ≠ stOk ∧ ix ≠ 6144) ∧
    (∃ (ses : Nat) (sub : Nat) (v : List Byte) (s : State) (e : Nat), s.served ses = true ∧
      (s.session ses).storing = none ∧ (s.session ses).assembly = none ∧ sub < 256 ∧ v.length ≤ 1048576 ∧
      e < 256) ∧
    (∃ (ses : Nat) (ix : Nat) (sub : Nat) (v : List Byte) (s : State) (r : ObjRow), s.served ses = true ∧
      (s.session ses).storing = none ∧ (s.session ses).assembly = none ∧ sub < 256 ∧ v.length ≤ 1048576 ∧
      objRow ix sub = some r ∧ (s.afresh ses).writeGate ses ix sub v = stOk ∧
      ownRow ses ix sub v (s.afresh ses) = none ∧ ix ≠ 4864 ∧ (ix < 20480 ∨ 20544 ≤ ix) ∧ r.cls = OClass.live ∧
      r.type_ ≠ OType.domain ∧ r.stored = true) ∧
    (∃ (ses : Nat) (ix : Nat) (sub : Nat) (v : List Byte) (s : State), s.served ses = true ∧
      (s.session ses).storing = none ∧ (s.session ses).assembly = none ∧ sub < 256 ∧ v.length ≤ 1048576 ∧
      ix = 4864 ∧ sub = 1 ∧ (s.afresh ses).writeGate ses ix sub v = stOk) ∧
    (∃ (ses : Nat) (ix : Nat) (sub : Nat) (off : Nat) (more : Bool) (s : State), s.served ses = true ∧
      (s.session ses).storing = none ∧ sub < 256 ∧ s.segmentGate ses ix sub ≠ stOk ∧ (more = true ∨ off ≠ 0)) ∧
    (∃ (ses : Nat) (ix : Nat) (sub : Nat) (off : Nat) (s : State), s.served ses = true ∧
      (s.session ses).storing = none ∧ sub < 256 ∧ s.segmentGate ses ix sub = stOk ∧
      (s.session ses).assembly = none ∧ off ≠ 0) ∧
    (∃ (ses : Nat) (ix : Nat) (sub : Nat) (v : List Byte) (s : State), s.served ses = true ∧
      (s.session ses).storing = none ∧ sub < 256 ∧ s.segmentGate ses ix sub = stOk ∧
      (s.session ses).assembly = none ∧ v.length ≤ 1048576) ∧
    (∃ (ses : Nat) (ix : Nat) (sub : Nat) (v : List Byte) (s : State) (bs : List Byte) (at_ : Nat), s.served ses = true ∧
      (s.session ses).storing = none ∧ sub < 256 ∧ s.segmentGate ses ix sub = stOk ∧
      (s.session ses).assembly = some (objKey ix sub, bs, at_) ∧ s.time.elapsed ≤ at_ + twoSeconds ∧
      bs.length + v.length ≤ 1048576 ∧ ix = 8704 ∧ sub = 1) ∧
    (∃ (ses : Nat) (ix : Nat) (sub : Nat) (off : Nat) (v : List Byte) (s : State) (bs : List Byte) (at_ : Nat), s.served ses = true ∧
      (s.session ses).storing = none ∧ sub < 256 ∧ s.segmentGate ses ix sub = stOk ∧
      (s.session ses).assembly = some (objKey ix sub, bs, at_) ∧
      (at_ + twoSeconds < s.time.elapsed ∨ off ≠ bs.length ∨ 1048576 < bs.length + v.length)) ∧
    (∃ (ses : Nat) (key : Nat) (v : List Byte) (s : State), (s.session ses).storing = some (key, v) ∧
      (s.live.any fun w => !w.isReg && decide (w.key = key)) = false) ∧
    (∃ (ses : Nat) (key : Nat) (v : List Byte) (s : State), (s.session ses).storing = some (key, v) ∧
      (s.live.any fun w => !w.isReg && decide (w.key = key)) = true) :=
  ⟨
    ⟨0, { }, by decide⟩,
    ⟨30, 0, 0, [], { }, by decide⟩,
    ⟨30, 0, [], { }, 0, by decide⟩,
    ⟨30, 0x1400, 4, [1], { }, (objRow 0x1400 4).getD ⟨0, .bool, .rw, false, 0, 0, 0, .live, false⟩, by decide⟩,
    ⟨30, 0x1300, 1, leBytes 4 0, { }, by decide⟩,
    ⟨30, 0, 1, 0, true, { }, by decide⟩,
    ⟨30, 0x2200, 1, 1, { }, by decide⟩,
    ⟨30, 0x2200, 1, [], { }, by decide⟩,
    ⟨30, 0x2200, 1, [], withSession 30 { assembly := some (0x220001, [], 0) }, [], 0, by decide⟩,
    ⟨30, 0x2200, 1, 5, [], withSession 30 { assembly := some (0x220001, [], 0) }, [], 0, by decide⟩,
    ⟨30, 1, [], withSession 30 { storing := some (1, []) }, by decide⟩,
    ⟨30, 1, [], { sessions := [(30, { storing := some (1, []) })], live := [⟨.hostLinks, false, 1, 0, 0, 0⟩] }, by decide⟩⟩

theorem witness_subscriptions :
    (∃ (ses : Nat) (bs : List Byte) (s : State), s.served ses = true ∧ ((s.session ses).link ≠ 3 ∨ 29 ≤ ses) ∧
      bs.length % 4 = 0 ∧ bs.length ≤ 64 ∧ (∀ r ∈ parseRanges bs, r.1 ≤ r.2)) ∧
    (∃ (ses : Nat) (bs : List Byte) (s : State), s.served ses = true ∧ (s.session ses).link = 3 ∧ ses < 29 ∧
      (bs.length % 4 ≠ 0 ∨ 64 < bs.length)) ∧
    (∃ (ses : Nat) (bs : List Byte) (s : State), s.served ses = true ∧ (s.session ses).link = 3 ∧ ses < 29 ∧
      bs.length % 4 = 0 ∧ bs.length ≤ 64 ∧ (∃ r ∈ parseRanges bs, r.2 < r.1)) ∧
    (∃ (ses : Nat) (bs : List Byte) (s : State), s.served ses = true ∧ (s.session ses).link = 3 ∧ ses < 29 ∧
      bs.length % 4 = 0 ∧ bs.length ≤ 64 ∧ (∀ r ∈ parseRanges bs, r.1 ≤ r.2) ∧
      List.Pairwise (fun p q => p.2 + 1 < q.1) (s.session ses).subs ∧ (∀ p ∈ (s.session ses).subs, p.1 ≤ p.2)) ∧
    (∃ (src : Nat) (n : Nat) (s : State), s.events.started = true ∧ (s.mapEntry src).testBit 31 = true ∧
      s.qRoom (field (s.mapEntry src) 24 3) = true ∧ (s.session n).isOpen = true ∧
      (s.session n).sendq.length < 256 ∧ s.behind src = 0 ∧ subscribed (s.session n).subs src = true) ∧
    (∃ (src : Nat) (n : Nat) (s : State), s.events.started = true ∧ (s.mapEntry src).testBit 31 = true ∧
      s.qRoom (field (s.mapEntry src) 24 3) = true ∧ (s.session n).isOpen = true ∧
      (s.session n).sendq.length < 256 ∧ s.behind src = 0 ∧ subscribed (s.session n).subs src = false) ∧
    (∃ (p : Nat) (n : Nat) (x : Session) (r : ERec) (rest : List ERec) (s : State), p < 2 ∧
      s.power.vaux = true ∧ s.obj 5120 (16 + p) ≠ 1 ∧ (s.gate p).active = none ∧ s.sessions = [(n, x)] ∧
      x.isOpen = true ∧ x.link = 3 ∧ BitVec.toNat (x.peer.headD 0#8) = p ∧ x.sendq = r :: rest) ∧
    (∃ (n : Nat) (r : CloseReason) (s : State), 5 ≤ n ∧ n ≤ 28 ∧ (s.session n).taken = none ∧
      (s.session n).isOpen = true ∧ s.closes n r = true) :=
  ⟨
    ⟨30, [], { }, by decide⟩,
    ⟨5, [0], v3State 64, by decide⟩,
    ⟨5, [1, 0, 0, 0], v3State 64, by decide⟩,
    ⟨5, [5, 0, 9, 0], v3State 64, by decide⟩,
    ⟨0x100, 5, { evOn with sessions := [(5, { isOpen := true, subs := [(0x100, 0x100)] })] }, by decide⟩,
    ⟨0x100, 5, { evOn with sessions := [(5, { isOpen := true })] }, by decide⟩,
    ⟨0, 5, { isOpen := true, link := 3, sendq := [erec] }, erec, [], { sessions := [(5, { isOpen := true, link := 3, sendq := [erec] })] }, by decide⟩,
    ⟨5, .peerClose, v3State 64, by decide⟩⟩

theorem witness_boot_and_update :
    (∃ (s : State), (s.power.watchOn = false ∨ s.boot.verified = true)) ∧
    (∃ (s : State), s.power.watchOn = true ∧ s.boot.verified = false ∧
      s.imageValid s.boot.pref (s.imageAt s.boot.pref) = true) ∧
    (∃ (s : State), s.power.watchOn = true ∧ s.boot.verified = false ∧
      s.imageValid s.boot.pref (s.imageAt s.boot.pref) = false ∧
      s.imageValid (1 - s.boot.pref) (s.imageAt (1 - s.boot.pref)) = true) ∧
    (∃ (s : State), s.power.watchOn = true ∧ s.boot.verified = false ∧
      s.imageValid s.boot.pref (s.imageAt s.boot.pref) = false ∧
      s.imageValid (1 - s.boot.pref) (s.imageAt (1 - s.boot.pref)) = false) ∧
    (∃ (s : State), (s.boot.verified = false ∨ s.boot.firmware = true ∨ s.power.watchOn = false ∨ s.time.running = false)) ∧
    (∃ (s : State), s.boot.verified = true ∧ s.boot.firmware = false ∧ s.power.watchOn = true ∧
      s.time.running = true) ∧
    (∃ (s : State), (s.boot.firmware = false ∨ s.boot.started = true ∨ ∃ p ∈ s.cfgs, p.2.state = 1)) ∧
    (∃ (s : State), s.boot.firmware = true ∧ s.boot.started = false ∧ (∀ p ∈ s.cfgs, p.2.state ≠ 1)) ∧
    (∃ (len : Nat) (bs : List Byte) (s : State), (s.boot.bootField ≠ 2 ∨ ({ bytes := List.take (len % 33554432) bs } : Image).sound = false ∨ ({ bytes := List.take (len % 33554432) bs } : Image).svn < s.boot.fusedSvn)) ∧
    (∃ (ses : Nat) (s : State), Passes ses 6160 5 [1#8] s) ∧
    (∃ (ses : Nat) (v : List Byte) (s : State), Passes ses 6160 6 v s ∧
      16777216 < leAt v 0 4 + (List.drop 4 v).length) ∧
    (∃ (ses : Nat) (v : List Byte) (s : State), Passes ses 6160 6 v s ∧
      leAt v 0 4 + (List.drop 4 v).length ≤ 16777216 ∧ (s.imageAt s.spareSlot).erased = false) ∧
    (∃ (ses : Nat) (v : List Byte) (s : State), Passes ses 6160 6 v s ∧
      leAt v 0 4 + (List.drop 4 v).length ≤ 16777216 ∧ (s.imageAt s.spareSlot).erased = true) ∧
    (∃ (ses : Nat) (s : State), Passes ses 6160 7 [1#8] s ∧ (s.imageAt s.spareSlot).sound = false) ∧
    (∃ (ses : Nat) (s : State), Passes ses 6160 7 [1#8] s ∧ (s.imageAt s.spareSlot).sound = true ∧
      (s.imageAt s.spareSlot).svn < s.boot.fusedSvn) ∧
    (∃ (ses : Nat) (s : State), Passes ses 6160 7 [1#8] s ∧ (s.imageAt s.spareSlot).sound = true ∧
      s.boot.fusedSvn ≤ (s.imageAt s.spareSlot).svn) ∧
    (∃ (ses : Nat) (s : State), Passes ses 6160 8 [1#8] s ∧ s.boot.running ≠ s.boot.pref) ∧
    (∃ (ses : Nat) (s : State), Passes ses 6160 8 [1#8] s ∧ s.boot.running = s.boot.pref) :=
  ⟨
    ⟨{ }, by decide⟩,
    ⟨{ power := { watchOn := true } }, by decide⟩,
    ⟨{ power := { watchOn := true }, boot := { imageA := {}, imageB := { factory := true } } }, by decide⟩,
    ⟨{ power := { watchOn := true }, boot := { imageA := {} } }, by decide⟩,
    ⟨{ }, by decide⟩,
    ⟨{ boot := { verified := true }, power := { watchOn := true }, time := { running := true } }, by decide⟩,
    ⟨{ }, by decide⟩,
    ⟨{ boot := { firmware := true } }, by decide⟩,
    ⟨0, [], { }, by decide⟩,
    ⟨30, { }, by unfold Passes; decide⟩,
    ⟨30, leBytes 4 0x1000000 ++ [0], { }, by unfold Passes; decide⟩,
    ⟨30, leBytes 5 0, { }, by unfold Passes; decide⟩,
    ⟨30, leBytes 5 0, { boot := { imageB := { erased := true } } }, by unfold Passes; decide⟩,
    ⟨30, { }, by unfold Passes; decide⟩,
    ⟨30, { boot := { running := 1, fusedSvn := 64 } }, ⟨by unfold Passes; decide, by decide, Nat.mod_lt _ (by decide)⟩⟩,
    ⟨30, { boot := { running := 1 } }, ⟨by unfold Passes; decide, by decide, Nat.zero_le _⟩⟩,
    ⟨30, { boot := { running := 1 } }, by unfold Passes; decide⟩,
    ⟨30, { }, by unfold Passes; decide⟩⟩

set_option maxRecDepth 100000 in
theorem witness_life_cycle :
    (∃ (ses : Nat) (v : List Byte) (s : State), s.served ses = true ∧ leAt v 0 1 ≠ 4 ∧
      s.writeGate ses 6144 3 v ≠ stOk) ∧
    (∃ (ses : Nat) (v : List Byte) (s : State), s.served ses = true ∧ leAt v 0 1 = 4 ∧ v.length ≠ 96) ∧
    (∃ (ses : Nat) (v : List Byte) (s : State), s.served ses = true ∧ v.length = 96 ∧
      (leAt v 0 1 = 4 ∨ s.writeGate ses 6144 3 v = stOk) ∧ s.lcTokenOk v = false) ∧
    (∃ (ses : Nat) (v : List Byte) (s : State), s.served ses = true ∧ v.length = 96 ∧
      (leAt v 0 1 = 4 ∨ s.writeGate ses 6144 3 v = stOk) ∧ s.lcTokenOk v = true ∧ lcOf (leAt v 0 1) = none) ∧
    (∃ (ses : Nat) (v : List Byte) (s : State) (x : LcState), s.served ses = true ∧ v.length = 96 ∧
      (leAt v 0 1 = 4 ∨ s.writeGate ses 6144 3 v = stOk) ∧ s.lcTokenOk v = true ∧ lcOf (leAt v 0 1) = some x ∧
      (s.life.target ≠ none ∨ s.lcPermits ses x = false)) ∧
    (∃ (ses : Nat) (v : List Byte) (s : State) (x : LcState), s.served ses = true ∧ v.length = 96 ∧
      (leAt v 0 1 = 4 ∨ s.writeGate ses 6144 3 v = stOk) ∧ s.lcTokenOk v = true ∧ lcOf (leAt v 0 1) = some x ∧
      s.life.target = none ∧ s.lcPermits ses x = true ∧ s.lcReady x = false) ∧
    (∃ (ses : Nat) (v : List Byte) (s : State) (x : LcState), s.served ses = true ∧ v.length = 96 ∧
      (leAt v 0 1 = 4 ∨ s.writeGate ses 6144 3 v = stOk) ∧ s.lcTokenOk v = true ∧ lcOf (leAt v 0 1) = some x ∧
      s.life.target = none ∧ s.lcPermits ses x = true ∧ s.lcReady x = true ∧
      (x ≠ LcState.decommissioned ∨ s.active.slots = [])) ∧
    (∃ (ses : Nat) (v : List Byte) (s : State) (x : LcState), s.served ses = true ∧ v.length = 96 ∧
      (leAt v 0 1 = 4 ∨ s.writeGate ses 6144 3 v = stOk) ∧ s.lcTokenOk v = true ∧ lcOf (leAt v 0 1) = some x ∧
      s.life.target = none ∧ s.lcPermits ses x = true ∧ s.lcReady x = true ∧ x = LcState.decommissioned ∧
      s.active.slots ≠ []) ∧
    (∃ (s : State), s.life.target = some LcState.decommissioned ∧ s.active.slots ≠ []) ∧
    (∃ (s : State) (x : LcState), s.life.target = some x ∧ (x = LcState.decommissioned → s.active.slots = [] ∧
      ∀ b ∈ s.batches, b.session ≠ 30)) ∧
    (∃ (s : State), s.power.vaux = false) ∧
    (∃ (n : Nat) (s : State), s.power.vaux = true ∧ s.tamperSources n = 0) ∧
    (∃ (n : Nat) (s : State), s.power.vaux = true ∧ s.tamperSources n ≠ 0) ∧
    (∃ (ses : Nat) (s : State), Passes ses 6144 4 [1#8] s) ∧
    (∃ (s : State), s.power.flush ≠ 3) ∧
    (∃ (s : State), s.power.flush = 3) :=
  ⟨
    ⟨30, [], { }, by decide⟩,
    ⟨30, [4], { }, by decide⟩,
    ⟨30, leBytes 96 (2 ^ 200), { }, ⟨by decide, by decide, .inr (by decide), Bool.and_eq_false_iff.mpr (.inr (by decide))⟩⟩,
    ⟨30, token 5 ({} : State).nonce, { }, ⟨by decide, rfl, .inr (by decide), token_ok 5 {} (by decide), by decide⟩⟩,
    ⟨30, token 2 ({} : State).nonce, { }, .deployed, ⟨by decide, rfl, .inr (by decide), token_ok 2 {} (by decide), by decide, by decide⟩⟩,
    ⟨30, token 2 ({} : State).nonce, { life := { state := .provisioned } }, .deployed, ⟨by decide, rfl, .inr (by decide), token_ok 2 _ (by decide), by decide, by decide, by decide, by decide⟩⟩,
    ⟨30, token 1 ({} : State).nonce, { }, .provisioned, ⟨by decide, rfl, .inr (by decide), token_ok 1 _ (by decide), by decide, by decide, by decide, by decide, by decide⟩⟩,
    ⟨30, token 3 ({} : State).nonce, { life := { state := .deployed }, active := { slots := [(0, { kind := .p2p })] } }, .decommissioned, ⟨by decide, rfl, .inr (by decide), token_ok 3 _ (by decide), by decide, by decide, by decide, by decide, by decide, by decide⟩⟩,
    ⟨{ life := { target := some .decommissioned }, active := { slots := [(0, { kind := .p2p })] } }, by decide⟩,
    ⟨{ life := { target := some .provisioned } }, .provisioned, ⟨by decide, fun h => (nomatch h)⟩⟩,
    ⟨{ power := { vaux := false } }, by decide⟩,
    ⟨0, { }, by decide⟩,
    ⟨2, { }, by decide⟩,
    ⟨30, { }, by unfold Passes; decide⟩,
    ⟨{ }, by decide⟩,
    ⟨{ power := { flush := 3 } }, by decide⟩⟩

set_option maxRecDepth 100000 in
theorem witness_event_records :
    (∃ (src : Nat) (s : State), (s.events.started = false ∨ (s.mapEntry src).testBit 31 = false)) ∧
    (∃ (src : Nat) (s : State), s.events.started = true ∧ (s.mapEntry src).testBit 31 = true ∧
      s.behind src = 0 ∧ s.qRoom (field (s.mapEntry src) 24 3) = true ∧
      (s.queue (field (s.mapEntry src) 24 3)).records = []) ∧
    (∃ (src : Nat) (s : State) (k : Nat), s.events.started = true ∧ (s.mapEntry src).testBit 31 = true ∧
      s.behind src = 0 ∧ s.qRoom (field (s.mapEntry src) 24 3) = true ∧ k ≠ field (s.mapEntry src) 24 3) ∧
    (∃ (src : Nat) (s : State) (k : Nat), s.events.started = true ∧ (s.mapEntry src).testBit 31 = true ∧
      s.behind src = 0 ∧ s.qRoom (field (s.mapEntry src) 24 3) = false ∧
      (s.queue (field (s.mapEntry src) 24 3)).overflow = true ∧ k ≠ field (s.mapEntry src) 24 3) ∧
    (∃ (src : Nat) (s : State), s.events.started = true ∧ (s.mapEntry src).testBit 31 = true ∧
      s.behind src = 0 ∧ s.qRoom (field (s.mapEntry src) 24 3) = false ∧
      (s.queue (field (s.mapEntry src) 24 3)).overflow = false) ∧
    (∃ (src : Nat) (s : State) (n : Nat), s.events.started = true ∧ (s.mapEntry src).testBit 31 = true ∧
      s.behind src = 0 ∧ (s.session n).isOpen = true ∧ subscribed (s.session n).subs src = true ∧
      (s.qRoom (field (s.mapEntry src) 24 3) = true ∨ (s.queue (field (s.mapEntry src) 24 3)).overflow = true) ∧
      (s.session n).sendq.length < 256) ∧
    (∃ (src : Nat) (s : State) (n : Nat), s.events.started = true ∧ (s.mapEntry src).testBit 31 = true ∧
      s.behind src = 0 ∧ (s.session n).isOpen = true ∧ subscribed (s.session n).subs src = true ∧
      (s.qRoom (field (s.mapEntry src) 24 3) = true ∨ (s.queue (field (s.mapEntry src) 24 3)).overflow = true) ∧
      256 ≤ (s.session n).sendq.length) ∧
    (∃ (src : Nat) (s : State), s.events.started = true ∧ (s.mapEntry src).testBit 31 = true ∧
      s.qRoom (field (s.mapEntry src) 24 3) = true ∧ 0 < s.behind src ∧ s.behind src ≤ s.events.last) ∧
    (∃ (q : Nat) (s : State), q < 8 ∧ s.power.vaux = true ∧ s.qMode q = 0 ∧ (s.queue q).records = []) ∧
    (∃ (q : Nat) (s : State) (r : ERec) (rest : List ERec), q < 8 ∧ s.power.vaux = true ∧ s.qMode q = 0 ∧
      (s.queue q).records = r :: rest) ∧
    (∃ (q : Nat) (s : State), q < 8 ∧ s.power.vaux = true ∧ s.qMode q ≠ 0) ∧
    (∃ (q : Nat) (rd : Nat) (at_ : Instant) (s : State), q < 8 ∧ s.qMode q = 1 ∧
      s.live = [{ block := Block.eventBlock, isReg := true, key := 65596 + 256 * q, value := rd, at_ := at_ }] ∧
      at_ < s.time.transitStart ∧ rd < 4096 ∧
      ((s.queue q).wr + 2 ^ field (s.qCtrl q) 12 4 - rd % 2 ^ field (s.qCtrl q) 12 4) % 2 ^ field (s.qCtrl q) 12 4 ≤ (s.queue q).records.length) ∧
    (∃ (q : Nat) (rd : Nat) (at_ : Instant) (s : State), q < 8 ∧ s.qMode q = 1 ∧
      s.live = [{ block := Block.eventBlock, isReg := true, key := 65596 + 256 * q, value := rd, at_ := at_ }] ∧
      at_ < s.time.transitStart ∧ rd < 4096 ∧
      (s.queue q).records.length < ((s.queue q).wr + 2 ^ field (s.qCtrl q) 12 4 - rd % 2 ^ field (s.qCtrl q) 12 4) % 2 ^ field (s.qCtrl q) 12 4) ∧
    (∃ (ses : Nat) (v : List Byte) (s : State), Passes ses 7680 1 v s ∧
      (s.newestEvent < leAt v 0 8 ∨ 8 ≤ leAt v 12 1 ∨ leAt v 12 1 ≠ 0 ∧
      isMailbox (s.linkOf ses) = false ∨ leAt v 13 3 ≠ 0)) ∧
    (∃ (ses : Nat) (v : List Byte) (s : State), Passes ses 7680 1 v s ∧ leAt v 0 8 ≤ s.newestEvent ∧
      leAt v 12 4 = 0 ∧ ses < 29 ∧ (s.session ses).link = 2) ∧
    (∃ (ses : Nat) (v : List Byte) (s : State), Passes ses 7680 1 v s ∧ leAt v 0 8 ≤ s.newestEvent ∧
      leAt v 12 4 = 0 ∧ ses < 29 ∧ (s.session ses).link = 3) ∧
    (∃ (max : Nat), max = 0) ∧
    (∃ (from_ : Nat) (max : Nat) (s : State) (r : ERec), r ∈ s.heldAfter from_ max) ∧
    (∃ (max : Nat), max ≠ 0) ∧
    (∃ (s : State), List.Pairwise (fun a b => b.seq < a.seq) s.events.history) :=
  ⟨
    ⟨0x100, { }, by decide⟩,
    ⟨0x100, evOn, by decide⟩,
    ⟨0x100, evOn, 1, by decide⟩,
    ⟨0x100, { evOn with regs := [(0x10000, 0), (0x11400, 0x80000000)], queues := [(0, { overflow := true })] }, 1, by decide⟩,
    ⟨0x100, { evOn with regs := [(0x10000, 0), (0x11400, 0x80000000)] }, by decide⟩,
    ⟨0x100, { evOn with sessions := [(5, { isOpen := true, subs := [(0x100, 0x100)] })] }, 5, by decide⟩,
    ⟨0x100, { evOn with sessions := [(5, { isOpen := true, subs := [(0x100, 0x100)], sendq := List.replicate 256 erec })] }, 5, by decide⟩,
    ⟨0x100, { evOn with events := { started := true, last := 1, history := [{ erec with seq := 1, source := 0x200 }] } }, by decide⟩,
    ⟨0, { }, by decide⟩,
    ⟨0, { queues := [(0, { records := [erec] })] }, erec, [], by decide⟩,
    ⟨0, { regs := [(0x10000, 4)] }, by decide⟩,
    ⟨0, 0, 0, { regs := [(0x10000, 0x4004)], live := [⟨.eventBlock, true, 0x1003C, 0, 0, 0⟩], time := due }, by decide⟩,
    ⟨0, 15, 0, { regs := [(0x10000, 0x4004)], live := [⟨.eventBlock, true, 0x1003C, 15, 0, 0⟩], time := due }, by decide⟩,
    ⟨30, leBytes 16 1, { }, by unfold Passes; decide⟩,
    ⟨5, leBytes 16 0, { sessions := [(5, { isOpen := true, link := 2 })], objs := [(0x140003, 2)] }, by unfold Passes; decide⟩,
    ⟨5, leBytes 16 0, { sessions := [(5, { isOpen := true, link := 3, role := 2 })] }, by unfold Passes; decide⟩,
    ⟨0, by decide⟩,
    ⟨0, 0, { events := { history := [erec] } }, { erec with flags := 4 }, by decide⟩,
    ⟨1, by decide⟩,
    ⟨{ events := { history := [{ erec with seq := 2 }, erec] } }, by decide⟩⟩

theorem witness_step_runs_front_command :
    (∃ (c : Instr) (rest : List Instr) (s : State), s.pending = c :: rest) ∧
    (∃ (s : State), s.pending = []) :=
  ⟨
    ⟨.startupComplete, [], { pending := [.startupComplete] }, by decide⟩,
    ⟨{ }, by decide⟩⟩

theorem witness_step_keeps_memory_form :
    (∃ (s : State) (t : State), s.memoryWf ∧ step s = Host.Outcome.next t) :=
    ⟨{ mem := [⟨5, 1⟩] }, { mem := [⟨5, 1⟩] }, ⟨⟨by decide, by decide⟩, rfl⟩⟩

theorem witness_step_keeps_histories :
    (∃ (s : State) (t : State), s.historiesBounded ∧ step s = Host.Outcome.next t) :=
    ⟨{ events := { history := [erec] } }, { events := { history := [erec] } }, ⟨⟨by decide, by decide, by decide, by decide⟩, rfl⟩⟩

end Sys2Proof.Tests
end

/-! SUPPORT. Register writes and reads (R4, R22, R23, R385, R413): what the table says of the registers that act at a
write, and one equation of a write for each way it can go. -/
section
namespace Sys2Proof.Machine

/-! ### The register table -/

theorem mem_of_findReg {off : Nat} {r : RegRow} : ∀ {l : List RegRow}, findReg off l = some r → r ∈ l
  | [], h => by simp [findReg] at h
  | x :: rest, h => by
    rw [findReg] at h
    split at h
    · simp_all
    · exact List.mem_cons_of_mem x (mem_of_findReg h)

/-- No register holds quiescent and shadowed fields. -/
theorem regRow_shad_of_quies {off : Nat} {r : RegRow} (h : regRow off = some r) (hq : r.quies ≠ 0) : r.shad = 0 := by
  have table : ∀ x ∈ regTable, x.quies ≠ 0 → x.shad = 0 := by decide
  exact table r (mem_of_findReg h) hq

/-- The quiescent fields of a register are among its settings. -/
theorem regRow_rw_of_quies {off : Nat} {r : RegRow} (h : regRow off = some r) (hq : r.quies ≠ 0) : r.rw ≠ 0 := by
  have table : ∀ x ∈ regTable, x.quies ≠ 0 → x.rw ≠ 0 := by decide
  exact table r (mem_of_findReg h) hq

/-- MBX_STATUS, MBX_REQ_TAIL and MBX_CPL_HEAD hold no quiescent field. -/
theorem regRow_mbx_action {off : Nat} {r : RegRow} (h : regRow off = some r) (hoff : 0x1000 ≤ off ∧ off < 0x1400)
    (ho : off % 0x100 = 4 ∨ off % 0x100 = 0x20 ∨ off % 0x100 = 0x2C) : r.quies = 0 := by
  have table : ∀ n < 4, ∀ o ∈ [4, 0x20, 0x2C], ∀ x ∈ regRow (0x1000 + 0x100 * n + o), x.quies = 0 := by decide
  refine table (off / 0x100 - 0x10) (by omega) (off % 0x100) (by simpa using ho) r ?_
  rw [show 0x1000 + 0x100 * (off / 0x100 - 0x10) + off % 0x100 = off by omega]
  exact h

/-- HKC_STATUS, HKC_SOFT_TRIG and HKC_INJ hold no quiescent field. -/
theorem regRow_hkc_action {off : Nat} {r : RegRow} (h : regRow off = some r) (hoff : 0x370000 ≤ off ∧ off < 0x370200)
    (ho : off % 0x100 = 4 ∨ off % 0x100 = 0x14 ∨ off % 0x100 = 0x18) : r.quies = 0 := by
  have table : ∀ n < 2, ∀ o ∈ [4, 0x14, 0x18], ∀ x ∈ regRow (0x370000 + 0x100 * n + o), x.quies = 0 := by decide
  refine table (off / 0x100 - 0x3700) (by omega) (off % 0x100) (by simpa using ho) r ?_
  rw [show 0x370000 + 0x100 * (off / 0x100 - 0x3700) + off % 0x100 = off by omega]
  exact h

/-! ### A rejected write -/

theorem refuseReg_same (w : Writer) (off : Nat) (s : State) :
    Same { s with reject := insertNum (statusOf off) s.reject } (refuseReg w off s) := by
  refine ⟨?_, ?_⟩
  · rw [refuseReg, rejectWrite_base]; rfl
  · exact rejectWrite_still (statusOf off) w off s

/-! ### Settings -/

theorem writeSettings_live {w : Writer} {off v : Nat} {r : RegRow} {s : State} (hs : r.shad = 0) (hq : r.quies = 0)
    (hl : r.live ≠ 0) : writeSettings w off v r s = waitSetting r.block true off (v &&& r.live) 0 s := by
  simp [writeSettings, hs, hq, hl]

theorem writeSettings_stopped {w : Writer} {off v : Nat} {r : RegRow} {s : State} (hs : r.shad = 0) (hq : r.quies ≠ 0)
    (hl : r.live = 0) (hr : s.regRuns off = false) :
    writeSettings w off v r s = s.setReg off (s.reg off - (s.reg off &&& r.quies) + (v &&& r.quies)) := by
  simp [writeSettings, hs, hq, hl, hr]

theorem writeSettings_running {w : Writer} {off v : Nat} {r : RegRow} {s : State} (hr : s.regRuns off = true)
    (hv : v &&& r.quies ≠ s.reg off &&& r.quies) : writeSettings w off v r s = refuseReg w off s := by
  simp [writeSettings, hr, hv]

/-! ### Which writes are of settings -/

theorem writeRow_refused {w : Writer} {off v : Nat} {r : RegRow} {s : State} (h : s.regBad off v = true) :
    writeRow w off v r s = refuseReg w off s := by
  simp [writeRow, h]

/-- A row without quiescent fields whose live fields are not empty has settings. -/
theorem RegRow.rw_ne_zero_of_live {r : RegRow} (hq : r.quies = 0) (hl : r.live ≠ 0) : r.rw ≠ 0 := by
  simpa [RegRow.live, hq] using hl

/-- A time or thermal register with live settings alone, past the control registers that act at a write. -/
theorem writeRow_live {w : Writer} {off v : Nat} {r : RegRow} {s : State} (h : s.regBad off v = false)
    (hoff : (0x300014 ≤ off ∧ off < 0x300100) ∨ (0x360008 ≤ off ∧ off < 0x370000)) (hq : r.quies = 0)
    (hl : r.live ≠ 0) : writeRow w off v r s = writeSettings w off v r s := by
  have hrw := RegRow.rw_ne_zero_of_live hq hl
  have c1 : ¬ off < 0x1400 := by omega
  have c2 : ¬ off = 0x1400 ∧ ¬ off = 0x1414 ∧ ¬ off = 0x30008 ∧ ¬ off = 0x300010 ∧ ¬ off = 0x360004 := by omega
  have c3 : ¬ off < 0x10000 := by omega
  have c4 : ¬ (off < 0x10800 ∧ off % 0x100 = 0x3C) := by omega
  have c5 : ¬ (0x300200 ≤ off ∧ off < 0x300300 ∧ off % 0x20 = 0) := by omega
  have c6 : ¬ (0x370000 ≤ off ∧ off < 0x370200 ∧ off % 0x100 < 0x40) := by omega
  have c7 : ¬ (0x380000 ≤ off ∧ off < 0x380040) := by omega
  have c8 : ¬ (0x3A0000 ≤ off ∧ off < 0x3A1000) := by omega
  simp only [writeRow, h, c1, c2, c3, c4, c5, c6, c7, c8, hrw, false_and, reduceIte, Bool.false_eq_true]

/-- A quiescent setting of a mailbox ring. -/
theorem writeRow_mbx_quiescent {w : Writer} {off v : Nat} {r : RegRow} {s : State} (h : s.regBad off v = false)
    (hr : regRow off = some r) (hoff : 0x1000 ≤ off ∧ off < 0x1400) (ho : off % 0x100 ≠ 0) (hq : r.quies ≠ 0) :
    writeRow w off v r s = writeSettings w off v r s := by
  have c1 : off < 0x1400 := hoff.2
  have c2 : ¬ off % 0x100 = 4 := fun e => hq (regRow_mbx_action hr hoff (.inl e))
  have c3 : ¬ off % 0x100 = 0x20 := fun e => hq (regRow_mbx_action hr hoff (.inr (.inl e)))
  have c4 : ¬ off % 0x100 = 0x2C := fun e => hq (regRow_mbx_action hr hoff (.inr (.inr e)))
  simp only [writeRow, h, ho, c1, c2, c3, c4, reduceIte, Bool.false_eq_true]

/-- A quiescent setting of a housekeeping converter. -/
theorem writeRow_hkc_quiescent {w : Writer} {off v : Nat} {r : RegRow} {s : State} (h : s.regBad off v = false)
    (hr : regRow off = some r) (hoff : 0x370000 ≤ off ∧ off < 0x370200) (ho : off % 0x100 ≠ 0) (hq : r.quies ≠ 0) :
    writeRow w off v r s = writeSettings w off v r s := by
  have c1 : ¬ off < 0x1400 := by omega
  have c2 : ¬ off = 0x1400 ∧ ¬ off = 0x1414 ∧ ¬ off = 0x30008 ∧ ¬ off = 0x300010 ∧ ¬ off = 0x360004 := by omega
  have c3 : ¬ off < 0x10000 := by omega
  have c4 : ¬ off < 0x10800 := by omega
  have c5 : ¬ off < 0x300300 := by omega
  have c6 : ¬ 0x380000 ≤ off ∧ ¬ 0x3A0000 ≤ off := by omega
  have c7 : ¬ off % 0x100 = 4 := fun e => hq (regRow_hkc_action hr hoff (.inl e))
  have c8 : ¬ off % 0x100 = 0x14 := fun e => hq (regRow_hkc_action hr hoff (.inr (.inl e)))
  have c9 : ¬ off % 0x100 = 0x18 := fun e => hq (regRow_hkc_action hr hoff (.inr (.inr e)))
  have hrw := regRow_rw_of_quies hr hq
  simp only [writeRow, h, ho, c1, c2, c3, c4, c5, c6, c7, c8, c9, hrw, false_and, and_false, reduceIte, ite_self,
    Bool.false_eq_true]

/-- A quiescent setting of a mailbox ring or a housekeeping converter. -/
theorem writeRow_quiescent {w : Writer} {off v : Nat} {r : RegRow} {s : State} (h : s.regBad off v = false)
    (hr : regRow off = some r) (hoff : (0x1000 ≤ off ∧ off < 0x1400) ∨ (0x370000 ≤ off ∧ off < 0x370200))
    (ho : off % 0x100 ≠ 0) (hq : r.quies ≠ 0) : writeRow w off v r s = writeSettings w off v r s :=
  hoff.elim (fun m => writeRow_mbx_quiescent h hr m ho hq) (fun m => writeRow_hkc_quiescent h hr m ho hq)

/-! ### A write at an offset (R4, R385) -/

theorem writeReg_ignored {w : Writer} {off v : Nat} {s : State} (h : off % 4 ≠ 0 ∨ s.power.vaux = false
    ∨ s.regPowered off = false ∨ regRow off = none) : writeReg w off v s = s := by
  unfold writeReg
  obtain h | h | h | h := h
  · simp [h]
  · simp [h]
  · simp [h]
  · simp [h]

theorem writeReg_row {w : Writer} {off v : Nat} {r : RegRow} {s : State} (ha : off % 4 = 0) (hv : s.power.vaux = true)
    (hp : s.regPowered off = true) (hr : regRow off = some r) :
    writeReg w off v s = writeRow w off (v &&& (r.rw ||| r.shad ||| r.act)) r s := by
  simp [writeReg, ha, hv, hp, hr]

/-! ### A read (R388, R413) -/

/-- A read of a register that no read changes answers its value. -/
theorem readReg_plain {l : Link} {off : Nat} {s : State} (ha : off % 4 = 0)
    (h : (0x1000 ≤ off ∧ off < 0x10000) ∨ (0x20000 ≤ off ∧ off < 0x300000) ∨ (0x300200 ≤ off ∧ off < 0x370000)) :
    readReg l off s = give (s.regValue l off) s := by
  have c1 : ¬ off = 0x300000 ∧ ¬ off = 0x10804 ∧ ¬ off = 0x37001C ∧ ¬ off = 0x37011C ∧ ¬ off = 0xC := by omega
  have c2 : ¬ (0x300100 ≤ off ∧ off < 0x300200 ∧ off % 0x20 = 8) := by omega
  have c3 : ¬ (0x10000 ≤ off ∧ off < 0x10800 ∧ off % 0x100 = 0x10) := by omega
  simp only [readReg, ha, c1, c2, c3, ne_eq, not_true_eq_false, reduceIte]

@[simp] theorem give_data (v : Nat) (s : State) : (give v s).out.data = v := rfl

@[simp] theorem give_core (v : Nat) (s : State) : (give v s).core = s.core := rfl

theorem answer_session_self (ses st : Nat) (d : List Byte) (s : State) : (answer ses st d s).session ses =
    { s.session ses with
      resp := some ⟨st, d, d.length⟩, requests := ((s.session ses).requests + 1) % 4294967296 } :=
  mapGet_mapSet_self _ _ _ _

theorem mod_four_of_offsetOk {off : Nat} (h : offsetOk off = true) : off % 4 = 0 := by
  simp only [offsetOk, Bool.and_eq_true, decide_eq_true_eq] at h
  exact h.1

/-! ### The commands -/

theorem gives_registerWrite {w : Writer} {off : Nat} {v : Word} {s : State} {p : State → Prop}
    (h : p (writeReg w off v.toNat s)) : Gives (.registerWrite w off v) s p := ⟨_, rfl, h⟩

theorem registerWrite_ignored {w : Writer} {off : Nat} {v : Word} {s : State} (h : off % 4 ≠ 0 ∨ s.power.vaux = false
    ∨ s.regPowered off = false ∨ regRow off = none) : Gives (.registerWrite w off v) s fun t => t = s :=
  gives_registerWrite (writeReg_ignored h)

section
variable {w : Writer} {off : Nat} {v : Word} {r : RegRow} {s : State}
variable (ha : off % 4 = 0) (hv : s.power.vaux = true) (hp : s.regPowered off = true) (hr : regRow off = some r)
include ha hv hp hr

theorem registerWrite_outOfRange (h : s.regBad off (v.toNat &&& (r.rw ||| r.shad ||| r.act)) = true) :
    Gives (.registerWrite w off v) s fun t => Same { s with reject := insertNum (statusOf off) s.reject } t := by
  apply gives_registerWrite
  rw [writeReg_row ha hv hp hr, writeRow_refused h]
  exact refuseReg_same w off s

theorem registerWrite_live (h : s.regBad off (v.toNat &&& (r.rw ||| r.shad ||| r.act)) = false)
    (hoff : (0x300014 ≤ off ∧ off < 0x300100) ∨ (0x360008 ≤ off ∧ off < 0x370000)) (hs : r.shad = 0)
    (hq : r.quies = 0) (hl : r.live ≠ 0) : Gives (.registerWrite w off v) s fun t => t = { s with live := s.live
      ++ [⟨r.block, true, off, v.toNat &&& (r.rw ||| r.shad ||| r.act) &&& r.live, s.time.elapsed, 0⟩] } := by
  apply gives_registerWrite
  rw [writeReg_row ha hv hp hr, writeRow_live h hoff hq hl, writeSettings_live hs hq hl]
  rfl

theorem registerWrite_stopped (h : s.regBad off (v.toNat &&& (r.rw ||| r.shad ||| r.act)) = false)
    (hoff : (0x1000 ≤ off ∧ off < 0x1400) ∨ (0x370000 ≤ off ∧ off < 0x370200)) (ho : off % 0x100 ≠ 0)
    (hl : r.live = 0) (hq : r.quies ≠ 0) (hrun : s.regRuns off = false) :
    Gives (.registerWrite w off v) s fun t => t = { s with regs := t.regs }
      ∧ t.reg off = s.reg off - (s.reg off &&& r.quies) + (v.toNat &&& (r.rw ||| r.shad ||| r.act) &&& r.quies)
      ∧ ∀ o, o ≠ off → t.reg o = s.reg o := by
  apply gives_registerWrite
  rw [writeReg_row ha hv hp hr, writeRow_quiescent h hr hoff ho hq,
    writeSettings_stopped (regRow_shad_of_quies hr hq) hq hl hrun]
  exact ⟨rfl, by simp, fun o hne => by simp [hne]⟩

theorem registerWrite_running (h : s.regBad off (v.toNat &&& (r.rw ||| r.shad ||| r.act)) = false)
    (hoff : (0x1000 ≤ off ∧ off < 0x1400) ∨ (0x370000 ≤ off ∧ off < 0x370200)) (ho : off % 0x100 ≠ 0)
    (hq : r.quies ≠ 0) (hrun : s.regRuns off = true)
    (hne : v.toNat &&& (r.rw ||| r.shad ||| r.act) &&& r.quies ≠ s.reg off &&& r.quies) :
    Gives (.registerWrite w off v) s fun t => Same { s with reject := insertNum (statusOf off) s.reject } t := by
  apply gives_registerWrite
  rw [writeReg_row ha hv hp hr, writeRow_quiescent h hr hoff ho hq, writeSettings_running hrun hne]
  exact refuseReg_same w off s

end

/-! ### REG_DATA -/

section
variable {ses : Nat} {s : State}

theorem regDataWrite_eq {v : Word} (h : Passes ses 0x1300 2 (leBytes 4 v.toNat) s) :
    exec (.regDataWrite ses v) s = .next (if !offsetOk (s.session ses).regOffset then reply ses stRange s
      else reply ses stOk (writeReg (.session ses) (s.session ses).regOffset v.toNat s)) := by
  change Host.Outcome.next (gated ses 0x1300 2 (leBytes 4 v.toNat) _ s) = _
  rw [gated_pass h]

theorem regDataRead_eq (h : s.served ses = true) : exec (.regDataRead ses) s = .next (readRegData ses s) := by
  change Host.Outcome.next (if s.served ses then readRegData ses s else s) = _
  rw [if_pos h]

theorem regDataWrite_unreachable {v : Word} (h : Passes ses 0x1300 2 (leBytes 4 v.toNat) s)
    (ho : offsetOk (s.session ses).regOffset = false) :
    Gives (.regDataWrite ses v) s fun t => Does ses stRange s s t :=
  ⟨_, by rw [regDataWrite_eq h, ho]; rfl, does_reply ses stRange s s (SessionsStill.refl s)⟩

theorem regDataWrite_registerWrite {v : Word} (h : Passes ses 0x1300 2 (leBytes 4 v.toNat) s)
    (ho : offsetOk (s.session ses).regOffset = true) : ∃ u,
    exec (.registerWrite (.session ses) (s.session ses).regOffset v) s = .next u
      ∧ Gives (.regDataWrite ses v) s fun t => Does ses stOk u u t :=
  ⟨_, rfl, _, by rw [regDataWrite_eq h, ho]; rfl, does_reply ses stOk _ _ (SessionsStill.refl _)⟩

theorem regDataRead_unreachable (h : s.served ses = true) (ho : offsetOk (s.session ses).regOffset = false) :
    Gives (.regDataRead ses) s fun t => Does ses stRange s s t := by
  refine ⟨_, regDataRead_eq h, ?_⟩
  rw [readRegData, ho]
  exact does_reply ses stRange s s (SessionsStill.refl s)

theorem regDataRead_value (h : s.served ses = true) (ho : offsetOk (s.session ses).regOffset = true)
    (hoff : (0x1000 ≤ (s.session ses).regOffset ∧ (s.session ses).regOffset < 0x10000)
      ∨ (0x20000 ≤ (s.session ses).regOffset ∧ (s.session ses).regOffset < 0x300000)
      ∨ (0x300200 ≤ (s.session ses).regOffset ∧ (s.session ses).regOffset < 0x370000)) :
    Gives (.regDataRead ses) s fun t => t.core = s.core ∧ t.out.status = stOk
      ∧ t.out.bytes = leBytes 4 (s.regValue (s.linkOf ses) (s.session ses).regOffset)
      ∧ (t.session ses).resp = some ⟨stOk, t.out.bytes, 4⟩ := by
  refine ⟨_, regDataRead_eq h, ?_⟩
  simp only [readRegData, ho, Bool.not_true, Bool.false_eq_true, reduceIte,
    readReg_plain (mod_four_of_offsetOk ho) hoff, give_data]
  refine ⟨(answer_core _ _ _ _).trans (give_core _ _), rfl, rfl, ?_⟩
  rw [answer_session_self]
  rfl

end

end Sys2Proof.Machine
end

section
open Sys2Proof Sys2Proof.Machine

/-- Settles O26: a write is ignored, rejected, put in force or made to wait by the row that the table has for its
offset, and REG_DATA passes to that write and to the read of the register. -/
theorem registerAccess : Obligations.RegisterAccess := by
  refine ⟨fun w off v s h => registerWrite_ignored h, fun w off v r s ha hv hp hr => ⟨?_, ?_, ?_⟩,
    fun ses v s h => ⟨regDataWrite_unreachable h, regDataWrite_registerWrite h⟩,
    fun ses s h => ⟨regDataRead_unreachable h, regDataRead_value h⟩⟩
  · exact registerWrite_outOfRange ha hv hp hr
  · exact registerWrite_live ha hv hp hr
  · intro hb hoff ho hl hq
    exact ⟨registerWrite_stopped ha hv hp hr hb hoff ho hl hq, registerWrite_running ha hv hp hr hb hoff ho hq⟩

end

/-! SUPPORT. Firmware images (R456): the check value that the engine writes into an image leaves a sound image valid. -/
section
namespace Sys2Proof.Machine

/-! ### Numbers and their bytes -/

@[simp] theorem leBytes_length (n v : Nat) : (leBytes n v).length = n := by
  induction n generalizing v with
  | zero => rfl
  | succ m ih => simp [leBytes, ih]

theorem leNat_leBytes (n v : Nat) : leNat (leBytes n v) = v % 256 ^ n := by
  induction n generalizing v with
  | zero => simp [leBytes, leNat, Nat.mod_one]
  | succ m ih =>
    rw [leBytes, leNat, ih, BitVec.toNat_ofNat, pow_succ' 256]
    exact Nat.mod_mul.symm

/-! ### The check value is a word (R263) -/

theorem crcBit_lt {c : Nat} (h : c < 2 ^ 32) : crcBit c < 2 ^ 32 := by
  unfold crcBit
  split
  · exact Nat.xor_lt_two_pow (by omega) (by decide)
  · omega

theorem crcStep_lt {c : Nat} (h : c < 2 ^ 32) (b : Byte) : crcStep c b < 2 ^ 32 := by
  have hb : b.toNat < 2 ^ 32 := lt_of_lt_of_le b.isLt (by decide)
  exact crcBit_lt (crcBit_lt (crcBit_lt (crcBit_lt (crcBit_lt (crcBit_lt (crcBit_lt (crcBit_lt
    (Nat.xor_lt_two_pow h hb))))))))

theorem crcFeed_lt {c : Nat} (h : c < 2 ^ 32) (bs : List Byte) : crcFeed c bs < 2 ^ 32 := by
  induction bs generalizing c with
  | nil => exact h
  | cons b rest ih => exact ih (crcStep_lt h b)

theorem crc32c_lt (ctx : Nat) (bs : List Byte) : crc32c ctx bs < 2 ^ 32 :=
  Nat.xor_lt_two_pow (crcFeed_lt (crcFeed_lt (by decide) _) _) (by decide)

/-! ### A stored image -/

@[simp] theorem Image.store_factory (k : Nat) (i : Image) : (i.store k).factory = i.factory := rfl

@[simp] theorem Image.store_erased (k : Nat) (i : Image) : (i.store k).erased = false := rfl

/-- The header of a sound image that is not the factory's lies within its bytes. -/
theorem Image.length_of_sound {i : Image} (h : i.sound = true) (hf : i.factory = false) : 128 ≤ i.bytes.length := by
  simp only [Image.sound, hf, Bool.false_eq_true, reduceIte, Bool.and_eq_true, decide_eq_true_eq] at h
  omega

section
variable {i : Image} (hn : 128 ≤ i.bytes.length) (k : Nat)
include hn

theorem Image.store_take : (i.store k).bytes.take 124 = i.bytes.take 124 := by
  rw [Image.store, List.append_assoc, List.take_left' (by simp; omega)]

theorem Image.store_drop : (i.store k).bytes.drop 128 = i.bytes.drop 128 := by
  rw [Image.store, List.drop_left' (by simp; omega)]

theorem Image.store_check : leAt (i.store k).bytes 124 4 = i.checkAt k := by
  rw [leAt, Image.store, List.append_assoc, List.drop_left' (by simp; omega), List.take_left' (by simp),
    leNat_leBytes]
  exact Nat.mod_eq_of_lt (crc32c_lt _ _)

theorem Image.store_length : (i.store k).bytes.length = i.bytes.length := by
  simp [Image.store]
  omega

theorem Image.store_header {off n : Nat} (h : off + n ≤ 124) :
    ((i.store k).bytes.drop off).take n = (i.bytes.drop off).take n := by
  have part (bs : List Byte) : (bs.drop off).take n = ((bs.take 124).drop off).take n := by
    rw [List.drop_take, List.take_take, Nat.min_eq_left (by omega)]
  rw [part, Image.store_take hn, ← part]

theorem Image.store_leAt {off n : Nat} (h : off + n ≤ 124) : leAt (i.store k).bytes off n = leAt i.bytes off n := by
  rw [leAt, Image.store_header hn k h, ← leAt]

theorem Image.store_body : (i.store k).body = i.body := by
  rw [Image.body, Image.store_drop hn, Image.store_leAt hn k (by decide), ← Image.body]

theorem Image.store_checkAt : (i.store k).checkAt k = i.checkAt k := by
  rw [Image.checkAt, Image.store_take hn, Image.store_body hn, ← Image.checkAt]

end

theorem Image.store_svn {i : Image} (h : i.sound = true) (k : Nat) : (i.store k).svn = i.svn := by
  cases hf : i.factory with
  | true => simp [Image.svn, hf]
  | false => simp [Image.svn, hf, Image.store_leAt (Image.length_of_sound h hf) k]

theorem Image.store_sound {i : Image} (h : i.sound = true) (k : Nat) : (i.store k).sound = true := by
  cases hf : i.factory with
  | true => simp [Image.sound, hf]
  | false =>
    have hn := Image.length_of_sound h hf
    have signed : (i.store k).bytes.take 52 = i.bytes.take 52 := Image.store_header hn k (off := 0) (by decide)
    rw [← h]
    simp [Image.sound, hf, Image.store_leAt hn, Image.store_length hn, Image.store_body hn, signed,
      Image.store_header hn]

/-- A sound image that the engine stores is valid, where its SVN is high enough (R456). -/
theorem imageValid_store {s : State} {i : Image} (h : i.sound = true) (hs : s.boot.fusedSvn ≤ i.svn) (k : Nat) :
    s.imageValid k (i.store k) = true := by
  have hc : i.factory = true ∨ leAt (i.store k).bytes 124 4 = (i.store k).checkAt k := by
    cases hf : i.factory with
    | true => exact .inl rfl
    | false =>
      have hn := Image.length_of_sound h hf
      exact .inr (by rw [Image.store_check hn, Image.store_checkAt hn])
  simp [State.imageValid, Image.store_sound h, Image.store_svn h, hs, hc]

@[simp] theorem State.imageAt_setImage (s : State) (k : Nat) (i : Image) : (s.setImage k i).imageAt k = i := by
  unfold State.setImage State.imageAt
  by_cases h : k = 0 <;> simp [h]

theorem State.setImage_running (s : State) (k : Nat) (i : Image) :
    (s.setImage k i).boot.running = s.boot.running := by
  unfold State.setImage; split <;> rfl

theorem State.setImage_fusedSvn (s : State) (k : Nat) (i : Image) :
    (s.setImage k i).boot.fusedSvn = s.boot.fusedSvn := by
  unfold State.setImage; split <;> rfl

/-- The validity of an image asks only for FUSED_SVN of the state. -/
theorem imageValid_congr {s t : State} (h : t.boot.fusedSvn = s.boot.fusedSvn) (k : Nat) (i : Image) :
    t.imageValid k i = s.imageValid k i := by
  rw [State.imageValid, h, ← State.imageValid]

/-! ### Bytes written into a slot (R458) -/

/-- Erased bytes bring a slot's bytes up to an offset. -/
def padErased (bs : List Byte) (off : Nat) : List Byte :=
  if bs.length < off then bs ++ List.replicate (off - bs.length) 0xFF#8 else bs

theorem writeImage_eq (bs data : List Byte) (off : Nat) : writeImage bs off data =
    (padErased bs off).take off ++ data ++ (padErased bs off).drop (off + data.length) := rfl

theorem padErased_length (bs : List Byte) (off : Nat) : off ≤ (padErased bs off).length := by
  unfold padErased
  split
  · simp; omega
  · omega

theorem padErased_getElem? {bs : List Byte} {k : Nat} (off : Nat) (h : k < bs.length) :
    (padErased bs off)[k]? = bs[k]? := by
  unfold padErased
  split
  · exact List.getElem?_append_left h
  · rfl

/-- The bytes in front of a write end where it begins. -/
theorem padErased_take_length (bs : List Byte) (off : Nat) : ((padErased bs off).take off).length = off := by
  rw [List.length_take, Nat.min_eq_left (padErased_length bs off)]

theorem writeImage_written (bs data : List Byte) (off j : Nat) (h : j < data.length) :
    (writeImage bs off data)[off + j]? = data[j]? := by
  rw [writeImage_eq, List.append_assoc, List.getElem?_append_right (by simp), padErased_take_length,
    Nat.add_sub_cancel_left, List.getElem?_append_left h]

theorem writeImage_kept (bs data : List Byte) (off k : Nat) (h : k < off ∨ off + data.length ≤ k)
    (hk : k < bs.length) : (writeImage bs off data)[k]? = bs[k]? := by
  rw [writeImage_eq, ← padErased_getElem? off hk]
  obtain h | h := h
  · rw [List.append_assoc, List.getElem?_append_left (by rw [padErased_take_length]; exact h),
      List.getElem?_take_of_lt h]
  · rw [List.getElem?_append_right (by rw [List.length_append, padErased_take_length]; exact h),
      List.length_append, padErased_take_length, List.getElem?_drop, Nat.add_sub_cancel' h]

end Sys2Proof.Machine
end

/-! SUPPORT. Boot and update (R6, R74, R119, R209, R451, R456 to R458): what the start of the firmware and of the
sessions sets, and what each update command leaves. -/
section
namespace Sys2Proof.Machine

/-! ### What an answered command leaves -/

theorem State.core_of_base {s t : State} (h : t.base = s.base) : t.core = s.core :=
  congrArg (fun b : State => { b with out := {} }) h

theorem Does.of_core {ses st : Nat} {s u v t : State} (h : Does ses st s u t) (e : u.core = v.core) :
    Does ses st s v t := ⟨h.1, h.2.trans e⟩

/-! ### Boot of an image (R451, R457) -/

/-- With the Watch domain every element is at rest. -/
theorem watchDown_elem_mode (s : State) (e : Nat) : ((watchDown s).elem e).mode = .parked := by
  have parked (l : SMap Elem) : (mapGet ((l.map fun p => (p.1, restElem p.2)).filter
      fun p => decide (p.2 ≠ {})) e {}).mode = .parked := by
    induction l with
    | nil => rfl
    | cons p rest ih =>
      rw [List.map_cons, List.filter_cons]
      split
      · rw [mapGet]
        split
        · rfl
        · exact ih
      · exact ih
  exact parked _

theorem keeperInit_keeps (s : State) : (keeperInit s).boot = s.boot ∧ (keeperInit s).time = s.time
    ∧ (keeperInit s).objs = s.objs := by
  unfold keeperInit
  simp only
  split
  · exact ⟨rfl, rfl, rfl⟩
  · simp

theorem watchDown_keeps (s : State) : (watchDown s).boot = s.boot ∧ (watchDown s).time = s.time
    ∧ (watchDown s).objs = s.objs := keeperInit_keeps s

/-- The boot ROM runs the image in slot `k`; `f` is BOOT. -/
def State.runImage (s : State) (k f : Nat) : State :=
  { s with boot := { s.boot with running := k, bootField := f, verified := true } }

/-- The boot ROM finds no valid image: Watch stays off. -/
def State.noImage (s : State) : State := { watchDown s with boot := { (watchDown s).boot with bootField := 2 } }

section
variable {s : State}

theorem bootImageVerify_idle (h : s.power.watchOn = false ∨ s.boot.verified = true) :
    Gives .bootImageVerify s fun t => t = s := by
  refine ⟨_, rfl, if_pos ?_⟩
  simpa using h

theorem bootImageVerify_runs (hw : s.power.watchOn = true) (hv : s.boot.verified = false) :
    exec .bootImageVerify s = .next (
      if s.imageValid s.boot.pref (s.imageAt s.boot.pref) then s.runImage s.boot.pref 0
      else if s.imageValid (1 - s.boot.pref) (s.imageAt (1 - s.boot.pref)) then s.runImage (1 - s.boot.pref) 1
      else s.noImage) :=
  congrArg Host.Outcome.next (if_neg (by simp [hw, hv]))

variable (hw : s.power.watchOn = true) (hv : s.boot.verified = false)
include hw hv

theorem bootImageVerify_preferred (hp : s.imageValid s.boot.pref (s.imageAt s.boot.pref) = true) :
    Gives .bootImageVerify s fun t => t = s.runImage s.boot.pref 0 :=
  ⟨_, bootImageVerify_runs hw hv, if_pos hp⟩

theorem bootImageVerify_fallback (hp : s.imageValid s.boot.pref (s.imageAt s.boot.pref) = false)
    (ho : s.imageValid (1 - s.boot.pref) (s.imageAt (1 - s.boot.pref)) = true) :
    Gives .bootImageVerify s fun t => t = s.runImage (1 - s.boot.pref) 1 :=
  ⟨_, bootImageVerify_runs hw hv, (if_neg (by simp [hp])).trans (if_pos ho)⟩

theorem bootImageVerify_noImage (hp : s.imageValid s.boot.pref (s.imageAt s.boot.pref) = false)
    (ho : s.imageValid (1 - s.boot.pref) (s.imageAt (1 - s.boot.pref)) = false) :
    Gives .bootImageVerify s fun t => t.power.watchOn = false ∧ t.boot.bootField = 2
      ∧ t.boot.running = s.boot.running ∧ t.time = s.time ∧ t.objs = s.objs ∧ ∀ e, (t.elem e).mode = .parked := by
  obtain ⟨hboot, htime, hobjs⟩ := watchDown_keeps s
  have none_valid : exec .bootImageVerify s = .next s.noImage := by
    rw [bootImageVerify_runs hw hv, if_neg (by simp [hp]), if_neg (by simp [ho])]
  exact ⟨_, none_valid, rfl, rfl, (congrArg Boot.running hboot :), htime, hobjs, watchDown_elem_mode s⟩

end

/-! ### Recovery (R457) -/

theorem releaseAnvils_keeps (s : State) : (releaseAnvils s).boot = s.boot ∧ (releaseAnvils s).power = s.power :=
  ⟨forEach_keeps _ State.boot (fun v t => by cases v <;> rfl) _ _,
    forEach_keeps _ State.power (fun v t => by cases v <;> rfl) _ _⟩

theorem watchUp_boot (s : State) : (watchUp s).boot = s.boot := by
  unfold watchUp
  simp only
  split
  · exact (releaseAnvils_keeps _).1
  · exact (releaseAnvils_keeps _).1

theorem watchUp_watchOn (s : State) : (watchUp s).power.watchOn = true := by
  unfold watchUp
  simp only
  split
  · exact congrArg Power.watchOn (releaseAnvils_keeps _).2
  · exact congrArg Power.watchOn (releaseAnvils_keeps _).2

theorem startUp_boot (s : State) : (startUp s).boot = s.boot := by
  unfold startUp
  split
  · exact watchUp_boot s
  · rfl

theorem startUp_watchOn {s : State} (ha : s.power.vaux = true) (hm : s.power.vmain = true)
    (hr : s.power.modResetHeld = false) (ht : s.thermal.trip = false) : (startUp s).power.watchOn = true := by
  unfold startUp
  split
  · exact watchUp_watchOn s
  · simp_all

/-- An image loaded in NO_IMAGE stands in slot A, to be booted. -/
def State.recovered (s : State) (n : Nat) (i : Image) : State :=
  let s2 := (s.setReg 0x30018 n).setImage 0 (i.store 0)
  { s2 with boot := { s2.boot with bootField := 0, verified := false } }

section
variable {s : State} {len : Nat} {bs : List Byte} {i : Image} (hi : i = { bytes := bs.take (len % 33554432) })
include hi

theorem bootRecoveryLoad_length (h : s.boot.bootField ≠ 2 ∨ i.sound = false ∨ i.svn < s.boot.fusedSvn) :
    Gives (.bootRecoveryLoad len bs) s fun t => t = s.setReg 0x30018 (len % 33554432) := by
  subst hi
  refine ⟨_, rfl, if_pos ?_⟩
  simp only [State.setReg_boot]
  obtain h | h | h := h
  · exact .inl h
  · exact .inr (.inr (.inr (.inl (by simp [h]))))
  · exact .inr (.inr (.inr (.inr h)))

theorem bootRecoveryLoad_restarts (hb : s.boot.bootField = 2) (hw : s.power.watchOn = false)
    (hl : len % 33554432 ≤ bs.length) (hs : i.sound = true) (hn : s.boot.fusedSvn ≤ i.svn) :
    Gives (.bootRecoveryLoad len bs) s fun t =>
      t.boot = { s.boot with imageA := i.store 0, bootField := 0, verified := false }
        ∧ t.imageValid 0 t.boot.imageA = true
        ∧ (s.power.vaux = true → s.power.vmain = true → s.power.modResetHeld = false → s.thermal.trip = false →
            t.power.watchOn = true) := by
  subst hi
  have restarts : exec (.bootRecoveryLoad len bs) s = .next (startUp (s.recovered (len % 33554432)
      { bytes := bs.take (len % 33554432) })) := by
    refine congrArg Host.Outcome.next (if_neg ?_)
    simp [hb, hw, hs, hl, hn]
  have hboot := startUp_boot (s.recovered (len % 33554432) { bytes := bs.take (len % 33554432) })
  have hfused := (congrArg Boot.fusedSvn hboot).trans (State.setImage_fusedSvn _ _ _)
  refine ⟨_, restarts, hboot, ?_, fun ha hm hr ht => startUp_watchOn ha hm hr ht⟩
  rw [hboot, imageValid_congr (s := s) hfused]
  exact imageValid_store hs hn 0

end

/-! ### Update (R458) -/

section
variable {ses : Nat} {s : State}

theorem fwUpdateStart_does (h : Passes ses 0x1810 5 [1#8] s) : Gives (.fwUpdateStart ses 1) s fun t =>
    Does ses stOk s { s with boot := t.boot } t
      ∧ t.boot = { (s.setImage s.spareSlot { erased := true }).boot with pref := s.boot.running } := by
  refine ⟨_, congrArg Host.Outcome.next (gated_pass h _), ?_, rfl⟩
  exact does_reply ses stOk s _ (SessionsStill.of_eq rfl)

/-- The spare slot's image with a FW_UPDATE_DATA written into it. -/
def State.spareWritten (s : State) (v : List Byte) : Image :=
  { s.imageAt s.spareSlot with bytes := writeImage (s.imageAt s.spareSlot).bytes (leAt v 0 4) (v.drop 4) }

section
variable {v : List Byte} (h : Passes ses 0x1810 6 v s)
include h

theorem fwUpdateData_eq : exec (.fwUpdateData ses v) s = .next (
    if 16777216 < leAt v 0 4 + (v.drop 4).length then reply ses stRange s
    else if !(s.imageAt s.spareSlot).erased then reply ses stNotEligible s
    else reply ses stOk (s.setImage s.spareSlot (s.spareWritten v))) :=
  congrArg Host.Outcome.next (gated_pass h _)

theorem fwUpdateData_beyond (hl : 16777216 < leAt v 0 4 + (v.drop 4).length) :
    Gives (.fwUpdateData ses v) s fun t => Does ses stRange s s t :=
  ⟨_, by rw [fwUpdateData_eq h, if_pos hl], does_reply ses stRange s s (SessionsStill.refl s)⟩

theorem fwUpdateData_unerased (hl : leAt v 0 4 + (v.drop 4).length ≤ 16777216)
    (he : (s.imageAt s.spareSlot).erased = false) :
    Gives (.fwUpdateData ses v) s fun t => Does ses stNotEligible s s t :=
  ⟨_, by rw [fwUpdateData_eq h, if_neg (by omega), if_pos (by simp [he])],
    does_reply ses stNotEligible s s (SessionsStill.refl s)⟩

theorem fwUpdateData_writes (hl : leAt v 0 4 + (v.drop 4).length ≤ 16777216)
    (he : (s.imageAt s.spareSlot).erased = true) : Gives (.fwUpdateData ses v) s fun t =>
      Does ses stOk s (s.setImage s.spareSlot { s.imageAt s.spareSlot with bytes := (t.imageAt s.spareSlot).bytes }) t
        ∧ (∀ j, j < (v.drop 4).length → (t.imageAt s.spareSlot).bytes[leAt v 0 4 + j]? = (v.drop 4)[j]?)
        ∧ (∀ k, (k < leAt v 0 4 ∨ leAt v 0 4 + (v.drop 4).length ≤ k) → k < (s.imageAt s.spareSlot).bytes.length →
            (t.imageAt s.spareSlot).bytes[k]? = (s.imageAt s.spareSlot).bytes[k]?) := by
  have writes : exec (.fwUpdateData ses v) s = .next (reply ses stOk (s.setImage s.spareSlot (s.spareWritten v))) := by
    rw [fwUpdateData_eq h, if_neg (by omega), if_neg (by simp [he])]
  have spare : (reply ses stOk (s.setImage s.spareSlot (s.spareWritten v))).imageAt s.spareSlot = s.spareWritten v :=
    State.imageAt_setImage s s.spareSlot (s.spareWritten v)
  refine ⟨_, writes, ?_, ?_, ?_⟩
  · rw [spare]
    exact does_reply ses stOk s _ (SessionsStill.of_eq rfl)
  · intro j hj
    rw [spare]
    exact writeImage_written _ _ _ j hj
  · intro k hk hn
    rw [spare]
    exact writeImage_kept _ _ _ k hk hn

end

/-- The update is committed: the spare slot's image gets its CHECK, and BOOT_PREF names it. -/
def State.committed (s : State) : State :=
  { s with boot :=
    { (s.setImage s.spareSlot ((s.imageAt s.spareSlot).store s.spareSlot)).boot with pref := s.spareSlot } }

theorem State.committed_image (s : State) :
    s.committed.imageAt s.spareSlot = (s.imageAt s.spareSlot).store s.spareSlot :=
  State.imageAt_setImage s s.spareSlot _

section
variable (h : Passes ses 0x1810 7 [1#8] s)
include h

theorem fwUpdateCommit_eq : exec (.fwUpdateCommit ses 1) s = .next (
    if !(s.imageAt s.spareSlot).sound then reply ses stCheckFail s
    else if (s.imageAt s.spareSlot).svn < s.boot.fusedSvn then reply ses stPrecondition s
    else reply ses stOk (raiseEv 0x083 [] s.committed)) :=
  congrArg Host.Outcome.next (gated_pass h _)

theorem fwUpdateCommit_unsound (hs : (s.imageAt s.spareSlot).sound = false) :
    Gives (.fwUpdateCommit ses 1) s fun t => Does ses stCheckFail s s t :=
  ⟨_, by rw [fwUpdateCommit_eq h, if_pos (by simp [hs])], does_reply ses stCheckFail s s (SessionsStill.refl s)⟩

theorem fwUpdateCommit_older (hs : (s.imageAt s.spareSlot).sound = true)
    (hn : (s.imageAt s.spareSlot).svn < s.boot.fusedSvn) :
    Gives (.fwUpdateCommit ses 1) s fun t => Does ses stPrecondition s s t :=
  ⟨_, by rw [fwUpdateCommit_eq h, if_neg (by simp [hs]), if_pos hn],
    does_reply ses stPrecondition s s (SessionsStill.refl s)⟩

theorem fwUpdateCommit_prefers (hs : (s.imageAt s.spareSlot).sound = true)
    (hn : s.boot.fusedSvn ≤ (s.imageAt s.spareSlot).svn) : Gives (.fwUpdateCommit ses 1) s fun t =>
      Does ses stOk s { s with boot := t.boot } t ∧ t.boot.pref = s.spareSlot ∧ t.boot.fusedSvn = s.boot.fusedSvn
        ∧ t.boot.running = s.boot.running
        ∧ t.imageAt t.boot.pref = (s.imageAt s.spareSlot).store s.spareSlot
        ∧ t.imageValid t.boot.pref (t.imageAt t.boot.pref) = true := by
  have commits : exec (.fwUpdateCommit ses 1) s = .next (reply ses stOk (raiseEv 0x083 [] s.committed)) := by
    rw [fwUpdateCommit_eq h, if_neg (by simp [hs]), if_neg (by omega)]
  have hboot : (reply ses stOk (raiseEv 0x083 [] s.committed)).boot = s.committed.boot := raiseEv_boot _ _ _
  have still : SessionsStill s (raiseEv 0x083 [] s.committed) :=
    SessionsStill.trans (SessionsStill.of_eq (t := s.committed) rfl) (raiseEv_still 0x083 [] s.committed)
  have himage : (reply ses stOk (raiseEv 0x083 [] s.committed)).imageAt s.spareSlot
      = (s.imageAt s.spareSlot).store s.spareSlot := by
    rw [State.imageAt, hboot, ← State.imageAt, State.committed_image]
  have hfused : s.committed.boot.fusedSvn = s.boot.fusedSvn := State.setImage_fusedSvn _ _ _
  refine ⟨_, commits, ?_, ?_, ?_, ?_, ?_, ?_⟩
  · rw [hboot]
    exact Does.of_core (does_reply ses stOk s _ still) (State.core_of_base (raiseEv_base 0x083 [] s.committed))
  · rw [hboot]; rfl
  · rw [hboot, hfused]
  · rw [hboot]; exact State.setImage_running _ _ _
  · rw [hboot]; exact himage
  · rw [hboot, imageValid_congr ((congrArg Boot.fusedSvn hboot).trans hfused)]
    exact himage ▸ imageValid_store hs hn s.spareSlot

end

theorem fwConfirm_eq (h : Passes ses 0x1810 8 [1#8] s) : exec (.fwConfirm ses 1) s = .next (
    if s.boot.running ≠ s.boot.pref then reply ses stNotEligible s
    else reply ses stOk { s with boot := { s.boot with
      fusedSvn := max s.boot.fusedSvn (s.imageAt s.boot.running).svn } }) :=
  congrArg Host.Outcome.next (gated_pass h _)

theorem fwConfirm_other (h : Passes ses 0x1810 8 [1#8] s) (hr : s.boot.running ≠ s.boot.pref) :
    Gives (.fwConfirm ses 1) s fun t => Does ses stNotEligible s s t :=
  ⟨_, by rw [fwConfirm_eq h, if_pos hr], does_reply ses stNotEligible s s (SessionsStill.refl s)⟩

theorem fwConfirm_raises (h : Passes ses 0x1810 8 [1#8] s) (hr : s.boot.running = s.boot.pref) :
    Gives (.fwConfirm ses 1) s fun t => Does ses stOk s { s with boot := { s.boot with
      fusedSvn := max s.boot.fusedSvn (s.imageAt s.boot.running).svn } } t :=
  ⟨_, by rw [fwConfirm_eq h, if_neg (not_not.2 hr)], does_reply ses stOk s _ (SessionsStill.of_eq rfl)⟩

end

end Sys2Proof.Machine
end

/-! SUPPORT. The start of the firmware and of the sessions (R6, R74, R119, R209, R451). -/
section
namespace Sys2Proof.Machine

/-! ### Stages of the firmware's start -/

/-- What the firmware's start is stated about: the state without what its calibration, its notch slots, its gate lists
and its records change. -/
def State.bootFrame (s : State) : State :=
  { s.base with
    cal := {}, elems := [], notches := [], legs := [], digest := [], gate0 := {}, gate1 := {}
    boot := { s.boot with calUsable := false } }

theorem State.bootFrame_of_base {s t : State} (h : t.base = s.base) : t.bootFrame = s.bootFrame :=
  congrArg (fun b : State => { b with
    cal := {}, elems := [], notches := [], legs := [], digest := [], gate0 := {}, gate1 := {}
    boot := { b.boot with calUsable := false } }) h

theorem placeWaiting_base (s : State) : (placeWaiting s).base = s.base :=
  (forEach_keeps auditBody State.base auditBody_base s.audit.waiting _).trans rfl

theorem restoreAudit_base (s : State) : (restoreAudit s).base = s.base := by
  have closed (u : State) : (if s.audit.flushOpen then closeEpoch u else u).base = u.base := by
    split
    · exact (closeEpoch_keeps u).1
    · rfl
  have placed (l : Nat) (u : State) : (placeWaiting (gapIfDue (openEpoch l u))).base = u.base := by
    rw [placeWaiting_base, (gapIfDue_keeps _).1, (openEpoch_keeps l u).1]
  unfold restoreAudit
  simp only
  split
  · rw [raiseEv_base, placed]
    exact closed _
  · rw [placed]
    exact closed _

theorem calRecord_base (ty r slot why seq u : Nat) (s : State) : (calRecord ty r slot why seq u s).base = s.base :=
  audit_base _ _ s

theorem bootSlot_bootFrame (t layer k : Nat) (s : State) : (bootSlot t layer k s).bootFrame = s.bootFrame := by
  apply State.bootFrame_of_base
  by_cases good : (if layer = 0 then (s.calType t).factoryGood k else (s.calType t).slotGood t k) = true
  · rw [bootSlot, if_pos good]
  · rw [bootSlot, if_neg good, calRecord_base, raiseEv_base]

theorem setCalType_bootFrame (t : Nat) (c : CalType) (s : State) : (s.setCalType t c).bootFrame = s.bootFrame := rfl

theorem bootType_bootFrame (unit t : Nat) (s : State) : (bootType unit t s).bootFrame = s.bootFrame := by
  unfold bootType
  simp only
  split
  · rw [State.bootFrame_of_base (calRecord_base _ _ _ _ _ _ _), setResult]
    simp only [setCalType_bootFrame, bootSlot_bootFrame]
  · simp only [setCalType_bootFrame, bootSlot_bootFrame]

theorem calUsable_bootFrame (u : Bool) (s : State) :
    State.bootFrame { s with boot := { s.boot with calUsable := u } } = s.bootFrame := rfl

theorem cal_bootFrame (c : Cal) (s : State) : State.bootFrame { s with cal := c } = s.bootFrame := rfl

theorem bootCal_bootFrame (s : State) : (bootCal s).bootFrame = s.bootFrame := by
  have types (u : Nat) (l : List Nat) (x : State) : (forEach (bootType u) l x).bootFrame = x.bootFrame :=
    forEach_keeps _ State.bootFrame (bootType_bootFrame u) l x
  have slots (l : List Nat) (x : State) : (forEach (fun k v => bootSlot 9 0 k v) l x).bootFrame = x.bootFrame :=
    forEach_keeps _ State.bootFrame (fun k v => bootSlot_bootFrame 9 0 k v) l x
  have events (l : List Nat) (x : State) :
      (forEach (fun t v => raiseEv 0x076 (calPayload t 0 0 0xFFFF) v) l x).bootFrame = x.bootFrame :=
    forEach_keeps _ State.bootFrame (fun t v => State.bootFrame_of_base (raiseEv_base _ _ v)) l x
  refine (calUsable_bootFrame _ _).trans ?_
  rw [events, slots, types, cal_bootFrame]

theorem assignNotch_bootFrame (e use : Nat) (f : F64) (s : State) : (assignNotch e use f s).bootFrame = s.bootFrame := by
  unfold assignNotch
  split
  · rfl
  · split <;> rfl

theorem alwaysNotches_bootFrame (s : State) : (alwaysNotches s).bootFrame = s.bootFrame := by
  refine forEach_keeps _ State.bootFrame (fun e t => ?_) _ s
  split
  · exact assignNotch_bootFrame _ _ _ t
  · rfl

theorem bootConfig_bootFrame (s : State) : (bootConfig s).bootFrame =
    { s.bootFrame with
      genEpoch := (s.bootFrame.genEpoch + 1) % 16777216, genCount := 0, active := {}, digests := [] } :=
  (alwaysNotches_bootFrame _).trans rfl

/-- Stored configurations as the firmware's start leaves them: those that hold a body compile again. -/
def compiling (l : SMap StoredCfg) : SMap StoredCfg :=
  l.map fun p => (p.1, if p.2.state = 0 then p.2 else { p.2 with state := 1, image := {} })

theorem compiling_state {l : SMap StoredCfg} {p : Nat × StoredCfg} (h : p ∈ compiling l) :
    p.2.state = 0 ∨ p.2.state = 1 := by
  obtain ⟨q, -, rfl⟩ := List.mem_map.1 h
  by_cases empty : q.2.state = 0 <;> simp [empty]

theorem bootCfgs_bootFrame (s : State) :
    (bootCfgs s).bootFrame = { s.bootFrame with cfgs := compiling s.bootFrame.cfgs } := rfl

/-! ### Gates (R6, R433) -/

theorem setGate_bootFrame (p : Nat) (g : Gate) (s : State) : (s.setGate p g).bootFrame = s.bootFrame := rfl

@[simp] theorem State.gate_setGate_self (p : Nat) (g : Gate) (s : State) : (s.setGate p g).gate p = g := by
  unfold State.gate State.setGate
  split <;> rfl

@[simp] theorem State.setGate_setGate (p : Nat) (g k : Gate) (s : State) :
    (s.setGate p g).setGate p k = s.setGate p k := by
  unfold State.setGate
  by_cases h : p = 0 <;> simp [h]

/-- Scheduling a port's committed list changes nothing but the instant of its change. -/
theorem scheduleGate_setGate (p : Nat) (g : Gate) (s : State) :
    ∃ c, scheduleGate p (s.setGate p g) = s.setGate p { g with changeAt := c } := by
  unfold scheduleGate
  simp only [State.gate_setGate_self, State.setGate_setGate]
  split
  · exact ⟨g.changeAt, rfl⟩
  · exact ⟨_, rfl⟩

/-- The boot of a port's gates replaces that port's gates alone, with GATE_ENABLE as stored. -/
theorem bootGate_cases (p : Nat) (s : State) :
    ∃ g : Gate, bootGate p s = s.setGate p g ∧ g.enable = decide (s.obj (0x3540 + p) 1 = 1) := by
  unfold bootGate
  simp only
  split
  · exact ⟨_, rfl, rfl⟩
  · split
    · obtain ⟨c, scheduled⟩ := scheduleGate_setGate p _ s
      exact ⟨_, scheduled, rfl⟩
    · exact ⟨_, rfl, rfl⟩

theorem bootGate_bootFrame (p : Nat) (s : State) : (bootGate p s).bootFrame = s.bootFrame := by
  obtain ⟨g, h, -⟩ := bootGate_cases p s
  rw [h, setGate_bootFrame]

theorem bootGate_obj (p : Nat) (s : State) (ix sub : Nat) : (bootGate p s).obj ix sub = s.obj ix sub := by
  obtain ⟨g, h, -⟩ := bootGate_cases p s
  rw [h]
  rfl

theorem bootGate_enable (p : Nat) (s : State) :
    ((bootGate p s).gate p).enable = decide (s.obj (0x3540 + p) 1 = 1) := by
  obtain ⟨g, h, he⟩ := bootGate_cases p s
  rw [h, State.gate_setGate_self, he]

theorem bootGate_one_gate_zero (s : State) : (bootGate 1 s).gate 0 = s.gate 0 := by
  obtain ⟨g, h, -⟩ := bootGate_cases 1 s
  rw [h]
  rfl

/-! ### FIRMWARE_RUNNING -/

/-- The state in which the firmware has restored its records and booted its calibration and its configurations. -/
def State.configured (s : State) (ok : Bool) : State :=
  let s1 := { s with boot := { s.boot with firmware := true, selftest := ok } }
  let s2 := if s.boot.bootField = 1 then raiseEv 0x082 [] s1 else s1
  bootCfgs (bootConfig (bootCal (restoreAudit s2)))

/-- The frame of a state whose firmware has booted. -/
def State.firmwareFrame (s : State) (ok : Bool) : State :=
  { State.bootFrame { s with boot := { s.boot with firmware := true, selftest := ok } } with
    genEpoch := (s.genEpoch + 1) % 16777216, genCount := 0, active := {}, digests := [], cfgs := compiling s.cfgs }

theorem State.configured_bootFrame (s : State) (ok : Bool) : (s.configured ok).bootFrame = s.firmwareFrame ok := by
  have reported (x : State) : (if s.boot.bootField = 1 then raiseEv 0x082 [] x else x).base = x.base := by
    split
    · exact raiseEv_base _ _ _
    · rfl
  unfold State.configured
  simp only
  rw [bootCfgs_bootFrame, bootConfig_bootFrame, bootCal_bootFrame, State.bootFrame_of_base (restoreAudit_base _),
    State.bootFrame_of_base (reported _)]
  rfl

theorem State.obj_of_bootFrame {u b : State} (h : u.bootFrame = b) (ix sub : Nat) : u.obj ix sub = b.obj ix sub := by
  subst h
  rfl

theorem State.configured_obj (s : State) (ok : Bool) (ix sub : Nat) : (s.configured ok).obj ix sub = s.obj ix sub :=
  (State.obj_of_bootFrame (s.configured_bootFrame ok) ix sub).trans rfl

/-- The configured state with the gates of both ports booted. -/
def State.booted (s : State) (ok : Bool) : State := bootGate 1 (bootGate 0 (s.configured ok))

theorem State.booted_bootFrame (s : State) (ok : Bool) : (s.booted ok).bootFrame = s.firmwareFrame ok := by
  rw [State.booted, bootGate_bootFrame, bootGate_bootFrame, State.configured_bootFrame]

/-- GATE_ENABLE as stored stands on both ports. -/
theorem State.booted_gate (s : State) (ok : Bool) (p : Nat) (hp : p < 2) :
    ((s.booted ok).gate p).enable = decide (s.obj (0x3540 + p) 1 = 1) := by
  obtain rfl | rfl : p = 0 ∨ p = 1 := by omega
  · rw [State.booted, bootGate_one_gate_zero, bootGate_enable, State.configured_obj]
  · rw [State.booted, bootGate_enable, bootGate_obj, State.configured_obj]

section
variable {s : State} (ok : Bool)

theorem firmwareRunning_idle (h : s.boot.verified = false ∨ s.boot.firmware = true ∨ s.power.watchOn = false
    ∨ s.time.running = false) : Gives (.firmwareRunning ok) s fun t => t = s := by
  refine ⟨_, rfl, if_pos ?_⟩
  simpa using h

/-- The ladder and the channels as the firmware, booted, sets them going. -/
def State.driven (u : State) (ok : Bool) : State :=
  { u with
    ladder := { u.ladder with state := bit (ok && u.boot.calUsable) }
    chans := (numbers 0 elemCount).filterMap fun e =>
      let c := restChan e u
      if c = {} then none else some (e, c) }

theorem firmwareRunning_runs (hv : s.boot.verified = true) (hf : s.boot.firmware = false)
    (hw : s.power.watchOn = true) (ht : s.time.running = true) :
    exec (.firmwareRunning ok) s = .next ((s.booted ok).driven ok) := by
  change execFirmwareRunning ok s = _
  rw [execFirmwareRunning, if_neg (by simp [hv, hf, hw, ht])]
  simp only [State.booted, State.configured]
  generalize bootGate 1 _ = u
  rfl

end

theorem State.driven_gate (u : State) (ok : Bool) (p : Nat) : (u.driven ok).gate p = u.gate p := rfl

theorem State.driven_ladder (u : State) (ok : Bool) :
    (u.driven ok).ladder.state = bit (ok && (u.driven ok).boot.calUsable) := rfl

/-- What the frame of a booted state says of its fields. -/
theorem State.driven_of_bootFrame {u b : State} {ok : Bool} (h : u.bootFrame = b) :
    (u.driven ok).boot.firmware = b.boot.firmware ∧ (u.driven ok).boot.selftest = b.boot.selftest
      ∧ (u.driven ok).genEpoch = b.genEpoch ∧ (u.driven ok).genCount = b.genCount ∧ (u.driven ok).active = b.active
      ∧ (u.driven ok).digests = b.digests ∧ (u.driven ok).objs = b.objs ∧ (u.driven ok).time = b.time
      ∧ (u.driven ok).ptp0 = b.ptp0 ∧ (u.driven ok).ptp1 = b.ptp1 ∧ (u.driven ok).cfgs = b.cfgs := by
  subst h
  exact ⟨rfl, rfl, rfl, rfl, rfl, rfl, rfl, rfl, rfl, rfl, rfl⟩

theorem firmwareRunning_starts {s : State} (ok : Bool) (hv : s.boot.verified = true) (hf : s.boot.firmware = false)
    (hw : s.power.watchOn = true) (ht : s.time.running = true) : Gives (.firmwareRunning ok) s fun t =>
      t.boot.firmware = true ∧ t.genEpoch = (s.genEpoch + 1) % 16777216 ∧ t.genCount = 0 ∧ t.active = {}
        ∧ t.digests = [] ∧ t.ladder.state = bit (ok && t.boot.calUsable) ∧ t.objs = s.objs
        ∧ (∀ p, p < 2 → (t.gate p).enable = decide (s.obj (0x3540 + p) 1 = 1))
        ∧ t.time = s.time ∧ t.ptp0 = s.ptp0 ∧ t.ptp1 = s.ptp1 ∧ t.boot.selftest = ok
        ∧ (∀ p, p ∈ t.cfgs → p.2.state = 0 ∨ p.2.state = 1) := by
  obtain ⟨hfirmware, hselftest, hepoch, hcount, hactive, hdigests, hobjs, htime, hptp0, hptp1, hcfgs⟩ :=
    State.driven_of_bootFrame (ok := ok) (s.booted_bootFrame ok)
  have hgate (p : Nat) (hp : p < 2) : (((s.booted ok).driven ok).gate p).enable
      = decide (s.obj (0x3540 + p) 1 = 1) := by
    rw [State.driven_gate, s.booted_gate ok p hp]
  exact ⟨_, firmwareRunning_runs ok hv hf hw ht, hfirmware, hepoch, hcount, hactive, hdigests, State.driven_ladder _ ok,
    hobjs, hgate, htime, hptp0, hptp1, hselftest, fun p hp => compiling_state (hcfgs ▸ hp)⟩

/-! ### STARTUP_COMPLETE (R119, R451) -/

theorem openSession_base (n link role : Nat) (peer : List Byte) (s : State) :
    (openSession n link role peer s).base = s.base := (raiseEv_base _ _ _).trans rfl

/-- A session that opens is open, and no other changes but by the event. -/
theorem openSession_session (n link role : Nat) (peer : List Byte) (s : State) :
    ((openSession n link role peer s).session n).isOpen = true
      ∧ ∀ k, k ≠ n → ((openSession n link role peer s).session k).still = (s.session k).still := by
  refine ⟨(congrArg Session.isOpen (raiseEv_still _ _ _ n)).trans ?_, fun k hk => (raiseEv_still _ _ _ k).trans ?_⟩
  · simp [Session.still]
  · simp [hk]

/-- The session of mailbox ring `r` opens, where the ring runs. -/
def openRing (r : Nat) (t : State) : State :=
  if (t.ring r).running ∧ !(t.session r).isOpen then openSession r 1 (t.obj 0x1400 2) [] t else t

theorem openRing_base (r : Nat) (s : State) : (openRing r s).base = s.base := by
  unfold openRing
  split
  · exact openSession_base _ _ _ _ s
  · rfl

theorem openRing_session_ne {r k : Nat} (s : State) (h : k ≠ r) :
    ((openRing r s).session k).still = (s.session k).still := by
  unfold openRing
  split
  · exact (openSession_session _ _ _ _ s).2 k h
  · rfl

theorem openRing_opens {r : Nat} {s : State} (h : (s.ring r).running = true) :
    ((openRing r s).session r).isOpen = true := by
  unfold openRing
  split
  · exact (openSession_session _ _ _ _ s).1
  · simp_all

theorem openRing_ring (r k : Nat) (s : State) : (openRing r s).ring k = s.ring k := by
  have rings : (openRing r s).mbx = s.mbx := (congrArg State.mbx (openRing_base r s) :)
  rw [State.ring, rings, ← State.ring]

theorem openRings_session_ne {k : Nat} {l : List Nat} (h : k ∉ l) (s : State) :
    ((forEach openRing l s).session k).still = (s.session k).still := by
  induction l generalizing s with
  | nil => rfl
  | cons r rest ih =>
    rw [List.mem_cons, not_or] at h
    rw [forEach, ih h.2, openRing_session_ne s h.1]

theorem openRings_opens {r : Nat} {l : List Nat} (h : r ∈ l) (hn : l.Nodup) {s : State}
    (hr : (s.ring r).running = true) : ((forEach openRing l s).session r).isOpen = true := by
  induction l generalizing s with
  | nil => cases h
  | cons k rest ih =>
    rw [List.nodup_cons] at hn
    rw [forEach]
    obtain rfl | h := List.mem_cons.1 h
    · exact (congrArg Session.isOpen (openRings_session_ne hn.1 _)).trans (openRing_opens hr)
    · exact ih h hn.2 (by rw [openRing_ring, hr])

section
variable {s : State}

theorem startupComplete_idle (h : s.boot.firmware = false ∨ s.boot.started = true ∨ ∃ p, p ∈ s.cfgs ∧ p.2.state = 1) :
    Gives .startupComplete s fun t => t = s := by
  refine ⟨_, rfl, if_pos ?_⟩
  simpa using h

/-- Session 0, the SPI link's, open with full buckets. -/
def State.spiSession (s : State) : Session :=
  { s.session 0 with
    isOpen := true, link := 0, role := s.obj 0x1400 1, opened := s.now
    reqTokens := s.obj 0x3510 2 * tokUnit, moveTokens := s.obj 0x3510 4 * tokUnit, filledAt := s.time.elapsed }

/-- The start-up is over, and session 0 is open. -/
def State.spiOpened (s : State) : State :=
  State.setSession { s with boot := { s.boot with started := true } } 0 s.spiSession

theorem State.spiOpened_session (s : State) (n : Nat) :
    s.spiOpened.session n = if n = 0 then s.spiSession else s.session n :=
  State.session_setSession { s with boot := { s.boot with started := true } } 0 s.spiSession n

theorem startupComplete_runs (hf : s.boot.firmware = true) (hs : s.boot.started = false)
    (hc : ∀ p, p ∈ s.cfgs → p.2.state ≠ 1) :
    exec .startupComplete s = .next (forEach openRing (numbers 1 4) s.spiOpened) :=
  congrArg Host.Outcome.next (if_neg (by simpa [hf, hs] using fun a b => hc (a, b)))

theorem startupComplete_opens (hf : s.boot.firmware = true) (hs : s.boot.started = false)
    (hc : ∀ p, p ∈ s.cfgs → p.2.state ≠ 1) : Gives .startupComplete s fun t =>
      t.boot = { s.boot with started := true } ∧ (t.session 0).isOpen = true ∧ (t.session 0).link = 0
        ∧ (t.session 0).role = s.obj 0x1400 1
        ∧ (∀ r, 1 ≤ r → r ≤ 4 → (s.ring r).running = true → (t.session r).isOpen = true)
        ∧ (∀ n, 5 ≤ n → (t.session n).still = (s.session n).still) ∧ t.base = { s with boot := t.boot }.base := by
  have base : (forEach openRing (numbers 1 4) s.spiOpened).base = s.spiOpened.base :=
    forEach_keeps _ State.base openRing_base _ _
  have still0 := openRings_session_ne (k := 0) (l := numbers 1 4) (by decide) s.spiOpened
  have hboot : (forEach openRing (numbers 1 4) s.spiOpened).boot = { s.boot with started := true } :=
    (congrArg State.boot base :)
  rw [State.spiOpened_session, if_pos rfl] at still0
  refine ⟨_, startupComplete_runs hf hs hc, hboot, (congrArg Session.isOpen still0 :), (congrArg Session.link still0 :),
    (congrArg Session.role still0 :), ?_, ?_, ?_⟩
  · intro r h1 h4 hr
    exact openRings_opens (by simp [numbers]; omega) (by decide) hr
  · intro n hn
    rw [openRings_session_ne (by simp [numbers]; omega), State.spiOpened_session, if_neg (by omega)]
  · rw [base, hboot]
    rfl

end

end Sys2Proof.Machine
end

section
open Sys2Proof Sys2Proof.Machine

/-- Settles O54: each command by the cases of its guard, and a stored image by the validity of what the engine writes. -/
theorem bootAndUpdate : Obligations.BootAndUpdate := by
  refine ⟨fun s => ⟨bootImageVerify_idle, fun hw hv => ⟨?_, ?_, ?_⟩⟩,
    fun ok s => ⟨firmwareRunning_idle ok, firmwareRunning_starts ok⟩,
    fun s => ⟨startupComplete_idle, startupComplete_opens⟩,
    fun len bs s i hi => ⟨bootRecoveryLoad_length hi, bootRecoveryLoad_restarts hi⟩,
    fun ses s h => fwUpdateStart_does h, ?_,
    fun ses s h => ⟨fwUpdateCommit_unsound h, fwUpdateCommit_older h, fwUpdateCommit_prefers h⟩,
    fun ses s h => ⟨fwConfirm_other h, fwConfirm_raises h⟩⟩
  · exact bootImageVerify_preferred hw hv
  · exact bootImageVerify_fallback hw hv
  · exact bootImageVerify_noImage hw hv
  · rintro ses off v data s h rfl rfl
    exact ⟨fwUpdateData_beyond h, fun hl => ⟨fwUpdateData_unerased h hl, fwUpdateData_writes h hl⟩⟩

end

/-! SUPPORT. The Forge's wakes and sleeps (R11 to R13, R361, R425): the banks that slept with it, the tags of the queues, and
what each command of the Forge leaves. -/
section
namespace Sys2Proof.Machine

/-! ### Numbers and tables -/

theorem mem_numbers {a n k : Nat} : k ∈ numbers a n ↔ a ≤ k ∧ k < a + n := by
  induction n generalizing a with
  | zero => simp [numbers]
  | succ n ih =>
    rw [numbers, List.mem_cons, ih]
    omega

/-- A read of a table whose values are all mapped gives the mapped value. -/
theorem mapGet_map {α : Type} (f : α → α) (d : α) (hd : f d = d) (m : SMap α) (k : Nat) :
    mapGet (m.map fun p => (p.1, f p.2)) k d = f (mapGet m k d) := by
  induction m with
  | nil => exact hd.symm
  | cons p rest ih =>
    rw [List.map_cons, mapGet, mapGet, ih, apply_ite f]

/-! ### The wake -/

theorem wakeForge_wakes {s : State} (hon : s.power.forgeOn = true)
    (h : s.forge.state = .asleep ∨ s.forge.state = .sleeping) : wakeForge s = { s with forge := { s.forge with
      state := .waking, lanesReady := false, coresReady := false
      wakeCount := (s.forge.wakeCount + 1) % 4294967296, lastWake := s.now } } := if_pos ⟨hon, h⟩

/-! ### Banks that sleep and wake with the Forge (R361) -/

/-- The controller of a bank as the Forge's wake leaves it. -/
def Bank.woken (k : Bank) (ret : Bool) : Bank :=
  if k.retainedByForge then { k with power := if ret then 2 else 0, retainedByForge := false } else k

theorem Bank.woken_woken (k : Bank) (ret : Bool) : (k.woken ret).woken ret = k.woken ret := by
  unfold Bank.woken
  split
  · rfl
  · rfl

/-- A state without its bank controllers. -/
def State.bankless (s : State) : State := { s with banks := [] }

theorem State.eq_of_bankless {s t : State} (h : t.bankless = s.bankless) : ∃ banks, t = { s with banks := banks } :=
  ⟨t.banks, congrArg (fun u : State => { u with banks := t.banks }) h⟩

/-- One bank wakes with the Forge. -/
def retainedWake (b : Nat) (t : State) : State :=
  if (t.bank b).retainedByForge then
    t.setBank b { t.bank b with power := if t.bankRet b then 2 else 0, retainedByForge := false }
  else t

theorem banksWake_eq (s : State) : banksWake s = forEach retainedWake (numbers 0 64) s := rfl

theorem retainedWake_bankless (b : Nat) (t : State) : (retainedWake b t).bankless = t.bankless := by
  unfold retainedWake
  split <;> rfl

theorem retainedWake_bankRet (b k : Nat) (t : State) : (retainedWake b t).bankRet k = t.bankRet k :=
  (congrArg (fun u : State => u.bankRet k) (retainedWake_bankless b t) :)

theorem retainedWake_bank (b k : Nat) (t : State) :
    (retainedWake b t).bank k = if k = b then (t.bank b).woken (t.bankRet b) else t.bank k := by
  unfold retainedWake Bank.woken
  split
  · rw [State.bank_setBank]
  · split
    · next h => rw [h]
    · rfl

theorem forEach_retainedWake_bank (k : Nat) (l : List Nat) (s : State) :
    (forEach retainedWake l s).bank k = if k ∈ l then (s.bank k).woken (s.bankRet k) else s.bank k := by
  induction l generalizing s with
  | nil => rfl
  | cons b rest ih =>
    rw [forEach, ih, retainedWake_bank, retainedWake_bankRet]
    by_cases hb : k = b
    · subst hb
      simp [Bank.woken_woken]
    · simp [hb]

theorem banksWake_frame (s : State) : ∃ banks, banksWake s = { s with banks := banks } :=
  State.eq_of_bankless (forEach_keeps retainedWake State.bankless retainedWake_bankless _ s)

theorem banksWake_bank {b : Nat} (h : b < 64) (s : State) : (banksWake s).bank b = (s.bank b).woken (s.bankRet b) := by
  rw [banksWake_eq, forEach_retainedWake_bank, if_pos (mem_numbers.2 (by omega))]

theorem banksSleep_frame (s : State) : ∃ banks, banksSleep s = { s with banks := banks } := by
  refine State.eq_of_bankless (forEach_keeps _ State.bankless (fun b t => ?_) _ s)
  split <;> rfl

/-! ### The end of a wake (R11, R425) -/

/-- A queue with its tags reduced by `m`. -/
def Queue.reduced (m : Nat) (q : Queue) : Queue := { q with start := q.start - m, finish := q.finish - m }

/-- A session with its queues' tags reduced by `m`. -/
def Session.reduced (m : Nat) (x : Session) : Session :=
  { x with control := x.control.reduced m, query := x.query.reduced m }

theorem Session.reduced_default (m : Nat) : Session.reduced m {} = {} := by
  simp [Session.reduced, Queue.reduced]

theorem rebaseTags_frame (s : State) : rebaseTags s = { s with
    disp := { s.disp with vtime := s.disp.vtime - s.leastStart.getD 0 }, sessions := (rebaseTags s).sessions } := by
  unfold rebaseTags
  split
  · next h => rw [h]; rfl
  · next m h => rw [h]; rfl

theorem rebaseTags_session (s : State) (n : Nat) :
    (rebaseTags s).session n = (s.session n).reduced (s.leastStart.getD 0) := by
  unfold rebaseTags
  split
  · next h => rw [h]; rfl
  · next m h =>
    rw [h]
    exact mapGet_map (Session.reduced m) {} (Session.reduced_default m) s.sessions n

/-- The Forge with its lanes and its cores is awake, its idle time starts anew and its PCIe path is powered. -/
def State.forgeAwake (s : State) : State := { s with
  forge := { s.forge with state := .awake, idleSince := s.time.elapsed }
  power := { s.power with pciePathOn := s.power.pciePathOn || decide (s.power.pcie ≠ .down) } }

theorem forgeUp_both {s : State} (hl : s.forge.lanesReady = true) (hc : s.forge.coresReady = true) :
    forgeUp s = rebaseTags s.forgeAwake := if_pos ⟨hl, hc⟩

theorem forgeUp_waits {s : State} (h : s.forge.lanesReady = false ∨ s.forge.coresReady = false) : forgeUp s = s :=
  if_neg (by rintro ⟨hl, hc⟩; simp_all)

/-! ### The commands -/

section
variable {s : State}

theorem forgeTimedWake_wakes (hon : s.power.forgeOn = true) (h : s.forge.state = .asleep ∨ s.forge.state = .sleeping)
    (hd : s.timedDue = true) : Gives .forgeTimedWake s fun t => t = { s with forge := { s.forge with
      state := .waking, lanesReady := false, coresReady := false
      wakeCount := (s.forge.wakeCount + 1) % 4294967296, lastWake := s.now } } :=
  ⟨_, rfl, (if_pos hd).trans (wakeForge_wakes hon h)⟩

theorem forgeTimedWake_idle (hd : s.timedDue = false) : Gives .forgeTimedWake s fun t => t = s :=
  ⟨_, rfl, if_neg (by simp [hd])⟩

/-- The state whose Forge's transit lanes have just become ready, with the banks that have woken by then. -/
def State.lanesUp (s : State) (banks : SMap Bank) : State :=
  { s with forge := { s.forge with lanesReady := true, lanesReadyAt := s.time.elapsed }, banks := banks }

theorem forgeLanesReady_eq (hw : s.forge.state = .waking) (hl : s.forge.lanesReady = false) :
    ∃ banks, exec .forgeLanesReady s = .next (forgeUp (s.lanesUp banks))
      ∧ ∀ b, b < 64 → (s.lanesUp banks).bank b = (s.bank b).woken (s.bankRet b) := by
  have wakes : exec .forgeLanesReady s = .next (forgeUp (banksWake (s.lanesUp s.banks))) :=
    congrArg Host.Outcome.next (if_pos ⟨hw, by simp [hl]⟩)
  obtain ⟨banks, frame⟩ := banksWake_frame (s.lanesUp s.banks)
  change _ = s.lanesUp banks at frame
  rw [frame] at wakes
  exact ⟨banks, wakes, fun b hb => frame ▸ banksWake_bank hb (s.lanesUp s.banks)⟩

/-- A bank that did not sleep with the Forge stays as it is; one that did wakes. -/
theorem Bank.woken_cases (k : Bank) (ret : Bool) : (k.retainedByForge = false → k.woken ret = k)
    ∧ (k.retainedByForge = true → k.woken ret = { k with power := if ret then 2 else 0, retainedByForge := false }) :=
  ⟨fun h => if_neg (by simp [h]), fun h => if_pos h⟩

theorem forgeLanesReady_lanes (hw : s.forge.state = .waking) (hl : s.forge.lanesReady = false) :
    Gives .forgeLanesReady s fun t =>
      t = { s with forge := t.forge, banks := t.banks, disp := t.disp, sessions := t.sessions, power := t.power }
        ∧ t.power = { s.power with pciePathOn :=
            s.power.pciePathOn || (s.forge.coresReady && decide (s.power.pcie ≠ .down)) }
        ∧ t.forge = { s.forge with
            lanesReady := true, lanesReadyAt := s.time.elapsed
            state := if s.forge.coresReady then .awake else .waking
            idleSince := if s.forge.coresReady then s.time.elapsed else s.forge.idleSince }
        ∧ (s.forge.coresReady = false → t.disp = s.disp ∧ t.sessions = s.sessions)
        ∧ ∀ b, b < 64 → ((s.bank b).retainedByForge = false → t.bank b = s.bank b)
            ∧ ((s.bank b).retainedByForge = true →
                t.bank b = { s.bank b with power := if s.bankRet b then 2 else 0, retainedByForge := false }) := by
  obtain ⟨banks, wakes, hbank⟩ := forgeLanesReady_eq hw hl
  have hbanks (b : Nat) (hb : b < 64) := Bank.woken_cases (s.bank b) (s.bankRet b)
  cases hc : s.forge.coresReady with
  | false =>
    rw [forgeUp_waits (s := s.lanesUp banks) (.inr hc)] at wakes
    refine ⟨_, wakes, rfl, by simp [State.lanesUp], by simp [State.lanesUp, hw], fun _ => ⟨rfl, rfl⟩, fun b hb => ?_⟩
    exact (hbank b hb).symm ▸ hbanks b hb
  | true =>
    rw [forgeUp_both (by rfl) (by exact hc), rebaseTags_frame] at wakes
    refine ⟨_, wakes, rfl, rfl, rfl, by simp, fun b hb => ?_⟩
    exact (hbank b hb).symm ▸ hbanks b hb

theorem forgeCoresResumed_eq (hw : s.forge.state = .waking) (hc : s.forge.coresReady = false) :
    exec .forgeCoresResumed s = .next (forgeUp { s with forge := { s.forge with coresReady := true } }) :=
  congrArg Host.Outcome.next (if_pos ⟨hw, by simp [hc]⟩)

theorem forgeCoresResumed_waits (hw : s.forge.state = .waking) (hl : s.forge.lanesReady = false)
    (hc : s.forge.coresReady = false) :
    Gives .forgeCoresResumed s fun t => t = { s with forge := { s.forge with coresReady := true } } :=
  ⟨_, forgeCoresResumed_eq hw hc, forgeUp_waits (.inl hl)⟩

theorem forgeCoresResumed_wakes (hw : s.forge.state = .waking) (hl : s.forge.lanesReady = true)
    (hc : s.forge.coresReady = false) : Gives .forgeCoresResumed s fun t =>
      t = { s with
        forge := { s.forge with coresReady := true, state := .awake, idleSince := s.time.elapsed }
        power := { s.power with pciePathOn := s.power.pciePathOn || decide (s.power.pcie ≠ .down) }
        disp := { s.disp with vtime := s.disp.vtime - s.leastStart.getD 0 }, sessions := t.sessions }
        ∧ ∀ n, t.session n = (s.session n).reduced (s.leastStart.getD 0) := by
  have wakes : exec .forgeCoresResumed s = .next (rebaseTags
      { s with forge := { s.forge with coresReady := true } }.forgeAwake) := by
    rw [forgeCoresResumed_eq hw hc, forgeUp_both (by exact hl) (by rfl)]
  exact ⟨_, wakes, rebaseTags_frame _, fun n => rebaseTags_session _ n⟩

theorem forgeSleepStart_sleeps (ha : s.forge.state = .awake) (hi : s.forgeIdle = true)
    (hd : s.forge.idleSince + s.sleepDelay ≤ s.time.elapsed) :
    Gives .forgeSleepStart s fun t => t = { s with forge := { s.forge with state := .sleeping } } :=
  ⟨_, rfl, if_pos ⟨by simp [State.awake, ha], hi, hd⟩⟩

theorem pathAsleep_eq (s : State) : pathAsleep s = { s with power := { s.power with pciePathOn :=
    if s.power.pcie = .l1 ∨ s.power.pcie = .l1sub then false else s.power.pciePathOn } } := by
  unfold pathAsleep
  split <;> rfl

/-- The Proof engine that stops returns its window's bank and changes nothing else. -/
theorem proofStop_frame (s : State) : ∃ banks, proofStop s =
    { s with banks := banks, proof := { s.proof with active := false } } := by
  unfold proofStop
  split
  · exact ⟨_, rfl⟩
  · next h =>
    have stopped : ({ s.proof with active := false } : Proof) = s.proof :=
      congrArg (fun a => { s.proof with active := a }) (Bool.eq_false_iff.2 h).symm
    exact ⟨s.banks, by rw [stopped]⟩

theorem forgeSleepComplete_sleeps (hs : s.forge.state = .sleeping) (hq : s.matrixQuiet = true) :
    Gives .forgeSleepComplete s fun t => t = { s with
      forge := { s.forge with state := .asleep, lanesReady := false, coresReady := false }
      power := { s.power with pciePathOn :=
        if s.power.pcie = .l1 ∨ s.power.pcie = .l1sub then false else s.power.pciePathOn }
      banks := t.banks, proof := { s.proof with active := false } } := by
  obtain ⟨banks, stopped⟩ := proofStop_frame s
  have sleeps : exec .forgeSleepComplete s = .next (pathAsleep (banksSleep
      { proofStop s with forge := { s.forge with state := .asleep, lanesReady := false, coresReady := false } })) :=
    congrArg Host.Outcome.next ((if_pos ⟨hs, hq⟩).trans (by rw [stopped]))
  obtain ⟨slept, retains⟩ := banksSleep_frame { proofStop s with
    forge := { s.forge with state := .asleep, lanesReady := false, coresReady := false } }
  refine ⟨_, sleeps, ?_⟩
  rw [pathAsleep_eq, retains, stopped]

theorem pcieLinkStateChange_powers (st : PcieLink) : Gives (.pcieLinkStateChange st) s fun t =>
    t = { s with power := { s.power with
      pcie := st
      pciePathOn := s.power.forgeOn && match st with
        | .l0 => true
        | .down => false
        | _ => !decide (s.forge.state = .asleep) } } := by
  refine ⟨_, rfl, ?_⟩
  cases st <;> rfl

end

end Sys2Proof.Machine
end

section
open Sys2Proof Sys2Proof.Machine

/-- Settles O1: each command by the condition of its guard; banks and tags by the laws of the wake. -/
theorem forgeWakesAndSleeps : Obligations.ForgeWakesAndSleeps :=
  ⟨fun _ hon h hd => forgeTimedWake_wakes hon h hd, fun _ hd => forgeTimedWake_idle hd,
    fun _ hw hl => forgeLanesReady_lanes hw hl, fun _ hw hl hc => forgeCoresResumed_waits hw hl hc,
    fun _ hw hl hc => forgeCoresResumed_wakes hw hl hc, fun _ ha hi hd => forgeSleepStart_sleeps ha hi hd,
    fun _ hs hq => forgeSleepComplete_sleeps hs hq, fun st _ => pcieLinkStateChange_powers st⟩

end

/-! SUPPORT. The host's Hallmark channels (R9, R266): what each command leaves of the channel that it names and of the other. -/
section
namespace Sys2Proof.Machine

/-- A rejected write sets WRITE_REJECT and raises its event. -/
theorem rejectWrite_same (st : Nat) (w : Writer) (o : Nat) (s : State) :
    Same { s with reject := insertNum st s.reject } (rejectWrite st w o s) := by
  refine ⟨?_, ?_⟩
  · rw [rejectWrite_base]
    rfl
  · exact rejectWrite_still st w o s

section
variable {c : Nat} {s : State}

theorem State.setHm_frame (v : HmChan) :
    s.setHm c v = { s with hm6 := (s.setHm c v).hm6, hm7 := (s.setHm c v).hm7 } := rfl

theorem State.hmChan_setHm_self (v : HmChan) : (s.setHm c v).hmChan c = v := by
  unfold State.setHm State.hmChan
  split <;> rfl

theorem State.hmChan_setHm_other (hc : c = 6 ∨ c = 7) (v : HmChan) :
    (s.setHm c v).hmChan (13 - c) = s.hmChan (13 - c) := by
  obtain rfl | rfl := hc <;> rfl

variable (hc : c = 6 ∨ c = 7) (hw : s.power.watchOn = true)
include hc hw

/-- Channels 6 and 7 are served while the Watch is on. -/
theorem State.hmHost_of_watchOn : s.hmHost c = true := by
  simp [State.hmHost, hc, hw]

/-- A command that sets the channel it names leaves the other channel and the rest of the state. -/
theorem gives_setHm {i : Instr} {v : HmChan} (h : exec i s = .next (if s.hmHost c then s.setHm c v else s)) :
    Gives i s fun t => t = { s with hm6 := t.hm6, hm7 := t.hm7 } ∧ t.hmChan (13 - c) = s.hmChan (13 - c)
      ∧ t.hmChan c = v := by
  rw [if_pos (State.hmHost_of_watchOn hc hw)] at h
  exact ⟨_, h, State.setHm_frame v, State.hmChan_setHm_other hc v, State.hmChan_setHm_self v⟩

theorem hmOpen_opens : Gives (.hmOpen c) s fun t =>
    t = { s with hm6 := t.hm6, hm7 := t.hm7 } ∧ t.hmChan (13 - c) = s.hmChan (13 - c)
      ∧ t.hmChan c = ⟨true, crcOpen (s.reg (hmBase c + 8) + 4294967296 * s.reg (hmBase c + 0xC))⟩ :=
  gives_setHm hc hw rfl

theorem hmAbort_closes : Gives (.hmAbort c) s fun t =>
    t = { s with hm6 := t.hm6, hm7 := t.hm7 } ∧ t.hmChan (13 - c) = s.hmChan (13 - c)
      ∧ (t.hmChan c).isOpen = false := by
  obtain ⟨t, run, frame, other, closed⟩ :=
    gives_setHm (i := .hmAbort c) (v := { s.hmChan c with isOpen := false, crc := 0xFFFFFFFF }) hc hw rfl
  exact ⟨t, run, frame, other, by rw [closed]⟩

theorem hmResultRead_reads : Gives (.hmResultRead c) s fun t =>
    t = { s with out := t.out } ∧ t.out.data = (s.hmChan c).crc ^^^ 0xFFFFFFFF :=
  ⟨_, congrArg Host.Outcome.next (if_pos (State.hmHost_of_watchOn hc hw)), rfl, rfl⟩

section
variable {w : Writer} {off n : Nat} {v : Word} {i : Instr}
variable (h : exec i s = .next (if s.hmHost c then hmFeed w c off n v s else s))
include h

/-- A data write of `n` bytes feeds a channel that is OPEN. -/
theorem hmFeed_feeds (ho : (s.hmChan c).isOpen = true) : Gives i s fun t =>
    t = { s with hm6 := t.hm6, hm7 := t.hm7 } ∧ t.hmChan (13 - c) = s.hmChan (13 - c)
      ∧ t.hmChan c = ⟨true, crcFeed (s.hmChan c).crc (leBytes n v.toNat)⟩ := by
  have fed : hmFeed w c off n v s = s.setHm c ⟨true, crcFeed (s.hmChan c).crc (leBytes n v.toNat)⟩ := by
    simp only [hmFeed, ho, reduceIte]
  rw [fed] at h
  exact gives_setHm hc hw h

/-- A data write to a channel that is not OPEN is rejected. -/
theorem hmFeed_rejects (ho : (s.hmChan c).isOpen = false) : Gives i s fun t =>
    Same { s with reject := insertNum (hmBase c + 4) s.reject } t := by
  have rejected : hmFeed w c off n v s = rejectWrite (hmBase c + 4) w (hmBase c + off) s := by
    simp only [hmFeed, ho, Bool.false_eq_true, reduceIte]
  rw [if_pos (State.hmHost_of_watchOn hc hw), rejected] at h
  exact ⟨_, h, rejectWrite_same _ _ _ _⟩

end

end

end Sys2Proof.Machine
end

section
open Sys2Proof Sys2Proof.Machine

/-- Settles O42: OPEN, ABORT and the three widths of a data write each set the one channel that they name. -/
theorem hallmarkChannels : Obligations.HallmarkChannels := by
  intro c s hc hw
  refine ⟨hmOpen_opens hc hw, hmAbort_closes hc hw, fun w v ho => ⟨?_, ?_, ?_⟩, fun w v ho => ⟨?_, ?_, ?_⟩,
    hmResultRead_reads hc hw⟩
  · exact hmFeed_feeds (i := .hmDataB w c v) hc hw rfl ho
  · exact hmFeed_feeds (i := .hmDataH w c v) hc hw rfl ho
  · exact hmFeed_feeds (i := .hmDataW w c v) hc hw rfl ho
  · exact hmFeed_rejects (i := .hmDataB w c v) hc hw rfl ho
  · exact hmFeed_rejects (i := .hmDataH w c v) hc hw rfl ho
  · exact hmFeed_rejects (i := .hmDataW w c v) hc hw rfl ho

end

/-! SUPPORT. Live settings (R21, R22, R25, R28): which writes a boundary puts in force, and what one write in force leaves. -/
section
namespace Sys2Proof.Machine

/-! ### Which writes come into force -/

theorem applyDue_none {blocks : Block → Bool} {s : State}
    (h : ∀ w, w ∈ s.live → (blocks w.block && w.due s) = false) : applyDue blocks s = s := by
  have none_due : s.live.filter (fun w => blocks w.block && w.due s) = [] := by
    rw [List.filter_eq_nil_iff]
    exact fun w hw => by simp [h w hw]
  have all_wait : s.live.filter (fun w => !(blocks w.block && w.due s)) = s.live := by
    rw [List.filter_eq_self]
    exact fun w hw => by simp [h w hw]
  simp only [applyDue, none_due, all_wait, lastWrites, forEach]

/-- The one write that waits is due, and comes into force. -/
theorem applyDue_one {blocks : Block → Bool} {w : LiveWrite} {s : State} (hl : s.live = [w])
    (hb : blocks w.block = true) (hd : w.due s = true) : applyDue blocks s = applyWrite w { s with live := [] } := by
  simp [applyDue, hl, hb, hd, lastWrites, LiveWrite.superseded, forEach]

theorem liveSettingApply_one {w : LiveWrite} {s : State} (hl : s.live = [w]) (hd : w.due s = true) :
    exec (.liveSettingApply w.block) s = .next (applyWrite w { s with live := [] }) :=
  congrArg Host.Outcome.next (applyDue_one hl (decide_eq_true rfl) hd)

theorem liveSettingApply_idle {b : Block} {s : State} (h : ∀ w, w ∈ s.live → w.block = b → w.due s = false) :
    Gives (.liveSettingApply b) s fun t => t = s := by
  refine ⟨_, rfl, applyDue_none fun w hw => ?_⟩
  by_cases hb : w.block = b
  · simp [hb, h w hw hb]
  · simp [hb]

/-! ### Registers -/

/-- A register whose live settings have no effect beyond their bits. -/
structure PlainReg (off : Nat) : Prop where
  range : off < 0x1000 ∨ (0x1404 ≤ off ∧ off < 0x10000) ∨ (0x10800 ≤ off ∧ off < 0x360000)
    ∨ (0x370200 ≤ off ∧ off < 0x3A0000) ∨ (0x3B0000 ≤ off ∧ off < 0x3B0100) ∨ 0x3B0280 ≤ off
  servo : off ≠ 0x300010 ∧ off ≠ 0x300028 ∧ off ≠ 0x30003C

/-- Such a register lies outside the ranges whose writes act. -/
theorem PlainReg.outside {off : Nat} (h : PlainReg off) : ¬ (0x1000 ≤ off ∧ off < 0x1404) ∧ ¬ (0x10000 ≤ off ∧ off < 0x10800)
    ∧ ¬ (0x360000 ≤ off ∧ off < 0x370200) ∧ ¬ (0x3A0000 ≤ off ∧ off < 0x3B0000)
    ∧ ¬ (0x3B0100 ≤ off ∧ off < 0x3B0280) := by
  obtain range | range | range | range | range | range := h.range
  all_goals omega

theorem PlainReg.clearsCount {off : Nat} (h : PlainReg off) : clearsCount off = false := by
  obtain ⟨-, -, -, banks, conflicts⟩ := h.outside
  have c1 : ¬ (0x3A0000 ≤ off ∧ off < 0x3A1000) := by omega
  simp [Machine.clearsCount, c1, conflicts]

theorem PlainReg.registerChanged {off : Nat} (h : PlainReg off) (old v at_ : Nat) (s : State) :
    registerChanged off old v at_ s = s := by
  obtain ⟨rings, queues, thermal, banks, -⟩ := h.outside
  obtain ⟨s1, s2, s3⟩ := h.servo
  have c1 : ¬ off = 0x1400 ∧ ¬ off = hkcReg 0 0 ∧ ¬ off = hkcReg 1 0 := by simp only [hkcReg]; omega
  unfold Machine.registerChanged
  rw [if_neg (fun c => rings ⟨c.1, by omega⟩), if_neg c1.1, if_neg (fun c => queues ⟨c.1, c.2.1⟩), if_neg s1,
    if_neg (fun c => c.elim s2 s3), if_neg (fun c => thermal ⟨by omega, by omega⟩), if_neg (fun c => thermal ⟨c.1, by omega⟩),
    if_neg c1.2.1, if_neg c1.2.2, if_neg (fun c => banks ⟨c.1, by omega⟩)]

theorem applyRegister_row {off v at_ : Nat} {r : RegRow} {s : State} (hr : regRow off = some r)
    (hc : clearsCount off = false) : applyRegister off v at_ s = registerChanged off (s.reg off) v at_
      (s.setReg off (s.reg off - (s.reg off &&& r.live) + (v &&& r.live))) := by
  simp [applyRegister, hr, hc]

section
variable {w : LiveWrite} {s : State} (hl : s.live = [w]) (hd : w.due s = true)
include hl hd

theorem liveSettingApply_register {r : RegRow} (hw : w.isReg = true) (hr : regRow w.key = some r)
    (hp : PlainReg w.key) : Gives (.liveSettingApply w.block) s fun t =>
      t = { s with live := [], regs := t.regs }
        ∧ t.reg w.key = s.reg w.key - (s.reg w.key &&& r.live) + (w.value &&& r.live)
        ∧ ∀ o, o ≠ w.key → t.reg o = s.reg o := by
  have applied : applyWrite w { s with live := [] } = State.setReg { s with live := [] } w.key
      (s.reg w.key - (s.reg w.key &&& r.live) + (w.value &&& r.live)) := by
    rw [applyWrite, if_pos hw, applyRegister_row hr hp.clearsCount, hp.registerChanged]
    rfl
  refine ⟨_, liveSettingApply_one hl hd, ?_⟩
  rw [applied]
  exact ⟨rfl, by simp, fun o ho => (State.reg_setReg _ _ _ o).trans (if_neg ho)⟩

/-! ### Objects -/

/-- A session's REG_OFFSET. -/
theorem liveSettingApply_regOffset (hw : w.isReg = false) (hk : w.key = objKey 0x1300 1) :
    Gives (.liveSettingApply w.block) s fun t => t = { s with live := [], sessions := t.sessions }
      ∧ t.session w.ses = { s.session w.ses with regOffset := w.value }
      ∧ ∀ n, n ≠ w.ses → t.session n = s.session n := by
  have applied : applyWrite w { s with live := [] } = State.setSession { s with live := [] } w.ses
      { s.session w.ses with regOffset := w.value } := by
    rw [applyWrite, if_neg (by simp [hw]), hk, if_neg (by decide), if_pos rfl]
    rfl
  refine ⟨_, liveSettingApply_one hl hd, ?_⟩
  rw [applied]
  exact ⟨rfl, by simp, fun n hn => (State.session_setSession _ _ _ n).trans (if_neg hn)⟩

theorem liveSettingApply_object (hw : w.isReg = false) (h3100 : w.key ≠ objKey 0x3100 6)
    (h1300 : w.key ≠ objKey 0x1300 1) :
    exec (.liveSettingApply w.block) s = .next (applyObject w.key w.value { s with live := [] }) := by
  rw [liveSettingApply_one hl hd, applyWrite, if_neg (by simp [hw]), if_neg h3100, if_neg h1300]

/-- An element's ELEM_MANUAL_CODE. -/
theorem liveSettingApply_manualCode (hw : w.isReg = false) {e : Nat} (hk : w.key = objKey (0x8000 + e) 9) :
    Gives (.liveSettingApply w.block) s fun t => t = { s with live := [], elems := t.elems }
      ∧ t.elem e = { s.elem e with manualCode := w.value } ∧ ∀ k, k ≠ e → t.elem k = s.elem k := by
  have key : w.key = (0x8000 + e) * 256 + 9 := hk
  have index : w.key / 256 = 0x8000 + e ∧ w.key % 256 = 9 := by omega
  have applied : applyObject w.key w.value { s with live := [] } = State.setElem { s with live := [] } e
      { s.elem e with manualCode := w.value } := by
    have c1 : ¬ (w.key / 256 = 0x1600 ∧ w.key % 256 < 0x20) ∧ ¬ w.key / 256 = 0x3530 := by omega
    have c2 : ¬ (0x3540 ≤ w.key / 256 ∧ w.key / 256 < 0x3542) := by omega
    rw [applyObject, if_neg c1.1, if_neg c1.2, if_neg c2, if_pos ⟨by omega, index.2⟩, index.1, Nat.add_sub_cancel_left]
    rfl
  refine ⟨_, liveSettingApply_object hl hd hw (by simp only [key, objKey]; omega) (by simp only [key, objKey]; omega), ?_⟩
  rw [applied]
  exact ⟨rfl, by simp, fun k hk => (State.elem_setElem _ _ _ k).trans (if_neg hk)⟩

end

/-! ### Ports' objects (R164) -/

/-- A port's setting in force, other than its attenuation: a LIGHT_THRESHOLD that changes notes the boundary. -/
def State.portSet (s : State) (ix sub v : Nat) : State :=
  if (sub = 0x10 ∨ sub = 0x11) ∧ s.obj ix sub ≠ v then
    (s.setObj ix sub v).setDet (2 * (ix - 0x4000) + (sub - 0x10))
      { s.det (2 * (ix - 0x4000) + (sub - 0x10)) with threshAt := some s.time.elapsed }
  else s.setObj ix sub v

theorem applyObject_port {ix sub v : Nat} {s : State} (hsub : sub < 256) (hix : 0x4000 ≤ ix ∧ ix < 0x4800)
    (h15 : sub ≠ 0x15) (h16 : sub ≠ 0x16) : applyObject (256 * ix + sub) v s = s.portSet ix sub v := by
  have i1 : (256 * ix + sub) / 256 = ix := by omega
  have i2 : (256 * ix + sub) % 256 = sub := by omega
  have c1 : ¬ (ix = 0x1600 ∧ sub < 0x20) ∧ ¬ ix = 0x3530 ∧ ¬ (0x3540 ≤ ix ∧ ix < 0x3542) := by omega
  have c2 : ¬ (0x8000 ≤ ix ∧ sub = 9) ∧ ¬ (0x3510 ≤ ix ∧ ix < 0x3530 ∧ sub ≤ 4) ∧ ¬ ix = 0x1100 := by omega
  have c3 : ¬ (ix = 0x1200 ∧ sub = 2 ∧ v = 1) ∧ ¬ (ix = 0x1400 ∧ sub = 4 ∧ v = 0) := by omega
  have c4 : ¬ (0x3010 ≤ ix ∧ ix < 0x3012 ∧ sub = 1) ∧ ¬ (0x3010 ≤ ix ∧ ix < 0x3012 ∧ sub = 6) := by omega
  have c5 : ¬ ix = 0x3100 ∧ ¬ (ix = 0x3500 ∧ sub = 3) := by omega
  have c6 : ¬ (0x4000 ≤ ix ∧ ix < 0x4800 ∧ (sub = 0x15 ∨ sub = 0x16)) := fun c => c.2.2.elim h15 h16
  have c7 : ¬ ((0x5000 ≤ ix ∧ ix < 0x5040) ∨ (0x8000 ≤ ix ∧ sub = 5)) ∧ ¬ (ix = 0x5200 ∧ sub = 1) := by omega
  simp only [applyObject, i1, i2, c1, c2, c3, c4, c5, c6, c7, reduceIte]
  unfold State.portSet
  by_cases ht : sub = 0x10 ∨ sub = 0x11
  · rw [if_pos ⟨hix.1, hix.2, ht⟩]
    by_cases hv : s.obj ix sub = v
    · rw [if_pos hv, if_neg (fun c => c.2 hv)]
    · rw [if_neg hv, if_pos ⟨ht, hv⟩]
      rfl
  · rw [if_neg (fun c => ht c.2.2), if_neg (fun c => ht c.1)]

theorem State.portSet_frame (s : State) (ix sub v : Nat) :
    s.portSet ix sub v = { s with objs := (s.setObj ix sub v).objs, dets := (s.portSet ix sub v).dets } := by
  unfold State.portSet
  split <;> rfl

theorem State.portSet_objs (s : State) (ix sub v : Nat) : (s.portSet ix sub v).objs = (s.setObj ix sub v).objs := by
  rw [State.portSet_frame]

theorem State.portSet_det (s : State) (ix sub v d : Nat) : (s.portSet ix sub v).det d =
    if (sub = 0x10 ∨ sub = 0x11) ∧ s.obj ix sub ≠ v ∧ d = 2 * (ix - 0x4000) + (sub - 0x10) then
      { s.det d with threshAt := some s.time.elapsed }
    else s.det d := by
  unfold State.portSet
  by_cases h : (sub = 0x10 ∨ sub = 0x11) ∧ s.obj ix sub ≠ v
  · rw [if_pos h, State.det_setDet]
    by_cases hd : d = 2 * (ix - 0x4000) + (sub - 0x10)
    · rw [if_pos hd, if_pos ⟨h.1, h.2, hd⟩, hd]
    · rw [if_neg hd, if_neg (fun c => hd c.2.2)]
      rfl
  · rw [if_neg h, if_neg (fun c => h ⟨c.1, c.2.1⟩)]
    rfl

theorem liveSettingApply_port {w : LiveWrite} {ix sub : Nat} {s : State} (hl : s.live = [w]) (hd : w.due s = true)
    (hw : w.isReg = false) (hk : w.key = 256 * ix + sub) (hsub : sub < 256) (hix : 0x4000 ≤ ix ∧ ix < 0x4800)
    (h15 : sub ≠ 0x15) (h16 : sub ≠ 0x16) : Gives (.liveSettingApply w.block) s fun t =>
      t = { s with live := [], objs := t.objs, dets := t.dets } ∧ t.obj ix sub = w.value
        ∧ (∀ d, t.det d =
            if (sub = 0x10 ∨ sub = 0x11) ∧ s.obj ix sub ≠ w.value ∧ d = 2 * (ix - 0x4000) + (sub - 0x10) then
              { s.det d with threshAt := some s.time.elapsed }
            else s.det d)
        ∧ ∀ k, k ≠ objKey ix sub → mapGet t.objs k 0 = mapGet s.objs k 0 := by
  have objs := State.portSet_objs { s with live := [] } ix sub w.value
  refine ⟨_, liveSettingApply_object hl hd hw (by simp only [objKey]; omega) (by simp only [objKey]; omega), ?_⟩
  rw [hk, applyObject_port hsub hix h15 h16]
  refine ⟨?_, ?_, fun d => State.portSet_det { s with live := [] } ix sub w.value d, fun k hne => ?_⟩
  · rw [State.portSet_frame]
  · rw [State.obj, objs]
    exact State.obj_setObj_self _ ix sub w.value
  · rw [objs]
    exact mapGet_mapSet_other _ _ _ _ _ _ hne

end Sys2Proof.Machine
end

section
open Sys2Proof Sys2Proof.Machine

/-- Settles O25: a boundary puts the one due write in force, and the write's kind says which table it changes. -/
theorem liveSettings : Obligations.LiveSettings :=
  ⟨fun _ _ h => liveSettingApply_idle h,
    fun _ _ _ _ hl hd hw hk hsub h4000 h4800 h15 h16 =>
      liveSettingApply_port hl hd hw hk hsub ⟨h4000, h4800⟩ h15 h16,
    fun _ _ _ hl hd hw hr hrange h10 h28 h3C => liveSettingApply_register hl hd hw hr ⟨hrange, h10, h28, h3C⟩,
    fun _ _ hl hd hw => ⟨fun hk => liveSettingApply_regOffset hl hd hw hk,
      fun _ _ hk => liveSettingApply_manualCode hl hd hw hk⟩⟩

end

/-! SUPPORT. Egress gates (R430 to R434): what a commit, a change of GATE_ENABLE, a list's instant, an entry's end and a frame
leave of a port's gates. -/
section
namespace Sys2Proof.Machine

/-! ### One port's gates -/

theorem State.setGate_frame (p : Nat) (g : Gate) (s : State) :
    s.setGate p g = { s with gate0 := (s.setGate p g).gate0, gate1 := (s.setGate p g).gate1 } := rfl

theorem State.gate_setGate_other {p : Nat} (hp : p < 2) (g : Gate) (s : State) :
    (s.setGate p g).gate (1 - p) = s.gate (1 - p) := by
  obtain rfl | rfl : p = 0 ∨ p = 1 := by omega
  · rfl
  · rfl

/-- The gates are all that the state's view of a port's gates asks for. -/
theorem State.gate_congr {s t : State} (h0 : t.gate0 = s.gate0) (h1 : t.gate1 = s.gate1) (p : Nat) :
    t.gate p = s.gate p := by
  rw [State.gate, h0, h1, ← State.gate]

theorem reply_gate (ses st p : Nat) (s : State) : (reply ses st s).gate p = s.gate p := State.gate_congr rfl rfl p

/-- The instant at which a port's lists change next once the committed one is scheduled (R433). -/
def Gate.scheduled (g : Gate) (now : Instant) : Instant :=
  match g.committed with
  | none => g.changeAt
  | some l => l.startAfter now

theorem Gate.scheduled_some {g : Gate} {l : GateList} (h : g.committed = some l) (now : Instant) :
    g.scheduled now = l.startAfter now := by
  rw [Gate.scheduled, h]

theorem scheduleGate_eq (p : Nat) (g : Gate) (s : State) :
    scheduleGate p (s.setGate p g) = s.setGate p { g with changeAt := g.scheduled s.now } := by
  unfold scheduleGate
  simp only [State.gate_setGate_self, State.setGate_setGate]
  split
  · next h =>
    have unchanged : g.scheduled s.now = g.changeAt := by rw [Gate.scheduled, h]
    rw [unchanged]
  · next l h =>
    rw [Gate.scheduled_some h]
    rfl

/-! ### GATE_COMMIT -/

section
variable {ses p v : Nat} {s : State} (h : Passes ses (0x3540 + p) 4 (valBytes 1 v) s)
include h

theorem gateCommit_zero (hv : v = 0) : Gives (.gateCommit ses p v) s fun t => Does ses stOk s s t :=
  ⟨_, congrArg Host.Outcome.next ((gated_pass h _).trans (if_pos hv)), does_reply ses stOk s s (SessionsStill.refl s)⟩

theorem gateCommit_refused (hv : v ≠ 0) (hr : gateReject (s.gateShadow p).2 ≠ 0) : Gives (.gateCommit ses p v) s fun t =>
    Does ses stRange s { s with gate0 := t.gate0, gate1 := t.gate1 } t
      ∧ t.gate p = { s.gate p with reject := gateReject (s.gateShadow p).2 } := by
  have refuses : exec (.gateCommit ses p v) s = .next (reply ses stRange
      (s.setGate p { s.gate p with reject := gateReject (s.gateShadow p).2 })) :=
    congrArg Host.Outcome.next ((gated_pass h _).trans ((if_neg hv).trans (if_pos hr)))
  refine ⟨_, refuses, does_reply ses stRange s _ (SessionsStill.of_eq rfl), ?_⟩
  rw [reply_gate, State.gate_setGate_self]

/-- The gates with a list committed and not scheduled. -/
def Gate.commit (g : Gate) (l : GateList) : Gate := { g with committed := some l, reject := 0, changeAt := 0 }

/-- The list in a port's shadow. -/
def State.shadowList (s : State) (p : Nat) : GateList :=
  ⟨time96Of (s.gateShadow p).1, gateEntries (s.gateShadow p).2 ((s.gateShadow p).2.length / 8)⟩

/-- The state that keeps a port's shadow as the list last committed. -/
def State.shadowStored (s : State) (p : Nat) : State :=
  { s with blobs := (mapPut (mapPut s.blobs (objKey (0x3540 + p) 2) (s.gateShadow p).1)
    (objKey (0x3540 + p) 3) (s.gateShadow p).2) }

omit h in
theorem State.shadowStored_gate (s : State) (p : Nat) : (s.shadowStored p).gate p = s.gate p :=
  State.gate_congr rfl rfl p

/-- A list is committed in a port's gates, and scheduled where gating is on. -/
def commitList (p : Nat) (l : GateList) (u : State) : State :=
  let t := u.setGate p ((u.gate p).commit l)
  if (t.gate p).enable then scheduleGate p t else t

omit h in
theorem commitList_eq (p : Nat) (l : GateList) (u : State) : commitList p l u = u.setGate p { (u.gate p).commit l with
    changeAt := if (u.gate p).enable then l.startAfter u.now else 0 } := by
  unfold commitList
  simp only [State.gate_setGate_self]
  cases he : (u.gate p).enable with
  | true =>
    rw [if_pos (by exact he), scheduleGate_eq, Gate.scheduled_some (l := l) rfl, if_pos rfl]
  | false =>
    rw [if_neg (by simp [Gate.commit, he]), if_neg (by decide)]
    rfl

theorem gateCommit_eq (hv : v ≠ 0) (hr : gateReject (s.gateShadow p).2 = 0) :
    exec (.gateCommit ses p v) s = .next (reply ses stOk (commitList p (s.shadowList p) (s.shadowStored p))) := by
  change Host.Outcome.next (gated ses (0x3540 + p) 4 (valBytes 1 v) _ s) = _
  rw [gated_pass h, if_neg hv]
  extract_lets shadow reject g l stored old taken
  rw [if_neg (not_not.2 hr)]
  change _ = Host.Outcome.next (reply ses stOk (commitList p l stored))
  clear_value stored l
  rfl

theorem gateCommit_commits (hv : v ≠ 0) (hr : gateReject (s.gateShadow p).2 = 0) : Gives (.gateCommit ses p v) s fun t =>
    Does ses stOk s { s with gate0 := t.gate0, gate1 := t.gate1, blobs := t.blobs } t
      ∧ t.gate p = { s.gate p with
          committed := some (s.shadowList p), reject := 0
          changeAt := if (s.gate p).enable then (s.shadowList p).startAfter s.now else 0 } := by
  have commits := gateCommit_eq h hv hr
  rw [commitList_eq, State.shadowStored_gate] at commits
  refine ⟨_, commits, does_reply ses stOk s _ (SessionsStill.of_eq rfl), ?_⟩
  rw [reply_gate, State.gate_setGate_self]
  rfl

end

/-! ### GATE_ENABLE -/

theorem gateEnableWrite_waits {ses p v : Nat} {s : State} (h : Passes ses (0x3540 + p) 1 (valBytes 1 v) s) :
    Gives (.gateEnableWrite ses p v) s fun t => t = { s with live := t.live, sessions := t.sessions }
      ∧ t.live = s.live ++ [⟨.dispatch, false, objKey (0x3540 + p) 1, v, s.time.elapsed, 0⟩]
      ∧ t.session ses = { s.session ses with storing := some (objKey (0x3540 + p) 1, valBytes 1 v) }
      ∧ ∀ n, n ≠ ses → t.session n = s.session n := by
  refine ⟨_, congrArg Host.Outcome.next (gated_pass h _), rfl, rfl, ?_, fun n hn => ?_⟩
  · exact (State.session_setSession _ _ _ _).trans (if_pos rfl)
  · exact (State.session_setSession _ _ _ _).trans (if_neg hn)

/-- The gates of a port as a value of GATE_ENABLE leaves them. -/
def Gate.enabled (g : Gate) (v : Nat) (now : Instant) : Gate :=
  if v = 1 then { g with
    enable := true
    changeAt := if g.enable then g.changeAt else g.scheduled now }
  else g.off

theorem setGateEnable_eq (p v : Nat) (s : State) :
    setGateEnable p v s = (s.setObj (0x3540 + p) 1 v).setGate p ((s.gate p).enabled v s.now) := by
  unfold setGateEnable Gate.enabled
  by_cases hv : v = 1
  · cases he : (s.gate p).enable with
    | true => simp [hv, he]
    | false =>
      simp only [hv, he, Bool.not_false, and_self, reduceIte, Bool.false_eq_true]
      exact scheduleGate_eq p _ (s.setObj (0x3540 + p) 1 1)
  · simp [hv]

theorem applyObject_gateEnable {p : Nat} (hp : p < 2) (v : Nat) (s : State) :
    applyObject (objKey (0x3540 + p) 1) v s = setGateEnable p v s := by
  have i1 : objKey (0x3540 + p) 1 / 256 = 0x3540 + p := by simp only [objKey]; omega
  have c1 : ¬ (0x3540 + p = 0x1600 ∧ objKey (0x3540 + p) 1 % 256 < 0x20) ∧ ¬ 0x3540 + p = 0x3530 := by omega
  simp only [applyObject, i1]
  rw [if_neg c1.1, if_neg c1.2, if_pos ⟨by omega, by omega⟩, Nat.add_sub_cancel_left]

theorem liveSettingApply_gateEnable {p v : Nat} {at_ : Instant} {s : State} (hp : p < 2)
    (hl : s.live = [⟨.dispatch, false, objKey (0x3540 + p) 1, v, at_, 0⟩]) (hat : at_ < s.time.transitStart)
    (hr : s.forge.lanesReady = true) (hra : s.forge.lanesReadyAt < s.time.transitStart) :
    exec (.liveSettingApply .dispatch) s = .next (State.setGate (State.setObj { s with live := [] } (0x3540 + p) 1 v) p
      ((s.gate p).enabled v s.now)) := by
  have due : LiveWrite.due ⟨.dispatch, false, objKey (0x3540 + p) 1, v, at_, 0⟩ s = true := by
    simp [LiveWrite.due, State.blockBoundary, inForge, hat, hr, hra]
  rw [liveSettingApply_object hl due rfl (by simp only [objKey]; omega) (by simp only [objKey]; omega),
    applyObject_gateEnable hp, setGateEnable_eq]
  rfl

theorem Gate.enabled_enable (g : Gate) (v : Nat) (now : Instant) :
    (g.enabled v now).enable = decide (v = 1) := by
  unfold Gate.enabled
  by_cases h : v = 1 <;> simp [h, Gate.off]

theorem liveSettingApply_gates {p v : Nat} {at_ : Instant} {s : State} (hp : p < 2)
    (hl : s.live = [⟨.dispatch, false, objKey (0x3540 + p) 1, v, at_, 0⟩]) (hat : at_ < s.time.transitStart)
    (hr : s.forge.lanesReady = true) (hra : s.forge.lanesReadyAt < s.time.transitStart) :
    Gives (.liveSettingApply .dispatch) s fun t =>
      t = { s with live := [], gate0 := t.gate0, gate1 := t.gate1, objs := t.objs }
        ∧ (t.gate p).enable = decide (v = 1) ∧ t.obj (0x3540 + p) 1 = v ∧ t.gate (1 - p) = s.gate (1 - p)
        ∧ (v = 1 → (t.gate p).active = (s.gate p).active ∧ (t.gate p).committed = (s.gate p).committed)
        ∧ (v = 1 → (s.gate p).enable = false → ∀ l, (s.gate p).committed = some l →
            (t.gate p).changeAt = l.startAfter s.now)
        ∧ (v = 0 → (t.gate p).active = none ∧ (t.gate p).changeAt = 0
            ∧ (t.gate p).committed = (s.gate p).committed.or (s.gate p).active) := by
  refine ⟨_, liveSettingApply_gateEnable hp hl hat hr hra, ?_⟩
  beta_reduce
  rw [State.gate_setGate_self]
  refine ⟨rfl, Gate.enabled_enable _ _ _, State.obj_setObj_self _ _ _ _, ?_, ?_, ?_, ?_⟩
  · exact State.gate_setGate_other hp _ _
  · rintro rfl
    exact ⟨rfl, rfl⟩
  · rintro rfl he l hc
    simp [Gate.enabled, he, Gate.scheduled_some hc]
  · rintro rfl
    exact ⟨rfl, rfl, rfl⟩

/-! ### A list's instant, and its entries -/

section
variable {p : Nat} {l : GateList} {s : State} (hp : p < 2)
include hp

theorem gateListApply_applies (hc : (s.gate p).committed = some l) (h0 : (s.gate p).changeAt ≠ 0)
    (hn : (s.gate p).changeAt ≤ s.now) : Gives (.gateListApply p) s fun t =>
      Same { s with gate0 := t.gate0, gate1 := t.gate1 } t ∧ t.gate (1 - p) = s.gate (1 - p)
        ∧ t.gate p = { s.gate p with
            active := some l, committed := none, entry := 0, entryEnd := (s.gate p).changeAt + l.interval 0
            changeAt := 0, held := false } := by
  let u := s.setGate p { s.gate p with
    active := some l, committed := none, entry := 0, entryEnd := (s.gate p).changeAt + l.interval 0
    changeAt := 0, held := false }
  have applies : exec (.gateListApply p) s = .next (raiseEv 0x50B [byte p] u) := by
    refine congrArg Host.Outcome.next ((if_pos hp).trans ?_)
    unfold applyGateList
    simp only [hc]
    exact if_neg fun h => h.elim h0 (Nat.not_lt.2 hn)
  have hg (k : Nat) : (raiseEv 0x50B [byte p] u).gate k = u.gate k := State.gate_congr (by simp) (by simp) k
  refine ⟨_, applies, ?_, ?_, ?_⟩
  · rw [raiseEv_gate0, raiseEv_gate1]
    exact ⟨raiseEv_base _ _ _, raiseEv_still _ _ _⟩
  · rw [hg]
    exact State.gate_setGate_other hp _ _
  · rw [hg]
    exact State.gate_setGate_self _ _ _

theorem gateListApply_waits (hc : (s.gate p).committed = some l) (hn : s.now < (s.gate p).changeAt) :
    Gives (.gateListApply p) s fun t => t = s := by
  refine ⟨_, rfl, (if_pos hp).trans ?_⟩
  unfold applyGateList
  simp only [hc]
  exact if_pos (.inr hn)

variable (ha : (s.gate p).active = some l) (he : (s.gate p).entryEnd ≤ s.now)
include ha he

theorem gateEntryAdvance_advances (hh : (s.gate p).held = false) : Gives (.gateEntryAdvance p) s fun t =>
    t = { s with gate0 := t.gate0, gate1 := t.gate1 } ∧ t.gate (1 - p) = s.gate (1 - p)
      ∧ t.gate p = { s.gate p with
          entry := ((s.gate p).entry + 1) % l.entries.length
          entryEnd := (s.gate p).entryEnd + l.interval (((s.gate p).entry + 1) % l.entries.length) } := by
  have advances : exec (.gateEntryAdvance p) s = .next (s.setGate p { s.gate p with
      entry := ((s.gate p).entry + 1) % l.entries.length
      entryEnd := (s.gate p).entryEnd + l.interval (((s.gate p).entry + 1) % l.entries.length) }) := by
    refine congrArg Host.Outcome.next ?_
    simp only [ha]
    exact if_pos ⟨hp, by simp [hh], he⟩
  exact ⟨_, advances, rfl, State.gate_setGate_other hp _ s, State.gate_setGate_self p _ s⟩

theorem gateRealign_realigns (hh : (s.gate p).held = true) : Gives (.gateRealign p) s fun t =>
    t = { s with gate0 := t.gate0, gate1 := t.gate1 } ∧ t.gate (1 - p) = s.gate (1 - p)
      ∧ t.gate p = { s.gate p with
          held := false, entry := 0, entryEnd := (s.gate p).entryEnd + l.interval 0 } := by
  have realigns : exec (.gateRealign p) s = .next (s.setGate p { s.gate p with
      held := false, entry := 0, entryEnd := (s.gate p).entryEnd + l.interval 0 }) := by
    refine congrArg Host.Outcome.next ?_
    simp only [ha]
    exact if_pos ⟨hp, hh, he⟩
  exact ⟨_, realigns, rfl, State.gate_setGate_other hp _ s, State.gate_setGate_self p _ s⟩

end

/-! ### Frames (R431, R432) -/

/-- A frame is longer than every window of its class in the list in force. -/
def State.tooLong (s : State) (p cls len : Nat) : Bool :=
  match (s.gate p).active with
  | none => false
  | some l => (s.gate p).enable && (match l.longest cls with
    | none => false
    | some w => decide (w * 65536 < s.frameTime p len))

/-- The window of a class leaves time for a frame. -/
def State.fits (s : State) (p cls len : Nat) : Bool :=
  match s.windowLeft p cls with
  | none => true
  | some w => decide (s.frameTime p len ≤ w)

theorem State.tooLong_iff {p cls len : Nat} {s : State} {l : GateList} {w : Nat} (ha : (s.gate p).active = some l)
    (he : (s.gate p).enable = true) (hw : l.longest cls = some w) :
    s.tooLong p cls len = true ↔ w * 65536 < s.frameTime p len := by
  simp [State.tooLong, ha, he, hw]

section
variable {p cls len : Nat} {s : State} (hp : p < 2) (hcls : cls < 4) (hv : s.power.vaux = true)
  (hm : s.obj 0x1400 (0x10 + p) ≠ 1)
include hp hcls hv hm

theorem egressFrameStart_eq : exec (.egressFrameStart p cls len) s = .next (
    if s.tooLong p cls len then dropOversize p s
    else if s.windowLeft p cls = some 0 then s
    else if !s.fits p cls len then s.setGate p { s.gate p with waits := ((s.gate p).waits + 1) % 4294967296 }
    else if cls = 1 then sendRecord p (s.setGate p { s.gate p with sent := (s.gate p).sent + 1 })
    else s.setGate p { s.gate p with sent := (s.gate p).sent + 1 }) := by
  refine congrArg Host.Outcome.next ((if_neg ?_).trans ?_)
  · simp [hv]
    omega
  · simp only [if_neg hm]
    rfl

theorem egressFrameStart_ungated (ha : (s.gate p).active = none) (h1 : cls ≠ 1) :
    Gives (.egressFrameStart p cls len) s fun t => t = { s with gate0 := t.gate0, gate1 := t.gate1 }
      ∧ t.gate p = { s.gate p with sent := (s.gate p).sent + 1 } ∧ t.gate (1 - p) = s.gate (1 - p) := by
  have short : s.tooLong p cls len = false := by simp [State.tooLong, ha]
  have left : s.windowLeft p cls = none := by
    simp only [State.windowLeft, State.ownWindowLeft, ha]
    split
    · rfl
    · simp
  have room : s.fits p cls len = true := by simp [State.fits, left]
  refine ⟨_, egressFrameStart_eq hp hcls hv hm, ?_⟩
  rw [if_neg (by simp [short]), if_neg (by simp [left]), if_neg (by simp [room]), if_neg h1]
  exact ⟨rfl, State.gate_setGate_self p _ s, State.gate_setGate_other hp _ s⟩

variable {l : GateList} {w : Nat} (ha : (s.gate p).active = some l) (he : (s.gate p).enable = true)
  (hw : l.longest cls = some w)
include ha he hw

theorem egressFrameStart_oversize (ht : w * 65536 < s.frameTime p len) :
    Gives (.egressFrameStart p cls len) s fun t => Same { s with gate0 := t.gate0, gate1 := t.gate1 } t
      ∧ (t.gate p).oversize = ((s.gate p).oversize + 1) % 4294967296 ∧ (t.gate p).sent = (s.gate p).sent := by
  refine ⟨_, egressFrameStart_eq hp hcls hv hm, ?_⟩
  rw [if_pos ((State.tooLong_iff ha he hw).2 ht)]
  unfold dropOversize
  simp only
  split
  · rw [State.gate_congr (raiseEv_gate0 _ _ _) (raiseEv_gate1 _ _ _), State.gate_setGate_self, raiseEv_gate0, raiseEv_gate1]
    exact ⟨⟨raiseEv_base _ _ _, raiseEv_still _ _ _⟩, rfl, rfl⟩
  · rw [State.gate_setGate_self]
    exact ⟨⟨rfl, SessionsStill.of_eq rfl⟩, rfl, rfl⟩

variable (ht : s.frameTime p len ≤ w * 65536)
include ht

theorem egressFrameStart_closed (hl : s.windowLeft p cls = some 0) :
    Gives (.egressFrameStart p cls len) s fun t => t = s := by
  refine ⟨_, egressFrameStart_eq hp hcls hv hm, ?_⟩
  rw [if_neg (mt (State.tooLong_iff ha he hw).1 (by omega)), if_pos hl]

variable {left : Nat} (hl : s.windowLeft p cls = some left) (h0 : left ≠ 0)
include hl h0

theorem egressFrameStart_waits (hf : left < s.frameTime p len) : Gives (.egressFrameStart p cls len) s fun t =>
    t = { s with gate0 := t.gate0, gate1 := t.gate1 }
      ∧ t.gate p = { s.gate p with waits := ((s.gate p).waits + 1) % 4294967296 } := by
  refine ⟨_, egressFrameStart_eq hp hcls hv hm, ?_⟩
  rw [if_neg (mt (State.tooLong_iff ha he hw).1 (by omega)), if_neg (by simp [hl, h0]),
    if_pos (by simp [State.fits, hl, hf])]
  exact ⟨rfl, State.gate_setGate_self p _ s⟩

theorem egressFrameStart_leaves (hf : s.frameTime p len ≤ left) (h1 : cls ≠ 1) :
    Gives (.egressFrameStart p cls len) s fun t => t = { s with gate0 := t.gate0, gate1 := t.gate1 }
      ∧ t.gate p = { s.gate p with sent := (s.gate p).sent + 1 } := by
  refine ⟨_, egressFrameStart_eq hp hcls hv hm, ?_⟩
  rw [if_neg (mt (State.tooLong_iff ha he hw).1 (by omega)), if_neg (by simp [hl, h0]),
    if_neg (by simp [State.fits, hl, hf]), if_neg h1]
  exact ⟨rfl, State.gate_setGate_self p _ s⟩

end

end Sys2Proof.Machine
end

section
open Sys2Proof Sys2Proof.Machine

/-- Settles O33: each command by the cases of its guard, with the laws of one port's gates. -/
theorem egressGates : Obligations.EgressGates := by
  refine ⟨fun ses p v s h => ⟨gateCommit_zero h, gateCommit_refused h, fun hv hr => ?_⟩,
    fun ses p v s h => gateEnableWrite_waits h,
    fun p v at_ s hp _ hl hat hr hra => liveSettingApply_gates hp hl hat hr hra,
    fun p l s hp hc => ⟨gateListApply_applies hp hc, gateListApply_waits hp hc⟩, fun p s => rfl,
    fun p l s hp ha he => ⟨gateEntryAdvance_advances hp ha he, gateRealign_realigns hp ha he⟩,
    fun p cls len s hp hcls hv hm => ⟨egressFrameStart_ungated hp hcls hv hm, fun l w ha he hw =>
      ⟨egressFrameStart_oversize hp hcls hv hm ha he hw, egressFrameStart_closed hp hcls hv hm ha he hw,
        fun left ht hl h0 => ⟨egressFrameStart_waits hp hcls hv hm ha he hw ht hl h0,
          egressFrameStart_leaves hp hcls hv hm ha he hw ht hl h0⟩⟩⟩⟩
  obtain ⟨t, run, does, gate⟩ := gateCommit_commits h hv hr
  exact ⟨t, run, does, s.shadowList p, rfl, gate⟩

end

/-! SUPPORT. Mailbox rings (R27, R389 to R391, R427, R428): the pool, the admission of a request and the start and stop of a
ring, and what each command of a ring leaves. -/
section
namespace Sys2Proof.Machine

/-! ### Registers of a ring -/

theorem mbxReg_row {r : Nat} (h1 : 1 ≤ r) (h4 : r ≤ 4) : ∃ row, regRow (mbxReg r 0) = some row ∧ row.live = 3 := by
  have table : ∀ k < 4, ∃ row, regRow (mbxReg (k + 1) 0) = some row ∧ row.live = 3 := by
    intro k hk
    obtain rfl | rfl | rfl | rfl : k = 0 ∨ k = 1 ∨ k = 2 ∨ k = 3 := by omega
    all_goals exact ⟨_, rfl, by decide⟩
  obtain ⟨k, rfl⟩ : ∃ k, r = k + 1 := ⟨r - 1, by omega⟩
  exact table k (by omega)

theorem mbxReg_inj {r a b : Nat} (h : a ≠ b) : mbxReg r a ≠ mbxReg r b := by
  simpa [mbxReg] using h

/-- MBX_CTRL with EN and IRQ_EN replaced. -/
def mbxCtrl (old v : Nat) : Nat := old - (old &&& 3) + v

theorem mbxCtrl_en (old v : Nat) : (mbxCtrl old v).testBit 0 = v.testBit 0 := by
  have low : old &&& 3 = old % 4 := Nat.and_two_pow_sub_one_eq_mod old 2
  have parity : (mbxCtrl old v) % 2 = v % 2 := by
    rw [mbxCtrl, low]
    omega
  rw [Nat.testBit_zero, Nat.testBit_zero, parity]

/-! ### MBX_CTRL and the doorbells -/

section
variable {w : Writer} {r : Nat} {v : Word} {s : State} (h1 : 1 ≤ r) (h4 : r ≤ 4) (hf : s.power.forgeOn = true)
include h1 h4 hf

theorem mbxEnWrite_eq : exec (.mbxEnWrite w r v) s = .next (writeMbxCtrl w r v.toNat s) :=
  congrArg Host.Outcome.next (if_pos ⟨h1, h4, hf⟩)

theorem mbxEnWrite_rejects (hv : field v.toNat 16 9 ≠ field (s.reg (mbxReg r 0)) 16 9)
    (hr : s.regOn (mbxReg r 0) 0 = true) : Gives (.mbxEnWrite w r v) s fun t =>
      Same { s with reject := insertNum (mbxReg r 4) s.reject } t := by
  refine ⟨_, mbxEnWrite_eq h1 h4 hf, ?_⟩
  rw [writeMbxCtrl, if_pos ⟨hv, hr⟩]
  exact rejectWrite_same _ _ _ _

theorem mbxEnWrite_waits (h : field v.toNat 16 9 = field (s.reg (mbxReg r 0)) 16 9 ∨ s.regOn (mbxReg r 0) 0 = false) :
    Gives (.mbxEnWrite w r v) s fun t =>
      t = { s with
        regs := t.regs, live := s.live ++ [⟨.hostLinks, true, mbxReg r 0, v.toNat &&& 3, s.time.elapsed, 0⟩] }
        ∧ t.reg (mbxReg r 0) = setField (s.reg (mbxReg r 0)) 16 9 (field v.toNat 16 9)
        ∧ ∀ o, o ≠ mbxReg r 0 → t.reg o = s.reg o := by
  have waits : exec (.mbxEnWrite w r v) s = .next (waitSetting .hostLinks true (mbxReg r 0) (v.toNat &&& 3) 0
      (s.setReg (mbxReg r 0) (setField (s.reg (mbxReg r 0)) 16 9 (field v.toNat 16 9)))) := by
    rw [mbxEnWrite_eq h1 h4 hf, writeMbxCtrl, if_neg]
    rintro ⟨hv, hr⟩
    exact h.elim hv (by simp [hr])
  refine ⟨_, waits, rfl, ?_, fun o ho => ?_⟩
  · exact (State.reg_setReg _ _ _ _).trans (if_pos rfl)
  · exact (State.reg_setReg _ _ _ _).trans (if_neg ho)

theorem mbxDoorbells_wait (n : Nat) : Gives (.mbxReqTail r n) s (fun t =>
      t = { s with live := s.live
        ++ [⟨.hostLinks, true, mbxReg r 0x20, n % min 4096 (s.reqSize r), s.time.elapsed, 0⟩] })
    ∧ Gives (.mbxCplHead r n) s fun t =>
      t = { s with live := s.live
        ++ [⟨.hostLinks, true, mbxReg r 0x2C, n % min 4096 (s.cplSize r), s.time.elapsed, 0⟩] } :=
  ⟨⟨_, rfl, if_pos ⟨h1, h4, hf⟩⟩, ⟨_, rfl, if_pos ⟨h1, h4, hf⟩⟩⟩

end

/-! ### EN in force -/

/-- The state in which a written MBX_CTRL is in force and nothing waits. -/
def State.ctrlSet (s : State) (r v : Nat) : State :=
  State.setReg { s with live := [] } (mbxReg r 0) (mbxCtrl (s.reg (mbxReg r 0)) v)

section
variable {r v : Nat} {at_ : Instant} {s : State} (h1 : 1 ≤ r) (h4 : r ≤ 4) (hv : v < 4)
  (hl : s.live = [⟨.hostLinks, true, mbxReg r 0, v, at_, 0⟩]) (hat : at_ < s.time.transitStart)

theorem State.ctrlSet_reg (s : State) (r v o : Nat) :
    (s.ctrlSet r v).reg o = if o = mbxReg r 0 then mbxCtrl (s.reg (mbxReg r 0)) v else s.reg o :=
  State.reg_setReg _ _ _ _

include h1 h4 hv hl hat

theorem liveSettingApply_mbxCtrl : exec (.liveSettingApply .hostLinks) s
    = .next (mbxEnChanged r (s.reg (mbxReg r 0)) (s.ctrlSet r v)) := by
  have due : LiveWrite.due ⟨.hostLinks, true, mbxReg r 0, v, at_, 0⟩ s = true := by
    simp [LiveWrite.due, State.blockBoundary, inForge, hat]
  obtain ⟨row, hrow, hlive⟩ := mbxReg_row h1 h4
  have range : 0x1000 ≤ mbxReg r 0 ∧ mbxReg r 0 < 0x1400 ∧ mbxReg r 0 % 0x100 = 0 := by
    simp only [mbxReg]
    omega
  have ring : (mbxReg r 0 - 0x1000) / 0x100 + 1 = r := by
    simp only [mbxReg]
    omega
  have plain : clearsCount (mbxReg r 0) = false := by
    simp only [clearsCount, Bool.or_eq_false_iff, Bool.and_eq_false_iff, decide_eq_false_iff_not]
    omega
  have value : v &&& 3 = v := (Nat.and_two_pow_sub_one_eq_mod v 2).trans (Nat.mod_eq_of_lt hv)
  rw [liveSettingApply_one hl due, applyWrite, if_pos rfl, applyRegister_row hrow plain, registerChanged, if_pos range,
    ring, hlive, value]
  rfl

theorem mbxCtrl_kept (he : (s.reg (mbxReg r 0)).testBit 0 = v.testBit 0) : Gives (.liveSettingApply .hostLinks) s fun t =>
    t = { s with live := [], regs := t.regs }
      ∧ t.reg (mbxReg r 0) = s.reg (mbxReg r 0) - (s.reg (mbxReg r 0) &&& 3) + v := by
  have kept : mbxEnChanged r (s.reg (mbxReg r 0)) (s.ctrlSet r v) = s.ctrlSet r v := by
    unfold mbxEnChanged
    rw [State.ctrlSet_reg, if_pos rfl, mbxCtrl_en, he]
    cases v.testBit 0 <;> rfl
  have run := liveSettingApply_mbxCtrl h1 h4 hv hl hat
  rw [kept] at run
  refine ⟨_, run, rfl, ?_⟩
  rw [State.ctrlSet_reg, if_pos rfl, mbxCtrl]

end

/-- What a session holds once it is open, but for what events change. -/
theorem openSession_self (n link role : Nat) (peer : List Byte) (s : State) :
    ((openSession n link role peer s).session n).isOpen = true ∧ ((openSession n link role peer s).session n).link = link
      ∧ ((openSession n link role peer s).session n).role = role := by
  let u := (s.setSession n { s.session n with
    isOpen := true, link := link, role := role, peer := peer, opened := s.now, taken := none
    requests := 0, drops := 0, dedupHits := 0, regOffset := 0
    auditPos := match s.audit.ring with | [] => 0 | r :: _ => r.seq
    skipped := 0
    subs := [], sendq := [], lostBefore := false, redeliver := (0, 0, 0), snapshot := none, assembly := none
    reqTokens := s.obj (0x3510 + n) 2 * tokUnit, moveTokens := s.obj (0x3510 + n) 4 * tokUnit
    filledAt := s.time.elapsed, nextEligible := s.time.elapsed, lastFrame := s.time.elapsed })
  have still : ((openSession n link role peer s).session n).still = (u.session n).still := raiseEv_still _ _ _ n
  rw [State.session_setSession, if_pos rfl] at still
  exact ⟨(congrArg Session.isOpen still :), (congrArg Session.link still :), (congrArg Session.role still :)⟩

theorem openSession_core (n link role : Nat) (peer : List Byte) (s : State) :
    (openSession n link role peer s).core = s.core := State.core_of_base (openSession_base n link role peer s)

/-- A ring that starts, before its session opens. -/
def State.ringStarted (s : State) (r : Nat) : State :=
  s.setRing r { running := true, dmaErr := (s.ring r).dmaErr, vectors := (s.ring r).vectors }

theorem startRing_base (r : Nat) (s : State) : (startRing r s).base = (s.ringStarted r).base := by
  unfold startRing
  simp only
  split
  · exact openSession_base _ _ _ _ _
  · rfl

theorem startRing_session {r : Nat} {s : State} (h : s.boot.started = true) :
    ((startRing r s).session r).isOpen = true ∧ ((startRing r s).session r).link = 1
      ∧ ((startRing r s).session r).role = s.obj 0x1400 2 := by
  have opens : startRing r s = openSession r 1 (s.obj 0x1400 2) [] (s.ringStarted r) := if_pos h
  rw [opens]
  exact openSession_self r 1 (s.obj 0x1400 2) [] (s.ringStarted r)

section
variable {r v : Nat} {at_ : Instant} {s : State} (h1 : 1 ≤ r) (h4 : r ≤ 4) (hv : v < 4)
  (hl : s.live = [⟨.hostLinks, true, mbxReg r 0, v, at_, 0⟩]) (hat : at_ < s.time.transitStart)
include h1 h4 hv hl hat

theorem mbxCtrl_starts (ho : (s.reg (mbxReg r 0)).testBit 0 = false) (he : v.testBit 0 = true) :
    Gives (.liveSettingApply .hostLinks) s fun t =>
      t.core = { s with live := [], regs := t.regs, mbx := t.mbx }.core
        ∧ t.ring r = { running := true, dmaErr := (s.ring r).dmaErr, vectors := (s.ring r).vectors }
        ∧ t.reg (mbxReg r 0) = s.reg (mbxReg r 0) - (s.reg (mbxReg r 0) &&& 3) + v
        ∧ (∀ o, o ≠ mbxReg r 0 → t.reg o = s.reg o)
        ∧ (s.boot.started = true → (t.session r).isOpen = true ∧ (t.session r).link = 1
            ∧ (t.session r).role = s.obj 0x1400 2) := by
  have starts : mbxEnChanged r (s.reg (mbxReg r 0)) (s.ctrlSet r v) = startRing r (s.ctrlSet r v) := by
    unfold mbxEnChanged
    rw [State.ctrlSet_reg, if_pos rfl, mbxCtrl_en, ho, he]
    rfl
  have base := startRing_base r (s.ctrlSet r v)
  have hregs : (startRing r (s.ctrlSet r v)).regs = (s.ctrlSet r v).regs := (congrArg State.regs base :)
  have hmbx : (startRing r (s.ctrlSet r v)).mbx = ((s.ctrlSet r v).ringStarted r).mbx := (congrArg State.mbx base :)
  have hreg (o : Nat) : (startRing r (s.ctrlSet r v)).reg o = (s.ctrlSet r v).reg o := by
    rw [State.reg, hregs, ← State.reg]
  have run := liveSettingApply_mbxCtrl h1 h4 hv hl hat
  rw [starts] at run
  refine ⟨_, run, ?_, ?_, ?_, fun o ho => ?_,
    fun hs => startRing_session hs⟩
  · rw [hregs, hmbx, State.core_of_base base]
    rfl
  · rw [State.ring, hmbx, ← State.ring]
    exact (State.ring_setRing _ _ _ _).trans (if_pos rfl)
  · rw [hreg, State.ctrlSet_reg, if_pos rfl, mbxCtrl]
  · rw [hreg, State.ctrlSet_reg, if_neg ho]

end

/-! ### EN set to 0 -/

/-- The state without what a closing session gives back. -/
def State.closeFrame (s : State) : State := { s.core with kept := [], disp := {} }

theorem State.closeFrame_of_base {s t : State} (h : t.base = s.base) : t.closeFrame = s.closeFrame :=
  congrArg (fun u : State => { u with kept := [], disp := {}, out := {} }) h

theorem State.core_of_closeFrame {regs mbx} {s t : State}
    (h : t.closeFrame = { s with live := [], regs := regs, mbx := mbx }.closeFrame) :
    t.core = { s with live := [], regs := t.regs, mbx := t.mbx, kept := t.kept, disp := t.disp }.core :=
  congrArg (fun u : State => { u with regs := t.regs, mbx := t.mbx, kept := t.kept, disp := t.disp }) h

theorem poolRisen_eq (s : State) : ∃ d, poolRisen s = { s with disp := d } := by
  unfold poolRisen
  split
  · exact ⟨_, rfl⟩
  · exact ⟨s.disp, rfl⟩

/-- What a closing session holds goes: beside the sessions, kept responses, its waiting read position and the pool. -/
theorem clearSession_eq (n : Nat) (s : State) : ∃ x kept d, x.isOpen = false ∧ clearSession n s =
    { s.setSession n x with
      kept := kept, disp := d
      live := s.live.filter fun w => !(!w.isReg && decide (w.key = objKey 0x3100 6) && decide (w.ses = n)) } := by
  unfold clearSession
  extract_lets x ids
  obtain ⟨d, risen⟩ := poolRisen_eq { s.setSession n { x with
      isOpen := false, taken := none, subs := [], sendq := [], lostBefore := false, snapshot := none
      assembly := none, storing := none, resp := none, held := 0, admitted := 0, stalled := false
      control := x.control.drop, query := x.query.drop } with
    kept := s.kept.filter fun k => !(decide (k.key = x.key n) && k.resp.isNone && ids.contains k.reqId)
    live := s.live.filter fun w => !(!w.isReg && decide (w.key = objKey 0x3100 6) && decide (w.ses = n)) }
  exact ⟨_, _, d, rfl, risen⟩

theorem closeSession_closeFrame {n reason : Nat} {s : State} (hl : s.live = []) :
    (closeSession n reason s).closeFrame = s.closeFrame := by
  have cleared : (clearSession n s).closeFrame = s.closeFrame := by
    obtain ⟨x, kept, d, -, clears⟩ := clearSession_eq n s
    rw [clears, hl, List.filter_nil, ← hl]
    rfl
  unfold closeSession
  simp only
  split
  · exact (State.closeFrame_of_base (raiseEv_base _ _ _)).trans cleared
  · rfl

theorem clearSession_closed (n : Nat) (s : State) : ((clearSession n s).session n).isOpen = false := by
  obtain ⟨x, kept, d, closed, clears⟩ := clearSession_eq n s
  rw [clears, ← closed]
  exact congrArg Session.isOpen (mapGet_mapSet_self _ _ _ _)

theorem closeSession_closed (n reason : Nat) (s : State) : ((closeSession n reason s).session n).isOpen = false := by
  unfold closeSession
  simp only
  split
  · exact (congrArg Session.isOpen (raiseEv_still _ _ _ n) :).trans (clearSession_closed n s)
  · next h => simpa using h

/-- A ring that stops, before its session closes. -/
def State.ringStopped (s : State) (r : Nat) : State :=
  ((s.setReg (mbxReg r 0x20) 0).setReg (mbxReg r 0x2C) 0).setRing r { s.ring r with running := false, halted := false }

theorem State.ringStopped_reg (s : State) (r o : Nat) : (s.ringStopped r).reg o =
    if o = mbxReg r 0x20 ∨ o = mbxReg r 0x2C then 0 else s.reg o := by
  have stopped : (s.ringStopped r).reg o = ((s.setReg (mbxReg r 0x20) 0).setReg (mbxReg r 0x2C) 0).reg o := rfl
  rw [stopped, State.reg_setReg, State.reg_setReg]
  by_cases h : o = mbxReg r 0x2C <;> simp [h]

theorem State.ringStopped_eq (s : State) (r : Nat) :
    ∃ regs mbx, s.ringStopped r = { s with regs := regs, mbx := mbx } := by
  unfold State.ringStopped State.setRing State.setReg
  exact ⟨_, _, rfl⟩

theorem State.ringStopped_ctrlSet (s : State) (r v : Nat) :
    ∃ regs mbx, (s.ctrlSet r v).ringStopped r = { s with live := [], regs := regs, mbx := mbx } := by
  obtain ⟨regs, mbx, stopped⟩ := (s.ctrlSet r v).ringStopped_eq r
  refine ⟨regs, mbx, stopped.trans ?_⟩
  rfl

section
variable {r v : Nat} {at_ : Instant} {s : State} (h1 : 1 ≤ r) (h4 : r ≤ 4) (hv : v < 4)
  (hl : s.live = [⟨.hostLinks, true, mbxReg r 0, v, at_, 0⟩]) (hat : at_ < s.time.transitStart)
include h1 h4 hv hl hat

theorem mbxCtrl_stops (ho : (s.reg (mbxReg r 0)).testBit 0 = true) (he : v.testBit 0 = false) :
    Gives (.liveSettingApply .hostLinks) s fun t =>
      t.core = { s with live := [], regs := t.regs, mbx := t.mbx, kept := t.kept, disp := t.disp }.core
        ∧ t.ring r = { s.ring r with running := false, halted := false } ∧ (t.session r).isOpen = false
        ∧ t.reg (mbxReg r 0) = s.reg (mbxReg r 0) - (s.reg (mbxReg r 0) &&& 3) + v
        ∧ t.reg (mbxReg r 0x20) = 0 ∧ t.reg (mbxReg r 0x2C) = 0 := by
  have stops : mbxEnChanged r (s.reg (mbxReg r 0)) (s.ctrlSet r v)
      = closeSession r 3 ((s.ctrlSet r v).ringStopped r) := by
    unfold mbxEnChanged
    rw [State.ctrlSet_reg, if_pos rfl, mbxCtrl_en, ho, he]
    rfl
  have run := liveSettingApply_mbxCtrl h1 h4 hv hl hat
  rw [stops] at run
  have frame : (closeSession r 3 ((s.ctrlSet r v).ringStopped r)).closeFrame
      = ((s.ctrlSet r v).ringStopped r).closeFrame := closeSession_closeFrame rfl
  have closed := closeSession_closed r 3 ((s.ctrlSet r v).ringStopped r)
  generalize closeSession r 3 ((s.ctrlSet r v).ringStopped r) = t at *
  have hregs : t.regs = ((s.ctrlSet r v).ringStopped r).regs := (congrArg State.regs frame :)
  have hmbx : t.mbx = ((s.ctrlSet r v).ringStopped r).mbx := (congrArg State.mbx frame :)
  have hreg (o : Nat) : t.reg o = ((s.ctrlSet r v).ringStopped r).reg o := by
    rw [State.reg, hregs, ← State.reg]
  refine ⟨t, run, ?_, ?_, closed, ?_, ?_, ?_⟩
  · obtain ⟨regs, mbx, stopped⟩ := s.ringStopped_ctrlSet r v
    exact State.core_of_closeFrame (stopped ▸ frame)
  · rw [State.ring, hmbx, ← State.ring]
    exact (State.ring_setRing _ _ _ _).trans (if_pos rfl)
  · rw [hreg, State.ringStopped_reg, if_neg (by simp [mbxReg]), State.ctrlSet_reg, if_pos rfl, mbxCtrl]
  · rw [hreg, State.ringStopped_reg, if_pos (.inl rfl)]
  · rw [hreg, State.ringStopped_reg, if_pos (.inr rfl)]

end

/-! ### The pool, and the admission of a request (R403, R421, R427) -/

/-- The state without what a fetched frame changes beside the kept responses: rings, dispatch, sessions and events. -/
def State.linkFrame (s : State) : State := { s.core with mbx := [], disp := {} }

theorem State.linkFrame_of_base {s t : State} (h : t.base = s.base) : t.linkFrame = s.linkFrame :=
  congrArg (fun u : State => { u with mbx := [], disp := {}, out := {} }) h

theorem State.reg_of_linkFrame {s t : State} (h : t.linkFrame = s.linkFrame) (o : Nat) : t.reg o = s.reg o := by
  have regs : t.regs = s.regs := (congrArg State.regs h :)
  rw [State.reg, regs, ← State.reg]

/-- What such a change leaves, with the rings and the dispatch as they are then. -/
theorem State.core_of_linkFrame {s t : State} (h : t.linkFrame = s.linkFrame) :
    t.core = { s with mbx := t.mbx, disp := t.disp }.core :=
  congrArg (fun u : State => { u with mbx := t.mbx, disp := t.disp }) h

theorem State.core_of_linkFrame_kept {s t : State} {kept} (h : t.linkFrame = { s with kept := kept }.linkFrame) :
    t.core = { s with mbx := t.mbx, disp := t.disp, kept := t.kept }.core :=
  congrArg (fun u : State => { u with mbx := t.mbx, disp := t.disp, kept := t.kept }) h

theorem State.linkFrame_kept {s t : State} (h : t.linkFrame = s.linkFrame) (kept : List Kept) :
    { t with kept := kept }.linkFrame = { s with kept := kept }.linkFrame :=
  congrArg (fun u : State => { u with kept := kept }) h

theorem poolFallen_base (n : Nat) (s : State) : ∃ d, (poolFallen n s).base = { s with disp := d }.base := by
  unfold poolFallen
  split
  · exact ⟨_, raiseEv_base _ _ _⟩
  · exact ⟨s.disp, rfl⟩

theorem poolFallen_still (n : Nat) (s : State) : SessionsStill s (poolFallen n s) := by
  unfold poolFallen
  split
  · exact fun k => raiseEv_still _ _ _ k
  · exact SessionsStill.refl s

section
variable (n c : Nat) (s : State)

theorem takeBuffers_linkFrame : (takeBuffers n c s).linkFrame = s.linkFrame := by
  obtain ⟨d, base⟩ := poolFallen_base n (s.setSession n { s.session n with held := (s.session n).held + c })
  exact (State.linkFrame_of_base base).trans rfl

theorem takeBuffers_mbx : (takeBuffers n c s).mbx = s.mbx := by
  obtain ⟨d, base⟩ := poolFallen_base n (s.setSession n { s.session n with held := (s.session n).held + c })
  exact (congrArg State.mbx base :)

theorem takeBuffers_still : ((takeBuffers n c s).session n).still
    = { s.session n with held := (s.session n).held + c }.still := by
  have still := poolFallen_still n (s.setSession n { s.session n with held := (s.session n).held + c }) n
  rw [State.session_setSession, if_pos rfl] at still
  exact still

theorem freeBuffers_eq : ∃ d, freeBuffers n c s =
    { s.setSession n { s.session n with held := (s.session n).held - c } with disp := d } :=
  poolRisen_eq _

theorem freeBuffers_linkFrame : (freeBuffers n c s).linkFrame = s.linkFrame := by
  obtain ⟨d, frees⟩ := freeBuffers_eq n c s
  rw [frees]
  unfold State.linkFrame State.core State.base State.setSession
  rfl

theorem freeBuffers_mbx : (freeBuffers n c s).mbx = s.mbx := by
  obtain ⟨d, frees⟩ := freeBuffers_eq n c s
  rw [frees]
  rfl

theorem freeBuffers_session :
    (freeBuffers n c s).session n = { s.session n with held := (s.session n).held - c } := by
  obtain ⟨d, frees⟩ := freeBuffers_eq n c s
  have sessions : (freeBuffers n c s).sessions
      = (s.setSession n { s.session n with held := (s.session n).held - c }).sessions := by
    rw [frees]
  rw [State.session, sessions, ← State.session, State.session_setSession, if_pos rfl]

end

/-- A ring that takes a completion. -/
def State.completed (s : State) (r tag len st : Nat) : Mbx :=
  let t := ((s.ring r).cplTail + 1) % s.cplSize r
  { s.ring r with
    completions := (tag, len, st, (s.ring r).phase) :: (s.ring r).completions, cplTail := t
    phase := if t = 0 then !(s.ring r).phase else (s.ring r).phase
    vectors := (s.ring r).vectors + bit ((s.reg (mbxReg r 0)).testBit 1) }

theorem State.completed_reqHead (s : State) (r tag len st : Nat) :
    (s.completed r tag len st).reqHead = (s.ring r).reqHead := rfl

theorem State.completed_completions (s : State) (r tag len st : Nat) :
    (s.completed r tag len st).completions = (tag, len, st, (s.ring r).phase) :: (s.ring r).completions := rfl

theorem State.completed_cplTail (s : State) (r tag len st : Nat) :
    (s.completed r tag len st).cplTail = ((s.ring r).cplTail + 1) % s.cplSize r := rfl

theorem complete_eq (r tag len st : Nat) (s : State) : ∃ e, complete r tag len st s =
    { s.setRing r (s.completed r tag len st) with events := e } := by
  unfold complete
  simp only
  split
  · exact ⟨_, rfl⟩
  · exact ⟨s.events, rfl⟩

theorem complete_mbx (r tag len st : Nat) (s : State) :
    (complete r tag len st s).mbx = (s.setRing r (s.completed r tag len st)).mbx := by
  obtain ⟨e, completes⟩ := complete_eq r tag len st s
  rw [completes]

theorem complete_ring (r tag len st : Nat) (s : State) :
    (complete r tag len st s).ring r = s.completed r tag len st := by
  rw [State.ring, complete_mbx, ← State.ring, State.ring_setRing, if_pos rfl]

theorem complete_linkFrame (r tag len st : Nat) (s : State) : (complete r tag len st s).linkFrame = s.linkFrame := by
  obtain ⟨e, completes⟩ := complete_eq r tag len st s
  rw [completes]
  unfold State.linkFrame State.core State.base State.setRing
  rfl

theorem complete_session (r tag len st : Nat) (s : State) (n : Nat) :
    (complete r tag len st s).session n = s.session n := by
  obtain ⟨e, completes⟩ := complete_eq r tag len st s
  rw [completes]
  unfold State.session State.setRing
  rfl

theorem placeHead_linkFrame (n : Nat) (control : Bool) (s : State) : (placeHead n control s).linkFrame = s.linkFrame := by
  unfold placeHead
  simp only
  split <;> rfl

@[simp] theorem Session.queueOf_setQueueOf (x : Session) (control : Bool) (q : Queue) :
    (x.setQueueOf control q).queueOf control = q := by
  cases control <;> rfl

theorem placeHead_waiting (n : Nat) (control : Bool) (s : State) :
    (((placeHead n control s).session n).queueOf control).waiting = ((s.session n).queueOf control).waiting := by
  unfold placeHead
  simp only
  split
  · rfl
  · rw [State.session_setSession, if_pos rfl, Session.queueOf_setQueueOf]

theorem placeHead_mbx (n : Nat) (control : Bool) (s : State) : (placeHead n control s).mbx = s.mbx := by
  unfold placeHead
  simp only
  split <;> rfl

section
variable {n : Nat} (hn : n ≠ 0) (q : Req) (s : State)

/-- A request at the end of its queue, and the queue's head in place. -/
def State.queued (s : State) (n : Nat) (q : Req) : State :=
  let control := decide (q.op = 2)
  let old := (s.session n).queueOf control
  let t := s.setSession n ((s.session n).setQueueOf control { old with waiting := old.waiting ++ [q] })
  if old.waiting.isEmpty then placeHead n control t else t

omit hn in
theorem State.queued_linkFrame (n : Nat) : (s.queued n q).linkFrame = s.linkFrame := by
  unfold State.queued
  simp only
  split
  · exact (placeHead_linkFrame _ _ _).trans rfl
  · rfl

omit hn in
theorem State.queued_mbx (n : Nat) : (s.queued n q).mbx = s.mbx := by
  unfold State.queued
  simp only
  split
  · exact (placeHead_mbx _ _ _).trans rfl
  · rfl

omit hn in
theorem State.queued_waiting (n : Nat) : (((s.queued n q).session n).queueOf (decide (q.op = 2))).waiting
    = ((s.session n).queueOf (decide (q.op = 2))).waiting ++ [q] := by
  unfold State.queued
  simp only
  split
  · rw [placeHead_waiting, State.session_setSession, if_pos rfl, Session.queueOf_setQueueOf]
  · rw [State.session_setSession, if_pos rfl, Session.queueOf_setQueueOf]

include hn

theorem enqueue_eq : ∃ kept, enqueue n q s = wakeForge { s.queued n q with kept := kept } :=
  ⟨_, congrArg wakeForge (if_neg hn)⟩

theorem enqueue_linkFrame : ∃ kept, (enqueue n q s).linkFrame = { s with kept := kept }.linkFrame := by
  obtain ⟨kept, enqueues⟩ := enqueue_eq hn q s
  refine ⟨kept, ?_⟩
  rw [enqueues, State.linkFrame_of_base (wakeForge_base _)]
  exact congrArg (fun u : State => { u with kept := kept }) (s.queued_linkFrame q n)

theorem enqueue_mbx : (enqueue n q s).mbx = s.mbx := by
  obtain ⟨kept, enqueues⟩ := enqueue_eq hn q s
  rw [enqueues, wakeForge_mbx, s.queued_mbx q n]

theorem enqueue_waiting : (((enqueue n q s).session n).queueOf (decide (q.op = 2))).waiting
    = ((s.session n).queueOf (decide (q.op = 2))).waiting ++ [q] := by
  obtain ⟨kept, enqueues⟩ := enqueue_eq hn q s
  have sessions : (wakeForge { s.queued n q with kept := kept }).sessions = (s.queued n q).sessions := by
    unfold wakeForge
    split <;> rfl
  rw [enqueues, State.session, sessions, ← State.session, State.queued_waiting]

end

theorem charge_linkFrame (n : Nat) (x : Session) (s : State) :
    ((fillBuckets n s).setSession n x).linkFrame = s.linkFrame := by
  unfold State.linkFrame State.core State.base fillBuckets State.setSession
  rfl

/-- A request that is new, finds room and conforms enters its queue, its charge taken. -/
theorem arrive_enqueues {n : Nat} {q : Req} {s : State} (h0 : n ≠ 0) (h28 : n < 29)
    (hk : s.keptOf ((s.session n).key n) q.reqId = none) (hf : s.keptFull ((s.session n).key n) = false)
    (hr : tokUnit ≤ ((fillBuckets n s).session n).reqTokens)
    (hm : moveCharge q * tokUnit ≤ ((fillBuckets n s).session n).moveTokens) :
    arrive n q s = enqueue n q ((fillBuckets n s).setSession n { (fillBuckets n s).session n with
      reqTokens := ((fillBuckets n s).session n).reqTokens - tokUnit
      moveTokens := ((fillBuckets n s).session n).moveTokens - moveCharge q * tokUnit }) := by
  have fresh : dedup n q s = none := by
    simp [dedup, h0, hk, hf]
  have own : ¬ (n = 29 ∨ n = 30) := by omega
  have conforms : ¬ (((fillBuckets n s).session n).reqTokens < tokUnit
      ∨ ((fillBuckets n s).session n).moveTokens < moveCharge q * tokUnit) := by omega
  simp only [arrive, fresh, if_neg own, if_neg conforms]

/-- What events leave of a session. -/
theorem Session.control_of_still {x y : Session} (h : x.still = y.still) : x.control = y.control :=
  (congrArg Session.control h :)

theorem Session.query_of_still {x y : Session} (h : x.still = y.still) : x.query = y.query := (congrArg Session.query h :)

theorem Session.held_of_still {x y : Session} (h : x.still = y.still) : x.held = y.held := (congrArg Session.held h :)

/-! ### A descriptor fetched (R390) -/

section
variable {r : Nat} {desc frame : List Byte} {s : State} (hrun : (s.ring r).running = true)
  (hhalt : (s.ring r).halted = false) (hopen : (s.session r).isOpen = true) (hlink : (s.session r).link = 1)

theorem mbxDescriptorFetch_none (h : (s.ring r).reqHead = s.reg (mbxReg r 0x20)) :
    Gives (.mbxDescriptorFetch r desc frame) s fun t => t = s := ⟨_, rfl, if_pos (by simp [h])⟩

/-- The state in which a descriptor has been fetched and its frame holds its buffers. -/
def State.fetched (s : State) (r : Nat) (frame : List Byte) : State :=
  takeBuffers r (buffersFor frame.length)
    (s.setRing r { s.ring r with reqHead := ((s.ring r).reqHead + 1) % s.reqSize r })

theorem State.fetched_linkFrame (s : State) (r : Nat) (frame : List Byte) :
    (s.fetched r frame).linkFrame = s.linkFrame := (takeBuffers_linkFrame _ _ _).trans rfl

theorem State.fetched_ring (s : State) (r : Nat) (frame : List Byte) : (s.fetched r frame).ring r =
    { s.ring r with reqHead := ((s.ring r).reqHead + 1) % s.reqSize r } := by
  rw [State.ring, State.fetched, takeBuffers_mbx, ← State.ring, State.ring_setRing, if_pos rfl]

theorem State.fetched_still (s : State) (r : Nat) (frame : List Byte) : ((s.fetched r frame).session r).still =
    { s.session r with held := (s.session r).held + buffersFor frame.length }.still := takeBuffers_still _ _ _

theorem State.fetched_time (s : State) (r : Nat) (frame : List Byte) : (s.fetched r frame).time = s.time :=
  (congrArg State.time (s.fetched_linkFrame r frame) :)

include hrun hhalt hopen hlink

variable (hhead : (s.ring r).reqHead ≠ s.reg (mbxReg r 0x20)) (hfree : s.cplFree r = true)
  (hadm : (s.session r).admitted = 0) (hpool : s.poolAdmits r (buffersFor frame.length) = true)
include hhead hfree hadm hpool

theorem mbxDescriptorFetch_eq : exec (.mbxDescriptorFetch r desc frame) s = .next (
    if mailboxStatus desc frame ≠ stOk then
      complete r (leAt desc 24 8) 0 (mailboxStatus desc frame)
        (freeBuffers r (buffersFor frame.length) (s.fetched r frame))
    else arrive r (parseReq frame s.time.elapsed (buffersFor frame.length) (leAt desc 24 8) (leAt desc 12 4))
      (s.fetched r frame)) := by
  have goes : ¬ ((!(s.ring r).running) = true ∨ (s.ring r).halted = true ∨ (!(s.session r).isOpen) = true
      ∨ (s.session r).link ≠ 1 ∨ (s.ring r).reqHead = s.reg (mbxReg r 0x20) ∨ (!s.cplFree r) = true) := by
    simp [hrun, hhalt, hopen, hlink, hhead, hfree]
  have admits : ¬ ((s.session r).admitted = 0 ∧ (!s.poolAdmits r (buffersFor frame.length)) = true) := by
    simp [hpool]
  refine congrArg Host.Outcome.next ((if_neg goes).trans ((if_neg admits).trans ?_))
  simp only [hadm, reduceIte, ← s.fetched_time r frame]
  rfl

theorem mbxDescriptorFetch_refuses (hst : mailboxStatus desc frame ≠ stOk) :
    Gives (.mbxDescriptorFetch r desc frame) s fun t => t.core = { s with mbx := t.mbx, disp := t.disp }.core
      ∧ (t.ring r).reqHead = ((s.ring r).reqHead + 1) % s.reqSize r
      ∧ (t.ring r).completions
          = (leAt desc 24 8, 0, mailboxStatus desc frame, (s.ring r).phase) :: (s.ring r).completions
      ∧ (t.ring r).cplTail = ((s.ring r).cplTail + 1) % s.cplSize r
      ∧ (t.session r).control = (s.session r).control ∧ (t.session r).query = (s.session r).query
      ∧ (t.session r).held = (s.session r).held := by
  have run := mbxDescriptorFetch_eq (desc := desc) hrun hhalt hopen hlink hhead hfree hadm hpool
  rw [if_pos hst] at run
  have ring : (freeBuffers r (buffersFor frame.length) (s.fetched r frame)).ring r
      = { s.ring r with reqHead := ((s.ring r).reqHead + 1) % s.reqSize r } := by
    rw [State.ring, freeBuffers_mbx, ← State.ring, s.fetched_ring r frame]
  have link : (freeBuffers r (buffersFor frame.length) (s.fetched r frame)).linkFrame = s.linkFrame :=
    (freeBuffers_linkFrame _ _ _).trans (s.fetched_linkFrame r frame)
  have size : (freeBuffers r (buffersFor frame.length) (s.fetched r frame)).cplSize r = s.cplSize r := by
    rw [State.cplSize, State.reg_of_linkFrame link, ← State.cplSize]
  have session := freeBuffers_session r (buffersFor frame.length) (s.fetched r frame)
  have still := s.fetched_still r frame
  have control : ((s.fetched r frame).session r).control = (s.session r).control := (Session.control_of_still still :)
  have query : ((s.fetched r frame).session r).query = (s.session r).query := (Session.query_of_still still :)
  have held : ((s.fetched r frame).session r).held = (s.session r).held + buffersFor frame.length :=
    (Session.held_of_still still :)
  generalize freeBuffers r (buffersFor frame.length) (s.fetched r frame) = u at *
  have completed := complete_ring r (leAt desc 24 8) 0 (mailboxStatus desc frame) u
  have whole := (complete_linkFrame r (leAt desc 24 8) 0 (mailboxStatus desc frame) u).trans link
  have kept := complete_session r (leAt desc 24 8) 0 (mailboxStatus desc frame) u r
  generalize complete r (leAt desc 24 8) 0 (mailboxStatus desc frame) u = t at *
  refine ⟨t, run, State.core_of_linkFrame whole, ?_, ?_, ?_, ?_, ?_, ?_⟩
  · rw [completed, State.completed_reqHead, ring]
  · rw [completed, State.completed_completions, ring]
  · rw [completed, State.completed_cplTail, ring, size]
  · rw [kept, session, control]
  · rw [kept, session, query]
  · rw [kept, session, held, Nat.add_sub_cancel]

end

/-- A session's key is that of its link and its peer. -/
theorem Session.key_congr {x y : Session} (hl : x.link = y.link) (hp : x.peer = y.peer) (n : Nat) :
    x.key n = y.key n := by
  rw [Session.key, hl, hp, ← Session.key]

/-- What the filling of a session's buckets gives asks for its tokens, its last filling and its settings alone. -/
theorem fillBuckets_congr {n : Nat} {s t : State} (ho : t.objs = s.objs) (ht : t.time = s.time)
    (hopen : (t.session n).isOpen = (s.session n).isOpen) (hr : (t.session n).reqTokens = (s.session n).reqTokens)
    (hm : (t.session n).moveTokens = (s.session n).moveTokens) (hf : (t.session n).filledAt = (s.session n).filledAt) :
    ((fillBuckets n t).session n).reqTokens = ((fillBuckets n s).session n).reqTokens
      ∧ ((fillBuckets n t).session n).moveTokens = ((fillBuckets n s).session n).moveTokens := by
  have obj (ix sub : Nat) : t.obj ix sub = s.obj ix sub := by rw [State.obj, ho, ← State.obj]
  simp [fillBuckets, obj, ht, hopen, hr, hm, hf]

section
variable {r : Nat} {desc frame : List Byte} {s : State} (h1 : 1 ≤ r) (h4 : r ≤ 4) (hrun : (s.ring r).running = true)
  (hhalt : (s.ring r).halted = false) (hopen : (s.session r).isOpen = true) (hlink : (s.session r).link = 1)
  (hhead : (s.ring r).reqHead ≠ s.reg (mbxReg r 0x20)) (hfree : s.cplFree r = true)
  (hadm : (s.session r).admitted = 0) (hpool : s.poolAdmits r (buffersFor frame.length) = true)
include h1 h4 hrun hhalt hopen hlink hhead hfree hadm hpool

theorem mbxDescriptorFetch_queues {q : Req}
    (hq : q = parseReq frame s.time.elapsed (buffersFor frame.length) (leAt desc 24 8) (leAt desc 12 4))
    (hst : mailboxStatus desc frame = stOk) (hk : s.keptOf ((s.session r).key r) q.reqId = none)
    (hf : s.keptFull ((s.session r).key r) = false) (hr : tokUnit ≤ ((fillBuckets r s).session r).reqTokens)
    (hm : moveCharge q * tokUnit ≤ ((fillBuckets r s).session r).moveTokens) :
    Gives (.mbxDescriptorFetch r desc frame) s fun t =>
      t.core = { s with mbx := t.mbx, disp := t.disp, kept := t.kept }.core
        ∧ (t.ring r).reqHead = ((s.ring r).reqHead + 1) % s.reqSize r
        ∧ ((t.session r).queueOf (decide (q.op = 2))).waiting
            = ((s.session r).queueOf (decide (q.op = 2))).waiting ++ [q] := by
  have run := mbxDescriptorFetch_eq (desc := desc) hrun hhalt hopen hlink hhead hfree hadm hpool
  rw [if_neg (not_not.2 hst), ← hq] at run
  have link := s.fetched_linkFrame r frame
  have ring := s.fetched_ring r frame
  have still := s.fetched_still r frame
  generalize s.fetched r frame = u at *
  have kept : u.kept = s.kept := (congrArg State.kept link :)
  have time : u.time = s.time := (congrArg State.time link :)
  have key : (u.session r).key r = (s.session r).key r :=
    Session.key_congr (congrArg Session.link still :) (congrArg Session.peer still :) r
  obtain ⟨tokens, moves⟩ := fillBuckets_congr (n := r) (s := s) (t := u) (congrArg State.objs link :) time
    (congrArg Session.isOpen still :) (congrArg Session.reqTokens still :) (congrArg Session.moveTokens still :)
    (congrArg Session.filledAt still :)
  have keptOf : u.keptOf ((u.session r).key r) q.reqId = none := by
    rw [key, State.keptOf, kept, time]
    exact hk
  have keptFull : u.keptFull ((u.session r).key r) = false := by
    rw [key, State.keptFull, kept, time]
    exact hf
  rw [arrive_enqueues (by omega) (by omega) keptOf keptFull (tokens ▸ hr) (moves ▸ hm)] at run
  have charged (x : Session) (hc : x.control = (u.session r).control) (hy : x.query = (u.session r).query) :
      ((((fillBuckets r u).setSession r x).session r).queueOf (decide (q.op = 2))).waiting
        = ((s.session r).queueOf (decide (q.op = 2))).waiting := by
    have control : (u.session r).control = (s.session r).control := (Session.control_of_still still :)
    have query : (u.session r).query = (s.session r).query := (Session.query_of_still still :)
    rw [State.session_setSession, if_pos rfl, Session.queueOf, Session.queueOf, hc, hy, control, query]
  obtain ⟨k, frame'⟩ := enqueue_linkFrame (n := r) (by omega) q ((fillBuckets r u).setSession r
    { (fillBuckets r u).session r with
      reqTokens := ((fillBuckets r u).session r).reqTokens - tokUnit
      moveTokens := ((fillBuckets r u).session r).moveTokens - moveCharge q * tokUnit })
  refine ⟨_, run, ?_, ?_, ?_⟩
  · exact State.core_of_linkFrame_kept (frame'.trans (State.linkFrame_kept ((charge_linkFrame _ _ _).trans link) k))
  · rw [State.ring, enqueue_mbx (by omega)]
    exact congrArg Mbx.reqHead ring
  · rw [enqueue_waiting (by omega), charged _ ?_ ?_]
    · simp [fillBuckets]
    · simp [fillBuckets]

end

/-! ### A failed DMA -/

theorem mbxDmaError_halts {r : Nat} {s : State} (hrun : (s.ring r).running = true) (hhalt : (s.ring r).halted = false) :
    Gives (.mbxDmaError r) s fun t => Same { s with mbx := t.mbx } t
      ∧ t.ring r = { s.ring r with halted := true, dmaErr := true } ∧ ∀ k, k ≠ r → t.ring k = s.ring k := by
  have halts : exec (.mbxDmaError r) s = .next (raiseEv 0x504 [byte r, 1#8, byte r]
      (s.setRing r { s.ring r with halted := true, dmaErr := true })) :=
    congrArg Host.Outcome.next (if_pos ⟨hrun, by simp [hhalt]⟩)
  refine ⟨_, halts, ?_, ?_, fun k hk => ?_⟩
  · rw [raiseEv_mbx]
    exact ⟨raiseEv_base _ _ _, raiseEv_still _ _ _⟩
  · rw [State.ring, raiseEv_mbx, ← State.ring, State.ring_setRing, if_pos rfl]
  · rw [State.ring, raiseEv_mbx, ← State.ring, State.ring_setRing, if_neg hk]

end Sys2Proof.Machine
end

section
open Sys2Proof Sys2Proof.Machine

/-- Settles O47: EN by its old and its new value, a fetched descriptor by its frame's status. -/
theorem mailboxRings : Obligations.MailboxRings :=
  ⟨fun _ _ _ _ h1 h4 hf => ⟨mbxEnWrite_rejects h1 h4 hf, mbxEnWrite_waits h1 h4 hf⟩,
    fun _ _ _ _ h1 h4 hv hl hat => ⟨mbxCtrl_kept h1 h4 hv hl hat, mbxCtrl_starts h1 h4 hv hl hat,
      mbxCtrl_stops h1 h4 hv hl hat⟩,
    fun _ n _ h1 h4 hf => mbxDoorbells_wait h1 h4 hf n,
    fun _ _ _ _ h1 h4 hrun hhalt hopen hlink => ⟨mbxDescriptorFetch_none, fun hhead hfree hadm hpool =>
      ⟨mbxDescriptorFetch_refuses hrun hhalt hopen hlink hhead hfree hadm hpool, fun _ hq hst hk hf hr hm =>
        mbxDescriptorFetch_queues h1 h4 hrun hhalt hopen hlink hhead hfree hadm hpool hq hst hk hf hr hm⟩⟩,
    fun _ _ hrun hhalt => mbxDmaError_halts hrun hhalt⟩

end

/-! SUPPORT. Writes of an element's mode, target and manual code (R33, R130, R139): what a write asks of its element, and
its refusals. -/
section
namespace Sys2Proof.Machine

/-- A write that passes and that its rule refuses is answered with a status alone. -/
theorem gives_reply {c : Instr} {ses st : Nat} {s : State} (run : exec c s = .next (reply ses st s)) :
    Gives c s fun t => Does ses st s s t :=
  ⟨_, run, does_reply ses st s s (SessionsStill.refl s)⟩

theorem reply_elem (ses st : Nat) (s : State) (e : Nat) : (reply ses st s).elem e = s.elem e := by
  simp [State.elem]

/-- A write that changes one element. -/
theorem gives_setElem {c : Instr} {ses e : Nat} {x : Elem} {s : State}
    (run : exec c s = .next (reply ses stOk (s.setElem e x))) : Gives c s fun t =>
      Does ses stOk s { s with elems := t.elems } t ∧ t.elem e = x ∧ ∀ f, f ≠ e → t.elem f = s.elem f := by
  refine ⟨_, run, ?_, ?_, fun f hf => ?_⟩
  · rw [reply_elems]
    exact does_reply ses stOk s (s.setElem e x) (SessionsStill.of_eq rfl)
  · rw [reply_elem, State.elem_setElem, if_pos rfl]
  · rw [reply_elem, State.elem_setElem, if_neg hf]

/-! ### The mode -/

section
variable {ses e v : Nat} {s : State} (h : Passes ses (0x8000 + e) 4 (valBytes 1 v) s)
include h

theorem elemModeWrite_range (hv : v ≠ 0 ∧ v ≠ 1 ∧ v ≠ 4) :
    Gives (.elemModeWrite ses e v) s fun t => Does ses stRange s s t :=
  gives_reply (congrArg Host.Outcome.next ((gated_pass h _).trans (if_pos hv)))

variable (hv : v = 0 ∨ v = 1 ∨ v = 4)
include hv

theorem elemModeWrite_refused (hr : s.modeRefused e v = true) :
    Gives (.elemModeWrite ses e v) s fun t => Does ses stNotEligible s s t :=
  gives_reply (congrArg Host.Outcome.next ((gated_pass h _).trans ((if_neg (by omega)).trans (if_pos hr))))

theorem elemModeWrite_asks (hr : s.modeRefused e v = false) : Gives (.elemModeWrite ses e v) s fun t =>
    Does ses stOk s { s with elems := t.elems } t
      ∧ t.elem e = { s.elem e with modeAsks :=
          (if (s.elem e).mode = modeOf v ∨ (v = 1 ∧ (s.elem e).mode.runs = true) then none else some (modeOf v),
            s.time.elapsed) :: (s.elem e).modeAsks }
      ∧ ∀ f, f ≠ e → t.elem f = s.elem f :=
  gives_setElem (congrArg Host.Outcome.next
    ((gated_pass h _).trans ((if_neg (by omega)).trans (if_neg (by simp [hr])))))

end

/-! ### The target -/

/-- A target that is written waits, whatever the target in force is. -/
theorem queueTarget_some (e v now : Nat) (s : State) : queueTarget e v (some now) s =
    s.setElem e { s.elem e with targetPending := (v, some now) :: (s.elem e).targetPending } := by
  simp [queueTarget]

section
variable {ses e v : Nat} {s : State} (h : Passes ses (0x8000 + e) 8 (valBytes 2 v) s)
include h

theorem elemTargetSetWrite_range (hr : s.inTravelWindow e v = false ∨ s.beyondCross e v = true) :
    Gives (.elemTargetSetWrite ses e v) s fun t => Does ses stRange s s t :=
  gives_reply (congrArg Host.Outcome.next ((gated_pass h _).trans (if_pos (by simpa using hr))))

variable (hw : s.inTravelWindow e v = true) (hc : s.beyondCross e v = false)
include hw hc

theorem elemTargetSetWrite_refused (hl : s.active.onLeg e = true ∨ (s.elem e).mode ≠ .hold) :
    Gives (.elemTargetSetWrite ses e v) s fun t => Does ses stNotEligible s s t :=
  gives_reply (congrArg Host.Outcome.next
    ((gated_pass h _).trans ((if_neg (by simp [hw, hc])).trans (if_pos hl))))

theorem elemTargetSetWrite_eq (hl : s.active.onLeg e = false) (hm : (s.elem e).mode = .hold) :
    exec (.elemTargetSetWrite ses e v) s
      = .next (reply ses stOk (queueTarget e v (some s.time.elapsed)
          (s.setElem e { s.elem e with targetSet := v }))) :=
  congrArg Host.Outcome.next
    ((gated_pass h _).trans ((if_neg (by simp [hw, hc])).trans (if_neg (by simp [hl, hm]))))

theorem elemTargetSetWrite_waits (hl : s.active.onLeg e = false) (hm : (s.elem e).mode = .hold) :
    Gives (.elemTargetSetWrite ses e v) s fun t =>
      Does ses stOk s { s with elems := t.elems } t
        ∧ t.elem e = { s.elem e with
            targetSet := v, targetPending := (v, some s.time.elapsed) :: (s.elem e).targetPending }
        ∧ ∀ f, f ≠ e → t.elem f = s.elem f := by
  have run := elemTargetSetWrite_eq h hw hc hl hm
  rw [queueTarget_some, State.elem_setElem, if_pos rfl] at run
  refine ⟨_, run, ?_, ?_, fun f hf => ?_⟩
  · rw [reply_elems]
    exact does_reply ses stOk s _ (SessionsStill.of_eq rfl)
  · rw [reply_elem, State.elem_setElem, if_pos rfl]
  · rw [reply_elem, State.elem_setElem, if_neg hf, State.elem_setElem, if_neg hf]

end

/-! ### The manual code -/

section
variable {ses e v : Nat} {s : State} (h : Passes ses (0x8000 + e) 9 (valBytes 4 v) s)
include h

theorem elemManualCodeWrite_range (hv : clearLimit e < v ∧ ¬ (ses = 31 ∧ s.life.state ≠ .deployed)) :
    Gives (.elemManualCodeWrite ses e v) s fun t => Does ses stRange s s t :=
  gives_reply (congrArg Host.Outcome.next ((gated_pass h _).trans (if_pos (by simpa [imp_iff_not_or] using hv))))

theorem elemManualCodeWrite_waits (hv : ¬ (clearLimit e < v ∧ ¬ (ses = 31 ∧ s.life.state ≠ .deployed))) :
    Gives (.elemManualCodeWrite ses e v) s fun t => Does ses stOk s { s with
      live := s.live ++ [⟨.elementLoop, false, objKey (0x8000 + e) 9, v, s.time.elapsed, 0⟩] } t := by
  have waits : exec (.elemManualCodeWrite ses e v) s
      = .next (reply ses stOk (waitSetting .elementLoop false (objKey (0x8000 + e) 9) v 0 s)) :=
    congrArg Host.Outcome.next ((gated_pass h _).trans (if_neg (by simpa [imp_iff_not_or] using hv)))
  exact ⟨_, waits, does_reply ses stOk s _ (SessionsStill.of_eq rfl)⟩

end

end Sys2Proof.Machine
end

section
open Sys2Proof Sys2Proof.Machine

/-- Settles O2: each write by the cases of its refusals. -/
theorem elementWrites : Obligations.ElementWrites :=
  ⟨fun _ _ _ _ h => ⟨elemModeWrite_range h, elemModeWrite_refused h, elemModeWrite_asks h⟩,
    fun _ _ _ _ h => ⟨elemTargetSetWrite_range h, elemTargetSetWrite_refused h, elemTargetSetWrite_waits h⟩,
    fun _ _ _ _ h => ⟨elemManualCodeWrite_range h, elemManualCodeWrite_waits h⟩⟩

end

/-! SUPPORT. Stored configurations and the schedule's table (R104 to R109, R114): the records that a table names, and what
ARM and COMMIT put in force. -/
section
namespace Sys2Proof.Machine

/-! ### Answers after events and records -/

theorem Same.trans {s t u : State} (h : Same s t) (k : Same t u) : Same s u := ⟨k.1.trans h.1, h.2.trans k.2⟩

theorem Same.sched {s t : State} (h : Same s t) : t.sched = s.sched := (congrArg State.sched h.1 :)

theorem raiseAt_same (src : Nat) (at_ : Instant) (fl : Nat) (p : List Byte) (s : State) :
    Same s (raiseAt src at_ fl p s) := ⟨raiseAt_base _ _ _ _ _, raiseAt_still _ _ _ _ _⟩

theorem raiseEv_same (src : Nat) (p : List Byte) (s : State) : Same s (raiseEv src p s) :=
  ⟨raiseEv_base _ _ _, raiseEv_still _ _ _⟩

theorem audit_same (ty : Nat) (p : List Byte) (s : State) : Same s (audit ty p s) :=
  ⟨audit_base _ _ _, audit_still _ _ _⟩

/-- An answer to a state that is another one but for events and records. -/
theorem does_of_same {ses st : Nat} {s u t : State} (hu : u.sessions = s.sessions) (h : Same u t) :
    Does ses st s u (reply ses st t) :=
  (does_reply ses st s t ((SessionsStill.of_eq hu).trans h.2)).of_core (State.core_of_base h.1)

/-! ### Stored configurations -/

theorem State.cfg_congr {s t : State} (h : t.cfgs = s.cfgs) (k : Nat) : t.cfg k = s.cfg k := by
  rw [State.cfg, h, ← State.cfg]

theorem cfgBodyWrite_stores {ses c : Nat} {v : List Byte} {s : State} (h : Passes ses (0x2400 + c) 1 v s) :
    Gives (.cfgBodyWrite ses c v) s fun t => Does ses stOk s { s with cfgs := t.cfgs } t
      ∧ t.cfg c = { s.cfg c with body := v, state := 1, reason := 0 } ∧ ∀ k, k ≠ c → t.cfg k = s.cfg k := by
  let p := [5#8, byte c] ++ (bodyCfg v).circuitDigest
  let u := s.setCfg c { s.cfg c with body := v, state := 1, reason := 0 }
  have stores : exec (.cfgBodyWrite ses c v) s = .next (reply ses stOk (audit 0x0E p u)) :=
    congrArg Host.Outcome.next (gated_pass h _)
  have cfgs : (reply ses stOk (audit 0x0E p u)).cfgs = u.cfgs := by simp
  refine ⟨_, stores, ?_, ?_, fun k hk => ?_⟩
  · rw [cfgs]
    exact does_of_same (u := u) rfl (audit_same _ _ _)
  · rw [State.cfg_congr cfgs, State.cfg_setCfg, if_pos rfl]
  · rw [State.cfg_congr cfgs, State.cfg_setCfg, if_neg hk]

theorem cfgCompileDone_waits {c ns : Nat} {s : State} (h : (s.cfg c).state ≠ 1 ∨ s.awake = false) :
    Gives (.cfgCompileDone c ns) s fun t => t = s :=
  ⟨_, rfl, if_pos (by simpa using h)⟩

theorem cfgCompileDone_ends {c ns : Nat} {r : Nat × Cfg} {s : State} (h1 : (s.cfg c).state = 1) (ha : s.awake = true)
    (hr : r = s.compile (s.cfg c).body) : Gives (.cfgCompileDone c ns) s fun t =>
      Same { s with cfgs := t.cfgs } t ∧ (∀ k, k ≠ c → t.cfg k = s.cfg k)
        ∧ t.cfg c = { s.cfg c with
            state := if r.1 = 0 then 2 else 3, reason := r.1, legs := r.2.legs.length
            splits := r.2.splits.length, compileNs := min ns 2000000, image := r.2 } := by
  subst hr
  let r := s.compile (s.cfg c).body
  let u := s.setCfg c { s.cfg c with
    state := if r.1 = 0 then 2 else 3, reason := r.1, legs := r.2.legs.length
    splits := r.2.splits.length, compileNs := min ns 2000000, image := r.2 }
  let p := cfgPayload c (if r.1 = 0 then 2 else 3) r.1 s.sched.cycleCount
  have ends : exec (.cfgCompileDone c ns) s = .next (raiseEv 0x618 p u) :=
    congrArg Host.Outcome.next (if_neg (by simp [h1, ha]))
  have cfgs : (raiseEv 0x618 p u).cfgs = u.cfgs := raiseEv_cfgs _ _ _
  refine ⟨_, ends, ?_, fun k hk => ?_, ?_⟩
  · rw [cfgs]
    exact raiseEv_same 0x618 p u
  · rw [State.cfg_congr cfgs, State.cfg_setCfg, if_neg hk]
  · rw [State.cfg_congr cfgs, State.cfg_setCfg, if_pos rfl]

/-! ### ARM and COMMIT -/

theorem namedRecords_same (t : List Watch) (s : State) : Same s (namedRecords t s) :=
  forEach_keeps_base _ (fun _ _ => audit_same _ _ _) _ _

/-- A command of the schedule that is refused by a row of R107. -/
def State.schedRefused (s : State) (row : Nat) : State := { s with sched := { s.sched with reject := row } }

section
variable {ses : Nat} {s : State} (h : Passes ses 0x2100 1 [1#8] s)
include h

theorem schedArm_notEligible (hr : s.sched.state ≠ .idle ∨ s.auditNearFull = true ∨ s.failStatic = true
    ∨ s.stopped2 = true) : Gives (.schedArm ses) s fun t => Does ses stNotEligible s s t :=
  gives_reply (congrArg Host.Outcome.next ((gated_pass h _).trans (if_pos hr)))

variable (hi : s.sched.state = .idle) (hn : s.auditNearFull = false) (hf : s.failStatic = false)
  (hs : s.stopped2 = false)
include hi hn hf hs

theorem schedArm_refused (hr : s.schedRow s.sched.shadowTable s.sched.shadowBase true ≠ 0) :
    Gives (.schedArm ses) s fun t =>
      Does ses (rowStatus (s.schedRow s.sched.shadowTable s.sched.shadowBase true)) s
        (s.schedRefused (s.schedRow s.sched.shadowTable s.sched.shadowBase true)) t := by
  have refuses : exec (.schedArm ses) s = .next
      (reply ses (rowStatus (s.schedRow s.sched.shadowTable s.sched.shadowBase true))
        (s.schedRefused (s.schedRow s.sched.shadowTable s.sched.shadowBase true))) :=
    congrArg Host.Outcome.next ((gated_pass h _).trans ((if_neg (by simp [hi, hn, hf, hs])).trans (if_pos hr)))
  exact ⟨_, refuses, does_reply _ _ s _ (SessionsStill.of_eq rfl)⟩

/-- The schedule armed with its shadow table. -/
def State.armedWith (s : State) (start : Instant) : State :=
  { s with sched := { (takeTable s.sched.shadowTable s.sched.shadowBase s).sched with
    state := .armed, setBase := s.sched.shadowBase, start := start, next := start, watchNow := 0, cycleCount := 0
    late := 0, change := none, stopAtEnd := none, stopNow := none, imageReady := false, imageCopy := false
    realign := false } }

theorem schedArm_arms (hr : s.schedRow s.sched.shadowTable s.sched.shadowBase true = 0) :
    Gives (.schedArm ses) s fun t =>
      Does ses stOk s { s with sched := t.sched } t ∧ t.sched.state = .armed
        ∧ t.sched.table = s.sched.shadowTable ∧ t.sched.base = s.sched.shadowBase
        ∧ t.sched.start = gridStart s.sched.shadowBase (cycleUnits s.sched.shadowTable) s.now
        ∧ t.sched.next = t.sched.start ∧ t.sched.cycleCount = 0 ∧ t.sched.late = 0 ∧ t.sched.reject = 0
        ∧ t.sched.shadowTable = s.sched.shadowTable := by
  let start := gridStart s.sched.shadowBase (cycleUnits s.sched.shadowTable) s.now
  let u := s.armedWith start
  have arms : exec (.schedArm ses) s = .next (reply ses stOk
      (namedRecords s.sched.shadowTable (raiseAt 0x610 start 0 (u.schedPayload 0) u))) :=
    congrArg Host.Outcome.next ((gated_pass h _).trans
      ((if_neg (by simp [hi, hn, hf, hs])).trans (if_neg (not_not.2 hr))))
  have same := (raiseAt_same 0x610 start 0 (u.schedPayload 0) u).trans (namedRecords_same s.sched.shadowTable _)
  refine ⟨_, arms, ?_⟩
  beta_reduce
  rw [reply_sched, same.sched]
  exact ⟨does_of_same (u := u) rfl same, rfl, rfl, rfl, rfl, rfl, rfl, rfl, rfl, rfl⟩

end

section
variable {ses : Nat} {s : State} (h : Passes ses 0x2100 1 [2#8] s)
include h

theorem schedCommit_notEligible (hr : s.sched.state = .idle ∨ s.sched.state = .stopping) :
    Gives (.schedCommit ses) s fun t => Does ses stNotEligible s s t :=
  gives_reply (congrArg Host.Outcome.next ((gated_pass h _).trans (if_pos hr)))

theorem schedCommit_refused (hs : s.sched.state = .running)
    (hr : s.schedRow s.sched.shadowTable s.sched.shadowBase false ≠ 0) : Gives (.schedCommit ses) s fun t =>
      Does ses (rowStatus (s.schedRow s.sched.shadowTable s.sched.shadowBase false)) s
        (s.schedRefused (s.schedRow s.sched.shadowTable s.sched.shadowBase false)) t := by
  have refuses : exec (.schedCommit ses) s = .next
      (reply ses (rowStatus (s.schedRow s.sched.shadowTable s.sched.shadowBase false))
        (s.schedRefused (s.schedRow s.sched.shadowTable s.sched.shadowBase false))) :=
    congrArg Host.Outcome.next ((gated_pass h _).trans ((if_neg (by simp [hs])).trans (if_pos hr)))
  exact ⟨_, refuses, does_reply _ _ s _ (SessionsStill.of_eq rfl)⟩

variable (hr : s.schedRow s.sched.shadowTable s.sched.shadowBase false = 0)
include hr

/-- The change that a COMMIT of the shadow table asks for: of the table alone, or with a new base. -/
def State.askedChange (s : State) : SchedChange where
  table := s.sched.shadowTable
  base := s.sched.shadowBase
  baseChanged := decide (s.sched.shadowBase ≠ s.sched.setBase)
  at_ := if s.sched.shadowBase = s.sched.setBase then tableChangeAt s.sched.base (cycleUnits s.sched.table) s.now
    else gridStart s.sched.shadowBase (cycleUnits s.sched.shadowTable) s.now

/-- That change committed; the image that stands is another watch's where the change comes first. -/
def State.changeAsked (s : State) : State :=
  let first := decide (s.askedChange.at_ ≤ s.sched.next)
  { s with sched := { s.sched with
    change := some s.askedChange, reject := 0
    imageReady := s.sched.imageReady && !first, imageCopy := s.sched.imageCopy || first } }

theorem schedCommit_running_eq (hs : s.sched.state = .running) : exec (.schedCommit ses) s
    = .next (reply ses stOk (namedRecords s.sched.shadowTable s.changeAsked)) := by
  refine congrArg Host.Outcome.next ((gated_pass h _).trans
    ((if_neg (by simp [hs])).trans ((if_neg (not_not.2 hr)).trans ((if_neg (by simp [hs])).trans ?_))))
  simp only [State.changeAsked, State.askedChange, decide_eq_true_eq, decide_not]

theorem schedCommit_running (hs : s.sched.state = .running) : Gives (.schedCommit ses) s fun t =>
    Does ses stOk s { s with sched := { s.sched with
      reject := 0, imageReady := t.sched.imageReady, imageCopy := t.sched.imageCopy
      change := some s.askedChange } } t
      ∧ ∀ c, t.sched.change = some c →
          (c.at_ ≤ s.sched.next → t.sched.imageReady = false ∧ t.sched.imageCopy = true)
          ∧ (s.sched.next < c.at_ →
              t.sched.imageReady = s.sched.imageReady ∧ t.sched.imageCopy = s.sched.imageCopy) := by
  have same := namedRecords_same s.sched.shadowTable s.changeAsked
  refine ⟨_, schedCommit_running_eq h hr hs, ?_⟩
  beta_reduce
  rw [reply_sched, same.sched]
  refine ⟨does_of_same (u := s.changeAsked) rfl same, fun c hc => ?_⟩
  obtain rfl : s.askedChange = c := Option.some.inj hc
  refine ⟨fun first => ?_, fun later => ?_⟩
  · simp [State.changeAsked, first]
  · simp [State.changeAsked, Nat.not_le.2 later]

/-- An ARMED schedule that takes its shadow table. -/
def State.rearmedWith (s : State) (start : Instant) : State :=
  { s with sched := { (takeTable s.sched.shadowTable s.sched.shadowBase s).sched with
    setBase := s.sched.shadowBase, start := start, next := start, imageReady := false, imageCopy := false } }

theorem schedCommit_armed (hs : s.sched.state = .armed) : Gives (.schedCommit ses) s fun t =>
    Does ses stOk s { s with sched := t.sched } t ∧ t.sched.state = .armed
      ∧ t.sched.table = s.sched.shadowTable ∧ t.sched.base = s.sched.shadowBase
      ∧ t.sched.start = gridStart s.sched.shadowBase (cycleUnits s.sched.shadowTable) s.now
      ∧ t.sched.next = t.sched.start := by
  let u := s.rearmedWith (gridStart s.sched.shadowBase (cycleUnits s.sched.shadowTable) s.now)
  have takes : exec (.schedCommit ses) s = .next (reply ses stOk
      (namedRecords s.sched.shadowTable (raiseEv 0x614 (u.schedPayload 0) u))) :=
    congrArg Host.Outcome.next ((gated_pass h _).trans
      ((if_neg (by simp [hs])).trans ((if_neg (not_not.2 hr)).trans (if_pos hs))))
  have same := (raiseEv_same 0x614 (u.schedPayload 0) u).trans (namedRecords_same s.sched.shadowTable _)
  refine ⟨_, takes, ?_⟩
  beta_reduce
  rw [reply_sched, same.sched]
  exact ⟨does_of_same (u := u) rfl same, hs, rfl, rfl, rfl, rfl⟩

end

end Sys2Proof.Machine
end

section
open Sys2Proof Sys2Proof.Machine

/-- Settles O38: each command by the schedule's state and the row of R107. -/
theorem scheduleTables : Obligations.ScheduleTables := by
  refine ⟨fun ses c v s h => cfgBodyWrite_stores h,
    fun c ns s => ⟨cfgCompileDone_waits, fun r h1 ha hr => cfgCompileDone_ends h1 ha hr⟩,
    fun ses s h => ⟨schedArm_notEligible h, fun row hi hn hf hs hrow => ?_⟩,
    fun ses s h => ⟨schedCommit_notEligible h, fun row hs hrow => ?_, fun hs hr => schedCommit_armed h hr hs⟩⟩
  · subst hrow
    exact ⟨schedArm_refused h hi hn hf hs, schedArm_arms h hi hn hf hs⟩
  · subst hrow
    exact ⟨schedCommit_refused h hs, fun hr => schedCommit_running h hr hs⟩

end

/-! SUPPORT. Writes of objects (R404, R407, R410): a write that comes whole, the objects with a command of their own, and
the segments of a value. -/
section
namespace Sys2Proof.Machine

/-! ### Answers -/

theorem answer_session_other {ses k : Nat} (h : k ≠ ses) (st : Nat) (d : List Byte) (s : State) :
    (answer ses st d s).session k = s.session k := mapGet_mapSet_ne _ _ _ _ _ h

/-- An answer to a state in which only the session itself differs. -/
theorem reply_setSession_other {ses k : Nat} (h : k ≠ ses) (st : Nat) (x : Session) (s : State) :
    (reply ses st (s.setSession ses x)).session k = s.session k := by
  rw [reply, answer_session_other h, State.session_setSession, if_neg h]

theorem State.core_setSession (s : State) (n : Nat) (x : Session) : (s.setSession n x).core = s.core := by
  unfold State.core State.base State.setSession
  rfl

theorem reply_setSession_self (ses st : Nat) (x : Session) (s : State) :
    (reply ses st (s.setSession ses x)).session ses
      = { x with resp := some ⟨st, [], 0⟩, requests := (x.requests + 1) % 4294967296 } := by
  rw [reply, answer_session_self, State.session_setSession, if_pos rfl]
  rfl

theorem after_next (s t : State) : after s (.next t) = t := rfl

/-! ### Keys -/

theorem objKey_index {ix sub : Nat} (h : sub < 256) : objKey ix sub / 256 = ix := by
  simp only [objKey]
  omega

theorem objKey_sub {ix sub : Nat} (h : sub < 256) : objKey ix sub % 256 = sub := by
  simp only [objKey]
  omega

/-! ### A write that its session cannot make -/

theorem jopWrite_idle {ses ix sub off : Nat} {more : Bool} {v : List Byte} {s : State}
    (h : s.served ses = false ∨ (s.session ses).storing ≠ none) :
    Gives (.jopWrite ses ix sub off more v) s fun t => t = s :=
  ⟨_, rfl, if_pos (h.imp (by simp [·]) (Option.isSome_iff_ne_none.2 ·))⟩

/-! ### Segments -/

section
variable {ses ix sub off : Nat} {more : Bool} {v : List Byte} {s : State} (hv : s.served ses = true)
  (hs : (s.session ses).storing = none) (hsub : sub < 256)
include hv hs hsub

theorem jopWrite_refused (hg : s.segmentGate ses ix sub ≠ stOk) (h : more = true ∨ off ≠ 0) :
    Gives (.jopWrite ses ix sub off more v) s fun t => Does ses (s.segmentGate ses ix sub) s s t := by
  have refuses : exec (.jopWrite ses ix sub off more v) s
      = .next (reply ses (s.segmentGate ses ix (sub % 256)) s) :=
    congrArg Host.Outcome.next ((if_neg (by simp [hv, hs])).trans (if_pos ⟨h, by rwa [Nat.mod_eq_of_lt hsub]⟩))
  rw [Nat.mod_eq_of_lt hsub] at refuses
  exact gives_reply refuses

/-- A write goes on to its segment where no other value is being assembled. -/
theorem jopWrite_first (hg : s.segmentGate ses ix sub = stOk ∨ (more = false ∧ off = 0))
    (ha : (s.session ses).assembly = none) : exec (.jopWrite ses ix sub off more v) s
      = .next (writeSegment ses (objKey ix sub) [] off more v s) := by
  have passes : ¬ ((more = true ∨ off ≠ 0) ∧ s.segmentGate ses ix (sub % 256) ≠ stOk) := by
    rw [Nat.mod_eq_of_lt hsub]
    rintro ⟨segment, refused⟩
    obtain hg | ⟨rfl, rfl⟩ := hg
    · exact refused hg
    · simp at segment
  refine congrArg Host.Outcome.next ((if_neg (by simp [hv, hs])).trans ((if_neg passes).trans ?_))
  simp only [ha, Nat.mod_eq_of_lt hsub]

/-- A write goes on to its segment where the same value is being assembled. -/
theorem jopWrite_later {bs : List Byte} {at_ : Instant} (hg : s.segmentGate ses ix sub = stOk)
    (ha : (s.session ses).assembly = some (objKey ix sub, bs, at_)) : exec (.jopWrite ses ix sub off more v) s
      = .next (if at_ + twoSeconds < s.time.elapsed then refuseSegment ses s
          else writeSegment ses (objKey ix sub) bs off more v s) := by
  have passes : ¬ ((more = true ∨ off ≠ 0) ∧ s.segmentGate ses ix (sub % 256) ≠ stOk) := by
    rw [Nat.mod_eq_of_lt hsub]
    exact fun h => h.2 hg
  refine congrArg Host.Outcome.next ((if_neg (by simp [hv, hs])).trans ((if_neg passes).trans ?_))
  simp only [ha, Nat.mod_eq_of_lt hsub, if_true]

end

section
variable (ses ix sub : Nat) (so v : List Byte) (s : State)

theorem writeSegment_refused {off : Nat} (more : Bool) (h : off ≠ so.length ∨ 1048576 < so.length + v.length) :
    writeSegment ses (objKey ix sub) so off more v s = reply ses stRange (s.afresh ses) := by
  refine if_pos ?_
  rwa [List.length_append]

variable {so v} (h : so.length + v.length ≤ 1048576)
include h

theorem writeSegment_kept : writeSegment ses (objKey ix sub) so so.length true v s
    = reply ses stOk (s.setSession ses { s.session ses with
        assembly := some (objKey ix sub, so ++ v, s.time.elapsed) }) := by
  refine (if_neg ?_).trans (if_pos rfl)
  rw [List.length_append]
  exact fun refused => refused.elim (· rfl) (Nat.not_lt.2 h)

theorem writeSegment_last (hsub : sub < 256) : writeSegment ses (objKey ix sub) so so.length false v s
    = writeWhole ses ix sub (so ++ v) (s.afresh ses) := by
  refine (if_neg ?_).trans ((if_neg Bool.false_ne_true).trans ?_)
  · rw [List.length_append]
    exact fun refused => refused.elim (· rfl) (Nat.not_lt.2 h)
  · rw [objKey_index hsub, objKey_sub hsub]
    rfl

end

/-- What a segment kept leaves. -/
theorem gives_kept {c : Instr} {ses : Nat} {a : Nat × List Byte × Instant} {s : State}
    (run : exec c s = .next (reply ses stOk (s.setSession ses { s.session ses with assembly := some a }))) :
    Gives c s fun t => t.core = s.core ∧ (t.session ses).assembly = some a
      ∧ (t.session ses).resp = some ⟨stOk, [], 0⟩ ∧ ∀ k, k ≠ ses → t.session k = s.session k := by
  refine ⟨_, run, (reply_core _ _ _).trans (State.core_setSession _ _ _), ?_, ?_, fun k hk => reply_setSession_other hk _ _ _⟩
  · rw [reply_setSession_self]
  · rw [reply_setSession_self]

/-! ### A whole write -/

theorem State.afresh_served (s : State) (ses n : Nat) : (s.afresh ses).served n = s.served n := by
  unfold State.served State.factoryOpen State.afresh
  rw [State.session_setSession]
  by_cases h : n = ses
  · rw [if_pos h, h]
    rfl
  · rw [if_neg h]
    rfl

section
variable {ses ix sub : Nat} {v : List Byte} {s : State} (hv : s.served ses = true)
  (hs : (s.session ses).storing = none) (ha : (s.session ses).assembly = none) (hsub : sub < 256)
  (hn : v.length ≤ 1048576)
include hv hs ha hsub hn

theorem jopWrite_whole : exec (.jopWrite ses ix sub 0 false v) s
    = .next (writeWhole ses ix sub v (s.afresh ses)) := by
  rw [jopWrite_first hv hs hsub (.inr ⟨rfl, rfl⟩) ha]
  exact congrArg Host.Outcome.next (writeSegment_last ses ix sub s (so := []) (by simpa using hn) hsub)

theorem jopWrite_stopped (hg : (s.afresh ses).writeGate ses ix sub v ≠ stOk) (hx : ix ≠ 0x1800) :
    Gives (.jopWrite ses ix sub 0 false v) s fun t =>
      Does ses ((s.afresh ses).writeGate ses ix sub v) (s.afresh ses) (s.afresh ses) t := by
  have served : (s.afresh ses).served ses = true := (s.afresh_served ses ses).trans hv
  have run := jopWrite_whole (ix := ix) hv hs ha hsub hn
  rw [writeWhole, if_neg (by simp [hx]), gated_refused served hg] at run
  exact ⟨_, run, does_reply _ _ _ _ (SessionsStill.refl _)⟩

end

/-- An object with a command of its own, which the same gate guards. -/
theorem writeWhole_command {ses ix sub : Nat} {v : List Byte} {o : State → Outcome} {f : State → State}
    (hx : ix ≠ 0x1800) (own : ∀ u, ownRow ses ix sub v u = some (o u))
    (command : ∀ u, o u = .next (gated ses ix sub v f u)) (s : State) :
    .next (writeWhole ses ix sub v s) = o s := by
  have passed : writePassed ses ix sub v s = gated ses ix sub v f s := by
    simp only [writePassed, own, command, after_next]
  rw [command, writeWhole, if_neg (by simp [hx])]
  cases hv : s.served ses with
  | false => rw [gated_unserved hv, gated_unserved hv]
  | true =>
    by_cases hg : s.writeGate ses ix sub v = 0
    · rw [gated_pass ⟨hv, hg⟩, passed]
    · rw [gated_refused hv hg, gated_refused hv hg]

theorem writeWhole_batch (ses : Nat) (v : List Byte) (s : State) :
    .next (writeWhole ses 0x2200 1 v s) = exec (.batchSubmit ses v) s :=
  writeWhole_command (o := execBatchSubmit ses v) (by decide) (fun _ => rfl) (fun _ => rfl) s

theorem writeWhole_body (ses : Nat) (v : List Byte) (s : State) :
    .next (writeWhole ses 0x2400 1 v s) = exec (.cfgBodyWrite ses 0 v) s :=
  writeWhole_command (o := execCfgBodyWrite ses 0 v) (by decide) (fun _ => rfl) (fun _ => rfl) s

theorem leNat_valBytes_one {e : Nat} (h : e < 256) : leNat (valBytes 1 e) = e := by
  simp [valBytes, leBytes, leNat, h, Nat.mod_eq_of_lt h]

theorem writeWhole_clear {ses e : Nat} (h : e < 256) (s : State) :
    .next (writeWhole ses 0x5400 3 (valBytes 1 e) s) = exec (.clearCommit ses e) s := by
  refine writeWhole_command (o := execClearCommit ses e) (by decide) (fun u => ?_) (fun _ => rfl) s
  have row : ownRow ses 0x5400 3 (valBytes 1 e) u = some (execClearCommit ses (leNat (valBytes 1 e)) u) := rfl
  rw [row, leNat_valBytes_one h]

theorem writeWhole_lcRequest (ses : Nat) (v : List Byte) (s : State) :
    .next (writeWhole ses 0x1800 3 v s) = exec (.lcRequest ses v) s :=
  congrArg Host.Outcome.next (if_pos ⟨rfl, rfl⟩)

/-- A setting that passes its gate and has no command of its own. -/
theorem writeWhole_setting {ses ix sub : Nat} {v : List Byte} {r : ObjRow} {s : State} (hp : Passes ses ix sub v s)
    (ho : ownRow ses ix sub v s = none) (hr : objRow ix sub = some r) (hx : ¬ (ix = 0x1800 ∧ sub = 3)) :
    writeWhole ses ix sub v s = writeSetting ses ix sub r v s := by
  rw [writeWhole, if_neg hx, gated_pass hp]
  simp only [writePassed, ho, hr]

section
variable {ses ix sub : Nat} {v : List Byte} {r : ObjRow} {s : State}

/-- Objects of 0x1800 have a command of their own. -/
theorem ownRow_life : ownRow ses 0x1800 sub v s ≠ none := nofun

theorem writeSetting_stored (hx : ix ≠ 0x1300) (hi : ix < 0x5000 ∨ 0x5040 ≤ ix) (hc : r.cls = .live)
    (ht : r.type_ ≠ .domain) (hst : r.stored = true) : writeSetting ses ix sub r v s
      = beginStore ses (objKey ix sub) v (waitSetting (blockOf ix sub) false (objKey ix sub) (leNat v) 0 s) := by
  have notProfile : ¬ (0x5000 ≤ ix ∧ ix < 0x5040 ∧ s.profileRewriting (ix - 0x5000) = true) := by
    rintro ⟨low, high, -⟩
    omega
  rw [writeSetting, if_neg hx, if_neg (by simp [hc]), if_neg notProfile, if_neg (by simp [hc]), storeOrReply, if_pos hst,
    writeLive, if_neg ht]

theorem jopWrite_stored (hv : s.served ses = true) (hs : (s.session ses).storing = none)
    (ha : (s.session ses).assembly = none) (hsub : sub < 256) (hn : v.length ≤ 1048576)
    (hr : objRow ix sub = some r) (hg : (s.afresh ses).writeGate ses ix sub v = stOk)
    (ho : ownRow ses ix sub v (s.afresh ses) = none) (hx : ix ≠ 0x1300) (hi : ix < 0x5000 ∨ 0x5040 ≤ ix)
    (hc : r.cls = .live) (ht : r.type_ ≠ .domain) (hst : r.stored = true) :
    Gives (.jopWrite ses ix sub 0 false v) s fun t =>
      t = { s.afresh ses with
          live := (s.afresh ses).live ++ [⟨blockOf ix sub, false, objKey ix sub, leNat v, s.time.elapsed, 0⟩]
          sessions := t.sessions }
        ∧ t.session ses = { (s.afresh ses).session ses with storing := some (objKey ix sub, v) }
        ∧ ∀ k, k ≠ ses → t.session k = s.session k := by
  have passes : Passes ses ix sub v (s.afresh ses) := ⟨(s.afresh_served ses ses).trans hv, hg⟩
  have run := jopWrite_whole (ix := ix) hv hs ha hsub hn
  rw [writeWhole_setting passes ho hr (by rintro ⟨rfl, -⟩; exact ownRow_life ho),
    writeSetting_stored hx hi hc ht hst] at run
  refine ⟨_, run, rfl, (State.session_setSession _ _ _ _).trans (if_pos rfl), fun k hk => ?_⟩
  exact ((State.session_setSession _ _ _ _).trans (if_neg hk)).trans
    ((State.session_setSession _ _ _ _).trans (if_neg hk))

theorem jopWrite_regOffset (hv : s.served ses = true) (hs : (s.session ses).storing = none)
    (ha : (s.session ses).assembly = none) (hn : v.length ≤ 1048576)
    (hg : (s.afresh ses).writeGate ses 0x1300 1 v = stOk) :
    Gives (.jopWrite ses 0x1300 1 0 false v) s fun t =>
      Does ses stOk (s.afresh ses) { s.afresh ses with
        live := (s.afresh ses).live ++ [⟨blockOf 0x1300 1, false, objKey 0x1300 1, leNat v, s.time.elapsed, ses⟩] } t := by
  have passes : Passes ses 0x1300 1 v (s.afresh ses) := ⟨(s.afresh_served ses ses).trans hv, hg⟩
  have run := jopWrite_whole (ix := 0x1300) (sub := 1) hv hs ha (by decide) hn
  obtain ⟨r, row⟩ : ∃ r, objRow 0x1300 1 = some r := ⟨_, rfl⟩
  rw [writeWhole_setting passes rfl row (by decide), writeSetting, if_pos rfl] at run
  exact ⟨_, run, does_reply _ _ _ _ (SessionsStill.of_eq rfl)⟩

end

/-! ### A stored value in force and in the journal -/

section
variable {ses key : Nat} {v : List Byte} {s : State} (h : (s.session ses).storing = some (key, v))
include h

theorem storedWriteComplete_eq : exec (.storedWriteComplete ses) s = .next (
    if s.live.any fun w => !w.isReg && decide (w.key = key) then s
    else reply ses stOk (s.setSession ses { s.session ses with storing := none })) := by
  refine congrArg Host.Outcome.next ?_
  simp only [h]

theorem storedWriteComplete_waits (hl : (s.live.any fun w => !w.isReg && decide (w.key = key)) = true) :
    Gives (.storedWriteComplete ses) s fun t => t = s :=
  ⟨_, storedWriteComplete_eq h, if_pos hl⟩

theorem storedWriteComplete_answers (hl : (s.live.any fun w => !w.isReg && decide (w.key = key)) = false) :
    Gives (.storedWriteComplete ses) s fun t =>
      t.core = s.core ∧ (t.session ses).storing = none ∧ (t.session ses).resp = some ⟨stOk, [], 0⟩
        ∧ ∀ k, k ≠ ses → t.session k = s.session k := by
  have run := storedWriteComplete_eq h
  rw [if_neg (by simp only [hl, Bool.false_eq_true, not_false_eq_true])] at run
  refine ⟨_, run, (reply_core _ _ _).trans (State.core_setSession _ _ _), ?_, ?_, fun k hk => reply_setSession_other hk _ _ _⟩
  · rw [reply_setSession_self]
  · rw [reply_setSession_self]

end

/-! ### The clauses of segments -/

section
variable {ses ix sub off : Nat} {more : Bool} {v : List Byte} {s : State} (hv : s.served ses = true)
  (hs : (s.session ses).storing = none) (hsub : sub < 256) (hg : s.segmentGate ses ix sub = stOk)
include hv hs hsub hg

theorem jopWrite_first_late (ha : (s.session ses).assembly = none) (ho : off ≠ 0) :
    Gives (.jopWrite ses ix sub off more v) s fun t => Does ses stRange (s.afresh ses) (s.afresh ses) t := by
  have run := jopWrite_first (off := off) (more := more) (v := v) hv hs hsub (.inl hg) ha
  rw [writeSegment_refused _ _ _ _ _ _ _ (.inl ho)] at run
  exact ⟨_, run, does_reply _ _ _ _ (SessionsStill.refl _)⟩

theorem jopWrite_first_kept (ha : (s.session ses).assembly = none) (hn : v.length ≤ 1048576) :
    Gives (.jopWrite ses ix sub 0 true v) s fun t =>
      t.core = s.core ∧ (t.session ses).assembly = some (objKey ix sub, v, s.time.elapsed)
        ∧ (t.session ses).resp = some ⟨stOk, [], 0⟩ ∧ ∀ k, k ≠ ses → t.session k = s.session k :=
  gives_kept ((jopWrite_first hv hs hsub (.inl hg) ha).trans
    (congrArg Host.Outcome.next (writeSegment_kept ses ix sub s (so := []) (by simpa using hn))))

variable {bs : List Byte} {at_ : Instant} (ha : (s.session ses).assembly = some (objKey ix sub, bs, at_))
include ha

theorem jopWrite_later_refused (h : at_ + twoSeconds < s.time.elapsed ∨ off ≠ bs.length
    ∨ 1048576 < bs.length + v.length) :
    Gives (.jopWrite ses ix sub off more v) s fun t => Does ses stRange (s.afresh ses) (s.afresh ses) t := by
  have refuses : exec (.jopWrite ses ix sub off more v) s = .next (reply ses stRange (s.afresh ses)) := by
    rw [jopWrite_later hv hs hsub hg ha]
    by_cases late : at_ + twoSeconds < s.time.elapsed
    · rw [if_pos late]
      rfl
    · rw [if_neg late, writeSegment_refused _ _ _ _ _ _ _ (h.resolve_left late)]
  exact ⟨_, refuses, does_reply _ _ _ _ (SessionsStill.refl _)⟩

variable (h : s.time.elapsed ≤ at_ + twoSeconds ∧ bs.length + v.length ≤ 1048576)
include h

theorem jopWrite_later_kept : Gives (.jopWrite ses ix sub bs.length true v) s fun t =>
    t.core = s.core ∧ (t.session ses).assembly = some (objKey ix sub, bs ++ v, s.time.elapsed)
      ∧ (t.session ses).resp = some ⟨stOk, [], 0⟩ ∧ ∀ k, k ≠ ses → t.session k = s.session k := by
  have run := jopWrite_later (off := bs.length) (more := true) (v := v) hv hs hsub hg ha
  rw [if_neg (Nat.not_lt.2 h.1), writeSegment_kept _ _ _ _ h.2] at run
  exact gives_kept run

theorem jopWrite_later_last : exec (.jopWrite ses ix sub bs.length false v) s
    = .next (writeWhole ses ix sub (bs ++ v) (s.afresh ses)) := by
  rw [jopWrite_later hv hs hsub hg ha, if_neg (Nat.not_lt.2 h.1), writeSegment_last _ _ _ _ h.2 hsub]

end

end Sys2Proof.Machine
end

section
open Sys2Proof Sys2Proof.Machine

/-- Settles O52: a whole write by its gate and its object's command, a segment by what is being assembled. -/
theorem objectWrites : Obligations.ObjectWrites := by
  refine ⟨fun ses ix sub off more v s h => jopWrite_idle h, fun ses ix sub v s u hv hs ha hsub hn hu => ?_,
    fun ses ix sub off more v s hv hs hsub hg h => jopWrite_refused hv hs hsub hg h,
    fun ses ix sub off more v s u hv hs hsub hg hu => ?_,
    fun ses key v s h => ⟨storedWriteComplete_answers h, storedWriteComplete_waits h⟩⟩
  · subst hu
    refine ⟨jopWrite_stopped hv hs ha hsub hn, ?_, ?_, ?_, fun e he => ?_,
      fun r hr hg ho hx hi hc ht hst => jopWrite_stored hv hs ha hsub hn hr hg ho hx hi hc ht hst, ?_⟩
    · rw [jopWrite_whole hv hs ha (by decide) hn, writeWhole_batch]
    · rw [jopWrite_whole hv hs ha (by decide) hn, writeWhole_body]
    · rw [jopWrite_whole hv hs ha (by decide) hn, writeWhole_lcRequest]
    · have short : (valBytes 1 e).length ≤ 1048576 := by simp [valBytes, he, leBytes_length]
      rw [jopWrite_whole hv hs ha (by decide) short, writeWhole_clear he]
    · rintro rfl rfl hg
      exact jopWrite_regOffset hv hs ha hn hg
  · subst hu
    refine ⟨jopWrite_first_late hv hs hsub hg, jopWrite_first_kept hv hs hsub hg, fun bs at_ ha =>
      ⟨jopWrite_later_kept hv hs hsub hg ha, ?_, jopWrite_later_refused hv hs hsub hg ha⟩⟩
    rintro h rfl rfl
    rw [jopWrite_later_last hv hs hsub hg ha h, writeWhole_batch]

end

/-! SUPPORT. What a commit does (R90, R111, R138): the commanding of elements and ports and the states of legs leave
everything else, and a configuration is put in force with the next generation. -/
section
namespace Sys2Proof.Machine

/-- The state without what elements, channels, ports and legs hold, and without events and records. -/
def State.plant (s : State) : State :=
  { s.base with elems := [], notches := [], chans := [], ports := [], legs := [], keeper := {}, loopsStarted := false }

theorem State.plant_of_base {s t : State} (h : t.base = s.base) : t.plant = s.plant :=
  congrArg (fun b : State => { b with
    elems := [], notches := [], chans := [], ports := [], legs := [], keeper := {}, loopsStarted := false }) h

/-! ### Single changes -/

section
variable (s : State)

theorem setElem_plant (e : Nat) (x : Elem) : (s.setElem e x).plant = s.plant := by
  unfold State.plant State.base State.setElem
  rfl

theorem setNotch_plant (n : Nat) (x : Notch) : (s.setNotch n x).plant = s.plant := by
  unfold State.plant State.base State.setNotch
  rfl

theorem setLeg_plant (l : Nat) (x : LegSt) : (s.setLeg l x).plant = s.plant := by
  unfold State.plant State.base State.setLeg
  rfl

theorem setPort_plant (p : Nat) (x : Port) : (s.setPort p x).plant = s.plant := by
  unfold State.plant State.base State.setPort
  rfl

theorem legs_plant (legs : SMap LegSt) : { s with legs := legs }.plant = s.plant := by
  unfold State.plant State.base
  rfl

theorem chans_plant (chans : SMap Chan) : { s with chans := chans }.plant = s.plant := by
  unfold State.plant State.base
  rfl

theorem keeper_plant (k : Keeper) : { s with keeper := k }.plant = s.plant := by
  unfold State.plant State.base
  rfl

theorem raiseEv_plant (src : Nat) (p : List Byte) : (raiseEv src p s).plant = s.plant :=
  State.plant_of_base (raiseEv_base _ _ _)

theorem putLoop_plant (e : Nat) (l : LoopSt) : (s.putLoop e l).plant = s.plant := by
  unfold State.putLoop
  split
  · rw [setElem_plant, setNotch_plant]
  · exact setElem_plant _ _ _

/-! ### The drive selector -/

theorem setAnvil_plant (v : Anvil) (x : AnvilSt) : (s.setAnvil v x).plant = s.plant := keeper_plant _ _

theorem signCode_plant (v : Anvil) (e c written : Nat) : (signCode v e c written s).plant = s.plant := by
  unfold signCode
  split
  · rfl
  · exact setAnvil_plant _ _ _

theorem selectCode_plant (bad : List (Anvil × Nat × Nat)) (v : Anvil) (e c : Nat) :
    (selectCode bad v e c s).plant = s.plant := by
  unfold selectCode
  extract_lets x o runs cv co iv both s0 s1 s2 _ s3 s4
  have h0 : s0.plant = s.plant := by
    refine (signCode_plant _ _ _ _ _).trans ?_
    split
    · exact signCode_plant _ _ _ _ _
    · rfl
  have h1 : s1.plant = s0.plant := by
    simp only [s1]
    split
    · exact setAnvil_plant _ _ _
    · rfl
  have h2 : s2.plant = s1.plant := by
    simp only [s2]
    split
    · exact setAnvil_plant _ _ _
    · rfl
  have h3 : s3.plant = s2.plant := by
    simp only [s3]
    split
    · exact keeper_plant _ _
    · rfl
  have h4 : s4.plant = s3.plant := by
    simp only [s4]
    split
    · exact State.plant_of_base (raiseLimited_base _ _ _ _ _)
    · rfl
  rw [setElem_plant, h4, h3, h2, h1, h0]

/-! ### Commanding an element -/

theorem firstUpdate_plant (e : Nat) (transit : Bool) (next : Nat) : (firstUpdate e transit next s).plant = s.plant := by
  unfold firstUpdate
  split
  · rfl
  · exact (selectCode_plant _ _ _ _ _).trans (putLoop_plant _ _ _)

theorem handIfWaiting_plant (transit : Bool) (e : Nat) : (handIfWaiting transit e s).plant = s.plant := by
  unfold handIfWaiting
  extract_lets l
  split
  · rfl
  · exact putLoop_plant _ _ _

theorem handAtOnce_plant (e target held : Nat) : (handAtOnce e target held s).plant = s.plant := by
  unfold handAtOnce
  extract_lets now l _ x l1 _ s1 _ s2
  have h2 : s2.plant = s1.plant := by
    simp only [s2]
    split
    · exact chans_plant _ _
    · rfl
  exact (firstUpdate_plant _ _ _ _).trans (h2.trans (putLoop_plant _ _ _))

theorem handAtHold_plant (e target held : Nat) : (handAtHold e target held s).plant = s.plant := by
  unfold handAtHold
  extract_lets l _ x from_ y s1
  have h1 : s1.plant = s.plant := setElem_plant _ _ _
  split
  · exact (firstUpdate_plant _ _ _ _).trans ((handIfWaiting_plant _ _ _).trans h1)
  · exact h1

theorem handTransit_plant (e target held : Nat) : (handTransit e target held s).plant = s.plant := by
  unfold handTransit
  split
  · exact handAtHold_plant _ _ _ _
  · exact handAtOnce_plant _ _ _ _

theorem enterTransit_plant (e target held : Nat) : (enterTransit e target held s).plant = s.plant :=
  (handTransit_plant _ _ _ _).trans (setElem_plant _ _ _)

theorem commandElem_plant (e target : Nat) : (commandElem e target s).plant = s.plant := by
  unfold commandElem
  extract_lets _ x u
  have hu : u.plant = s.plant := setElem_plant _ _ _
  split
  · exact hu
  · exact hu
  · split
    · rw [setElem_plant, hu]
    · split
      · rw [handTransit_plant, hu]
      · rw [setElem_plant, hu]
  · split
    · rw [setElem_plant, hu]
    · rw [enterTransit_plant, hu]
  · split
    · rw [setElem_plant, hu]
    · rw [enterTransit_plant, hu]

theorem queueTarget_plant (e t : Nat) (set : Option Nat) : (queueTarget e t set s).plant = s.plant := by
  unfold queueTarget
  extract_lets x
  split
  · rfl
  · exact setElem_plant _ _ _

theorem refreshPort_plant (p : Nat) : (refreshPort p s).plant = s.plant := by
  unfold refreshPort
  extract_lets e
  split
  · exact queueTarget_plant _ _ _ _
  · rfl

/-! ### Trim -/

theorem dropOffset_plant (e : Nat) : (dropOffset e s).plant = s.plant := by
  unfold dropOffset
  extract_lets x s1
  have h1 : s1.plant = s.plant := setElem_plant _ _ _
  split
  · rfl
  · split
    · exact (queueTarget_plant _ _ _ _).trans h1
    · exact h1

theorem trimOffLeg_plant (id : Nat) : (trimOffLeg id s).plant = s.plant := setLeg_plant _ _ _

theorem trimOffPath_plant (x : Slot) : (trimOffPath x s).plant = s.plant := by
  unfold trimOffPath
  extract_lets s1 p
  have h1 : s1.plant = s.plant := forEach_keeps _ State.plant (fun e t => dropOffset_plant t e) _ _
  rw [refreshPort_plant, setPort_plant, h1]

theorem tryQualify_plant (id : Nat) : (tryQualify id s).plant = s.plant := by
  unfold tryQualify
  extract_lets l
  split
  · exact setLeg_plant _ _ _
  · rfl

/-! ### Notch slots -/

theorem assignNotch_plant (e use : Nat) (f : F64) : (assignNotch e use f s).plant = s.plant := by
  unfold assignNotch
  split
  · exact setNotch_plant _ _ _
  · split
    · rfl
    · rw [setElem_plant, setNotch_plant]

theorem notchFor_plant (e : Nat) (r : RState) : (notchFor e r s).plant = s.plant := by
  unfold notchFor
  split
  · exact assignNotch_plant _ _ _ _
  · split
    · rfl
    · exact setNotch_plant _ _ _

/-! ### The legs and groups of a commit -/

theorem commitLeg_plant (gen : Nat) (repathed : List Nat) (q : LegChange) :
    (commitLeg gen repathed q s).plant = s.plant := by
  unfold commitLeg
  split
  · split
    · rfl
    · exact legs_plant _ _
  · exact setLeg_plant _ _ _

theorem commitGroup_plant (gen : Nat) (c : Cfg) (moved : List Nat) (g : Nat) :
    (commitGroup gen c moved g s).plant = s.plant := by
  unfold commitGroup
  extract_lets x fresh l
  split
  · exact setLeg_plant _ _ _
  · split
    · rfl
    · exact legs_plant _ _

theorem dropBidir_plant (id : Nat) : (dropBidir id s).plant = s.plant := by
  unfold dropBidir
  split
  · rfl
  · exact setLeg_plant _ _ _

theorem startLoops_plant (commanded : List Nat) : (startLoops commanded s).plant = s.plant := by
  refine (forEach_keeps _ State.plant (fun e t => ?_) _ _).trans ?_
  · extract_lets x
    split
    · rfl
    · exact setElem_plant _ _ _
  · unfold State.plant State.base
    rfl

end

theorem nextGeneration_plant {s t : State} (at_ : Instant) (h : t.plant = s.plant) :
    (nextGeneration at_ t).plant = (nextGeneration at_ s).plant := by
  have moves (u : State) : (nextGeneration at_ u).plant = nextGeneration at_ u.plant := rfl
  rw [moves, moves, h]

theorem active_plant {s t : State} (d : Cfg) (h : t.plant = s.plant) :
    { t with active := d }.plant = { s with active := d }.plant := by
  have moves (u : State) : { u with active := d }.plant = { u.plant with active := d } := rfl
  rw [moves, moves, h]

/-- The state in which a configuration is in force with the next generation, and the batches as the change leaves them. -/
def State.adopted (s : State) (d : Cfg) (ids : List Nat) : State :=
  nextGeneration s.now { s with active := d, batches := s.batches.map (supersede ids) }

theorem applyCfg_plant (d : Cfg) (s : State) : ∃ ids, (applyCfg d s).2.2.plant = (s.adopted d ids).plant := by
  unfold applyCfg
  extract_lets c changes0 changes cmd stopped s1 s2 s3 repathed s4 s5 s6 s7 s8 waiting s9
  have h2 : s2.plant = s1.plant :=
    forEach_keeps (fun (p : Nat × Slot) t => trimOffLeg p.1 t) State.plant (fun p t => trimOffLeg_plant t p.1) _ _
  have h3 : s3.plant = (s.adopted d (changes.map fun q => q.id)).plant := by
    refine nextGeneration_plant _ ((forEach_keeps (fun (p : Nat × Slot) t => trimOffPath p.2 t)
      State.plant (fun p t => trimOffPath_plant t p.2) _ _).trans ?_)
    exact active_plant d h2
  have h4 : s4.plant = s3.plant := forEach_keeps (commitLeg s3.generation repathed) State.plant
    (fun q t => commitLeg_plant t _ _ q) _ _
  have h5 : s5.plant = s4.plant := forEach_keeps (commitGroup s3.generation c repathed) State.plant
    (fun g t => commitGroup_plant t _ _ _ g) _ _
  have h6 : s6.plant = s5.plant := forEach_keeps dropBidir State.plant (fun id t => dropBidir_plant t id) _ _
  have h7 : s7.plant = s6.plant := by
    simp only [s7]
    split
    · rfl
    · exact startLoops_plant _ _
  have h8 : s8.plant = s7.plant := by
    refine forEach_keeps _ State.plant (fun e t => ?_) _ _
    extract_lets t1
    have ht : t1.plant = t.plant := by
      simp only [t1]
      split
      · exact notchFor_plant _ _ _
      · rfl
    exact (commandElem_plant _ _ _).trans ht
  have h9 : s9.plant = s8.plant := forEach_keeps (fun (p : Nat × Slot) t => tryQualify p.1 t) State.plant
    (fun p t => tryQualify_plant t p.1) _ _
  exact ⟨_, by rw [h9, h8, h7, h6, h5, h4, h3]⟩

/-! ### The closing of a batch -/

/-- The state without what the legs hold, and without events and records. -/
def State.legless (s : State) : State := { s.base with legs := [] }

theorem State.legless_of_base {s t : State} (h : t.base = s.base) : t.legless = s.legless :=
  congrArg (fun b : State => { b with legs := [] }) h

section
variable (s : State)

theorem setLeg_legless (l : Nat) (x : LegSt) : (s.setLeg l x).legless = s.legless := by
  unfold State.legless State.base State.setLeg
  rfl

theorem tryQualify_legless (id : Nat) : (tryQualify id s).legless = s.legless := by
  unfold tryQualify
  extract_lets l
  split
  · exact setLeg_legless _ _ _
  · rfl

theorem settleLegState_legless (id : Nat) : (settleLegState id s).legless = s.legless := by
  unfold settleLegState
  extract_lets l
  split
  · exact (tryQualify_legless _ _).trans (setLeg_legless _ _ _)
  · rfl

theorem raiseEv_legless (src : Nat) (p : List Byte) : (raiseEv src p s).legless = s.legless :=
  State.legless_of_base (raiseEv_base _ _ _)

theorem audit_legless (ty : Nat) (p : List Byte) : (audit ty p s).legless = s.legless :=
  State.legless_of_base (audit_base _ _ _)

theorem bidirEval_legless (first : Bool) (id : Nat) : (bidirEval first id s).legless = s.legless := by
  unfold bidirEval
  extract_lets l ok s1
  have h1 : s1.legless = s.legless := setLeg_legless _ _ _
  split
  · rfl
  · split
    · split
      · rfl
      · split
        · exact h1
        · exact (raiseEv_legless _ _ _).trans h1
    · split
      · exact h1
      · exact (raiseEv_legless _ _ _).trans h1

theorem degradeLeg_legless (e r id : Nat) : (degradeLeg e r id s).legless = s.legless := by
  unfold degradeLeg
  extract_lets l
  split
  · rfl
  · exact (raiseEv_legless _ _ _).trans (setLeg_legless _ _ _)

/-- The batches and the schedule's count of late commits once a batch has closed as `c`, `late` or not. -/
def State.closing (s : State) (b c : Batch) (late : Bool) (n : Nat) : State :=
  { s with
    batches := s.batches.filter fun x => !decide (x.id = b.id ∧ x.t0Elapsed = b.t0Elapsed ∧ x.generation = b.generation)
    closed := (c :: s.closed).take 64
    lateBatches := if late then (s.lateBatches + 1) % 4294967296 else s.lateBatches
    sched := { s.sched with late := n } }

/-- A batch that closes enters the closed ones, late at the limit, and a STOPPING schedule may then end. -/
theorem closeBatch_closes (b : Batch) (atLimit : Bool) : ∃ (c : Batch) (late : Bool) (n : Nat) (u : State),
    closeBatch b atLimit s = schedStopCheck u ∧ c.id = b.id ∧ (atLimit = true → late = true)
      ∧ (late = true → c.state = .lateSettled) ∧ u.legless = (s.closing b c late n).legless := by
  unfold closeBatch
  extract_lets legs ns late b1 s1 _ s2 w s3 s4 live s5 circuits
  obtain ⟨n, h2⟩ : ∃ n, s2.legless = (s.closing b b1 late n).legless := by
    simp only [s2]
    split
    · split
      · exact ⟨_, State.legless_of_base (raiseAt_base _ _ _ _ _)⟩
      · exact ⟨s.sched.late, rfl⟩
    · exact ⟨s.sched.late, raiseEv_legless _ _ _⟩
  have h3 : s3.legless = s2.legless := audit_legless _ _ _
  have h4 : s4.legless = s3.legless := by
    simp only [s4]
    split
    · rfl
    · exact forEach_keeps (fun l t => audit 0x04 (s.legRecord b1 l) t) State.legless (fun l t => audit_legless t _ _) _ _
  have h5 : s5.legless = s4.legless := forEach_keeps (fun (l : BatchLeg) t => settleLegState l.leg t) State.legless
    (fun l t => settleLegState_legless t _) _ _
  have h6 : (forEach (bidirEval true) circuits s5).legless = s5.legless :=
    forEach_keeps (bidirEval true) State.legless (fun id t => bidirEval_legless t _ _) _ _
  refine ⟨b1, late, n, _, rfl, rfl, fun h => ?_, fun h => if_pos h, ?_⟩
  · simp [late, h]
  · rw [h6, h5, h4, h3, h2]

end

/-- Where no stop waits, nothing ends with a batch. -/
theorem schedStopCheck_none {s : State} (h : s.sched.stopNow = none) : schedStopCheck s = s := by
  unfold schedStopCheck
  simp only [h]

theorem schedStopCheck_legless_batches (s : State) : (schedStopCheck s).batches = s.batches ∧
    (schedStopCheck s).closed = s.closed ∧ (schedStopCheck s).lateBatches = s.lateBatches
      ∧ (schedStopCheck s).image = s.image := by
  unfold schedStopCheck
  split
  · split
    · unfold schedToIdle
      simp only [raiseEv_batches, raiseEv_closed, raiseEv_lateBatches, raiseEv_image, and_self]
    · exact ⟨rfl, rfl, rfl, rfl⟩
  · exact ⟨rfl, rfl, rfl, rfl⟩

/-- Two schedules that differ in the count of late commits alone. -/
def Sched.SameRun (x y : Sched) : Prop := ∃ n, y = { x with late := n }

theorem Sched.SameRun.refl (x : Sched) : x.SameRun x := ⟨x.late, rfl⟩

theorem Sched.SameRun.trans {x y z : Sched} (h : x.SameRun y) (k : y.SameRun z) : x.SameRun z := by
  obtain ⟨n, rfl⟩ := h
  obtain ⟨m, rfl⟩ := k
  exact ⟨m, rfl⟩

theorem closeBatch_sched (b : Batch) (atLimit : Bool) {s : State} (h : s.sched.stopNow = none) :
    s.sched.SameRun (closeBatch b atLimit s).sched := by
  obtain ⟨c, late, n, u, closes, -, -, -, frame⟩ := closeBatch_closes s b atLimit
  have sched : u.sched = { s.sched with late := n } := (congrArg State.sched frame :)
  rw [closes, schedStopCheck_none (by rw [sched]; exact h), sched]
  exact ⟨n, rfl⟩

theorem closeSettled_sched {s : State} (h : s.sched.stopNow = none) : s.sched.SameRun (closeSettled s).sched := by
  refine forEach_invariant (fun b t => closeBatch b false t) (fun t => s.sched.SameRun t.sched) (fun b t ht => ?_) _ s
    (Sched.SameRun.refl _)
  refine ht.trans (closeBatch_sched b false ?_)
  obtain ⟨n, same⟩ := ht
  rw [same]
  exact h

/-- Batches only leave as batches close. -/
theorem closeSettled_batches (s : State) : ∀ c, c ∈ (closeSettled s).batches → c ∈ s.batches := by
  refine forEach_invariant (fun b t => closeBatch b false t) (fun t => ∀ c, c ∈ t.batches → c ∈ s.batches)
    (fun b t ht c hc => ht c ?_) _ s (fun _ hc => hc)
  obtain ⟨c', late, n, u, closes, -, -, -, frame⟩ := closeBatch_closes t b false
  have batches : u.batches = (t.closing b c' late n).batches := (congrArg State.batches frame :)
  rw [closes, (schedStopCheck_legless_batches u).1, batches] at hc
  exact List.mem_of_mem_filter hc

theorem closeSettled_image (s : State) : (closeSettled s).image = s.image := by
  refine forEach_keeps (fun b t => closeBatch b false t) State.image (fun b t => ?_) _ s
  obtain ⟨c, late, n, u, closes, -, -, -, frame⟩ := closeBatch_closes t b false
  have image : u.image = t.image := (congrArg State.image frame :)
  rw [closes, (schedStopCheck_legless_batches u).2.2.2, image]

/-! ### A watch's commit (R111) -/

theorem degradeIncoming_legless (ch : List LegChange) (s : State) : (degradeIncoming ch s).legless = s.legless := by
  refine forEach_keeps _ State.legless (fun q t => ?_) _ _
  split
  · exact degradeLeg_legless _ _ _ _
  · rfl

/-- What stands once watch `k` has committed. -/
theorem watchCommit_spec (k : Nat) (due : Instant) {s : State} (h : s.sched.stopNow = none) :
    (watchCommit k due s).active
        = s.active.adopt (s.cfg (s.sched.table.getD k ⟨0, 0, 0, 0⟩).config).image
      ∧ (watchCommit k due s).time = s.time ∧ (watchCommit k due s).commitCount = s.commitCount
      ∧ Sched.SameRun { s.sched with
          watchNow := k, next := due + (s.sched.table.getD k ⟨0, 0, 0, 0⟩).duration * transitUnits
          imageCopy := true, imageReady := false, realign := false } (watchCommit k due s).sched := by
  unfold watchCommit
  extract_lets w d r s1 gen b _ s2 s3 s4
  obtain ⟨ids, applied⟩ := applyCfg_plant d s
  have sched1 : s1.sched = s.sched := (congrArg State.sched applied :)
  have active1 : s1.active = d := (congrArg State.active applied :)
  have time1 : s1.time = s.time := (congrArg State.time applied :)
  have count1 : s1.commitCount = s.commitCount := (congrArg State.commitCount applied :)
  clear_value s1
  have h3 : s3.legless = s2.legless := audit_legless _ _ _
  have h4 : s4.legless = s3.legless := by
    simp only [s4]
    split
    · exact raiseEv_legless _ _ _
    · rfl
  have h5 : (degradeIncoming r.2.1 s4).legless = s2.legless := by rw [degradeIncoming_legless, h4, h3]
  generalize degradeIncoming r.2.1 s4 = u at *
  have sched5 : u.sched = { s1.sched with
      watchNow := k, next := due + w.duration * transitUnits, imageCopy := true, imageReady := false
      realign := false } := (congrArg State.sched h5 :)
  have active5 : u.active = s1.active := (congrArg State.active h5 :)
  have time5 : u.time = s1.time := (congrArg State.time h5 :)
  have count5 : u.commitCount = s1.commitCount := (congrArg State.commitCount h5 :)
  have closed := closeSettled_apart u
  refine ⟨?_, ?_, ?_, ?_⟩
  · exact (congrArg State.active closed :).trans (active5.trans active1)
  · exact (congrArg State.time closed :).trans (time5.trans time1)
  · exact (congrArg State.commitCount closed :).trans (count5.trans count1)
  · rw [sched1] at sched5
    rw [← sched5]
    refine closeSettled_sched ?_
    rw [sched5]
    exact h

/-! ### The run of a schedule -/

/-- Watch `k` of a table. -/
def watchAt (table : List Watch) (k : Nat) : Watch := table.getD k ⟨0, 0, 0, 0⟩

/-- A watch's commit after an event, told of the state before the event. -/
theorem watchCommit_after {k : Nat} {due : Instant} {s u : State} (h : s.sched.stopNow = none) (base : u.base = s.base) :
    (watchCommit k due u).active = s.active.adopt (s.cfg (watchAt s.sched.table k).config).image
      ∧ (watchCommit k due u).time = s.time ∧ (watchCommit k due u).commitCount = s.commitCount
      ∧ Sched.SameRun { s.sched with
          watchNow := k, next := due + (watchAt s.sched.table k).duration * transitUnits
          imageCopy := true, imageReady := false, realign := false } (watchCommit k due u).sched := by
  have sched : u.sched = s.sched := (congrArg State.sched base :)
  have active : u.active = s.active := (congrArg State.active base :)
  have cfgs : u.cfgs = s.cfgs := (congrArg State.cfgs base :)
  have time : u.time = s.time := (congrArg State.time base :)
  have count : u.commitCount = s.commitCount := (congrArg State.commitCount base :)
  have spec := watchCommit_spec k due (s := u) (by rw [sched]; exact h)
  rw [sched, active, State.cfg_congr cfgs, time, count] at spec
  exact spec

theorem schedImageCopyStart_copies {s : State} (ha : s.sched.state = .armed) (hn : s.now < s.sched.start)
    (hr : s.sched.imageReady = false) : Gives .schedImageCopyStart s fun t =>
      t = { s with
        sched := { s.sched with imageCopy := true }
        image := some (0, (s.cfg ((s.sched.table.headD ⟨0, 0, 0, 0⟩).config)).image.routes) } :=
  ⟨_, rfl, if_pos ⟨ha, hn, by simp [hr]⟩⟩

theorem schedStart_commits {s : State} (ha : s.sched.state = .armed) (hn : s.sched.start ≤ s.now)
    (hr : s.watchReady = true) (hs : s.sched.stopNow = none) : Gives .schedStart s fun t =>
      t.active = s.active.adopt (s.cfg (s.sched.table.getD 0 ⟨0, 0, 0, 0⟩).config).image ∧ t.sched.state = .running
        ∧ t.sched.watchNow = 0
        ∧ t.sched.next = s.sched.start + (s.sched.table.getD 0 ⟨0, 0, 0, 0⟩).duration * transitUnits
        ∧ t.sched.table = s.sched.table ∧ t.time = s.time ∧ t.commitCount = s.commitCount := by
  let u : State := { s with sched := { s.sched with state := .running } }
  have commits : exec .schedStart s
      = .next (watchCommit 0 s.sched.start (raiseEv 0x611 (u.schedPayload 0) u)) :=
    congrArg Host.Outcome.next (if_pos ⟨ha, hn, hr⟩)
  obtain ⟨active, time, count, n, sched⟩ := watchCommit_after (k := 0) (due := s.sched.start) (s := u) hs
    (raiseEv_base 0x611 (u.schedPayload 0) u)
  refine ⟨_, commits, ?_⟩
  beta_reduce
  rw [sched]
  exact ⟨active, rfl, rfl, rfl, rfl, time, count⟩

theorem schedStart_waits {s : State} (h : s.sched.state ≠ .armed ∨ s.now < s.sched.start ∨ s.watchReady = false) :
    Gives .schedStart s fun t => t = s := by
  refine ⟨_, rfl, if_neg ?_⟩
  rintro ⟨armed, due, ready⟩
  obtain h | h | h := h
  · exact h armed
  · exact Nat.not_lt.2 due h
  · simp [h] at ready

theorem watchBoundaryCommit_stopped {s : State} (h : s.stopped2 = true) :
    Gives .watchBoundaryCommit s fun t => t = s :=
  ⟨_, rfl, if_neg (by simp [h])⟩

section
variable {s : State} (hruns : s.schedRuns = true) (hdue : s.sched.next ≤ s.now) (ht : s.atTransit = true)
  (ha : s.awake = true) (h2 : s.stopped2 = false) (hc : s.changeDue = false)

theorem stopNow_of_schedRuns (h : s.schedRuns = true) : s.sched.stopNow = none := by
  simp only [State.schedRuns, Bool.and_eq_true, Option.isNone_iff_eq_none] at h
  exact h.2

/-- The schedule with a cycle counted where the next watch begins one. -/
def State.cycleCounted (s : State) : State := if s.nextWatch = 0 ∧ !s.sched.realign then countCycle s else s

theorem State.cycleCounted_eq (s : State) : s.cycleCounted = { s with sched := { s.sched with
    cycleCount := if s.nextWatch = 0 ∧ s.sched.realign = false
      then (s.sched.cycleCount + 1) % 18446744073709551616 else s.sched.cycleCount } } := by
  unfold State.cycleCounted
  simp only [Bool.not_eq_true']
  split <;> rfl

include hruns hdue ht ha h2 hc

/-- Away from the end of a stopping schedule, the boundary commits the next watch once its image stands. -/
theorem watchBoundaryCommit_eq (h : s.sched.stopAtEnd = none ∨ s.nextWatch ≠ 0) : exec .watchBoundaryCommit s
    = .next (if s.sched.imageReady then watchCommit s.nextWatch s.sched.next s.cycleCounted else s) := by
  refine congrArg Host.Outcome.next ((if_pos ⟨hruns, hdue, ht, ha, by simp [h2], by simp [hc]⟩).trans ?_)
  obtain h | h := h
  · simp only [h]
    rfl
  · simp only [h, decide_false, State.cycleCounted, Bool.not_eq_eq_eq_not, Bool.not_true, false_and, ↓reduceIte]
    cases s.sched.stopAtEnd <;> rfl

theorem watchBoundaryCommit_waits (h : s.sched.stopAtEnd = none ∨ s.nextWatch ≠ 0) (hr : s.sched.imageReady = false) :
    Gives .watchBoundaryCommit s fun t => t = s :=
  ⟨_, watchBoundaryCommit_eq hruns hdue ht ha h2 hc h, if_neg (by simp [hr])⟩

theorem watchBoundaryCommit_commits (h : s.sched.stopAtEnd = none ∨ s.nextWatch ≠ 0) (hr : s.sched.imageReady = true) :
    Gives .watchBoundaryCommit s fun t =>
      t.active = s.active.adopt (s.cfg (s.sched.table.getD s.nextWatch ⟨0, 0, 0, 0⟩).config).image
        ∧ t.sched.watchNow = s.nextWatch
        ∧ t.sched.next = s.sched.next + (s.sched.table.getD s.nextWatch ⟨0, 0, 0, 0⟩).duration * transitUnits
        ∧ t.sched.cycleCount = (if s.nextWatch = 0 ∧ s.sched.realign = false
            then (s.sched.cycleCount + 1) % 18446744073709551616 else s.sched.cycleCount)
        ∧ t.sched.state = s.sched.state ∧ t.time = s.time := by
  have run := watchBoundaryCommit_eq hruns hdue ht ha h2 hc h
  rw [if_pos hr] at run
  obtain ⟨active, time, -, n, sched⟩ := watchCommit_after (k := s.nextWatch) (due := s.sched.next) (s := s.cycleCounted)
    (by rw [State.cycleCounted_eq]; exact stopNow_of_schedRuns hruns) rfl
  rw [State.cycleCounted_eq] at active time sched run
  refine ⟨_, run, ?_⟩
  beta_reduce
  rw [sched]
  exact ⟨active, rfl, rfl, rfl, rfl, time⟩

end

/-! ### Its end -/

/-- A STOPPING schedule without a moving watch goes to IDLE. -/
theorem schedStopCheck_ends {r : Nat} {s : State} (hr : s.sched.stopNow = some r) (hs : s.sched.state = .stopping)
    (hm : s.watchMoving = false) : schedStopCheck s = schedToIdle r s := by
  unfold schedStopCheck
  simp only [hr, hs, hm, Bool.not_false, and_self, ↓reduceIte]

theorem schedStopCheck_moving {s : State} (hm : s.watchMoving = true) : schedStopCheck s = s := by
  unfold schedStopCheck
  split
  · exact if_neg (by simp [hm])
  · rfl

/-- The schedule at IDLE. -/
def Sched.idled (x : Sched) : Sched :=
  { x with
    state := .idle, change := none, stopAtEnd := none, stopNow := none, next := 0, imageReady := false
    imageCopy := false, realign := false }

theorem schedToIdle_same (r : Nat) (s : State) :
    Same { s with sched := s.sched.idled, planner := { s.planner with retry := true } } (schedToIdle r s) :=
  raiseEv_same _ _ _

theorem watchBoundaryCommit_ends {r : Nat} {s : State} (hruns : s.schedRuns = true) (hdue : s.sched.next ≤ s.now)
    (ht : s.atTransit = true) (ha : s.awake = true) (h2 : s.stopped2 = false) (hc : s.changeDue = false)
    (hr : s.sched.stopAtEnd = some r) (hw : s.nextWatch = 0) (hs : s.sched.state = .stopping)
    (hm : s.watchMoving = false) : Gives .watchBoundaryCommit s fun t =>
      t.apart = s.apart ∧ t.sched.state = .idle ∧ t.active = s.active ∧ t.batches = s.batches := by
  let u : State := { s with sched := { s.cycleCounted.sched with
    stopAtEnd := none, stopNow := some r, next := 0, imageReady := false, imageCopy := false } }
  have state : u.sched.state = .stopping := by
    rw [← hs]
    simp only [u, State.cycleCounted_eq]
  have ends : exec .watchBoundaryCommit s = .next (schedStopCheck u) := by
    refine congrArg Host.Outcome.next ((if_pos ⟨hruns, hdue, ht, ha, by simp [h2], by simp [hc]⟩).trans ?_)
    simp only [hr, hw, decide_true, u, State.cycleCounted, true_and, Bool.not_eq_eq_eq_not, Bool.not_true]
    split <;> rfl
  rw [schedStopCheck_ends rfl state hm] at ends
  have same := (schedToIdle_same r u).1
  exact ⟨_, ends, (State.apart_of_base same).trans rfl, (congrArg (fun x : State => x.sched.state) same :),
    (congrArg State.active same :), (congrArg State.batches same :)⟩

/-! ### A change in force (R114) -/

section
variable {c : SchedChange} {s : State} (hc : s.sched.change = some c)
include hc

theorem schedChangeApply_waits (h : s.now < c.at_ ∨ s.watchReady = false) : Gives .schedChangeApply s fun t => t = s := by
  refine ⟨_, rfl, ?_⟩
  simp only [hc]
  refine if_neg ?_
  rintro ⟨-, due, ready⟩
  obtain h | h := h
  · exact Nat.not_lt.2 due h
  · simp [h] at ready

omit hc in
/-- A committed change in force, before its watch 0 commits. -/
def State.changed (s : State) (c : SchedChange) : State :=
  let s1 := if s.sched.next ≤ s.now ∧ s.nextWatch = 0 ∧ !s.sched.realign then countCycle s else s
  let s2 := takeTable c.table (if c.baseChanged then c.base else c.at_) s1
  { s2 with sched := { s2.sched with change := none, setBase := c.base, realign := false } }

omit hc in
theorem State.changed_eq (s : State) (c : SchedChange) : ∃ count load budget, s.changed c = { s with sched := { s.sched with
    cycleCount := count, table := c.table, base := if c.baseChanged then c.base else c.at_
    auditLoad := load, auditBudget := budget, reject := 0, change := none, setBase := c.base, realign := false } } := by
  obtain ⟨count, counted⟩ : ∃ count, (if s.sched.next ≤ s.now ∧ s.nextWatch = 0 ∧ !s.sched.realign then countCycle s else s)
      = { s with sched := { s.sched with cycleCount := count } } := by
    split
    · exact ⟨_, rfl⟩
    · exact ⟨s.sched.cycleCount, rfl⟩
  unfold State.changed
  rw [counted]
  exact ⟨count, _, _, rfl⟩

theorem schedChangeApply_eq (hs : s.sched.state = .running) (hd : c.at_ ≤ s.now) (hr : s.watchReady = true) :
    exec .schedChangeApply s = .next (watchCommit 0 c.at_ (raiseEv 0x614 ((s.changed c).schedPayload 0) (s.changed c))) := by
  refine congrArg Host.Outcome.next ?_
  simp only [hc]
  exact if_pos ⟨hs, hd, hr⟩

theorem schedChangeApply_commits (hs : s.sched.state = .running) (hn : s.sched.stopNow = none) (hd : c.at_ ≤ s.now)
    (hr : s.watchReady = true) : Gives .schedChangeApply s fun t =>
      t.active = s.active.adopt (s.cfg (c.table.getD 0 ⟨0, 0, 0, 0⟩).config).image ∧ t.sched.table = c.table
        ∧ t.sched.change = none ∧ t.sched.base = (if c.baseChanged then c.base else c.at_) ∧ t.sched.state = .running
        ∧ t.sched.watchNow = 0 := by
  have run := schedChangeApply_eq hc hs hd hr
  have base := raiseEv_base 0x614 ((s.changed c).schedPayload 0) (s.changed c)
  obtain ⟨count, load, budget, changed⟩ := s.changed_eq c
  generalize raiseEv 0x614 ((s.changed c).schedPayload 0) (s.changed c) = u at *
  rw [changed] at base
  obtain ⟨active, -, -, n, sched⟩ := watchCommit_after (k := 0) (due := c.at_) (u := u) (s := { s with sched := { s.sched with
    cycleCount := count, table := c.table, base := if c.baseChanged then c.base else c.at_
    auditLoad := load, auditBudget := budget, reject := 0, change := none, setBase := c.base, realign := false } })
    hn base
  refine ⟨_, run, ?_⟩
  beta_reduce
  rw [sched]
  exact ⟨active, rfl, rfl, rfl, hs, rfl⟩

end

/-! ### Stopping (R116) -/

/-- A command that ends the schedule at once. -/
theorem gives_schedToIdle {c : Instr} {ses r : Nat} {s u : State} (run : exec c s = .next (reply ses stOk (schedToIdle r u)))
    (hu : ∃ x, u = { s with sched := x } ∧ x.table = s.sched.table) : Gives c s fun t =>
      Does ses stOk s { s with sched := t.sched, planner := { s.planner with retry := true } } t
        ∧ t.sched.state = .idle ∧ t.sched.table = s.sched.table := by
  obtain ⟨x, rfl, table⟩ := hu
  have same := schedToIdle_same r { s with sched := x }
  refine ⟨_, run, ?_⟩
  beta_reduce
  rw [reply_sched, same.sched]
  exact ⟨does_of_same (u := { s with sched := x.idled, planner := { s.planner with retry := true } }) rfl same, rfl, table⟩

section
variable {ses : Nat} {s : State} (h : Passes ses 0x2100 1 [3#8] s)
include h

theorem schedStopAtCycleEnd_refused (hs : s.sched.state = .idle ∨ s.sched.state = .stopping) :
    Gives (.schedStopAtCycleEnd ses) s fun t => Does ses stNotEligible s s t :=
  gives_reply (congrArg Host.Outcome.next ((gated_pass h _).trans (if_pos hs)))

theorem schedStopAtCycleEnd_eq (hs : ¬ (s.sched.state = .idle ∨ s.sched.state = .stopping)) :
    exec (.schedStopAtCycleEnd ses) s = .next (reply ses stOk (schedStop 0 true s)) :=
  congrArg Host.Outcome.next ((gated_pass h _).trans (if_neg hs))

theorem schedStopAtCycleEnd_running (hs : s.sched.state = .running) (hn : s.sched.stopNow = none)
    (he : s.sched.stopAtEnd = none) : Gives (.schedStopAtCycleEnd ses) s fun t =>
      Does ses stOk s
        { s with sched := { s.sched with state := .stopping, change := none, stopAtEnd := some 0 } } t := by
  have run := schedStopAtCycleEnd_eq h (by simp [hs])
  have stops : schedStop 0 true s
      = { s with sched := { s.sched with state := .stopping, change := none, stopAtEnd := some 0 } } := by
    simp only [schedStop, hs, hn, he, Option.isSome_none, Bool.false_eq_true, ↓reduceIte]
  rw [stops] at run
  exact ⟨_, run, does_reply _ _ _ _ (SessionsStill.of_eq rfl)⟩

theorem schedStopAtCycleEnd_armed (hs : s.sched.state = .armed) : Gives (.schedStopAtCycleEnd ses) s fun t =>
    Does ses stOk s { s with sched := t.sched, planner := { s.planner with retry := true } } t
      ∧ t.sched.state = .idle ∧ t.sched.table = s.sched.table := by
  have run := schedStopAtCycleEnd_eq h (by simp [hs])
  have stops : schedStop 0 true s = schedToIdle 0 s := by simp only [schedStop, hs]
  rw [stops] at run
  exact gives_schedToIdle run ⟨s.sched, rfl, rfl⟩

end

/-- A schedule that is told to stop now and waits for a moving watch. -/
def State.stoppedNow (s : State) : State :=
  { s with sched := { s.sched with
    state := .stopping, change := none, stopAtEnd := none, stopNow := some 0, next := 0
    imageReady := false, imageCopy := false } }

theorem schedStop_now {s : State} (hs : s.sched.state = .running ∨ s.sched.state = .stopping)
    (hn : s.sched.stopNow = none) : schedStop 0 false s = schedStopCheck s.stoppedNow := by
  obtain hs | hs := hs <;>
    simp only [schedStop, hs, hn, Option.isSome_none, Bool.false_eq_true, ↓reduceIte, State.stoppedNow]

section
variable {ses : Nat} {s : State} (h : Passes ses 0x2100 1 [4#8] s)
include h

theorem schedStopNow_refused (hs : s.sched.state = .idle) :
    Gives (.schedStopNow ses) s fun t => Does ses stNotEligible s s t :=
  gives_reply (congrArg Host.Outcome.next ((gated_pass h _).trans (if_pos hs)))

theorem schedStopNow_eq (hs : s.sched.state ≠ .idle) :
    exec (.schedStopNow ses) s = .next (reply ses stOk (schedStop 0 false s)) :=
  congrArg Host.Outcome.next ((gated_pass h _).trans (if_neg hs))

theorem schedStopNow_armed (hs : s.sched.state = .armed) : Gives (.schedStopNow ses) s fun t =>
    Does ses stOk s { s with sched := t.sched, planner := { s.planner with retry := true } } t
      ∧ t.sched.state = .idle ∧ t.sched.table = s.sched.table := by
  have run := schedStopNow_eq h (by simp [hs])
  have stops : schedStop 0 false s = schedToIdle 0 s := by simp only [schedStop, hs]
  rw [stops] at run
  exact gives_schedToIdle run ⟨s.sched, rfl, rfl⟩

variable (hs : s.sched.state = .running ∨ s.sched.state = .stopping) (hn : s.sched.stopNow = none)
include hs hn

theorem schedStopNow_check : exec (.schedStopNow ses) s = .next (reply ses stOk (schedStopCheck s.stoppedNow)) := by
  rw [← schedStop_now hs hn]
  refine schedStopNow_eq h ?_
  obtain hs | hs := hs <;> simp [hs]

theorem schedStopNow_moving (hm : s.watchMoving = true) : Gives (.schedStopNow ses) s fun t =>
    Does ses stOk s s.stoppedNow t := by
  have run := schedStopNow_check h hs hn
  rw [schedStopCheck_moving (s := s.stoppedNow) hm] at run
  exact ⟨_, run, does_reply _ _ _ _ (SessionsStill.of_eq rfl)⟩

theorem schedStopNow_ends (hm : s.watchMoving = false) : Gives (.schedStopNow ses) s fun t =>
    Does ses stOk s { s with sched := t.sched, planner := { s.planner with retry := true } } t
      ∧ t.sched.state = .idle ∧ t.sched.table = s.sched.table := by
  have run := schedStopNow_check h hs hn
  rw [schedStopCheck_ends (s := s.stoppedNow) (r := 0) rfl rfl hm] at run
  exact gives_schedToIdle run ⟨s.stoppedNow.sched, rfl, rfl⟩

end

end Sys2Proof.Machine
end

section
open Sys2Proof Sys2Proof.Machine

/-- Settles O39: each command by the schedule's state, a commit by what a watch's commit leaves of the schedule. -/
theorem scheduleRuns : Obligations.ScheduleRuns := by
  refine ⟨fun s ha hn hr => schedImageCopyStart_copies ha hn hr,
    fun s ha hn hr ht hw h2 hs => schedStart_commits ha hn (by simp [State.watchReady, hr, ht, hw, h2]) hs,
    fun s h => schedStart_waits h, fun s h => watchBoundaryCommit_stopped h,
    fun s hruns hdue ht ha h2 hc => ⟨watchBoundaryCommit_waits hruns hdue ht ha h2 hc,
      watchBoundaryCommit_commits hruns hdue ht ha h2 hc, fun r hr hw hs hm =>
        watchBoundaryCommit_ends hruns hdue ht ha h2 hc hr hw hs hm⟩,
    fun c s hc hs hn => ⟨schedChangeApply_commits hc hs hn, schedChangeApply_waits hc⟩, fun s => ⟨rfl, rfl⟩,
    fun ses s h => ⟨schedStopAtCycleEnd_refused h, schedStopAtCycleEnd_running h, schedStopAtCycleEnd_armed h⟩,
    fun ses s h => ⟨schedStopNow_refused h, fun hs hn hm => schedStopNow_moving h hs hn hm, ?_⟩⟩
  rintro (ha | ⟨hs, hn, hm⟩)
  · exact schedStopNow_armed h ha
  · exact schedStopNow_ends h hs hn hm

end

/-! SUPPORT. The commit of a batch (R77, R90, R93 to R95, R301): its route image, its boundary, its failure in FAIL_STATIC
and the settle limit. -/
section
namespace Sys2Proof.Machine

/-! ### The route image -/

theorem putBatch_eq (b : Batch) (s : State) :
    s.putBatch b = { s with batches := s.batches.map fun c => if c.id = b.id then b else c } := rfl

theorem putBatch_ids (b : Batch) (s : State) : (s.putBatch b).batches.map (·.id) = s.batches.map (·.id) := by
  rw [putBatch_eq, List.map_map]
  refine List.map_congr_left fun c _ => ?_
  simp only [Function.comp]
  split
  · next h => exact h.symm
  · rfl

/-- Every batch of an ID is this one. -/
def State.Holds (s : State) (b : Batch) : Prop := ∀ c, c ∈ s.batches → c.id = b.id → c = b

theorem putBatch_holds (b : Batch) (s : State) : (s.putBatch b).Holds b := by
  intro c hc hid
  rw [putBatch_eq, List.mem_map] at hc
  obtain ⟨x, -, hx⟩ := hc
  by_cases h : x.id = b.id
  · rw [if_pos h] at hx
    exact hx.symm
  · rw [if_neg h] at hx
    exact absurd (hx ▸ hid) h

theorem putBatch_holds_other {b x : Batch} {s : State} (h : s.Holds b) (hx : x.id ≠ b.id) : (s.putBatch x).Holds b := by
  intro c hc hid
  rw [putBatch_eq, List.mem_map] at hc
  obtain ⟨y, hy, rfl⟩ := hc
  split at hid
  · exact absurd hid hx
  · next hne =>
    rw [if_neg hne]
    exact h y hy hid

/-- The batches behind change their T0 alone. -/
theorem stagger_spec (rest : List Batch) : ∀ (t : Instant) (s : State),
    stagger t s rest = { s with batches := (stagger t s rest).batches }
      ∧ (stagger t s rest).batches.map (·.id) = s.batches.map (·.id)
      ∧ ∀ b, s.Holds b → (∀ r, r ∈ rest → r.id ≠ b.id) → (stagger t s rest).Holds b := by
  induction rest with
  | nil => exact fun t s => ⟨rfl, rfl, fun b h _ => h⟩
  | cons x rest ih =>
    intro t s
    unfold stagger
    split
    · obtain ⟨frame, ids, holds⟩ := ih (max x.t0 (t + transitUnits)) (s.putBatch { x with t0 := max x.t0 (t + transitUnits) })
      refine ⟨frame, ids.trans (putBatch_ids _ _), fun b h hr => holds b ?_ fun r hm => hr r (List.mem_cons_of_mem _ hm)⟩
      exact putBatch_holds_other h (hr x List.mem_cons_self)
    · obtain ⟨frame, ids, holds⟩ := ih t s
      exact ⟨frame, ids, fun b h hr => holds b h fun r hm => hr r (List.mem_cons_of_mem _ hm)⟩

theorem commitNext_spec (b : Batch) (rest : List Batch) (s : State) :
    commitNext b rest s = { s with batches := (commitNext b rest s).batches }
      ∧ (commitNext b rest s).batches.map (·.id) = s.batches.map (·.id)
      ∧ ((∀ r, r ∈ rest → r.id ≠ b.id) → (commitNext b rest s).Holds { b with t0 := s.nextBoundary }) := by
  obtain ⟨frame, ids, holds⟩ := stagger_spec rest s.nextBoundary (s.putBatch { b with t0 := s.nextBoundary })
  exact ⟨frame, ids.trans (putBatch_ids _ _), fun hr => holds _ (putBatch_holds _ _) hr⟩

theorem routeImageComplete_asleep {s : State} (h : s.awake = false) : Gives .routeImageComplete s fun t => t = s :=
  ⟨_, rfl, if_pos (by simp [h])⟩

/-- The state with a batch's route image in the inactive copy. -/
def State.imaged (s : State) (b : Batch) : State := { s with image := some (b.id, b.plan.after.routes) }

section
variable {b : Batch} {rest : List Batch} {s : State} (ha : s.awake = true) (hc : s.sched.imageCopy = false)
  (hp : s.pendingBatches = b :: rest) (hr : b.imageReady = false)
include ha hc hp hr

theorem routeImageComplete_eq : exec .routeImageComplete s = .next (imageDone b rest s) := by
  refine congrArg Host.Outcome.next ((if_neg (by simp [ha])).trans ((if_neg (by simp [hc])).trans ?_))
  simp only [hp, hr]
  rfl

theorem routeImageComplete_early (h : b.state = .held ∨ (b.state = .pending ∧ b.late = false
      ∧ ((b.mode = 1 ∧ s.now < b.tReq) ∨ (b.mode = 0 ∧ b.fired = true ∧ s.now < b.t0)))) :
    Gives .routeImageComplete s fun t =>
      t = { s with image := some (b.id, b.plan.after.routes), batches := t.batches }
        ∧ t.batches = s.batches.map fun c => if c.id = b.id then { b with imageReady := true } else c := by
  have waits : imageDone b rest s = (s.imaged b).putBatch { b with imageReady := true } := by
    obtain h | ⟨hs, hl, ⟨hm, ht⟩ | ⟨hm, hf, ht⟩⟩ := h
    · exact if_pos h
    · refine (if_neg (by simp [hs])).trans ((if_neg (by simp [hm, hl])).trans (if_neg ?_))
      rw [if_pos hm]
      exact Nat.not_le.2 ht
    · refine (if_neg (by simp [hs])).trans ((if_neg (by simp [hf, hl])).trans (if_neg ?_))
      rw [if_neg (by simp [hm])]
      exact Nat.not_le.2 ht
  have run := routeImageComplete_eq ha hc hp hr
  rw [waits] at run
  exact ⟨_, run, rfl, rfl⟩

theorem routeImageComplete_commits (hs : b.state = .pending) (h : (b.mode = 0 ∧ b.fired = false) ∨ b.late = true) :
    Gives .routeImageComplete s fun t =>
      t = { s with image := some (b.id, b.plan.after.routes), batches := t.batches }
        ∧ t.batches.map (·.id) = s.batches.map (·.id)
        ∧ ∀ c, c ∈ t.batches → c.id = b.id → (∀ r, r ∈ rest → r.id ≠ b.id) →
            c = { b with imageReady := true, t0 := s.nextBoundary } := by
  have next : imageDone b rest s = commitNext { b with imageReady := true } rest (s.imaged b) :=
    (if_neg (by simp [hs])).trans (if_pos (by simpa using h))
  have run := routeImageComplete_eq ha hc hp hr
  obtain ⟨frame, ids, holds⟩ := commitNext_spec { b with imageReady := true } rest (s.imaged b)
  rw [next] at run
  exact ⟨_, run, frame, ids, fun c hm hid hrest => holds hrest c hm hid⟩

theorem routeImageComplete_late (hs : b.state = .pending) (hm : b.mode = 1) (hl : b.late = false) (ht : b.tReq ≤ s.now)
    (h0 : b.t0 ≤ s.now) : Gives .routeImageComplete s fun t =>
      Same { s with image := some (b.id, b.plan.after.routes), batches := t.batches } t
        ∧ t.batches.map (·.id) = s.batches.map (·.id)
        ∧ ∀ c, c ∈ t.batches → c.id = b.id → (∀ r, r ∈ rest → r.id ≠ b.id) →
            c = { b with imageReady := true, t0 := s.nextBoundary } := by
  have next : imageDone b rest s
      = raiseEv 0x646 (leBytes 4 b.id) (commitNext { b with imageReady := true } rest (s.imaged b)) := by
    refine (if_neg (by simp [hs])).trans ((if_neg (by simp [hm, hl])).trans ((if_pos ?_).trans ?_))
    · rw [if_pos hm]
      exact ht
    · exact congrArg (raiseEv 0x646 (leBytes 4 b.id)) (if_neg (Nat.not_lt.2 h0))
  have run := routeImageComplete_eq ha hc hp hr
  obtain ⟨frame, ids, holds⟩ := commitNext_spec { b with imageReady := true } rest (s.imaged b)
  rw [next] at run
  generalize commitNext { b with imageReady := true } rest (s.imaged b) = u at *
  have same := raiseEv_same 0x646 (leBytes 4 b.id) u
  refine ⟨_, run, ?_⟩
  beta_reduce
  rw [raiseEv_batches]
  refine ⟨?_, ids, fun c hm hid hrest => holds hrest c hm hid⟩
  have whole : u = { s with image := some (b.id, b.plan.after.routes), batches := u.batches } := frame
  rwa [← whole]

end

theorem routeImageComplete_watch {s : State} (ha : s.awake = true) (hc : s.sched.imageCopy = true) :
    Gives .routeImageComplete s fun t => Same { s with
      image := some (0, (s.cfg s.nextCommit.2).image.routes)
      sched := { s.sched with imageReady := true, imageCopy := false } } t
      ∧ (s.now < s.nextCommit.1 → t.events = s.events) := by
  let u : State := { s with
    image := some (0, (s.cfg s.nextCommit.2).image.routes)
    sched := { s.sched with imageReady := true, imageCopy := false } }
  have done : exec .routeImageComplete s
      = .next (if s.nextCommit.1 ≤ s.now then raiseEv 0x646 (leBytes 4 0) u else u) :=
    congrArg Host.Outcome.next ((if_neg (by simp [ha])).trans (if_pos hc))
  refine ⟨_, done, ?_⟩
  beta_reduce
  split
  · next due => exact ⟨raiseEv_same _ _ _, fun h => absurd due (Nat.not_le.2 h)⟩
  · exact ⟨⟨rfl, SessionsStill.refl _⟩, fun _ => rfl⟩

/-! ### The commit -/

theorem disturbRecords_base (b : Batch) (gen : Nat) (s : State) : (disturbRecords b gen s).base = s.base := by
  refine forEach_keeps _ State.base (fun d t => ?_) _ _
  split
  · exact audit_base _ _ _
  · exact audit_base _ _ _

theorem circuitRecords_base (b : Batch) (gen : Nat) (c d : Cfg) (s : State) :
    (circuitRecords b gen c d s).base = s.base :=
  forEach_keeps _ State.base (fun _ _ => forEach_keeps _ State.base (fun _ _ => audit_base _ _ _) _ _) _ _

theorem committed_plant {s t : State} (h : t.plant = s.plant) (n : Nat) (p : Planner) (bs : List Batch) :
    { t with commitCount := n, planner := p, image := none, batches := bs }.plant
      = { s with commitCount := n, planner := p, image := none, batches := bs }.plant := by
  have moves (u : State) : { u with commitCount := n, planner := p, image := none, batches := bs }.plant
      = { u.plant with commitCount := n, planner := p, image := none, batches := bs } := rfl
  rw [moves, moves, h]

/-- The batches once one has committed: the pending ones' images are to be written anew. -/
def renewed (bs : List Batch) : List Batch := bs.map fun x => if x.pending then { x with imageReady := false } else x

theorem renewed_pending {bs : List Batch} {c : Batch} (h : c ∈ renewed bs) (hc : c.pending = true) :
    c.imageReady = false := by
  obtain ⟨x, -, rfl⟩ := List.mem_map.1 h
  split
  · rfl
  · next hx =>
    rw [if_neg hx] at hc
    exact absurd hc hx

/-- The state in which a configuration has been committed. -/
def State.commitsTo (s : State) (d : Cfg) (ids : List Nat) (bs : List Batch) : State :=
  { s.adopted d ids with
    commitCount := (s.commitCount + 1) % 4294967296, planner := { s.planner with retry := true }, image := none
    batches := renewed bs }

theorem commitBatch_spec (b : Batch) (s : State) : ∃ ids bs u, commitBatch b s = closeSettled u
    ∧ u.plant = (s.commitsTo b.plan.after ids bs).plant := by
  obtain ⟨ids, applied⟩ := applyCfg_plant b.plan.after s
  refine ⟨ids, ?_⟩
  unfold commitBatch
  extract_lets c r s1 gen b1 _ s2 s3 s4 s5 s6
  have plant1 : s1.plant = (s.adopted b.plan.after ids).plant := applied
  have count1 : s1.commitCount = s.commitCount := (congrArg State.commitCount plant1 :)
  have planner1 : s1.planner = s.planner := (congrArg State.planner plant1 :)
  clear_value s1
  have h3 : s3.base = s2.base := raiseEv_base _ _ _
  have h4 : s4.base = s3.base := by
    simp only [s4]
    split
    · exact raiseEv_base _ _ _
    · rfl
  have h5 : s5.base = s4.base := audit_base _ _ _
  have h6 : s6.base = s2.base := by
    rw [circuitRecords_base, disturbRecords_base, h5, h4, h3]
  have count6 : s6.commitCount = (s.commitCount + 1) % 4294967296 := by
    rw [← count1]
    exact (congrArg State.commitCount h6 :)
  have planner6 : s6.planner = { s.planner with retry := true } := by
    rw [← planner1]
    exact (congrArg State.planner h6 :)
  have plant6 : s6.plant = s2.plant := State.plant_of_base h6
  refine ⟨s6.batches, _, rfl, ?_⟩
  refine (committed_plant plant6 s6.commitCount s6.planner (renewed s6.batches)).trans ?_
  rw [count6, planner6]
  exact committed_plant plant1 _ _ _

theorem State.adopted_digest (s : State) (d : Cfg) (ids : List Nat) :
    (s.adopted d ids).digest = d.digest (s.adopted d ids).generation := rfl

section
variable {b : Batch} {rest : List Batch} {s : State} (hp : s.pendingBatches = b :: rest)
include hp

theorem batchCommit_commits (hf : s.failStatic = false) (hs : b.state = .pending) (hr : b.imageReady = true)
    (h0 : b.t0 ≤ s.now) (ht : s.atTransit = true) (ha : s.awake = true) : Gives .batchCommit s fun t =>
      t.active = b.plan.after ∧ t.commitCount = (s.commitCount + 1) % 4294967296 ∧ t.image = none
        ∧ t.genCount = (if s.genCount + 1 = 2 ^ 40 then 0 else s.genCount + 1)
        ∧ t.digest = b.plan.after.digest t.generation
        ∧ t.digests = ((t.generation, s.now, t.digest) :: s.digests).take 64
        ∧ t.time = s.time ∧ t.objs = s.objs ∧ t.mem = s.mem
        ∧ ∀ c, c ∈ t.batches → c.pending = true → c.imageReady = false := by
  have due : s.commitDue b = true := by simp [State.commitDue, hs, hr, h0, ht, ha]
  have run : exec .batchCommit s = .next (commitBatch b s) := by
    refine congrArg Host.Outcome.next ?_
    simp only [hp, hf, due, ↓reduceIte, Bool.false_eq_true]
  obtain ⟨ids, bs, u, commits, plant⟩ := commitBatch_spec b s
  rw [commits] at run
  have apart := closeSettled_apart u
  have image := closeSettled_image u
  have left := closeSettled_batches u
  generalize closeSettled u = t at *
  have epoch : t.genEpoch = (s.adopted b.plan.after ids).genEpoch :=
    (congrArg State.genEpoch apart :).trans (congrArg State.genEpoch plant :)
  have count : t.genCount = (s.adopted b.plan.after ids).genCount :=
    (congrArg State.genCount apart :).trans (congrArg State.genCount plant :)
  have digest : t.digest = (s.adopted b.plan.after ids).digest :=
    (congrArg State.digest apart :).trans (congrArg State.digest plant :)
  have digests : t.digests = (s.adopted b.plan.after ids).digests :=
    (congrArg State.digests apart :).trans (congrArg State.digests plant :)
  have generation : t.generation = (s.adopted b.plan.after ids).generation := by
    rw [State.generation, epoch, count, ← State.generation]
  have batches : u.batches = renewed bs := (congrArg State.batches plant :)
  refine ⟨t, run, ?_, ?_, ?_, ?_, ?_, ?_, ?_, ?_, ?_, fun c hc hpend => ?_⟩
  · exact (congrArg State.active apart :).trans (congrArg State.active plant :)
  · exact (congrArg State.commitCount apart :).trans (congrArg State.commitCount plant :)
  · exact image.trans (congrArg State.image plant :)
  · rw [count]
    simp only [State.adopted, nextGeneration, decide_eq_true_eq]
  · rw [digest, generation, State.adopted_digest]
  · rw [digests, generation, digest]
    rfl
  · exact (congrArg State.time apart :).trans (congrArg State.time plant :)
  · exact (congrArg State.objs apart :).trans (congrArg State.objs plant :)
  · exact (congrArg State.mem apart :).trans (congrArg State.mem plant :)
  · have hb := left c hc
    rw [batches] at hb
    exact renewed_pending hb hpend

theorem batchCommit_waits (h : b.state ≠ .pending ∨ s.now < b.t0 ∨ s.atTransit = false
    ∨ (s.failStatic = false ∧ (b.imageReady = false ∨ s.awake = false))) : Gives .batchCommit s fun t => t = s := by
  refine ⟨_, rfl, ?_⟩
  simp only [hp]
  cases hf : s.failStatic with
  | true =>
    refine (if_pos rfl).trans (if_neg ?_)
    rintro ⟨hs, h0, ht⟩
    obtain h | h | h | ⟨h, -⟩ := h
    · exact h hs
    · exact Nat.not_le.2 h h0
    · simp [h] at ht
    · simp [hf] at h
  | false =>
    refine (if_neg Bool.false_ne_true).trans (if_neg ?_)
    simp only [State.commitDue, Bool.and_eq_true, decide_eq_true_eq]
    rintro ⟨⟨⟨⟨hs, hr⟩, h0⟩, ht⟩, ha⟩
    obtain h | h | h | ⟨-, h | h⟩ := h
    · exact h hs
    · exact Nat.not_le.2 h h0
    · simp [h] at ht
    · simp [h] at hr
    · simp [h] at ha

end

/-! ### FAIL_STATIC (R301) -/

/-- A batch failed. -/
def Batch.failed (b : Batch) (st : Nat) : Batch := { b with state := .failed, status := st }

/-- A batch of a host that fails after its answer. -/
theorem failBatch_same {b : Batch} {st : Nat} {s : State} (ho : b.origin ≠ 1) (hs : b.state ≠ .planning) :
    Same { s with batches := s.batches.filter fun c => decide (c.id ≠ b.id), closed := (b.failed st :: s.closed).take 64 }
      (failBatch b st s) := by
  have fails : failBatch b st s = raiseEv 0x603 (b.failed st).payload
      { s with batches := s.batches.filter fun c => decide (c.id ≠ b.id), closed := (b.failed st :: s.closed).take 64 } := by
    unfold failBatch
    simp only [replyBatch, dropMoves, ho, hs, false_and, and_false, ↓reduceIte]
    rfl
  rw [fails]
  exact raiseEv_same _ _ _

theorem replanStale_none {s : State} (h : s.batches = []) :
    replanStale s = { s with image := if s.sched.state = .idle then none else s.image } := by
  have pending : s.pendingBatches = [] := by simp [State.pendingBatches, h]
  unfold replanStale replanFrom
  simp only [pending, replanAll, refreshImage]
  split <;> rfl

theorem Same.image {s t : State} (h : Same s t) (i : Option (Nat × SMap RState)) :
    Same { s with image := i } { t with image := i } :=
  ⟨(congrArg (fun b : State => { b with image := i }) h.1 :), h.2⟩

theorem batchCommit_fails {b : Batch} {s : State} (hp : s.pendingBatches = [b]) (hf : s.failStatic = true)
    (hb : s.batches = [b]) (ho : b.origin ≠ 1) (hs : b.state = .pending) (h0 : b.t0 ≤ s.now) (ht : s.atTransit = true) :
    Gives .batchCommit s fun t => Same { s with
      batches := [], closed := ({ b with state := .failed, status := stNotEligible } :: s.closed).take 64
      image := if s.sched.state = .idle then none else s.image } t := by
  have run : exec .batchCommit s = .next (replanStale (failBatch b stNotEligible s)) := by
    refine congrArg Host.Outcome.next ?_
    simp only [hp, hf, hs, h0, ht, and_self, ↓reduceIte]
  have same := failBatch_same (st := stNotEligible) (s := s) ho (by simp [hs])
  have gone : s.batches.filter (fun c => decide (c.id ≠ b.id)) = [] := by simp [hb]
  rw [gone] at same
  generalize failBatch b stNotEligible s = u at *
  have batches : u.batches = [] := (congrArg State.batches same.1 :)
  have unread : u.image = s.image := (congrArg State.image same.1 :)
  have image : (if u.sched.state = .idle then none else u.image) = if s.sched.state = .idle then none else s.image := by
    rw [same.sched, unread]
  rw [replanStale_none batches, image] at run
  exact ⟨_, run, same.image _⟩

/-! ### The settle limit (R95) -/

theorem batchSettleLimit_closes {b : Batch} {s : State} (hb : s.batches = [b]) (hs : b.state = .moving)
    (h0 : b.t0Elapsed + 100000 * 65536 ≤ s.clock true) : Gives (.batchSettleLimit b.id) s fun t =>
      t.apart = s.apart ∧ t.batches = [] ∧ t.lateBatches = (s.lateBatches + 1) % 4294967296
        ∧ ∃ c, t.closed = (c :: s.closed).take 64 ∧ c.id = b.id ∧ c.state = .lateSettled := by
  have run : exec (.batchSettleLimit b.id) s = .next (closeBatch b true s) := by
    refine congrArg Host.Outcome.next ?_
    simp only [hb, hs, h0, and_self, decide_true, List.filter_cons_of_pos, List.filter_nil, List.head?_cons]
  have apart := closeBatch_apart b true s
  obtain ⟨c, late, n, u, closes, id, limit, state, frame⟩ := closeBatch_closes s b true
  obtain rfl := limit rfl
  obtain ⟨batches, closed, lates, -⟩ := schedStopCheck_legless_batches u
  have batchesU : u.batches = (s.closing b c true n).batches := (congrArg State.batches frame :)
  have closedU : u.closed = (c :: s.closed).take 64 := (congrArg State.closed frame :)
  have latesU : u.lateBatches = (s.lateBatches + 1) % 4294967296 := (congrArg State.lateBatches frame :)
  rw [closes] at run apart
  refine ⟨_, run, apart, ?_, lates.trans latesU, c, closed.trans closedU, id, state rfl⟩
  rw [batches, batchesU, State.closing, hb]
  simp

end Sys2Proof.Machine
end

section
open Sys2Proof Sys2Proof.Machine

/-- Settles O36: the image and the commit of the next batch by its state and mode, its failure, and the settle limit. -/
theorem batchCommits : Obligations.BatchCommits := by
  refine ⟨fun s h => routeImageComplete_asleep h, fun b rest s ha hc hp hr =>
      ⟨routeImageComplete_early ha hc hp hr, routeImageComplete_commits ha hc hp hr,
        routeImageComplete_late ha hc hp hr⟩,
    fun s ha hc => routeImageComplete_watch ha hc, fun b rest s hp => ⟨batchCommit_commits hp, batchCommit_waits hp,
      fun hf hb ho hs h0 ht => batchCommit_fails ?_ hf hb ho hs h0 ht⟩,
    fun b s hb hs _ h0 => batchSettleLimit_closes hb hs h0⟩
  simp [State.pendingBatches, hb, Batch.pending, hs, insertBatch]

end

/-! SUPPORT. Re-routes (R70, R71): the legs that a plan gives up or places, and the batch of session 30 that moves them. -/
section
namespace Sys2Proof.Machine

/-! ### Legs that a plan gives up -/

theorem State.leg_congr {s t : State} (h : t.legs = s.legs) (l : Nat) : t.leg l = s.leg l := by
  rw [State.leg, h, ← State.leg]

theorem degradeLeg_self (e r id : Nat) (s : State) : ((degradeLeg e r id s).leg id).state = .degraded := by
  unfold degradeLeg
  extract_lets l
  split
  · next h => exact h
  · rw [State.leg_congr (raiseEv_legs _ _ _), State.leg_setLeg, if_pos rfl]

theorem degradeLeg_other {e r id l : Nat} (h : l ≠ id) (s : State) : (degradeLeg e r id s).leg l = s.leg l := by
  unfold degradeLeg
  extract_lets x
  split
  · rfl
  · rw [State.leg_congr (raiseEv_legs _ _ _), State.leg_setLeg, if_neg h]

theorem degradeLegs_cons (l : Nat × Nat) (rest : List (Nat × Nat)) (s : State) :
    degradeLegs (l :: rest) s = degradeLegs rest (degradeLeg (s.faultedOn s.active l.1) l.2 l.1 s) := rfl

theorem degradeLegs_other {l : Nat} (ls : List (Nat × Nat)) : ∀ s : State, l ∉ ls.map Prod.fst →
    (degradeLegs ls s).leg l = s.leg l := by
  induction ls with
  | nil => exact fun s _ => rfl
  | cons x rest ih =>
    intro s h
    simp only [List.map_cons, List.mem_cons, not_or] at h
    rw [degradeLegs_cons, ih _ h.2, degradeLeg_other h.1]

theorem degradeLegs_member {l : Nat} (ls : List (Nat × Nat)) : ∀ s : State, l ∈ ls.map Prod.fst →
    ((degradeLegs ls s).leg l).state = .degraded := by
  induction ls with
  | nil => exact fun s h => absurd h List.not_mem_nil
  | cons x rest ih =>
    intro s h
    rw [degradeLegs_cons]
    by_cases hr : l ∈ rest.map Prod.fst
    · exact ih _ hr
    · simp only [List.map_cons, List.mem_cons, hr, or_false] at h
      rw [degradeLegs_other _ _ hr, h]
      exact degradeLeg_self _ _ _ _

theorem degradeLegs_legless (ls : List (Nat × Nat)) (s : State) : (degradeLegs ls s).legless = s.legless :=
  forEach_keeps (fun (l : Nat × Nat) t => degradeLeg (t.faultedOn t.active l.1) l.2 l.1 t) State.legless
    (fun _ _ => degradeLeg_legless _ _ _ _) _ _

/-! ### Legs that a plan places -/

/-- Placed legs wait for no plan any more. -/
def settleAffected (ls : List Nat) (s : State) : State :=
  forEach (fun l t => t.setLeg l { t.leg l with affected := false }) ls s

theorem settleAffected_legless (ls : List Nat) (s : State) : (settleAffected ls s).legless = s.legless :=
  forEach_keeps (fun l (t : State) => t.setLeg l { t.leg l with affected := false }) State.legless
    (fun _ _ => setLeg_legless _ _ _) _ _

theorem settleAffected_leg (l : Nat) (ls : List Nat) : ∀ s : State, (settleAffected ls s).leg l =
    if l ∈ ls then { s.leg l with affected := false } else s.leg l := by
  induction ls with
  | nil => exact fun s => rfl
  | cons x rest ih =>
    intro s
    have step : settleAffected (x :: rest) s = settleAffected rest (s.setLeg x { s.leg x with affected := false }) := rfl
    rw [step, ih, State.leg_setLeg]
    by_cases hx : l = x
    · subst hx
      simp only [↓reduceIte, List.mem_cons, true_or, ite_self]
    · simp only [hx, ↓reduceIte, List.mem_cons, false_or]

/-! ### The batch of a re-route -/

/-- A single pending batch that was planned over the configuration in force is not planned again. -/
theorem replanStale_one {b : Batch} {s : State} (hb : s.batches = [b]) (hp : b.pending = true)
    (hplan : b.plan.before = s.active) :
    replanStale s = { s with image := if b.imageReady then s.image else none } := by
  have pending : s.pendingBatches = [b] := by simp [State.pendingBatches, hb, hp, insertBatch]
  have kept : replanAll (fun _ => false) s.active 0 s.pendingBatches s = s := by
    rw [pending, replanAll, if_pos ⟨hplan, rfl⟩, replanAll]
  have same : s.batches.map (fun c => if c.pending ∧ c.id ≠ b.id then { c with imageReady := false } else c) = s.batches := by
    simp [hb]
  unfold replanStale replanFrom
  rw [kept]
  simp only [refreshImage, pending, same]

theorem State.apart_of_legless {s t : State} (h : t.legless = s.legless) (n : Nat) (bs : List Batch)
    (i : Option (Nat × SMap RState)) :
    { t with nextBatch := n, batches := bs, image := i }.apart = { s with nextBatch := n }.apart :=
  congrArg (fun b : State => { b with
    nextBatch := n, batches := [], closed := [], lateBatches := 0, sched := {}, planner := {}, image := none
    legs := [], out := {} }) h

/-- The batch that moves the placed legs. -/
def State.moveBatch (s : State) (gen ns : Nat) (basis : Cfg) (m : Moves) : Batch where
  id := s.nextBatch
  origin := 1
  session := 30
  state := .pending
  t0 := s.nextBoundary
  moves := m.placed
  faults := m.placed.map fun l => (l, s.faultedOn s.active l)
  plan := s.moveResult basis gen ns m

/-- A batch of the engine's own answers no request. -/
theorem replyBatch_own {b : Batch} (h : b.origin ≠ 0) (st : Nat) (s : State) : replyBatch b st s = s :=
  if_neg fun k => h k.1

theorem submitMoves_eq {gen ns : Nat} {m : Moves} {s : State} (hb : s.batches = []) :
    submitMoves { id := 0, origin := 1 } gen ns s.active m s = { s with
      nextBatch := nextBatchId s.nextBatch, batches := [s.moveBatch gen ns s.active m], image := none } := by
  let u : State := { s with nextBatch := nextBatchId s.nextBatch, batches := [s.moveBatch gen ns s.active m] }
  have placed : submitMoves { id := 0, origin := 1 } gen ns s.active m s = replanStale u := by
    unfold submitMoves placeBatch
    extract_lets b b1
    rw [replyBatch_own (show b.origin ≠ 0 from Nat.one_ne_zero)]
    refine congrArg replanStale ?_
    have same : b.id = b1.id := rfl
    have pending : b1 = s.moveBatch gen ns s.active m := by
      simp only [b1, b, Nat.one_ne_zero, and_false, ↓reduceIte]
      rfl
    have put (x : Batch) (h : b.id = x.id) : [b].map (fun c => if c.id = x.id then x else c) = [x] := by
      rw [List.map_cons, if_pos h, List.map_nil]
    rw [putBatch_eq, hb, List.nil_append, put b1 same, pending]
  rw [placed, replanStale_one (s := u) (b := s.moveBatch gen ns s.active m) rfl rfl rfl]
  rfl

/-! ### The command -/

/-- The legs that the planner was asked to move are no longer asked for. -/
def State.rerouted (s : State) : State := { s with planner := { s.planner with reroute := none } }

section
variable {ns : Nat} {all : List Nat} {s : State} (hall : s.planner.reroute = some all)
include hall

theorem reroutePlanComplete_asleep (ha : s.awake = false) : Gives (.reroutePlanComplete ns) s fun t => t = s := by
  refine ⟨_, rfl, ?_⟩
  simp only [hall]
  exact if_pos (by simp [ha])

variable {legs : List Nat} (hl : legs = all.filter fun l => (s.active.slot l).isLeg && s.legFaulted l)
  (ha : s.awake = true)
include hl ha

theorem reroutePlanComplete_barred (hr : s.rerouteAllowed = false) : Gives (.reroutePlanComplete ns) s fun t =>
    t.apart = s.apart ∧ t.planner.reroute = none ∧ t.planner.retry = true ∧ t.batches = s.batches
      ∧ (∀ l, l ∈ legs → (t.leg l).state = .degraded) ∧ (∀ l, l ∉ legs → t.leg l = s.leg l) := by
  let u : State := { s with planner := { s.planner with reroute := none, retry := true } }
  have run : exec (.reroutePlanComplete ns) s = .next (degradeLegs (legs.map fun l => (l, 2)) u) := by
    subst hl
    refine congrArg Host.Outcome.next ?_
    simp only [hall]
    exact (if_neg (by simp [ha])).trans (if_pos (by simp [hr]))
  have legless := degradeLegs_legless (legs.map fun l => (l, 2)) u
  have members : (legs.map fun l => (l, 2)).map Prod.fst = legs := by
    rw [List.map_map]
    exact List.map_id _
  refine ⟨_, run, (degradeLegs_apart _ _).trans rfl, (congrArg (fun x : State => x.planner.reroute) legless :),
    (congrArg (fun x : State => x.planner.retry) legless :), (congrArg State.batches legless :), fun l h => ?_, fun l h => ?_⟩
  · exact degradeLegs_member _ _ (members.symm ▸ h)
  · exact degradeLegs_other _ _ (members.symm ▸ h)

variable {m : Moves} (hr : s.rerouteAllowed = true)
  (hm : m = s.planMoves (decide (s.obj 0x2000 4 = 1)) (cfgAfter s.active (s.pendingBefore s.nextBoundary)) legs)
include hr hm

/-- The state in which a re-route is planned: legs that it does not place are DEGRADED. -/
def State.reroutePlanned (s : State) (ns : Nat) (m : Moves) : State := degradeLegs m.failed (countPlan ns s.rerouted)

omit hall hl ha hr hm in
theorem State.reroutePlanned_legless (s : State) (ns : Nat) (m : Moves) :
    (s.reroutePlanned ns m).legless = (countPlan ns s.rerouted).legless := degradeLegs_legless _ _

theorem reroutePlanComplete_eq : exec (.reroutePlanComplete ns) s = .next (
    if m.placed.isEmpty then s.reroutePlanned ns m
    else submitMoves { id := 0, origin := 1 } (s.generationPlus (s.pendingBefore s.nextBoundary).length) ns
      (cfgAfter s.active (s.pendingBefore s.nextBoundary)) m
      (settleAffected m.placed (raiseEv 0x642 (leBytes 2 m.placed.length) (s.reroutePlanned ns m)))) := by
  subst hl hm
  refine congrArg Host.Outcome.next ?_
  simp only [hall]
  exact (if_neg (by simp [ha])).trans (if_neg (by simp [hr]))

theorem reroutePlanComplete_none (h : m.placed = []) : Gives (.reroutePlanComplete ns) s fun t =>
    t.apart = s.apart ∧ t.planner.reroute = none ∧ t.batches = s.batches
      ∧ (∀ l, l ∈ m.failed.map Prod.fst → (t.leg l).state = .degraded)
      ∧ (∀ l, l ∉ m.failed.map Prod.fst → t.leg l = s.leg l) := by
  have run := reroutePlanComplete_eq (ns := ns) hall hl ha hr hm
  rw [if_pos (by simp [h])] at run
  have legless := s.reroutePlanned_legless ns m
  exact ⟨_, run, (degradeLegs_apart _ _).trans rfl, (congrArg (fun x : State => x.planner.reroute) legless :),
    (congrArg State.batches legless :), fun l hf => degradeLegs_member _ _ hf, fun l hf => degradeLegs_other _ _ hf⟩

theorem reroutePlanComplete_placed (h : m.placed ≠ []) (hb : s.batches = []) : Gives (.reroutePlanComplete ns) s fun t =>
    t.apart = { s with nextBatch := nextBatchId s.nextBatch }.apart ∧ t.planner.reroute = none
      ∧ (∃ b, t.batches = [b] ∧ b.id = s.nextBatch ∧ b.session = 30 ∧ b.origin = 1 ∧ b.mode = 0
          ∧ b.state = .pending ∧ b.t0 = s.nextBoundary ∧ b.moves = m.placed ∧ b.plan.after = m.cfg)
      ∧ (∀ l, l ∈ m.failed.map Prod.fst → (t.leg l).state = .degraded)
      ∧ (∀ l, l ∈ m.placed → (t.leg l).affected = false) := by
  have run := reroutePlanComplete_eq (ns := ns) hall hl ha hr hm
  have ahead : s.pendingBefore s.nextBoundary = [] := by simp [State.pendingBefore, State.pendingBatches, hb]
  rw [if_neg (by simp [h]), ahead] at run
  have failed (l : Nat) (hf : l ∈ m.failed.map Prod.fst) : ((s.reroutePlanned ns m).leg l).state = .degraded :=
    degradeLegs_member _ _ hf
  have legless := s.reroutePlanned_legless ns m
  generalize s.reroutePlanned ns m = p at *
  have raised : (raiseEv 0x642 (leBytes 2 m.placed.length) p).legs = p.legs := raiseEv_legs _ _ _
  have leg := fun l => settleAffected_leg l m.placed (raiseEv 0x642 (leBytes 2 m.placed.length) p)
  have frame : (settleAffected m.placed (raiseEv 0x642 (leBytes 2 m.placed.length) p)).legless
      = (countPlan ns s.rerouted).legless := by
    rw [settleAffected_legless, raiseEv_legless, legless]
  generalize settleAffected m.placed (raiseEv 0x642 (leBytes 2 m.placed.length) p) = u at *
  have batches : u.batches = [] := by
    rw [← hb]
    exact (congrArg State.batches frame :)
  have active : u.active = s.active := (congrArg State.active frame :)
  have time : u.time = s.time := (congrArg State.time frame :)
  have basis : cfgAfter s.active [] = u.active := by
    rw [active]
    rfl
  rw [basis, submitMoves_eq batches] at run
  have next : u.nextBatch = s.nextBatch := (congrArg State.nextBatch frame :)
  have reroute : u.planner.reroute = none := (congrArg (fun x : State => x.planner.reroute) frame :)
  refine ⟨_, run, ?_, reroute, ⟨_, rfl, next, rfl, rfl, rfl, rfl, ?_, rfl, rfl⟩, fun l hf => ?_, fun l hp => ?_⟩
  · rw [next, State.apart_of_legless frame]
    unfold State.apart State.base countPlan State.rerouted
    rfl
  · exact congrArg (fun x : TimeSt => (x.count / 65536 / transitUnits + 1) * transitUnits) time
  · have state : (u.leg l).state = (p.leg l).state := by
      rw [leg, State.leg_congr raised]
      split <;> rfl
    exact state.trans (failed l hf)
  · have placed := leg l
    rw [if_pos hp] at placed
    exact (congrArg LegSt.affected placed :)

end

end Sys2Proof.Machine
end

section
open Sys2Proof Sys2Proof.Machine

/-- Settles O37: by the Forge's state, the permission to re-route and the legs that the plan places. -/
theorem reroutePlans : Obligations.ReroutePlans :=
  fun _ _ _ _ hall hl => ⟨reroutePlanComplete_asleep hall, reroutePlanComplete_barred hall hl,
    fun _ ha hr hm => ⟨reroutePlanComplete_none hall hl ha hr hm, reroutePlanComplete_placed hall hl ha hr hm⟩⟩

end

/-! SUPPORT. Event records (R405, R416, R437, R439 to R443): a record's number and its place in the history, its queue and
the send queues, the records of a read, of RD and of a re-delivery. -/
section
namespace Sys2Proof.Machine

/-! ### Queues -/

theorem State.queue_congr {s t : State} (h : t.queues = s.queues) (q : Nat) : t.queue q = s.queue q := by
  rw [State.queue, h, ← State.queue]

theorem State.qCtrl_congr {s t : State} (h : t.regs = s.regs) (q : Nat) : t.qCtrl q = s.qCtrl q := by
  rw [State.qCtrl, State.reg, h, ← State.reg, ← State.qCtrl]

theorem State.qRoom_congr {s t : State} {q : Nat} (h : t.regs = s.regs)
    (hl : (t.queue q).records.length = (s.queue q).records.length) : t.qRoom q = s.qRoom q := by
  unfold State.qRoom State.qEn State.qCap State.qMode
  rw [State.qCtrl_congr h, hl]

theorem mem_insertNum_self (k : Nat) (l : List Nat) : k ∈ insertNum k l := by
  induction l with
  | nil => exact List.mem_singleton_self k
  | cons j rest ih =>
    unfold insertNum
    split
    · exact List.mem_cons_self
    · split
      · next h => exact h ▸ List.mem_cons_self
      · exact List.mem_cons_of_mem _ ih

section
variable (k q : Nat) (r : ERec) (s : State)

theorem ringLink_eq : ∃ p, ringLink q s = { s with power := p } := by
  unfold ringLink
  split
  · exact ⟨_, rfl⟩
  · exact ⟨s.power, rfl⟩

/-- A queue that a record joins. -/
def EvQueue.joined (x : EvQueue) (ring : Bool) (size k : Nat) (r : ERec) : EvQueue :=
  { x with
    records := joinQueue k (if x.lostBefore then { r with flags := orBit r.flags 3 } else r) x.records
    lostBefore := false, wr := if ring then (x.wr + 1) % size else x.wr }

/-- A queue that drops a record. -/
def EvQueue.dropped (x : EvQueue) : EvQueue :=
  { x with lost := min (x.lost + 1) 0xFFFFFFFF, overflow := true, lostBefore := true }

theorem takeRecord_eq : ∃ p vectors, takeRecord k q r s = { s with
      power := p
      events := { s.events with delivered := max s.events.delivered r.seq, vectors := vectors }
      queues := mapSet s.queues q
        ((s.queue q).joined (decide (s.qMode q = 1)) (2 ^ field (s.qCtrl q) 12 4) k r) {} }
    ∧ ((s.queue q).records = [] → field (s.qCtrl q) 16 9 ∈ vectors) := by
  unfold takeRecord
  extract_lets x r' s1 s2 _
  obtain ⟨p, link⟩ := ringLink_eq q (noteDelivered r.seq s1)
  have queues : s1.queues = mapSet s.queues q
      ((s.queue q).joined (decide (s.qMode q = 1)) (2 ^ field (s.qCtrl q) 12 4) k r) {} := by
    simp only [EvQueue.joined, decide_eq_true_eq]
    rfl
  rw [← queues]
  split
  · refine ⟨p, insertNum (field (s.qCtrl q) 16 9) s.events.vectors, ?_, fun _ => mem_insertNum_self _ _⟩
    simp only [s2, link]
    rfl
  · next hne =>
    refine ⟨p, s.events.vectors, ?_, fun he => absurd he (by simpa [x] using hne)⟩
    simp only [s2, link]
    rfl

theorem dropRecord_queue (j : Nat) : (dropRecord q s).queue j = if j = q then (s.queue q).dropped else s.queue j :=
  State.queue_setQueue _ _ _ _

theorem takeRecord_queue (j : Nat) : (takeRecord k q r s).queue j = if j = q then
    (s.queue q).joined (decide (s.qMode q = 1)) (2 ^ field (s.qCtrl q) 12 4) k r else s.queue j := by
  obtain ⟨p, vectors, takes, -⟩ := takeRecord_eq k q r s
  rw [takes]
  exact mapGet_mapSet _ _ _ _ _

theorem takeRecord_last : (takeRecord k q r s).events.last = s.events.last := by
  obtain ⟨p, vectors, takes, -⟩ := takeRecord_eq k q r s
  rw [takes]

theorem takeRecord_history : (takeRecord k q r s).events.history = s.events.history := by
  obtain ⟨p, vectors, takes, -⟩ := takeRecord_eq k q r s
  rw [takes]

theorem takeRecord_regs : (takeRecord k q r s).regs = s.regs := by
  obtain ⟨p, vectors, takes, -⟩ := takeRecord_eq k q r s
  rw [takes]

theorem takeRecord_audit : (takeRecord k q r s).audit = s.audit := by
  obtain ⟨p, vectors, takes, -⟩ := takeRecord_eq k q r s
  rw [takes]

theorem takeRecord_vectors (h : (s.queue q).records = []) :
    field (s.qCtrl q) 16 9 ∈ (takeRecord k q r s).events.vectors := by
  obtain ⟨p, vectors, takes, raised⟩ := takeRecord_eq k q r s
  rw [takes]
  exact raised h

end

/-! ### A record's number, and its place in the history -/

/-- The record of an event that goes before `k` others of its cycle. -/
def State.newRecord (s : State) (src fl k : Nat) (at_ : Instant) (p : List Byte) : ERec :=
  ⟨s.events.last + 1 - k, at_, s.quality, fl, src, padTo 8 p⟩

/-- The records that a new one goes before take the next numbers. -/
def State.bumped (s : State) (k : Nat) (r : ERec) : State := if k = 0 then s else bumpFrom r.seq s

/-- The state with a record in the history and in the send queues. -/
def State.noted (s : State) (src k : Nat) (r : ERec) : State :=
  let e := s.mapEntry src
  let s0 := s.bumped k r
  let s1 := { s0 with events := { s0.events with
    last := s.events.last + 1
    history := (s0.events.history.take k ++ r :: s0.events.history.drop k).take 65536
    cycle := s.hearthCycle
    cycleFrom := if s.events.cycle = s.hearthCycle then s.events.cycleFrom else s.events.last + 1
    irqSrc := s.events.irqSrc || e.testBit 30 } }
  sendAll k r (if e.testBit 29 then raiseVector (field e 0 9) s1 else s1)

section
variable (s : State) (src k : Nat) (r : ERec)

theorem State.noted_events : ∃ vectors, (s.noted src k r).events = { (s.bumped k r).events with
    last := s.events.last + 1
    history := ((s.bumped k r).events.history.take k ++ r :: (s.bumped k r).events.history.drop k).take 65536
    cycle := s.hearthCycle
    cycleFrom := if s.events.cycle = s.hearthCycle then s.events.cycleFrom else s.events.last + 1
    irqSrc := s.events.irqSrc || (s.mapEntry src).testBit 30, vectors := vectors } := by
  unfold State.noted
  extract_lets e s0 s1
  split <;> exact ⟨_, rfl⟩

theorem State.noted_last : (s.noted src k r).events.last = s.events.last + 1 := by
  obtain ⟨vectors, events⟩ := s.noted_events src k r
  rw [events]

theorem State.noted_history : (s.noted src k r).events.history
    = ((s.bumped k r).events.history.take k ++ r :: (s.bumped k r).events.history.drop k).take 65536 := by
  obtain ⟨vectors, events⟩ := s.noted_events src k r
  rw [events]

theorem State.noted_queues : (s.noted src k r).queues = (s.bumped k r).queues := by
  unfold State.noted
  extract_lets e s0 s1
  split <;> rfl

theorem State.noted_sessions : (s.noted src k r).sessions
    = (s.bumped k r).sessions.map fun p => (p.1, sendTo k r p.2) := by
  unfold State.noted
  extract_lets e s0 s1
  split <;> rfl

theorem State.noted_regs : (s.noted src k r).regs = s.regs := by
  unfold State.noted State.bumped
  simp only
  split <;> split <;> rfl

theorem State.noted_audit : (s.noted src k r).audit = s.audit := by
  unfold State.noted State.bumped
  simp only
  split <;> split <;> rfl

theorem sendTo_default : sendTo k r {} = {} := by simp [sendTo]

theorem State.noted_session (n : Nat) : (s.noted src k r).session n = sendTo k r ((s.bumped k r).session n) := by
  rw [State.session, State.noted_sessions]
  exact mapGet_map (sendTo k r) {} (sendTo_default k r) _ n

theorem State.noted_queue_zero (q : Nat) : (s.noted src 0 r).queue q = s.queue q :=
  State.queue_congr (s.noted_queues src 0 r) q

/-- Records that take other numbers stay as many. -/
theorem State.noted_queue (q : Nat) : ((s.noted src k r).queue q).records.length = (s.queue q).records.length
    ∧ ((s.noted src k r).queue q).overflow = (s.queue q).overflow := by
  rw [State.queue_congr (s.noted_queues src k r), State.bumped]
  split
  · exact ⟨rfl, rfl⟩
  · have renamed : (bumpFrom r.seq s).queue q = { s.queue q with records := (s.queue q).records.map (ERec.bump r.seq) } :=
      mapGet_map (fun x : EvQueue => { x with records := x.records.map (ERec.bump r.seq) }) {} rfl s.queues q
    rw [renamed]
    exact ⟨List.length_map _, rfl⟩

theorem State.noted_qRoom (q : Nat) : (s.noted src k r).qRoom q = s.qRoom q :=
  State.qRoom_congr (s.noted_regs src k r) (s.noted_queue src k r q).1

end

/-! ### Raising -/

section
variable {src : Nat} {s : State}

theorem raiseDepth_off (n fl : Nat) (at_ : Instant) (p : List Byte)
    (h : s.events.started = false ∨ (s.mapEntry src).testBit 31 = false) : raiseDepth n src at_ fl p s = s := by
  cases n with
  | zero => rfl
  | succ m =>
    unfold raiseDepth
    by_cases hs : s.events.started = false
    · exact if_pos (by simp [hs])
    · exact (if_neg (by simpa using hs)).trans (if_pos (by simp [h.resolve_left hs]))

variable (hs : s.events.started = true) (he : (s.mapEntry src).testBit 31 = true)
include hs he

/-- A record that is raised is noted, and its queue takes or drops it; the first drop is an event of its own. -/
theorem raiseDepth_on (m fl : Nat) (at_ : Instant) (p : List Byte) {k q : Nat} {r : ERec} (hk : k = s.behind src)
    (hq : q = field (s.mapEntry src) 24 3) (hr : r = s.newRecord src fl k at_ p) :
    raiseDepth (m + 1) src at_ fl p s =
      if (s.noted src k r).qRoom q then takeRecord k q r (s.noted src k r)
      else if !((s.noted src k r).queue q).overflow then
        raiseDepth m 0x011 (dropRecord q (s.noted src k r)).now 0
          (leBytes 4 q ++ leBytes 4 ((dropRecord q (s.noted src k r)).queue q).lost) (dropRecord q (s.noted src k r))
      else dropRecord q (s.noted src k r) := by
  subst hk hq hr
  rw [raiseDepth]
  exact (if_neg (by simp [hs])).trans (if_neg (by simp [he]))

end

/-- A cause for which an event is raised or not, and its records. -/
theorem raise_cases (src : Nat) (s : State) : (s.events.started = false ∨ (s.mapEntry src).testBit 31 = false)
    ∨ (s.events.started = true ∧ (s.mapEntry src).testBit 31 = true) := by
  cases s.events.started <;> cases (s.mapEntry src).testBit 31 <;> simp

theorem dropRecord_regs (q : Nat) (s : State) : (dropRecord q s).regs = s.regs := rfl

theorem dropRecord_audit (q : Nat) (s : State) : (dropRecord q s).audit = s.audit := rfl

theorem raiseDepth_audit (n : Nat) : ∀ (src fl : Nat) (at_ : Instant) (p : List Byte) (s : State),
    (raiseDepth n src at_ fl p s).audit = s.audit := by
  induction n with
  | zero => exact fun _ _ _ _ _ => rfl
  | succ m ih =>
    intro src fl at_ p s
    obtain off | ⟨hs, he⟩ := raise_cases src s
    · rw [raiseDepth_off _ _ _ _ off]
    · rw [raiseDepth_on hs he m fl at_ p rfl rfl rfl]
      split
      · rw [takeRecord_audit, State.noted_audit]
      · split
        · rw [ih, dropRecord_audit, State.noted_audit]
        · rw [dropRecord_audit, State.noted_audit]

theorem raiseEv_audit (src : Nat) (p : List Byte) (s : State) : (raiseEv src p s).audit = s.audit :=
  raiseDepth_audit _ _ _ _ _ _

/-- A chain of records takes at most as many numbers as it is deep. -/
theorem raiseDepth_last (n : Nat) : ∀ (src fl : Nat) (at_ : Instant) (p : List Byte) (s : State),
    s.events.last ≤ (raiseDepth n src at_ fl p s).events.last
      ∧ (raiseDepth n src at_ fl p s).events.last ≤ s.events.last + n := by
  induction n with
  | zero => exact fun _ _ _ _ _ => ⟨le_rfl, le_rfl⟩
  | succ m ih =>
    intro src fl at_ p s
    obtain off | ⟨hs, he⟩ := raise_cases src s
    · rw [raiseDepth_off _ _ _ _ off]
      exact ⟨le_rfl, Nat.le_add_right _ _⟩
    · have noted := s.noted_last src (s.behind src) (s.newRecord src fl (s.behind src) at_ p)
      rw [raiseDepth_on hs he m fl at_ p rfl rfl rfl]
      generalize s.noted src (s.behind src) (s.newRecord src fl (s.behind src) at_ p) = u at *
      split
      · rw [takeRecord_last, noted]
        omega
      · split
        · have bounds := ih 0x011 0 (dropRecord (field (s.mapEntry src) 24 3) u).now
            (leBytes 4 (field (s.mapEntry src) 24 3)
              ++ leBytes 4 ((dropRecord (field (s.mapEntry src) 24 3) u).queue (field (s.mapEntry src) 24 3)).lost)
            (dropRecord (field (s.mapEntry src) 24 3) u)
          have last : (dropRecord (field (s.mapEntry src) 24 3) u).events.last = u.events.last := rfl
          rw [last, noted] at bounds
          omega
        · have last : (dropRecord (field (s.mapEntry src) 24 3) u).events.last = u.events.last := rfl
          rw [last, noted]
          omega

/-- A queue of `n` records that has dropped one and takes none. -/
structure State.FullAt (s : State) (q n : Nat) : Prop where
  length : (s.queue q).records.length = n
  overflow : (s.queue q).overflow = true
  room : s.qRoom q = false

section
variable {q n : Nat} {s : State} (h : s.FullAt q n)
include h

theorem State.FullAt.noted (src k : Nat) (r : ERec) : (s.noted src k r).FullAt q n where
  length := (s.noted_queue src k r q).1.trans h.length
  overflow := (s.noted_queue src k r q).2.trans h.overflow
  room := (s.noted_qRoom src k r q).trans h.room

theorem State.FullAt.dropRecord (j : Nat) : (dropRecord j s).FullAt q n := by
  have same : ((Machine.dropRecord j s).queue q).records = (s.queue q).records := by
    rw [dropRecord_queue]
    split
    · next e => rw [e]; rfl
    · rfl
  refine ⟨by rw [same, h.length], ?_, (State.qRoom_congr (dropRecord_regs j s) (by rw [same])).trans h.room⟩
  rw [dropRecord_queue]
  split
  · rfl
  · exact h.overflow

theorem State.FullAt.takeRecord {j : Nat} (hj : q ≠ j) (k : Nat) (r : ERec) : (takeRecord k j r s).FullAt q n := by
  have same : (Machine.takeRecord k j r s).queue q = s.queue q := by rw [takeRecord_queue, if_neg hj]
  exact ⟨by rw [same, h.length], by rw [same, h.overflow],
    (State.qRoom_congr (takeRecord_regs _ _ _ _) (by rw [same])).trans h.room⟩

end

theorem raiseDepth_full {q n : Nat} (m : Nat) : ∀ (src fl : Nat) (at_ : Instant) (p : List Byte) (s : State),
    s.FullAt q n → (raiseDepth m src at_ fl p s).FullAt q n := by
  induction m with
  | zero => exact fun _ _ _ _ _ h => h
  | succ m ih =>
    intro src fl at_ p s h
    obtain off | ⟨hs, he⟩ := raise_cases src s
    · rwa [raiseDepth_off _ _ _ _ off]
    · rw [raiseDepth_on hs he m fl at_ p rfl rfl rfl]
      have noted := h.noted src (s.behind src) (s.newRecord src fl (s.behind src) at_ p)
      split
      · next room =>
        refine noted.takeRecord ?_ _ _
        rintro rfl
        exact absurd room (by simp [noted.room])
      · split
        · exact ih _ _ _ _ _ (noted.dropRecord _)
        · exact noted.dropRecord _

/-! ### An event that goes before no other -/

section
variable {src fl q : Nat} {at_ : Instant} {p : List Byte} {s : State} {r : ERec} (hs : s.events.started = true)
  (he : (s.mapEntry src).testBit 31 = true) (hq : q = field (s.mapEntry src) 24 3) (hk : s.behind src = 0)
  (hr : r = ⟨s.events.last + 1, at_, s.quality, fl, src, padTo 8 p⟩)
include hs he hq hk hr

theorem raiseAt_room (h : s.qRoom q = true) : raiseAt src at_ fl p s = takeRecord 0 q r (s.noted src 0 r) := by
  refine (raiseDepth_on hs he 2 fl at_ p hk.symm hq hr).trans (if_pos ?_)
  rw [State.noted_qRoom, h]

theorem raiseAt_drop (h : s.qRoom q = false) (ho : (s.queue q).overflow = true) :
    raiseAt src at_ fl p s = dropRecord q (s.noted src 0 r) := by
  refine (raiseDepth_on hs he 2 fl at_ p hk.symm hq hr).trans ((if_neg ?_).trans (if_neg ?_))
  · simp [State.noted_qRoom, h]
  · simp [State.noted_queue_zero, ho]

theorem raiseAt_first_drop (h : s.qRoom q = false) (ho : (s.queue q).overflow = false) : ∃ x : List Byte,
    raiseAt src at_ fl p s = raiseDepth 2 0x011 (dropRecord q (s.noted src 0 r)).now 0 x (dropRecord q (s.noted src 0 r)) := by
  refine ⟨_, (raiseDepth_on hs he 2 fl at_ p hk.symm hq hr).trans ((if_neg ?_).trans (if_pos ?_))⟩
  · simp [State.noted_qRoom, h]
  · simp [State.noted_queue_zero, ho]

omit hs he hq hk hr in
theorem State.noted_history_zero : (s.noted src 0 r).events.history = (r :: s.events.history).take 65536 :=
  s.noted_history src 0 r

theorem raiseAt_room_gives (h : s.qRoom q = true) :
    (raiseAt src at_ fl p s).events.last = s.events.last + 1
      ∧ (raiseAt src at_ fl p s).events.history = (r :: s.events.history).take 65536
      ∧ ((raiseAt src at_ fl p s).queue q).records = (s.queue q).records
          ++ [if (s.queue q).lostBefore then { r with flags := orBit r.flags 3 } else r]
      ∧ ((raiseAt src at_ fl p s).queue q).lost = (s.queue q).lost
      ∧ ((raiseAt src at_ fl p s).queue q).lostBefore = false
      ∧ ((s.queue q).records = [] → field (s.qCtrl q) 16 9 ∈ (raiseAt src at_ fl p s).events.vectors)
      ∧ ∀ k, k ≠ q → (raiseAt src at_ fl p s).queue k = s.queue k := by
  rw [raiseAt_room hs he hq hk hr h]
  refine ⟨?_, ?_, ?_, ?_, ?_, fun empty => ?_, fun k hne => ?_⟩
  · rw [takeRecord_last, State.noted_last]
  · rw [takeRecord_history, State.noted_history_zero]
  · rw [takeRecord_queue, if_pos rfl, State.noted_queue_zero]
    rfl
  · rw [takeRecord_queue, if_pos rfl, State.noted_queue_zero]
    rfl
  · rw [takeRecord_queue, if_pos rfl]
    rfl
  · rw [← State.qCtrl_congr (s.noted_regs src 0 r)]
    exact takeRecord_vectors _ _ _ _ (by rw [State.noted_queue_zero, empty])
  · rw [takeRecord_queue, if_neg hne, State.noted_queue_zero]

theorem raiseAt_drop_gives (h : s.qRoom q = false) (ho : (s.queue q).overflow = true) :
    (raiseAt src at_ fl p s).events.last = s.events.last + 1
      ∧ (raiseAt src at_ fl p s).events.history = (r :: s.events.history).take 65536
      ∧ (raiseAt src at_ fl p s).queue q
          = { s.queue q with lost := min ((s.queue q).lost + 1) 0xFFFFFFFF, lostBefore := true }
      ∧ ∀ k, k ≠ q → (raiseAt src at_ fl p s).queue k = s.queue k := by
  rw [raiseAt_drop hs he hq hk hr h ho]
  refine ⟨s.noted_last src 0 r, s.noted_history_zero, ?_, fun k hne => ?_⟩
  · rw [dropRecord_queue, if_pos rfl, State.noted_queue_zero, EvQueue.dropped, ← ho]
  · rw [dropRecord_queue, if_neg hne, State.noted_queue_zero]

theorem raiseAt_first_drop_gives (h : s.qRoom q = false) (ho : (s.queue q).overflow = false) :
    ((raiseAt src at_ fl p s).queue q).records.length = (s.queue q).records.length
      ∧ ((raiseAt src at_ fl p s).queue q).overflow = true
      ∧ s.events.last + 1 ≤ (raiseAt src at_ fl p s).events.last
      ∧ (raiseAt src at_ fl p s).events.last ≤ s.events.last + 3 := by
  obtain ⟨x, raised⟩ := raiseAt_first_drop hs he hq hk hr h ho
  have full : (dropRecord q (s.noted src 0 r)).FullAt q (s.queue q).records.length := by
    have queue : (dropRecord q (s.noted src 0 r)).queue q = (s.queue q).dropped := by
      rw [dropRecord_queue, if_pos rfl, State.noted_queue_zero]
    refine ⟨by rw [queue]; rfl, by rw [queue]; rfl, ?_⟩
    exact (State.qRoom_congr (s := s) ((dropRecord_regs _ _).trans (s.noted_regs src 0 r)) (by rw [queue]; rfl)).trans h
  have after := raiseDepth_full 2 0x011 0 (dropRecord q (s.noted src 0 r)).now x _ full
  have last := raiseDepth_last 2 0x011 0 (dropRecord q (s.noted src 0 r)).now x (dropRecord q (s.noted src 0 r))
  have dropped : (dropRecord q (s.noted src 0 r)).events.last = s.events.last + 1 := s.noted_last src 0 r
  rw [dropped] at last
  rw [raised]
  exact ⟨after.length, after.overflow, last.1, last.2⟩

/-- A send queue takes the record of a source of its session's set. -/
theorem raiseAt_sends {n : Nat} (hopen : (s.session n).isOpen = true)
    (hsub : subscribed (s.session n).subs src = true) (h : s.qRoom q = true ∨ (s.queue q).overflow = true) :
    ((s.session n).sendq.length < 256 → ((raiseAt src at_ fl p s).session n).sendq = (s.session n).sendq
        ++ [if (s.session n).lostBefore then { r with flags := orBit r.flags 3 } else r])
      ∧ (256 ≤ (s.session n).sendq.length → ((raiseAt src at_ fl p s).session n).sendq = (s.session n).sendq
        ∧ ((raiseAt src at_ fl p s).session n).evtDrops = ((s.session n).evtDrops + 1) % 4294967296) := by
  have sessions : (raiseAt src at_ fl p s).sessions = (s.noted src 0 r).sessions := by
    by_cases hroom : s.qRoom q = true
    · rw [raiseAt_room hs he hq hk hr hroom, takeRecord_sessions]
    · rw [raiseAt_drop hs he hq hk hr (by simpa using hroom) (h.resolve_left hroom)]
      rfl
  have session : (raiseAt src at_ fl p s).session n = sendTo 0 r (s.session n) := by
    rw [State.session, sessions, ← State.session, State.noted_session]
    rfl
  have source : r.source = src := by rw [hr]
  rw [session, sendTo, source, if_pos (by simp [hopen, hsub])]
  refine ⟨fun short => ?_, fun long => ?_⟩
  · rw [if_pos short, joinQueue_zero]
  · rw [if_neg (Nat.not_lt.2 long)]
    exact ⟨rfl, rfl⟩

end

/-- An event that goes before others of its cycle takes the least of their numbers. -/
theorem raiseAt_behind {src fl k : Nat} {at_ : Instant} {p : List Byte} {s : State} (hs : s.events.started = true)
    (he : (s.mapEntry src).testBit 31 = true) (hroom : s.qRoom (field (s.mapEntry src) 24 3) = true)
    (hk : k = s.behind src) (h0 : 0 < k) : (raiseAt src at_ fl p s).events.last = s.events.last + 1
      ∧ ∃ r : ERec, r.seq = s.events.last + 1 - k ∧ r.source = src ∧ r.time = at_
        ∧ (raiseAt src at_ fl p s).events.history = ((s.events.history.take k).map (fun x => ERec.bump r.seq x)
            ++ r :: (s.events.history.drop k).map (fun x => ERec.bump r.seq x)).take 65536 := by
  have taken : raiseAt src at_ fl p s = takeRecord k (field (s.mapEntry src) 24 3) (s.newRecord src fl k at_ p)
      (s.noted src k (s.newRecord src fl k at_ p)) := by
    refine (raiseDepth_on hs he 2 fl at_ p hk rfl rfl).trans (if_pos ?_)
    rw [State.noted_qRoom, hroom]
  have bumped : (s.bumped k (s.newRecord src fl k at_ p)).events.history
      = s.events.history.map (ERec.bump (s.newRecord src fl k at_ p).seq) := by
    rw [State.bumped, if_neg h0.ne']
    rfl
  rw [taken]
  refine ⟨?_, s.newRecord src fl k at_ p, rfl, rfl, rfl, ?_⟩
  · rw [takeRecord_last, State.noted_last]
  · rw [takeRecord_history, State.noted_history, bumped, List.map_take, List.map_drop]

/-! ### Reading a queue (R440, R443) -/

section
variable {q : Nat} {s : State} (hq : q < 8) (hv : s.power.vaux = true)
include hq hv

theorem evtQData0Read_eq : exec (.evtQData0Read q) s = .next (readData0 q s) :=
  congrArg Host.Outcome.next (if_pos ⟨hq, hv⟩)

theorem evtQData0Read_empty (hm : s.qMode q = 0) (hr : (s.queue q).records = []) :
    Gives (.evtQData0Read q) s fun t => t = { s with queues := t.queues, out := t.out }
      ∧ t.queue q = { s.queue q with latch := none } ∧ t.out.data = 0 ∧ ∀ k, k ≠ q → t.queue k = s.queue k := by
  have reads : readData0 q s = { s.setQueue q { s.queue q with latch := none } with out := ⟨0, 0, leBytes 4 0⟩ } := by
    refine (if_neg (not_not.2 hm)).trans ?_
    simp only [hr]
  have run := evtQData0Read_eq hq hv
  rw [reads] at run
  exact ⟨_, run, rfl, (State.queue_setQueue _ _ _ _).trans (if_pos rfl), rfl,
    fun k hk => (State.queue_setQueue _ _ _ _).trans (if_neg hk)⟩

theorem evtQData0Read_pops {r : ERec} {rest : List ERec} (hm : s.qMode q = 0) (hr : (s.queue q).records = r :: rest) :
    Gives (.evtQData0Read q) s fun t =>
      t = { s with queues := t.queues, events := { s.events with cycleFrom := s.events.last + 1 }, out := t.out }
        ∧ t.queue q = { s.queue q with records := rest, latch := some r }
        ∧ t.out.data = leNat (r.bytes.take 4) ∧ ∀ k, k ≠ q → t.queue k = s.queue k := by
  have reads : readData0 q s = { sealCycle (s.setQueue q { s.queue q with records := rest, latch := some r }) with
      out := ⟨leNat (r.bytes.take 4), 0, leBytes 4 (leNat (r.bytes.take 4))⟩ } := by
    refine (if_neg (not_not.2 hm)).trans ?_
    simp only [hr]
  have run := evtQData0Read_eq hq hv
  rw [reads] at run
  exact ⟨_, run, rfl, (State.queue_setQueue _ _ _ _).trans (if_pos rfl), rfl,
    fun k hk => (State.queue_setQueue _ _ _ _).trans (if_neg hk)⟩

theorem evtQData0Read_other (hm : s.qMode q ≠ 0) :
    Gives (.evtQData0Read q) s fun t => t = { s with out := t.out } ∧ t.out.data = 0 := by
  have run := evtQData0Read_eq hq hv
  rw [readData0, if_pos hm] at run
  exact ⟨_, run, rfl, rfl⟩

end

/-! ### RD (R440) -/

theorem evtQRd_row {q : Nat} (h : q < 8) : ∃ row, regRow (0x1003C + 0x100 * q) = some row := by
  have table : ∀ q < 8, (regRow (0x1003C + 0x100 * q)).isSome = true := by decide
  exact Option.isSome_iff_exists.1 (table q h)

theorem evtQRd_plain {q : Nat} (h : q < 8) : clearsCount (0x1003C + 0x100 * q) = false := by
  have c1 : ¬ (0x3A0000 ≤ 0x1003C + 0x100 * q ∧ 0x1003C + 0x100 * q < 0x3A1000) := by omega
  have c2 : ¬ (0x3B0100 ≤ 0x1003C + 0x100 * q ∧ 0x1003C + 0x100 * q < 0x3B0280) := by omega
  simp [clearsCount, c1, c2]

section
variable {q rd left : Nat} {at_ : Instant} {s : State} (hq : q < 8) (hm : s.qMode q = 1)
  (hl : s.live = [⟨.eventBlock, true, 0x1003C + 0x100 * q, rd, at_, 0⟩]) (hat : at_ < s.time.transitStart)
include hq hl hat

/-- RD's write in force: the register, and the records that it frees. -/
theorem liveSettingApply_qRd : ∃ v, exec (.liveSettingApply .eventBlock) s
    = .next (takeQRd q rd (State.setReg { s with live := [] } (0x1003C + 0x100 * q) v)) := by
  have due : LiveWrite.due ⟨.eventBlock, true, 0x1003C + 0x100 * q, rd, at_, 0⟩ s = true := by
    simp [LiveWrite.due, State.blockBoundary, inForge, hat]
  obtain ⟨row, hrow⟩ := evtQRd_row hq
  have c1 : ¬ (0x1000 ≤ 0x1003C + 0x100 * q ∧ 0x1003C + 0x100 * q < 0x1400 ∧ (0x1003C + 0x100 * q) % 0x100 = 0) := by
    omega
  have c2 : ¬ 0x1003C + 0x100 * q = 0x1400 := by omega
  have c3 : 0x10000 ≤ 0x1003C + 0x100 * q ∧ 0x1003C + 0x100 * q < 0x10800 ∧ (0x1003C + 0x100 * q) % 0x100 = 0x3C := by
    omega
  have number : (0x1003C + 0x100 * q - 0x10000) / 0x100 = q := by omega
  refine ⟨s.reg (0x1003C + 0x100 * q) - (s.reg (0x1003C + 0x100 * q) &&& row.live) + (rd &&& row.live), ?_⟩
  rw [liveSettingApply_one hl due, applyWrite, if_pos rfl, applyRegister_row hrow (evtQRd_plain hq), registerChanged,
    if_neg c1, if_neg c2, if_pos c3, number]
  rfl

variable (hleft : left = ((s.queue q).wr + 2 ^ field (s.qCtrl q) 12 4 - rd % 2 ^ field (s.qCtrl q) 12 4)
  % 2 ^ field (s.qCtrl q) 12 4)
include hm hleft

omit hq hl hat in
theorem takeQRd_eq (v : Nat) : takeQRd q rd (State.setReg { s with live := [] } (0x1003C + 0x100 * q) v) =
    if left ≤ (s.queue q).records.length then
      (State.setReg { s with live := [] } (0x1003C + 0x100 * q) v).setQueue q
        { s.queue q with records := (s.queue q).records.drop ((s.queue q).records.length - left) }
    else State.setReg { s with live := [] } (0x1003C + 0x100 * q) v := by
  have ctrl : (State.setReg { s with live := [] } (0x1003C + 0x100 * q) v).qCtrl q = s.qCtrl q :=
    (State.reg_setReg _ _ _ _).trans (if_neg (by omega))
  have mode : (State.setReg { s with live := [] } (0x1003C + 0x100 * q) v).qMode q = 1 := by
    rw [State.qMode, ctrl, ← State.qMode, hm]
  subst hleft
  unfold takeQRd
  rw [if_neg (not_not.2 mode), ctrl]
  rfl

theorem liveSettingApply_qRd_frees (h : left ≤ (s.queue q).records.length) :
    Gives (.liveSettingApply .eventBlock) s fun t =>
      t = { s with live := [], regs := t.regs, queues := t.queues } ∧ (∀ k, k ≠ q → t.queue k = s.queue k)
        ∧ t.queue q = { s.queue q with records := (s.queue q).records.drop ((s.queue q).records.length - left) }
        ∧ (t.queue q).records.length = left := by
  obtain ⟨v, run⟩ := liveSettingApply_qRd hq hl hat
  rw [takeQRd_eq hm hleft, if_pos h] at run
  have queue := (State.queue_setQueue (State.setReg { s with live := [] } (0x1003C + 0x100 * q) v) q
    { s.queue q with records := (s.queue q).records.drop ((s.queue q).records.length - left) } q).trans (if_pos rfl)
  refine ⟨_, run, rfl, fun k hk => (State.queue_setQueue _ _ _ _).trans (if_neg hk), queue, ?_⟩
  rw [queue, List.length_drop]
  omega

theorem liveSettingApply_qRd_ahead (h : (s.queue q).records.length < left) :
    Gives (.liveSettingApply .eventBlock) s fun t => t = { s with live := [], regs := t.regs } := by
  obtain ⟨v, run⟩ := liveSettingApply_qRd hq hl hat
  rw [takeQRd_eq hm hleft, if_neg (Nat.not_le.2 h)] at run
  exact ⟨_, run, rfl⟩

end

/-! ### Held records (R416) -/

theorem countWhere_eq_length {α : Type} (p : α → Bool) (l : List α) : countWhere p l = (l.filter p).length := by
  induction l with
  | nil => rfl
  | cons x rest ih =>
    rw [countWhere, List.filter_cons, ih]
    split
    · rw [List.length_cons, Nat.add_comm]
    · exact Nat.zero_add _

theorem orBit_testBit (n i : Nat) : (orBit n i).testBit i = true := by
  unfold orBit
  split
  · assumption
  · next h =>
    rw [Nat.add_comm, Nat.testBit_two_pow_add_eq]
    simpa using h

/-- A record given anew. -/
def ERec.redelivered (r : ERec) : ERec := { r with flags := orBit r.flags 2 }

/-- The records after a number, oldest first. -/
def State.after (s : State) (from_ : Nat) : List ERec :=
  (s.events.history.filter fun r => decide (from_ < r.seq)).reverse

theorem State.heldAfter_eq (s : State) (from_ max : Nat) :
    s.heldAfter from_ max = (if max = 0 then s.after from_ else (s.after from_).take max).map ERec.redelivered := rfl

/-- What is held is of the records after the number, in their order. -/
theorem State.heldAfter_sublist (s : State) (from_ max : Nat) :
    (if max = 0 then s.after from_ else (s.after from_).take max).Sublist (s.after from_) := by
  split
  · exact List.Sublist.refl _
  · exact List.take_sublist _ _

theorem State.heldAfter_all {s : State} {from_ max : Nat} (h : max = 0) : (s.heldAfter from_ max).length
    = countWhere (fun r => decide (from_ < r.seq)) s.events.history := by
  rw [State.heldAfter_eq, if_pos h, List.length_map, State.after, List.length_reverse, countWhere_eq_length]

theorem State.heldAfter_length {s : State} {from_ max : Nat} (h : max ≠ 0) : (s.heldAfter from_ max).length ≤ max := by
  rw [State.heldAfter_eq, if_neg h, List.length_map, List.length_take]
  exact Nat.min_le_left _ _

theorem State.heldAfter_mem {s : State} {from_ max : Nat} {r : ERec} (h : r ∈ s.heldAfter from_ max) :
    from_ < r.seq ∧ r.flags.testBit 2 = true := by
  rw [State.heldAfter_eq] at h
  obtain ⟨x, hx, rfl⟩ := List.mem_map.1 h
  have held := (s.heldAfter_sublist from_ max).mem hx
  rw [State.after, List.mem_reverse, List.mem_filter, decide_eq_true_eq] at held
  exact ⟨held.2, orBit_testBit _ _⟩

theorem State.heldAfter_sorted {s : State} {from_ max : Nat}
    (h : s.events.history.Pairwise (fun a b => b.seq < a.seq)) :
    (s.heldAfter from_ max).Pairwise (fun a b => a.seq < b.seq) := by
  rw [State.heldAfter_eq, List.pairwise_map]
  refine List.Pairwise.sublist (s.heldAfter_sublist from_ max) ?_
  rw [State.after, List.pairwise_reverse]
  exact List.Pairwise.sublist List.filter_sublist h

/-! ### EVENT_REDELIVER -/

theorem leNat_cons (b : Byte) (rest : List Byte) : leNat (b :: rest) = b.toNat + 256 * leNat rest := rfl

/-- Four bytes that spell 0 are all 0. -/
theorem leAt_four_zero {v : List Byte} (h : leAt v 12 4 = 0) : leAt v 12 1 = 0 ∧ leAt v 13 3 = 0 := by
  have tail : v.drop 13 = (v.drop 12).drop 1 := by rw [List.drop_drop]
  unfold leAt at *
  rw [tail]
  cases hv : v.drop 12 with
  | nil => exact ⟨rfl, rfl⟩
  | cons b rest =>
    rw [hv, List.take_succ_cons, leNat_cons] at h
    rw [List.take_succ_cons, leNat_cons, List.take_zero, List.drop_succ_cons, List.drop_zero]
    have empty : leNat [] = 0 := rfl
    omega

theorem noteRedelivery_session (ses lost : Nat) (l : List ERec) (s : State) (n : Nat) :
    (noteRedelivery ses lost l s).session n = if n = ses then
      { s.session ses with redeliver := ((l.map fun r => r.seq).headD 0, l.length, lost) } else s.session n := by
  have first : (match l with | [] => 0 | r :: _ => r.seq) = (l.map fun r => r.seq).headD 0 := by cases l <;> rfl
  rw [← first]
  exact State.session_setSession _ _ _ _

theorem noteRedelivery_core (ses lost : Nat) (l : List ERec) (s : State) : (noteRedelivery ses lost l s).core = s.core := by
  unfold noteRedelivery
  exact State.core_setSession _ _ _

/-- A v3 session's send queue takes the records (R416). -/
def State.given (s : State) (ses : Nat) (l : List ERec) : State :=
  (sealCycle s).setSession ses { s.session ses with sendq := (s.session ses).sendq ++ l }

theorem State.given_session (s : State) (ses : Nat) (l : List ERec) (n : Nat) : (s.given ses l).session n =
    if n = ses then { s.session ses with sendq := (s.session ses).sendq ++ l } else s.session n := by
  unfold State.given
  rw [State.session_setSession]
  rfl

theorem State.given_core (s : State) (ses : Nat) (l : List ERec) : (s.given ses l).core = s.core := by
  unfold State.given
  rw [State.core_setSession]
  exact State.core_of_base (sealCycle_base s)

theorem redeliver_v3 {s : State} {ses : Nat} (hl : (s.session ses).link = 3) (q lost : Nat) (l : List ERec) :
    redeliver ses q l lost (sealCycle s) = noteRedelivery ses lost l (s.given ses l) := by
  have link : ((sealCycle s).session ses).link = 3 := hl
  unfold redeliver
  rw [if_pos link]
  rfl

section
variable {ses : Nat} {v : List Byte} {s : State} (h : Passes ses 0x1E00 1 v s)
include h

theorem eventRedeliver_range (hr : s.newestEvent < leAt v 0 8 ∨ 8 ≤ leAt v 12 1
    ∨ (leAt v 12 1 ≠ 0 ∧ isMailbox (s.linkOf ses) = false) ∨ leAt v 13 3 ≠ 0) :
    Gives (.eventRedeliver ses v) s fun t => Does ses stRange s s t :=
  gives_reply (congrArg Host.Outcome.next ((gated_pass h _).trans (if_pos (by simpa using hr))))

variable (hf : leAt v 0 8 ≤ s.newestEvent) (hz : leAt v 12 4 = 0)
include hf hz

omit h in
theorem redeliver_inRange : ¬ (s.newestEvent < leAt v 0 8 ∨ 8 ≤ leAt v 12 1
    ∨ (leAt v 12 1 ≠ 0 ∧ (!isMailbox (s.linkOf ses)) = true) ∨ leAt v 13 3 ≠ 0) := by
  obtain ⟨queue, rest⟩ := leAt_four_zero hz
  rw [queue, rest]
  simp [hf]

theorem eventRedeliver_notEligible (hl : (s.session ses).link = 2) :
    Gives (.eventRedeliver ses v) s fun t => Does ses stNotEligible s s t :=
  gives_reply (congrArg Host.Outcome.next ((gated_pass h _).trans
    ((if_neg (redeliver_inRange hf hz)).trans (if_pos (.inr hl)))))

theorem eventRedeliver_sends (h29 : ses < 29) (hl : (s.session ses).link = 3) :
    Gives (.eventRedeliver ses v) s fun t =>
      t.core = s.core ∧ (t.session ses).sendq = (s.session ses).sendq ++ s.heldAfter (leAt v 0 8) (leAt v 8 4)
        ∧ (t.session ses).redeliver = (((s.heldAfter (leAt v 0 8) (leAt v 8 4)).map fun r => r.seq).headD 0,
            (s.heldAfter (leAt v 0 8) (leAt v 8 4)).length, s.lostAfter (leAt v 0 8))
        ∧ (t.session ses).resp = some ⟨stOk, [], 0⟩ ∧ ∀ k, k ≠ ses → t.session k = s.session k := by
  have link : s.linkOf ses ≠ .internal := by
    simp [State.linkOf, Nat.not_le.2 h29, hl]
  have run : exec (.eventRedeliver ses v) s = .next (reply ses stOk (redeliver ses (leAt v 12 1)
      (s.heldAfter (leAt v 0 8) (leAt v 8 4)) (s.lostAfter (leAt v 0 8)) (sealCycle s))) :=
    congrArg Host.Outcome.next ((gated_pass h _).trans ((if_neg (redeliver_inRange hf hz)).trans
      (if_neg fun c => c.elim link (by simp [hl]))))
  generalize s.heldAfter (leAt v 0 8) (leAt v 8 4) = l at run ⊢
  generalize s.lostAfter (leAt v 0 8) = lost at run ⊢
  rw [redeliver_v3 hl] at run
  have own := noteRedelivery_session ses lost l (s.given ses l) ses
  rw [if_pos rfl, State.given_session, if_pos rfl] at own
  refine ⟨_, run, ?_, ?_, ?_, ?_, fun k hk => ?_⟩
  · exact (reply_core _ _ _).trans ((noteRedelivery_core _ _ _ _).trans (s.given_core ses l))
  · rw [reply, answer_session_self, own]
  · rw [reply, answer_session_self, own]
  · rw [reply, answer_session_self]
    rfl
  · rw [reply, answer_session_other hk, noteRedelivery_session, if_neg hk, State.given_session, if_neg hk]

end

end Sys2Proof.Machine
end

section
open Sys2Proof Sys2Proof.Machine

/-- Settles O56: a record by its queue's room and what stands behind it, a read by the queue's mode and records, and
what is held of the history. -/
theorem eventRecords : Obligations.EventRecords := by
  refine ⟨fun src fl at_ p s h => raiseDepth_off 3 fl at_ p h, fun src fl q at_ p s t r hs he hq ht hk hr => ?_,
    fun src fl k at_ p s t hs he hroom hk h0 _ ht => ?_, fun src s => rfl,
    fun q s hq hv => ⟨evtQData0Read_empty hq hv, fun r rest hm hr => evtQData0Read_pops hq hv hm hr,
      evtQData0Read_other hq hv⟩,
    fun q rd s hq hv => ⟨_, congrArg Host.Outcome.next (if_pos ⟨hq, hv⟩), rfl⟩,
    fun q rd left at_ s hq hm hl hat _ hleft => ⟨liveSettingApply_qRd_frees hq hm hl hat hleft,
      liveSettingApply_qRd_ahead hq hm hl hat hleft⟩,
    fun s hv => ⟨_, congrArg Host.Outcome.next (if_pos hv), rfl, rfl⟩, ?_,
    fun from_ max s => ⟨State.heldAfter_all, fun r hr => State.heldAfter_mem hr, State.heldAfter_length,
      State.heldAfter_sorted⟩⟩
  · subst ht
    exact ⟨raiseAt_same _ _ _ _ _, raiseAt_room_gives hs he hq hk hr, raiseAt_drop_gives hs he hq hk hr,
      raiseAt_first_drop_gives hs he hq hk hr, fun n hopen hsub h => raiseAt_sends hs he hq hk hr hopen hsub h⟩
  · subst ht
    obtain ⟨last, record⟩ := raiseAt_behind (fl := fl) (at_ := at_) (p := p) hs he hroom hk h0
    exact ⟨raiseAt_same _ _ _ _ _, last, record⟩
  · rintro ses _ _ _ v s h rfl rfl rfl
    exact ⟨eventRedeliver_range h, fun hf hz h29 => ⟨eventRedeliver_notEligible h hf hz,
      eventRedeliver_sends h hf hz h29⟩⟩

end


/-! SUPPORT. Supplies and MOD_RESET_N (R10, R447, R448, R451, R452): what goes off with the domains, what a restart
leaves, and what the start of the Watch brings up. -/
section
namespace Sys2Proof.Machine

/-! ### Domains that go off (R10, R448) -/

theorem breakTransition_life (s : State) : ∃ l, breakTransition s = { s with life := l } ∧ l.state = s.life.state := by
  unfold breakTransition
  split
  · exact ⟨_, rfl, rfl⟩
  · exact ⟨s.life, rfl, rfl⟩

/-- An element of the Watch domain that went off is PARKED, its code 0. -/
theorem watchDown_elem_code (s : State) (e : Nat) : ((watchDown s).elem e).code = 0 := by
  have zero (l : SMap Elem) : (mapGet ((l.map fun p => (p.1, restElem p.2)).filter
      fun p => decide (p.2 ≠ {})) e {}).code = 0 := by
    induction l with
    | nil => rfl
    | cons p rest ih =>
      rw [List.map_cons, List.filter_cons]
      split
      · rw [mapGet]
        split
        · rfl
        · exact ih
      · exact ih
  exact zero _

theorem keeperInit_leaves (s : State) : (keeperInit s).active = s.active ∧ (keeperInit s).dets = s.dets
    ∧ (keeperInit s).audit = s.audit := by
  unfold keeperInit
  extract_lets old k s1
  split
  · exact ⟨rfl, rfl, rfl⟩
  · exact ⟨raiseEv_active _ _ _, raiseEv_dets _ _ _, raiseEv_audit _ _ _⟩

theorem watchDown_active (s : State) : (watchDown s).active = s.active := (keeperInit_leaves s).1

theorem watchDown_det (s : State) (d : Nat) : (watchDown s).det d = restDet (s.det d) := by
  have dets : (watchDown s).dets = s.dets.map fun p => (p.1, restDet p.2) :=
    congrArg (List.map fun (p : Nat × Det) => (p.1, restDet p.2)) (keeperInit_leaves s).2.1
  unfold State.det
  rw [dets]
  exact mapGet_map restDet {} rfl s.dets d

theorem watchDown_audit (s : State) : (watchDown s).audit = startOff s.audit :=
  congrArg startOff (keeperInit_leaves s).2.2

/-- The count of happenings that no record holds stands apart from the records. -/
theorem startOff_records (a : Audit) : ∃ o n f l, startOff a =
    { a with watchWasOff := o, offCount := n, offFirst := f, offLast := l } := by
  unfold startOff
  split
  · exact ⟨_, _, _, _, rfl⟩
  · exact ⟨_, _, _, _, rfl⟩

/-! ### The start of the Watch (R451) -/

theorem releaseAnvils_leaves (s : State) : (releaseAnvils s).time = s.time ∧ (releaseAnvils s).objs = s.objs
    ∧ (releaseAnvils s).active = s.active :=
  ⟨forEach_keeps _ State.time (fun (v : Anvil) t => by cases v <;> rfl) _ _,
    forEach_keeps _ State.objs (fun (v : Anvil) t => by cases v <;> rfl) _ _,
    forEach_keeps _ State.active (fun (v : Anvil) t => by cases v <;> rfl) _ _⟩

theorem releaseAnvils_selftest (s : State) :
    (releaseAnvils s).keeper.a.state = .selftest ∧ (releaseAnvils s).keeper.b.state = .selftest := ⟨rfl, rfl⟩

/-- The Watch as it powers up, before the Forge's wake. -/
def State.released (s : State) : State :=
  releaseAnvils (banksPowerUp { s with power := { s.power with watchOn := true, forgeOn := true } })

theorem watchUp_forge (s : State) : ∃ f, watchUp s = { s.released with forge := f }
    ∧ (s.power.forgeOn = false → f.state = .waking) := by
  unfold watchUp
  extract_lets s1 s2
  split
  · next h => exact ⟨s2.forge, rfl, fun c => absurd h (by simp [c])⟩
  · exact ⟨_, rfl, fun _ => rfl⟩

theorem State.released_power (s : State) : s.released.power =
    { s.power with watchOn := true, forgeOn := true, vauxLostSinceWatch := false } := (releaseAnvils_keeps _).2

theorem watchUp_power (s : State) : (watchUp s).power =
    { s.power with watchOn := true, forgeOn := true, vauxLostSinceWatch := false } := by
  obtain ⟨f, up, -⟩ := watchUp_forge s
  rw [up]
  exact s.released_power

theorem watchUp_leaves (s : State) : (watchUp s).time = s.time ∧ (watchUp s).objs = s.objs
    ∧ (watchUp s).active = s.active := by
  obtain ⟨f, up, -⟩ := watchUp_forge s
  rw [up]
  exact releaseAnvils_leaves _

theorem watchUp_selftest (s : State) :
    (watchUp s).keeper.a.state = .selftest ∧ (watchUp s).keeper.b.state = .selftest := by
  obtain ⟨f, up, -⟩ := watchUp_forge s
  rw [up]
  exact releaseAnvils_selftest _

theorem watchUp_wakes {s : State} (h : s.power.forgeOn = false) : (watchUp s).forge.state = .waking := by
  obtain ⟨f, up, wakes⟩ := watchUp_forge s
  rw [up]
  exact wakes h

/-- Nothing starts while VMAIN is absent, a reset pin holds, or a trip is latched. -/
theorem startUp_held {s : State} (h : s.power.vmain = false ∨ s.power.modResetHeld = true) : startUp s = s :=
  if_neg fun c => by
    obtain ⟨-, main, free, -⟩ := c
    simp [main] at h
    simp [h] at free

theorem startUp_starts {s : State} (ha : s.power.vaux = true) (hm : s.power.vmain = true)
    (hr : s.power.modResetHeld = false) (ht : s.thermal.trip = false) (hw : s.power.watchOn = false) :
    startUp s = watchUp s := if_pos (by simp [ha, hm, hr, ht, hw])

/-! ### The supplies (R447, R448) -/

section
variable {s : State}

theorem vauxGood_starts {vbat : Bool} {epoch : Instant} (ha : s.power.vaux = false) (hm : s.power.vmain = false) :
    Gives (.vauxGood vbat epoch) s fun t =>
      t.power.vaux = true ∧ t.power.vbat = vbat ∧ t.power.resetCause = 1 ∧ t.power.watchOn = false
        ∧ t.time = { calValid := s.time.calValid && vbat, calValue := epoch } ∧ t.elems = [] ∧ t.sessions = []
        ∧ t.objs = (s.objs.filter fun p => storedEntry p.1) ∧ t.life.state = s.life.state :=
  ⟨_, congrArg Host.Outcome.next ((if_neg (by simp [ha])).trans (startUp_held (.inl hm))),
    rfl, rfl, rfl, rfl, rfl, rfl, rfl, rfl, rfl⟩

/-- Without a flush the audit's records go with VAUX. -/
theorem vauxLost_before (s : State) : ∃ l a, (if s.audit.hasFlush then breakTransition s
    else loseAudit (breakTransition s)) = { s with life := l, audit := a } := by
  obtain ⟨l, broken, -⟩ := breakTransition_life s
  rw [broken]
  split
  · exact ⟨l, s.audit, rfl⟩
  · exact ⟨l, _, rfl⟩

/-- The state without VAUX: what survives a restart of every domain, but for the keys and the banks. -/
def State.dark (s : State) (vbat : Bool) : State :=
  let s1 := cold s
  { s1 with
    power := { s1.power with vaux := false, vbat := vbat, vauxLostSinceWatch := true, modResetLow := false }
    mem := [], ddr := []
    life := { s1.life with auditKey := none, tlsKey := false }
    time := { s1.time with calValid := s1.time.calValid && vbat } }

theorem vauxLost_stops {vbat : Bool} (h : s.power.vaux = true) :
    Gives (.vauxLost vbat) s fun t =>
      t.power.vaux = false ∧ t.power.watchOn = false ∧ t.power.forgeOn = false ∧ t.mem = [] ∧ t.ddr = []
        ∧ t.life.auditKey = none ∧ t.life.tlsKey = false ∧ t.audit.ring = [] ∧ t.audit.buffer = []
        ∧ t.time.running = false ∧ t.time.calValid = (s.time.calValid && vbat)
        ∧ t.objs = (s.objs.filter fun p => storedEntry p.1) ∧ t.cal.types = s.cal.types := by
  obtain ⟨l, a, before⟩ := vauxLost_before s
  have run : exec (.vauxLost vbat) s = .next (State.dark (if s.audit.hasFlush then breakTransition s
      else loseAudit (breakTransition s)) vbat) := congrArg Host.Outcome.next (if_neg (by simp [h]))
  rw [before] at run
  exact ⟨_, run, rfl, rfl, rfl, rfl, rfl, rfl, rfl, rfl, rfl, rfl, rfl, rfl, rfl⟩

section
variable (hm : s.power.vmain = false) (hf : s.power.flush ≠ 1)
include hm hf

theorem vmainGood_runs : exec .vmainGood s =
    .next (startUp { s with power := { s.power with vmain := true, vhv := true } }) :=
  congrArg Host.Outcome.next (if_neg (by simp [hm, hf]))

theorem vmainGood_starts (ha : s.power.vaux = true) (hr : s.power.modResetHeld = false)
    (ht : s.thermal.trip = false) (hw : s.power.watchOn = false) :
    Gives .vmainGood s fun t =>
      t.power.vmain = true ∧ t.power.vhv = true ∧ t.power.watchOn = true ∧ t.power.forgeOn = true
        ∧ t.keeper.a.state = .selftest ∧ t.keeper.b.state = .selftest
        ∧ (s.power.forgeOn = false → t.forge.state = .waking)
        ∧ t.time = s.time ∧ t.objs = s.objs ∧ t.active = s.active := by
  have run := vmainGood_runs hm hf
  rw [startUp_starts (s := { s with power := { s.power with vmain := true, vhv := true } }) ha rfl hr ht hw] at run
  have power := watchUp_power { s with power := { s.power with vmain := true, vhv := true } }
  obtain ⟨a, b⟩ := watchUp_selftest { s with power := { s.power with vmain := true, vhv := true } }
  refine ⟨_, run, ?_, ?_, ?_, ?_, a, b, fun h => watchUp_wakes h, watchUp_leaves _⟩
  · exact (congrArg Power.vmain power :)
  · exact (congrArg Power.vhv power :)
  · exact (congrArg Power.watchOn power :)
  · exact (congrArg Power.forgeOn power :)

theorem vmainGood_held (hr : s.power.modResetHeld = true) :
    Gives .vmainGood s fun t => t = { s with power := { s.power with vmain := true, vhv := true } } :=
  ⟨_, vmainGood_runs hm hf, startUp_held (.inr hr)⟩

end

theorem schedHalt_idles (r : Nat) (s : State) :
    (schedHalt r s).apart = s.apart ∧ (schedHalt r s).sched.state = .idle ∧ (schedHalt r s).batches = s.batches := by
  unfold schedHalt
  split
  · next h => exact ⟨rfl, h, rfl⟩
  · exact ⟨schedToIdle_apart r s, (congrArg Sched.state (raiseEv_sched _ _ _) :), raiseEv_batches _ _ _⟩

theorem vmainLost_flushes (hm : s.power.vmain = true) (hw : s.power.watchOn = true) (hf : s.power.flush ≠ 2) :
    Gives .vmainLost s fun t =>
      t.apart = { s with power := { s.power with vmain := false, flush := 1 } }.apart ∧ t.sched.state = .idle
        ∧ t.batches = s.batches := by
  have run : exec .vmainLost s = .next (schedHalt 5 (raiseEv 0x085 []
      { s with power := { s.power with vmain := false, flush := if s.power.flush = 2 then 2 else 1 } })) :=
    congrArg Host.Outcome.next ((if_neg (by simp [hm])).trans (if_neg (by simp [hw])))
  rw [if_neg hf] at run
  obtain ⟨apart, idle, batches⟩ := schedHalt_idles 5 (raiseEv 0x085 []
    { s with power := { s.power with vmain := false, flush := 1 } })
  exact ⟨_, run, apart.trans (raiseEv_apart _ _ _), idle, batches.trans (raiseEv_batches _ _ _)⟩

/-! ### The end of the flush -/

/-- The state whose Watch domain goes off at the end of a flush. -/
def State.flushed (s : State) : State := dropRing (flushAudit (breakTransition s))

theorem flushAudit_frame (s : State) : ∃ a, flushAudit s = { s with audit := a } := by
  unfold flushAudit
  extract_lets all
  split
  · exact ⟨s.audit, rfl⟩
  · exact ⟨_, rfl⟩

theorem State.flushed_frame (s : State) : ∃ l a, s.flushed = { s with life := l, audit := a } := by
  unfold State.flushed
  obtain ⟨l, broken, -⟩ := breakTransition_life s
  rw [broken]
  obtain ⟨a, flush⟩ := flushAudit_frame { s with life := l }
  rw [flush]
  exact ⟨l, _, rfl⟩

theorem flushAudit_kept (h : s.boot.firmware = true) : (flushAudit s).audit.hasFlush = true
    ∧ (flushAudit s).audit.flushed = lastOf 16384
        (s.audit.ring ++ s.audit.buffer.filter fun r => decide (s.audit.released < r.seq)) := by
  simp [flushAudit, h]

theorem flushAudit_off (h : s.boot.firmware = false) : flushAudit s = s := by
  unfold flushAudit
  exact if_pos (by simp [h])

theorem flushAudit_hasFlush (s : State) : (flushAudit s).audit.hasFlush = (s.boot.firmware || s.audit.hasFlush) := by
  cases h : s.boot.firmware with
  | true => exact (flushAudit_kept h).1
  | false => rw [flushAudit_off h, Bool.false_or]

theorem State.flushed_kept (h : s.boot.firmware = true) : s.flushed.audit.hasFlush = true
    ∧ s.flushed.audit.flushed = lastOf 16384
        (s.audit.ring ++ s.audit.buffer.filter fun r => decide (s.audit.released < r.seq)) := by
  unfold State.flushed
  obtain ⟨l, broken, -⟩ := breakTransition_life s
  rw [broken]
  exact flushAudit_kept (s := { s with life := l }) h

theorem State.flushed_stands (h : s.boot.firmware = false) : s.flushed.audit.hasFlush = s.audit.hasFlush
    ∧ s.flushed.audit.flushed = s.audit.flushed := by
  unfold State.flushed
  obtain ⟨l, broken, -⟩ := breakTransition_life s
  rw [broken, flushAudit_off (s := { s with life := l }) h]
  exact ⟨rfl, rfl⟩

/-- The loss of the Forge leaves the calendar, the fabric, the elements, the detectors and the audit ring. -/
theorem forgeLost_leaves (s : State) : (forgeLost s).audit = s.audit ∧ (forgeLost s).time = s.time
    ∧ (forgeLost s).active = s.active ∧ (forgeLost s).dets = s.dets ∧ (forgeLost s).elems = s.elems
    ∧ (forgeLost s).power = { s.power with forgeOn := false, pciePathOn := false, pcie := .down } := by
  obtain ⟨banks, stopped⟩ := proofStop_frame s
  unfold forgeLost forgeOff
  simp [stopped]

theorem vmainFlushDone_ends (h : s.power.flush = 1) :
    Gives .vmainFlushDone s fun t =>
      t.power.watchOn = false ∧ t.power.forgeOn = false ∧ t.power.flush = 0
        ∧ (s.boot.firmware = true → t.audit.hasFlush = true
            ∧ t.audit.flushed = lastOf 16384
                (s.audit.ring ++ s.audit.buffer.filter fun r => decide (s.audit.released < r.seq)))
        ∧ (s.boot.firmware = false → t.audit.hasFlush = s.audit.hasFlush ∧ t.audit.flushed = s.audit.flushed)
        ∧ t.audit.ring = [] ∧ t.audit.buffer = [] ∧ t.sessions = [] ∧ t.batches = [] ∧ t.ddr = []
        ∧ t.time = s.time ∧ t.active = s.active ∧ (∀ d, t.det d = restDet (s.det d))
        ∧ (∀ e, (t.elem e).mode = .parked ∧ (t.elem e).code = 0) := by
  obtain ⟨l, a, frame⟩ := s.flushed_frame
  obtain ⟨o, n, first, last, off⟩ := startOff_records s.flushed.audit
  obtain ⟨audit, time, active, dets, elems, power⟩ := forgeLost_leaves (watchDown s.flushed)
  rw [watchDown_audit, off] at audit
  have flushed : s.flushed.time = s.time ∧ s.flushed.active = s.active ∧ s.flushed.dets = s.dets := by
    rw [frame]
    exact ⟨rfl, rfl, rfl⟩
  have run : exec .vmainFlushDone s = .next { forgeLost (watchDown s.flushed) with
      power := { (forgeLost (watchDown s.flushed)).power with flush := 0 } } :=
    congrArg Host.Outcome.next (if_neg (not_not.2 h))
  refine ⟨_, run, (congrArg Power.watchOn power).trans rfl, (congrArg Power.forgeOn power).trans rfl, rfl,
    fun on => ?_, fun off => ?_, (congrArg Audit.ring audit :), (congrArg Audit.buffer audit :), rfl, rfl, rfl,
    time.trans ((watchDown_keeps _).2.1.trans flushed.1), active.trans ((watchDown_active _).trans flushed.2.1),
    fun d => ?_, fun e => ?_⟩
  · obtain ⟨kept, records⟩ := State.flushed_kept on
    exact ⟨(congrArg Audit.hasFlush audit).trans kept, (congrArg Audit.flushed audit).trans records⟩
  · obtain ⟨kept, records⟩ := State.flushed_stands off
    exact ⟨(congrArg Audit.hasFlush audit).trans kept, (congrArg Audit.flushed audit).trans records⟩
  · exact (congrArg (fun m : SMap Det => mapGet m d {}) dets).trans ((watchDown_det _ d).trans
      (congrArg (fun m : SMap Det => restDet (mapGet m d {})) flushed.2.2))
  · exact ⟨(congrArg (fun m : SMap Elem => (mapGet m e {}).mode) elems).trans (watchDown_elem_mode _ e),
      (congrArg (fun m : SMap Elem => (mapGet m e {}).code) elems).trans (watchDown_elem_code _ e)⟩

end

/-! ### MOD_RESET_N (R452) -/

section
variable {s : State}

theorem modResetAssert_flushes (ha : s.power.vaux = true) (hl : s.power.modResetLow = false) (hf : s.power.flush ≠ 2)
    (hm : s.power.vmain = true) :
    Gives .modResetAssert s fun t =>
      t = { s with power := { s.power with
        modResetLow := true, resetCause := orBit s.power.resetCause 1, flush := 2 } } :=
  ⟨_, congrArg Host.Outcome.next ((if_neg (by simp [ha, hl])).trans ((if_neg hf).trans (if_pos hm))), rfl⟩

theorem modResetFlushDone_holds (hf : s.power.flush = 2) (hl : s.power.modResetLow = true) :
    Gives .modResetFlushDone s fun t =>
      t.power.watchOn = false ∧ t.power.forgeOn = false ∧ t.power.modResetHeld = true
        ∧ t.audit.hasFlush = (s.boot.firmware || s.audit.hasFlush)
        ∧ t.sessions = [] ∧ t.elems = [] ∧ t.time.running = false := by
  obtain ⟨l, broken, -⟩ := breakTransition_life (flushAudit s)
  obtain ⟨a, flush⟩ := flushAudit_frame s
  have low : (moduleReset (flushAudit s)).power.modResetLow = true := by
    unfold moduleReset
    rw [broken, flush]
    exact hl
  have held : Gives .modResetFlushDone s fun t => t = { moduleReset (flushAudit s) with
      power := { (moduleReset (flushAudit s)).power with modResetHeld := true } } := by
    refine ⟨_, congrArg Host.Outcome.next ((if_neg (not_not.2 hf)).trans (startUp_held (.inr low))), ?_⟩
    rw [low]
  obtain ⟨t, run, rfl⟩ := held
  refine ⟨_, run, rfl, rfl, rfl, ?_, rfl, rfl, rfl⟩
  rw [← flushAudit_hasFlush]
  unfold moduleReset
  rw [broken]
  rfl

theorem modResetRelease_starts (hl : s.power.modResetLow = true) (hw : s.power.watchOn = false)
    (ha : s.power.vaux = true) (hm : s.power.vmain = true) (ht : s.thermal.trip = false) :
    Gives .modResetRelease s fun t => t.power.modResetLow = false ∧ t.power.modResetHeld = false
      ∧ t.power.watchOn = true ∧ t.power.forgeOn = true := by
  have run : exec .modResetRelease s = .next (startUp
      { s with power := { s.power with modResetLow := false, modResetHeld := false } }) :=
    congrArg Host.Outcome.next (if_neg (by simp [hl]))
  rw [startUp_starts (s := { s with power := { s.power with modResetLow := false, modResetHeld := false } })
    ha hm rfl ht hw] at run
  have power := watchUp_power { s with power := { s.power with modResetLow := false, modResetHeld := false } }
  refine ⟨_, run, ?_, ?_, ?_, ?_⟩
  · exact (congrArg Power.modResetLow power :)
  · exact (congrArg Power.modResetHeld power :)
  · exact (congrArg Power.watchOn power :)
  · exact (congrArg Power.forgeOn power :)

end

end Sys2Proof.Machine
end

section
open Sys2Proof Sys2Proof.Machine

/-- Settles O13: what goes off leaves its rest state, what a restart keeps stands in `cold`, and the Watch starts where
`startUp` finds its conditions. -/
theorem suppliesAndReset : Obligations.SuppliesAndReset :=
  ⟨fun _ _ _ ha hm => vauxGood_starts ha hm, fun _ _ h => vauxLost_stops h,
    fun _ hm hf ha hr ht hw => vmainGood_starts hm hf ha hr ht hw, fun _ hm hf hr => vmainGood_held hm hf hr,
    fun _ hm hw hf => vmainLost_flushes hm hw hf, fun _ h => vmainFlushDone_ends h,
    fun _ ha hl hf hm => modResetAssert_flushes ha hl hf hm, fun _ hf hl => modResetFlushDone_holds hf hl,
    fun _ hl hw ha hm ht => modResetRelease_starts hl hw ha hm ht⟩

end


/-! SUPPORT. Period boundaries (R20, R236): the work of a boundary leaves the clock as its boundary set it, and the
clock moves to the first multiple of a transit period at which a whole period has elapsed. -/
section
namespace Sys2Proof.Machine

/-! ### What the work of a period leaves of the clock -/

@[simp] theorem forEach_time {α : Type} {f : α → State → State} (h : ∀ x t, (f x t).time = t.time) (l : List α)
    (s : State) : (forEach f l s).time = s.time := forEach_keeps f State.time h l s

@[simp] theorem State.time_ite (c : Prop) [Decidable c] (s t : State) :
    (if c then s else t).time = if c then s.time else t.time := apply_ite State.time c s t

/-! ### The modulators and the read-backs (R189 to R216) -/

@[simp] theorem auxWindow_time (a : Nat) (s : State) : (auxWindow a s).time = s.time := by
  unfold auxWindow
  simp

@[simp] theorem readWindow_time (was : Nat) (e : Nat) (s : State) : (readWindow was e s).time = s.time := by
  unfold readWindow
  simp

@[simp] theorem readWindows_time (was : Nat) (s : State) : (readWindows was s).time = s.time := by
  unfold readWindows
  simp

@[simp] theorem auxEdges_time (n : Nat) (a : Nat) (s : State) : (auxEdges n a s).time = s.time := by
  unfold auxEdges
  simp

@[simp] theorem resetErrors_time (e : Nat) (s : State) : (resetErrors e s).time = s.time := rfl

@[simp] theorem chanEdges_time (n : Nat) (glitch : Bool) (e : Nat) (s : State) :
    (chanEdges n glitch e s).time = s.time := by
  unfold chanEdges
  simp

@[simp] theorem runModulators_time (was : Nat) (s : State) : (runModulators was s).time = s.time := by
  unfold runModulators
  simp

/-! ### The heartbeats (R291) -/

@[simp] theorem linkSuspect_time (s : State) : (linkSuspect s).time = s.time := by
  unfold linkSuspect
  simp

@[simp] theorem takeBeat_time (l : List BeatReport) (transit : Bool) (peer : Nat) (v : Anvil) (s : State) :
    (takeBeat l transit peer v s).time = s.time := rfl

@[simp] theorem compareSigns_time (s : State) : (compareSigns s).time = s.time := rfl

@[simp] theorem takeBeats_time (l : List BeatReport) (transit : Bool) (s : State) :
    (takeBeats l transit s).time = s.time := by
  unfold takeBeats
  simp

@[simp] theorem applyTransit_time (miss : Bool) (s : State) : (applyTransit miss s).time = s.time := rfl

/-! ### Faults and memory errors (R142, R364) -/

@[simp] theorem enterFault_time (e : Nat) (bit_ : Nat) (s : State) : (enterFault e bit_ s).time = s.time :=
  (congrArg State.time (enterFault_apart _ _ _) :)

@[simp] theorem resettle_time (id : Nat) (s : State) : (resettle id s).time = s.time := by
  unfold resettle
  simp

@[simp] theorem queueTarget_time (e : Nat) (t : Nat) (set : Option Nat) (s : State) :
    (queueTarget e t set s).time = s.time := (congrArg State.time (queueTarget_plant _ _ _ _) :)

@[simp] theorem discardOffset_time (e : Nat) (s : State) : (discardOffset e s).time = s.time := by
  unfold discardOffset
  simp

@[simp] theorem lostTable_time (u : SramUser) (s : State) : (lostTable u s).time = s.time := by
  unfold lostTable
  split <;> simp

@[simp] theorem lostWord_time (b : Nat) (master : Nat) (word : Nat) (s : State) :
    (lostWord b master word s).time = s.time := by
  unfold lostWord
  simp

@[simp] theorem correctWord_time (b : Nat) (master : Nat) (word : Nat) (s : State) :
    (correctWord b master word s).time = s.time := by
  unfold correctWord
  simp

@[simp] theorem privateError_time (r : SramErr) (s : State) : (privateError r s).time = s.time := by
  unfold privateError
  simp

/-! ### Samples and settling (R134, R196) -/

@[simp] theorem takeValue_time (l : List (Nat × Nat)) (e : Nat) (s : State) : (takeValue l e s).time = s.time := by
  unfold takeValue
  simp only
  split <;> simp

@[simp] theorem takeTransit_time (l : List (Nat × Nat)) (s : State) : (takeTransit l s).time = s.time := by
  unfold takeTransit
  simp

@[simp] theorem endReserve_time (e : Nat) (s : State) : (endReserve e s).time = s.time := by
  unfold endReserve
  simp

@[simp] theorem releaseNotch_time (e : Nat) (s : State) : (releaseNotch e s).time = s.time := by
  unfold releaseNotch
  split <;> simp

@[simp] theorem settleLegState_time (id : Nat) (s : State) : (settleLegState id s).time = s.time :=
  (congrArg State.time (settleLegState_apart _ _) :)

@[simp] theorem tryQualify_time (id : Nat) (s : State) : (tryQualify id s).time = s.time :=
  (congrArg State.time (tryQualify_plant _ _) :)

@[simp] theorem closeSettled_time (s : State) : (closeSettled s).time = s.time :=
  (congrArg State.time (closeSettled_apart _) :)

@[simp] theorem elemSettled_time (e : Nat) (s : State) : (elemSettled e s).time = s.time := by
  unfold elemSettled
  simp

@[simp] theorem settleElem_time (e : Nat) (s : State) : (settleElem e s).time = s.time := by
  unfold settleElem
  simp

@[simp] theorem dropRates_time (units : Nat) (was : Nat) (s : State) : (dropRates units was s).time = s.time := by
  unfold dropRates
  simp

@[simp] theorem leaveFallback_time (e : Nat) (s : State) : (leaveFallback e s).time = s.time := by
  unfold leaveFallback
  simp

@[simp] theorem thaw_time (e : Nat) (s : State) : (thaw e s).time = s.time := by
  unfold thaw
  simp

/-! ### Lanes and updates (R145, R153) -/

@[simp] theorem takeLane_time (r : LaneReport) (s : State) : (takeLane r s).time = s.time := by
  unfold takeLane
  simp

@[simp] theorem laneClean_time (l : List LaneReport) (v : Anvil) (n : Nat) (s : State) :
    (laneClean l v n s).time = s.time := by
  unfold laneClean
  simp

@[simp] theorem takeLanes_time (transit : Bool) (l : List LaneReport) (s : State) :
    (takeLanes transit l s).time = s.time := by
  unfold takeLanes
  simp

@[simp] theorem selectCode_time (bad : List (Anvil × Nat × Nat)) (v : Anvil) (e : Nat) (c : Nat) (s : State) :
    (selectCode bad v e c s).time = s.time := (congrArg State.time (selectCode_plant _ _ _ _ _) :)

@[simp] theorem State.putLoop_time (s : State) (e : Nat) (l : LoopSt) : (s.putLoop e l).time = s.time := by
  unfold State.putLoop
  split <;> simp

@[simp] theorem updateNow_time (bad : List (Anvil × Nat × Nat)) (v : Anvil) (e : Nat) (s : State) :
    (updateNow bad v e s).time = s.time := by
  unfold updateNow
  simp

@[simp] theorem handIfWaiting_time (transit : Bool) (e : Nat) (s : State) :
    (handIfWaiting transit e s).time = s.time := (congrArg State.time (handIfWaiting_plant _ _ _) :)

@[simp] theorem runElem_time (bad : List (Anvil × Nat × Nat)) (late : List Nat) (transit : Bool) (v : Anvil) (e : Nat)
    (s : State) :
    (runElem bad late transit v e s).time = s.time := by
  unfold runElem
  simp

@[simp] theorem runLoops_time (bad : List (Anvil × Nat × Nat)) (late : List Nat) (transit : Bool) (es : List Nat)
    (s : State) :
    (runLoops bad late transit es s).time = s.time := by
  unfold runLoops
  split <;> simp

/-! ### Elements that come back (R143, R144) -/

@[simp] theorem enterTransit_time (e : Nat) (target : Nat) (held : Nat) (s : State) :
    (enterTransit e target held s).time = s.time := (congrArg State.time (enterTransit_plant _ _ _ _) :)

@[simp] theorem comeBack_time (e : Nat) (s : State) : (comeBack e s).time = s.time := by
  unfold comeBack
  simp

@[simp] theorem askReroute_time (legs : List Nat) (s : State) : (askReroute legs s).time = s.time :=
  (congrArg State.time (askReroute_apart _ _) :)

@[simp] theorem retryReroute_time (s : State) : (retryReroute s).time = s.time := by
  unfold retryReroute
  simp

@[simp] theorem auxRamp_time (a : Nat) (s : State) : (auxRamp a s).time = s.time := by
  unfold auxRamp
  simp

@[simp] theorem transitWork_time (inp : PeriodInput) (was : Nat) (s : State) :
    (transitWork inp was s).time = s.time := by
  unfold transitWork
  simp

/-! ### The read-backs of a hold period (R199 to R202) -/

@[simp] theorem auxReadBack_time (l : List (Nat × Nat)) (a : Nat) (s : State) :
    (auxReadBack l a s).time = s.time := by
  unfold auxReadBack
  simp only
  split <;> simp

@[simp] theorem readBack_time (l : List (Nat × Nat)) (e : Nat) (s : State) : (readBack l e s).time = s.time := by
  unfold readBack
  simp only
  split <;> simp

/-! ### What a hold period measures (R166, R202) -/

@[simp] theorem countMatched_time (s : State) : (countMatched s).time = s.time := rfl

@[simp] theorem issueUpdate_time (id : Nat) (u : Nat × Int × Bool) (s : State) :
    (issueUpdate id u s).time = s.time := by
  unfold issueUpdate
  simp

@[simp] theorem issueSlot_time (slot : Nat) (s : State) : (issueSlot slot s).time = s.time := by
  unfold issueSlot
  simp

@[simp] theorem windowHold_time (ok : Bool) (id : Nat) (s : State) : (windowHold ok id s).time = s.time := by
  unfold windowHold
  simp

@[simp] theorem buoyHold_time (c : Nat) (s : State) : (buoyHold c s).time = s.time := by
  unfold buoyHold
  simp

@[simp] theorem detHold_time (d : Nat) (s : State) : (detHold d s).time = s.time := rfl

@[simp] theorem measureHold_time (ok : Bool) (s : State) : (measureHold ok s).time = s.time := by
  unfold measureHold
  dsimp only
  rw [forEach_time detHold_time, forEach_time buoyHold_time]
  exact forEach_time (fun (p : Nat × Slot) t => windowHold_time ok p.1 t) _ _

@[simp] theorem countTrim_time (s : State) : (countTrim s).time = s.time := rfl

@[simp] theorem takeHold_time (s : State) : (takeHold s).time = s.time := by
  unfold takeHold
  simp

@[simp] theorem applyHold_time (miss : Bool) (s : State) : (applyHold miss s).time = s.time := rfl

@[simp] theorem takeCarriers_time (l : List (Nat × Nat)) (s : State) : (takeCarriers l s).time = s.time := by
  unfold takeCarriers
  simp

/-! ### Mode changes and targets (R130, R137 to R139) -/

@[simp] theorem enterHold_time (m : EMode) (target : Nat) (e : Nat) (s : State) :
    (enterHold m target e s).time = s.time := rfl

@[simp] theorem changeMode_time (e : Nat) (s : State) : (changeMode e s).time = s.time := by
  unfold changeMode
  extract_lets x u trim
  have asked : u.time = s.time := s.setElem_time _ _
  clear_value trim u x
  split
  · exact asked
  · refine Eq.trans ?_ asked
    split
    · simp
    · rfl
    · simp
    · split <;> simp

@[simp] theorem takeLimits_time (e : Nat) (s : State) : (takeLimits e s).time = s.time := by
  unfold takeLimits
  simp

@[simp] theorem takeTarget_time (e : Nat) (s : State) : (takeTarget e s).time = s.time := by
  unfold takeTarget
  extract_lets x early due l x1
  split
  · rfl
  · split
    · exact s.setElem_time _ _
    · clear_value l
      cases l <;> exact s.setElem_time _ _

@[simp] theorem openDrive_time (e : Nat) (s : State) : (openDrive e s).time = s.time := by
  unfold openDrive
  simp

@[simp] theorem handFailover_time (es : List Nat) (s : State) : (handFailover es s).time = s.time := by
  unfold handFailover
  simp

@[simp] theorem runIntoTrim_time (bad : List (Anvil × Nat × Nat)) (v : Anvil) (e : Nat) (s : State) :
    (runIntoTrim bad v e s).time = s.time := by
  unfold runIntoTrim
  simp

@[simp] theorem runHold_time (inp : PeriodInput) (s : State) : (runHold inp s).time = s.time := by
  unfold runHold
  split <;> simp

@[simp] theorem auxJump_time (a : Nat) (s : State) : (auxJump a s).time = s.time := by
  unfold auxJump
  simp

@[simp] theorem takeAux_time (a : Nat) (s : State) : (takeAux a s).time = s.time := by
  unfold takeAux
  simp only
  split
  · simp
  · split <;> simp

/-! ### The arbiter of the Anvils (R289 to R301) -/

@[simp] theorem anvilEvent_time (src : Nat) (v : Anvil) (cause : Nat) (s : State) :
    (anvilEvent src v cause s).time = s.time := by
  unfold anvilEvent
  simp

@[simp] theorem changeState_time (k : KState) (cause : Nat) (s : State) : (changeState k cause s).time = s.time := by
  unfold changeState
  simp

@[simp] theorem exchange_time (cause : Nat) (s : State) : (exchange cause s).time = s.time := by
  unfold exchange
  split <;> simp

@[simp] theorem releaseForge_time (s : State) : (releaseForge s).time = s.time := rfl

@[simp] theorem cancelRevert_time (s : State) : (cancelRevert s).time = s.time := rfl

@[simp] theorem startRebuild_time (v : Anvil) (s : State) : (startRebuild v s).time = s.time := by
  unfold startRebuild
  simp

@[simp] theorem rebuildIfWaiting_time (v : Anvil) (s : State) : (rebuildIfWaiting v s).time = s.time := by
  unfold rebuildIfWaiting
  simp

@[simp] theorem removeAnvil_time (v : Anvil) (s : State) : (removeAnvil v s).time = s.time := by
  unfold removeAnvil
  simp

@[simp] theorem swapIfAsked_time (s : State) : (swapIfAsked s).time = s.time := by
  unfold swapIfAsked
  split
  · extract_lets rm s1
    clear_value rm
    cases rm
    · exact exchange_time _ _
    · exact (removeAnvil_time _ _).trans (exchange_time _ _)
  · rfl

@[simp] theorem enterResync_time (v : Anvil) (s : State) : (enterResync v s).time = s.time := by
  unfold enterResync
  simp

@[simp] theorem resyncStart_time (v : Anvil) (s : State) : (resyncStart v s).time = s.time := by
  unfold resyncStart
  simp

@[simp] theorem holdWork_time (inp : PeriodInput) (stretched : Bool) (slot : Nat) (was : Nat) (s : State) :
    (holdWork inp stretched slot was s).time = s.time := by
  unfold holdWork
  simp

/-! ### Calibration (R316 to R326) -/

@[simp] theorem freeElem_time (e : Nat) (s : State) : (freeElem e s).time = s.time := by
  unfold freeElem
  simp

@[simp] theorem freeNext_time (s : State) : (freeNext s).time = s.time := by
  unfold freeNext
  split <;> simp

@[simp] theorem endSubst_time (s : State) : (endSubst s).time = s.time := by
  unfold endSubst
  simp

@[simp] theorem hkcNext_time (n : Nat) (at_ : Nat) (s : State) : (hkcNext n at_ s).time = s.time := by
  unfold hkcNext
  extract_lets h entry
  split
  · rfl
  · split
    · exact s.setHkc_time _ _
    · cases h.inject with
      | some c => exact s.setHkc_time _ _
      | none =>
        cases h.seqPos with
        | some k => exact s.setHkc_time _ _
        | none => simp

@[simp] theorem hkcGive_time (n : Nat) (s : State) : (hkcGive n s).time = s.time := by
  unfold hkcGive
  simp

@[simp] theorem calRecord_time (type_ : Nat) (result : Nat) (slot : Nat) (reason : Nat) (seq : Nat) (unit : Nat)
    (s : State) :
    (calRecord type_ result slot reason seq unit s).time = s.time :=
  (congrArg State.time (calRecord_base _ _ _ _ _ _ _) :)

@[simp] theorem setResult_time (type_ : Nat) (result : Nat) (reason : Nat) (s : State) :
    (setResult type_ result reason s).time = s.time := rfl

@[simp] theorem startStore_time (r : CalRunSt) (s : State) : (startStore r s).time = s.time := rfl

@[simp] theorem nextClear_time (s : State) : (nextClear s).time = s.time := by
  unfold nextClear
  split <;> simp

@[simp] theorem endRun_time (r : CalRunSt) (result : Nat) (slot : Nat) (reason : Nat) (seq : Nat) (s : State) :
    (endRun r result slot reason seq s).time = s.time := by
  unfold endRun
  simp

@[simp] theorem abortRun_time (r : CalRunSt) (reason : Nat) (unit : Nat) (s : State) :
    (abortRun r reason unit s).time = s.time := by
  unfold abortRun
  simp

@[simp] theorem countPlan_time (ns : Nat) (s : State) : (countPlan ns s).time = s.time :=
  (congrArg State.time (countPlan_apart ns s) :)

@[simp] theorem replyBatch_time (b : Batch) (st : Nat) (s : State) : (replyBatch b st s).time = s.time :=
  (congrArg State.time (replyBatch_apart _ _ _) :)

@[simp] theorem replanFrom_time (must : Batch → Bool) (s : State) : (replanFrom must s).time = s.time :=
  (congrArg State.time (replanFrom_apart _ _) :)

@[simp] theorem replanStale_time (s : State) : (replanStale s).time = s.time := by
  unfold replanStale
  simp

@[simp] theorem State.putBatch_time (s : State) (b : Batch) : (s.putBatch b).time = s.time := rfl

@[simp] theorem placeBatch_time (b : Batch) (s : State) : (placeBatch b s).time = s.time := by
  unfold placeBatch
  simp

@[simp] theorem submitMoves_time (b : Batch) (gen : Nat) (ns : Nat) (basis : Cfg) (m : Moves) (s : State) :
    (submitMoves b gen ns basis m s).time = s.time := by
  unfold submitMoves
  simp

@[simp] theorem moveAway_time (r : CalRunSt) (planNs : Nat) (s : State) : (moveAway r planNs s).time = s.time := by
  unfold moveAway
  simp only
  split
  · simp
  · split <;> simp

@[simp] theorem beginMeasure_time (r : CalRunSt) (s : State) : (beginMeasure r s).time = s.time := by
  unfold beginMeasure
  simp

@[simp] theorem sweepTo_time (t : Nat → Nat) (e : Nat) (s : State) : (sweepTo t e s).time = s.time := by
  unfold sweepTo
  simp

@[simp] theorem sweepBack_time (us : List Nat) (s : State) : (sweepBack us s).time = s.time := by
  unfold sweepBack
  simp

@[simp] theorem sweepStep_time (r : CalRunSt) (k : Nat) (s : State) : (sweepStep r k s).time = s.time := by
  unfold sweepStep
  simp

@[simp] theorem substStep_time (k : Nat) (s : State) : (substStep k s).time = s.time := by
  unfold substStep
  simp only
  split
  · simp
  · split <;> simp

@[simp] theorem measureStep_time (r : CalRunSt) (s : State) : (measureStep r s).time = s.time := by
  unfold measureStep
  simp

@[simp] theorem calTick_time (s : State) : (calTick s).time = s.time := by
  unfold calTick
  extract_lets s1
  have freed : s1.time = s.time := by simp [s1]
  clear_value s1
  split
  · exact freed
  · split
    · exact freed
    · split
      · exact (abortRun_time _ _ _ _).trans freed
      · rw [← freed]
        simp

/-! ### Trim (R163 to R177) -/

@[simp] theorem refreshCauses_time (clear : Bool) (id : Nat) (s : State) :
    (refreshCauses clear id s).time = s.time := by
  unfold refreshCauses
  simp

@[simp] theorem refreshAllCauses_time (clear : Bool) (s : State) : (refreshAllCauses clear s).time = s.time := by
  unfold refreshAllCauses
  simp

@[simp] theorem measureShares_time (g : Nat) (s : State) : (measureShares g s).time = s.time := by
  unfold measureShares
  split
  · rfl
  · split
    · exact forEach_time (fun (q : Nat × F64) t => t.setLeg_time _ _) _ _
    · rfl

@[simp] theorem endRuns_time (id : Nat) (s : State) : (endRuns id s).time = s.time := by
  unfold endRuns
  simp

@[simp] theorem measureLoss_time (id : Nat) (s : State) : (measureLoss id s).time = s.time := by
  unfold measureLoss
  split <;> simp

@[simp] theorem closeWindow_time (id : Nat) (rank : Nat) (s : State) : (closeWindow id rank s).time = s.time := by
  unfold closeWindow
  simp

@[simp] theorem closeWindows_time (rank : Nat) (l : List Nat) (s : State) :
    (closeWindows rank l s).time = s.time := by
  induction l generalizing rank s with
  | nil => rfl
  | cons id rest ih => exact (ih _ _).trans (closeWindow_time id rank s)

@[simp] theorem refreshPort_time (p : Nat) (s : State) : (refreshPort p s).time = s.time :=
  (congrArg State.time (refreshPort_plant _ _) :)

@[simp] theorem equalise_time (id : Nat) (s : State) : (equalise id s).time = s.time := by
  unfold equalise
  simp only
  split
  · simp
  · split <;> simp

@[simp] theorem balanceElem_time (p : List (Nat × F64)) (e : Nat) (s : State) :
    (balanceElem p e s).time = s.time := by
  unfold balanceElem
  simp only
  split <;> simp

@[simp] theorem balanceGroup_time (g : Nat) (s : State) : (balanceGroup g s).time = s.time := by
  unfold balanceGroup
  split <;> simp

@[simp] theorem dropOffset_time (e : Nat) (s : State) : (dropOffset e s).time = s.time :=
  (congrArg State.time (dropOffset_plant _ _) :)

@[simp] theorem enterTrim_time (e : Nat) (s : State) : (enterTrim e s).time = s.time := by
  unfold enterTrim
  simp

@[simp] theorem trimMove_time (id : Nat) (s : State) : (trimMove id s).time = s.time := by
  unfold trimMove
  simp only
  split <;> simp

@[simp] theorem trimStep_time (s : State) : (trimStep s).time = s.time := by
  unfold trimStep
  simp

/-! ### The clock (R20, R236) -/

/-- Where the next transit boundary takes engine time: the first multiple of the period at which a whole period has
elapsed. -/
def State.boundaryNext (s : State) : Instant :=
  if s.time.elapsed + (s.nextBoundary - s.now) < s.time.transitStart + transitUnits then s.nextBoundary + transitUnits
  else s.nextBoundary

/-- A clock at a transit boundary: it reads `count`, after `ticks`, `elapsed` since it started. -/
def TimeSt.movedTo (c : TimeSt) (count ticks elapsed : Nat) : TimeSt :=
  { c with
    count := count, ticks := ticks, elapsed := elapsed, transitStart := elapsed
    slackT := c.slackT + (elapsed - c.transitStart - transitUnits) }

/-- The clock at the next transit boundary. -/
def State.clockNext (s : State) : TimeSt :=
  s.time.movedTo (s.boundaryNext * 65536) (s.tickTo s.boundaryNext) (s.time.elapsed + (s.boundaryNext - s.now))

theorem advance_eq (s : State) : advance s = { s with time := s.clockNext } := rfl

theorem State.now_lt_nextBoundary (s : State) : s.now < s.nextBoundary := by
  unfold State.nextBoundary
  rw [Nat.mul_comm]
  exact Nat.lt_mul_div_succ s.now (by decide)

theorem State.boundaryNext_multiple (s : State) : s.boundaryNext % transitUnits = 0 := by
  unfold State.boundaryNext State.nextBoundary
  split
  · rw [Nat.add_mod_right, Nat.mul_mod_left]
  · exact Nat.mul_mod_left _ _

theorem State.now_lt_boundaryNext (s : State) : s.now < s.boundaryNext := by
  unfold State.boundaryNext
  split
  · exact Nat.lt_add_right _ s.now_lt_nextBoundary
  · exact s.now_lt_nextBoundary

/-- At the next boundary a whole transit period has elapsed. -/
theorem State.boundaryNext_whole {s : State} (h : s.time.transitStart ≤ s.time.elapsed) :
    s.time.transitStart + transitUnits ≤ s.time.elapsed + (s.boundaryNext - s.now) := by
  have ahead := Nat.succ_le_of_lt s.now_lt_nextBoundary
  unfold State.boundaryNext
  split
  · omega
  · omega

/-! ### TRANSIT_BOUNDARY -/

/-- The state at a transit boundary before its work: the clock has moved, with the frequency asked for. -/
def State.boundary (s : State) : State := takeFreq (stopBeacons (advance s))

theorem boundary_of_advance {s : State} {c : TimeSt} (h : advance s = { s with time := c }) :
    ∃ b, s.boundary = { s with time := { c with freqNow := c.freqNext }, beacons := b } := by
  unfold State.boundary
  rw [h]
  exact ⟨_, rfl⟩

theorem transitBoundary_eq (inp : PeriodInput) (s : State) : exec (.transitBoundary inp) s =
    .next (if !s.time.running then s else noteIdle (noteDefer
      (if (takeFreq (applyDue (fun _ => true) (stopBeacons (advance s)))).power.watchOn
        then transitWork inp s.time.transitStart (takeFreq (applyDue (fun _ => true) (stopBeacons (advance s))))
        else takeFreq (applyDue (fun _ => true) (stopBeacons (advance s)))))) := rfl

theorem applyDue_empty {blocks : Block → Bool} {s : State} (h : s.live = []) : applyDue blocks s = s :=
  applyDue_none fun w hw => by
    rw [h] at hw
    exact absurd hw List.not_mem_nil

theorem stopBeacons_live (s : State) : (stopBeacons s).live = s.live := rfl

theorem State.live_of_time {s t : State} {c : TimeSt} (h : t = { s with time := c }) : t.live = s.live := by
  rw [h]

theorem transitBoundary_runs {inp : PeriodInput} {s : State} (hr : s.time.running = true) (hl : s.live = []) :
    exec (.transitBoundary inp) s = .next (noteIdle (noteDefer (if s.boundary.power.watchOn
      then transitWork inp s.time.transitStart s.boundary else s.boundary))) := by
  have still : (stopBeacons (advance s)).live = [] := by rw [stopBeacons_live, State.live_of_time (advance_eq s), hl]
  rw [transitBoundary_eq, applyDue_empty still, ← State.boundary, if_neg (by simp [hr])]

/-- A step that waits is noted as deferred; nothing else of the clock changes. -/
theorem noteDefer_same (s : State) :
    ∃ d i, Same { s with time := { s.time with deferred := d, deferSince := i } } (noteDefer s) := by
  have stays : ∃ d i, Same { s with time := { s.time with deferred := d, deferSince := i } } s :=
    ⟨s.time.deferred, s.time.deferSince, rfl, SessionsStill.of_eq rfl⟩
  unfold noteDefer
  split
  · exact stays
  · split
    · exact ⟨true, s.time.elapsed, raiseEv_same _ _ _⟩
    · exact stays

theorem noteIdle_same (s : State) : Same s (noteIdle s) := by
  unfold noteIdle
  split
  · exact ⟨rfl, SessionsStill.of_eq rfl⟩
  · exact ⟨rfl, SessionsStill.of_eq rfl⟩

theorem noted_same (s : State) :
    ∃ d i, Same { s with time := { s.time with deferred := d, deferSince := i } } (noteIdle (noteDefer s)) := by
  obtain ⟨d, i, same⟩ := noteDefer_same s
  exact ⟨d, i, same.trans (noteIdle_same _)⟩

/-- What the clock of a state reads that a transit boundary has moved to `c`. -/
structure Moved (c : TimeSt) (t : State) : Prop where
  count : t.time.count = c.count
  start : t.time.transitStart = c.transitStart
  elapsed : t.time.elapsed = c.elapsed
  freq : t.time.freqNow = c.freqNext
  quality : t.time.quality = c.quality
  req : t.time.req = c.req
  hold : t.time.holdStart = c.holdStart
  slack : t.time.slackT = c.slackT

theorem Moved.of_time {c : TimeSt} {t : State} {d : Bool} {i : Nat}
    (h : t.time = { c with freqNow := c.freqNext, deferred := d, deferSince := i }) : Moved c t := by
  constructor <;> rw [h]

theorem transitBoundary_moved {inp : PeriodInput} {s : State} {c : TimeSt} (hr : s.time.running = true)
    (hl : s.live = []) (hc : advance s = { s with time := c }) :
    Gives (.transitBoundary inp) s fun t => Moved c t
      ∧ (s.power.watchOn = false → Same { s with time := t.time, beacons := t.beacons } t) := by
  have run := transitBoundary_runs (inp := inp) hr hl
  obtain ⟨b, boundary⟩ := boundary_of_advance hc
  rw [boundary] at run
  cases hw : s.power.watchOn with
  | true =>
    rw [if_pos hw] at run
    obtain ⟨d, i, same⟩ := noted_same (transitWork inp s.time.transitStart
      { s with time := { c with freqNow := c.freqNext }, beacons := b })
    have clock := (congrArg State.time same.1 :)
    simp only [State.base, transitWork_time] at clock
    exact ⟨_, run, Moved.of_time clock, fun c => nomatch c⟩
  | false =>
    rw [if_neg (Bool.eq_false_iff.1 hw)] at run
    obtain ⟨d, i, base, still⟩ := noted_same { s with time := { c with freqNow := c.freqNext }, beacons := b }
    have clock := (congrArg State.time base :)
    have beacons := (congrArg State.beacons base :)
    simp only [State.base] at clock beacons
    refine ⟨_, run, Moved.of_time clock, fun _ => ⟨?_, still⟩⟩
    rw [clock, beacons, base]

section
variable {c : TimeSt} {count ticks elapsed : Nat} {t : State} (h : Moved (c.movedTo count ticks elapsed) t)
include h

theorem Moved.reads : t.time.count = count ∧ t.time.transitStart = elapsed ∧ t.time.elapsed = elapsed
    ∧ t.time.slackT = c.slackT + (elapsed - c.transitStart - transitUnits) :=
  ⟨h.count, h.start, h.elapsed, h.slack⟩

theorem Moved.keeps : t.time.freqNow = c.freqNext ∧ t.time.quality = c.quality ∧ t.time.req = c.req
    ∧ t.time.holdStart = c.holdStart := ⟨h.freq, h.quality, h.req, h.hold⟩

end

theorem transitBoundary_moves {inp : PeriodInput} {s : State} (hr : s.time.running = true) (hl : s.live = [])
    (h : s.time.transitStart ≤ s.time.elapsed) :
    Gives (.transitBoundary inp) s fun t =>
      t.now % transitUnits = 0 ∧ t.time.count % 65536 = 0 ∧ t.time.transitStart = t.time.elapsed
        ∧ s.now < t.now ∧ t.time.elapsed = s.time.elapsed + (t.now - s.now)
        ∧ s.time.transitStart + transitUnits ≤ t.time.transitStart ∧ t.time.freqNow = s.time.freqNext
        ∧ t.time.quality = s.time.quality ∧ t.time.req = s.time.req ∧ t.time.holdStart = s.time.holdStart
        ∧ t.time.slackT = s.time.slackT + (t.time.elapsed - s.time.transitStart - transitUnits)
        ∧ (s.power.watchOn = false → Same { s with time := t.time, beacons := t.beacons } t) := by
  obtain ⟨t, run, moved, off⟩ := transitBoundary_moved (inp := inp) hr hl (advance_eq s)
  obtain ⟨count, start, elapsed, slack⟩ := moved.reads
  obtain ⟨freq, quality, req, hold⟩ := moved.keeps
  have now : t.now = s.boundaryNext := by
    rw [State.now, count]
    exact Nat.mul_div_left _ (by decide)
  refine ⟨t, run, ?_⟩
  beta_reduce
  rw [now, count, start, elapsed, slack]
  exact ⟨s.boundaryNext_multiple, Nat.mul_mod_left _ _, rfl, s.now_lt_boundaryNext, rfl, State.boundaryNext_whole h,
    freq, quality, req, hold, rfl, off⟩

/-! ### HOLD_BOUNDARY and TRIM_BOUNDARY -/

/-- The clock of a new hold period is of the clock alone. -/
theorem nextHold_time_congr {s t : State} (h : t.time = s.time) : (nextHold t).time = (nextHold s).time := by
  unfold nextHold State.now
  rw [h]

theorem watchHold_time (inp : PeriodInput) (s : State) : (watchHold inp s).time = (nextHold s).time := by
  unfold watchHold
  dsimp only
  rw [holdWork_time]
  exact nextHold_time_congr ((forEach_time (auxReadBack_time _) _ _).trans (forEach_time (readBack_time _) _ _))

theorem holdBoundary_begins {inp : PeriodInput} {s : State} (h : s.holdDue = true) :
    Gives (.holdBoundary inp) s fun t =>
      t.time = { s.time with
          holdStart := s.time.elapsed, holdNo := s.now / holdUnits
          slackH := s.time.slackH + (s.time.elapsed - s.time.holdStart - holdUnits) }
        ∧ (s.power.watchOn = false → t = { s with time := t.time }) := by
  have run : exec (.holdBoundary inp) s = .next (if s.power.watchOn then calTick (watchHold inp s) else nextHold s) :=
    congrArg Host.Outcome.next (if_neg (by simp [h]))
  cases hw : s.power.watchOn with
  | true =>
    rw [hw, if_pos rfl] at run
    exact ⟨_, run, (calTick_time _).trans (watchHold_time inp s), fun c => nomatch c⟩
  | false =>
    rw [hw, if_neg Bool.false_ne_true] at run
    exact ⟨_, run, rfl, fun _ => rfl⟩

theorem trimBoundary_begins {s : State} (h : s.trimDue = true) :
    Gives .trimBoundary s fun t =>
      t.time = { s.time with trimStart := s.time.elapsed, trimNo := s.now / trimUnits }
        ∧ (s.power.watchOn = false → t = { s with time := t.time }) := by
  have run : exec .trimBoundary s = .next (if s.power.watchOn
      then trimStep { s with time := { s.time with trimStart := s.time.elapsed, trimNo := s.now / trimUnits } }
      else { s with time := { s.time with trimStart := s.time.elapsed, trimNo := s.now / trimUnits } }) :=
    congrArg Host.Outcome.next (if_neg (by simp [h]))
  cases hw : s.power.watchOn with
  | true =>
    rw [hw, if_pos rfl] at run
    exact ⟨_, run, trimStep_time _, fun c => nomatch c⟩
  | false =>
    rw [hw, if_neg Bool.false_ne_true] at run
    exact ⟨_, run, rfl, fun _ => rfl⟩

end Sys2Proof.Machine
end

section
open Sys2Proof Sys2Proof.Machine

/-- Settles O24: a boundary sets the clock, and the work of its period leaves it so. -/
theorem periodBoundaries : Obligations.PeriodBoundaries :=
  ⟨fun _ _ hr hl h => transitBoundary_moves hr hl h, fun _ _ h => holdBoundary_begins h,
    fun _ h => trimBoundary_begins h⟩

end


/-! SUPPORT. Port detectors (R48, R49, R96, R162 to R164): what the causes of suspension, a converter's samples and the
recording of a light crossing leave. -/
section
namespace Sys2Proof.Machine

/-! ### Changes of the legs' own state alone -/

theorem auditAt_same (at_ : Instant) (fl ty : Nat) (p : List Byte) (s : State) : Same s (auditAt at_ fl ty p s) :=
  ⟨auditAt_base _ _ _ _ _, auditAt_still _ _ _ _ _⟩

theorem State.det_of_dets {s t : State} (h : t.dets = s.dets) (b : Nat) : t.det b = s.det b := by
  unfold State.det
  rw [h]

/-- `t` is `s` but for the legs' own state, events and records. -/
def LegsOnly (s t : State) : Prop := Same { s with legs := t.legs } t

section
variable {s t u : State}

theorem LegsOnly.refl (s : State) : LegsOnly s s := ⟨rfl, SessionsStill.refl s⟩

theorem LegsOnly.trans (h : LegsOnly s t) (k : LegsOnly t u) : LegsOnly s u :=
  ⟨k.1.trans (congrArg (fun b : State => { b with legs := u.legs }) h.1), SessionsStill.trans h.2 k.2⟩

theorem LegsOnly.of_eq (h : t = { s with legs := t.legs }) : LegsOnly s t :=
  ⟨congrArg State.base h, SessionsStill.of_eq (congrArg State.sessions h)⟩

theorem LegsOnly.of_same (h : Same s t) : LegsOnly s t := by
  have hl : t.legs = s.legs := (congrArg State.legs h.1 :)
  unfold LegsOnly
  rw [hl]
  exact h

theorem LegsOnly.forEach {α : Type} {f : α → State → State} (h : ∀ x t, LegsOnly t (f x t)) (l : List α) (s : State) :
    LegsOnly s (forEach f l s) :=
  forEach_invariant f (LegsOnly s) (fun x t ht => ht.trans (h x t)) l s (LegsOnly.refl s)

theorem LegsOnly.dets (h : LegsOnly s t) : t.dets = s.dets := (congrArg State.dets h.1 :)

theorem LegsOnly.elems (h : LegsOnly s t) : t.elems = s.elems := (congrArg State.elems h.1 :)

theorem LegsOnly.ports (h : LegsOnly s t) : t.ports = s.ports := (congrArg State.ports h.1 :)

end

theorem setLeg_legsOnly (id : Nat) (l : LegSt) (s : State) : LegsOnly s (s.setLeg id l) := LegsOnly.of_eq rfl

theorem tryQualify_legsOnly (id : Nat) (s : State) : LegsOnly s (tryQualify id s) := by
  unfold tryQualify
  extract_lets l
  split
  · exact setLeg_legsOnly _ _ _
  · exact LegsOnly.refl s

theorem bidirEval_legsOnly (first : Bool) (id : Nat) (s : State) : LegsOnly s (bidirEval first id s) := by
  unfold bidirEval
  extract_lets l ok s1
  have h1 : LegsOnly s s1 := setLeg_legsOnly _ _ _
  have raised (src : Nat) (p : List Byte) : LegsOnly s (raiseEv src p s1) :=
    h1.trans (LegsOnly.of_same (raiseEv_same _ _ _))
  split
  · exact LegsOnly.refl s
  · split
    · split
      · exact LegsOnly.refl s
      · split
        · exact h1
        · exact raised _ _
    · split
      · exact h1
      · exact raised _ _

theorem refreshCauses_eq (clear : Bool) (id : Nat) (s : State) :
    refreshCauses clear id s = { s with legs := (refreshCauses clear id s).legs } := by
  unfold refreshCauses
  extract_lets l c
  split
  · rfl
  · split <;> rfl

theorem forEach_refreshCauses_eq (clear : Bool) (ids : List Nat) (s : State) :
    forEach (refreshCauses clear) ids s = { s with legs := (forEach (refreshCauses clear) ids s).legs } :=
  forEach_invariant (refreshCauses clear) (fun t => t = { s with legs := t.legs })
    (fun id t ht => (refreshCauses_eq clear id t).trans
      (congrArg (fun u : State => { u with legs := (refreshCauses clear id t).legs }) ht)) ids s rfl

theorem refreshCauses_legsOnly (clear : Bool) (id : Nat) (s : State) : LegsOnly s (refreshCauses clear id s) :=
  LegsOnly.of_eq (refreshCauses_eq clear id s)

/-! ### Samples (R162, R163) -/

/-- A detector after a sample taken at `now`, the first of its period or a later one. -/
def Det.sampled (first : Bool) (now code : Nat) (v : Det) : Det :=
  { v with
    samples := (if first then [] else v.samples) ++ [code]
    below := if below195 code then (match v.below with | none => some now | b => b) else none
    overpower := v.overpower || decide (code = 4095) }

/-- `t` is `s` but for the detectors, the legs' own state, events and records. -/
def SamplesOnly (s t : State) : Prop := Same { s with dets := t.dets, legs := t.legs } t

section
variable {s t u : State}

theorem SamplesOnly.refl (s : State) : SamplesOnly s s := ⟨rfl, SessionsStill.refl s⟩

theorem SamplesOnly.trans (h : SamplesOnly s t) (k : SamplesOnly t u) : SamplesOnly s u :=
  ⟨k.1.trans (congrArg (fun b : State => { b with dets := u.dets, legs := u.legs }) h.1), SessionsStill.trans h.2 k.2⟩

theorem SamplesOnly.time (h : SamplesOnly s t) : t.time = s.time := (congrArg State.time h.1 :)

theorem SamplesOnly.of_legsOnly {d : Nat} {v : Det} (h : LegsOnly (s.setDet d v) t) : SamplesOnly s t := by
  unfold SamplesOnly
  rw [h.dets]
  exact h

end

/-- A sample changes its detector, and no other. -/
theorem sampleDet_sets (first : Bool) (d code : Nat) (s : State) :
    LegsOnly (s.setDet d ((s.det d).sampled first s.time.elapsed code)) (sampleDet first d code s) := by
  unfold sampleDet
  extract_lets v v1 s1 s2
  split
  · next h =>
    have ho : (v.overpower || decide (code = 4095)) = true := by rw [decide_eq_true h.1, Bool.or_true]
    have hs : (s.det d).sampled first s.time.elapsed code = { v1 with overpower := true } :=
      congrArg (fun o => { v1 with overpower := o }) ho
    rw [hs]
    exact (LegsOnly.of_same (raiseEv_same _ _ _)).trans (LegsOnly.forEach (refreshCauses_legsOnly false) _ _)
  · next h =>
    have ho : (v.overpower || decide (code = 4095)) = v.overpower := by
      cases hv : v.overpower with
      | true => rfl
      | false => simpa [hv] using h
    have hs : (s.det d).sampled first s.time.elapsed code = v1 :=
      congrArg (fun o => { v1 with overpower := o }) ho
    rw [hs]
    exact LegsOnly.refl _

theorem sampleDet_samplesOnly (first : Bool) (d code : Nat) (s : State) : SamplesOnly s (sampleDet first d code s) :=
  SamplesOnly.of_legsOnly (sampleDet_sets first d code s)

theorem sampleDet_det (first : Bool) (d code b : Nat) (s : State) :
    (sampleDet first d code s).det b = if b = d then (s.det d).sampled first s.time.elapsed code else s.det b :=
  (State.det_of_dets (sampleDet_sets first d code s).dets b).trans (State.det_setDet _ _ _ _)

theorem sampleAll_samplesOnly (first : Bool) (codes : List Nat) :
    ∀ (d : Nat) (s : State), SamplesOnly s (sampleAll first d codes s) := by
  induction codes with
  | nil => exact fun _ s => SamplesOnly.refl s
  | cons c rest ih => exact fun d s => (sampleDet_samplesOnly first d (c % 4096) s).trans (ih (d + 1) _)

theorem sampleAll_det_out (first : Bool) (codes : List Nat) :
    ∀ (d b : Nat) (s : State), (b < d ∨ d + codes.length ≤ b) → (sampleAll first d codes s).det b = s.det b := by
  induction codes with
  | nil => exact fun _ _ _ _ => rfl
  | cons c rest ih =>
    intro d b s h
    rw [List.length_cons] at h
    rw [sampleAll, ih (d + 1) b _ (by omega), sampleDet_det, if_neg (by omega)]

theorem sampleAll_det (first : Bool) (codes : List Nat) :
    ∀ (d k : Nat) (s : State), k < codes.length → (sampleAll first d codes s).det (d + k) =
      (s.det (d + k)).sampled first s.time.elapsed (codes.getD k 0 % 4096) := by
  induction codes with
  | nil => exact fun _ k _ h => absurd h (Nat.not_lt_zero k)
  | cons c rest ih =>
    intro d k s h
    rw [sampleAll]
    cases k with
    | zero => rw [sampleAll_det_out first rest _ _ _ (by omega), sampleDet_det, if_pos (Nat.add_zero d)]; rfl
    | succ k =>
      have hd : d + (k + 1) = d + 1 + k := by omega
      rw [hd, ih (d + 1) k _ (Nat.lt_of_succ_lt_succ h), (sampleDet_samplesOnly first d (c % 4096) s).time, sampleDet_det,
        if_neg (by omega), List.getD_cons_succ]

theorem buoySample_samples {c i : Nat} {codes : List Nat} {s : State} (hw : s.power.watchOn = true) (hc : c < 128)
    (hi : i < 10) (hl : codes.length = 32) :
    Gives (.buoySample c i codes) s fun t =>
      Same { s with dets := t.dets, legs := t.legs } t
        ∧ (∀ k, k < 32 →
            (t.det (32 * c + k)).samples =
                (if i = 0 then [] else (s.det (32 * c + k)).samples) ++ [codes.getD k 0 % 4096]
              ∧ (t.det (32 * c + k)).overpower =
                  ((s.det (32 * c + k)).overpower || decide (codes.getD k 0 % 4096 = 4095))
              ∧ (t.det (32 * c + k)).lit = (s.det (32 * c + k)).lit)
        ∧ ∀ d, (d < 32 * c ∨ 32 * c + 32 ≤ d) → t.det d = s.det d := by
  have run : exec (.buoySample c i codes) s = .next (sampleAll (decide (i = 0)) (32 * c) codes s) := by
    refine congrArg Host.Outcome.next ((if_pos ⟨hw, hc, hi⟩).trans ?_)
    rw [List.take_of_length_le (Nat.le_of_eq hl)]
  refine ⟨_, run, sampleAll_samplesOnly _ _ _ _, fun k hk => ?_, fun d hd => sampleAll_det_out _ _ _ _ _ (hl ▸ hd)⟩
  rw [sampleAll_det _ _ _ _ _ (hl ▸ hk)]
  exact ⟨by simp [Det.sampled], rfl, rfl⟩

theorem overpowerClear_clears {d at_ : Nat} {s : State} (hw : s.power.watchOn = true)
    (ho : (s.det d).overpower = true) (hb : (s.det d).below = some at_)
    (ht : at_ + 1000000 * 65536 ≤ s.time.elapsed) :
    Gives (.overpowerClear d) s fun t =>
      t = { s with dets := t.dets, legs := t.legs } ∧ t.det d = { s.det d with overpower := false }
        ∧ ∀ b, b ≠ d → t.det b = s.det b := by
  let s1 := s.setDet d { s.det d with overpower := false }
  have run : exec (.overpowerClear d) s = .next (forEach (refreshCauses true) (s1.active.legsAtDet d) s1) := by
    show execOverpowerClear d s = _
    refine congrArg Host.Outcome.next ?_
    extract_lets v
    split
    · next e => exact absurd (hb.symm.trans e) (nofun)
    · next t e =>
      obtain rfl : at_ = t := Option.some.inj (hb.symm.trans e)
      exact if_pos ⟨hw, ho, ht⟩
  have h := forEach_refreshCauses_eq true (s1.active.legsAtDet d) s1
  have hd (b : Nat) : (forEach (refreshCauses true) (s1.active.legsAtDet d) s1).det b
      = if b = d then { s.det d with overpower := false } else s.det b :=
    (congrArg (fun t : State => t.det b) h).trans (State.det_setDet _ _ _ _)
  refine ⟨_, run, ?_, (hd d).trans (if_pos rfl), fun b hb => (hd b).trans (if_neg hb)⟩
  rw [(congrArg State.dets h :)]
  exact h

/-! ### What follows a light event (R73, R173) -/

/-- `t` is `s` but for the elements, the legs' own state, the ports without their counts of light events, events
and records. -/
def TrimOnly (s t : State) : Prop :=
  Same { s with elems := t.elems, legs := t.legs, ports := t.ports } t
    ∧ ∀ p, (t.port p).lightEvents = (s.port p).lightEvents

section
variable {s t u : State}

theorem TrimOnly.refl (s : State) : TrimOnly s s := ⟨⟨rfl, SessionsStill.refl s⟩, fun _ => rfl⟩

theorem TrimOnly.trans (h : TrimOnly s t) (k : TrimOnly t u) : TrimOnly s u :=
  ⟨⟨k.1.1.trans (congrArg (fun b : State => { b with elems := u.elems, legs := u.legs, ports := u.ports }) h.1.1),
    SessionsStill.trans h.1.2 k.1.2⟩, fun p => (k.2 p).trans (h.2 p)⟩

theorem TrimOnly.forEach {α : Type} {f : α → State → State} (h : ∀ x t, TrimOnly t (f x t)) (l : List α) (s : State) :
    TrimOnly s (forEach f l s) :=
  forEach_invariant f (TrimOnly s) (fun x t ht => ht.trans (h x t)) l s (TrimOnly.refl s)

theorem TrimOnly.of_legsOnly (h : LegsOnly s t) : TrimOnly s t := by
  refine ⟨?_, fun p => by unfold State.port; rw [h.ports]⟩
  rw [h.elems, h.ports]
  exact h

theorem TrimOnly.dets (h : TrimOnly s t) : t.dets = s.dets := (congrArg State.dets h.1.1 :)

theorem TrimOnly.batches (h : TrimOnly s t) : t.batches = s.batches := (congrArg State.batches h.1.1 :)

theorem TrimOnly.still (h : TrimOnly s t) : SessionsStill s t :=
  SessionsStill.trans (t := { s with elems := t.elems, legs := t.legs, ports := t.ports }) (SessionsStill.of_eq rfl) h.1.2

theorem TrimOnly.det (h : TrimOnly s t) (b : Nat) : t.det b = s.det b := State.det_of_dets h.dets b

end

theorem setElem_trimOnly (e : Nat) (x : Elem) (s : State) : TrimOnly s (s.setElem e x) :=
  ⟨⟨rfl, SessionsStill.refl s⟩, fun _ => rfl⟩

theorem queueTarget_trimOnly (e v : Nat) (set : Option Nat) (s : State) : TrimOnly s (queueTarget e v set s) := by
  unfold queueTarget
  extract_lets x
  split
  · exact TrimOnly.refl s
  · exact setElem_trimOnly _ _ _

theorem refreshPort_trimOnly (p : Nat) (s : State) : TrimOnly s (refreshPort p s) := by
  unfold refreshPort
  extract_lets e
  split
  · exact queueTarget_trimOnly _ _ _ _
  · exact TrimOnly.refl s

theorem dropOffset_trimOnly (e : Nat) (s : State) : TrimOnly s (dropOffset e s) := by
  unfold dropOffset
  extract_lets x s1
  have h1 : TrimOnly s s1 := setElem_trimOnly _ _ _
  split
  · exact TrimOnly.refl s
  · split
    · exact h1.trans (queueTarget_trimOnly _ _ _ _)
    · exact h1

theorem resetAtten_trimOnly (p : Nat) (s : State) : TrimOnly s (s.setPort p { s.port p with atten := none }) := by
  refine ⟨⟨rfl, SessionsStill.refl s⟩, fun q => ?_⟩
  rw [State.port_setPort]
  split
  · next hq => rw [hq]
  · rfl

theorem trimOffPath_trimOnly (x : Slot) (s : State) : TrimOnly s (trimOffPath x s) := by
  unfold trimOffPath
  extract_lets s1 p
  have h1 : TrimOnly s s1 := TrimOnly.forEach dropOffset_trimOnly _ s
  have h2 : TrimOnly s1 (s1.setPort p { s1.port p with atten := none }) := resetAtten_trimOnly p s1
  exact (h1.trans h2).trans (refreshPort_trimOnly p _)

theorem trimOff_trimOnly (id : Nat) (s : State) : TrimOnly s (trimOff id s) := by
  unfold trimOff
  split
  · exact TrimOnly.refl s
  · exact (TrimOnly.of_legsOnly (setLeg_legsOnly _ _ _)).trans (trimOffPath_trimOnly _ _)

/-- Only a dark outbound detector takes trim from a leg: what follows any other event changes legs alone. -/
theorem lightEffects_legsOnly {d : Nat} {on : Bool} (h : on = true ∨ d % 2 ≠ 1) (s : State) :
    LegsOnly s (lightEffects d on s) := by
  unfold lightEffects
  extract_lets p ids
  split
  · next hd =>
    obtain rfl : on = true := h.resolve_right (not_not_intro hd)
    split
    · exact LegsOnly.refl s
    · split
      · exact LegsOnly.refl s
      · exact tryQualify_legsOnly _ _
  · exact LegsOnly.forEach (bidirEval_legsOnly false) _ _

theorem lightEffects_trimOnly (d : Nat) (on : Bool) (s : State) : TrimOnly s (lightEffects d on s) := by
  by_cases h : on = true ∨ d % 2 ≠ 1
  · exact TrimOnly.of_legsOnly (lightEffects_legsOnly h s)
  · obtain ⟨hon, hd⟩ := not_or.mp h
    unfold lightEffects
    extract_lets p ids
    rw [if_pos (not_not.mp hd)]
    split
    · exact TrimOnly.refl s
    · split
      · exact TrimOnly.refl s
      · exact trimOff_trimOnly _ _

/-! ### Recording a crossing (R48, R96) -/

/-- What the recording of a crossing at `time` sets: the comparator's state, its port's count and the light times
of batches. -/
def State.crossed (s : State) (d : Nat) (on : Bool) (flags : Nat) (time : Instant) : State :=
  { (s.setDet d { s.det d with lit := on }).setPort (d / 2)
      { s.port (d / 2) with lightEvents := ((s.port (d / 2)).lightEvents + 1) % 4294967296 } with
    batches := if d % 2 = 1 ∧ 1024 ≤ d / 2 ∧ !flags.testBit 1
      then s.batches.map (lightTime (d / 2 - 1024) on time) else s.batches }

/-- A crossing's recording is what it sets, its event and its record, and then its effects. -/
theorem recordLight_eq (d : Nat) (on : Bool) (flags : Nat) (capture time : Instant) (s : State) :
    ∃ u, Same (s.crossed d on flags time) u ∧ recordLight d on flags capture time s = lightEffects d on u := by
  unfold recordLight
  extract_lets p _ s1 _ s2 s3 s4 s5
  have h3 : Same s2 s3 := raiseAt_same _ _ _ _ _
  have h4 : Same s2 s4 := h3.trans (auditAt_same _ _ _ _ _)
  refine ⟨s5, ?_, rfl⟩
  unfold State.crossed
  simp only [s5]
  split
  · exact ⟨congrArg (fun b : State => { b with batches := b.batches.map (lightTime (p - 1024) on time) }) h4.1, h4.2⟩
  · exact h4

theorem recordLight_trimOnly (d : Nat) (on : Bool) (flags : Nat) (capture time : Instant) (s : State) :
    TrimOnly (s.crossed d on flags time) (recordLight d on flags capture time s) := by
  obtain ⟨u, h, run⟩ := recordLight_eq d on flags capture time s
  rw [run]
  exact (TrimOnly.of_legsOnly (LegsOnly.of_same h)).trans (lightEffects_trimOnly d on u)

theorem recordLight_on_elems (d flags : Nat) (capture time : Instant) (s : State) :
    (recordLight d true flags capture time s).elems = s.elems := by
  obtain ⟨u, h, run⟩ := recordLight_eq d true flags capture time s
  rw [run, (lightEffects_legsOnly (.inl rfl) u).elems, (LegsOnly.of_same h).elems]
  rfl

theorem State.crossed_det (s : State) (d : Nat) (on : Bool) (flags : Nat) (time : Instant) (b : Nat) :
    (s.crossed d on flags time).det b = if b = d then { s.det d with lit := on } else s.det b :=
  State.det_setDet s d { s.det d with lit := on } b

theorem State.crossed_port (s : State) (d : Nat) (on : Bool) (flags : Nat) (time : Instant) :
    (s.crossed d on flags time).port (d / 2) =
      { s.port (d / 2) with lightEvents := ((s.port (d / 2)).lightEvents + 1) % 4294967296 } :=
  mapGet_mapSet_self s.ports (d / 2) _ {}

section
variable {d : Nat} {on : Bool} {flags : Nat} {time : Instant} {s t : State}
  (h : TrimOnly (s.crossed d on flags time) t)
include h

theorem TrimOnly.crossed_apart : t.apart = { s with dets := t.dets, ports := t.ports, elems := t.elems }.apart := by
  rw [h.dets, State.apart_of_base h.1.1]
  unfold State.apart State.base State.crossed State.setPort State.setDet
  rfl

theorem TrimOnly.crossed_still : SessionsStill s t :=
  (SessionsStill.of_eq (s := s) (t := s.crossed d on flags time) rfl).trans h.still

theorem TrimOnly.crossed_det (b : Nat) : t.det b = if b = d then { s.det d with lit := on } else s.det b :=
  (h.det b).trans (s.crossed_det d on flags time b)

theorem TrimOnly.crossed_lightEvents :
    (t.port (d / 2)).lightEvents = ((s.port (d / 2)).lightEvents + 1) % 4294967296 :=
  (h.2 (d / 2)).trans (congrArg Port.lightEvents (s.crossed_port d on flags time))

theorem TrimOnly.crossed_batches : t.batches = if d % 2 = 1 ∧ 1024 ≤ d / 2 ∧ !flags.testBit 1
    then s.batches.map (lightTime (d / 2 - 1024) on time) else s.batches := h.batches

end

/-! ### The commands -/

/-- A capture whose latch is empty is not late (R49). -/
theorem capture_of_latch_nil {d : Nat} {s : State} (cap : Instant) (h : (s.det d).latch = []) :
    (s.capture d cap).1 = cap := by
  simp [State.capture, h]

/-- The flag of a late capture is not that of a changed threshold. -/
theorem testBit_bit_one (b : Bool) : (bit b).testBit 1 = false := by cases b <;> rfl

theorem crossing_trimOnly (d : Nat) (on : Bool) (cap : Instant) (s : State) :
    TrimOnly ((s.setDet d { s.det d with latch := (s.capture d cap).2.2 }).crossed d on (bit (s.capture d cap).2.1)
      (endFace d (s.capture d cap).1)) (crossing d on cap s) := recordLight_trimOnly _ _ _ _ _ _

theorem crossing_on_elems (d : Nat) (cap : Instant) (s : State) : (crossing d true cap s).elems = s.elems := by
  unfold crossing
  exact (recordLight_on_elems _ _ _ _ _).trans (State.setDet_elems _ _ _)

theorem crossing_apart (d : Nat) (on : Bool) (cap : Instant) (s : State) : (crossing d on cap s).apart =
    { s with
      dets := (crossing d on cap s).dets
      ports := (crossing d on cap s).ports
      elems := (crossing d on cap s).elems }.apart := (crossing_trimOnly d on cap s).crossed_apart

theorem crossing_on_apart (d : Nat) (cap : Instant) (s : State) : (crossing d true cap s).apart =
    { s with dets := (crossing d true cap s).dets, ports := (crossing d true cap s).ports }.apart := by
  have h := crossing_apart d true cap s
  rw [crossing_on_elems] at h
  exact h

theorem crossing_det (d : Nat) (on : Bool) (cap : Instant) (s : State) (b : Nat) : (crossing d on cap s).det b =
    if b = d then { s.det d with lit := on, latch := (s.capture d cap).2.2 } else s.det b := by
  rw [(crossing_trimOnly d on cap s).crossed_det b]
  by_cases hb : b = d <;> simp [hb]

/-- What a crossing found by a comparator records, in either direction. -/
theorem crossing_records (d : Nat) (on : Bool) (cap : Instant) (s : State) :
    SessionsStill s (crossing d on cap s)
      ∧ (crossing d on cap s).det d = { s.det d with lit := on, latch := (s.capture d cap).2.2 }
      ∧ ((crossing d on cap s).port (d / 2)).lightEvents = ((s.port (d / 2)).lightEvents + 1) % 4294967296
      ∧ (d % 2 = 1 → 2048 ≤ d → (crossing d on cap s).batches =
          s.batches.map (lightTime (d / 2 - 1024) on (endFace d (s.capture d cap).1)))
      ∧ ∀ b, b ≠ d → (crossing d on cap s).det b = s.det b := by
  have h := crossing_trimOnly d on cap s
  refine ⟨h.crossed_still, (crossing_det d on cap s d).trans (if_pos rfl), h.crossed_lightEvents,
    fun ho hd => h.crossed_batches.trans (if_pos ⟨ho, ?_, ?_⟩), fun b hb => (crossing_det d on cap s b).trans (if_neg hb)⟩
  · omega
  · rw [testBit_bit_one, Bool.not_false]

section
variable {d : Nat} {s : State}

theorem lightOn_crosses (cap : Instant) (ha : s.power.vaux = true) (hd : d < 4096) (hl : (s.det d).lit = false) :
    exec (.lightOn d cap) s = .next (crossing d true cap s) :=
  congrArg Host.Outcome.next (if_pos ⟨ha, hd, by rw [hl, Bool.not_false]⟩)

theorem lightOff_crosses (cap : Instant) (ha : s.power.vaux = true) (hd : d < 4096) (hl : (s.det d).lit = true) :
    exec (.lightOff d cap) s = .next (crossing d false cap s) :=
  congrArg Host.Outcome.next (if_pos ⟨ha, hd, hl⟩)

theorem thresholdChangeCrossing_records (ha : s.power.vaux = true) (hd : d < 4096) (ht : s.atTransit = true)
    (hv : (s.det d).threshAt = some s.time.elapsed) :
    Gives (.thresholdChangeCrossing d) s fun t =>
      t.apart = { s with dets := t.dets, ports := t.ports, elems := t.elems }.apart
        ∧ t.det d = { s.det d with lit := !(s.det d).lit, threshAt := none }
        ∧ (t.port (d / 2)).lightEvents = ((s.port (d / 2)).lightEvents + 1) % 4294967296
        ∧ t.batches = s.batches := by
  let s1 := s.setDet d { s.det d with threshAt := none }
  have run : exec (.thresholdChangeCrossing d) s = .next (recordLight d (!(s.det d).lit) 2 s.now s.now s1) :=
    congrArg Host.Outcome.next (if_pos ⟨ha, hd, ht, hv⟩)
  have h : TrimOnly (s1.crossed d (!(s.det d).lit) 2 s.now) _ := recordLight_trimOnly d _ 2 s.now s.now s1
  refine ⟨_, run, h.crossed_apart, ?_, h.crossed_lightEvents,
    h.crossed_batches.trans (if_neg fun c => Bool.false_ne_true c.2.2)⟩
  rw [h.crossed_det, if_pos rfl, State.det_setDet, if_pos rfl]

end

end Sys2Proof.Machine
end

section
open Sys2Proof Sys2Proof.Machine

/-- Settles O9: a sample by its converter's codes in order, a crossing by what its recording sets and what its effects on
trim and on circuits leave. -/
theorem lightDetection : Obligations.LightDetection :=
  ⟨fun _ _ _ _ hw hc hi hl => buoySample_samples hw hc hi hl, fun _ _ _ hw ho hb ht => overpowerClear_clears hw ho hb ht,
    fun d cap s ha hd hl => ⟨_, lightOn_crosses cap ha hd hl, crossing_on_apart d cap s, crossing_records d true cap s⟩,
    fun d cap s ha hd hl => ⟨_, lightOff_crosses cap ha hd hl, crossing_apart d false cap s, crossing_records d false cap s⟩,
    fun _ cap _ h => capture_of_latch_nil cap h,
    fun _ _ ha hd ht hv => thresholdChangeCrossing_records ha hd ht hv⟩

end

/-! SUPPORT. PLAN_QUERY (R79, R112): the plan that a query makes, and what keeping it and counting it change. -/
section
namespace Sys2Proof.Machine

/-- The plan that a query makes (R112): an active schedule's basis is the active configuration. -/
def State.queryPlan (s : State) (v : List Byte) (ns : Nat) : Plan :=
  if s.sched.state = .idle
    then makePlan s s.plannedCfg (s.generationPlus s.pendingBatches.length) (parseRecs v (v.length / 32)) ns
    else makePlan s s.active (s.generationPlus 0) (parseRecs v (v.length / 32)) ns

theorem planQuery_passed {ses ns : Nat} {v : List Byte} {s : State} (h : Passes ses 0x2000 1 v s) :
    exec (.planQuery ses v ns) s
      = .next (reply ses (s.queryPlan v ns).status (countPlan ns (keepPlan ses (s.queryPlan v ns) s))) := by
  refine (congrArg Host.Outcome.next (gated_pass h _)).trans ?_
  unfold State.queryPlan
  by_cases hi : s.sched.state = .idle <;> simp only [hi, if_true, if_false]

theorem countPlan_keepPlan_planner (ses ns : Nat) (p : Plan) (s : State) :
    (countPlan ns (keepPlan ses p s)).planner = { s.planner with
      count := (s.planner.count + 1) % 4294967296, timeMax := max s.planner.timeMax ns
      results := mapPut s.planner.results ses p } := rfl

end Sys2Proof.Machine
end

section
open Sys2Proof Sys2Proof.Machine

/-- Settles O34: past the gate the plan of R112 is kept and counted, and its status is the answer. -/
theorem planQueries : Obligations.PlanQueries := fun ses ns v s h =>
  ⟨s.queryPlan v ns, rfl, _, planQuery_passed h, does_reply _ _ s _ (SessionsStill.of_eq rfl),
    countPlan_keepPlan_planner ses ns _ s, mapGet_mapPut_self _ _ _ _, fun _ hk => mapGet_mapPut_ne _ _ _ _ _ hk⟩

end

/-! SUPPORT. What a run keeps (Safety.lean), carried through every operation of the model in the order of its files:
the bounds of the histories and the canonical form of the memories. -/
section
namespace Sys2Proof.Machine

/-- `t` keeps what holds of `s`: the bounds of the histories (R79, R101, R308, R416) and the canonical form of the
memories. -/
def Safe (s t : State) : Prop :=
  (s.historiesBounded → t.historiesBounded) ∧ (s.memoryWf → t.memoryWf)

/-- A command's next state, where there is one, keeps what holds of `s`. -/
def SafeNext (s : State) : Outcome → Prop
  | .next t => Safe s t
  | .fault _ => True
  | .refused _ => True

/-- An object's own row, where it has one, keeps what holds of `s`. -/
def SafeRow (s : State) (x : Option Outcome) : Prop := ∀ o, x = some o → SafeNext s o

variable {s₀ s t : State}

theorem Safe.refl (s : State) : Safe s s := ⟨id, id⟩

/-- An update keeps the bounds and the form by what it does to each history and memory. -/
theorem Safe.change
    {pending time ptp0 ptp1 ptpSel caps beacons forge power boot life genEpoch genCount digest d active image legs
    planner batches c nextBatch lateBatches commitCount sched cfgs elems loopsStarted lateSkips notches lanesA lanesB
    chans ladder mismatchesCleared clear aux_ dets buoys ports windowsDiscarded ampNow ampNext audit hm6 hm7 k cal
    thermal fans hkc0 hkc1 rewriting m r banks proof matrix mbx aex sessions kept spi bar2Sleep disp gate0 gate1
    queues e objs blobs regs shadowRegs live reject out freeCtr}
    (h : Safe s₀ s) (hist : s.events.history.length ≤ 65536 → e.history.length ≤ 65536)
    (closed : s.closed.length ≤ 64 → c.length ≤ 64)
    (digests : s.digests.length ≤ 64 → d.length ≤ 64)
    (kpr : s.keeper.history.length ≤ 16 → k.history.length ≤ 16)
    (mem : Memory.wf s.mem = true → Memory.wf m = true)
    (ddr : Memory.wf s.ddr = true → Memory.wf r = true) :
    Safe s₀ ⟨
      pending, time, ptp0, ptp1, ptpSel, caps, beacons, forge, power, boot, life, genEpoch, genCount, digest, d,
      active, image, legs, planner, batches, c, nextBatch, lateBatches, commitCount, sched, cfgs, elems,
      loopsStarted, lateSkips, notches, lanesA, lanesB, chans, ladder, mismatchesCleared, clear, aux_, dets, buoys,
      ports, windowsDiscarded, ampNow, ampNext, audit, hm6, hm7, k, cal, thermal, fans, hkc0, hkc1, rewriting, m, r,
      banks, proof, matrix, mbx, aex, sessions, kept, spi, bar2Sleep, disp, gate0, gate1, queues, e, objs, blobs,
      regs, shadowRegs, live, reject, out, freeCtr⟩ :=
  ⟨fun b => (h.1 b).imp hist (And.imp closed (And.imp digests kpr)), fun w => (h.2 w).imp mem ddr⟩

/-- An update that leaves alone the histories and the memories, with all of the Keeper's and the events' records. The
state is written out, so that no other field is ever compared. -/
theorem Safe.upd
    {pending time ptp0 ptp1 ptpSel caps beacons forge power boot life genEpoch genCount digest active image legs
    planner batches nextBatch lateBatches commitCount sched cfgs elems loopsStarted lateSkips notches lanesA lanesB
    chans ladder mismatchesCleared clear aux_ dets buoys ports windowsDiscarded ampNow ampNext audit hm6 hm7 cal
    thermal fans hkc0 hkc1 rewriting banks proof matrix mbx aex sessions kept spi bar2Sleep disp gate0 gate1 queues
    objs blobs regs shadowRegs live reject out freeCtr}
    (h : Safe s₀ s) : Safe s₀ ⟨
      pending, time, ptp0, ptp1, ptpSel, caps, beacons, forge, power, boot, life, genEpoch, genCount, digest,
      s.digests, active, image, legs, planner, batches, s.closed, nextBatch, lateBatches, commitCount, sched, cfgs,
      elems, loopsStarted, lateSkips, notches, lanesA, lanesB, chans, ladder, mismatchesCleared, clear, aux_, dets,
      buoys, ports, windowsDiscarded, ampNow, ampNext, audit, hm6, hm7, s.keeper, cal, thermal, fans, hkc0, hkc1,
      rewriting, s.mem, s.ddr, banks, proof, matrix, mbx, aex, sessions, kept, spi, bar2Sleep, disp, gate0, gate1,
      queues, s.events, objs, blobs, regs, shadowRegs, live, reject, out, freeCtr⟩ :=
  h

section
variable {c : Prop} [Decidable c]

theorem Safe.ite (hs : Safe s₀ s) (ht : Safe s₀ t) : Safe s₀ (if c then s else t) := by
  split
  · exact hs
  · exact ht

theorem SafeNext.ite {o p : Outcome} (ho : SafeNext s₀ o) (hp : SafeNext s₀ p) : SafeNext s₀ (if c then o else p) := by
  split
  · exact ho
  · exact hp

theorem SafeRow.ite {x y : Option Outcome} (hx : SafeRow s₀ x) (hy : SafeRow s₀ y) :
    SafeRow s₀ (if c then x else y) := by
  split
  · exact hx
  · exact hy

end

theorem SafeNext.next (h : Safe s₀ t) : SafeNext s₀ (.next t) := h

theorem SafeRow.some {o : Outcome} (h : SafeNext s₀ o) : SafeRow s₀ (some o) := fun _ e => Option.some.inj e ▸ h

theorem SafeRow.none : SafeRow s₀ none := fun _ e => nomatch e

theorem forEach_safe {α : Type} {f : α → State → State} {l : List α} (hf : ∀ x t, Safe s₀ t → Safe s₀ (f x t))
    (h : Safe s₀ s) : Safe s₀ (forEach f l s) :=
  forEach_invariant f (Safe s₀) hf l s h

/-! ### Ops -/

theorem takeFree_safe (h : Safe s₀ s) : Safe s₀ s.takeFree.2 := h.upd

/-! ### RegMap -/

theorem setReg_safe {off v : Nat} (h : Safe s₀ s) : Safe s₀ (s.setReg off v) := h.upd

/-! ### Events -/

theorem ringLink_safe {q : Nat} (h : Safe s₀ s) : Safe s₀ (ringLink q s) := .ite h.upd h

/-- A late record moves the sequence numbers behind it and takes none of them away (R416). -/
theorem bumpFrom_safe {n : Nat} (h : Safe s₀ s) : Safe s₀ (bumpFrom n s) :=
  h.change (fun b => (List.length_map (ERec.bump n)).trans_le b) id id id id id

theorem takeRecord_safe {k' q : Nat} {r : ERec} (h : Safe s₀ s) : Safe s₀ (takeRecord k' q r s) := by
  unfold takeRecord
  extract_lets _ _ _ s2
  have hs2 : Safe s₀ s2 := ringLink_safe h.upd
  exact .ite hs2.upd hs2

theorem raiseVector_safe {n : Nat} (h : Safe s₀ s) : Safe s₀ (raiseVector n s) := h.change id id id id id id

/-- A record enters the event history, which keeps its first 65,536 (R416); a record dropped raises another, one level
down. -/
theorem raiseDepth_safe {n src : Nat} {t : Instant} {flags : Nat} {payload : List Byte} (h : Safe s₀ s) :
    Safe s₀ (raiseDepth n src t flags payload s) := by
  induction n generalizing src t flags payload s with
  | zero => exact h
  | succ m ih =>
    unfold raiseDepth
    extract_lets _ k seq r s0 _ s1 s2 s3 _ _ s4
    have hs0 : Safe s₀ s0 := .ite h (bumpFrom_safe h)
    have hs1 : Safe s₀ s1 := hs0.change (fun _ => List.length_take_le _ _) id id id id id
    have hs2 : Safe s₀ s2 := .ite (raiseVector_safe hs1) hs1
    have hs3 : Safe s₀ s3 := hs2.upd
    have hs4 : Safe s₀ s4 := hs3.upd
    exact .ite h (.ite h (.ite (takeRecord_safe hs3) (.ite (ih hs4) hs4)))

theorem raiseAt_safe {src : Nat} {t : Instant} {flags : Nat} {payload : List Byte} (h : Safe s₀ s) :
    Safe s₀ (raiseAt src t flags payload s) :=
  raiseDepth_safe h

theorem raiseEv_safe {src : Nat} {payload : List Byte} (h : Safe s₀ s) : Safe s₀ (raiseEv src payload s) :=
  raiseAt_safe h

theorem raiseLimited_safe {key interval src : Nat} {payload : List Byte} (h : Safe s₀ s) :
    Safe s₀ (raiseLimited key interval src payload s) :=
  .ite h (raiseEv_safe h.upd)

theorem wakeForge_safe (h : Safe s₀ s) : Safe s₀ (wakeForge s) := .ite h.upd h.upd

theorem rejectWrite_safe {status : Nat} {w : Writer} {offset : Nat} (h : Safe s₀ s) :
    Safe s₀ (rejectWrite status w offset s) :=
  raiseEv_safe h.upd

/-! ### Audit -/

theorem ringPut_safe {r : ARec} (h : Safe s₀ s) : Safe s₀ (ringPut r s) := .ite h (.ite h.upd h.upd)

theorem moveRecords_safe {n : Nat} (h : Safe s₀ s) : Safe s₀ (moveRecords n s) := by
  induction n generalizing s with
  | zero => exact h
  | succ n ih =>
    unfold moveRecords
    split
    · exact h
    · exact .ite (ih (ringPut_safe (.ite h.upd h.upd))) h

theorem placeSigned_safe {r : ARec} (h : Safe s₀ s) : Safe s₀ (placeSigned r s) := .ite (ringPut_safe h) h.upd

theorem writeCheckpoint_safe {recs : List ARec} {n seq : Nat} {partial_ : Bool} (h : Safe s₀ s) :
    Safe s₀ (writeCheckpoint recs n seq partial_ s) := by
  unfold writeCheckpoint
  extract_lets _ _ _ _ _ _ _ s1
  have hs1 : Safe s₀ s1 := forEach_safe (fun _ _ => placeSigned_safe) h
  exact forEach_safe (fun _ _ => raiseEv_safe) hs1.upd

theorem signBlock_safe (h : Safe s₀ s) : Safe s₀ (signBlock s) := by
  unfold signBlock
  split
  · exact h
  · exact .ite h (writeCheckpoint_safe h)

theorem closeBlock_safe (h : Safe s₀ s) : Safe s₀ (closeBlock s) := by
  unfold closeBlock
  split
  · exact h
  · exact .ite (writeCheckpoint_safe h) (writeCheckpoint_safe h)

theorem closeBlocks_safe {n : Nat} (h : Safe s₀ s) : Safe s₀ (closeBlocks n s) := by
  induction n generalizing s with
  | zero => exact h
  | succ n ih => exact ih (closeBlock_safe h)

theorem closeEpoch_safe (h : Safe s₀ s) : Safe s₀ (closeEpoch s) := (closeBlocks_safe (moveRecords_safe h).upd).upd

/-- KPR_HISTORY keeps the last 16 FAILOVER records. -/
theorem buildRecord_safe {b : ABody} (h : Safe s₀ s) : Safe s₀ (buildRecord b s) := by
  unfold buildRecord
  extract_lets _ _ _ s1
  have hs1 : Safe s₀ s1 := by
    refine h.change id id id (fun k => ?_) id id
    by_cases hb : b.type_ = 9
    · simp only [hb, if_true, List.length_take_le]
    · simpa only [hb, if_false] using k
  exact .ite (wakeForge_safe hs1) hs1.upd

theorem openEpoch_safe {lost : Nat} (h : Safe s₀ s) : Safe s₀ (openEpoch lost s) := buildRecord_safe h.upd

theorem gapIfDue_safe (h : Safe s₀ s) : Safe s₀ (gapIfDue s) :=
  .ite h (.ite (raiseEv_safe (buildRecord_safe h.upd)) (.ite h (raiseEv_safe (buildRecord_safe h.upd))))

theorem turnEpoch_safe (h : Safe s₀ s) : Safe s₀ (turnEpoch s) := .ite (openEpoch_safe (closeEpoch_safe h)) h

theorem auditBody_safe {b : ABody} (h : Safe s₀ s) : Safe s₀ (auditBody b s) := by
  unfold auditBody
  refine .ite (.ite h.upd h.upd) ?_
  refine .ite h.upd ?_
  extract_lets s1
  have hs1 : Safe s₀ s1 := gapIfDue_safe (turnEpoch_safe h)
  exact .ite (buildRecord_safe hs1) hs1.upd

theorem audit_safe {type_ : Nat} {payload : List Byte} (h : Safe s₀ s) : Safe s₀ (audit type_ payload s) :=
  auditBody_safe h

theorem auditAt_safe {t : Instant} {flags type_ : Nat} {payload : List Byte} (h : Safe s₀ s) :
    Safe s₀ (auditAt t flags type_ payload s) :=
  auditBody_safe h

theorem placeWaiting_safe (h : Safe s₀ s) : Safe s₀ (placeWaiting s) := forEach_safe (fun _ _ => auditBody_safe) h.upd

theorem auditLevels_safe (h : Safe s₀ s) : Safe s₀ (auditLevels s) := by
  unfold auditLevels
  extract_lets _ s1 s2
  have hs1 : Safe s₀ s1 := .ite (raiseEv_safe h) h
  have hs2 : Safe s₀ s2 := .ite (raiseEv_safe hs1) hs1
  exact hs2.upd

/-! ### Loop -/

theorem putLoop_safe {e : Nat} {l : LoopSt} (h : Safe s₀ s) : Safe s₀ (s.putLoop e l) := by
  unfold State.putLoop
  split
  · exact h.upd
  · exact h.upd

theorem setAnvil_safe {v : Anvil} {x : AnvilSt} (h : Safe s₀ s) : Safe s₀ (s.setAnvil v x) := by
  cases v with
  | a => exact h.upd
  | b => exact h.upd

theorem countImplausible_safe {v : Anvil} (h : Safe s₀ s) : Safe s₀ (countImplausible v s) := setAnvil_safe h

theorem signCode_safe {v : Anvil} {e c written : Nat} (h : Safe s₀ s) : Safe s₀ (signCode v e c written s) :=
  .ite h (setAnvil_safe h)

theorem selectCode_safe {bad : List (Anvil × Nat × Nat)} {v : Anvil} {e c : Nat} (h : Safe s₀ s) :
    Safe s₀ (selectCode bad v e c s) := by
  unfold selectCode
  extract_lets _ _ _ _ _ _ _ s0 s1 s2 _ s3 s4
  have hs0 : Safe s₀ s0 := signCode_safe (.ite (signCode_safe h) h)
  have hs1 : Safe s₀ s1 := .ite (countImplausible_safe hs0) hs0
  have hs2 : Safe s₀ s2 := .ite (countImplausible_safe hs1) hs1
  have hs3 : Safe s₀ s3 := .ite hs2.upd hs2
  have hs4 : Safe s₀ s4 := .ite (raiseLimited_safe hs3) hs3
  exact hs4.upd

/-! ### Commit -/

theorem queueTarget_safe {e t : Nat} {set : Option Nat} (h : Safe s₀ s) : Safe s₀ (queueTarget e t set s) :=
  .ite h h.upd

theorem refreshPort_safe {p : Nat} (h : Safe s₀ s) : Safe s₀ (refreshPort p s) := .ite (queueTarget_safe h) h

theorem dropOffset_safe {e : Nat} (h : Safe s₀ s) : Safe s₀ (dropOffset e s) :=
  .ite h (.ite (queueTarget_safe h.upd) h.upd)

theorem trimOffPath_safe {x : Slot} (h : Safe s₀ s) : Safe s₀ (trimOffPath x s) := by
  unfold trimOffPath
  extract_lets s1
  have hs1 : Safe s₀ s1 := forEach_safe (fun _ _ => dropOffset_safe) h
  exact refreshPort_safe hs1.upd

theorem trimOff_safe {id : Nat} (h : Safe s₀ s) : Safe s₀ (trimOff id s) := .ite h (trimOffPath_safe h.upd)

theorem tryQualify_safe {id : Nat} (h : Safe s₀ s) : Safe s₀ (tryQualify id s) := .ite h.upd h

theorem bidirEval_safe {first : Bool} {id : Nat} (h : Safe s₀ s) : Safe s₀ (bidirEval first id s) := by
  unfold bidirEval
  refine .ite h ?_
  extract_lets
  split
  · exact .ite h (.ite h.upd (raiseEv_safe h.upd))
  · exact .ite h.upd (raiseEv_safe h.upd)

/-- A commit adds its digest to the last 64 (R79). -/
theorem nextGeneration_safe {t0 : Instant} (h : Safe s₀ s) : Safe s₀ (nextGeneration t0 s) :=
  h.change id id (fun _ => List.length_take_le _ _) id id id

theorem degradeLeg_safe {e reason id : Nat} (h : Safe s₀ s) : Safe s₀ (degradeLeg e reason id s) :=
  .ite h (raiseEv_safe h.upd)

theorem assignNotch_safe {e use : Nat} {f : F64} (h : Safe s₀ s) : Safe s₀ (assignNotch e use f s) := by
  unfold assignNotch
  split
  · exact h.upd
  · split
    · exact h
    · exact h.upd

theorem releaseNotch_safe {e : Nat} (h : Safe s₀ s) : Safe s₀ (releaseNotch e s) := by
  unfold releaseNotch
  split
  · exact h
  · exact .ite h.upd h

theorem notchFor_safe {e : Nat} {r : RState} (h : Safe s₀ s) : Safe s₀ (notchFor e r s) := by
  unfold notchFor
  refine .ite (assignNotch_safe h) ?_
  split
  · exact h
  · exact h.upd

theorem firstUpdate_safe {e : Nat} {transit : Bool} {next : Nat} (h : Safe s₀ s) :
    Safe s₀ (firstUpdate e transit next s) := by
  unfold firstUpdate
  split
  · exact h
  · exact selectCode_safe (putLoop_safe h)

theorem handIfWaiting_safe {transit : Bool} {e : Nat} (h : Safe s₀ s) : Safe s₀ (handIfWaiting transit e s) := by
  unfold handIfWaiting
  extract_lets -underBinder
  split
  · exact h
  · exact putLoop_safe h

theorem handAtOnce_safe {e target held : Nat} (h : Safe s₀ s) : Safe s₀ (handAtOnce e target held s) := by
  unfold handAtOnce
  extract_lets _ _ _ _ _ _ s1
  have hs1 : Safe s₀ s1 := putLoop_safe h
  exact firstUpdate_safe (.ite hs1.upd hs1)

theorem handAtHold_safe {e target held : Nat} (h : Safe s₀ s) : Safe s₀ (handAtHold e target held s) :=
  .ite (firstUpdate_safe (handIfWaiting_safe h.upd)) h.upd

theorem handTransit_safe {e target held : Nat} (h : Safe s₀ s) : Safe s₀ (handTransit e target held s) :=
  .ite (handAtHold_safe h) (handAtOnce_safe h)

theorem enterTransit_safe {e target held : Nat} (h : Safe s₀ s) : Safe s₀ (enterTransit e target held s) :=
  handTransit_safe h.upd

theorem commandElem_safe {e target : Nat} (h : Safe s₀ s) : Safe s₀ (commandElem e target s) := by
  unfold commandElem
  extract_lets -underBinder
  split
  · exact h.upd
  · exact h.upd
  · exact .ite h.upd (.ite (handTransit_safe h.upd) h.upd)
  · exact .ite h.upd (enterTransit_safe h.upd)
  · exact .ite h.upd (enterTransit_safe h.upd)

theorem settleLegState_safe {id : Nat} (h : Safe s₀ s) : Safe s₀ (settleLegState id s) := .ite (tryQualify_safe h.upd) h

theorem schedToIdle_safe {reason : Nat} (h : Safe s₀ s) : Safe s₀ (schedToIdle reason s) := raiseEv_safe h.upd

theorem schedStopCheck_safe (h : Safe s₀ s) : Safe s₀ (schedStopCheck s) := by
  unfold schedStopCheck
  split
  · exact .ite (schedToIdle_safe h) h
  · exact h

/-- A closed batch joins the last 64 (R101). -/
theorem closeBatch_safe {b : Batch} {atLimit : Bool} (h : Safe s₀ s) : Safe s₀ (closeBatch b atLimit s) := by
  unfold closeBatch
  extract_lets _ _ _ _ s1 _ s2 _ s3 s4
  have hs1 : Safe s₀ s1 := h.change id (fun _ => List.length_take_le _ _) id id id id
  have hs2 : Safe s₀ s2 := .ite (.ite (raiseAt_safe hs1.upd) hs1) (raiseEv_safe hs1)
  have hs3 : Safe s₀ s3 := audit_safe hs2
  have hs4 : Safe s₀ s4 := .ite hs3 (forEach_safe (fun _ _ => audit_safe) hs3)
  exact schedStopCheck_safe (forEach_safe (fun _ _ => bidirEval_safe) (forEach_safe (fun _ _ => settleLegState_safe)
    hs4))

theorem closeSettled_safe (h : Safe s₀ s) : Safe s₀ (closeSettled s) := forEach_safe (fun _ _ => closeBatch_safe) h

theorem endReserve_safe {e : Nat} (h : Safe s₀ s) : Safe s₀ (endReserve e s) := .ite h.upd h

theorem elemSettled_safe {e : Nat} (h : Safe s₀ s) : Safe s₀ (elemSettled e s) :=
  closeSettled_safe (forEach_safe (fun _ _ ht => raiseEv_safe (tryQualify_safe ht.upd))
    (endReserve_safe (releaseNotch_safe (forEach_safe (fun _ _ => settleLegState_safe) h.upd))))

theorem commitLeg_safe {gen : Nat} {repathed : List Nat} {q : LegChange} (h : Safe s₀ s) :
    Safe s₀ (commitLeg gen repathed q s) :=
  .ite (.ite h h.upd) h.upd

theorem startLoops_safe {commanded : List Nat} (h : Safe s₀ s) : Safe s₀ (startLoops commanded s) :=
  forEach_safe (fun _ _ ht => .ite ht ht.upd) h.upd

theorem commitGroup_safe {gen : Nat} {c : Cfg} {moved : List Nat} {g : Nat} (h : Safe s₀ s) :
    Safe s₀ (commitGroup gen c moved g s) :=
  .ite h.upd (.ite h h.upd)

theorem dropBidir_safe {id : Nat} (h : Safe s₀ s) : Safe s₀ (dropBidir id s) := .ite h h.upd

theorem applyCfg_safe {d : Cfg} (h : Safe s₀ s) : Safe s₀ (applyCfg d s).2.2 := by
  unfold applyCfg
  extract_lets _ _ _ _ _ _ s2 s3 _ s4 s5 s6 s7 s8
  have hs2 : Safe s₀ s2 := forEach_safe (fun _ _ ht => ht.upd) h.upd
  have hs3 : Safe s₀ s3 := nextGeneration_safe (forEach_safe (fun _ _ => trimOffPath_safe) hs2.upd)
  have hs4 : Safe s₀ s4 := forEach_safe (fun _ _ => commitLeg_safe) hs3
  have hs6 : Safe s₀ s6 := forEach_safe (fun _ _ => dropBidir_safe) (forEach_safe (fun _ _ => commitGroup_safe) hs4)
  have hs7 : Safe s₀ s7 := .ite hs6 (startLoops_safe hs6)
  have hs8 : Safe s₀ s8 := forEach_safe (fun _ _ ht => commandElem_safe (.ite (notchFor_safe ht) ht)) hs7
  exact forEach_safe (fun _ _ => tryQualify_safe) hs8

/-! ### Gate -/

theorem reply_safe {ses st : Nat} (h : Safe s₀ s) : Safe s₀ (reply ses st s) := h.upd

theorem gated_safe {ses ix sub : Nat} {value : List Byte} {f : State → State} (hf : ∀ t, Safe s₀ t → Safe s₀ (f t))
    (h : Safe s₀ s) : Safe s₀ (gated ses ix sub value f s) :=
  .ite h (.ite (hf s h) h.upd)

/-! ### Batch -/

theorem replyBatch_safe {b : Batch} {st : Nat} (h : Safe s₀ s) : Safe s₀ (replyBatch b st s) := .ite (reply_safe h) h

theorem degradeLegs_safe {legs : List (Nat × Nat)} (h : Safe s₀ s) : Safe s₀ (degradeLegs legs s) :=
  forEach_safe (fun _ _ => degradeLeg_safe) h

theorem dropMoves_safe {b : Batch} (h : Safe s₀ s) : Safe s₀ (dropMoves b s) := .ite (degradeLegs_safe h) h

/-- A failed batch joins the last 64 closed ones (R101). -/
theorem failBatch_safe {b : Batch} {st : Nat} (h : Safe s₀ s) : Safe s₀ (failBatch b st s) :=
  replyBatch_safe (dropMoves_safe (raiseEv_safe (h.change id (fun _ => List.length_take_le _ _) id id id id)))

theorem refreshImage_safe (h : Safe s₀ s) : Safe s₀ (refreshImage s) := by
  unfold refreshImage
  split
  · exact .ite h.upd h
  · exact h.upd

theorem replanAll_safe {must : Batch → Bool} {basis : Cfg} {n : Nat} {bs : List Batch} (h : Safe s₀ s) :
    Safe s₀ (replanAll must basis n bs s) := by
  induction bs generalizing basis n s with
  | nil => exact h
  | cons b rest ih =>
    exact .ite (ih h) (.ite (ih (raiseEv_safe (degradeLegs_safe h).upd)) (ih (failBatch_safe (degradeLegs_safe h).upd)))

theorem replanFrom_safe {must : Batch → Bool} (h : Safe s₀ s) : Safe s₀ (replanFrom must s) :=
  refreshImage_safe (replanAll_safe h)

theorem replanStale_safe (h : Safe s₀ s) : Safe s₀ (replanStale s) := replanFrom_safe h

theorem stagger_safe {t : Instant} {bs : List Batch} (h : Safe s₀ s) : Safe s₀ (stagger t s bs) := by
  induction bs generalizing t s with
  | nil => exact h
  | cons b rest ih => exact .ite (ih h.upd) (ih h)

theorem placeBatch_safe {b : Batch} (h : Safe s₀ s) : Safe s₀ (placeBatch b s) :=
  replyBatch_safe (replanStale_safe h.upd)

theorem planBatch_safe {b : Batch} {ns : Nat} (h : Safe s₀ s) : Safe s₀ (planBatch b ns s) :=
  .ite (failBatch_safe h.upd) (.ite (failBatch_safe h.upd) (placeBatch_safe h.upd))

theorem execBatchSubmit_safe {ses : Nat} {value : List Byte} (h : Safe s₀ s) :
    SafeNext s₀ (execBatchSubmit ses value s) :=
  .next (gated_safe (fun _ hs => .ite (reply_safe hs) (.ite hs.upd (failBatch_safe hs.upd))) h)

theorem execBatchPlanComplete_safe {id planNs : Nat} (h : Safe s₀ s) :
    SafeNext s₀ (execBatchPlanComplete id planNs s) := by
  unfold execBatchPlanComplete
  refine .next ?_
  split
  · exact h
  · exact .ite h (.ite (planBatch_safe h) (.ite (failBatch_safe h) (planBatch_safe h)))

theorem execPlanQuery_safe {ses : Nat} {value : List Byte} {planNs : Nat} (h : Safe s₀ s) :
    SafeNext s₀ (execPlanQuery ses value planNs s) :=
  .next (gated_safe (fun _ hs => reply_safe hs.upd) h)

theorem commitNext_safe {b : Batch} {behind : List Batch} (h : Safe s₀ s) : Safe s₀ (commitNext b behind s) :=
  stagger_safe h.upd

theorem imageDone_safe {b : Batch} {behind : List Batch} (h : Safe s₀ s) : Safe s₀ (imageDone b behind s) :=
  .ite h.upd (.ite (commitNext_safe h.upd) (.ite (raiseEv_safe (.ite h.upd (commitNext_safe h.upd))) h.upd))

theorem execBatchFire_safe {ses id : Nat} (h : Safe s₀ s) : SafeNext s₀ (execBatchFire ses id s) :=
  .next (gated_safe (fun s hs => by
      split
      · exact reply_safe hs
      · exact .ite (reply_safe hs.upd) (reply_safe hs)) h)

theorem execBatchCancel_safe {ses n : Nat} (h : Safe s₀ s) : SafeNext s₀ (execBatchCancel ses n s) :=
  .next (gated_safe (fun s hs => by
      split
      · exact hs.upd
      · refine .ite ?_ hs.upd
        exact reply_safe (replanStale_safe (raiseEv_safe (hs.change id (fun _ => List.length_take_le _ _) id id id
          id)))) h)

theorem circuitRecord_safe {b gen op : Nat} {c : Cfg} {id : Nat} (h : Safe s₀ s) :
    Safe s₀ (circuitRecord b gen op c id s) :=
  audit_safe h

theorem circuitRecords_safe {b : Batch} {gen : Nat} {c d : Cfg} (h : Safe s₀ s) :
    Safe s₀ (circuitRecords b gen c d s) :=
  forEach_safe (fun _ _ ht => forEach_safe (fun _ _ => circuitRecord_safe) ht) h

theorem disturbRecords_safe {b : Batch} {gen : Nat} (h : Safe s₀ s) : Safe s₀ (disturbRecords b gen s) :=
  forEach_safe (fun _ _ ht => .ite (audit_safe ht) (audit_safe ht)) h

theorem commitBatch_safe {b : Batch} (h : Safe s₀ s) : Safe s₀ (commitBatch b s) := by
  unfold commitBatch
  extract_lets _ _ _ _ _ _ _ s3
  have hs3 : Safe s₀ s3 := raiseEv_safe (applyCfg_safe h).upd
  exact closeSettled_safe (circuitRecords_safe (disturbRecords_safe (audit_safe (.ite (raiseEv_safe hs3) hs3)))).upd

theorem execBatchCommit_safe (h : Safe s₀ s) : SafeNext s₀ (execBatchCommit s) := by
  unfold execBatchCommit
  refine .next ?_
  split
  · exact h
  · exact .ite (.ite (replanStale_safe (failBatch_safe h)) h) (.ite (commitBatch_safe h) h)

theorem execBatchSettleLimit_safe {id : Nat} (h : Safe s₀ s) : SafeNext s₀ (execBatchSettleLimit id s) := by
  unfold execBatchSettleLimit
  refine .next ?_
  split
  · exact h
  · exact closeBatch_safe h

theorem askReroute_safe {legs : List Nat} (h : Safe s₀ s) : Safe s₀ (askReroute legs s) := .ite h (wakeForge_safe h.upd)

theorem retryReroute_safe (h : Safe s₀ s) : Safe s₀ (retryReroute s) := .ite (askReroute_safe h.upd) h

theorem submitMoves_safe {b : Batch} {gen ns : Nat} {basis : Cfg} {m : Moves} (h : Safe s₀ s) :
    Safe s₀ (submitMoves b gen ns basis m s) :=
  placeBatch_safe h.upd

theorem execReroutePlanComplete_safe {planNs : Nat} (h : Safe s₀ s) :
    SafeNext s₀ (execReroutePlanComplete planNs s) := by
  unfold execReroutePlanComplete
  refine .next ?_
  split
  · exact h
  · refine .ite h ?_
    extract_lets _ _ _ _ _ _ _ s1
    have hs1 : Safe s₀ s1 := degradeLegs_safe h.upd
    exact .ite (degradeLegs_safe h.upd) (.ite hs1 (submitMoves_safe (forEach_safe (fun _ _ ht => ht.upd)
      (raiseEv_safe hs1))))

/-! ### Schedule -/

theorem execCfgBodyWrite_safe {ses c : Nat} {value : List Byte} (h : Safe s₀ s) :
    SafeNext s₀ (execCfgBodyWrite ses c value s) :=
  .next (gated_safe (fun _ hs => reply_safe (audit_safe hs.upd)) h)

theorem execCfgCompileDone_safe {c compileNs : Nat} (h : Safe s₀ s) :
    SafeNext s₀ (execCfgCompileDone c compileNs s) :=
  .next (.ite h (raiseEv_safe h.upd))

theorem namedRecords_safe {t : List Watch} (h : Safe s₀ s) : Safe s₀ (namedRecords t s) :=
  forEach_safe (fun _ _ => audit_safe) h

theorem schedGate_safe {ses v : Nat} {f : State → State} (hf : ∀ t, Safe s₀ t → Safe s₀ (f t)) (h : Safe s₀ s) :
    Safe s₀ (schedGate ses v f s) :=
  gated_safe hf h

theorem execSchedArm_safe {ses : Nat} (h : Safe s₀ s) : SafeNext s₀ (execSchedArm ses s) :=
  .next (schedGate_safe (fun _ hs => .ite (reply_safe hs) (.ite (reply_safe hs.upd)
    (reply_safe (namedRecords_safe (raiseAt_safe hs.upd))))) h)

theorem execSchedCommit_safe {ses : Nat} (h : Safe s₀ s) : SafeNext s₀ (execSchedCommit ses s) :=
  .next (schedGate_safe (fun _ hs => .ite (reply_safe hs) (.ite (reply_safe hs.upd)
    (.ite (reply_safe (namedRecords_safe (raiseEv_safe hs.upd))) (reply_safe (namedRecords_safe hs.upd))))) h)

theorem schedStop_safe {reason : Nat} {atEnd : Bool} (h : Safe s₀ s) : Safe s₀ (schedStop reason atEnd s) := by
  unfold schedStop
  split
  · exact h
  · exact schedToIdle_safe h
  · exact .ite h (.ite (.ite h h.upd) (schedStopCheck_safe h.upd))

theorem schedHalt_safe {reason : Nat} (h : Safe s₀ s) : Safe s₀ (schedHalt reason s) := .ite h (schedToIdle_safe h)

theorem execSchedStopAtCycleEnd_safe {ses : Nat} (h : Safe s₀ s) :
    SafeNext s₀ (execSchedStopAtCycleEnd ses s) :=
  .next (schedGate_safe (fun _ hs => .ite (reply_safe hs) (reply_safe (schedStop_safe hs))) h)

theorem execSchedStopNow_safe {ses : Nat} (h : Safe s₀ s) : SafeNext s₀ (execSchedStopNow ses s) :=
  .next (schedGate_safe (fun _ hs => .ite (reply_safe hs) (reply_safe (schedStop_safe hs))) h)

theorem execSchedImageCopyStart_safe (h : Safe s₀ s) : SafeNext s₀ (execSchedImageCopyStart s) := .next (.ite h.upd h)

theorem degradeIncoming_safe {ch : List LegChange} (h : Safe s₀ s) : Safe s₀ (degradeIncoming ch s) :=
  forEach_safe (fun _ _ ht => .ite (degradeLeg_safe ht) ht) h

theorem watchCommit_safe {k : Nat} {due : Instant} (h : Safe s₀ s) : Safe s₀ (watchCommit k due s) := by
  unfold watchCommit
  extract_lets _ _ _ _ _ _ _ _ s3
  have hs3 : Safe s₀ s3 := audit_safe (applyCfg_safe h).upd
  exact closeSettled_safe (degradeIncoming_safe (.ite (raiseEv_safe hs3) hs3))

theorem execSchedStart_safe (h : Safe s₀ s) : SafeNext s₀ (execSchedStart s) :=
  .next (.ite (watchCommit_safe (raiseEv_safe h.upd)) h)

theorem execWatchBoundaryCommit_safe (h : Safe s₀ s) : SafeNext s₀ (execWatchBoundaryCommit s) := by
  unfold execWatchBoundaryCommit
  refine .next ?_
  refine .ite ?_ h
  extract_lets -underBinder _ s1
  have hs1 : Safe s₀ s1 := .ite h.upd h
  split
  · exact schedStopCheck_safe hs1.upd
  · exact .ite (watchCommit_safe hs1) h

theorem watchImageDone_safe (h : Safe s₀ s) : Safe s₀ (watchImageDone s) := .ite (raiseEv_safe h.upd) h.upd

theorem execRouteImageComplete_safe (h : Safe s₀ s) : SafeNext s₀ (execRouteImageComplete s) := by
  unfold execRouteImageComplete
  refine .next (.ite h ?_)
  refine .ite (watchImageDone_safe h) ?_
  split
  · exact h
  · exact .ite h (imageDone_safe h)

theorem execSchedChangeApply_safe (h : Safe s₀ s) : SafeNext s₀ (execSchedChangeApply s) := by
  unfold execSchedChangeApply
  refine .next ?_
  split
  · exact h
  · refine .ite ?_ h
    extract_lets s1
    have hs1 : Safe s₀ s1 := .ite h.upd h
    exact watchCommit_safe (raiseEv_safe hs1.upd)

theorem schedRealign_safe (h : Safe s₀ s) : Safe s₀ (schedRealign s) := by
  unfold schedRealign
  split
  · exact h
  · exact raiseAt_safe h.upd
  · exact .ite h (raiseAt_safe h.upd)

/-! ### Element -/

theorem freezeAll_safe (h : Safe s₀ s) : Safe s₀ (freezeAll s) := forEach_safe (fun _ _ ht => .ite ht ht.upd) h

theorem faultLegs_safe {e : Nat} {ids : List Nat} (h : Safe s₀ s) : Safe s₀ (faultLegs e ids s) :=
  askReroute_safe (forEach_safe (fun _ _ ht => ht.upd) (forEach_safe (fun _ _ => degradeLeg_safe) h))

theorem schedFault_safe {e : Nat} (h : Safe s₀ s) : Safe s₀ (schedFault e s) := by
  unfold schedFault
  refine .ite ?_ h
  extract_lets s1
  have hs1 : Safe s₀ s1 := raiseEv_safe h
  exact .ite hs1 (schedStop_safe hs1)

theorem enterFault_safe {e bit_ : Nat} (h : Safe s₀ s) : Safe s₀ (enterFault e bit_ s) := by
  unfold enterFault
  extract_lets _ _ _ s2
  have hs2 : Safe s₀ s2 := by
    unfold s2
    split
    · exact h.upd
    · exact h.upd
  exact .ite h.upd (closeSettled_safe (replanFrom_safe (schedFault_safe (faultLegs_safe (raiseEv_safe hs2).upd))))

theorem execElemFault_safe {e : Nat} {cause : FaultBit} (h : Safe s₀ s) :
    SafeNext s₀ (execElemFault e cause s) := by
  unfold execElemFault
  refine .next ?_
  refine .ite ?_ h
  extract_lets s1
  have hs1 : Safe s₀ s1 := enterFault_safe h
  exact .ite (raiseEv_safe hs1) hs1

theorem execSettleTimeout_safe {e : Nat} (h : Safe s₀ s) : SafeNext s₀ (execSettleTimeout e s) :=
  .next (.ite (enterFault_safe h) h)

theorem execElemModeWrite_safe {ses e value : Nat} (h : Safe s₀ s) :
    SafeNext s₀ (execElemModeWrite ses e value s) :=
  .next (gated_safe (fun _ hs => .ite (reply_safe hs) (.ite (reply_safe hs) (reply_safe hs.upd))) h)

theorem execElemTargetSetWrite_safe {ses e value : Nat} (h : Safe s₀ s) :
    SafeNext s₀ (execElemTargetSetWrite ses e value s) :=
  .next (gated_safe (fun _ hs => .ite (reply_safe hs) (.ite (reply_safe hs) (reply_safe (queueTarget_safe hs.upd)))) h)

theorem execElemManualCodeWrite_safe {ses e value : Nat} (h : Safe s₀ s) :
    SafeNext s₀ (execElemManualCodeWrite ses e value s) :=
  .next (gated_safe (fun _ hs => .ite (reply_safe hs) (reply_safe hs.upd)) h)

theorem clearFault_safe {e : Nat} (h : Safe s₀ s) : Safe s₀ (clearFault e s) := by
  unfold clearFault
  extract_lets _ _ s2
  have hs2 : Safe s₀ s2 := .ite (raiseEv_safe h.upd) h.upd
  exact .ite (wakeForge_safe hs2) hs2

theorem execElemFaultClear_safe {ses e value : Nat} (h : Safe s₀ s) :
    SafeNext s₀ (execElemFaultClear ses e value s) :=
  .next (gated_safe (fun _ hs => .ite (reply_safe hs) (.ite (reply_safe hs) hs.upd)) h)

theorem execFaultClearReadback_safe {e mv : Nat} {shortNow openNow : Bool} (h : Safe s₀ s) :
    SafeNext s₀ (execFaultClearReadback e mv shortNow openNow s) := by
  unfold execFaultClearReadback
  refine .next ?_
  split
  · exact h
  · exact .ite h (.ite (reply_safe h.upd) (reply_safe (clearFault_safe h.upd)))

theorem execLaneRetire_safe {anvil : Anvil} {lane : Nat} (h : Safe s₀ s) :
    SafeNext s₀ (execLaneRetire anvil lane s) := by
  unfold execLaneRetire
  refine .next ?_
  extract_lets -underBinder _ _ _ sp
  refine .ite h ?_
  clear_value sp
  split
  · exact raiseEv_safe h.upd
  · refine .ite (raiseEv_safe h.upd) ?_
    extract_lets _ s2
    have hs2 : Safe s₀ s2 := raiseEv_safe h.upd
    exact .ite (raiseEv_safe hs2) hs2

theorem auxJump_safe {a : Nat} (h : Safe s₀ s) : Safe s₀ (auxJump a s) := .ite h.upd h

theorem auxFollow_safe {a : Nat} (h : Safe s₀ s) : Safe s₀ (auxFollow a s) := .ite h (auxJump_safe h.upd)

theorem execFabricClearAssert_safe {edge : Instant} (h : Safe s₀ s) :
    SafeNext s₀ (execFabricClearAssert edge s) :=
  .next (.ite h (.ite h.upd (auditAt_safe (raiseAt_safe (forEach_safe (fun _ _ => auxFollow_safe)
    (freezeAll_safe h.upd))))))

theorem execFabricClearRelease_safe {edge : Instant} (h : Safe s₀ s) :
    SafeNext s₀ (execFabricClearRelease edge s) :=
  .next (.ite h (.ite h.upd (auditAt_safe (raiseAt_safe h.upd))))

theorem execAuxClearReturn_safe (h : Safe s₀ s) : SafeNext s₀ (execAuxClearReturn s) :=
  .next (.ite h (forEach_safe (fun _ _ => auxFollow_safe) h.upd))

/-! ### Drive -/

theorem chanFault_safe {e b : Nat} (h : Safe s₀ s) : Safe s₀ (chanFault e b s) := enterFault_safe h.upd

theorem execChannelFault_safe {e : Nat} {cause : ChanCause} (h : Safe s₀ s) :
    SafeNext s₀ (execChannelFault e cause s) :=
  .next (.ite (chanFault_safe h) h)

theorem ladderDown_safe {state src : Nat} {payload : List Byte} (h : Safe s₀ s) :
    Safe s₀ (ladderDown state src payload s) :=
  raiseEv_safe (forEach_safe (fun _ _ => chanFault_safe) h.upd)

theorem retireCell_safe {level : Nat} (h : Safe s₀ s) : Safe s₀ (retireCell level s) := by
  unfold retireCell
  extract_lets
  split
  · exact ladderDown_safe h.upd
  · exact raiseEv_safe h.upd

theorem execLadderCellRetire_safe {level : Nat} (h : Safe s₀ s) : SafeNext s₀ (execLadderCellRetire level s) :=
  .next (.ite (retireCell_safe h) h)

theorem loadSelection_safe (h : Safe s₀ s) : Safe s₀ (loadSelection s).1 := h.upd

theorem swapLadder_safe {sel : List Nat} {errs : Option (List Int)} (h : Safe s₀ s) :
    Safe s₀ (swapLadder sel errs s) := by
  unfold swapLadder
  extract_lets -underBinder s1
  have hs1 : Safe s₀ s1 := by
    unfold s1
    split
    · exact h.upd
    · exact loadSelection_safe h
  exact hs1.upd

theorem execLadderSelectionChange_safe (h : Safe s₀ s) : SafeNext s₀ (execLadderSelectionChange s) := by
  unfold execLadderSelectionChange
  refine .next (.ite h ?_)
  split
  · exact swapLadder_safe h
  · split
    · exact h.upd
    · exact h

theorem execLadderUv_safe (h : Safe s₀ s) : SafeNext s₀ (execLadderUv s) := .next (.ite (ladderDown_safe h.upd) h.upd)

theorem parkAgain_safe {e : Nat} (h : Safe s₀ s) : Safe s₀ (parkAgain e s) := raiseEv_safe h.upd

theorem ladderRestored_safe (h : Safe s₀ s) : Safe s₀ (ladderRestored s) :=
  forEach_safe (fun _ _ ht => .ite (.ite ht.upd (.ite (.ite (clearFault_safe ht.upd) (parkAgain_safe ht.upd)) ht.upd))
    ht) (raiseEv_safe h.upd)

theorem auxStart_safe (h : Safe s₀ s) : Safe s₀ (auxStart s) := forEach_safe (fun _ _ ht => ht.upd) h

theorem loadClear_safe (h : Safe s₀ s) : Safe s₀ (loadClear s) := .ite h (auxStart_safe h.upd)

theorem execLadderRestart_safe {deviates : List Nat} (h : Safe s₀ s) : SafeNext s₀ (execLadderRestart deviates s) := by
  unfold execLadderRestart
  refine .next (.ite h ?_)
  extract_lets _ _ r s2
  have hr : Safe s₀ r.1 := by
    unfold r
    split
    · exact h.upd
    · exact loadSelection_safe h.upd
  have hs2 : Safe s₀ s2 := forEach_safe (fun _ _ ht => .ite (retireCell_safe ht) ht) hr
  split
  · exact ladderDown_safe hr
  · exact .ite (loadClear_safe (ladderRestored_safe hs2)) hs2

theorem execLadderRegulating_safe (h : Safe s₀ s) : SafeNext s₀ (execLadderRegulating s) := by
  unfold execLadderRegulating
  refine .next (.ite h ?_)
  extract_lets -underBinder
  split
  · exact ladderDown_safe (loadSelection_safe h)
  · exact .ite (loadClear_safe (loadSelection_safe h).upd) (ladderDown_safe (loadSelection_safe h))

theorem execClearCommit_safe {ses value : Nat} (h : Safe s₀ s) : SafeNext s₀ (execClearCommit ses value s) :=
  .next (gated_safe (fun s hs => by
      refine .ite (reply_safe hs) ?_
      split
      · exact reply_safe hs.upd
      · exact reply_safe hs.upd) h)

theorem clearSteps_safe (h : Safe s₀ s) : Safe s₀ (clearSteps s) :=
  .ite h (forEach_safe (fun _ _ ht => .ite ht.upd (.ite ht.upd ht)) h)

theorem applyClear_safe (h : Safe s₀ s) : Safe s₀ (applyClear s) := by
  unfold applyClear
  split
  · exact h
  · exact audit_safe (raiseEv_safe (forEach_safe (fun _ _ => auxFollow_safe) (clearSteps_safe h.upd)))

theorem execClearTableApply_safe (h : Safe s₀ s) : SafeNext s₀ (execClearTableApply s) :=
  .next (.ite (applyClear_safe h) h)

theorem execChanSpanWrite_safe {ses e value : Nat} (h : Safe s₀ s) :
    SafeNext s₀ (execChanSpanWrite ses e value s) :=
  .next (gated_safe (fun _ hs => reply_safe hs.upd) h)

theorem execChanSpanDwellEnd_safe {e : Nat} (h : Safe s₀ s) : SafeNext s₀ (execChanSpanDwellEnd e s) := by
  unfold execChanSpanDwellEnd
  refine .next ?_
  extract_lets
  split
  · exact .ite (.ite h (.ite h.upd h.upd)) h
  · exact h

theorem execAuxConfigWrite_safe {ses aux value : Nat} (h : Safe s₀ s) :
    SafeNext s₀ (execAuxConfigWrite ses aux value s) :=
  .next (gated_safe (fun _ hs => .ite (reply_safe hs) (reply_safe hs.upd)) h)

theorem execAuxDwellStart_safe {aux : Nat} (h : Safe s₀ s) : SafeNext s₀ (execAuxDwellStart aux s) :=
  .next (.ite h.upd h)

theorem execAuxStageSwitch_safe {aux : Nat} (h : Safe s₀ s) : SafeNext s₀ (execAuxStageSwitch aux s) := by
  unfold execAuxStageSwitch
  refine .next ?_
  extract_lets
  split
  · exact .ite h.upd h
  · exact h

theorem execAuxRangeEnable_safe {aux : Nat} (h : Safe s₀ s) : SafeNext s₀ (execAuxRangeEnable aux s) := by
  unfold execAuxRangeEnable
  refine .next ?_
  extract_lets -underBinder
  split
  · exact .ite (auxJump_safe h.upd) h
  · exact h

theorem execAuxValueWrite_safe {ses aux value : Nat} (h : Safe s₀ s) :
    SafeNext s₀ (execAuxValueWrite ses aux value s) :=
  .next (gated_safe (fun _ hs => reply_safe hs.upd) h)

theorem execAuxFault_safe {aux : Nat} {cause : AuxCause} (h : Safe s₀ s) :
    SafeNext s₀ (execAuxFault aux cause s) :=
  .next (.ite (raiseEv_safe h.upd) h)

theorem execAuxCompliance_safe {aux : Nat} (h : Safe s₀ s) : SafeNext s₀ (execAuxCompliance aux s) :=
  .next (.ite (raiseEv_safe h.upd) h)

theorem execAuxComplianceClear_safe {aux : Nat} (h : Safe s₀ s) : SafeNext s₀ (execAuxComplianceClear aux s) :=
  .next (.ite h.upd h)

/-! ### Trim -/

theorem refreshCauses_safe {clear : Bool} {id : Nat} (h : Safe s₀ s) : Safe s₀ (refreshCauses clear id s) :=
  .ite h.upd (.ite h.upd h)

theorem refreshAllCauses_safe {clear : Bool} (h : Safe s₀ s) : Safe s₀ (refreshAllCauses clear s) :=
  forEach_safe (fun _ _ => refreshCauses_safe) h

theorem sampleDet_safe {first : Bool} {d code : Nat} (h : Safe s₀ s) : Safe s₀ (sampleDet first d code s) :=
  .ite (forEach_safe (fun _ _ => refreshCauses_safe) (raiseEv_safe h.upd)) h.upd

theorem sampleAll_safe {first : Bool} {d : Nat} {codes : List Nat} (h : Safe s₀ s) :
    Safe s₀ (sampleAll first d codes s) := by
  induction codes generalizing d s with
  | nil => exact h
  | cons c rest ih => exact ih (sampleDet_safe h)

theorem execBuoySample_safe {c i : Nat} {codes : List Nat} (h : Safe s₀ s) :
    SafeNext s₀ (execBuoySample c i codes s) :=
  .next (.ite (sampleAll_safe h) h)

theorem execOverpowerClear_safe {d : Nat} (h : Safe s₀ s) : SafeNext s₀ (execOverpowerClear d s) := by
  unfold execOverpowerClear
  refine .next ?_
  extract_lets -underBinder
  split
  · exact h
  · exact .ite (forEach_safe (fun _ _ => refreshCauses_safe) h.upd) h

theorem lightEffects_safe {d : Nat} {on : Bool} (h : Safe s₀ s) : Safe s₀ (lightEffects d on s) := by
  unfold lightEffects
  extract_lets
  refine .ite ?_ (forEach_safe (fun _ _ => bidirEval_safe) h)
  refine .ite h ?_
  split
  · exact h
  · exact .ite (tryQualify_safe h) (trimOff_safe h)

theorem recordLight_safe {d : Nat} {on : Bool} {flags : Nat} {capture time : Instant} (h : Safe s₀ s) :
    Safe s₀ (recordLight d on flags capture time s) := by
  unfold recordLight
  extract_lets _ _ _ _ _ _ s4
  have hs4 : Safe s₀ s4 := auditAt_safe (raiseAt_safe h.upd)
  exact lightEffects_safe (.ite hs4.upd hs4)

theorem crossing_safe {d : Nat} {on : Bool} {t : Instant} (h : Safe s₀ s) : Safe s₀ (crossing d on t s) :=
  recordLight_safe h.upd

theorem execLightOn_safe {d : Nat} {capture : Instant} (h : Safe s₀ s) :
    SafeNext s₀ (execLightOn d capture s) :=
  .next (.ite (crossing_safe h) h)

theorem execLightOff_safe {d : Nat} {capture : Instant} (h : Safe s₀ s) :
    SafeNext s₀ (execLightOff d capture s) :=
  .next (.ite (crossing_safe h) h)

theorem execThresholdChangeCrossing_safe {d : Nat} (h : Safe s₀ s) :
    SafeNext s₀ (execThresholdChangeCrossing d s) :=
  .next (.ite (recordLight_safe h.upd) h)

theorem execBuoySlow_safe {c : Nat} (h : Safe s₀ s) : SafeNext s₀ (execBuoySlow c s) :=
  .next (.ite (refreshAllCauses_safe (raiseEv_safe h.upd)) h)

theorem execBuoyRestored_safe {c : Nat} (h : Safe s₀ s) : SafeNext s₀ (execBuoyRestored c s) :=
  .next (.ite (raiseEv_safe h.upd) h)

theorem buoyHold_safe {c : Nat} (h : Safe s₀ s) : Safe s₀ (buoyHold c s) := .ite h.upd h

theorem windowHold_safe {ok : Bool} {id : Nat} (h : Safe s₀ s) : Safe s₀ (windowHold ok id s) := .ite h.upd h

theorem measureHold_safe {ok : Bool} (h : Safe s₀ s) : Safe s₀ (measureHold ok s) := by
  unfold measureHold
  extract_lets _ s2 s3
  have hs2 : Safe s₀ s2 := forEach_safe (fun _ _ => buoyHold_safe) (forEach_safe (fun _ _ => windowHold_safe) h)
  have hs3 : Safe s₀ s3 := forEach_safe (fun _ _ ht => ht.upd) hs2
  exact hs3.upd

theorem closeWindow_safe {id rank : Nat} (h : Safe s₀ s) : Safe s₀ (closeWindow id rank s) := .ite h.upd h.upd

theorem closeWindows_safe {rank : Nat} {ids : List Nat} (h : Safe s₀ s) : Safe s₀ (closeWindows rank ids s) := by
  induction ids generalizing rank s with
  | nil => exact h
  | cons id rest ih => exact ih (closeWindow_safe h)

theorem issueUpdate_safe {id : Nat} {u : Nat × Int × Bool} (h : Safe s₀ s) : Safe s₀ (issueUpdate id u s) := by
  unfold issueUpdate
  extract_lets _ _ _ _ _ s2
  have hs2 : Safe s₀ s2 := .ite (raiseEv_safe h.upd) h.upd
  exact .ite h (.ite hs2 (queueTarget_safe hs2))

theorem issueSlot_safe {slot : Nat} (h : Safe s₀ s) : Safe s₀ (issueSlot slot s) :=
  forEach_safe (fun _ _ ht => .ite (.ite ht.upd (forEach_safe (fun _ _ => issueUpdate_safe) ht.upd)) ht) h

theorem balanceElem_safe {p : List (Nat × F64)} {e : Nat} (h : Safe s₀ s) : Safe s₀ (balanceElem p e s) := by
  unfold balanceElem
  extract_lets -underBinder
  split
  · exact h
  · exact .ite h h.upd

theorem measureShares_safe {g : Nat} (h : Safe s₀ s) : Safe s₀ (measureShares g s) := by
  unfold measureShares
  split
  · exact h
  · exact .ite (forEach_safe (fun _ _ ht => ht.upd) h) h

theorem balanceGroup_safe {g : Nat} (h : Safe s₀ s) : Safe s₀ (balanceGroup g s) := by
  unfold balanceGroup
  split
  · exact h
  · exact .ite (forEach_safe (fun _ _ => balanceElem_safe) h) h

theorem execSplitUnbalanced_safe {e : Nat} (h : Safe s₀ s) : SafeNext s₀ (execSplitUnbalanced e s) :=
  .next (.ite (raiseEv_safe h.upd) h)

theorem equalise_safe {id : Nat} (h : Safe s₀ s) : Safe s₀ (equalise id s) := by
  unfold equalise
  extract_lets -underBinder
  refine .ite h ?_
  split
  · exact h
  · exact .ite h (refreshPort_safe (.ite (raiseEv_safe h.upd) h.upd))

theorem endRuns_safe {id : Nat} (h : Safe s₀ s) : Safe s₀ (endRuns id s) := .ite h h.upd

theorem measureLoss_safe {id : Nat} (h : Safe s₀ s) : Safe s₀ (measureLoss id s) := by
  unfold measureLoss
  split
  · exact endRuns_safe h
  · exact .ite (endRuns_safe h.upd) (.ite h.upd h.upd)

theorem execTrimLossDrift_safe {leg : Nat} (h : Safe s₀ s) : SafeNext s₀ (execTrimLossDrift leg s) :=
  .next (.ite (raiseEv_safe h.upd) h)

theorem execTrimQualified_safe {leg : Nat} (h : Safe s₀ s) : SafeNext s₀ (execTrimQualified leg s) :=
  .next (.ite h.upd h)

theorem enterTrim_safe {e : Nat} (h : Safe s₀ s) : Safe s₀ (enterTrim e s) := .ite h.upd h

theorem trimMove_safe {id : Nat} (h : Safe s₀ s) : Safe s₀ (trimMove id s) := by
  unfold trimMove
  extract_lets -underBinder
  split
  · exact h
  · exact .ite (forEach_safe (fun _ _ => dropOffset_safe) h.upd) h
  · extract_lets _ s2
    have hs2 : Safe s₀ s2 := refreshCauses_safe h.upd
    exact .ite (forEach_safe (fun _ _ => enterTrim_safe) hs2) hs2
  · exact .ite (forEach_safe (fun _ _ => dropOffset_safe) h.upd) h
  · exact .ite (.ite (forEach_safe (fun _ _ => dropOffset_safe) h.upd) h) h

theorem trimStep_safe (h : Safe s₀ s) : Safe s₀ (trimStep s) := by
  unfold trimStep
  extract_lets _ _ _ s2 _ _ s4
  have hs2 : Safe s₀ s2 := closeWindows_safe (forEach_safe (fun _ _ => measureShares_safe)
    (forEach_safe (fun _ _ => measureLoss_safe) (refreshAllCauses_safe h)))
  have hs4 : Safe s₀ s4 := forEach_safe (fun _ _ => trimMove_safe) (.ite
    (forEach_safe (fun _ _ => equalise_safe) (forEach_safe (fun _ _ => balanceGroup_safe) hs2)) hs2)
  exact hs4.upd

/-! ### Memory -/

theorem correctWord_safe {b master word : Nat} (h : Safe s₀ s) : Safe s₀ (correctWord b master word s) :=
  raiseLimited_safe h.upd

theorem lostWord_safe {b master word : Nat} (h : Safe s₀ s) : Safe s₀ (lostWord b master word s) := raiseEv_safe h.upd

theorem discardOffset_safe {e : Nat} (h : Safe s₀ s) : Safe s₀ (discardOffset e s) :=
  .ite h (.ite (queueTarget_safe h.upd) h.upd)

theorem resettle_safe {id : Nat} (h : Safe s₀ s) : Safe s₀ (resettle id s) := .ite h.upd h

theorem lostTable_safe {u : SramUser} (h : Safe s₀ s) : Safe s₀ (lostTable u s) := by
  unfold lostTable
  split
  · exact enterFault_safe h
  · exact h.upd
  · exact h
  · exact resettle_safe (forEach_safe (fun _ _ => discardOffset_safe) h)
  · exact h

theorem privateError_safe {r : SramErr} (h : Safe s₀ s) : Safe s₀ (privateError r s) :=
  .ite h (.ite (lostTable_safe (lostWord_safe h)) (correctWord_safe h))

theorem banksSleep_safe (h : Safe s₀ s) : Safe s₀ (banksSleep s) := forEach_safe (fun _ _ ht => .ite ht.upd ht) h

theorem banksWake_safe (h : Safe s₀ s) : Safe s₀ (banksWake s) := forEach_safe (fun _ _ ht => .ite ht.upd ht) h

theorem execBankRetentionEnter_safe {b : Nat} (h : Safe s₀ s) : SafeNext s₀ (execBankRetentionEnter b s) :=
  .next (.ite h.upd h)

theorem wipeQuench_safe (h : Safe s₀ s) : Safe s₀ (wipeQuench s) :=
  raiseEv_safe (h.change id id id id (memZero_wf _ _ _) id)

theorem banksPowerUp_safe (h : Safe s₀ s) : Safe s₀ (banksPowerUp s) := by
  unfold banksPowerUp
  extract_lets keep mem
  refine h.change id id id id (fun w => ?_) id
  unfold mem
  split
  · exact memZero_wf _ _ _ w
  · exact memZero_wf _ _ _ w

theorem banksLost_safe (h : Safe s₀ s) : Safe s₀ (banksLost s) := h.change id id id id (memZero_wf _ _ _) id

theorem proofPass_safe (h : Safe s₀ s) : Safe s₀ (proofPass s) := raiseEv_safe h.upd

theorem proofAdvance_safe (h : Safe s₀ s) : Safe s₀ (proofAdvance s) := by
  unfold proofAdvance
  extract_lets
  refine .ite h.upd ?_
  split
  · exact proofPass_safe h.upd
  · exact h.upd

theorem execProofWindowStart_safe (h : Safe s₀ s) : SafeNext s₀ (execProofWindowStart s) := by
  unfold execProofWindowStart
  refine .next ?_
  refine .ite ?_ h
  split
  · exact .ite h (proofPass_safe h)
  · exact .ite h.upd h.upd

theorem proofStop_safe (h : Safe s₀ s) : Safe s₀ (proofStop s) := .ite h.upd h

theorem proofRead_safe {b : Nat} {found : MemErr} (h : Safe s₀ s) : Safe s₀ (proofRead b found s) := by
  unfold proofRead
  split
  · exact h
  · exact .ite (correctWord_safe h) h
  · exact .ite (lostWord_safe h) h

theorem proofMarch_safe {b : Nat} {found : MemErr} (h : Safe s₀ s) : Safe s₀ (proofMarch b found s) := by
  unfold proofMarch
  split
  · exact h
  · exact raiseEv_safe h.upd

theorem execProofWindowDone_safe {found : MemErr} (h : Safe s₀ s) : SafeNext s₀ (execProofWindowDone found s) :=
  .next (.ite h (proofAdvance_safe (.ite (proofRead_safe h.upd) (proofMarch_safe h.upd))))

theorem proofYield_safe {b : Nat} (h : Safe s₀ s) : Safe s₀ (proofYield b s) :=
  .ite (proofAdvance_safe h.upd) h.upd

theorem proofMeets_safe {b off : Nat} (h : Safe s₀ s) : Safe s₀ (proofMeets b off s) := by
  unfold proofMeets
  split
  · exact h
  · exact .ite (proofYield_safe h) h

theorem ddrError_safe {addr : Nat} {double : Bool} (h : Safe s₀ s) : Safe s₀ (ddrError addr double s) :=
  .ite (raiseEv_safe h) (raiseLimited_safe h)

theorem execDdrPatrolScrub_safe {addr : Nat} {err : MemErr} (h : Safe s₀ s) :
    SafeNext s₀ (execDdrPatrolScrub addr err s) := by
  unfold execDdrPatrolScrub
  refine .next (.ite h ?_)
  split
  · exact h
  · exact ddrError_safe h
  · exact ddrError_safe h

theorem clearCount_safe {off : Nat} (h : Safe s₀ s) : Safe s₀ (clearCount off s) := .ite h.upd h.upd

theorem execBankErrCountWrite_safe {b : Nat} (h : Safe s₀ s) : SafeNext s₀ (execBankErrCountWrite b s) :=
  .next (.ite h.upd h)

theorem execMtxConflictWrite_safe {m g : Nat} (h : Safe s₀ s) : SafeNext s₀ (execMtxConflictWrite m g s) :=
  .next (.ite h.upd h)

theorem execPrivatePortWrite_safe {anvil : Anvil} {addr : Nat} {value : Word} (h : Safe s₀ s) :
    SafeNext s₀ (execPrivatePortWrite anvil addr value s) :=
  .next (.ite (h.change id id id id (memWriteList_wf _ _ _) id) h)

/-! ### Forge -/

theorem noteIdle_safe (h : Safe s₀ s) : Safe s₀ (noteIdle s) := .ite h h.upd

theorem rebaseTags_safe (h : Safe s₀ s) : Safe s₀ (rebaseTags s) := by
  unfold rebaseTags
  split
  · exact h
  · exact h.upd

theorem forgeUp_safe (h : Safe s₀ s) : Safe s₀ (forgeUp s) := .ite (rebaseTags_safe h.upd) h

theorem execForgeTimedWake_safe (h : Safe s₀ s) : SafeNext s₀ (execForgeTimedWake s) :=
  .next (.ite (wakeForge_safe h) h)

theorem execForgeLanesReady_safe (h : Safe s₀ s) : SafeNext s₀ (execForgeLanesReady s) :=
  .next (.ite (forgeUp_safe (banksWake_safe h.upd)) h)

theorem execForgeCoresResumed_safe (h : Safe s₀ s) : SafeNext s₀ (execForgeCoresResumed s) :=
  .next (.ite (forgeUp_safe h.upd) h)

theorem execForgeSleepStart_safe (h : Safe s₀ s) : SafeNext s₀ (execForgeSleepStart s) := .next (.ite h.upd h)

theorem pathAsleep_safe (h : Safe s₀ s) : Safe s₀ (pathAsleep s) := .ite h.upd h

theorem execForgeSleepComplete_safe (h : Safe s₀ s) : SafeNext s₀ (execForgeSleepComplete s) :=
  .next (.ite (pathAsleep_safe (banksSleep_safe (proofStop_safe h).upd)) h)

theorem execPcieLinkStateChange_safe {st : PcieLink} (h : Safe s₀ s) :
    SafeNext s₀ (execPcieLinkStateChange st s) :=
  .next h.upd

/-! ### Export -/

theorem ringChanged_safe (h : Safe s₀ s) : Safe s₀ (ringChanged s) := by
  unfold ringChanged
  extract_lets s1
  have hs1 : Safe s₀ s1 := auditLevels_safe h
  exact .ite (schedStop_safe hs1) hs1

theorem execAuditTransfer_safe {n : Nat} (h : Safe s₀ s) : SafeNext s₀ (execAuditTransfer n s) :=
  .next (.ite (ringChanged_safe (moveRecords_safe h)).upd h)

theorem execAuditGapRecord_safe (h : Safe s₀ s) : SafeNext s₀ (execAuditGapRecord s) := .next (gapIfDue_safe h)

theorem execCheckpointSign_safe (h : Safe s₀ s) : SafeNext s₀ (execCheckpointSign s) :=
  .next (.ite (ringChanged_safe (signBlock_safe h)) h)

theorem execSealComplete_safe (h : Safe s₀ s) : SafeNext s₀ (execSealComplete s) := by
  unfold execSealComplete
  refine .next ?_
  split
  · exact h
  · extract_lets -underBinder
    refine .ite h ?_
    split
    · exact raiseEv_safe (audit_safe (audit_safe (auditBody_safe (gapIfDue_safe (turnEpoch_safe h)).upd))).upd

theorem flushAudit_safe (h : Safe s₀ s) : Safe s₀ (flushAudit s) := .ite h h.upd

theorem restoreAudit_safe (h : Safe s₀ s) : Safe s₀ (restoreAudit s) := by
  unfold restoreAudit
  extract_lets _ _ _ _ s2 _ _ s4
  have hs2 : Safe s₀ s2 := .ite (closeEpoch_safe h.upd) h.upd
  have hs4 : Safe s₀ s4 := placeWaiting_safe (gapIfDue_safe (openEpoch_safe hs2.upd))
  exact .ite (raiseEv_safe hs4) hs4

theorem answerPart_safe {ses : Nat} {data : List Byte} {total : Nat} (h : Safe s₀ s) :
    Safe s₀ (answerPart ses data total s) :=
  h.upd

theorem takeSnapshot_safe {ses key : Nat} {value : List Byte} {want : Nat} (h : Safe s₀ s) :
    Safe s₀ (takeSnapshot ses key value want s) :=
  answerPart_safe h.upd

theorem takeChunk_safe {ses : Nat} {c : Chunk} (h : Safe s₀ s) : Safe s₀ (takeChunk ses c s) :=
  forEach_safe (fun _ _ ht => raiseEv_safe ht.upd) h.upd

theorem execAuditExportRead_safe {ses : Nat} {damage : List Damage} (h : Safe s₀ s) :
    SafeNext s₀ (execAuditExportRead ses damage s) :=
  .next (.ite h (.ite (reply_safe h) (takeSnapshot_safe (takeChunk_safe h.upd))))

theorem execAuditExportAck_safe {ses seq : Nat} (h : Safe s₀ s) : SafeNext s₀ (execAuditExportAck ses seq s) :=
  .next (gated_safe (fun _ hs => .ite (reply_safe hs) (reply_safe (ringChanged_safe hs.upd))) h)

theorem execAuditReadFromWrite_safe {ses seq : Nat} (h : Safe s₀ s) :
    SafeNext s₀ (execAuditReadFromWrite ses seq s) :=
  .next (gated_safe (fun _ hs => .ite (reply_safe hs.upd) (reply_safe hs)) h)

theorem takeReadFrom_safe {ses seq : Nat} (h : Safe s₀ s) : Safe s₀ (takeReadFrom ses seq s) := .ite h.upd h

theorem hmFeed_safe {w : Writer} {c off n : Nat} {value : Word} (h : Safe s₀ s) :
    Safe s₀ (hmFeed w c off n value s) :=
  .ite h.upd (rejectWrite_safe h)

theorem execHmOpen_safe {c : Nat} (h : Safe s₀ s) : SafeNext s₀ (execHmOpen c s) := .next (.ite h.upd h)

theorem execHmAbort_safe {c : Nat} (h : Safe s₀ s) : SafeNext s₀ (execHmAbort c s) := .next (.ite h.upd h)

theorem execHmDataB_safe {w : Writer} {c : Nat} {value : Word} (h : Safe s₀ s) :
    SafeNext s₀ (execHmDataB w c value s) :=
  .next (.ite (hmFeed_safe h) h)

theorem execHmDataH_safe {w : Writer} {c : Nat} {value : Word} (h : Safe s₀ s) :
    SafeNext s₀ (execHmDataH w c value s) :=
  .next (.ite (hmFeed_safe h) h)

theorem execHmDataW_safe {w : Writer} {c : Nat} {value : Word} (h : Safe s₀ s) :
    SafeNext s₀ (execHmDataW w c value s) :=
  .next (.ite (hmFeed_safe h) h)

theorem execHmResultRead_safe {c : Nat} (h : Safe s₀ s) : SafeNext s₀ (execHmResultRead c s) := .next (.ite h.upd h)

/-! ### Keeper -/

theorem anvilEvent_safe {src : Nat} {v : Anvil} {cause : Nat} (h : Safe s₀ s) :
    Safe s₀ (anvilEvent src v cause s) :=
  raiseEv_safe h

theorem changeState_safe {k : KState} {cause : Nat} (h : Safe s₀ s) : Safe s₀ (changeState k cause s) :=
  audit_safe (raiseEv_safe h.upd)

theorem resetLanes_safe {v : Anvil} (h : Safe s₀ s) : Safe s₀ (resetLanes v s) := by
  unfold resetLanes
  split
  · exact h.upd
  · exact h.upd

theorem resetAnvil_safe {v : Anvil} (h : Safe s₀ s) : Safe s₀ (resetAnvil v s) := resetLanes_safe (setAnvil_safe h)

theorem updateNow_safe {bad : List (Anvil × Nat × Nat)} {v : Anvil} {e : Nat} (h : Safe s₀ s) :
    Safe s₀ (updateNow bad v e s) :=
  (selectCode_safe (putLoop_safe h)).upd

theorem takeOverElem_safe {v : Anvil} {e : Nat} (h : Safe s₀ s) : Safe s₀ (takeOverElem v e s) :=
  .ite (updateNow_safe (putLoop_safe h)) h

theorem rebuildElem_safe {v : Anvil} {e : Nat} (h : Safe s₀ s) : Safe s₀ (rebuildElem v e s) :=
  updateNow_safe (putLoop_safe h)

theorem startRebuild_safe {v : Anvil} (h : Safe s₀ s) : Safe s₀ (startRebuild v s) :=
  anvilEvent_safe (setAnvil_safe h).upd

theorem rebuildIfWaiting_safe {v : Anvil} (h : Safe s₀ s) : Safe s₀ (rebuildIfWaiting v s) :=
  .ite (startRebuild_safe h) h

theorem enterFailStatic_safe {cause : Nat} (h : Safe s₀ s) : Safe s₀ (enterFailStatic cause s) :=
  raiseEv_safe (changeState_safe h.upd)

theorem failAnvil_safe {v : Anvil} {cause : Nat} {wait : Bool} (h : Safe s₀ s) :
    Safe s₀ (failAnvil v cause wait s) := by
  unfold failAnvil
  extract_lets _ _ s1
  have hs1 : Safe s₀ s1 := setAnvil_safe h
  exact .ite (setAnvil_safe hs1) (.ite (setAnvil_safe hs1) (resetAnvil_safe hs1))

theorem outEvent_safe {v : Anvil} {cause : Nat} (h : Safe s₀ s) : Safe s₀ (outEvent v cause s) :=
  .ite (anvilEvent_safe h) h

theorem declareFailed_safe {v : Anvil} {cause lost : Nat} (h : Safe s₀ s) :
    Safe s₀ (declareFailed v cause lost s) := by
  unfold declareFailed
  extract_lets _ _ _ _ _ _ s1
  have hs1 : Safe s₀ s1 := failAnvil_safe h.upd
  exact .ite (forEach_safe (fun _ _ => takeOverElem_safe) (outEvent_safe (anvilEvent_safe hs1)).upd)
    (.ite (schedStop_safe (outEvent_safe (rebuildIfWaiting_safe (anvilEvent_safe (enterFailStatic_safe hs1.upd)))))
    (outEvent_safe (anvilEvent_safe (.ite (changeState_safe hs1) hs1))))

theorem resyncFail_safe {v : Anvil} (h : Safe s₀ s) : Safe s₀ (resyncFail v s) :=
  rebuildIfWaiting_safe (outEvent_safe (anvilEvent_safe (failAnvil_safe h.upd)))

theorem execAnvilHeartbeatLoss_safe {anvil : Anvil} (h : Safe s₀ s) :
    SafeNext s₀ (execAnvilHeartbeatLoss anvil s) :=
  .next (.ite h (.ite (declareFailed_safe h) (.ite (resyncFail_safe h) h)))

theorem execSignatureMismatch_safe {_aImpl _bImpl : Nat} (h : Safe s₀ s) :
    SafeNext s₀ (execSignatureMismatch _aImpl _bImpl s) := by
  unfold execSignatureMismatch
  refine .next ?_
  split
  · exact h
  · extract_lets -underBinder
    refine .ite h ?_
    refine .ite ?_ (.ite (resyncFail_safe h.upd) (.ite (resyncFail_safe h.upd) h.upd))
    split
    · exact raiseEv_safe (declareFailed_safe h.upd)
    · exact raiseEv_safe (declareFailed_safe h.upd)

theorem execFailover_safe (h : Safe s₀ s) : SafeNext s₀ (execFailover s) := by
  unfold execFailover
  refine .next ?_
  split
  · exact h
  · exact .ite (changeState_safe (setAnvil_safe h).upd) h

theorem enterResync_safe {v : Anvil} (h : Safe s₀ s) : Safe s₀ (enterResync v s) := wakeForge_safe (setAnvil_safe h).upd

theorem execAnvilSelftestDone_safe {anvil : Anvil} {pass : Bool} (h : Safe s₀ s) :
    SafeNext s₀ (execAnvilSelftestDone anvil pass s) :=
  .next (.ite h (.ite (.ite (setAnvil_safe h) (.ite (.ite (setAnvil_safe h) (startRebuild_safe h))
    (enterResync_safe h))) (.ite (setAnvil_safe h) (anvilEvent_safe (setAnvil_safe h)))))

theorem resyncStart_safe {v : Anvil} (h : Safe s₀ s) : Safe s₀ (resyncStart v s) :=
  .ite (anvilEvent_safe (setAnvil_safe (enterResync_safe h))) h

theorem execResyncCopyDone_safe {ok : Bool} (h : Safe s₀ s) : SafeNext s₀ (execResyncCopyDone ok s) := by
  unfold execResyncCopyDone
  refine .next ?_
  split
  · exact h
  · exact .ite (setAnvil_safe h) (resyncFail_safe h)

theorem execResyncLive_safe {ok : Bool} (h : Safe s₀ s) : SafeNext s₀ (execResyncLive ok s) := by
  unfold execResyncLive
  refine .next ?_
  split
  · exact h
  · exact .ite (setAnvil_safe h).upd (resyncFail_safe h)

theorem execAnvilStandby_safe {anvil : Anvil} (h : Safe s₀ s) : SafeNext s₀ (execAnvilStandby anvil s) := by
  unfold execAnvilStandby
  refine .next ?_
  extract_lets _ _ _ _ s2
  have hs2 : Safe s₀ s2 := anvilEvent_safe (changeState_safe (setAnvil_safe h).upd)
  exact .ite (.ite hs2.upd hs2) h

theorem exchange_safe {cause : Nat} (h : Safe s₀ s) : Safe s₀ (exchange cause s) := by
  unfold exchange
  split
  · exact h
  · exact anvilEvent_safe (changeState_safe (setAnvil_safe (setAnvil_safe h)).upd)

theorem execKprRevert_safe (h : Safe s₀ s) : SafeNext s₀ (execKprRevert s) := by
  unfold execKprRevert
  refine .next ?_
  split
  · exact h
  · exact .ite (raiseEv_safe (exchange_safe h)) h

theorem removeAnvil_safe {v : Anvil} (h : Safe s₀ s) : Safe s₀ (removeAnvil v s) := by
  unfold removeAnvil
  extract_lets _ _ _ s1
  have hs1 : Safe s₀ s1 := (setAnvil_safe (.ite h.upd h)).upd
  exact rebuildIfWaiting_safe (anvilEvent_safe (.ite (changeState_safe hs1) hs1))

theorem swapIfAsked_safe (h : Safe s₀ s) : Safe s₀ (swapIfAsked s) := by
  unfold swapIfAsked
  refine .ite ?_ h
  extract_lets rm s1
  have hs1 : Safe s₀ s1 := exchange_safe h
  clear_value rm
  split
  · exact hs1
  · exact removeAnvil_safe hs1

theorem execKprSwap_safe {ses value : Nat} (h : Safe s₀ s) : SafeNext s₀ (execKprSwap ses value s) :=
  .next (gated_safe (fun _ hs => .ite (reply_safe hs) (.ite (reply_safe hs) (reply_safe hs.upd))) h)

theorem execKprRestart_safe {ses value : Nat} (h : Safe s₀ s) : SafeNext s₀ (execKprRestart ses value s) :=
  .next (gated_safe (fun s hs => by
      extract_lets _ _ _ s1 s2
      have hs1 : Safe s₀ s1 := resetAnvil_safe (setAnvil_safe hs).upd
      have hs2 : Safe s₀ s2 := rebuildIfWaiting_safe hs1.upd
      exact .ite (reply_safe hs) (.ite (reply_safe hs) (.ite (reply_safe hs)
        (reply_safe (.ite (changeState_safe hs2) hs2))))) h)

theorem execKprRemove_safe {ses value : Nat} (h : Safe s₀ s) : SafeNext s₀ (execKprRemove ses value s) :=
  .next (gated_safe (fun _ hs => .ite (reply_safe hs) (.ite (reply_safe hs)
    (.ite (.ite (reply_safe hs.upd) (reply_safe hs)) (reply_safe (removeAnvil_safe hs))))) h)

theorem restartFailed_safe {v : Anvil} (h : Safe s₀ s) : Safe s₀ (restartFailed v s) := .ite (resetAnvil_safe h) h

theorem execRebuildComplete_safe {anvil : Anvil} (h : Safe s₀ s) : SafeNext s₀ (execRebuildComplete anvil s) := by
  unfold execRebuildComplete
  refine .next ?_
  extract_lets _ _ _ _ _ s3
  have hs3 : Safe s₀ s3 := restartFailed_safe (raiseEv_safe (changeState_safe (setAnvil_safe h).upd))
  exact .ite (.ite hs3 (forEach_safe (fun _ _ => rebuildElem_safe) hs3)) h

theorem execKeeperLost_safe (h : Safe s₀ s) : SafeNext s₀ (execKeeperLost s) := .next (.ite h (raiseEv_safe h.upd))

theorem execNoDriveSource_safe (h : Safe s₀ s) : SafeNext s₀ (execNoDriveSource s) :=
  .next (.ite (raiseEv_safe h.upd) h)

theorem demote_safe {v : Anvil} (h : Safe s₀ s) : Safe s₀ (demote v s) := .ite (setAnvil_safe h) h

theorem execKeeperRestored_safe (h : Safe s₀ s) : SafeNext s₀ (execKeeperRestored s) := by
  unfold execKeeperRestored
  refine .next (.ite h ?_)
  extract_lets -underBinder k s1
  have hs1 : Safe s₀ s1 := by
    unfold s1
    clear_value k
    split
    · exact demote_safe h
    · exact demote_safe h
    · exact .ite h h.upd
    · exact h
  exact raiseEv_safe hs1.upd

theorem releaseAnvils_safe (h : Safe s₀ s) : Safe s₀ (releaseAnvils s) :=
  forEach_safe (fun _ _ ht => setAnvil_safe (resetAnvil_safe ht)) h

theorem keeperInit_safe (h : Safe s₀ s) : Safe s₀ (keeperInit s) := .ite h.upd (raiseEv_safe h.upd)

theorem execKeeperLeaveInit_safe (h : Safe s₀ s) : SafeNext s₀ (execKeeperLeaveInit s) := by
  unfold execKeeperLeaveInit
  refine .next ?_
  extract_lets _ _ _ _ _ _ s1
  have hs1 : Safe s₀ s1 := setAnvil_safe h.upd
  exact .ite (.ite (.ite (anvilEvent_safe (changeState_safe (setAnvil_safe hs1))) (changeState_safe hs1))
    (.ite (changeState_safe (setAnvil_safe h.upd)) (enterFailStatic_safe h.upd))) h

/-! ### Thermal -/

theorem judge_safe {i : Nat} (h : Safe s₀ s) : Safe s₀ (judge i s) := .ite h.upd h.upd

theorem refreshFans_safe (h : Safe s₀ s) : Safe s₀ (refreshFans s) := forEach_safe (fun _ _ ht => ht.upd) h

theorem makeForced_safe (h : Safe s₀ s) : Safe s₀ (makeForced s) := .ite h h.upd

theorem stopBatches_safe (h : Safe s₀ s) : Safe s₀ (stopBatches s) := by
  unfold stopBatches
  extract_lets _ s2
  have hs2 : Safe s₀ s2 := replanStale_safe (forEach_safe (fun _ _ => failBatch_safe) h)
  exact .ite (makeForced_safe hs2) hs2

theorem stageActions_safe {old new : Nat} (h : Safe s₀ s) : Safe s₀ (stageActions old new s) := by
  unfold stageActions
  extract_lets s1 s2
  have hs1 : Safe s₀ s1 := .ite (stopBatches_safe h) h
  have hs2 : Safe s₀ s2 := .ite (schedHalt_safe hs1) hs1
  exact refreshFans_safe (.ite hs2.upd hs2)

theorem restage_safe (h : Safe s₀ s) : Safe s₀ (restage s) := by
  unfold restage
  extract_lets -underBinder
  split
  · exact .ite h (.ite h.upd (stageActions_safe (audit_safe (raiseEv_safe h.upd))))

theorem moveTq_safe {st : Nat} (h : Safe s₀ s) : Safe s₀ (moveTq st s) :=
  forEach_safe (fun e t ht => by
      extract_lets
      split
      · exact ht.upd
      · exact .ite ht.upd ht) h

theorem tripSample_safe (h : Safe s₀ s) : Safe s₀ (tripSample s) := h.upd

theorem execThmSample_safe {samples : List (Nat × Int)} (h : Safe s₀ s) :
    SafeNext s₀ (execThmSample samples s) := by
  unfold execThmSample
  refine .next (.ite h ?_)
  extract_lets s1 _ _ _ s4
  have hs1 : Safe s₀ s1 := forEach_safe (fun _ _ ht => .ite ht.upd ht) h
  have hs4 : Safe s₀ s4 := tripSample_safe (forEach_safe (fun _ _ hs => hs.upd)
    (forEach_safe (fun _ _ hs => hs.upd) (forEach_safe (fun _ _ => judge_safe) hs1.upd)))
  exact refreshFans_safe (restage_safe (.ite (forEach_safe (fun _ _ => moveTq_safe) hs4) hs4))

theorem refreshBlind_safe (h : Safe s₀ s) : Safe s₀ (refreshBlind s) :=
  restage_safe (forEach_safe (fun _ _ ht => .ite ht (.ite (raiseEv_safe ht.upd) ht.upd)) h)

theorem execThmSensorSuspect_safe {i : Nat} (h : Safe s₀ s) : SafeNext s₀ (execThmSensorSuspect i s) :=
  .next (.ite (refreshBlind_safe (raiseEv_safe h.upd)) h)

theorem execThmSensorRestored_safe {i : Nat} (h : Safe s₀ s) : SafeNext s₀ (execThmSensorRestored i s) :=
  .next (.ite (refreshBlind_safe (raiseEv_safe h.upd)) h)

theorem execThmConditionChange_safe {z : Nat} {c : ThmCond} (h : Safe s₀ s) :
    SafeNext s₀ (execThmConditionChange z c s) :=
  .next (.ite h (restage_safe (forEach_safe (fun _ _ ht => ht.upd) h)))

theorem zoneEnChanged_safe {z : Nat} (h : Safe s₀ s) : Safe s₀ (zoneEnChanged z s) := restage_safe (.ite h h.upd)

theorem execThmTrip_safe {i : Nat} (h : Safe s₀ s) : SafeNext s₀ (execThmTrip i s) :=
  .next (.ite h (stageActions_safe (raiseEv_safe (raiseEv_safe (freezeAll_safe h.upd)))))

theorem termsChanged_safe {e old new : Nat} (h : Safe s₀ s) : Safe s₀ (termsChanged e old new s) :=
  .ite h (.ite (queueTarget_safe h.upd) h.upd)

theorem execCompensationApply_safe {e : Nat} (h : Safe s₀ s) : SafeNext s₀ (execCompensationApply e s) := by
  unfold execCompensationApply
  refine .next ?_
  extract_lets -underBinder
  split
  · exact h
  · exact .ite (.ite h.upd (termsChanged_safe h.upd)) h

theorem execFanRpmUpdate_safe {f edges : Nat} (h : Safe s₀ s) : SafeNext s₀ (execFanRpmUpdate f edges s) :=
  .next (.ite h h.upd)

theorem execThmFanStall_safe {f : Nat} (h : Safe s₀ s) : SafeNext s₀ (execThmFanStall f s) :=
  .next (.ite (refreshFans_safe (raiseEv_safe h.upd)) h)

theorem execThmFanRestored_safe {f : Nat} (h : Safe s₀ s) : SafeNext s₀ (execThmFanRestored f s) :=
  .next (.ite (refreshFans_safe (raiseEv_safe h.upd)) h)

/-! ### Periods -/

theorem dropRates_safe {units was : Nat} (h : Safe s₀ s) : Safe s₀ (dropRates units was s) := .ite h h.upd

theorem chanEdges_safe {n : Nat} {glitch : Bool} {e : Nat} (h : Safe s₀ s) : Safe s₀ (chanEdges n glitch e s) :=
  .ite h.upd h.upd

theorem auxEdges_safe {n a : Nat} (h : Safe s₀ s) : Safe s₀ (auxEdges n a s) := .ite h h.upd

theorem runModulators_safe {was : Nat} (h : Safe s₀ s) : Safe s₀ (runModulators was s) :=
  forEach_safe (fun _ _ => auxEdges_safe) (forEach_safe (fun _ _ => chanEdges_safe) h)

theorem readWindow_safe {was e : Nat} (h : Safe s₀ s) : Safe s₀ (readWindow was e s) :=
  .ite (.ite h.upd h) (.ite h (.ite h.upd (.ite h.upd h.upd)))

theorem auxWindow_safe {a : Nat} (h : Safe s₀ s) : Safe s₀ (auxWindow a s) := .ite h.upd h

theorem readWindows_safe {was : Nat} (h : Safe s₀ s) : Safe s₀ (readWindows was s) :=
  .ite (forEach_safe (fun _ _ => auxWindow_safe) (forEach_safe (fun _ _ => readWindow_safe) h)) h

theorem readBack_safe {l : List (Nat × Nat)} {e : Nat} (h : Safe s₀ s) : Safe s₀ (readBack l e s) := by
  unfold readBack
  extract_lets
  split
  · exact h
  · exact .ite h.upd h.upd

theorem auxReadBack_safe {l : List (Nat × Nat)} {a : Nat} (h : Safe s₀ s) : Safe s₀ (auxReadBack l a s) := by
  unfold auxReadBack
  extract_lets
  split
  · exact h
  · exact .ite h.upd h

theorem auxRamp_safe {a : Nat} (h : Safe s₀ s) : Safe s₀ (auxRamp a s) := .ite h h.upd

theorem takeBeat_safe {l : List BeatReport} {transit : Bool} {peer : Nat} {v : Anvil} (h : Safe s₀ s) :
    Safe s₀ (takeBeat l transit peer v s) :=
  setAnvil_safe h

theorem linkSuspect_safe (h : Safe s₀ s) : Safe s₀ (linkSuspect s) := .ite (raiseLimited_safe h.upd) h

theorem takeBeats_safe {l : List BeatReport} {transit : Bool} (h : Safe s₀ s) :
    Safe s₀ (takeBeats l transit s) := by
  unfold takeBeats
  extract_lets _ s1
  have hs1 : Safe s₀ s1 := linkSuspect_safe (takeBeat_safe (takeBeat_safe h))
  exact .ite hs1.upd hs1.upd

theorem takeLane_safe {r : LaneReport} (h : Safe s₀ s) : Safe s₀ (takeLane r s) := by
  unfold takeLane
  extract_lets _ _ _ _ _ _ _ _ _ s2
  have hs2 : Safe s₀ s2 := setAnvil_safe h.upd
  exact .ite h (.ite (raiseEv_safe hs2) hs2)

theorem laneClean_safe {l : List LaneReport} {v : Anvil} {n : Nat} (h : Safe s₀ s) :
    Safe s₀ (laneClean l v n s) :=
  .ite h (.ite h h.upd)

theorem takeLanes_safe {transit : Bool} {l : List LaneReport} (h : Safe s₀ s) :
    Safe s₀ (takeLanes transit l s) :=
  forEach_safe (fun _ _ => laneClean_safe) (forEach_safe (fun _ _ => laneClean_safe)
    (forEach_safe (fun _ _ => takeLane_safe) h))

theorem runElem_safe {bad : List (Anvil × Nat × Nat)} {late : List Nat} {transit : Bool} {v : Anvil} {e : Nat}
    (h : Safe s₀ s) :
    Safe s₀ (runElem bad late transit v e s) :=
  .ite h.upd (.ite h (updateNow_safe (handIfWaiting_safe h.upd)))

theorem runLoops_safe {bad : List (Anvil × Nat × Nat)} {late : List Nat} {transit : Bool} {es : List Nat}
    (h : Safe s₀ s) :
    Safe s₀ (runLoops bad late transit es s) := by
  unfold runLoops
  split
  · exact h
  · exact .ite h (forEach_safe (fun _ _ => runElem_safe) h)

theorem settleElem_safe {e : Nat} (h : Safe s₀ s) : Safe s₀ (settleElem e s) :=
  .ite h (.ite (elemSettled_safe h.upd) h.upd)

theorem thaw_safe {e : Nat} (h : Safe s₀ s) : Safe s₀ (thaw e s) := .ite h.upd h

theorem takeValue_safe {l : List (Nat × Nat)} {e : Nat} (h : Safe s₀ s) : Safe s₀ (takeValue l e s) := by
  unfold takeValue
  extract_lets _ _ new
  clear_value new
  split
  · exact h
  · exact h.upd

theorem takeTransit_safe {l : List (Nat × Nat)} (h : Safe s₀ s) : Safe s₀ (takeTransit l s) :=
  forEach_safe (fun _ _ ht => .ite ht.upd ht) (.ite (forEach_safe (fun _ _ => takeValue_safe) h) h)

theorem comeBack_safe {e : Nat} (h : Safe s₀ s) : Safe s₀ (comeBack e s) :=
  .ite h (.ite (enterTransit_safe h.upd) (.ite (enterTransit_safe h.upd) h))

theorem leaveFallback_safe {e : Nat} (h : Safe s₀ s) : Safe s₀ (leaveFallback e s) := .ite h.upd (.ite h.upd h)

theorem noteDefer_safe (h : Safe s₀ s) : Safe s₀ (noteDefer s) := by
  unfold noteDefer
  split
  · exact h
  · exact .ite (raiseEv_safe h.upd) h

theorem transitWork_safe {inp : PeriodInput} {was : Nat} (h : Safe s₀ s) : Safe s₀ (transitWork inp was s) := by
  unfold transitWork
  extract_lets s1 s2 _ _ _ _ s6
  have hs1 : Safe s₀ s1 := readWindows_safe (runModulators_safe h)
  have hs2 : Safe s₀ s2 := .ite (takeBeats_safe hs1) hs1
  have hs6 : Safe s₀ s6 := dropRates_safe (forEach_safe (fun _ _ => leaveFallback_safe)
    (forEach_safe (fun _ _ => thaw_safe) (forEach_safe (fun _ _ => settleElem_safe)
    (forEach_safe (fun _ _ => privateError_safe) (takeTransit_safe hs2.upd)))))
  exact retryReroute_safe (forEach_safe (fun _ _ => auxRamp_safe) (forEach_safe (fun _ _ => comeBack_safe)
    (runLoops_safe (.ite (takeLanes_safe hs6) hs6))))

theorem takeHold_safe (h : Safe s₀ s) : Safe s₀ (takeHold s) := forEach_safe (fun _ _ ht => .ite ht ht.upd) h

theorem takeCarriers_safe {l : List (Nat × Nat)} (h : Safe s₀ s) : Safe s₀ (takeCarriers l s) :=
  forEach_safe (fun _ _ ht => .ite ht.upd ht) h.upd

theorem changeMode_safe {e : Nat} (h : Safe s₀ s) : Safe s₀ (changeMode e s) := by
  unfold changeMode
  extract_lets
  refine .ite h.upd ?_
  split
  · exact .ite h.upd h.upd
  · exact h.upd
  · exact .ite h.upd h.upd
  · split
    · exact h.upd
    · exact .ite h.upd h.upd
    · exact h.upd
    · exact h.upd

theorem openDrive_safe {e : Nat} (h : Safe s₀ s) : Safe s₀ (openDrive e s) := by
  unfold openDrive
  extract_lets _ _ s1
  have hs1 : Safe s₀ s1 := .ite h.upd h
  exact .ite hs1.upd hs1

theorem takeTarget_safe {e : Nat} (h : Safe s₀ s) : Safe s₀ (takeTarget e s) := by
  unfold takeTarget
  extract_lets _ _ _ l
  refine .ite h ?_
  refine .ite h.upd ?_
  clear_value l
  split
  · exact h.upd
  · exact h.upd

theorem takeLimits_safe {e : Nat} (h : Safe s₀ s) : Safe s₀ (takeLimits e s) := .ite h h.upd

theorem runIntoTrim_safe {bad : List (Anvil × Nat × Nat)} {v : Anvil} {e : Nat} (h : Safe s₀ s) :
    Safe s₀ (runIntoTrim bad v e s) :=
  (selectCode_safe (putLoop_safe (handIfWaiting_safe h.upd))).upd

theorem handFailover_safe {es : List Nat} (h : Safe s₀ s) : Safe s₀ (handFailover es s) :=
  .ite (forEach_safe (fun _ _ => putLoop_safe) h.upd) h

theorem runHold_safe {inp : PeriodInput} (h : Safe s₀ s) : Safe s₀ (runHold inp s) := by
  unfold runHold
  extract_lets -underBinder
  split
  · exact h
  · exact .ite h (forEach_safe (fun _ _ ht => .ite (runIntoTrim_safe ht) (runElem_safe ht)) (handFailover_safe h))

theorem takeAux_safe {a : Nat} (h : Safe s₀ s) : Safe s₀ (takeAux a s) := by
  unfold takeAux
  extract_lets
  refine .ite h ?_
  split
  · exact h
  · exact auxJump_safe h.upd

theorem holdWork_safe {inp : PeriodInput} {stretched : Bool} {slot was : Nat} (h : Safe s₀ s) :
    Safe s₀ (holdWork inp stretched slot was s) := by
  unfold holdWork
  extract_lets s1 _ _ _ _ _ s3
  have hs1 : Safe s₀ s1 := .ite h (takeBeats_safe h)
  have hs3 : Safe s₀ s3 := issueSlot_safe (measureHold_safe hs1.upd)
  exact swapIfAsked_safe (resyncStart_safe (resyncStart_safe (forEach_safe (fun _ _ => takeAux_safe)
    (runHold_safe (takeLanes_safe (dropRates_safe (forEach_safe (fun _ _ => thaw_safe)
    (forEach_safe (fun _ _ ht => takeLimits_safe (takeTarget_safe (openDrive_safe ht)))
    (forEach_safe (fun _ _ => changeMode_safe) (forEach_safe (fun _ _ => settleElem_safe)
    (takeCarriers_safe (forEach_safe (fun _ _ => privateError_safe) (takeHold_safe hs3.upd)))))))))))))

theorem nextHold_safe (h : Safe s₀ s) : Safe s₀ (nextHold s) := h.upd

theorem watchHold_safe {inp : PeriodInput} (h : Safe s₀ s) : Safe s₀ (watchHold inp s) := by
  unfold watchHold
  exact holdWork_safe (nextHold_safe (forEach_safe (fun _ _ => auxReadBack_safe)
    (forEach_safe (fun _ _ => readBack_safe) h)))

theorem execTrimBoundary_safe (h : Safe s₀ s) : SafeNext s₀ (execTrimBoundary s) :=
  .next (.ite h (.ite (trimStep_safe h.upd) h.upd))

/-! ### Clock -/

theorem qualityChange_safe {new : Quality} {cause : Nat} (h : Safe s₀ s) :
    Safe s₀ (qualityChange new cause s) :=
  audit_safe (raiseEv_safe h.upd)

theorem qualityNote_safe {cause : Nat} (h : Safe s₀ s) : Safe s₀ (qualityNote cause s) := audit_safe h

theorem unlock_safe {cause : Nat} (h : Safe s₀ s) : Safe s₀ (unlock cause s) := .ite (qualityChange_safe h.upd) h.upd

theorem retune_safe (h : Safe s₀ s) : Safe s₀ (retune s) := .ite (raiseEv_safe h.upd) h.upd

theorem freqToHold_safe (h : Safe s₀ s) : Safe s₀ (freqToHold s) := retune_safe h.upd

theorem loseRef_safe (h : Safe s₀ s) : Safe s₀ (loseRef s) := freqToHold_safe (unlock_safe h.upd)

theorem servoChanged_safe {oldCtrl : Nat} (h : Safe s₀ s) : Safe s₀ (servoChanged oldCtrl s) := by
  unfold servoChanged
  extract_lets _ _ _ _ s1 _ s2
  have hs1 : Safe s₀ s1 := .ite h.upd (.ite h.upd h)
  have hs2 : Safe s₀ s2 := .ite hs1 hs1.upd
  exact .ite (.ite (loseRef_safe hs2) (retune_safe hs2)) (retune_safe hs2)

theorem requestStep_safe {o : Int} (h : Safe s₀ s) : Safe s₀ (requestStep o s) := freqToHold_safe (unlock_safe h.upd)

theorem servoLaw_safe {o : Int} {dt : Nat} (h : Safe s₀ s) : Safe s₀ (servoLaw o dt s) := retune_safe h.upd

theorem holdMean_safe (h : Safe s₀ s) : Safe s₀ (holdMean s) := .ite h.upd h

theorem countLock_safe {o : Int} (h : Safe s₀ s) : Safe s₀ (countLock o s) :=
  .ite (qualityChange_safe h.upd) (.ite (unlock_safe h.upd) h.upd)

theorem newRef_safe {src : Nat} (h : Safe s₀ s) : Safe s₀ (newRef src s) := .ite h (qualityNote_safe h.upd)

theorem takeOffset_safe {src : Nat} {o : Int} (h : Safe s₀ s) : Safe s₀ (takeOffset src o s) := by
  unfold takeOffset
  refine .ite h ?_
  extract_lets -underBinder s0
  have hs0 : Safe s₀ s0 := newRef_safe h
  split
  · exact hs0.upd
  · exact .ite hs0.upd (.ite (.ite (requestStep_safe hs0.upd) (freqToHold_safe (unlock_safe hs0.upd)))
      (holdMean_safe (countLock_safe (.ite hs0.upd (servoLaw_safe hs0.upd)))))

theorem stepBatch_safe {old : Instant} {b : Batch} (h : Safe s₀ s) : Safe s₀ (stepBatch old b s) :=
  .ite h (.ite h.upd (.ite h (.ite h.upd (.ite h.upd (failBatch_safe h)))))

theorem stepBatches_safe {old : Instant} (h : Safe s₀ s) : Safe s₀ (stepBatches old s) := by
  unfold stepBatches
  extract_lets _ s1 left
  have hs1 : Safe s₀ s1 := forEach_safe (fun _ _ => stepBatch_safe) h
  refine replanStale_safe ?_
  clear_value left
  split
  · exact hs1
  · exact stagger_safe hs1

theorem beaconLate_safe {j : Nat} (h : Safe s₀ s) : Safe s₀ (beaconLate j s) := raiseEv_safe h.upd

theorem stepArmed_safe {j : Nat} (h : Safe s₀ s) : Safe s₀ (stepArmed j s) := by
  unfold stepArmed
  extract_lets
  split
  · exact h
  · exact .ite (beaconLate_safe h) h.upd

theorem stepRunning_safe {j : Nat} (h : Safe s₀ s) : Safe s₀ (stepRunning j s) :=
  .ite h (.ite h.upd (.ite h.upd (.ite (beaconLate_safe h) h.upd)))

theorem stepBeacon_safe {j : Nat} (h : Safe s₀ s) : Safe s₀ (stepBeacon j s) := stepArmed_safe (stepRunning_safe h)

theorem stepQuality_safe {load : Bool} (h : Safe s₀ s) : Safe s₀ (stepQuality load s) := by
  unfold stepQuality
  refine .ite (qualityChange_safe h.upd) ?_
  split
  · exact qualityChange_safe h
  · exact qualityChange_safe h
  · exact h

theorem applyStep_safe {r : TimeReq} (h : Safe s₀ s) : Safe s₀ (applyStep r s) := by
  unfold applyStep
  extract_lets _ _ _ _ _ _ s1 s2 _ s3 s4 s5 s7 s8
  have hs1 : Safe s₀ s1 := h.upd
  have hs3 : Safe s₀ s3 := raiseEv_safe (stepQuality_safe hs1)
  have hs4 : Safe s₀ s4 := .ite (raiseEv_safe hs3) hs3
  have hs7 : Safe s₀ s7 := schedRealign_safe (stepBatches_safe (audit_safe hs4))
  have hs8 : Safe s₀ s8 := forEach_safe (fun _ _ => stepBeacon_safe) hs7
  exact hs8.upd

theorem loadSet_safe {t : Instant} (h : Safe s₀ s) : Safe s₀ (loadSet t s) := setReg_safe (setReg_safe (setReg_safe h))

theorem execTimeStepApply_safe (h : Safe s₀ s) : SafeNext s₀ (execTimeStepApply s) := by
  unfold execTimeStepApply
  refine .next ?_
  split
  · exact h
  · exact .ite (applyStep_safe h) h
  · exact .ite (applyStep_safe (loadSet_safe h)) h

theorem execStepDeferTimeout_safe (h : Safe s₀ s) : SafeNext s₀ (execStepDeferTimeout s) :=
  .next (.ite (makeForced_safe h) h)

theorem forceStep_safe (h : Safe s₀ s) : Safe s₀ (forceStep s) := .ite (makeForced_safe h) h

theorem execTimeForce_safe {_w : Writer} (h : Safe s₀ s) : SafeNext s₀ (execTimeForce _w s) := .next (forceStep_safe h)

theorem execTimeLoad_safe {_w : Writer} (h : Safe s₀ s) : SafeNext s₀ (execTimeLoad _w s) := .next (.ite h.upd h)

theorem execTimeNowNsRead_safe {l : Link} {at_ : Instant} (h : Safe s₀ s) :
    SafeNext s₀ (execTimeNowNsRead l at_ s) :=
  .next (.ite h h.upd)

theorem execCalWrite_safe {_w : Writer} (h : Safe s₀ s) : SafeNext s₀ (execCalWrite _w s) := .next (.ite h.upd h)

theorem execCalendarWrite_safe (h : Safe s₀ s) : SafeNext s₀ (execCalendarWrite s) := .next (.ite h.upd h)

theorem execPpsInEdge_safe {stamp : Instant} (h : Safe s₀ s) : SafeNext s₀ (execPpsInEdge stamp s) :=
  .next (.ite h (takeOffset_safe h.upd))

theorem execPpsLost_safe (h : Safe s₀ s) : SafeNext s₀ (execPpsLost s) := .next (.ite (raiseEv_safe (loseRef_safe h)) h)

theorem execRefclkLost_safe (h : Safe s₀ s) : SafeNext s₀ (execRefclkLost s) := .next (.ite (raiseEv_safe h.upd) h)

theorem execRefclkRestored_safe (h : Safe s₀ s) : SafeNext s₀ (execRefclkRestored s) :=
  .next (.ite (raiseEv_safe h.upd) h)

theorem execUtcOffsetChange_safe (h : Safe s₀ s) : SafeNext s₀ (execUtcOffsetChange s) :=
  .next (.ite h (qualityNote_safe (raiseEv_safe h.upd)))

/-! ### Capture -/

theorem execTsInEdge_safe {i : Nat} {rising : Bool} {stamp : Instant} (h : Safe s₀ s) :
    SafeNext s₀ (execTsInEdge i rising stamp s) :=
  .next (.ite h (.ite h.upd (.ite h.upd (.ite h.upd (raiseEv_safe h.upd)))))

theorem readCapture_safe {i : Nat} (h : Safe s₀ s) : Safe s₀ (readCapture i s) := by
  unfold readCapture
  extract_lets
  split
  · exact h.upd
  · exact h.upd

theorem execTimeCapNsRead_safe {i : Nat} (h : Safe s₀ s) : SafeNext s₀ (execTimeCapNsRead i s) :=
  .next (.ite (readCapture_safe h) h)

theorem armBeacon_safe {w : Writer} {j : Nat} (h : Safe s₀ s) : Safe s₀ (armBeacon w j s) :=
  .ite (rejectWrite_safe h) (.ite (beaconLate_safe h) h.upd)

theorem execBeaconArm_safe {w : Writer} {j : Nat} (h : Safe s₀ s) : SafeNext s₀ (execBeaconArm w j s) :=
  .next (.ite (armBeacon_safe h) h)

theorem execBeaconStop_safe {j : Nat} (h : Safe s₀ s) : SafeNext s₀ (execBeaconStop j s) := .next (.ite h.upd h)

theorem applyBeacon_safe {j : Nat} (h : Safe s₀ s) : Safe s₀ (applyBeacon j s) := by
  unfold applyBeacon
  extract_lets
  split
  · exact h
  · exact h.upd

theorem execBeaconEdge_safe {j : Nat} (h : Safe s₀ s) : SafeNext s₀ (execBeaconEdge j s) := by
  unfold execBeaconEdge
  refine .next ?_
  extract_lets
  refine .ite h ?_
  split
  · exact .ite h.upd h
  · exact .ite h.upd h
  · exact h

/-! ### Gates -/

theorem scheduleGate_safe {p : Nat} (h : Safe s₀ s) : Safe s₀ (scheduleGate p s) := by
  unfold scheduleGate
  extract_lets
  split
  · exact h
  · exact h.upd

theorem execGateCommit_safe {ses p value : Nat} (h : Safe s₀ s) : SafeNext s₀ (execGateCommit ses p value s) :=
  .next (gated_safe (fun _ hs => .ite (reply_safe hs) (.ite (reply_safe hs.upd)
    (reply_safe (.ite (scheduleGate_safe hs.upd) hs.upd)))) h)

theorem setGateEnable_safe {p value : Nat} (h : Safe s₀ s) : Safe s₀ (setGateEnable p value s) :=
  .ite (scheduleGate_safe h.upd) h.upd

theorem execGateEnableWrite_safe {ses p value : Nat} (h : Safe s₀ s) :
    SafeNext s₀ (execGateEnableWrite ses p value s) :=
  .next (gated_safe (fun _ hs => hs.upd) h)

theorem applyGateList_safe {p : Nat} (h : Safe s₀ s) : Safe s₀ (applyGateList p s) := by
  unfold applyGateList
  extract_lets
  split
  · exact h
  · exact .ite h (raiseEv_safe h.upd)

theorem execGateListApply_safe {p : Nat} (h : Safe s₀ s) : SafeNext s₀ (execGateListApply p s) :=
  .next (.ite (applyGateList_safe h) h)

theorem execGateRealign_safe {p : Nat} (h : Safe s₀ s) : SafeNext s₀ (execGateRealign p s) := by
  unfold execGateRealign
  refine .next ?_
  extract_lets
  split
  · exact h
  · exact .ite h.upd h

theorem execGateEntryAdvance_safe {p : Nat} (h : Safe s₀ s) : SafeNext s₀ (execGateEntryAdvance p s) := by
  unfold execGateEntryAdvance
  refine .next ?_
  extract_lets
  split
  · exact h
  · exact .ite h.upd h

theorem dropOversize_safe {p : Nat} (h : Safe s₀ s) : Safe s₀ (dropOversize p s) := .ite (raiseEv_safe h.upd) h.upd

theorem sendRecord_safe {p : Nat} (h : Safe s₀ s) : Safe s₀ (sendRecord p s) := by
  unfold sendRecord
  split
  · exact h.upd
  · split
    · exact h
    · exact h.upd

theorem execEgressFrameStart_safe {p cls len : Nat} (h : Safe s₀ s) :
    SafeNext s₀ (execEgressFrameStart p cls len s) := by
  unfold execEgressFrameStart
  refine .next (.ite h ?_)
  extract_lets _ _ s0
  have hs0 : Safe s₀ s0 := .ite (takeFree_safe h) h
  exact .ite (dropOversize_safe hs0) (.ite hs0 (.ite hs0.upd (.ite (sendRecord_safe hs0.upd) hs0.upd)))

/-! ### Admit -/

theorem poolFallen_safe {ses : Nat} (h : Safe s₀ s) : Safe s₀ (poolFallen ses s) := .ite (raiseEv_safe h.upd) h

theorem takeBuffers_safe {ses c : Nat} (h : Safe s₀ s) : Safe s₀ (takeBuffers ses c s) := poolFallen_safe h.upd

theorem poolRisen_safe (h : Safe s₀ s) : Safe s₀ (poolRisen s) := .ite h.upd h

theorem freeBuffers_safe {ses c : Nat} (h : Safe s₀ s) : Safe s₀ (freeBuffers ses c s) := poolRisen_safe h.upd

theorem complete_safe {r tag len st : Nat} (h : Safe s₀ s) : Safe s₀ (complete r tag len st s) := .ite h.upd h.upd

theorem respond_safe {ses : Nat} {r : Req} {x : Resp} (h : Safe s₀ s) : Safe s₀ (respond ses r x s) :=
  .ite h.upd (.ite (complete_safe h).upd (.ite h.upd (.ite h.upd h.upd)))

theorem turnAway_safe {ses : Nat} {r : Req} {st : Nat} (h : Safe s₀ s) : Safe s₀ (turnAway ses r st s) :=
  freeBuffers_safe (respond_safe h)

theorem dedup_safe {ses : Nat} {r : Req} (h : Safe s₀ s) (ht : dedup ses r s = some t) : Safe s₀ t := by
  unfold dedup at ht
  split at ht
  · cases ht
  · dsimp only at ht
    split at ht
    · split at ht
      · cases ht
        exact turnAway_safe (raiseEv_safe h)
      · cases ht
    · split at ht
      · split at ht
        · cases ht
          exact freeBuffers_safe h
        · cases ht
          exact freeBuffers_safe (respond_safe h.upd)
      · cases ht
        exact turnAway_safe h

theorem police_safe {ses : Nat} {r : Req} (h : Safe s₀ s) : Safe s₀ (police ses r s) :=
  turnAway_safe (.ite (raiseEv_safe h.upd) h.upd)

theorem placeHead_safe {ses : Nat} {control : Bool} (h : Safe s₀ s) : Safe s₀ (placeHead ses control s) := by
  unfold placeHead
  extract_lets -underBinder
  split
  · exact h
  · exact h.upd

theorem enqueue_safe {ses : Nat} {r : Req} (h : Safe s₀ s) : Safe s₀ (enqueue ses r s) := by
  unfold enqueue
  extract_lets _ _ _ _ s2
  have hs2 : Safe s₀ s2 := .ite (placeHead_safe h.upd) h.upd
  exact wakeForge_safe (.ite hs2 hs2.upd)

theorem arrive_safe {ses : Nat} {r : Req} (h : Safe s₀ s) : Safe s₀ (arrive ses r s) := by
  unfold arrive
  split
  · next t ht => exact dedup_safe h ht
  · exact .ite (enqueue_safe h) (.ite (police_safe h.upd) (enqueue_safe h.upd))

theorem execPoolAdmit_safe {ses len : Nat} (h : Safe s₀ s) : SafeNext s₀ (execPoolAdmit ses len s) :=
  .next (.ite (takeBuffers_safe h.upd) h)

theorem execRequestEligible_safe {ses : Nat} {control : Bool} (h : Safe s₀ s) :
    SafeNext s₀ (execRequestEligible ses control s) := by
  unfold execRequestEligible
  refine .next ?_
  extract_lets
  split
  · exact h
  · exact .ite h.upd h

theorem serve_safe {ses : Nat} {control : Bool} (h : Safe s₀ s) : Safe s₀ (serve ses control s) := by
  unfold serve
  extract_lets -underBinder
  split
  · exact h
  · exact placeHead_safe h.upd

theorem execRequestServe_safe (h : Safe s₀ s) : SafeNext s₀ (execRequestServe s) := by
  unfold execRequestServe
  refine .next (.ite h ?_)
  split
  · exact h
  · exact serve_safe h

theorem execRequestComplete_safe {ses : Nat} {control : Bool} (h : Safe s₀ s) :
    SafeNext s₀ (execRequestComplete ses control s) := by
  unfold execRequestComplete
  refine .next ?_
  extract_lets -underBinder
  split
  · exact freeBuffers_safe (respond_safe h.upd).upd
  · exact h

theorem execQsample_safe (h : Safe s₀ s) : SafeNext s₀ (execQsample s) :=
  .next (.ite h (forEach_safe (fun _ _ ht => .ite ht.upd ht) h.upd))

theorem readQstats_safe {ses of_ want : Nat} (h : Safe s₀ s) : Safe s₀ (readQstats ses of_ want s) :=
  takeSnapshot_safe h.upd

theorem execQstatsRead_safe {ses of_ : Nat} (h : Safe s₀ s) : SafeNext s₀ (execQstatsRead ses of_ s) :=
  .next (.ite (.ite (readQstats_safe h) (reply_safe h)) h)

/-! ### Housekeep -/

theorem hkcNext_safe {n at_ : Nat} (h : Safe s₀ s) : Safe s₀ (hkcNext n at_ s) := by
  unfold hkcNext
  extract_lets
  refine .ite h ?_
  refine .ite h.upd ?_
  split
  · exact h.upd
  · split
    · exact h.upd
    · exact .ite h.upd h

theorem hkcTake_safe {n : Nat} (h : Safe s₀ s) : Safe s₀ (hkcTake n s) := hkcNext_safe h.upd

theorem hkcGive_safe {n : Nat} (h : Safe s₀ s) : Safe s₀ (hkcGive n s) := hkcNext_safe h.upd

theorem hkcArm_safe {n : Nat} {value : Bool} {at_ : Nat} (h : Safe s₀ s) : Safe s₀ (hkcArm n value at_ s) :=
  .ite h (.ite h.upd h.upd)

theorem execHkcArmWrite_safe {n : Nat} {value : Bool} (h : Safe s₀ s) :
    SafeNext s₀ (execHkcArmWrite n value s) :=
  .next (.ite h.upd h)

theorem execHkcSoftTrig_safe {n : Nat} (h : Safe s₀ s) : SafeNext s₀ (execHkcSoftTrig n s) := .next (.ite h.upd h)

theorem execHkcTimerTrigger_safe {n : Nat} (h : Safe s₀ s) : SafeNext s₀ (execHkcTimerTrigger n s) :=
  .next (.ite h.upd h)

theorem execHkcFanEdgeTrigger_safe {n f : Nat} {rising : Bool} (h : Safe s₀ s) :
    SafeNext s₀ (execHkcFanEdgeTrigger n f rising s) := by
  unfold execHkcFanEdgeTrigger
  refine .next ?_
  split
  · exact h
  · exact .ite h.upd h

theorem hkcMiss_safe {n : Nat} (h : Safe s₀ s) : Safe s₀ (hkcMiss n s) := .ite h.upd (raiseEv_safe h.upd)

theorem execHkcTriggerEffect_safe {n : Nat} (h : Safe s₀ s) : SafeNext s₀ (execHkcTriggerEffect n s) := by
  unfold execHkcTriggerEffect
  refine .next ?_
  extract_lets
  split
  · exact h
  · exact .ite h (.ite (.ite (hkcMiss_safe h.upd) h.upd) (.ite (hkcMiss_safe h.upd) (hkcNext_safe h.upd)))

theorem hkcResult_safe {n : Nat} {c : Conv} {code : Nat} {exceeded suspect : Bool} (h : Safe s₀ s) :
    Safe s₀ (hkcResult n c code exceeded suspect s) :=
  raiseEv_safe (.ite (raiseEv_safe h.upd) h.upd)

theorem execHkcConversionDone_safe {n : Nat} {microvolt : Int} {_gapNs : Nat} (h : Safe s₀ s) :
    SafeNext s₀ (execHkcConversionDone n microvolt _gapNs s) := by
  unfold execHkcConversionDone
  refine .next ?_
  split
  · exact h
  · exact .ite h (hkcNext_safe (hkcResult_safe h).upd)

theorem hkcInject_safe {w : Writer} {n value : Nat} (h : Safe s₀ s) : Safe s₀ (hkcInject w n value s) :=
  .ite (rejectWrite_safe h) (hkcNext_safe h.upd)

theorem execHkcInjStart_safe {w : Writer} {n : Nat} {value : Word} (h : Safe s₀ s) :
    SafeNext s₀ (execHkcInjStart w n value s) :=
  .next (.ite (hkcInject_safe h) h)

theorem execHkcDataRead_safe {n : Nat} (h : Safe s₀ s) : SafeNext s₀ (execHkcDataRead n s) := .next (.ite h.upd h)

theorem execHkcClrCounts_safe {n : Nat} (h : Safe s₀ s) : SafeNext s₀ (execHkcClrCounts n s) := .next (.ite h.upd h)

/-! ### Calib -/

theorem calRecord_safe {type_ result slot reason seq unit : Nat} (h : Safe s₀ s) :
    Safe s₀ (calRecord type_ result slot reason seq unit s) :=
  audit_safe h

theorem freeElem_safe {e : Nat} (h : Safe s₀ s) : Safe s₀ (freeElem e s) := .ite h (.ite (enterTransit_safe h) h.upd)

theorem freeNext_safe (h : Safe s₀ s) : Safe s₀ (freeNext s) := by
  unfold freeNext
  split
  · exact h.upd
  · exact .ite h.upd (freeElem_safe h.upd)

theorem endSubst_safe (h : Safe s₀ s) : Safe s₀ (endSubst s) := .ite h h.upd

theorem nextClear_safe (h : Safe s₀ s) : Safe s₀ (nextClear s) := by
  unfold nextClear
  split
  · exact h
  · exact h.upd

theorem endRun_safe {r : CalRunSt} {result slot reason seq : Nat} (h : Safe s₀ s) :
    Safe s₀ (endRun r result slot reason seq s) := by
  unfold endRun
  extract_lets _ s1
  have hs1 : Safe s₀ s1 := calRecord_safe (endSubst_safe (forEach_safe (fun _ _ => hkcGive_safe) h)).upd
  exact nextClear_safe (freeNext_safe hs1.upd)

theorem abortRun_safe {r : CalRunSt} {reason unit : Nat} (h : Safe s₀ s) : Safe s₀ (abortRun r reason unit s) :=
  raiseEv_safe (endRun_safe (.ite h.upd h))

theorem moveAway_safe {r : CalRunSt} {planNs : Nat} (h : Safe s₀ s) : Safe s₀ (moveAway r planNs s) := by
  unfold moveAway
  extract_lets
  refine .ite h ?_
  split
  · exact abortRun_safe h.upd
  · exact submitMoves_safe h.upd

theorem beginMeasure_safe {r : CalRunSt} (h : Safe s₀ s) : Safe s₀ (beginMeasure r s) := moveAway_safe h.upd

theorem execCalRun_safe {ses : Nat} {value : List Byte} {planNs : Nat} (h : Safe s₀ s) :
    SafeNext s₀ (execCalRun ses value planNs s) :=
  .next (gated_safe (fun s hs => by
      refine .ite (reply_safe hs) ?_
      refine .ite (reply_safe hs) ?_
      extract_lets -underBinder
      split
      · exact reply_safe (calRecord_safe hs.upd)
      · extract_lets _ _ _ s3 s4
        have hs3 : Safe s₀ s3 := raiseEv_safe hs.upd
        have hs4 : Safe s₀ s4 := wakeForge_safe (forEach_safe (fun _ _ => hkcTake_safe)
          (.ite (forEach_safe (fun _ _ hs => hs.upd) hs3) hs3))
        exact reply_safe (.ite (beginMeasure_safe hs4) hs4)) h)

theorem execCalAbort_safe {ses value : Nat} (h : Safe s₀ s) : SafeNext s₀ (execCalAbort ses value s) :=
  .next (gated_safe (fun s hs => by
      split
      · exact reply_safe hs
      · exact .ite (reply_safe (abortRun_safe hs)) (reply_safe hs)) h)

theorem execCalPreconditionFail_safe {reason unit : Nat} (h : Safe s₀ s) :
    SafeNext s₀ (execCalPreconditionFail reason unit s) := by
  unfold execCalPreconditionFail
  refine .next ?_
  split
  · exact h
  · exact .ite (abortRun_safe h) h

theorem sweepTo_safe {t : Nat → Nat} {e : Nat} (h : Safe s₀ s) : Safe s₀ (sweepTo t e s) := .ite (queueTarget_safe h) h

theorem sweepBack_safe {us : List Nat} (h : Safe s₀ s) : Safe s₀ (sweepBack us s) :=
  forEach_safe (fun _ _ => sweepTo_safe) h

theorem execCalMeasureDone_safe {res : CalOutcome} (h : Safe s₀ s) : SafeNext s₀ (execCalMeasureDone res s) := by
  unfold execCalMeasureDone
  refine .next ?_
  split
  · exact h
  · refine .ite h ?_
    split
    · exact abortRun_safe h
    · extract_lets -underBinder _ _ s0 _ _ bad
      have hs0 : Safe s₀ s0 := endSubst_safe (.ite (sweepBack_safe h) h)
      clear_value bad
      split
      · exact raiseEv_safe (endRun_safe hs0.upd)
      · exact hs0.upd

theorem execCalStoreDone_safe {verified : Bool} (h : Safe s₀ s) : SafeNext s₀ (execCalStoreDone verified s) := by
  unfold execCalStoreDone
  refine .next ?_
  split
  · exact h
  · refine .ite h ?_
    split
    · exact abortRun_safe h
    · exact .ite h.upd (raiseEv_safe (endRun_safe h.upd))

theorem notchNeed_safe {e : Nat} (h : Safe s₀ s) : Safe s₀ (notchNeed e s) := by
  unfold notchNeed
  split
  · exact .ite (assignNotch_safe h) h
  · exact .ite h.upd (.ite (.ite h.upd (releaseNotch_safe h.upd)) h)

theorem swapElem_safe {t e old : Nat} (h : Safe s₀ s) : Safe s₀ (swapElem t e old s) := by
  unfold swapElem
  extract_lets _ _ s2 s3
  have hs2 : Safe s₀ s2 := forEach_safe (fun _ _ hv => hv.upd) (discardOffset_safe h.upd)
  have hs3 : Safe s₀ s3 := .ite (queueTarget_safe hs2) hs2
  exact .ite (notchNeed_safe hs3) hs3

theorem applyCal_safe {r : CalRunSt} (h : Safe s₀ s) : Safe s₀ (applyCal r s) :=
  .ite (.ite (swapLadder_safe h.upd).upd h.upd) (.ite (forEach_safe (fun _ _ => swapElem_safe) h.upd) h.upd)

theorem execCalSwap_safe (h : Safe s₀ s) : SafeNext s₀ (execCalSwap s) := by
  unfold execCalSwap
  refine .next ?_
  split
  · exact h
  · refine .ite h ?_
    split
    · exact abortRun_safe h
    · extract_lets s1
      have hs1 : Safe s₀ s1 := applyCal_safe h
      exact .ite (endRun_safe hs1) (raiseEv_safe (endRun_safe hs1.upd))

theorem execCalUserClear_safe {ses type_ : Nat} (h : Safe s₀ s) : SafeNext s₀ (execCalUserClear ses type_ s) :=
  .next (gated_safe (fun s hs => by
      split
      · exact .ite (reply_safe hs) (reply_safe hs.upd)
      · exact reply_safe (nextClear_safe hs.upd)) h)

theorem sweepStep_safe {r : CalRunSt} {k : Nat} (h : Safe s₀ s) : Safe s₀ (sweepStep r k s) := by
  unfold sweepStep
  extract_lets _ _ s1
  have hs1 : Safe s₀ s1 := .ite (sweepBack_safe h) h
  exact .ite (forEach_safe (fun _ _ => sweepTo_safe) hs1) hs1

theorem substStep_safe {k : Nat} (h : Safe s₀ s) : Safe s₀ (substStep k s) := by
  unfold substStep
  refine .ite h ?_
  extract_lets -underBinder s1
  have hs1 : Safe s₀ s1 := endSubst_safe h
  split
  · exact hs1
  · exact hs1.upd

theorem measureStep_safe {r : CalRunSt} (h : Safe s₀ s) : Safe s₀ (measureStep r s) := by
  unfold measureStep
  extract_lets _ s1
  have hs1 : Safe s₀ s1 := .ite (sweepStep_safe h) (.ite (substStep_safe h) h)
  exact hs1.upd

theorem calTick_safe (h : Safe s₀ s) : Safe s₀ (calTick s) := by
  unfold calTick
  extract_lets s1
  have hs1 : Safe s₀ s1 := .ite h (freeNext_safe h)
  split
  · exact hs1
  · refine .ite hs1 ?_
    split
    · exact abortRun_safe hs1
    · exact .ite (.ite (beginMeasure_safe hs1) hs1) (.ite (measureStep_safe hs1) hs1)

theorem bootSlot_safe {t layer k : Nat} (h : Safe s₀ s) : Safe s₀ (bootSlot t layer k s) :=
  .ite h (calRecord_safe (raiseEv_safe h))

theorem bootType_safe {unit t : Nat} (h : Safe s₀ s) : Safe s₀ (bootType unit t s) := by
  unfold bootType
  extract_lets s1 _ _ s2
  have hs1 : Safe s₀ s1 := bootSlot_safe (bootSlot_safe (bootSlot_safe (bootSlot_safe h)))
  have hs2 : Safe s₀ s2 := hs1.upd
  exact .ite (calRecord_safe hs2.upd) hs2

theorem bootCal_safe (h : Safe s₀ s) : Safe s₀ (bootCal s) := by
  unfold bootCal
  extract_lets _ _ s1 _ s2
  have hs1 : Safe s₀ s1 := forEach_safe (fun _ _ => bootSlot_safe) (forEach_safe (fun _ _ => bootType_safe) h.upd)
  have hs2 : Safe s₀ s2 := forEach_safe (fun _ _ => raiseEv_safe) hs1
  exact hs2.upd

/-! ### Banks -/

theorem rejectBank_safe {w : Writer} {b : Nat} (h : Safe s₀ s) : Safe s₀ (rejectBank w b s) := rejectWrite_safe h

theorem bankRetain_safe {b : Nat} {ret : Bool} (h : Safe s₀ s) : Safe s₀ (bankRetain b ret s) :=
  .ite (.ite h.upd h) (.ite h (.ite h.upd (.ite h.upd h)))

theorem writeBankCtrl_safe {w : Writer} {b v : Nat} (h : Safe s₀ s) : Safe s₀ (writeBankCtrl w b v s) := by
  unfold writeBankCtrl
  refine .ite h ?_
  refine .ite (rejectBank_safe h) ?_
  extract_lets _ _ s1
  have hs1 : Safe s₀ s1 := (setReg_safe h).upd
  exact .ite hs1 hs1.upd

theorem execBankOwnerWrite_safe {w : Writer} {b : Nat} {value : Word} (h : Safe s₀ s) :
    SafeNext s₀ (execBankOwnerWrite w b value s) :=
  .next (.ite (writeBankCtrl_safe h) h)

theorem execBankRetWrite_safe {w : Writer} {b : Nat} {ret : Bool} (h : Safe s₀ s) :
    SafeNext s₀ (execBankRetWrite w b ret s) :=
  .next (.ite (writeBankCtrl_safe h) h)

theorem execBankHandoverTimeout_safe {b : Nat} (h : Safe s₀ s) : SafeNext s₀ (execBankHandoverTimeout b s) := by
  unfold execBankHandoverTimeout
  refine .next ?_
  split
  · exact h
  · refine .ite h ?_
    extract_lets _ _ _ _ s2
    have hs2 : Safe s₀ s2 := setReg_safe h.upd
    exact raiseEv_safe (.ite hs2.upd hs2)

/-! ### Links -/

theorem openSession_safe {n link role : Nat} {peer : List Byte} (h : Safe s₀ s) :
    Safe s₀ (openSession n link role peer s) :=
  raiseEv_safe h.upd

theorem clearSession_safe {n : Nat} (h : Safe s₀ s) : Safe s₀ (clearSession n s) := poolRisen_safe h.upd

theorem closeSession_safe {n reason : Nat} (h : Safe s₀ s) : Safe s₀ (closeSession n reason s) :=
  .ite (raiseEv_safe (clearSession_safe h)) h

theorem refuseSession_safe {link : Nat} (h : Safe s₀ s) : Safe s₀ (refuseSession link s) := raiseLimited_safe h

theorem execSessionClose_safe {ses : Nat} {reason : CloseReason} (h : Safe s₀ s) :
    SafeNext s₀ (execSessionClose ses reason s) :=
  .next (.ite h.upd (.ite (closeSession_safe h) h))

theorem execV2SessionIdle_safe {ses : Nat} (h : Safe s₀ s) : SafeNext s₀ (execV2SessionIdle ses s) :=
  .next (.ite (closeSession_safe h) h)

theorem quotaDrop_safe {ses : Nat} (h : Safe s₀ s) : Safe s₀ (quotaDrop ses s) := .ite (raiseEv_safe h.upd) h.upd

theorem receiveV2_safe {n : Nat} {frame : List Byte} (h : Safe s₀ s) : Safe s₀ (receiveV2 n frame s) :=
  .ite h.upd (.ite (quotaDrop_safe h.upd) (arrive_safe (takeBuffers_safe h.upd)))

theorem execV2FrameReceive_safe {p : Nat} {peer frame : List Byte} (h : Safe s₀ s) :
    SafeNext s₀ (execV2FrameReceive p peer frame s) := by
  unfold execV2FrameReceive
  refine .next (.ite h ?_)
  extract_lets s0
  have hs0 : Safe s₀ s0 := wakeForge_safe h
  split
  · exact receiveV2_safe hs0
  · refine .ite hs0.upd ?_
    split
    · exact refuseSession_safe hs0
    · exact receiveV2_safe (openSession_safe hs0)

theorem execV3FrameReceive_safe {ses : Nat} {frame : List Byte} (h : Safe s₀ s) :
    SafeNext s₀ (execV3FrameReceive ses frame s) := by
  unfold execV3FrameReceive
  refine .next ?_
  extract_lets _ _ s0 s1
  have hs0 : Safe s₀ s0 := wakeForge_safe h
  have hs1 : Safe s₀ s1 := .ite (takeBuffers_safe hs0) hs0.upd
  exact .ite h (.ite (closeSession_safe hs0.upd) (.ite hs0.upd (.ite (freeBuffers_safe hs1.upd) (arrive_safe hs1))))

theorem execNetworkEcho_safe {p : Nat} {request : List Byte} (h : Safe s₀ s) :
    SafeNext s₀ (execNetworkEcho p request s) :=
  .next (.ite h.upd h)

theorem execTcpConnect_safe {p : Nat} (h : Safe s₀ s) : SafeNext s₀ (execTcpConnect p s) := by
  unfold execTcpConnect
  refine .next (.ite h ?_)
  extract_lets s0
  have hs0 : Safe s₀ s0 := wakeForge_safe h
  split
  · exact refuseSession_safe hs0
  · exact hs0.upd

theorem refuseTls_safe {n reason : Nat} (h : Safe s₀ s) : Safe s₀ (refuseTls n reason s) := raiseEv_safe h.upd

theorem execTlsHandshake_safe {p : Nat} {peer : List Byte} {anchor : Option Nat} {failed : Bool} (h : Safe s₀ s) :
    SafeNext s₀ (execTlsHandshake p peer anchor failed s) := by
  unfold execTlsHandshake
  refine .next ?_
  split
  · exact h
  · refine .ite (refuseTls_safe h) ?_
    split
    · exact refuseTls_safe h
    · exact .ite (refuseTls_safe h) (openSession_safe h)

theorem execMbxReqTail_safe {r tail : Nat} (h : Safe s₀ s) : SafeNext s₀ (execMbxReqTail r tail s) :=
  .next (.ite h.upd h)

theorem execMbxCplHead_safe {r head : Nat} (h : Safe s₀ s) : SafeNext s₀ (execMbxCplHead r head s) :=
  .next (.ite h.upd h)

theorem execMbxDescriptorFetch_safe {r : Nat} {desc frame : List Byte} (h : Safe s₀ s) :
    SafeNext s₀ (execMbxDescriptorFetch r desc frame s) := by
  unfold execMbxDescriptorFetch
  refine .next ?_
  extract_lets _ _ _ _ _ _ _ s2
  have hs2 : Safe s₀ s2 := .ite (takeBuffers_safe h.upd) h.upd
  exact .ite h (.ite h (.ite (complete_safe (freeBuffers_safe hs2)) (arrive_safe hs2)))

theorem startRing_safe {r : Nat} (h : Safe s₀ s) : Safe s₀ (startRing r s) := .ite (openSession_safe h.upd) h.upd

theorem stopRing_safe {r : Nat} (h : Safe s₀ s) : Safe s₀ (stopRing r s) :=
  closeSession_safe (setReg_safe (setReg_safe h)).upd

theorem writeMbxCtrl_safe {w : Writer} {r v : Nat} (h : Safe s₀ s) : Safe s₀ (writeMbxCtrl w r v s) :=
  .ite (rejectWrite_safe h) (setReg_safe h).upd

theorem mbxEnChanged_safe {r old : Nat} (h : Safe s₀ s) : Safe s₀ (mbxEnChanged r old s) :=
  .ite (startRing_safe h) (.ite (stopRing_safe h) h)

theorem execMbxEnWrite_safe {w : Writer} {r : Nat} {value : Word} (h : Safe s₀ s) :
    SafeNext s₀ (execMbxEnWrite w r value s) :=
  .next (.ite (writeMbxCtrl_safe h) h)

theorem execMbxDmaError_safe {r : Nat} (h : Safe s₀ s) : SafeNext s₀ (execMbxDmaError r s) :=
  .next (.ite (raiseEv_safe h.upd) h)

theorem execAexChunkWrite_safe {damage : List Damage} (h : Safe s₀ s) :
    SafeNext s₀ (execAexChunkWrite damage s) := by
  unfold execAexChunkWrite
  refine .next ?_
  extract_lets -underBinder
  refine .ite h ?_
  split
  · exact h
  · exact (takeChunk_safe h.upd).upd

theorem execMbxAexRd_safe {rd : Nat} (h : Safe s₀ s) : SafeNext s₀ (execMbxAexRd rd s) := .next (.ite h.upd h)

theorem writeAexCtrl_safe {w : Writer} {v : Nat} (h : Safe s₀ s) : Safe s₀ (writeAexCtrl w v s) :=
  .ite (rejectWrite_safe h) (setReg_safe h).upd

theorem aexEnChanged_safe {old : Nat} (h : Safe s₀ s) : Safe s₀ (aexEnChanged old s) := .ite (setReg_safe h).upd h

theorem execAexEnWrite_safe {w : Writer} {value : Word} (h : Safe s₀ s) :
    SafeNext s₀ (execAexEnWrite w value s) :=
  .next (.ite (writeAexCtrl_safe h) h)

theorem spiShort_safe (h : Safe s₀ s) : Safe s₀ (spiShort s) := raiseLimited_safe h.upd

theorem spiNext_safe {r : ERec} (h : Safe s₀ s) (hn : s.spiNext = some (r, t)) : Safe s₀ t := by
  unfold State.spiNext at hn
  split at hn
  · obtain ⟨x, -, hx⟩ := Option.map_eq_some_iff.1 hn
    cases hx
    exact h.upd
  · split at hn
    · cases hn
    · split at hn
      · cases hn
      · cases hn
        exact h.upd

theorem spiTake_safe {bytes : List Byte} {complete : Bool} (h : Safe s₀ s) :
    Safe s₀ (spiTake bytes complete s) := by
  unfold spiTake
  refine .ite (spiShort_safe h) ?_
  extract_lets _ _ _ s2
  have hs2 : Safe s₀ s2 := takeBuffers_safe h.upd
  exact .ite h.upd (.ite (arrive_safe hs2) (turnAway_safe hs2))

theorem execSpiRequest_safe {bytes : List Byte} {complete : Bool} (h : Safe s₀ s) :
    SafeNext s₀ (execSpiRequest bytes complete s) :=
  .next (.ite h (spiTake_safe h).upd)

theorem execSpiResponse_safe {complete : Bool} (h : Safe s₀ s) : SafeNext s₀ (execSpiResponse complete s) :=
  .next (.ite h (.ite (spiShort_safe h.upd) h.upd))

theorem execSpiEvent_safe {complete : Bool} (h : Safe s₀ s) : SafeNext s₀ (execSpiEvent complete s) := by
  unfold execSpiEvent
  refine .next (.ite h ?_)
  split
  · extract_lets s1
    have hs1 : Safe s₀ s1 := .ite h.upd (spiShort_safe h)
    exact hs1.upd
  · next r t hn =>
    extract_lets s1
    have hs1 : Safe s₀ s1 := .ite (spiNext_safe h hn).upd (spiShort_safe h)
    exact hs1.upd

theorem execSpiTime_safe {at_ : Instant} (h : Safe s₀ s) : SafeNext s₀ (execSpiTime at_ s) := .next (.ite h h.upd)

theorem execDedupExpire_safe (h : Safe s₀ s) : SafeNext s₀ (execDedupExpire s) := .next h.upd

theorem execSnapshotDiscard_safe {ses : Nat} (h : Safe s₀ s) : SafeNext s₀ (execSnapshotDiscard ses s) := by
  unfold execSnapshotDiscard
  refine .next ?_
  split
  · exact h
  · exact .ite h.upd h

theorem execSegmentAssemblyTimeout_safe {ses : Nat} (h : Safe s₀ s) :
    SafeNext s₀ (execSegmentAssemblyTimeout ses s) := by
  unfold execSegmentAssemblyTimeout
  refine .next ?_
  split
  · exact h
  · exact .ite h.upd h

/-! ### Ptp -/

theorem takeUtc_safe (h : Safe s₀ s) : Safe s₀ (takeUtc s) := by
  unfold takeUtc
  split
  · exact h
  · split
    · exact h
    · exact .ite h (qualityNote_safe h.upd)

theorem takeGm_safe (h : Safe s₀ s) : Safe s₀ (takeGm s) := by
  unfold takeGm
  split
  · exact h
  · exact .ite h (raiseEv_safe h.upd)

theorem takeSelection_safe {new : Option Nat} (h : Safe s₀ s) : Safe s₀ (takeSelection new s) :=
  .ite h.upd (servoChanged_safe (takeUtc_safe (takeGm_safe (raiseEv_safe h.upd))))

theorem evalSelection_safe (h : Safe s₀ s) : Safe s₀ (evalSelection s) := by
  unfold evalSelection
  extract_lets
  refine .ite (takeSelection_safe h) ?_
  refine .ite (takeUtc_safe (takeGm_safe h.upd)) ?_
  split
  · exact .ite (takeUtc_safe (takeGm_safe h)) (takeUtc_safe (takeGm_safe h.upd))
  · exact takeUtc_safe (takeGm_safe h.upd)

theorem execPtpSelHoldExpire_safe (h : Safe s₀ s) : SafeNext s₀ (execPtpSelHoldExpire s) := by
  unfold execPtpSelHoldExpire
  refine .next ?_
  split
  · exact h
  · exact .ite (takeSelection_safe h) h

theorem ptpEnter_safe {p st : Nat} (h : Safe s₀ s) : Safe s₀ (ptpEnter p st s) :=
  .ite h (evalSelection_safe (raiseEv_safe h.upd))

theorem ptpStart_safe {p : Nat} (h : Safe s₀ s) : Safe s₀ (ptpStart p s) := ptpEnter_safe (ptpEnter_safe h)

theorem ptpEnableChanged_safe {p : Nat} (h : Safe s₀ s) : Safe s₀ (ptpEnableChanged p s) :=
  .ite (ptpEnter_safe h) (.ite (ptpStart_safe h) h)

theorem execTimePllLock_safe (h : Safe s₀ s) : SafeNext s₀ (execTimePllLock s) := by
  unfold execTimePllLock
  refine .next (.ite h ?_)
  extract_lets _ _ _ _ _ _ _ _ s3
  have hs3 : Safe s₀ s3 := audit_safe (raiseEv_safe (raiseEv_safe h.upd))
  exact ptpEnableChanged_safe (ptpEnableChanged_safe (.ite hs3 (raiseEv_safe hs3)))

theorem calibrated_safe {p : Nat} (h : Safe s₀ s) : Safe s₀ (calibrated p s) := .ite (ptpEnter_safe h) h

theorem takeMaster_safe {p : Nat} {f : Foreign} (h : Safe s₀ s) : Safe s₀ (takeMaster p f s) :=
  .ite (evalSelection_safe h.upd) (.ite (evalSelection_safe h.upd) (ptpEnter_safe h.upd))

theorem execPtpAnnounceReceive_safe {p : Nat} {ds : MasterDs} {utc : UtcInfo} (h : Safe s₀ s) :
    SafeNext s₀ (execPtpAnnounceReceive p ds utc s) :=
  .next (.ite h (takeMaster_safe h))

theorem execAnnounceReceiptTimeout_safe {p : Nat} (h : Safe s₀ s) :
    SafeNext s₀ (execAnnounceReceiptTimeout p s) :=
  .next (.ite (ptpEnter_safe h) h)

theorem execMgtLinkChange_safe {p : Nat} {up : Bool} (h : Safe s₀ s) : SafeNext s₀ (execMgtLinkChange p up s) := by
  unfold execMgtLinkChange State.takeFree
  refine .next (.ite h ?_)
  dsimp only
  have hs1 {x : PtpPort} {b : List Byte} : Safe s₀ (raiseEv 0x502 b (s.takeFree.2.setPtp p x)) := raiseEv_safe h.upd
  exact .ite hs1 (.ite (.ite (ptpStart_safe hs1) hs1) (ptpEnter_safe hs1))

theorem portOffset_safe {p : Nat} {raw : Int} (h : Safe s₀ s) : Safe s₀ (portOffset p raw s) :=
  calibrated_safe (.ite (takeOffset_safe h.upd) h.upd)

theorem execPtpSyncReceive_safe {p : Nat} {twoStep : Bool} {seq : Nat} {offset : Int} (h : Safe s₀ s) :
    SafeNext s₀ (execPtpSyncReceive p twoStep seq offset s) :=
  .next (.ite h (.ite h.upd (portOffset_safe h)))

theorem execPtpFollowUpReceive_safe {p seq : Nat} {correction : Int} (h : Safe s₀ s) :
    SafeNext s₀ (execPtpFollowUpReceive p seq correction s) := by
  unfold execPtpFollowUpReceive
  refine .next (.ite h ?_)
  split
  · exact h
  · exact .ite (portOffset_safe h) h

theorem pushStamp_safe {p : Nat} {t : TxStamp} (h : Safe s₀ s) : Safe s₀ (pushStamp p t s) :=
  .ite h.upd (.ite h.upd (raiseEv_safe h.upd))

theorem execPtpDelayReqSend_safe {p seq : Nat} {egress : Instant} (h : Safe s₀ s) :
    SafeNext s₀ (execPtpDelayReqSend p seq egress s) :=
  .next (.ite h (pushStamp_safe h))

theorem takeDelay_safe {p : Nat} {d : Int} (h : Safe s₀ s) : Safe s₀ (takeDelay p d s) :=
  .ite (calibrated_safe h.upd) (.ite h.upd (.ite h.upd (ptpEnter_safe h.upd)))

theorem execPtpDelayRespReceive_safe {p seq : Nat} {delay : Int} (h : Safe s₀ s) :
    SafeNext s₀ (execPtpDelayRespReceive p seq delay s) := by
  unfold execPtpDelayRespReceive
  refine .next ?_
  extract_lets -underBinder
  refine .ite h ?_
  refine .ite ?_ (takeDelay_safe h)
  split
  · exact h
  · exact takeDelay_safe h.upd

theorem execPtpPdelayReqReceive_safe {p seq : Nat} {egress : Instant} (h : Safe s₀ s) :
    SafeNext s₀ (execPtpPdelayReqReceive p seq egress s) := by
  unfold execPtpPdelayReqReceive
  refine .next (.ite h ?_)
  extract_lets -underBinder s1
  have hs1 : Safe s₀ s1 := pushStamp_safe h
  split
  · exact hs1.upd
  · exact hs1.upd

theorem execTxqStaleRetire_safe {p : Nat} (h : Safe s₀ s) : SafeNext s₀ (execTxqStaleRetire p s) := .next (.ite h h.upd)

/-! ### Queues -/

theorem readData0_safe {q : Nat} (h : Safe s₀ s) : Safe s₀ (readData0 q s) := by
  unfold readData0
  extract_lets -underBinder
  refine .ite h.upd ?_
  split
  · exact h.upd
  · exact h.upd

theorem execEvtQData0Read_safe {q : Nat} (h : Safe s₀ s) : SafeNext s₀ (execEvtQData0Read q s) :=
  .next (.ite (readData0_safe h) h)

theorem takeQRd_safe {q rd : Nat} (h : Safe s₀ s) : Safe s₀ (takeQRd q rd s) := .ite h (.ite h.upd h)

theorem execEvtQRdWrite_safe {q rd : Nat} (h : Safe s₀ s) : SafeNext s₀ (execEvtQRdWrite q rd s) := .next (.ite h.upd h)

theorem execEvtSeqLoRead_safe (h : Safe s₀ s) : SafeNext s₀ (execEvtSeqLoRead s) := .next (.ite h.upd h)

/-! ### Power -/

theorem watchDown_safe (h : Safe s₀ s) : Safe s₀ (watchDown s) := (banksLost_safe (keeperInit_safe h)).upd

theorem alwaysNotches_safe (h : Safe s₀ s) : Safe s₀ (alwaysNotches s) :=
  forEach_safe (fun _ _ ht => .ite (assignNotch_safe ht) ht) h

theorem watchUp_safe (h : Safe s₀ s) : Safe s₀ (watchUp s) := by
  unfold watchUp
  extract_lets _ _ s2
  have hs2 : Safe s₀ s2 := releaseAnvils_safe (banksPowerUp_safe h.upd)
  exact .ite hs2 hs2.upd

theorem watchReturn_safe (h : Safe s₀ s) : Safe s₀ (watchReturn s) :=
  placeWaiting_safe (gapIfDue_safe (watchUp_safe h).upd)

theorem forgeOff_safe (h : Safe s₀ s) : Safe s₀ (forgeOff s) := (proofStop_safe h).upd

theorem execThmTripPowerOff_safe (h : Safe s₀ s) : SafeNext s₀ (execThmTripPowerOff s) := by
  unfold execThmTripPowerOff
  refine .next ?_
  split
  · exact h
  · exact .ite h (forgeOff_safe (watchDown_safe h)).upd

theorem tripReturn_safe (h : Safe s₀ s) : Safe s₀ (tripReturn s) :=
  refreshFans_safe (audit_safe (raiseEv_safe (watchReturn_safe h.upd)))

theorem execThmRestartReady_safe (h : Safe s₀ s) : SafeNext s₀ (execThmRestartReady s) := by
  unfold execThmRestartReady
  refine .next ?_
  refine .ite ?_ h
  extract_lets _ s1
  have hs1 : Safe s₀ s1 := raiseEv_safe h.upd
  exact .ite (tripReturn_safe hs1) hs1

theorem thermalRestart_safe {w : Writer} (h : Safe s₀ s) : Safe s₀ (thermalRestart w s) :=
  .ite (tripReturn_safe h) (rejectWrite_safe h)

theorem execThmRestart_safe {w : Writer} (h : Safe s₀ s) : SafeNext s₀ (execThmRestart w s) :=
  .next (.ite (thermalRestart_safe h) h)

theorem forgeLost_safe (h : Safe s₀ s) : Safe s₀ (forgeLost s) :=
  (forgeOff_safe h).change id (fun _ => Nat.zero_le _) id id id (fun _ => rfl)

theorem cold_safe (h : Safe s₀ s) : Safe s₀ (cold s) :=
  h.change (fun _ => Nat.zero_le _) (fun _ => Nat.zero_le _) (fun _ => Nat.zero_le _) (fun _ => Nat.zero_le _)
    (mapWfFrom_filter _ _ _ 0) (fun _ => rfl)

theorem breakTransition_safe (h : Safe s₀ s) : Safe s₀ (breakTransition s) := .ite h.upd h

theorem startUp_safe (h : Safe s₀ s) : Safe s₀ (startUp s) := .ite (watchUp_safe h) h

theorem execVauxGood_safe {vbat : Bool} {epochNow : Instant} (h : Safe s₀ s) :
    SafeNext s₀ (execVauxGood vbat epochNow s) :=
  .next (.ite h (startUp_safe (cold_safe h).upd))

theorem execVauxLost_safe {vbat : Bool} (h : Safe s₀ s) : SafeNext s₀ (execVauxLost vbat s) := by
  unfold execVauxLost
  extract_lets s1
  have hs1 : Safe s₀ s1 := cold_safe (.ite (breakTransition_safe h) (breakTransition_safe h).upd)
  exact .next (.ite h (hs1.change id id id id (fun _ => rfl) (fun _ => rfl)))

theorem execVmainGood_safe (h : Safe s₀ s) : SafeNext s₀ (execVmainGood s) := .next (.ite h (startUp_safe h.upd))

theorem execVmainLost_safe (h : Safe s₀ s) : SafeNext s₀ (execVmainLost s) := by
  unfold execVmainLost
  refine .next (.ite h ?_)
  extract_lets _ _ s2
  have hs2 : Safe s₀ s2 := forgeLost_safe (.ite h.upd h.upd)
  exact .ite (.ite (raiseEv_safe hs2) hs2) (schedHalt_safe (raiseEv_safe h.upd))

theorem execVmainFlushDone_safe (h : Safe s₀ s) : SafeNext s₀ (execVmainFlushDone s) := by
  unfold execVmainFlushDone
  refine .next (.ite h ?_)
  extract_lets s1
  have hs1 : Safe s₀ s1 := forgeLost_safe (watchDown_safe (flushAudit_safe (breakTransition_safe h)).upd)
  exact hs1.upd

theorem moduleReset_safe (h : Safe s₀ s) : Safe s₀ (moduleReset s) := cold_safe (breakTransition_safe h)

theorem beginReset_safe {cause : Nat} (h : Safe s₀ s) : Safe s₀ (beginReset cause s) := by
  unfold beginReset
  extract_lets _ _ _ s2
  have hs2 : Safe s₀ s2 := moduleReset_safe (.ite h.upd h.upd)
  exact .ite h.upd (startUp_safe hs2.upd)

theorem execModResetAssert_safe (h : Safe s₀ s) : SafeNext s₀ (execModResetAssert s) :=
  .next (.ite h (.ite h.upd (beginReset_safe h.upd)))

theorem execModResetFlushDone_safe (h : Safe s₀ s) : SafeNext s₀ (execModResetFlushDone s) :=
  .next (.ite h (startUp_safe (moduleReset_safe (flushAudit_safe h)).upd))

theorem execModResetRelease_safe (h : Safe s₀ s) : SafeNext s₀ (execModResetRelease s) :=
  .next (.ite h (startUp_safe h.upd))

theorem resetHostRings_safe (h : Safe s₀ s) : Safe s₀ (resetHostRings s) :=
  forEach_safe (fun _ _ ht => .ite ht.upd ht) h

theorem execPerstAssert_safe (h : Safe s₀ s) : SafeNext s₀ (execPerstAssert s) :=
  .next (.ite h (resetHostRings_safe (setReg_safe (setReg_safe (forEach_safe
    (fun _ _ ht => closeSession_safe (setReg_safe ht.upd)) h.upd)))).upd)

theorem execPerstRelease_safe (h : Safe s₀ s) : SafeNext s₀ (execPerstRelease s) := .next (.ite h.upd h)

theorem badKey_safe {w : Writer} (h : Safe s₀ s) : Safe s₀ (badKey w s) := rejectWrite_safe h

theorem execLcSwResetModule_safe {w : Writer} {key : Nat} (h : Safe s₀ s) :
    SafeNext s₀ (execLcSwResetModule w key s) :=
  .next (.ite h (.ite (badKey_safe h) (.ite h (beginReset_safe h))))

theorem watchReset_safe (h : Safe s₀ s) : Safe s₀ (watchReset s) :=
  .ite h.upd (watchReturn_safe (watchDown_safe (refreshImage_safe (forEach_safe (fun _ _ => failBatch_safe)
    (schedHalt_safe (moveRecords_safe h.upd))))))

theorem execLcSwResetWatch_safe {w : Writer} {key : Nat} (h : Safe s₀ s) :
    SafeNext s₀ (execLcSwResetWatch w key s) :=
  .next (.ite h (.ite (badKey_safe h) (watchReset_safe h)))

theorem forgeReset_safe (h : Safe s₀ s) : Safe s₀ (forgeReset s) := by
  unfold forgeReset
  extract_lets _ s1 _ s2
  have hs1 : Safe s₀ s1 := forEach_safe (fun _ _ => closeSession_safe) h.upd
  have hs2 : Safe s₀ s2 := hs1.upd
  exact hs2.upd

theorem execLcSwResetForge_safe {w : Writer} {key : Nat} (h : Safe s₀ s) :
    SafeNext s₀ (execLcSwResetForge w key s) :=
  .next (.ite h (.ite (badKey_safe h) (forgeReset_safe h)))

/-! ### Boot -/

theorem execBootImageVerify_safe (h : Safe s₀ s) : SafeNext s₀ (execBootImageVerify s) :=
  .next (.ite h (.ite h.upd (.ite h.upd (watchDown_safe h).upd)))

theorem bootConfig_safe (h : Safe s₀ s) : Safe s₀ (bootConfig s) :=
  alwaysNotches_safe (h.change id id (fun _ => Nat.zero_le _) id id id)

theorem bootGate_safe {p : Nat} (h : Safe s₀ s) : Safe s₀ (bootGate p s) :=
  .ite h.upd (.ite (scheduleGate_safe h.upd) h.upd)

theorem bootCfgs_safe (h : Safe s₀ s) : Safe s₀ (bootCfgs s) := h.upd

theorem execFirmwareRunning_safe {selftest : Bool} (h : Safe s₀ s) : SafeNext s₀ (execFirmwareRunning selftest s) := by
  unfold execFirmwareRunning
  extract_lets _ s1 s2 s3
  have hs1 : Safe s₀ s1 := h.upd
  have hs2 : Safe s₀ s2 := .ite (raiseEv_safe hs1) hs1
  have hs3 : Safe s₀ s3 := bootGate_safe (bootGate_safe (bootCfgs_safe (bootConfig_safe
    (bootCal_safe (restoreAudit_safe hs2)))))
  exact .next (.ite h hs3.upd)

theorem execStartupComplete_safe (h : Safe s₀ s) : SafeNext s₀ (execStartupComplete s) :=
  .next (.ite h (forEach_safe (fun _ _ ht => .ite (openSession_safe ht) ht) h.upd))

theorem execBootRecoveryLoad_safe {len : Nat} {image : List Byte} (h : Safe s₀ s) :
    SafeNext s₀ (execBootRecoveryLoad len image s) := by
  unfold execBootRecoveryLoad
  refine .next ?_
  extract_lets _ s1
  have hs1 : Safe s₀ s1 := setReg_safe h
  exact .ite hs1 (startUp_safe hs1.upd)

theorem execFwUpdateStart_safe {ses value : Nat} (h : Safe s₀ s) :
    SafeNext s₀ (execFwUpdateStart ses value s) :=
  .next (gated_safe (fun _ hs => .ite (reply_safe hs) (reply_safe hs.upd)) h)

theorem execFwUpdateData_safe {ses : Nat} {value : List Byte} (h : Safe s₀ s) :
    SafeNext s₀ (execFwUpdateData ses value s) :=
  .next (gated_safe (fun _ hs => .ite (reply_safe hs) (.ite (reply_safe hs) (reply_safe hs.upd))) h)

theorem execFwUpdateCommit_safe {ses value : Nat} (h : Safe s₀ s) :
    SafeNext s₀ (execFwUpdateCommit ses value s) :=
  .next (gated_safe (fun _ hs => .ite (reply_safe hs) (.ite (reply_safe hs)
    (.ite (reply_safe hs) (reply_safe (raiseEv_safe hs.upd))))) h)

theorem execFwConfirm_safe {ses value : Nat} (h : Safe s₀ s) : SafeNext s₀ (execFwConfirm ses value s) :=
  .next (gated_safe (fun _ hs => .ite (reply_safe hs) (.ite (reply_safe hs) (reply_safe hs.upd))) h)

/-! ### Life -/

theorem startTransition_safe {ses : Nat} {t : LcState} (h : Safe s₀ s) : Safe s₀ (startTransition ses t s) :=
  .ite h.upd h.upd

theorem execLcRequest_safe {ses : Nat} {value : List Byte} (h : Safe s₀ s) :
    SafeNext s₀ (execLcRequest ses value s) := by
  unfold execLcRequest
  refine .next (.ite h ?_)
  extract_lets
  refine .ite (reply_safe h.upd) ?_
  refine .ite (reply_safe h.upd) ?_
  split
  · exact reply_safe h.upd
  · exact .ite (reply_safe h.upd) (.ite (reply_safe h.upd) (startTransition_safe h.upd))

theorem execLcTransitionComplete_safe (h : Safe s₀ s) : SafeNext s₀ (execLcTransitionComplete s) := by
  unfold execLcTransitionComplete
  refine .next ?_
  split
  · exact h
  · extract_lets _ s1 s2 _ s3 _ s4
    have hs1 : Safe s₀ s1 := .ite h.upd h
    have hs2 : Safe s₀ s2 := (wipeQuench_safe (closeEpoch_safe hs1)).upd
    have hs3 : Safe s₀ s3 := hs2.upd
    have hs4 : Safe s₀ s4 := placeWaiting_safe (audit_safe (openEpoch_safe hs3.upd))
    exact .ite h (reply_safe (raiseEv_safe hs4))

theorem execLcShutdown_safe {ses value : Nat} (h : Safe s₀ s) : SafeNext s₀ (execLcShutdown ses value s) :=
  .next (gated_safe (fun s hs => by
      refine .ite (reply_safe hs) ?_
      extract_lets s1
      have hs1 : Safe s₀ s1 := .ite hs (closeEpoch_safe hs)
      exact reply_safe hs1.upd) h)

theorem execShutdownReady_safe (h : Safe s₀ s) : SafeNext s₀ (execShutdownReady s) :=
  .next (.ite h (raiseEv_safe (flushAudit_safe h).upd))

theorem abandonTransition_safe (h : Safe s₀ s) : Safe s₀ (abandonTransition s) := .ite (reply_safe h.upd) h

theorem execTamper_safe {sources : Nat} {at_ : Instant} (h : Safe s₀ s) :
    SafeNext s₀ (execTamper sources at_ s) :=
  .next (.ite h (.ite h.upd (abandonTransition_safe (raiseAt_safe (auditAt_safe (wipeQuench_safe h).upd)))))

/-! ### Live -/

theorem newProfile_safe {old : State} (h : Safe s₀ s) : Safe s₀ (newProfile old s) :=
  forEach_safe (fun _ _ ht => .ite ht ht.upd) h

theorem writeMap_safe {bs : List Byte} (h : Safe s₀ s) : Safe s₀ (writeMap bs s) :=
  forEach_safe (fun _ _ => setReg_safe) h

theorem closeV2_safe (h : Safe s₀ s) : Safe s₀ (closeV2 s) :=
  forEach_safe (fun _ _ ht => .ite (closeSession_safe ht) ht) h

theorem applyObject_safe {key v : Nat} (h : Safe s₀ s) : Safe s₀ (applyObject key v s) := by
  unfold applyObject
  extract_lets _ _ _ _ s0
  have hs0 : Safe s₀ s0 := .ite h.upd h
  refine .ite h.upd ?_
  refine .ite (writeMap_safe h) ?_
  refine .ite (setGateEnable_safe h) ?_
  refine .ite h.upd ?_
  refine .ite (forEach_safe (fun _ _ => refreshPort_safe) hs0.upd) ?_
  refine .ite (wakeForge_safe hs0.upd) ?_
  refine .ite (closeV2_safe hs0.upd) ?_
  refine .ite (ptpEnableChanged_safe hs0.upd) ?_
  refine .ite (evalSelection_safe hs0.upd) ?_
  refine .ite (ringChanged_safe hs0.upd) ?_
  refine .ite (poolFallen_safe (poolRisen_safe hs0.upd)) ?_
  refine .ite hs0.upd ?_
  refine .ite (.ite hs0.upd hs0.upd) ?_
  refine .ite (refreshPort_safe (.ite hs0.upd hs0.upd)) ?_
  refine .ite (newProfile_safe hs0.upd) ?_
  refine .ite (.ite (forEach_safe (fun _ _ => tryQualify_safe) hs0.upd) hs0.upd) ?_
  exact hs0.upd

theorem registerChanged_safe {off old v at_ : Nat} (h : Safe s₀ s) :
    Safe s₀ (registerChanged off old v at_ s) :=
  .ite (mbxEnChanged_safe h) (.ite (aexEnChanged_safe h) (.ite (takeQRd_safe h)
    (.ite (servoChanged_safe h) (.ite (servoChanged_safe h) (.ite (refreshFans_safe (zoneEnChanged_safe h))
    (.ite (refreshFans_safe h) (.ite (hkcArm_safe h) (.ite (hkcArm_safe h) (.ite (bankRetain_safe h) h)))))))))

theorem applyRegister_safe {off v at_ : Nat} (h : Safe s₀ s) : Safe s₀ (applyRegister off v at_ s) := by
  unfold applyRegister
  split
  · exact h
  · exact .ite (clearCount_safe h) (registerChanged_safe (setReg_safe h))

theorem applyWrite_safe {w : LiveWrite} (h : Safe s₀ s) : Safe s₀ (applyWrite w s) :=
  .ite (applyRegister_safe h) (.ite (takeReadFrom_safe h) (.ite h.upd (applyObject_safe h)))

theorem applyDue_safe {blocks : Block → Bool} (h : Safe s₀ s) : Safe s₀ (applyDue blocks s) :=
  forEach_safe (fun _ _ => applyWrite_safe) h.upd

theorem execLiveSettingApply_safe {b : Block} (h : Safe s₀ s) : SafeNext s₀ (execLiveSettingApply b s) :=
  .next (applyDue_safe h)

theorem execShadowCommitApply_safe {b : ShadowBlock} (h : Safe s₀ s) :
    SafeNext s₀ (execShadowCommitApply b s) := by
  unfold execShadowCommitApply
  split
  · refine .next ?_
    split
    · exact .ite (applyStep_safe (loadSet_safe h)) h
    · exact h
  · exact .next (.ite (applyBeacon_safe h) h)
  · exact .next (.ite (applyGateList_safe h) h)
  · exact execSchedChangeApply_safe h
  · exact execClearTableApply_safe h

/-! ### Boundary -/

theorem advance_safe (h : Safe s₀ s) : Safe s₀ (advance s) := h.upd

theorem stopBeacons_safe (h : Safe s₀ s) : Safe s₀ (stopBeacons s) := h.upd

theorem takeFreq_safe (h : Safe s₀ s) : Safe s₀ (takeFreq s) := h.upd

theorem execTransitBoundary_safe {inp : PeriodInput} (h : Safe s₀ s) :
    SafeNext s₀ (execTransitBoundary inp s) := by
  unfold execTransitBoundary
  extract_lets _ s1
  have hs1 : Safe s₀ s1 := takeFreq_safe (applyDue_safe (stopBeacons_safe (advance_safe h)))
  exact .next (.ite h (noteIdle_safe (noteDefer_safe (.ite (transitWork_safe hs1) hs1))))

theorem execHoldBoundary_safe {inp : PeriodInput} (h : Safe s₀ s) : SafeNext s₀ (execHoldBoundary inp s) :=
  .next (.ite h (.ite (calTick_safe (watchHold_safe h)) (nextHold_safe h)))

/-! ### RegBus -/

theorem readReg_safe {l : Link} {off : Nat} (h : Safe s₀ s) : Safe s₀ (readReg l off s) :=
  .ite h (.ite h.upd (.ite (readCapture_safe h) (.ite (readData0_safe h)
    (.ite h.upd (.ite h.upd (.ite h.upd (.ite (takeFree_safe h).upd h.upd)))))))

theorem refuseReg_safe {w : Writer} {off : Nat} (h : Safe s₀ s) : Safe s₀ (refuseReg w off s) := rejectWrite_safe h

theorem clearBits_safe {off v : Nat} (h : Safe s₀ s) : Safe s₀ (clearBits off v s) := by
  unfold clearBits
  extract_lets s
  have hs : Safe s₀ s := .ite h.upd h
  refine .ite (.ite hs.upd hs) ?_
  refine .ite (.ite hs.upd hs) ?_
  refine .ite (.ite hs.upd hs) ?_
  refine .ite hs.upd ?_
  refine .ite (.ite hs.upd hs) ?_
  refine .ite hs.upd ?_
  refine .ite (.ite hs.upd hs) ?_
  refine .ite (.ite hs.upd hs) ?_
  refine .ite (.ite hs.upd (.ite hs.upd hs)) ?_
  refine .ite (.ite hs.upd hs) ?_
  refine .ite (.ite hs.upd hs) ?_
  exact hs

theorem timeActions_safe {v : Nat} (h : Safe s₀ s) : Safe s₀ (timeActions v s) := by
  unfold timeActions
  extract_lets s1 s2
  have hs1 : Safe s₀ s1 := .ite h.upd h
  have hs2 : Safe s₀ s2 := .ite (forceStep_safe hs1) hs1
  exact .ite hs2.upd hs2

theorem swReset_safe {w : Writer} {v : Nat} (h : Safe s₀ s) : Safe s₀ (swReset w v s) := by
  unfold swReset
  refine .ite (badKey_safe h) ?_
  refine .ite (.ite h (beginReset_safe h)) ?_
  extract_lets s1
  have hs1 : Safe s₀ s1 := .ite (watchReset_safe h) h
  exact .ite (forgeReset_safe hs1) hs1

theorem writeSettings_safe {w : Writer} {off v : Nat} {r : RegRow} (h : Safe s₀ s) :
    Safe s₀ (writeSettings w off v r s) := by
  unfold writeSettings
  extract_lets _ s1 s2
  have hs1 : Safe s₀ s1 := .ite h (setReg_safe h)
  have hs2 : Safe s₀ s2 := .ite hs1 hs1.upd
  exact .ite (refuseReg_safe h) (.ite hs2 hs2.upd)

theorem writeRow_safe {w : Writer} {off v : Nat} {r : RegRow} (h : Safe s₀ s) :
    Safe s₀ (writeRow w off v r s) := by
  unfold writeRow
  extract_lets _ _ s1 _ _ s2' _ _ _ _ s1'
  have hs1 : Safe s₀ s1 := writeSettings_safe h
  have hs2' : Safe s₀ s2' := .ite (armBeacon_safe hs1) hs1
  have hs1' : Safe s₀ s1' := .ite h.upd h
  refine .ite (refuseReg_safe h) ?_
  refine .ite (.ite (writeMbxCtrl_safe h) (.ite (clearBits_safe h) (.ite h.upd (.ite h.upd (writeSettings_safe h)))))
    ?_
  refine .ite (writeAexCtrl_safe h) ?_
  refine .ite h.upd ?_
  refine .ite (writeSettings_safe h) ?_
  refine .ite h.upd ?_
  refine .ite (swReset_safe h) ?_
  refine .ite (.ite hs1 (timeActions_safe (.ite hs1 (servoChanged_safe hs1)))) ?_
  refine .ite (.ite (refuseReg_safe h) (.ite hs2'.upd hs2')) ?_
  refine .ite (.ite (refuseReg_safe h) (.ite (thermalRestart_safe hs1) hs1)) ?_
  refine .ite (.ite (.ite h.upd h.upd) (.ite (clearBits_safe h) (.ite (.ite h.upd h)
    (.ite (.ite (hkcInject_safe h) (writeSettings_safe h)) (writeSettings_safe h))))) ?_
  refine .ite (.ite (.ite hs1'.upd hs1') (.ite (clearBits_safe h) (.ite (hmFeed_safe h)
    (.ite (hmFeed_safe h) (.ite (hmFeed_safe h) (writeSettings_safe h)))))) ?_
  refine .ite (.ite (writeBankCtrl_safe h) (.ite (writeSettings_safe h) (clearBits_safe h))) ?_
  refine .ite (clearBits_safe h) ?_
  exact writeSettings_safe h

theorem writeReg_safe {w : Writer} {off v : Nat} (h : Safe s₀ s) : Safe s₀ (writeReg w off v s) := by
  unfold writeReg
  refine .ite h ?_
  split
  · exact h
  · exact writeRow_safe h

theorem execRegisterWrite_safe {w : Writer} {offset : Nat} {value : Word} (h : Safe s₀ s) :
    SafeNext s₀ (execRegisterWrite w offset value s) :=
  .next (writeReg_safe h)

theorem readRegData_safe {ses : Nat} (h : Safe s₀ s) : Safe s₀ (readRegData ses s) :=
  .ite (reply_safe h) (readReg_safe h).upd

theorem execRegDataRead_safe {ses : Nat} (h : Safe s₀ s) : SafeNext s₀ (execRegDataRead ses s) :=
  .next (.ite (readRegData_safe h) h)

theorem execRegDataWrite_safe {ses : Nat} {value : Word} (h : Safe s₀ s) :
    SafeNext s₀ (execRegDataWrite ses value s) :=
  .next (gated_safe (fun _ hs => .ite (reply_safe hs) (reply_safe (writeReg_safe hs))) h)

/-! ### Matrix -/

theorem matrixAnswer_safe {st : Nat} {bs : List Byte} (h : Safe s₀ s) : Safe s₀ (respond_ st bs s) := h.upd

theorem decodeMiss_safe {m a n : Nat} (h : Safe s₀ s) : Safe s₀ (decodeMiss m a n s) :=
  matrixAnswer_safe (raiseEv_safe h.upd)

theorem bankAccess_safe {i : Instr} {m b off need n : Nat} {f : State → State} (hf : ∀ t, Safe s₀ t → Safe s₀ (f t))
    (h : Safe s₀ s) : Safe s₀ (bankAccess i m b off need n f s) := by
  unfold bankAccess
  extract_lets
  split
  · exact hf _ (proofMeets_safe h)
  · exact h.upd
  · exact (raiseLimited_safe h).upd
  · exact h.upd
  · exact h.upd
  · exact (raiseLimited_safe h).upd

theorem readBank_safe {m b off n : Nat} {err : MemErr} (h : Safe s₀ s) : Safe s₀ (readBank m b off n err s) := by
  unfold readBank
  extract_lets
  split
  · exact matrixAnswer_safe h
  · exact .ite (matrixAnswer_safe (correctWord_safe h)) (matrixAnswer_safe h)
  · exact .ite (matrixAnswer_safe (lostWord_safe h)) (matrixAnswer_safe h)

theorem writeBank_safe {m b off : Nat} {bs : List Byte} {st : List Bool} {err : MemErr} (h : Safe s₀ s) :
    Safe s₀ (writeBank m b off bs st err s) := by
  unfold writeBank
  extract_lets a put
  have hput {e : List Bool} {t : State} (ht : Safe s₀ t) : Safe s₀ (respond_ okay [] (put e t)) :=
    ht.change id id id id (memWriteStrobed_wf _ _ _ _) id
  split
  · exact hput h
  · exact hput (.ite (correctWord_safe h) h)
  · exact .ite ((lostWord_safe h).change id id id id (memWriteStrobed_wf _ _ _ _) id) (hput h)

theorem readDdr_safe {o n : Nat} {err : MemErr} (h : Safe s₀ s) : Safe s₀ (readDdr o n err s) := by
  unfold readDdr
  extract_lets
  split
  · exact matrixAnswer_safe h
  · exact matrixAnswer_safe (.ite (ddrError_safe h) h)
  · exact .ite (matrixAnswer_safe (ddrError_safe h)) (matrixAnswer_safe h)

theorem writeDdr_safe {o : Nat} {bs : List Byte} {st : List Bool} {err : MemErr} (h : Safe s₀ s) :
    Safe s₀ (writeDdr o bs st err s) := by
  unfold writeDdr
  extract_lets put
  have hput {e : List Bool} {t : State} (ht : Safe s₀ t) : Safe s₀ (respond_ okay [] (put e t)) :=
    ht.change id id id id id (memWriteStrobed_wf _ _ _ _)
  split
  · exact hput h
  · exact hput (.ite (ddrError_safe h) h)
  · exact .ite ((ddrError_safe h).change id id id id id (memWriteStrobed_wf _ _ _ _)) (hput h)

theorem readRegs_safe {off n : Nat} {acc : List Byte} (h : Safe s₀ s) : Safe s₀ (readRegs off n acc s) := by
  induction n generalizing off acc s with
  | zero => exact h.upd
  | succ n ih => exact ih (readReg_safe h)

theorem writeRegs_safe {off : Nat} {bs : List Byte} {st : List Bool} (h : Safe s₀ s) :
    Safe s₀ (writeRegs off bs st s) :=
  forEach_safe (fun _ _ ht => .ite (writeReg_safe ht) ht) h

theorem offline_safe {m a n : Nat} {write : Bool} {f : State → State} (hf : ∀ t, Safe s₀ t → Safe s₀ (f t))
    (h : Safe s₀ s) : Safe s₀ (offline m a n write f s) :=
  .ite h (.ite (hf s h) h.upd)

theorem mtxRun_safe {i : Instr} {m : Nat} {f : State → State} (hf : ∀ t, Safe s₀ t → Safe s₀ (f t)) (h : Safe s₀ s) :
    Safe s₀ (mtxRun i m f s) :=
  .ite h.upd (hf s h)

theorem mtxRead_safe {m addr beats : Nat} {err : MemErr} (h : Safe s₀ s) :
    Safe s₀ (mtxRead m addr beats err s) :=
  .ite h (mtxRun_safe (fun _ hs => .ite (offline_safe (fun _ ht => bankAccess_safe (fun _ => readBank_safe) ht) hs)
    (.ite (bankAccess_safe (fun _ => readBank_safe) hs) (.ite (readDdr_safe hs)
    (.ite (readRegs_safe hs) (decodeMiss_safe hs))))) h)

theorem mtxWrite_safe {m addr : Nat} {data : List Byte} {strobes : List Bool} {err : MemErr} (h : Safe s₀ s) :
    Safe s₀ (mtxWrite m addr data strobes err s) :=
  .ite h (mtxRun_safe (fun _ hs => .ite (offline_safe (fun _ ht => bankAccess_safe (fun _ => writeBank_safe) ht) hs)
    (.ite (bankAccess_safe (fun _ => writeBank_safe) hs) (.ite (writeDdr_safe hs)
    (.ite (matrixAnswer_safe (writeRegs_safe hs)) (decodeMiss_safe hs))))) h)

theorem atomicAt_safe {b off : Nat} {op : AtomicOp} {operand : Word} (h : Safe s₀ s) :
    Safe s₀ (atomicAt b off op operand s) :=
  h.change id id id id (memWriteList_wf _ _ _) id

theorem mtxAtomic_safe {m addr : Nat} {op : AtomicOp} {operand : Word} (h : Safe s₀ s) :
    Safe s₀ (mtxAtomic m addr op operand s) :=
  .ite h (mtxRun_safe (fun _ hs => .ite (offline_safe (fun _ ht => .ite (matrixAnswer_safe ht)
    (bankAccess_safe (fun _ => atomicAt_safe) ht)) hs) (.ite (.ite (matrixAnswer_safe hs)
    (bankAccess_safe (fun _ => atomicAt_safe) hs)) (.ite (matrixAnswer_safe hs) (decodeMiss_safe hs)))) h)

theorem bar2Get_safe {offset len : Nat} {err : MemErr} (h : Safe s₀ s) : Safe s₀ (bar2Get offset len err s) := by
  unfold bar2Get
  extract_lets n
  refine .ite h.upd (mtxRun_safe (fun t ht => ?_) h)
  refine matrixAnswer_safe ?_
  refine List.foldlRecOn (motive := fun (p : State × List Byte × Nat) => Safe s₀ p.1) _ _ ht fun p hp q _ => ?_
  exact bankAccess_safe (fun _ => readBank_safe) hp.upd

theorem bar2Put_safe {offset : Nat} {data : List Byte} {strobes : List Bool} {err : MemErr} (h : Safe s₀ s) :
    Safe s₀ (bar2Put offset data strobes err s) :=
  .ite (matrixAnswer_safe h.upd) (mtxRun_safe (fun _ hs => forEach_safe
    (fun _ _ ht => bankAccess_safe (fun _ => writeBank_safe) ht) hs) h)

theorem execMatrixRead_safe {m addr beats : Nat} {err : MemErr} (h : Safe s₀ s) :
    SafeNext s₀ (execMatrixRead m addr beats err s) :=
  .next (mtxRead_safe h)

theorem execMatrixWrite_safe {m addr : Nat} {data : List Byte} {strobes : List Bool} {err : MemErr} (h : Safe s₀ s) :
    SafeNext s₀ (execMatrixWrite m addr data strobes err s) :=
  .next (mtxWrite_safe h)

theorem execMatrixAtomic_safe {m addr : Nat} {op : AtomicOp} {operand : Word} (h : Safe s₀ s) :
    SafeNext s₀ (execMatrixAtomic m addr op operand s) :=
  .next (mtxAtomic_safe h)

theorem execBar2Read_safe {offset len : Nat} {err : MemErr} (h : Safe s₀ s) :
    SafeNext s₀ (execBar2Read offset len err s) :=
  .next (.ite (bar2Get_safe h) h)

theorem execBar2Write_safe {offset : Nat} {data : List Byte} {strobes : List Bool} {err : MemErr} (h : Safe s₀ s) :
    SafeNext s₀ (execBar2Write offset data strobes err s) :=
  .next (.ite (bar2Put_safe h) h)

theorem runTrans_safe {i : Instr} (h : Safe s₀ s) : Safe s₀ (runTrans i s) := by
  unfold runTrans
  split
  · exact mtxRead_safe h
  · exact mtxWrite_safe h
  · exact mtxAtomic_safe h
  · exact bar2Get_safe h
  · exact bar2Put_safe h
  · exact h

theorem releaseStalled_safe {b : Nat} (h : Safe s₀ s) : Safe s₀ (releaseStalled b s) :=
  forEach_safe (fun _ _ => runTrans_safe) h.upd

theorem execBankHandoverDone_safe {b : Nat} (h : Safe s₀ s) : SafeNext s₀ (execBankHandoverDone b s) := by
  unfold execBankHandoverDone
  refine .next ?_
  split
  · exact h
  · exact .ite h (releaseStalled_safe (raiseEv_safe h.upd))

theorem execBankWakeDone_safe {b : Nat} (h : Safe s₀ s) : SafeNext s₀ (execBankWakeDone b s) :=
  .next (.ite (releaseStalled_safe h.upd) h)

theorem writeAccepted_safe {x : Burst} (h : Safe s₀ s) : Safe s₀ (writeAccepted x s) :=
  .ite (h.change id id id id (memWriteList_wf _ _ _) id) (.ite (h.change id id id id id (memWriteList_wf _ _ _)) h)

theorem resetBurst_safe {m : Nat} {x : Burst} (h : Safe s₀ s) : Safe s₀ (resetBurst m x s) := by
  unfold resetBurst
  refine .ite h ?_
  extract_lets s1
  have hs1 : Safe s₀ s1 := writeAccepted_safe h
  exact .ite hs1 (raiseEv_safe hs1.upd)

theorem execMasterReset_safe {m : Nat} {bursts : List Burst} (h : Safe s₀ s) :
    SafeNext s₀ (execMasterReset m bursts s) := by
  unfold execMasterReset
  refine .next (.ite h ?_)
  extract_lets _ _ s2
  have hs2 : Safe s₀ s2 := forEach_safe (fun _ _ => resetBurst_safe) (forEach_safe (fun _ _ ht => .ite ht.upd ht) h)
  exact .ite hs2 hs2.upd

theorem execMasterResetDrainDone_safe {m : Nat} (h : Safe s₀ s) : SafeNext s₀ (execMasterResetDrainDone m s) :=
  .next (.ite h (forEach_safe (fun _ _ => runTrans_safe) h.upd))

/-! ### Jop -/

theorem after_safe {o : Outcome} (h : Safe s₀ s) (ho : SafeNext s₀ o) : Safe s₀ (after s o) := by
  cases o with
  | next t => exact ho
  | fault r => exact h
  | refused r => exact h

theorem readSummary_safe {ses want : Nat} (h : Safe s₀ s) : Safe s₀ (readSummary ses want s) :=
  takeSnapshot_safe (takeFree_safe h)

theorem readFirst_safe {ses ix sub want : Nat} (h : Safe s₀ s) : Safe s₀ (readFirst ses ix sub want s) :=
  .ite (after_safe h (execAuditExportRead_safe h)) (.ite (readSummary_safe h)
    (.ite (readRegData_safe h) (.ite (readQstats_safe h) (takeSnapshot_safe (takeFree_safe h)))))

theorem readLater_safe {ses ix sub offset want : Nat} (h : Safe s₀ s) :
    Safe s₀ (readLater ses ix sub offset want s) := by
  unfold readLater
  extract_lets -underBinder
  split
  · exact reply_safe h
  · exact .ite (reply_safe h) (answerPart_safe h.upd)

theorem execJopRead_safe {ses index sub offset want : Nat} (h : Safe s₀ s) :
    SafeNext s₀ (execJopRead ses index sub offset want s) :=
  .next (.ite h (.ite (reply_safe h) (.ite (readFirst_safe h) (readLater_safe h))))

theorem execSummaryRead_safe {ses : Nat} (h : Safe s₀ s) : SafeNext s₀ (execSummaryRead ses s) :=
  .next (.ite (readSummary_safe h) h)

theorem redeliverTo_safe {q : Nat} {r : ERec} (h : Safe s₀ s) : Safe s₀ (redeliverTo q r s) :=
  .ite (takeRecord_safe h) (.ite h.upd (raiseEv_safe h.upd))

theorem redeliver_safe {ses q : Nat} {l : List ERec} {lost : Nat} (h : Safe s₀ s) :
    Safe s₀ (redeliver ses q l lost s) :=
  .ite h.upd (.ite (forEach_safe (fun _ _ => redeliverTo_safe) h).upd h.upd)

theorem execEventRedeliver_safe {ses : Nat} {value : List Byte} (h : Safe s₀ s) :
    SafeNext s₀ (execEventRedeliver ses value s) :=
  .next (gated_safe (fun _ hs => .ite (reply_safe hs) (.ite (reply_safe hs) (reply_safe (redeliver_safe hs.upd)))) h)

theorem writeShadow_safe {ix sub : Nat} {value : List Byte} (h : Safe s₀ s) :
    Safe s₀ (writeShadow ix sub value s) :=
  .ite h.upd (.ite h.upd (.ite (.ite h.upd h.upd) h.upd))

theorem writeQuiescent_safe {ix sub : Nat} {r : ObjRow} {value : List Byte} (h : Safe s₀ s) :
    Safe s₀ (writeQuiescent ix sub r value s) := by
  unfold writeQuiescent
  split
  · exact h.upd
  · exact h.upd

theorem storeOrReply_safe {ses ix sub : Nat} {r : ObjRow} {value : List Byte} (h : Safe s₀ s) :
    Safe s₀ (storeOrReply ses ix sub r value s) :=
  .ite h.upd (reply_safe h)

theorem writeSetting_safe {ses ix sub : Nat} {r : ObjRow} {value : List Byte} (h : Safe s₀ s) :
    Safe s₀ (writeSetting ses ix sub r value s) :=
  .ite (reply_safe h.upd) (.ite (reply_safe (writeShadow_safe h)) (.ite (reply_safe h)
    (.ite (storeOrReply_safe (writeQuiescent_safe h)) (storeOrReply_safe h.upd))))

theorem schedControl_safe {ses v : Nat} (h : Safe s₀ s) : SafeNext s₀ (schedControl ses v s) :=
  .ite (execSchedArm_safe h) (.ite (execSchedCommit_safe h) (.ite (execSchedStopAtCycleEnd_safe h)
    (execSchedStopNow_safe h)))

theorem ownRow_safe {ses ix sub : Nat} {value : List Byte} (h : Safe s₀ s) :
    SafeRow s₀ (ownRow ses ix sub value s) := by
  unfold ownRow
  refine .ite (.some (execRegDataWrite_safe h)) ?_
  refine .ite (.some (.ite (execLcRequest_safe h) (execLcShutdown_safe h))) ?_
  refine .ite (.some (.ite (execFwUpdateStart_safe h) (.ite (execFwUpdateData_safe h)
    (.ite (execFwUpdateCommit_safe h) (execFwConfirm_safe h))))) ?_
  refine .ite (.some (execEventRedeliver_safe h)) ?_
  refine .ite (.some (execPlanQuery_safe (takeFree_safe h))) ?_
  refine .ite (.some (schedControl_safe h)) ?_
  refine .ite (.some (.ite (execBatchSubmit_safe h) (.ite (execBatchFire_safe h) (execBatchCancel_safe h)))) ?_
  refine .ite (.some (execCfgBodyWrite_safe h)) ?_
  refine .ite (.some (execAuditExportAck_safe h)) ?_
  refine .ite (.some (execAuditReadFromWrite_safe h)) ?_
  refine .ite (.some (.ite (execCalRun_safe (takeFree_safe h)) (.ite (execCalAbort_safe h)
    (execCalUserClear_safe h)))) ?_
  refine .ite (.some (execKprSwap_safe h)) (.ite (.some (execKprRestart_safe h))
    (.ite (.some (execKprRemove_safe h)) ?_))
  refine .ite (.some (execGateEnableWrite_safe h)) (.ite (.some (execGateCommit_safe h)) ?_)
  refine .ite (.some (execClearCommit_safe h)) ?_
  refine .ite (.some (execAuxConfigWrite_safe h)) (.ite (.some (execAuxValueWrite_safe h)) ?_)
  refine .ite (.some (execElemModeWrite_safe h)) (.ite (.some (execElemTargetSetWrite_safe h)) ?_)
  refine .ite (.some (execElemManualCodeWrite_safe h)) (.ite (.some (execElemFaultClear_safe h)) ?_)
  exact .ite (.some (execChanSpanWrite_safe h)) .none

theorem writePassed_safe {ses ix sub : Nat} {value : List Byte} (h : Safe s₀ s) :
    Safe s₀ (writePassed ses ix sub value s) := by
  unfold writePassed
  split
  · next o ho => exact after_safe h (ownRow_safe h o ho)
  · split
    · exact h
    · exact writeSetting_safe h

theorem writeWhole_safe {ses ix sub : Nat} {value : List Byte} (h : Safe s₀ s) :
    Safe s₀ (writeWhole ses ix sub value s) :=
  .ite (after_safe h (execLcRequest_safe h)) (gated_safe (fun _ => writePassed_safe) h)

theorem refuseSegment_safe {ses : Nat} (h : Safe s₀ s) : Safe s₀ (refuseSegment ses s) := reply_safe h.upd

theorem writeSegment_safe {ses key : Nat} {so : List Byte} {offset : Nat} {more : Bool} {value : List Byte}
    (h : Safe s₀ s) :
    Safe s₀ (writeSegment ses key so offset more value s) :=
  .ite (refuseSegment_safe h) (.ite (reply_safe h.upd) (writeWhole_safe h.upd))

theorem execJopWrite_safe {ses index sub offset : Nat} {more : Bool} {value : List Byte} (h : Safe s₀ s) :
    SafeNext s₀ (execJopWrite ses index sub offset more value s) := by
  unfold execJopWrite
  extract_lets
  refine .next (.ite h ?_)
  refine .ite (reply_safe h) ?_
  split
  · exact writeSegment_safe h
  · exact .ite (.ite (refuseSegment_safe h) (writeSegment_safe h)) (.ite (writeWhole_safe h) (refuseSegment_safe h))

theorem execStoredWriteComplete_safe {ses : Nat} (h : Safe s₀ s) :
    SafeNext s₀ (execStoredWriteComplete ses s) := by
  unfold execStoredWriteComplete
  refine .next ?_
  extract_lets
  split
  · exact h
  · exact .ite h (reply_safe h.upd)

theorem changeSubs_safe {ses : Nat} {payload : List Byte} {f : List (Nat × Nat) → Nat × Nat → List (Nat × Nat)}
    (h : Safe s₀ s) :
    Safe s₀ (changeSubs ses payload f s) :=
  .ite h (.ite (reply_safe h) (.ite (reply_safe h) (.ite (reply_safe h) (.ite (reply_safe h) (reply_safe h.upd)))))

theorem execJopSubscribe_safe {ses : Nat} {ranges : List Byte} (h : Safe s₀ s) :
    SafeNext s₀ (execJopSubscribe ses ranges s) :=
  .next (changeSubs_safe h)

theorem execJopUnsubscribe_safe {ses : Nat} {ranges : List Byte} (h : Safe s₀ s) :
    SafeNext s₀ (execJopUnsubscribe ses ranges s) :=
  .next (changeSubs_safe h)

theorem execJopPing_safe {ses : Nat} (h : Safe s₀ s) : SafeNext s₀ (execJopPing ses s) := .next (.ite h.upd h)
/-- Every command keeps the bounds and the form. -/
theorem exec_safe {c : Instr} (h : Safe s₀ s) : SafeNext s₀ (exec c s) := by
  cases c with
  | transitBoundary => exact execTransitBoundary_safe h
  | holdBoundary => exact execHoldBoundary_safe h
  | trimBoundary => exact execTrimBoundary_safe h
  | liveSettingApply => exact execLiveSettingApply_safe h
  | shadowCommitApply => exact execShadowCommitApply_safe h
  | registerWrite => exact execRegisterWrite_safe h
  | forgeTimedWake => exact execForgeTimedWake_safe h
  | forgeLanesReady => exact execForgeLanesReady_safe h
  | forgeCoresResumed => exact execForgeCoresResumed_safe h
  | forgeSleepStart => exact execForgeSleepStart_safe h
  | forgeSleepComplete => exact execForgeSleepComplete_safe h
  | laneRetire => exact execLaneRetire_safe h
  | settleTimeout => exact execSettleTimeout_safe h
  | elemFault => exact execElemFault_safe h
  | reroutePlanComplete => exact execReroutePlanComplete_safe h
  | planQuery => exact execPlanQuery_safe h
  | batchSubmit => exact execBatchSubmit_safe h
  | batchPlanComplete => exact execBatchPlanComplete_safe h
  | routeImageComplete => exact execRouteImageComplete_safe h
  | batchFire => exact execBatchFire_safe h
  | batchCancel => exact execBatchCancel_safe h
  | batchCommit => exact execBatchCommit_safe h
  | batchSettleLimit => exact execBatchSettleLimit_safe h
  | cfgBodyWrite => exact execCfgBodyWrite_safe h
  | cfgCompileDone => exact execCfgCompileDone_safe h
  | schedArm => exact execSchedArm_safe h
  | schedCommit => exact execSchedCommit_safe h
  | schedStopAtCycleEnd => exact execSchedStopAtCycleEnd_safe h
  | schedStopNow => exact execSchedStopNow_safe h
  | schedImageCopyStart => exact execSchedImageCopyStart_safe h
  | schedStart => exact execSchedStart_safe h
  | watchBoundaryCommit => exact execWatchBoundaryCommit_safe h
  | schedChangeApply => exact execSchedChangeApply_safe h
  | elemModeWrite => exact execElemModeWrite_safe h
  | elemTargetSetWrite => exact execElemTargetSetWrite_safe h
  | elemManualCodeWrite => exact execElemManualCodeWrite_safe h
  | elemFaultClear => exact execElemFaultClear_safe h
  | faultClearReadback => exact execFaultClearReadback_safe h
  | fabricClearAssert => exact execFabricClearAssert_safe h
  | fabricClearRelease => exact execFabricClearRelease_safe h
  | auxClearReturn => exact execAuxClearReturn_safe h
  | buoySample => exact execBuoySample_safe h
  | overpowerClear => exact execOverpowerClear_safe h
  | lightOn => exact execLightOn_safe h
  | lightOff => exact execLightOff_safe h
  | thresholdChangeCrossing => exact execThresholdChangeCrossing_safe h
  | trimQualified => exact execTrimQualified_safe h
  | splitUnbalanced => exact execSplitUnbalanced_safe h
  | trimLossDrift => exact execTrimLossDrift_safe h
  | buoySlow => exact execBuoySlow_safe h
  | buoyRestored => exact execBuoyRestored_safe h
  | compensationApply => exact execCompensationApply_safe h
  | channelFault => exact execChannelFault_safe h
  | ladderCellRetire => exact execLadderCellRetire_safe h
  | ladderSelectionChange => exact execLadderSelectionChange_safe h
  | ladderUv => exact execLadderUv_safe h
  | ladderRestart => exact execLadderRestart_safe h
  | ladderRegulating => exact execLadderRegulating_safe h
  | clearCommit => exact execClearCommit_safe h
  | clearTableApply => exact execClearTableApply_safe h
  | chanSpanWrite => exact execChanSpanWrite_safe h
  | chanSpanDwellEnd => exact execChanSpanDwellEnd_safe h
  | auxConfigWrite => exact execAuxConfigWrite_safe h
  | auxDwellStart => exact execAuxDwellStart_safe h
  | auxStageSwitch => exact execAuxStageSwitch_safe h
  | auxRangeEnable => exact execAuxRangeEnable_safe h
  | auxValueWrite => exact execAuxValueWrite_safe h
  | auxFault => exact execAuxFault_safe h
  | auxCompliance => exact execAuxCompliance_safe h
  | auxComplianceClear => exact execAuxComplianceClear_safe h
  | timePllLock => exact execTimePllLock_safe h
  | timeNowNsRead => exact execTimeNowNsRead_safe h
  | ptpSyncReceive => exact execPtpSyncReceive_safe h
  | ptpFollowUpReceive => exact execPtpFollowUpReceive_safe h
  | timeStepApply => exact execTimeStepApply_safe h
  | stepDeferTimeout => exact execStepDeferTimeout_safe h
  | timeForce w => exact execTimeForce_safe (_w := w) h
  | timeLoad w => exact execTimeLoad_safe (_w := w) h
  | calWrite w => exact execCalWrite_safe (_w := w) h
  | calendarWrite => exact execCalendarWrite_safe h
  | ppsInEdge => exact execPpsInEdge_safe h
  | ppsLost => exact execPpsLost_safe h
  | refclkLost => exact execRefclkLost_safe h
  | refclkRestored => exact execRefclkRestored_safe h
  | ptpAnnounceReceive => exact execPtpAnnounceReceive_safe h
  | announceReceiptTimeout => exact execAnnounceReceiptTimeout_safe h
  | ptpSelHoldExpire => exact execPtpSelHoldExpire_safe h
  | ptpDelayReqSend => exact execPtpDelayReqSend_safe h
  | ptpDelayRespReceive => exact execPtpDelayRespReceive_safe h
  | ptpPdelayReqReceive => exact execPtpPdelayReqReceive_safe h
  | txqStaleRetire => exact execTxqStaleRetire_safe h
  | utcOffsetChange => exact execUtcOffsetChange_safe h
  | mgtLinkChange => exact execMgtLinkChange_safe h
  | tsInEdge => exact execTsInEdge_safe h
  | timeCapNsRead => exact execTimeCapNsRead_safe h
  | beaconArm => exact execBeaconArm_safe h
  | beaconStop => exact execBeaconStop_safe h
  | beaconEdge => exact execBeaconEdge_safe h
  | auditTransfer => exact execAuditTransfer_safe h
  | auditGapRecord => exact execAuditGapRecord_safe h
  | checkpointSign => exact execCheckpointSign_safe h
  | auditExportRead => exact execAuditExportRead_safe h
  | auditExportAck => exact execAuditExportAck_safe h
  | auditReadFromWrite => exact execAuditReadFromWrite_safe h
  | sealComplete => exact execSealComplete_safe h
  | hmOpen => exact execHmOpen_safe h
  | hmAbort => exact execHmAbort_safe h
  | hmDataB => exact execHmDataB_safe h
  | hmDataH => exact execHmDataH_safe h
  | hmDataW => exact execHmDataW_safe h
  | hmResultRead => exact execHmResultRead_safe h
  | anvilHeartbeatLoss => exact execAnvilHeartbeatLoss_safe h
  | signatureMismatch aImpl bImpl => exact execSignatureMismatch_safe (_aImpl := aImpl) (_bImpl := bImpl) h
  | failover => exact execFailover_safe h
  | anvilSelftestDone => exact execAnvilSelftestDone_safe h
  | resyncCopyDone => exact execResyncCopyDone_safe h
  | resyncLive => exact execResyncLive_safe h
  | anvilStandby => exact execAnvilStandby_safe h
  | kprRevert => exact execKprRevert_safe h
  | kprSwap => exact execKprSwap_safe h
  | kprRestart => exact execKprRestart_safe h
  | kprRemove => exact execKprRemove_safe h
  | rebuildComplete => exact execRebuildComplete_safe h
  | keeperLost => exact execKeeperLost_safe h
  | noDriveSource => exact execNoDriveSource_safe h
  | keeperRestored => exact execKeeperRestored_safe h
  | keeperLeaveInit => exact execKeeperLeaveInit_safe h
  | calRun => exact execCalRun_safe h
  | calAbort => exact execCalAbort_safe h
  | calPreconditionFail => exact execCalPreconditionFail_safe h
  | calMeasureDone => exact execCalMeasureDone_safe h
  | calStoreDone => exact execCalStoreDone_safe h
  | calSwap => exact execCalSwap_safe h
  | calUserClear => exact execCalUserClear_safe h
  | thmSample => exact execThmSample_safe h
  | thmSensorSuspect => exact execThmSensorSuspect_safe h
  | thmSensorRestored => exact execThmSensorRestored_safe h
  | thmConditionChange => exact execThmConditionChange_safe h
  | thmTrip => exact execThmTrip_safe h
  | thmTripPowerOff => exact execThmTripPowerOff_safe h
  | thmRestartReady => exact execThmRestartReady_safe h
  | thmRestart => exact execThmRestart_safe h
  | fanRpmUpdate => exact execFanRpmUpdate_safe h
  | thmFanStall => exact execThmFanStall_safe h
  | thmFanRestored => exact execThmFanRestored_safe h
  | hkcArmWrite => exact execHkcArmWrite_safe h
  | hkcSoftTrig => exact execHkcSoftTrig_safe h
  | hkcTimerTrigger => exact execHkcTimerTrigger_safe h
  | hkcFanEdgeTrigger => exact execHkcFanEdgeTrigger_safe h
  | hkcTriggerEffect => exact execHkcTriggerEffect_safe h
  | hkcConversionDone n microvolt gapNs => exact execHkcConversionDone_safe (_gapNs := gapNs) h
  | hkcInjStart => exact execHkcInjStart_safe h
  | hkcDataRead => exact execHkcDataRead_safe h
  | hkcClrCounts => exact execHkcClrCounts_safe h
  | bankOwnerWrite => exact execBankOwnerWrite_safe h
  | bankHandoverDone => exact execBankHandoverDone_safe h
  | bankHandoverTimeout => exact execBankHandoverTimeout_safe h
  | bankRetWrite => exact execBankRetWrite_safe h
  | bankRetentionEnter => exact execBankRetentionEnter_safe h
  | bankWakeDone => exact execBankWakeDone_safe h
  | matrixRead => exact execMatrixRead_safe h
  | matrixWrite => exact execMatrixWrite_safe h
  | matrixAtomic => exact execMatrixAtomic_safe h
  | privatePortWrite => exact execPrivatePortWrite_safe h
  | proofWindowStart => exact execProofWindowStart_safe h
  | proofWindowDone => exact execProofWindowDone_safe h
  | masterReset => exact execMasterReset_safe h
  | masterResetDrainDone => exact execMasterResetDrainDone_safe h
  | bankErrCountWrite => exact execBankErrCountWrite_safe h
  | mtxConflictWrite => exact execMtxConflictWrite_safe h
  | ddrPatrolScrub => exact execDdrPatrolScrub_safe h
  | bar2Read => exact execBar2Read_safe h
  | bar2Write => exact execBar2Write_safe h
  | mbxReqTail => exact execMbxReqTail_safe h
  | mbxDescriptorFetch => exact execMbxDescriptorFetch_safe h
  | mbxCplHead => exact execMbxCplHead_safe h
  | mbxEnWrite => exact execMbxEnWrite_safe h
  | mbxDmaError => exact execMbxDmaError_safe h
  | aexEnWrite => exact execAexEnWrite_safe h
  | aexChunkWrite => exact execAexChunkWrite_safe h
  | mbxAexRd => exact execMbxAexRd_safe h
  | tcpConnect => exact execTcpConnect_safe h
  | tlsHandshake => exact execTlsHandshake_safe h
  | sessionClose => exact execSessionClose_safe h
  | v2SessionIdle => exact execV2SessionIdle_safe h
  | v2FrameReceive => exact execV2FrameReceive_safe h
  | v3FrameReceive => exact execV3FrameReceive_safe h
  | networkEcho => exact execNetworkEcho_safe h
  | spiRequest => exact execSpiRequest_safe h
  | spiResponse => exact execSpiResponse_safe h
  | spiEvent => exact execSpiEvent_safe h
  | spiTime => exact execSpiTime_safe h
  | jopRead => exact execJopRead_safe h
  | jopWrite => exact execJopWrite_safe h
  | jopSubscribe => exact execJopSubscribe_safe h
  | jopUnsubscribe => exact execJopUnsubscribe_safe h
  | jopPing => exact execJopPing_safe h
  | dedupExpire => exact execDedupExpire_safe h
  | snapshotDiscard => exact execSnapshotDiscard_safe h
  | segmentAssemblyTimeout => exact execSegmentAssemblyTimeout_safe h
  | storedWriteComplete => exact execStoredWriteComplete_safe h
  | regDataRead => exact execRegDataRead_safe h
  | regDataWrite => exact execRegDataWrite_safe h
  | summaryRead => exact execSummaryRead_safe h
  | eventRedeliver => exact execEventRedeliver_safe h
  | poolAdmit => exact execPoolAdmit_safe h
  | requestEligible => exact execRequestEligible_safe h
  | requestServe => exact execRequestServe_safe h
  | requestComplete => exact execRequestComplete_safe h
  | qsample => exact execQsample_safe h
  | qstatsRead => exact execQstatsRead_safe h
  | gateCommit => exact execGateCommit_safe h
  | gateEnableWrite => exact execGateEnableWrite_safe h
  | gateListApply => exact execGateListApply_safe h
  | gateRealign => exact execGateRealign_safe h
  | gateEntryAdvance => exact execGateEntryAdvance_safe h
  | egressFrameStart => exact execEgressFrameStart_safe h
  | evtQData0Read => exact execEvtQData0Read_safe h
  | evtQRdWrite => exact execEvtQRdWrite_safe h
  | evtSeqLoRead => exact execEvtSeqLoRead_safe h
  | vauxGood => exact execVauxGood_safe h
  | vauxLost => exact execVauxLost_safe h
  | vmainGood => exact execVmainGood_safe h
  | bootImageVerify => exact execBootImageVerify_safe h
  | firmwareRunning => exact execFirmwareRunning_safe h
  | startupComplete => exact execStartupComplete_safe h
  | vmainLost => exact execVmainLost_safe h
  | vmainFlushDone => exact execVmainFlushDone_safe h
  | modResetAssert => exact execModResetAssert_safe h
  | modResetRelease => exact execModResetRelease_safe h
  | perstAssert => exact execPerstAssert_safe h
  | perstRelease => exact execPerstRelease_safe h
  | lcSwResetModule => exact execLcSwResetModule_safe h
  | lcSwResetWatch => exact execLcSwResetWatch_safe h
  | lcSwResetForge => exact execLcSwResetForge_safe h
  | bootRecoveryLoad => exact execBootRecoveryLoad_safe h
  | fwUpdateStart => exact execFwUpdateStart_safe h
  | fwUpdateData => exact execFwUpdateData_safe h
  | fwUpdateCommit => exact execFwUpdateCommit_safe h
  | fwConfirm => exact execFwConfirm_safe h
  | lcRequest => exact execLcRequest_safe h
  | lcShutdown => exact execLcShutdown_safe h
  | tamper => exact execTamper_safe h
  | pcieLinkStateChange => exact execPcieLinkStateChange_safe h
  | lcTransitionComplete => exact execLcTransitionComplete_safe h
  | shutdownReady => exact execShutdownReady_safe h
  | modResetFlushDone => exact execModResetFlushDone_safe h

/-- Every step keeps the bounds of the histories and the form of the memories. -/
theorem step_safe : SafeNext s (step s) := by
  unfold step
  split
  · exact .next (.refl s)
  · exact exec_safe (Safe.refl s).upd

end Sys2Proof.Machine
end

section
open Sys2Proof Sys2Proof.Machine

/-- Settles O60: every operation of the model keeps the bounds of the histories (`Safe`), and so does every step. -/
theorem stepKeepsHistories : Obligations.StepKeepsHistories := by
  intro s t bounded next
  have safe : SafeNext s (.next t) := next ▸ step_safe
  exact safe.1 bounded

end

/-! SUPPORT. A batch on its way to PENDING (R82, R84 to R89, R97, R98, R101): its submission, its failure and the answer that
goes with it, the plan of the only open batch, FIRE and CANCEL. -/
section
namespace Sys2Proof.Machine

/-! ### Batches by their IDs -/

theorem State.batch_id {s : State} {id : Nat} {b : Batch} (h : s.batch id = some b) : b.id = id := by
  have member := List.mem_of_head? h
  simpa using List.of_mem_filter member

theorem State.batch_sole {s : State} {b : Batch} (h : s.batches = [b]) : s.batch b.id = some b := by
  simp [State.batch, h]

theorem State.pendingBefore_planning {s : State} {b : Batch} (h : s.batches = [b]) (hs : b.state = .planning) (t : Instant) :
    s.pendingBefore t = [] := by
  simp [State.pendingBefore, State.pendingBatches, h, Batch.pending, hs]

theorem putBatch_sole {s : State} {a b : Batch} (ha : s.batches = [a]) (hid : a.id = b.id) :
    s.putBatch b = { s with batches := [b] } := by
  rw [putBatch_eq, ha, List.map_cons, if_pos hid, List.map_nil]

/-- The only open batch takes its accepted plan, with its image still to be written: nothing is planned again (R77, R86). -/
theorem replanStale_putBatch {s : State} {a b : Batch} (ha : s.batches = [a]) (hid : a.id = b.id) (hp : b.pending = true)
    (hplan : b.plan.before = s.active) (hi : b.imageReady = false) :
    replanStale (s.putBatch b) = { s with batches := [b], image := none } := by
  rw [putBatch_sole ha hid, replanStale_one (s := { s with batches := [b] }) rfl hp hplan, hi]
  rfl

/-! ### A submission that is answered (R84, R97) -/

/-- A batch whose plan was accepted (R84). -/
def Batch.accepted (b : Batch) : Batch := { b with state := .pending }

/-- A batch among those closed, of which the last 64 are kept (R101). -/
def State.archive (s : State) (b : Batch) : State :=
  { s with batches := s.batches.filter fun c => decide (c.id ≠ b.id), closed := (b :: s.closed).take 64 }

theorem archive_sole {s : State} {b c : Batch} (hb : s.batches = [b]) (hc : c.id = b.id) :
    s.archive c = { s with batches := [], closed := (c :: s.closed).take 64 } := by
  simp [State.archive, hb, hc]

section
variable {b : Batch} (ho : b.origin = 0) (hs : b.state = .planning) (hm : b.moves = [])
include ho hs hm

/-- A host's submission that is still PLANNING is answered. -/
theorem replyBatch_host (st : Nat) (s : State) : replyBatch b st s = reply b.session st s :=
  if_pos ⟨ho, hs, by rw [hm]; rfl⟩

/-- The failure of a host's submission changes the batches and answers its request with the failure's status. -/
theorem failBatch_does (st : Nat) (s : State) : Does b.session st s (s.archive (b.failed st)) (failBatch b st s) := by
  have fails : failBatch b st s
      = reply b.session st (raiseEv 0x603 (b.failed st).payload (s.archive (b.failed st))) := by
    unfold failBatch
    rw [replyBatch_host ho hs hm, dropMoves, if_neg (by simp [ho])]
    rfl
  rw [fails]
  exact does_of_same rfl (raiseEv_same _ _ _)

/-- A host's batch, the only one open, is PENDING, and that is its answer (R84). -/
theorem placeBatch_sole {s : State} {a : Batch} (ha : s.batches = [a]) (hid : a.id = b.id) (hh : b.hold = false)
    (hplan : b.plan.before = s.active) (hi : b.imageReady = false) :
    placeBatch b s = reply b.session stOk { s with batches := [b.accepted], image := none } := by
  have accepted : ({ b with state := if b.hold ∧ b.origin = 0 then .held else .pending } : Batch) = b.accepted := by
    simp [hh, Batch.accepted]
  unfold placeBatch
  rw [replyBatch_host ho hs hm, accepted, replanStale_putBatch (b := b.accepted) ha hid rfl hplan hi]

end

theorem Does.closed {ses st : Nat} {s u t : State} (h : Does ses st s u t) : t.closed = u.closed :=
  (congrArg State.closed h.2 :)

theorem Does.planner {ses st : Nat} {s u t : State} (h : Does ses st s u t) : t.planner = u.planner :=
  (congrArg State.planner h.2 :)

theorem Does.lastBatch {ses st : Nat} {s u t : State} (h : Does ses st s u t) :
    (t.session ses).lastBatch = (s.session ses).lastBatch := by
  obtain ⟨⟨-, -, -, -, quiet⟩, -⟩ := h
  exact (congrArg Session.lastBatch quiet :)

theorem Does.resp {ses st : Nat} {s u t : State} (h : Does ses st s u t) :
    (t.session ses).resp = some ⟨st, [], 0⟩ := h.1.1

/-! ### BATCH_SUBMIT -/

/-- The state in which a submission has its ID and waits for its plan (R82, R101). -/
def State.submitted (s : State) (b : Batch) : State :=
  { s.setSession b.session { s.session b.session with lastBatch := b.id } with
    nextBatch := nextBatchId s.nextBatch, batches := s.batches ++ [b] }

theorem State.submitted_session (s : State) (b : Batch) (n : Nat) : (s.submitted b).session n =
    if n = b.session then { s.session b.session with lastBatch := b.id } else s.session n :=
  State.session_setSession _ _ _ _

theorem State.submitted_archive_core {s : State} {b c : Batch} (hc : c.id = b.id) (h : ∀ x, x ∈ s.batches → x.id ≠ b.id) :
    ((s.submitted b).archive c).core
      = { s with nextBatch := nextBatchId s.nextBatch, closed := (c :: s.closed).take 64 }.core := by
  have others : (s.batches ++ [b]).filter (fun x => decide (x.id ≠ c.id)) = s.batches := by
    rw [List.filter_append, List.filter_eq_self.2 fun x hx => by simpa [hc] using h x hx]
    simp [hc]
  rw [State.archive, State.submitted, others]
  rfl

section
variable {ses : Nat} {v : List Byte} {s : State} (h : Passes ses 0x2200 1 v s)
include h

theorem batchSubmit_outOfRange (hv : headerBad v = true) : Gives (.batchSubmit ses v) s fun t => Does ses stRange s s t :=
  gives_reply (congrArg Host.Outcome.next ((gated_pass h _).trans (if_pos hv)))

theorem batchSubmit_eq (hv : headerBad v = false) : exec (.batchSubmit ses v) s = .next (
    if s.submitStatus (parseBatch ses s.nextBatch v) = stOk then s.submitted (parseBatch ses s.nextBatch v)
    else failBatch (parseBatch ses s.nextBatch v) (s.submitStatus (parseBatch ses s.nextBatch v))
      (s.submitted (parseBatch ses s.nextBatch v))) :=
  congrArg Host.Outcome.next ((gated_pass h _).trans (if_neg (by simp [hv])))

theorem batchSubmit_waits (hv : headerBad v = false) (hst : s.submitStatus (parseBatch ses s.nextBatch v) = stOk) :
    Gives (.batchSubmit ses v) s fun t =>
      t = { s with
        sessions := t.sessions, nextBatch := nextBatchId s.nextBatch
        batches := s.batches ++ [parseBatch ses s.nextBatch v] }
        ∧ t.session ses = { s.session ses with lastBatch := s.nextBatch }
        ∧ ∀ k, k ≠ ses → t.session k = s.session k := by
  have run := batchSubmit_eq h hv
  rw [if_pos hst] at run
  exact ⟨_, run, rfl, (State.submitted_session _ _ _).trans (if_pos rfl),
    fun k hk => (State.submitted_session _ _ _).trans (if_neg hk)⟩

theorem batchSubmit_refused {st : Nat} (hv : headerBad v = false) (hnew : ∀ b, b ∈ s.batches → b.id ≠ s.nextBatch)
    (hst : s.submitStatus (parseBatch ses s.nextBatch v) = st) (hne : st ≠ stOk) :
    Gives (.batchSubmit ses v) s fun t =>
      t.core = { s with nextBatch := nextBatchId s.nextBatch, closed := t.closed }.core
        ∧ t.closed = ({ parseBatch ses s.nextBatch v with state := .failed, status := st } :: s.closed).take 64
        ∧ (t.session ses).resp = some ⟨st, [], 0⟩ ∧ (t.session ses).lastBatch = s.nextBatch := by
  have run := batchSubmit_eq h hv
  rw [hst, if_neg hne] at run
  have fails := failBatch_does (b := parseBatch ses s.nextBatch v) rfl rfl rfl st (s.submitted (parseBatch ses s.nextBatch v))
  refine ⟨_, run, ?_, fails.closed, fails.resp, fails.lastBatch.trans ?_⟩
  · rw [fails.closed]
    exact fails.2.trans (State.submitted_archive_core rfl hnew)
  · rw [State.submitted_session, if_pos rfl]
    rfl

end

/-! ### BATCH_PLAN_COMPLETE -/

theorem batchPlanComplete_asleep {id ns : Nat} {s : State} (ha : s.awake = false) :
    Gives (.batchPlanComplete id ns) s fun t => t = s := by
  refine ⟨_, rfl, ?_⟩
  beta_reduce
  split
  · rfl
  · exact if_pos (.inr (by simp [ha]))

/-- A plan is counted and kept, and the moves that it did not need return (R79, R422). -/
def State.planned (s : State) (b : Batch) (p : Plan) (ns : Nat) : State :=
  refundMoves b.session b.records.length p.moved (countPlan ns (keepPlan b.session p s))

theorem State.planned_frame (s : State) (b : Batch) (p : Plan) (ns : Nat) :
    ∃ sessions planner, s.planned b p ns = { s with sessions := sessions, planner := planner } := ⟨_, _, rfl⟩

/-- A batch with its plan. -/
def Batch.withPlan (b : Batch) (p : Plan) : Batch := { b with plan := p, status := p.status }

/-- An IMMEDIATE batch with its plan, to commit at the next transit boundary (R83). -/
def Batch.immediate (b : Batch) (s : State) (p : Plan) : Batch := { b with t0 := s.nextBoundary, late := false }.withPlan p

section
variable {b : Batch} {ns : Nat} {s : State} (hb : s.batches = [b]) (hs : b.state = .planning)
include hb hs

/-- The only open batch is planned over the configuration in force, to commit at an instant. -/
theorem planBatch_sole (hh : b.hold = false) (t0 : Instant) (late : Bool) {p : Plan}
    (hp : p = makePlan s s.active (s.generationPlus 0) b.records ns) :
    planBatch { b with t0 := t0, late := late } ns s =
      let c := { b with t0 := t0, late := late }.withPlan p
      if p.status ≠ stOk then failBatch c p.status (s.planned b p ns)
      else if s.batchBarred then failBatch c stNotEligible (s.planned b p ns)
      else placeBatch c (s.planned b p ns) := by
  have hold : Batch.hold { b with t0 := t0, late := late } = false := hh
  have barred : s.noPlace { b with t0 := t0, late := late } = s.batchBarred := by
    simp [State.noPlace, hold]
  subst hp
  unfold planBatch
  simp only [hold, barred, Bool.false_eq_true, if_false, State.pendingBefore_planning hb hs]
  rfl

theorem batchPlanComplete_run (ha : s.awake = true) : exec (.batchPlanComplete b.id ns) s = .next (
    if b.mode = 1 ∧ s.now < b.tReq then planBatch { b with t0 := b.tReq } ns s
    else if b.mode = 1 ∧ !b.allowLate then failBatch b stLate s
    else planBatch { b with t0 := s.nextBoundary, late := decide (b.mode = 1) } ns s) := by
  refine congrArg Host.Outcome.next ?_
  simp only [State.batch_sole hb]
  exact if_neg (by simp [hs, ha])

variable (ho : b.origin = 0) (hm : b.moves = []) (ha : s.awake = true)
include ho hm ha

theorem batchPlanComplete_late (h1 : b.mode = 1) (ht : b.tReq ≤ s.now) (hl : b.allowLate = false) :
    Gives (.batchPlanComplete b.id ns) s fun t =>
      t.core = { s with batches := [], closed := t.closed }.core
        ∧ t.closed = ({ b with state := .failed, status := stLate } :: s.closed).take 64
        ∧ (t.session b.session).resp = some ⟨stLate, [], 0⟩ := by
  have run := batchPlanComplete_run (ns := ns) hb hs ha
  rw [if_neg fun early => Nat.not_lt.2 ht early.2, if_pos (by simp [h1, hl])] at run
  have fails := failBatch_does ho hs hm stLate s
  rw [archive_sole hb (show (b.failed stLate).id = b.id from rfl)] at fails
  refine ⟨_, run, ?_, fails.closed, fails.resp⟩
  rw [fails.closed]
  exact fails.2

variable (hh : b.hold = false) (h0 : b.mode = 0) {p : Plan} (hp : p = makePlan s s.active (s.generationPlus 0) b.records ns)
include hh h0 hp

omit ho hm in
/-- An IMMEDIATE batch, the only one open, is planned to commit at the next transit boundary (R83). -/
theorem batchPlanComplete_immediate : exec (.batchPlanComplete b.id ns) s = .next (
    if p.status ≠ stOk then failBatch (b.immediate s p) p.status (s.planned b p ns)
    else if s.batchBarred then failBatch (b.immediate s p) stNotEligible (s.planned b p ns)
    else placeBatch (b.immediate s p) (s.planned b p ns)) := by
  have late : decide (b.mode = 1) = false := by simp [h0]
  rw [batchPlanComplete_run hb hs ha, if_neg (by simp [h0]), if_neg (by simp [h0]), late,
    planBatch_sole hb hs hh s.nextBoundary false hp]
  rfl

theorem batchPlanComplete_fails {st : Nat}
    (hst : (p.status ≠ stOk ∧ st = p.status) ∨ (p.status = stOk ∧ s.batchBarred = true ∧ st = stNotEligible)) :
    Gives (.batchPlanComplete b.id ns) s fun t =>
      t.core = { s with batches := [], planner := t.planner, closed := t.closed }.core
        ∧ (∃ c, t.closed = (c :: s.closed).take 64 ∧ c.id = b.id ∧ c.state = .failed ∧ c.status = st)
        ∧ (t.session b.session).resp = some ⟨st, [], 0⟩ := by
  have run : exec (.batchPlanComplete b.id ns) s = .next (failBatch (b.immediate s p) st (s.planned b p ns)) := by
    rw [batchPlanComplete_immediate hb hs ha hh h0 hp]
    obtain ⟨hne, rfl⟩ | ⟨hok, hbar, rfl⟩ := hst
    · rw [if_pos hne]
    · rw [if_neg (not_not.2 hok), if_pos hbar]
  obtain ⟨sessions, planner, planned⟩ := s.planned_frame b p ns
  rw [planned] at run
  have fails := failBatch_does (b := b.immediate s p) ho hs hm st { s with sessions := sessions, planner := planner }
  rw [archive_sole (s := { s with sessions := sessions, planner := planner }) hb
    (show ((b.immediate s p).failed st).id = b.id from rfl)] at fails
  refine ⟨_, run, ?_, ⟨_, fails.closed, rfl, rfl, rfl⟩, fails.resp⟩
  rw [fails.closed, fails.planner]
  exact fails.2

theorem batchPlanComplete_places (hi : b.imageReady = false) (hok : p.status = stOk) (hbar : s.batchBarred = false) :
    Gives (.batchPlanComplete b.id ns) s fun t =>
      t.core = { s with batches := t.batches, planner := t.planner, image := none }.core
        ∧ t.batches = [{ b with
            t0 := s.nextBoundary, late := false, plan := p, status := stOk, state := .pending }]
        ∧ (t.session b.session).resp = some ⟨stOk, [], 0⟩ := by
  have run : exec (.batchPlanComplete b.id ns) s = .next (placeBatch (b.immediate s p) (s.planned b p ns)) := by
    rw [batchPlanComplete_immediate hb hs ha hh h0 hp, if_neg (not_not.2 hok), if_neg (by simp [hbar])]
  have basis : p.before = s.active := by rw [hp]; rfl
  obtain ⟨sessions, planner, planned⟩ := s.planned_frame b p ns
  rw [planned, placeBatch_sole (b := b.immediate s p) (s := { s with sessions := sessions, planner := planner })
    ho hs hm hb rfl hh basis hi] at run
  refine ⟨_, run, rfl, ?_, (reply_answered _ _ _).1⟩
  rw [reply_batches, ← hok]
  rfl

end

/-! ### BATCH_FIRE -/

/-- The instant at which a HELD batch commits when it is fired: a transit boundary, and after every other batch that is
PENDING (R88, R89). -/
def State.fireInstant (s : State) : Instant :=
  (s.pendingBatches.filter fun c => decide (c.state = .pending)).foldl (fun m c => max m (c.t0 + transitUnits)) s.nextBoundary

theorem le_foldl_max (f : Batch → Nat) (bs : List Batch) : ∀ n : Nat,
    n ≤ bs.foldl (fun m c => max m (f c)) n ∧ ∀ c, c ∈ bs → f c ≤ bs.foldl (fun m c => max m (f c)) n := by
  induction bs with
  | nil => exact fun n => ⟨le_rfl, fun c h => absurd h List.not_mem_nil⟩
  | cons b rest ih =>
    intro n
    obtain ⟨start, members⟩ := ih (max n (f b))
    refine ⟨(le_max_left n (f b)).trans start, fun c hc => ?_⟩
    obtain rfl | hc := List.mem_cons.1 hc
    · exact (le_max_right n (f c)).trans start
    · exact members c hc

theorem State.nextBoundary_le_fireInstant (s : State) : s.nextBoundary ≤ s.fireInstant := (le_foldl_max _ _ _).1

theorem State.pending_le_fireInstant {s : State} {c : Batch} (hc : c ∈ s.pendingBatches) (hs : c.state = .pending) :
    c.t0 + transitUnits ≤ s.fireInstant :=
  (le_foldl_max (fun c => c.t0 + transitUnits) _ _).2 c (List.mem_filter.2 ⟨hc, by simp [hs]⟩)

theorem State.fireInstant_alone {s : State} (h : ∀ c, c ∈ s.pendingBatches → c.state ≠ .pending) :
    s.fireInstant = s.nextBoundary := by
  unfold State.fireInstant
  rw [List.filter_eq_nil_iff.2 fun c hc => by simp [h c hc], List.foldl_nil]

section
variable {ses id : Nat} {s : State} (h : Passes ses 0x2200 3 (leBytes 4 id) s)
include h

theorem batchFire_refused (hn : ∀ b, s.batch id = some b → b.state ≠ .held) :
    Gives (.batchFire ses id) s fun t => Does ses stNotEligible s s t := by
  refine gives_reply (congrArg Host.Outcome.next ((gated_pass h _).trans ?_))
  split
  · rfl
  · next b hb => exact if_neg (hn b hb)

theorem batchFire_fires {b : Batch} (hb : s.batch id = some b) (hs : b.state = .held) :
    Gives (.batchFire ses id) s fun t => Does ses stOk s { s with batches := t.batches } t
      ∧ ∃ t0, (t.batches = s.batches.map fun c =>
            if c.id = id then { b with state := .pending, fired := true, t0 := t0 } else c)
          ∧ s.nextBoundary ≤ t0
          ∧ (∀ c, c ∈ s.pendingBatches → c.state = .pending → c.t0 + transitUnits ≤ t0)
          ∧ ((∀ c, c ∈ s.pendingBatches → c.state ≠ .pending) → t0 = s.nextBoundary) := by
  have run : exec (.batchFire ses id) s = .next (reply ses stOk
      (s.putBatch { b with state := .pending, fired := true, t0 := s.fireInstant })) := by
    refine congrArg Host.Outcome.next ((gated_pass h _).trans ?_)
    simp only [hb]
    exact if_pos hs
  refine ⟨_, run, does_reply _ _ _ _ (SessionsStill.of_eq rfl), s.fireInstant, ?_, s.nextBoundary_le_fireInstant,
    fun c hc hp => State.pending_le_fireInstant hc hp, State.fireInstant_alone⟩
  rw [reply_batches, ← State.batch_id hb]
  rfl

end

/-! ### BATCH_CANCEL -/

section
variable {ses id : Nat} {s : State} (h : Passes ses 0x2200 4 (leBytes 4 id) s)
include h

theorem batchCancel_refused
    (hn : ∀ b, s.batch id = some b → b.state ≠ .held ∧ (b.state ≠ .pending ∨ b.t0 < s.now + 10000 * 65536)) :
    Gives (.batchCancel ses id) s fun t => Does ses stNotEligible s s t := by
  refine gives_reply (congrArg Host.Outcome.next ((gated_pass h _).trans ?_))
  split
  · rfl
  · next b hb =>
    obtain ⟨held, due⟩ := hn b hb
    refine if_neg ?_
    rintro (hs | ⟨hs, ht⟩)
    · exact held hs
    · exact due.elim (fun k => k hs) (Nat.not_lt.2 ht)

theorem batchCancel_cancels {b : Batch} (hb : s.batches = [b]) (hid : b.id = id)
    (hs : b.state = .held ∨ (b.state = .pending ∧ s.now + 10000 * 65536 ≤ b.t0)) :
    Gives (.batchCancel ses id) s fun t =>
      Does ses stOk s { s with
        batches := [], closed := ({ b with state := .cancelled } :: s.closed).take 64
        image := if s.sched.state = .idle then none else s.image } t := by
  subst hid
  let c : Batch := { b with state := .cancelled }
  have run : exec (.batchCancel ses b.id) s
      = .next (reply ses stOk (replanStale (raiseEv 0x605 c.payload (s.archive c)))) := by
    refine congrArg Host.Outcome.next ((gated_pass h _).trans ?_)
    simp only [State.batch_sole hb]
    exact if_pos hs
  have same := raiseEv_same 0x605 c.payload (s.archive c)
  rw [archive_sole hb (show c.id = b.id from rfl)] at run same
  generalize raiseEv 0x605 c.payload _ = u at run same
  have gone : u.batches = [] := (congrArg State.batches same.1 :)
  have unread : u.image = s.image := (congrArg State.image same.1 :)
  have image : (if u.sched.state = .idle then none else u.image) = if s.sched.state = .idle then none else s.image := by
    rw [same.sched, unread]
  rw [replanStale_none gone, image] at run
  exact ⟨_, run, does_of_same rfl (same.image _)⟩

end

end Sys2Proof.Machine
end

section
open Sys2Proof Sys2Proof.Machine

/-- Settles O35: a submission by its header and its status, a plan by its status and what bars it, FIRE and CANCEL by the
batch's state. -/
theorem batchSubmission : Obligations.BatchSubmission :=
  ⟨fun _ _ _ h => ⟨batchSubmit_outOfRange h, batchSubmit_waits h, fun _ hv hnew => batchSubmit_refused h hv hnew⟩,
    fun _ _ _ ha => batchPlanComplete_asleep ha,
    fun _ _ _ hb hs hh ho hm hi ha =>
      ⟨fun _ h0 hp => ⟨batchPlanComplete_places hb hs ho hm ha hh h0 hp hi,
          fun _ => batchPlanComplete_fails hb hs ho hm ha hh h0 hp⟩,
        batchPlanComplete_late hb hs ho hm ha⟩,
    fun _ _ _ h => ⟨batchFire_refused h, fun _ => batchFire_fires h⟩,
    fun _ _ _ h => ⟨batchCancel_refused h, fun _ => batchCancel_cancels h⟩⟩

end

/-! SUPPORT. An element's faults (R134, R141 to R143, R204): what a fault leaves of the element that it names and of the
rest, and the read-back that decides a clear. -/
section
namespace Sys2Proof.Machine

/-! ### After events and records -/

theorem Same.elems {s t : State} (h : Same s t) : t.elems = s.elems := (congrArg State.elems h.1 :)

theorem Same.chans {s t : State} (h : Same s t) : t.chans = s.chans := (congrArg State.chans h.1 :)

theorem Same.notches {s t : State} (h : Same s t) : t.notches = s.notches := (congrArg State.notches h.1 :)

theorem Same.elem {s t : State} (h : Same s t) (e : Nat) : t.elem e = s.elem e := by
  rw [State.elem, h.elems, ← State.elem]

theorem Same.chan {s t : State} (h : Same s t) (e : Nat) : t.chan e = s.chan e := by
  rw [State.chan, h.chans, ← State.chan]

theorem Same.refl (s : State) : Same s s := ⟨rfl, SessionsStill.refl s⟩

theorem wakeForge_same (s : State) : Same s (wakeForge s) := ⟨wakeForge_base s, wakeForge_still s⟩

/-! ### Entering FAULTED -/

/-- A fault only latches its bit: the element is FAULTED, or in MANUAL and the cause is not CHANNEL (R142). -/
def Elem.latches (x : Elem) (bit_ : Nat) : Prop := x.mode = .faulted ∨ (x.mode = .manual ∧ bit_ ≠ 4)

section
variable {e b : Nat} {s : State}

theorem enterFault_latches (h : (s.elem e).latches b) :
    enterFault e b s = s.setElem e { s.elem e with causes := orBit (s.elem e).causes b } := if_pos h

theorem enterFault_elem_latches (h : (s.elem e).latches b) :
    (enterFault e b s).elem e = { s.elem e with causes := orBit (s.elem e).causes b } := by
  rw [enterFault_elem, if_neg (not_not_intro rfl)]
  exact if_pos h

theorem enterFault_elem_enters (h : ¬ (s.elem e).latches b) :
    (enterFault e b s).elem e = (s.elem e).enterFault b := by
  rw [enterFault_elem, if_neg (not_not_intro rfl)]
  exact if_neg h

theorem enterFault_elem_other {f : Nat} (h : f ≠ e) : (enterFault e b s).elem f = s.elem f := by
  rw [enterFault_elem, if_pos h]

theorem enterFault_causes : ((enterFault e b s).elem e).causes = orBit (s.elem e).causes b := by
  by_cases h : (s.elem e).latches b
  · rw [enterFault_elem_latches h]
  · rw [enterFault_elem_enters h]
    rfl

/-- A fault and the events that follow it change elements and notch slots and what `State.apart` leaves out. -/
theorem Same.enterFault_apart {t : State} (h : Same (enterFault e b s) t) :
    t.apart = { s with elems := t.elems, notches := t.notches }.apart := by
  rw [h.elems, h.notches, State.apart_of_base h.1]
  exact Machine.enterFault_apart e b s

end

theorem faultBitNo_channel (c : FaultBit) : faultBitNo c ≠ 4 ↔ c ≠ .channel := by cases c <;> decide

section
variable {e : Nat} {c : FaultBit} {s : State}

theorem latches_iff : (s.elem e).latches (faultBitNo c) ↔
    (s.elem e).mode = .faulted ∨ ((s.elem e).mode = .manual ∧ c ≠ .channel) := by
  rw [Elem.latches, faultBitNo_channel]

theorem elemFault_enters (hw : s.power.watchOn = true) (hp : s.causePresent e c = true)
    (hh : (s.elem e).heeds c = true) :
    ∃ t, exec (.elemFault e c) s = .next t ∧ Same (enterFault e (faultBitNo c) s) t := by
  refine ⟨_, congrArg Host.Outcome.next (if_pos ⟨hw, hp, hh⟩), ?_⟩
  split
  · exact raiseEv_same _ _ _
  · exact Same.refl _

theorem elemFault_faults (hw : s.power.watchOn = true) (hp : s.causePresent e c = true)
    (hh : (s.elem e).heeds c = true) :
    Gives (.elemFault e c) s fun t =>
      (t.elem e).causes = orBit (s.elem e).causes (faultBitNo c)
        ∧ t.apart = { s with elems := t.elems, notches := t.notches }.apart
        ∧ (∀ f, f ≠ e → t.elem f = s.elem f)
        ∧ (((s.elem e).mode = .faulted ∨ ((s.elem e).mode = .manual ∧ c ≠ .channel)) →
            (t.elem e).mode = (s.elem e).mode ∧ t.notches = s.notches)
        ∧ (¬ ((s.elem e).mode = .faulted ∨ ((s.elem e).mode = .manual ∧ c ≠ .channel)) →
            (t.elem e).mode = .faulted ∧ (t.elem e).nextCode = 0
              ∧ (t.elem e).faultCount = ((s.elem e).faultCount + 1) % 4294967296
              ∧ (t.elem e).iAcc = 0 ∧ (t.elem e).xPrev = 0 ∧ (t.elem e).trajs = [] ∧ (t.elem e).targetPending = []
              ∧ (t.elem e).settled = false ∧ (t.elem e).offset = 0) := by
  obtain ⟨t, run, same⟩ := elemFault_enters hw hp hh
  refine ⟨t, run, ?_, same.enterFault_apart, fun f hf => ?_, fun hl => ?_, fun hl => ?_⟩
  · rw [same.elem, enterFault_causes]
  · rw [same.elem, enterFault_elem_other hf]
  · have latched := latches_iff.2 hl
    rw [same.elem, same.notches, enterFault_elem_latches latched, enterFault_latches latched]
    exact ⟨rfl, rfl⟩
  · rw [same.elem, enterFault_elem_enters (mt latches_iff.1 hl)]
    exact ⟨rfl, rfl, rfl, rfl, rfl, rfl, rfl, rfl, rfl⟩

end

/-! ### The settling limit -/

section
variable {e : Nat} {s : State} (h : s.timedOut e = true)
include h

theorem timedOut_transit : (s.elem e).mode = .transit := by
  simp only [State.timedOut, Bool.and_eq_true, decide_eq_true_eq] at h
  exact h.1.1

theorem timedOut_enters (b : Nat) : ¬ (s.elem e).latches b := by
  simp [Elem.latches, timedOut_transit h]

theorem settleTimeout_faults : Gives (.settleTimeout e) s fun t =>
    (t.elem e).mode = .faulted ∧ (t.elem e).causes = orBit (s.elem e).causes 5 ∧ (t.elem e).nextCode = 0
      ∧ t.apart = { s with elems := t.elems, notches := t.notches }.apart
      ∧ ∀ f, f ≠ e → t.elem f = s.elem f := by
  refine ⟨enterFault e 5 s, congrArg Host.Outcome.next (if_pos h), ?_, enterFault_causes, ?_,
    enterFault_apart e 5 s, fun f hf => enterFault_elem_other hf⟩
  all_goals
    rw [enterFault_elem_enters (timedOut_enters h 5)]
    rfl

end

/-! ### The write that clears -/

section
variable {ses e : Nat} {s : State} (h : Passes ses (0x8000 + e) 0x0F [1#8] s)
include h

theorem elemFaultClear_refused (hp : s.stillPresent e = true) :
    Gives (.elemFaultClear ses e 1) s fun t => Does ses stNotEligible s s t :=
  gives_reply (congrArg Host.Outcome.next ((gated_pass h _).trans ((if_neg (by decide)).trans (if_pos hp))))

theorem elemFaultClear_waits (hp : s.stillPresent e = false) : Gives (.elemFaultClear ses e 1) s fun t =>
    t = { s with elems := t.elems }
      ∧ t.elem e = { s.elem e with clearAsked := some ses, clearAt := s.time.elapsed }
      ∧ ∀ f, f ≠ e → t.elem f = s.elem f :=
  ⟨s.setElem e { s.elem e with clearAsked := some ses, clearAt := s.time.elapsed },
    congrArg Host.Outcome.next ((gated_pass h _).trans ((if_neg (by decide)).trans (if_neg (by simp [hp])))), rfl,
    (State.elem_setElem _ _ _ _).trans (if_pos rfl), fun _ hf => (State.elem_setElem _ _ _ _).trans (if_neg hf)⟩

end

/-! ### The read-back that decides it -/

/-- Channel `e` with the extra read-back against 0 V in its registers (R204). -/
def State.clearRead (s : State) (e mv : Nat) : Chan :=
  { s.chan e with
    readV := mv % 65536, readExp := 0, readTime := nsInst (8000 * s.time.holdNo + 1000)
    readCount := ((s.chan e).readCount + 1) % 4294967296 }

/-- The state with that read-back taken: no clear waits for it any more. -/
def State.clearTaken (s : State) (e mv : Nat) : State :=
  (s.setChan e (s.clearRead e mv)).setElem e { s.elem e with clearAsked := none }

/-- Channel `e` after a clear that the read-back confirms. -/
def State.clearedChan (s : State) (e mv : Nat) : Chan :=
  { s.clearRead e mv with causes := 0, mismatch := false, readPending := false, retake := false }

/-- The state with the fault of element `e` cleared: a FAULTED one waits to enter TRANSIT (R143). -/
def State.clearDone (s : State) (e mv : Nat) : State :=
  ((s.clearTaken e mv).setChan e (s.clearedChan e mv)).setElem e { s.elem e with
    clearAsked := none, causes := 0, toTransit := decide ((s.elem e).mode = .faulted) }

/-- The extra read-back or the ladder bars the clear (R204). -/
def State.clearBarred (s : State) (e mv : Nat) (sh op : Bool) : Prop :=
  mismatched (s.chan e).spanMv mv 0 = true ∨ sh = true ∨ op = true ∨ s.ladder.state ≠ 2

section
variable (s : State) (e mv : Nat)

theorem clearTaken_chan : (s.clearTaken e mv).chan e = s.clearRead e mv :=
  (State.chan_setChan s e (s.clearRead e mv) e).trans (if_pos rfl)

theorem clearTaken_elem : (s.clearTaken e mv).elem e = { s.elem e with clearAsked := none } :=
  (State.elem_setElem (s.setChan e (s.clearRead e mv)) e _ e).trans (if_pos rfl)

theorem clearTaken_eq : s.clearTaken e mv =
    { s with elems := (s.clearTaken e mv).elems, chans := (s.clearTaken e mv).chans } := rfl

theorem clearDone_chan : (s.clearDone e mv).chan e = s.clearedChan e mv :=
  (State.chan_setChan (s.clearTaken e mv) e (s.clearedChan e mv) e).trans (if_pos rfl)

theorem clearDone_elem : (s.clearDone e mv).elem e = { s.elem e with
    clearAsked := none, causes := 0, toTransit := decide ((s.elem e).mode = .faulted) } :=
  (State.elem_setElem ((s.clearTaken e mv).setChan e (s.clearedChan e mv)) e _ e).trans (if_pos rfl)

theorem clearDone_eq : s.clearDone e mv =
    { s with elems := (s.clearDone e mv).elems, chans := (s.clearDone e mv).chans } := by
  simp only [State.clearDone, State.clearTaken, State.setElem, State.setChan]

theorem clearDone_sessions : (s.clearDone e mv).sessions = s.sessions := by rw [clearDone_eq]

end

theorem reply_chan (ses st : Nat) (s : State) (e : Nat) : (reply ses st s).chan e = s.chan e := by
  simp [State.chan]

/-- A cleared element takes its cleared state, and the rest is events and the wake of the Forge. -/
theorem clearFault_same (e : Nat) (s : State) :
    Same (s.setElem e { s.elem e with causes := 0, clearAsked := none, toTransit := decide ((s.elem e).mode = .faulted) })
      (clearFault e s) := by
  unfold clearFault
  extract_lets x s1 s2
  have raised : Same s1 s2 := by
    unfold s2
    split
    · exact raiseEv_same _ _ _
    · exact Same.refl s1
  split
  · exact raised.trans (wakeForge_same s2)
  · exact raised

/-- The clear after its read-back, but for its events and the wake of the Forge. -/
theorem clearFault_clearTaken (s : State) (e mv : Nat) :
    Same (s.clearDone e mv) (clearFault e ((s.clearTaken e mv).setChan e (s.clearedChan e mv))) := by
  have taken : ((s.clearTaken e mv).setChan e (s.clearedChan e mv)).elem e = { s.elem e with clearAsked := none } :=
    clearTaken_elem s e mv
  have same := clearFault_same e ((s.clearTaken e mv).setChan e (s.clearedChan e mv))
  rw [taken] at same
  exact same

section
variable {ses e mv : Nat} {sh op : Bool} {s : State}
  (ha : (s.elem e).clearAsked = some ses) (hd : s.clearDue e = true)
include ha hd

theorem faultClearReadback_eq (sh op : Bool) : exec (.faultClearReadback e mv sh op) s = .next
    (if mismatched (s.chan e).spanMv mv 0 ∨ sh ∨ op ∨ s.ladder.state ≠ 2
      then reply ses stNotEligible (s.clearTaken e mv)
      else reply ses stOk (clearFault e ((s.clearTaken e mv).setChan e (s.clearedChan e mv)))) := by
  refine congrArg Host.Outcome.next ?_
  rw [ha]
  exact if_neg (by simp [hd])

theorem faultClearReadback_refused (hb : s.clearBarred e mv sh op) : Gives (.faultClearReadback e mv sh op) s fun t =>
    Does ses stNotEligible s { s with elems := t.elems, chans := t.chans } t
      ∧ (t.chan e).causes = (s.chan e).causes ∧ (t.chan e).readV = mv % 65536 ∧ (t.chan e).readExp = 0
      ∧ t.elem e = { s.elem e with clearAsked := none } := by
  refine ⟨_, (faultClearReadback_eq ha hd sh op).trans (congrArg Host.Outcome.next (if_pos hb)), ?_, ?_⟩
  · rw [reply_elems, reply_chans, ← clearTaken_eq]
    exact does_reply _ _ _ _ (SessionsStill.of_eq rfl)
  · rw [reply_elem, reply_chan, clearTaken_chan, clearTaken_elem]
    exact ⟨rfl, rfl, rfl, rfl⟩

theorem faultClearReadback_clears (hb : ¬ s.clearBarred e mv sh op) : Gives (.faultClearReadback e mv sh op) s fun t =>
    Does ses stOk s { s with elems := t.elems, chans := t.chans } t
      ∧ (t.chan e).causes = 0 ∧ (t.chan e).readV = mv % 65536 ∧ (t.chan e).readExp = 0
      ∧ t.elem e = { s.elem e with
          clearAsked := none, causes := 0, toTransit := decide ((s.elem e).mode = .faulted) } := by
  have same := clearFault_clearTaken s e mv
  refine ⟨_, (faultClearReadback_eq ha hd sh op).trans (congrArg Host.Outcome.next (if_neg hb)), ?_, ?_⟩
  · rw [reply_elems, reply_chans, same.elems, same.chans, ← clearDone_eq]
    exact does_of_same (clearDone_sessions s e mv) same
  · rw [reply_elem, reply_chan, same.elem, same.chan, clearDone_chan, clearDone_elem]
    exact ⟨rfl, rfl, rfl, rfl⟩

end

end Sys2Proof.Machine
end

section
open Sys2Proof Sys2Proof.Machine

/-- Settles O3: a fault by whether it only latches its bit, a clear by what the write finds and then by its read-back. -/
theorem elementFaults : Obligations.ElementFaults :=
  ⟨fun _ _ _ => elemFault_faults, fun _ _ => settleTimeout_faults,
    fun _ _ _ h => ⟨elemFaultClear_refused h, elemFaultClear_waits h⟩,
    fun _ _ _ _ _ _ ha hd => ⟨faultClearReadback_refused ha hd, fun hm hs ho hl =>
      faultClearReadback_clears ha hd (by simp [State.clearBarred, hm, hs, ho, hl])⟩⟩

end

/-! SUPPORT. The retirement of a lane (R152 to R154, R159): a lane that retires was no idle spare, and its slots pass to the
first one. -/
section
namespace Sys2Proof.Machine

/-- The state with lane `n` retired. -/
def State.retired (s : State) (v : Anvil) (n : Nat) : State :=
  s.setLane v n { s.lane v n with kind := .retired, carries := 0xFF, lowRun := 0 }

/-- The lane of which lane `n` carries the slots: as an active spare another one, else itself. -/
def State.slotOwner (s : State) (v : Anvil) (n : Nat) : Nat :=
  if (s.lane v n).kind = .spareActive then (s.lane v n).carries else n

/-- Idle spares of the group of lane `n`, ascending (R152). -/
def State.groupSpares (s : State) (v : Anvil) (n : Nat) : List Nat :=
  if n < 128 then s.spares v 64 4 else s.spares v 134 2

/-- The state with lane `n` retired and its slots carried by the first of the spares. -/
def State.replaced (s : State) (v : Anvil) (n : Nat) : List Nat → State
  | [] => s.retired v n
  | k :: _ => (s.retired v n).setLane v k
      { (s.retired v n).lane v k with kind := .spareActive, carries := s.slotOwner v n }

theorem Lane.works_not_spare {l : Lane} (h : l.works = true) : l.kind ≠ .spare := by
  intro hk
  simp [Lane.works, hk] at h

section
variable (s : State) (v : Anvil) (n : Nat)

theorem retired_lane (w : Anvil) (m : Nat) : (s.retired v n).lane w m = if w = v ∧ m = n
    then { s.lane v n with kind := .retired, carries := 0xFF, lowRun := 0 } else s.lane w m :=
  State.lane_setLane _ _ _ _ _ _

variable {s v n}

/-- A lane that works is no idle spare, so that its retirement takes none away. -/
theorem retired_spares (h : (s.lane v n).works = true) (first count : Nat) :
    (s.retired v n).spares v first count = s.spares v first count := by
  refine List.filter_congr fun m _ => ?_
  rw [retired_lane]
  by_cases hm : m = n
  · simp [hm, Lane.works_not_spare h]
  · simp [hm]

theorem retired_groupSpares (h : (s.lane v n).works = true) : (s.retired v n).groupSpares v n = s.groupSpares v n := by
  simp only [State.groupSpares, retired_spares h]

theorem groupSpares_spare {k : Nat} (h : k ∈ s.groupSpares v n) : (s.lane v k).kind = .spare := by
  unfold State.groupSpares at h
  split at h <;> exact of_decide_eq_true (List.mem_filter.1 h).2

/-- LANE_RETIRE: the lane is replaced, and the rest is events. -/
theorem laneRetire_eq (hw : (s.lane v n).works = true) (hl : 3 ≤ (s.lane v n).lowRun) :
    ∃ t, exec (.laneRetire v n) s = .next t ∧ Same (s.replaced v n (s.groupSpares v n)) t := by
  refine ⟨_, congrArg Host.Outcome.next (if_neg (by simp [hw, hl])), ?_⟩
  rw [← retired_groupSpares hw]
  extract_lets owner s1 sp count s2
  change Same (s.replaced v n sp) _
  clear_value sp
  cases sp with
  | cons k rest => exact raiseEv_same _ _ _
  | nil =>
    dsimp only
    split
    · exact raiseEv_same _ _ _
    · split
      · exact (raiseEv_same _ _ _).trans (raiseEv_same _ _ _)
      · exact raiseEv_same _ _ _

end

theorem Same.lanesA {s t : State} (h : Same s t) : t.lanesA = s.lanesA := (congrArg State.lanesA h.1 :)

theorem Same.lanesB {s t : State} (h : Same s t) : t.lanesB = s.lanesB := (congrArg State.lanesB h.1 :)

theorem Same.lane {s t : State} (h : Same s t) (v : Anvil) (n : Nat) : t.lane v n = s.lane v n := by
  cases v <;> simp only [State.lane, State.lanes, h.lanesA, h.lanesB]

section
variable {s t : State} {v : Anvil} {n : Nat} {l : List Nat}

theorem Same.replaced_lanes (h : Same (s.replaced v n l) t) :
    Same { s with lanesA := t.lanesA, lanesB := t.lanesB } t := by
  rw [h.lanesA, h.lanesB]
  cases l with
  | nil => exact h
  | cons k rest => exact h

theorem otherAnvil_ne (v : Anvil) : otherAnvil v ≠ v := by cases v <;> decide

theorem replaced_otherAnvil (m : Nat) : (s.replaced v n l).lane (otherAnvil v) m = s.lane (otherAnvil v) m := by
  cases l <;> simp [State.replaced, retired_lane, otherAnvil_ne]

/-- The retired lane, unless it were the spare itself. -/
theorem replaced_self (h : l.head? ≠ some n) : (s.replaced v n l).lane v n
    = { s.lane v n with kind := .retired, carries := 0xFF, lowRun := 0 } := by
  cases l with
  | nil => simp [State.replaced, retired_lane]
  | cons k rest =>
    have hk : n ≠ k := fun e => h (by rw [e]; rfl)
    simp [State.replaced, retired_lane, hk]

theorem replaced_spare {k : Nat} (hl : l.head? = some k) :
    ((s.replaced v n l).lane v k).kind = .spareActive ∧ ((s.replaced v n l).lane v k).carries = s.slotOwner v n := by
  cases l with
  | nil => cases hl
  | cons j rest =>
    obtain rfl : j = k := Option.some.inj hl
    simp [State.replaced]

theorem replaced_other {m : Nat} (hm : m ≠ n) (hl : l.head? ≠ some m) : (s.replaced v n l).lane v m = s.lane v m := by
  cases l with
  | nil => simp [State.replaced, retired_lane, hm]
  | cons k rest =>
    have hk : m ≠ k := fun e => hl (by rw [e]; rfl)
    simp [State.replaced, retired_lane, hm, hk]

end

section
variable {s : State} {v : Anvil} {n : Nat}

theorem laneRetire_retires (hw : (s.lane v n).works = true) (hl : 3 ≤ (s.lane v n).lowRun) :
    Gives (.laneRetire v n) s fun t =>
      Same { s with lanesA := t.lanesA, lanesB := t.lanesB } t
        ∧ (t.lane v n).kind = .retired ∧ (t.lane v n).carries = 0xFF
        ∧ (∀ m, t.lane (otherAnvil v) m = s.lane (otherAnvil v) m)
        ∧ (∀ sp, sp ≠ n → (s.groupSpares v n).head? = some sp →
            (t.lane v sp).kind = .spareActive ∧ (t.lane v sp).carries = s.slotOwner v n
              ∧ ∀ m, m ≠ n → m ≠ sp → t.lane v m = s.lane v m)
        ∧ (s.groupSpares v n = [] → ∀ m, m ≠ n → t.lane v m = s.lane v m) := by
  obtain ⟨t, run, same⟩ := laneRetire_eq hw hl
  have head : (s.groupSpares v n).head? ≠ some n := fun h =>
    Lane.works_not_spare hw (groupSpares_spare (List.mem_of_head? h))
  have self := (same.lane v n).trans (replaced_self head)
  refine ⟨t, run, same.replaced_lanes, ?_, ?_, fun m => ?_, fun sp _ hs => ?_, fun hs m hm => ?_⟩
  · rw [self]
  · rw [self]
  · rw [same.lane, replaced_otherAnvil]
  · obtain ⟨kind, carries⟩ := replaced_spare (s := s) (v := v) (n := n) hs
    refine ⟨by rw [same.lane, kind], by rw [same.lane, carries], fun m hm hsp => ?_⟩
    rw [same.lane, replaced_other hm (by simpa [hs] using hsp.symm)]
  · rw [same.lane, replaced_other hm (by simp [hs])]

end

end Sys2Proof.Machine
end

section
open Sys2Proof Sys2Proof.Machine

/-- Settles O4: the lane retires, and the first idle spare of its group, where there is one, carries its slots. -/
theorem laneRetirement : Obligations.LaneRetirement := fun _ _ _ => laneRetire_retires

end

/-! SUPPORT. FABRIC_CLEAR_N (R144, R206, R207, R213): what its edge makes of every element, and what the pin and its release
make of the AUX outputs. -/
section
namespace Sys2Proof.Machine

/-! ### The elements -/

/-- An element at the pin's edge: unless it is FAULTED it is commanded to its clear code, and a running loop freezes. -/
def Elem.cleared (x : Elem) (code : Nat) : Elem :=
  if x.mode = .faulted then x
  else { x with
    nextCode := code, dithered := false, frozen := x.mode.runs, onClear := x.onClear || decide (x.mode ≠ .parked) }

/-- The edge at one element. -/
def freezeOne (e : Nat) (s : State) : State :=
  if (s.elem e).mode = .faulted then s else s.setElem e ((s.elem e).cleared (s.clearCode e))

theorem Elem.cleared_cleared (x : Elem) (code : Nat) : (x.cleared code).cleared code = x.cleared code := by
  by_cases h : x.mode = .faulted <;> simp [Elem.cleared, h]

theorem freezeOne_elem (e : Nat) (s : State) (f : Nat) :
    (freezeOne e s).elem f = if f = e then (s.elem e).cleared (s.clearCode e) else s.elem f := by
  unfold freezeOne
  split
  · next h =>
    split
    · next hf => rw [Elem.cleared, if_pos h, hf]
    · rfl
  · exact State.elem_setElem _ _ _ _

theorem freezeOne_clearCode (e : Nat) (s : State) (f : Nat) : (freezeOne e s).clearCode f = s.clearCode f := by
  unfold freezeOne
  split <;> rfl

theorem freezeAll_eq (s : State) : freezeAll s = forEach freezeOne s.listedElems s := by
  unfold freezeAll
  congr 1
  funext e t
  extract_lets x
  unfold freezeOne
  split
  · rfl
  · next h => rw [Elem.cleared, if_neg h]

theorem forEach_freezeOne_elem (e : Nat) (l : List Nat) (s : State) :
    (forEach freezeOne l s).elem e = if e ∈ l then (s.elem e).cleared (s.clearCode e) else s.elem e := by
  induction l generalizing s with
  | nil => simp [forEach]
  | cons f rest ih =>
    rw [forEach, ih, freezeOne_clearCode, freezeOne_elem]
    by_cases hf : e = f
    · subst hf
      simp [Elem.cleared_cleared]
    · simp [hf]

theorem mapGet_unlisted {α : Type} {m : SMap α} {k : Nat} (h : k ∉ m.map fun p => p.1) (d : α) : mapGet m k d = d := by
  induction m with
  | nil => rfl
  | cons p rest ih =>
    simp only [List.map_cons, List.mem_cons, not_or] at h
    rw [mapGet, if_neg (Ne.symm h.1), ih h.2]

/-- An element that neither the state nor the clear table lists is PARKED at a clear code of 0. -/
theorem unlisted_cleared {s : State} {e : Nat} (h : e ∉ s.listedElems) : (s.elem e).cleared (s.clearCode e) = s.elem e := by
  have own : e ∉ s.elems.map fun p => p.1 := fun k => h (List.mem_append_left _ k)
  have table : e ∉ s.clear.table.map fun p => p.1 := fun k =>
    h (List.mem_append_right _ (List.mem_filter.2 ⟨k, by simpa using own⟩))
  have elem : s.elem e = {} := mapGet_unlisted own _
  have code : s.clearCode e = 0 := by simp [State.clearCode, mapGet_unlisted table]
  rw [elem, code]
  rfl

theorem freezeAll_elem (s : State) (e : Nat) : (freezeAll s).elem e = (s.elem e).cleared (s.clearCode e) := by
  rw [freezeAll_eq, forEach_freezeOne_elem]
  split
  · rfl
  · next h => exact (unlisted_cleared h).symm

theorem freezeAll_elems (s : State) : freezeAll s = { s with elems := (freezeAll s).elems } := by
  refine forEach_invariant _ (fun t : State => t = { s with elems := t.elems }) (fun e t ht => ?_) _ s rfl
  dsimp only
  split
  · exact ht
  · exact congrArg (fun u : State => u.setElem e _) ht

/-! ### The AUX outputs -/

/-- A driven output under the pin's level: in CLEAR while it follows the asserted pin, else ACTIVE (R213). -/
def Aux.turned (x : Aux) (toClear : Bool) : Aux :=
  { x with state := if toClear then .clear else .active, atClear := x.atClear && decide (x.state ≠ .clear) }

/-- AUX output `a` in state `x`, stepped to its code where AUX_SLEW is 0 (R215). -/
def State.stepped (s : State) (a : Nat) (x : Aux) : Aux :=
  { x with now :=
      if s.obj (0x5500 + a) 3 = 0 then
        if x.state = .clear ∨ x.atClear then s.auxClear a else if x.changing then x.before else x.value
      else x.now }

/-- AUX output `a` as the pin's level leaves it. -/
def State.followed (s : State) (a : Nat) : Aux :=
  if (s.auxOut a).driven then s.stepped a ((s.auxOut a).turned (s.clear.asserted && s.auxFollows a)) else s.auxOut a

theorem Aux.turned_driven (x : Aux) (toClear : Bool) : (x.turned toClear).driven = true := by
  cases toClear <;> rfl

theorem auxJump_auxOut {a : Nat} {s : State} (h : (s.auxOut a).driven = true) (b : Nat) :
    (auxJump a s).auxOut b = if b = a then s.stepped a (s.auxOut a) else s.auxOut b := by
  by_cases hs : s.obj (0x5500 + a) 3 = 0
  · simp only [auxJump, h, hs, and_self, if_true, State.stepped, State.auxOut_setAux, State.auxGoal]
  · rw [auxJump, if_neg fun k => hs k.2]
    simp only [State.stepped, hs, if_false]
    split
    · next hb => rw [hb]
    · rfl

theorem auxFollow_auxOut (a : Nat) (s : State) (b : Nat) :
    (auxFollow a s).auxOut b = if b = a then s.followed a else s.auxOut b := by
  by_cases h : (s.auxOut a).driven = true
  · have turned : (s.setAux a ((s.auxOut a).turned (s.clear.asserted && s.auxFollows a))).auxOut a
        = (s.auxOut a).turned (s.clear.asserted && s.auxFollows a) := (State.auxOut_setAux _ _ _ _).trans (if_pos rfl)
    have follow : auxFollow a s = auxJump a (s.setAux a ((s.auxOut a).turned (s.clear.asserted && s.auxFollows a))) :=
      if_neg (by simp [h])
    rw [follow, auxJump_auxOut (by rw [turned, Aux.turned_driven]), turned, State.followed, if_pos h, State.auxOut_setAux]
    split <;> rfl
  · rw [auxFollow, if_pos (by simpa using h), State.followed, if_neg h]
    split
    · next hb => rw [hb]
    · rfl

theorem auxJump_aux (a : Nat) (s : State) : auxJump a s = { s with aux := (auxJump a s).aux } := by
  unfold auxJump
  extract_lets x
  split <;> rfl

theorem auxFollow_aux (a : Nat) (s : State) : auxFollow a s = { s with aux := (auxFollow a s).aux } := by
  unfold auxFollow
  extract_lets x
  split
  · rfl
  · exact auxJump_aux _ _

/-- What an output becomes turns on its own state and on nothing that another output's change touches. -/
theorem followed_auxFollow {a b : Nat} (h : b ≠ a) (s : State) : (auxFollow a s).followed b = s.followed b := by
  have out : (auxFollow a s).auxOut b = s.auxOut b := (auxFollow_auxOut a s b).trans (if_neg h)
  rw [auxFollow_aux] at out ⊢
  simp only [State.followed, out]
  rfl

theorem forEach_auxFollow_auxOut {l : List Nat} (hl : l.Nodup) (a : Nat) (s : State) :
    (forEach auxFollow l s).auxOut a = if a ∈ l then s.followed a else s.auxOut a := by
  induction l generalizing s with
  | nil => simp [forEach]
  | cons b rest ih =>
    obtain ⟨hb, hrest⟩ := List.nodup_cons.1 hl
    rw [forEach, ih hrest, auxFollow_auxOut]
    by_cases h : a = b
    · subst h
      simp [hb]
    · simp [h, followed_auxFollow h]

theorem numbers_eq_range' (a n : Nat) : numbers a n = List.range' a n := by
  induction n generalizing a with
  | zero => rfl
  | succ n ih => rw [numbers, ih, List.range'_succ]

theorem numbers_nodup (a n : Nat) : (numbers a n).Nodup := numbers_eq_range' a n ▸ List.nodup_range'

/-- The sixteen outputs after the pin's level. -/
theorem auxFollowAll_auxOut {a : Nat} (h : a < 16) (s : State) :
    (forEach auxFollow (numbers 0 16) s).auxOut a = s.followed a :=
  (forEach_auxFollow_auxOut (numbers_nodup 0 16) a s).trans (if_pos (mem_numbers.2 ⟨Nat.zero_le a, h⟩))

theorem auxFollowAll_aux (l : List Nat) (s : State) :
    forEach auxFollow l s = { s with aux := (forEach auxFollow l s).aux } :=
  forEach_invariant auxFollow (fun t : State => t = { s with aux := t.aux })
    (fun a t ht => (auxFollow_aux a t).trans (congrArg (fun u : State => { u with aux := (auxFollow a t).aux }) ht)) l s rfl

theorem auxFollowAll_elem (l : List Nat) (s : State) (e : Nat) : (forEach auxFollow l s).elem e = s.elem e :=
  forEach_keeps auxFollow (fun t => t.elem e) (fun a t => by rw [auxFollow_aux]; rfl) l s

section
variable {s : State} {a : Nat}

theorem followed_undriven (h : (s.auxOut a).driven = false) : s.followed a = s.auxOut a := by
  simp [State.followed, h]

variable (h : (s.auxOut a).driven = true)
include h

theorem followed_clear (hc : s.clear.asserted = true) (hf : s.auxFollows a = true) :
    s.followed a = { s.auxOut a with
      state := .clear, atClear := (s.followed a).atClear
      now := if s.obj (0x5500 + a) 3 = 0 then s.auxClear a else (s.auxOut a).now } := by
  simp [State.followed, State.stepped, Aux.turned, h, hc, hf]

theorem followed_active (hc : (s.clear.asserted && s.auxFollows a) = false) :
    s.followed a = { s.auxOut a with
      state := .active, atClear := (s.followed a).atClear, now := (s.followed a).now } := by
  simp [State.followed, State.stepped, Aux.turned, h, hc]

theorem followed_slewing (hs : s.obj (0x5500 + a) 3 ≠ 0) : (s.followed a).now = (s.auxOut a).now := by
  simp [State.followed, State.stepped, Aux.turned, h, hs]

theorem followed_steps (hc : s.clear.asserted = false) (ha : (s.auxOut a).atClear = false)
    (hs : s.obj (0x5500 + a) 3 = 0) :
    (s.followed a).now = if (s.auxOut a).changing = true then (s.auxOut a).before else (s.auxOut a).value := by
  simp [State.followed, State.stepped, Aux.turned, h, hc, ha, hs]

end

/-! ### The pin -/

theorem Same.aux {s t : State} (h : Same s t) : t.aux = s.aux := (congrArg State.aux h.1 :)

theorem Same.auxOut {s t : State} (h : Same s t) (a : Nat) : t.auxOut a = s.auxOut a := by
  rw [State.auxOut, h.aux, ← State.auxOut]

/-- A change of elements and then one of AUX outputs leave the rest. -/
theorem eq_of_elems_of_aux {s t u : State} (ht : t = { s with elems := t.elems }) (hu : u = { t with aux := u.aux }) :
    u = { s with elems := u.elems, aux := u.aux } := by
  have elems : u.elems = t.elems := (congrArg State.elems hu :)
  rw [elems]
  exact hu.trans (congrArg (fun w : State => { w with aux := u.aux }) ht)

/-- The state in which the edge has been recognised. -/
def State.clearEdge (s : State) (edge : Instant) : State :=
  { s with clear := { s.clear with
      asserted := true, auxFollowing := true, count := (s.clear.count + 1) % 4294967296, last := edge } }

/-- The state after it but for events and records. -/
def State.clearAsserted (s : State) (edge : Instant) : State :=
  forEach auxFollow (numbers 0 16) (freezeAll (s.clearEdge edge))

theorem fabricClearAssert_eq {s : State} (edge : Instant) (ha : s.clear.asserted = false) (hv : s.power.vaux = true) :
    ∃ t, exec (.fabricClearAssert edge) s = .next t ∧ Same (s.clearAsserted edge) t :=
  ⟨_, congrArg Host.Outcome.next ((if_neg (by simp [ha])).trans (if_neg (by simp [hv]))),
    (raiseAt_same _ _ _ _ _).trans (auditAt_same _ _ _ _ _)⟩

section
variable (s : State) (edge : Instant)

theorem clearAsserted_eq : s.clearAsserted edge =
    { s.clearEdge edge with elems := (s.clearAsserted edge).elems, aux := (s.clearAsserted edge).aux } :=
  eq_of_elems_of_aux (freezeAll_elems _) (auxFollowAll_aux _ _)

theorem clearAsserted_elem (e : Nat) : (s.clearAsserted edge).elem e = (s.elem e).cleared (s.clearCode e) :=
  (auxFollowAll_elem _ _ e).trans (freezeAll_elem (s.clearEdge edge) e)

theorem clearAsserted_auxOut {a : Nat} (h : a < 16) : (s.clearAsserted edge).auxOut a = (s.clearEdge edge).followed a := by
  rw [State.clearAsserted, auxFollowAll_auxOut h, freezeAll_elems]
  rfl

end

section
variable {s : State} {edge : Instant}

theorem fabricClearAssert_clears (ha : s.clear.asserted = false) (hv : s.power.vaux = true) :
    Gives (.fabricClearAssert edge) s fun t =>
      Same { s with
        clear := { s.clear with
          asserted := true, auxFollowing := true, count := (s.clear.count + 1) % 4294967296, last := edge }
        elems := t.elems, aux := t.aux } t
        ∧ (∀ e, t.elem e = (s.elem e).cleared (s.clearCode e))
        ∧ ∀ a, a < 16 →
            ((s.auxOut a).driven = false → t.auxOut a = s.auxOut a)
            ∧ ((s.auxOut a).driven = true → s.auxFollows a = true →
                t.auxOut a = { s.auxOut a with
                  state := .clear, atClear := (t.auxOut a).atClear
                  now := if s.obj (0x5500 + a) 3 = 0 then s.auxClear a else (s.auxOut a).now })
            ∧ ((s.auxOut a).driven = true → s.auxFollows a = false → (t.auxOut a).state = .active) := by
  obtain ⟨t, run, same⟩ := fabricClearAssert_eq edge ha hv
  have elem (e : Nat) : t.elem e = (s.elem e).cleared (s.clearCode e) :=
    (same.elem e).trans (clearAsserted_elem s edge e)
  have out {a : Nat} (h : a < 16) : t.auxOut a = (s.clearEdge edge).followed a :=
    (same.auxOut a).trans (clearAsserted_auxOut s edge h)
  refine ⟨t, run, ?_, elem, fun a h => ⟨fun hd => ?_, fun hd hf => ?_, fun hd hf => ?_⟩⟩
  · rw [same.elems, same.aux]
    have whole := clearAsserted_eq s edge
    generalize s.clearAsserted edge = u at same whole
    rw [whole] at same
    exact same
  · exact (out h).trans (followed_undriven hd)
  · rw [out h]
    exact followed_clear hd rfl hf
  · have active : (s.clearEdge edge).followed a = _ :=
      followed_active hd ((congrArg (_ && ·) hf).trans (Bool.and_false _))
    rw [out h, active]

theorem fabricClearAssert_levelAlone (ha : s.clear.asserted = false) (hv : s.power.vaux = false) :
    Gives (.fabricClearAssert edge) s fun t =>
      t = { s with clear := { s.clear with asserted := true, auxFollowing := true } } :=
  ⟨_, congrArg Host.Outcome.next ((if_neg (by simp [ha])).trans (if_pos (by simp [hv]))), rfl⟩

theorem fabricClearRelease_releases (ha : s.clear.asserted = true) (hv : s.power.vaux = true) :
    Gives (.fabricClearRelease edge) s fun t =>
      Same { s with clear := { s.clear with asserted := false, releasedAt := s.time.elapsed } } t :=
  ⟨_, congrArg Host.Outcome.next ((if_neg (by simp [ha])).trans (if_neg (by simp [hv]))),
    (raiseAt_same _ _ _ _ _).trans (auditAt_same _ _ _ _ _)⟩

/-- At the first hold boundary after the release every driven output returns. -/
theorem auxClearReturn_returns (ha : s.clear.asserted = false) (hf : s.clear.auxFollowing = true)
    (hh : s.atHold = true) (hr : s.clear.releasedAt < s.time.elapsed) : Gives .auxClearReturn s fun t =>
      t = { s with clear := { s.clear with auxFollowing := false }, aux := t.aux }
        ∧ ∀ a, a < 16 →
            ((s.auxOut a).driven = false → t.auxOut a = s.auxOut a)
            ∧ ((s.auxOut a).driven = true →
                t.auxOut a = { s.auxOut a with
                  state := .active, atClear := (t.auxOut a).atClear, now := (t.auxOut a).now }
                  ∧ (s.obj (0x5500 + a) 3 ≠ 0 → (t.auxOut a).now = (s.auxOut a).now)
                  ∧ (s.obj (0x5500 + a) 3 = 0 → (s.auxOut a).atClear = false →
                      (t.auxOut a).now = if (s.auxOut a).changing = true then (s.auxOut a).before else (s.auxOut a).value)) := by
  refine ⟨_, congrArg Host.Outcome.next (if_neg (by simp [ha, hf, hh, hr])), auxFollowAll_aux _ _, fun a h => ?_⟩
  rw [auxFollowAll_auxOut h]
  exact ⟨followed_undriven, fun hd => ⟨followed_active hd (by simp [ha]), followed_slewing hd,
    fun hs hc => followed_steps hd ha hc hs⟩⟩

end

end Sys2Proof.Machine
end

section
open Sys2Proof Sys2Proof.Machine

/-- Settles O5: the edge at each element and each AUX output, the pin without VAUX, its release and the return. -/
theorem fabricClear : Obligations.FabricClear :=
  ⟨fun _ _ => fabricClearAssert_clears, fun _ _ => fabricClearAssert_levelAlone, fun _ _ => fabricClearRelease_releases,
    fun _ => auxClearReturn_returns⟩

end


/-! SUPPORT. Path trim (R173, R174, R176, R179, R180): what its reports set, and the suspension of the legs that a slow
converter serves. -/
section
namespace Sys2Proof.Machine

/-! ### After events and records -/

section
variable {s t : State}

theorem Same.legs (h : Same s t) : t.legs = s.legs := (congrArg State.legs h.1 :)

theorem Same.ports (h : Same s t) : t.ports = s.ports := (congrArg State.ports h.1 :)

theorem Same.buoys (h : Same s t) : t.buoys = s.buoys := (congrArg State.buoys h.1 :)

theorem Same.leg (h : Same s t) (id : Nat) : t.leg id = s.leg id := by
  rw [State.leg, h.legs, ← State.leg]

theorem Same.port (h : Same s t) (p : Nat) : t.port p = s.port p := by
  rw [State.port, h.ports, ← State.port]

theorem Same.buoy (h : Same s t) (c : Nat) : t.buoy c = s.buoy c := by
  rw [State.buoy, h.buoys, ← State.buoy]

theorem LegsOnly.buoys (h : LegsOnly s t) : t.buoys = s.buoys := (congrArg State.buoys h.1 :)

theorem LegsOnly.buoy (h : LegsOnly s t) (c : Nat) : t.buoy c = s.buoy c := by
  rw [State.buoy, h.buoys, ← State.buoy]

end

/-! ### The suspension of legs (R174) -/

/-- The leg is SUSPENDED, and BUOY_SLOW is among its causes (R186). -/
def LegSt.SlowSuspended (l : LegSt) : Prop := l.trim = .suspended ∧ l.cause.testBit 1 = true

/-- Converter `c` serves the leg's north inbound or its south outbound detector. -/
def State.servedBy (s : State) (id c : Nat) : Prop :=
  convOf (northIn (s.active.slot id).north) = c ∨ convOf (southOut (s.active.slot id).south) = c

/-- The causes of a leg have BUOY_SLOW where a SLOW converter serves it. -/
theorem trimCauses_slow {s : State} {id c : Nat} (h : s.servedBy id c) (hs : (s.buoy c).slow = true) :
    (s.trimCauses id).testBit 1 = true := by
  have bits (a b : Bool) : (bit a + 2 * bit true + 4 * bit b).testBit 1 = true := by
    cases a <;> cases b <;> rfl
  have slow : ((s.buoy (convOf (northIn (s.active.slot id).north))).slow
      || (s.buoy (convOf (southOut (s.active.slot id).south))).slow) = true := by
    rcases h with h | h <;> simp [h, hs]
  unfold State.trimCauses
  simp only [slow]
  exact bits _ _

section
variable {id j : Nat} {clear : Bool} {s : State}

theorem refreshCauses_leg_other (h : id ≠ j) : (refreshCauses clear j s).leg id = s.leg id := by
  unfold refreshCauses
  extract_lets l c
  split
  · rw [State.leg_setLeg, if_neg h]
  · split
    · rw [State.leg_setLeg, if_neg h]
    · rfl

theorem refreshCauses_trimCauses : (refreshCauses clear j s).trimCauses id = s.trimCauses id := by
  rw [refreshCauses_eq clear j s]
  rfl

/-- A TRIMMING leg with the cause BUOY_SLOW is suspended for it. -/
theorem refreshCauses_suspends (ht : (s.leg id).trim = .trimming) (hc : (s.trimCauses id).testBit 1 = true) :
    ((refreshCauses clear id s).leg id).SlowSuspended := by
  have present : s.trimCauses id ≠ 0 := fun h0 => by simp [h0] at hc
  unfold refreshCauses
  extract_lets l c
  rw [if_pos ⟨ht, present⟩, State.leg_setLeg, if_pos rfl]
  exact ⟨rfl, hc⟩

/-- The causes of a suspended leg stay while causes only arise. -/
theorem refreshCauses_slowSuspended (j : Nat) (h : (s.leg id).SlowSuspended) :
    ((refreshCauses false j s).leg id).SlowSuspended := by
  by_cases hj : id = j
  · subst hj
    obtain ⟨ht, hc⟩ := h
    unfold refreshCauses
    extract_lets l c
    have resting : l.trim ≠ .trimming := ht.trans_ne (nofun)
    rw [if_neg fun k => resting k.1, if_pos ht, State.leg_setLeg, if_pos rfl]
    exact ⟨ht, by simp [l, hc]⟩
  · rwa [refreshCauses_leg_other hj]

end

/-- Refreshing a list of legs suspends every TRIMMING one of them that has the cause BUOY_SLOW. -/
theorem forEach_refreshCauses_suspends {id : Nat} {x : Slot} {legs : List (Nat × Slot)} :
    ∀ s : State, (id, x) ∈ legs → (s.leg id).trim = .trimming → (s.trimCauses id).testBit 1 = true →
      ((forEach (fun p => refreshCauses false p.1) legs s).leg id).SlowSuspended := by
  induction legs with
  | nil => exact fun _ hm => absurd hm List.not_mem_nil
  | cons p rest ih =>
    intro s hm ht hc
    rw [forEach]
    by_cases hp : id = p.1
    · subst hp
      exact forEach_invariant _ (fun t : State => (t.leg p.1).SlowSuspended)
        (fun q _ => refreshCauses_slowSuspended q.1) rest _ (refreshCauses_suspends ht hc)
    · have hr : (id, x) ∈ rest := (List.mem_cons.mp hm).resolve_left fun h => hp (congrArg Prod.fst h)
      refine ih _ hr ?_ ?_
      · rwa [refreshCauses_leg_other hp]
      · rwa [refreshCauses_trimCauses]

theorem refreshAllCauses_legsOnly (clear : Bool) (s : State) : LegsOnly s (refreshAllCauses clear s) :=
  LegsOnly.forEach (fun p : Nat × Slot => refreshCauses_legsOnly clear p.1) _ _

/-- Every TRIMMING leg that a SLOW converter serves is suspended. -/
theorem refreshAllCauses_suspends {s : State} {id c : Nat} {x : Slot} (hm : (id, x) ∈ s.active.legs)
    (ht : (s.leg id).trim = .trimming) (h : s.servedBy id c) (hs : (s.buoy c).slow = true) :
    ((refreshAllCauses false s).leg id).SlowSuspended :=
  forEach_refreshCauses_suspends s hm ht (trimCauses_slow h hs)

/-! ### The commands -/

section
variable {id e c : Nat} {s : State}

theorem trimQualified_qualifies (ht : (s.leg id).trim = .qualifying)
    (hq : (s.leg id).qualAt + 2000 * 65536 ≤ s.time.elapsed) :
    Gives (.trimQualified id) s fun t =>
      t = { s with legs := t.legs } ∧ t.leg id = { s.leg id with qualified := true }
        ∧ ∀ i, i ≠ id → t.leg i = s.leg i :=
  ⟨_, congrArg Host.Outcome.next (if_pos ⟨ht, hq⟩), rfl, (State.leg_setLeg _ _ _ _).trans (if_pos rfl),
    fun _ hi => (State.leg_setLeg _ _ _ _).trans (if_neg hi)⟩

theorem splitUnbalanced_raises (hr : (s.elem e).etaRaised = false)
    (hb : 16 ≤ (s.elem e).etaRun ∨ 16 ≤ (s.elem e).rangeRun) :
    Gives (.splitUnbalanced e) s fun t =>
      Same { s with elems := t.elems } t ∧ t.elem e = { s.elem e with etaRaised := true }
        ∧ ∀ f, f ≠ e → t.elem f = s.elem f := by
  obtain ⟨t, run, same⟩ : ∃ t, exec (.splitUnbalanced e) s = .next t ∧
      Same (s.setElem e { s.elem e with etaRaised := true }) t :=
    ⟨_, congrArg Host.Outcome.next (if_pos ⟨by rw [hr, Bool.not_false], hb⟩), raiseEv_same _ _ _⟩
  refine ⟨t, run, ?_, ?_, fun f hf => ?_⟩
  · rw [same.elems]
    exact same
  · rw [same.elem, State.elem_setElem, if_pos rfl]
  · rw [same.elem, State.elem_setElem, if_neg hf]

/-- What the report of a loss drift sets. -/
def State.lossDrifted (s : State) (id : Nat) : State :=
  let p := 1024 + (s.active.slot id).south
  (s.setLeg id { s.leg id with lossRaised := true }).setPort p { s.port p with lossDrift := true }

theorem trimLossDrift_raises (hl : 16 ≤ (s.leg id).lossRun) (hr : (s.leg id).lossRaised = false) :
    Gives (.trimLossDrift id) s fun t =>
      Same { s with legs := t.legs, ports := t.ports } t ∧ t.leg id = { s.leg id with lossRaised := true }
        ∧ t.port (1024 + (s.active.slot id).south) =
            { s.port (1024 + (s.active.slot id).south) with lossDrift := true }
        ∧ ∀ i, i ≠ id → t.leg i = s.leg i := by
  obtain ⟨t, run, same⟩ : ∃ t, exec (.trimLossDrift id) s = .next t ∧ Same (s.lossDrifted id) t :=
    ⟨_, congrArg Host.Outcome.next (if_pos ⟨hl, by rw [hr, Bool.not_false]⟩), raiseEv_same _ _ _⟩
  have leg (i : Nat) : (s.lossDrifted id).leg i =
      if i = id then { s.leg id with lossRaised := true } else s.leg i := State.leg_setLeg _ _ _ _
  refine ⟨t, run, ?_, (same.leg _).trans ((leg id).trans (if_pos rfl)),
    (same.port _).trans ((State.port_setPort _ _ _ _).trans (if_pos rfl)),
    fun i hi => (same.leg _).trans ((leg i).trans (if_neg hi))⟩
  rw [same.legs, same.ports]
  exact same

/-- The converter is marked, and the legs that it serves are suspended. -/
theorem buoySlow_marks (hd : s.trimDue = true) (hs : (s.buoy c).slow = false) (hn : (s.buoy c).lateNow = true)
    (hp : (s.buoy c).latePrev = true) :
    Gives (.buoySlow c) s fun t =>
      Same { s with buoys := t.buoys, legs := t.legs } t ∧ t.buoy c = { s.buoy c with slow := true }
        ∧ (∀ b, b ≠ c → t.buoy b = s.buoy b)
        ∧ ∀ id x, (id, x) ∈ s.active.legs → (s.leg id).trim = .trimming → s.servedBy id c →
            (t.leg id).SlowSuspended := by
  let marked := s.setBuoy c { s.buoy c with slow := true }
  let raised := raiseEv 0x664 [byte c] marked
  have run : exec (.buoySlow c) s = .next (refreshAllCauses false raised) :=
    congrArg Host.Outcome.next (if_pos ⟨hd, by rw [hs, Bool.not_false], hn, hp⟩)
  have same : Same marked raised := raiseEv_same _ _ _
  have active : raised.active = s.active := raiseEv_active _ _ _
  have only : LegsOnly marked (refreshAllCauses false raised) :=
    (LegsOnly.of_same same).trans (refreshAllCauses_legsOnly _ _)
  refine ⟨_, run, ?_, ?_, fun b hb => ?_, fun id x hm ht hc => ?_⟩
  · rw [only.buoys]
    exact only
  · rw [only.buoy, State.buoy_setBuoy, if_pos rfl]
  · rw [only.buoy, State.buoy_setBuoy, if_neg hb]
  · have trims : (raised.leg id).trim = .trimming := (congrArg LegSt.trim (same.leg id)).trans ht
    have served : raised.servedBy id c := by rwa [State.servedBy, active]
    have slow : (raised.buoy c).slow = true := by rw [same.buoy, State.buoy_setBuoy, if_pos rfl]
    exact refreshAllCauses_suspends (active ▸ hm) trims served slow

theorem buoyRestored_restores (hd : s.trimDue = true) (hs : (s.buoy c).slow = true)
    (hn : (s.buoy c).lateNow = false) :
    Gives (.buoyRestored c) s fun t =>
      Same { s with buoys := t.buoys } t ∧ t.buoy c = { s.buoy c with slow := false }
        ∧ ∀ b, b ≠ c → t.buoy b = s.buoy b := by
  obtain ⟨t, run, same⟩ : ∃ t, exec (.buoyRestored c) s = .next t ∧
      Same (s.setBuoy c { s.buoy c with slow := false }) t :=
    ⟨_, congrArg Host.Outcome.next (if_pos ⟨hd, hs, by rw [hn, Bool.not_false]⟩), raiseEv_same _ _ _⟩
  refine ⟨t, run, ?_, ?_, fun b hb => ?_⟩
  · rw [same.buoys]
    exact same
  · rw [same.buoy, State.buoy_setBuoy, if_pos rfl]
  · rw [same.buoy, State.buoy_setBuoy, if_neg hb]

end

end Sys2Proof.Machine
end

section
open Sys2Proof Sys2Proof.Machine

/-- Settles O10: each report by what it sets under its event, a slow converter by the causes of the legs it serves. -/
theorem pathTrimCommands : Obligations.PathTrimCommands :=
  ⟨fun _ _ => trimQualified_qualifies, fun _ _ => splitUnbalanced_raises, fun _ _ => trimLossDrift_raises,
    fun _ _ => buoySlow_marks, fun _ _ => buoyRestored_restores⟩

end

/-! SUPPORT. The clear table (R205, R206, R208): a commit and the refusal of a bad entry, and what a table that takes
effect makes of every element and AUX output. -/
section
namespace Sys2Proof.Machine

/-! ### CLEAR_COMMIT (R205) -/

section
variable {ses : Nat} {s : State} (h : Passes ses 0x5400 3 (valBytes 1 1) s)
include h

theorem clearCommit_refuses {n : Nat} (hr : s.clearReject = some n) : Gives (.clearCommit ses 1) s fun t =>
    Does ses stRange s { s with clear := { s.clear with reject := n } } t :=
  ⟨_, congrArg Host.Outcome.next ((gated_pass h _).trans ((if_neg (not_not_intro rfl)).trans (by rw [hr]))),
    does_reply _ _ _ _ (SessionsStill.of_eq rfl)⟩

theorem clearCommit_waits (hr : s.clearReject = none) : Gives (.clearCommit ses 1) s fun t =>
    Does ses stOk s { s with clear := { s.clear with
      waiting := some (s.clear.shadow, s.clear.shadowAux), waitingAt := s.time.elapsed, reject := 0xFFFFFFFF } } t :=
  ⟨_, congrArg Host.Outcome.next ((gated_pass h _).trans ((if_neg (not_not_intro rfl)).trans (by rw [hr]))),
    does_reply _ _ _ _ (SessionsStill.of_eq rfl)⟩

end

/-! ### The elements -/

/-- An element as a table that takes effect leaves it: where its channel drives its clear code now, both codes are the
new one; where no loop code has replaced the clear code yet, the present one is (R206, R207). -/
def Elem.onNewClear (x : Elem) (loaded clearing : Bool) (code : Nat) : Elem :=
  if loaded = true ∧ x.mode ≠ .faulted ∧ (clearing = true ∨ x.frozen = true ∨ x.mode = .parked) then
    { x with code := code, nextCode := code }
  else if loaded = true ∧ x.mode ≠ .faulted ∧ x.onClear = true then { x with code := code }
  else x

/-- The step of one channel to its new clear code. -/
def clearStep (e : Nat) (s : State) : State :=
  if (s.elem e).mode ≠ .faulted ∧ (s.clearing ∨ (s.elem e).frozen ∨ (s.elem e).mode = .parked) then
    s.setElem e { s.elem e with code := s.clearCode e, nextCode := s.clearCode e }
  else if (s.elem e).mode ≠ .faulted ∧ (s.elem e).onClear then s.setElem e { s.elem e with code := s.clearCode e }
  else s

theorem Elem.onNewClear_unloaded (x : Elem) (clearing : Bool) (code : Nat) : x.onNewClear false clearing code = x := by
  simp [Elem.onNewClear]

theorem Elem.onNewClear_twice (x : Elem) (loaded clearing : Bool) (code : Nat) :
    (x.onNewClear loaded clearing code).onNewClear loaded clearing code = x.onNewClear loaded clearing code := by
  unfold Elem.onNewClear
  by_cases now : loaded = true ∧ x.mode ≠ .faulted ∧ (clearing = true ∨ x.frozen = true ∨ x.mode = .parked)
  · simp [now]
  · by_cases still : loaded = true ∧ x.mode ≠ .faulted ∧ x.onClear = true
    · simp only [if_neg now, if_pos still]
    · simp only [if_neg now, if_neg still]

theorem clearStep_elem (e : Nat) (s : State) (f : Nat) :
    (clearStep e s).elem f = if f = e then (s.elem e).onNewClear true s.clearing (s.clearCode e) else s.elem f := by
  simp only [clearStep, Elem.onNewClear, true_and]
  split
  · exact State.elem_setElem _ _ _ _
  · split
    · exact State.elem_setElem _ _ _ _
    · split
      · next hf => rw [hf]
      · rfl

theorem clearStep_elems (e : Nat) (s : State) : clearStep e s = { s with elems := (clearStep e s).elems } := by
  unfold clearStep
  split
  · rfl
  · split <;> rfl

theorem clearStep_clearing (e : Nat) (s : State) : (clearStep e s).clearing = s.clearing := by
  rw [clearStep_elems]
  rfl

theorem clearStep_clearCode (e : Nat) (s : State) (f : Nat) : (clearStep e s).clearCode f = s.clearCode f := by
  rw [clearStep_elems]
  rfl

theorem forEach_clearStep_elem (e : Nat) (l : List Nat) (s : State) :
    (forEach clearStep l s).elem e =
      if e ∈ l then (s.elem e).onNewClear true s.clearing (s.clearCode e) else s.elem e := by
  induction l generalizing s with
  | nil => simp [forEach]
  | cons f rest ih =>
    rw [forEach, ih, clearStep_clearing, clearStep_clearCode, clearStep_elem]
    by_cases hf : e = f
    · subst hf
      simp [Elem.onNewClear_twice]
    · simp [hf]

/-- An element that neither the state nor the clear table lists is PARKED at a clear code of 0. -/
theorem unlisted_onNewClear {s : State} {e : Nat} (h : e ∉ s.listedElems) :
    (s.elem e).onNewClear true s.clearing (s.clearCode e) = s.elem e := by
  have own : e ∉ s.elems.map fun p => p.1 := fun k => h (List.mem_append_left _ k)
  have table : e ∉ s.clear.table.map fun p => p.1 := fun k =>
    h (List.mem_append_right _ (List.mem_filter.2 ⟨k, by simpa using own⟩))
  have elem : s.elem e = {} := mapGet_unlisted own _
  have code : s.clearCode e = 0 := by simp [State.clearCode, mapGet_unlisted table]
  rw [elem, code]
  simp [Elem.onNewClear]

theorem clearSteps_eq (s : State) : clearSteps s = if s.clear.loaded then forEach clearStep s.listedElems s else s := by
  unfold clearSteps
  by_cases h : s.clear.loaded = true
  · rw [if_neg (by simp [h]), if_pos h]
    rfl
  · rw [if_pos (by simp [h]), if_neg h]

theorem clearSteps_elem (s : State) (e : Nat) :
    (clearSteps s).elem e = (s.elem e).onNewClear s.clear.loaded s.clearing (s.clearCode e) := by
  rw [clearSteps_eq]
  by_cases loaded : s.clear.loaded = true
  · rw [if_pos loaded, loaded, forEach_clearStep_elem]
    split
    · rfl
    · next unlisted => exact (unlisted_onNewClear unlisted).symm
  · rw [if_neg loaded, eq_false_of_ne_true loaded, Elem.onNewClear_unloaded]

theorem clearSteps_elems (s : State) : clearSteps s = { s with elems := (clearSteps s).elems } := by
  rw [clearSteps_eq]
  split
  · exact forEach_invariant clearStep (fun t : State => t = { s with elems := t.elems })
      (fun e t ht => (clearStep_elems e t).trans (congrArg (fun u : State => { u with elems := (clearStep e t).elems }) ht))
      _ s rfl
  · rfl

/-! ### The table in force -/

theorem Same.clear {s t : State} (h : Same s t) : t.clear = s.clear := (congrArg State.clear h.1 :)

theorem State.clearCode_congr {s t : State} (hc : t.clear = s.clear) (hh : t.chans = s.chans) (e : Nat) :
    t.clearCode e = s.clearCode e := by
  rw [State.clearCode, State.chan, hc, hh, ← State.chan, ← State.clearCode]

theorem State.auxFollows_congr {s t : State} (h : t.clear = s.clear) (a : Nat) : t.auxFollows a = s.auxFollows a := by
  simp only [State.auxFollows, h]

/-- The state in which a clear table is in force. -/
def State.withTable (s : State) (table auxTable : SMap Nat) : State :=
  { s with clear := { s.clear with table := table, aux := auxTable, waiting := none } }

/-- The state after its channels and AUX outputs have followed it, but for events and records. -/
def State.tableApplied (s : State) (table auxTable : SMap Nat) : State :=
  forEach auxFollow (numbers 0 16) (clearSteps (s.withTable table auxTable))

section
variable (s : State) (table auxTable : SMap Nat)

theorem tableApplied_eq : s.tableApplied table auxTable =
    { s.withTable table auxTable with
      elems := (s.tableApplied table auxTable).elems, aux := (s.tableApplied table auxTable).aux } :=
  eq_of_elems_of_aux (clearSteps_elems _) (auxFollowAll_aux _ _)

theorem tableApplied_clear : (s.tableApplied table auxTable).clear = (s.withTable table auxTable).clear :=
  (congrArg State.clear (tableApplied_eq s table auxTable) :)

theorem tableApplied_chans : (s.tableApplied table auxTable).chans = s.chans :=
  (congrArg State.chans (tableApplied_eq s table auxTable) :)

theorem tableApplied_elem (e : Nat) : (s.tableApplied table auxTable).elem e =
    (s.elem e).onNewClear s.clear.loaded s.clearing ((s.withTable table auxTable).clearCode e) :=
  (auxFollowAll_elem _ _ e).trans (clearSteps_elem (s.withTable table auxTable) e)

theorem tableApplied_auxOut {a : Nat} (h : a < 16) :
    (s.tableApplied table auxTable).auxOut a = (s.withTable table auxTable).followed a := by
  rw [State.tableApplied, auxFollowAll_auxOut h, clearSteps_elems]
  rfl

end

/-- The state of a driven output under the pin's level (R213). -/
theorem followed_state {s : State} {a : Nat} (h : (s.auxOut a).driven = true) :
    (s.followed a).state = if s.clear.asserted = true ∧ s.auxFollows a = true then .clear else .active := by
  simp [State.followed, State.stepped, Aux.turned, h]

section
variable {s : State} {table auxTable : SMap Nat}

theorem clearTableApply_eq (hw : s.power.watchOn = true) (hh : s.atHold = true)
    (ha : s.clear.waitingAt < s.time.elapsed) (ht : s.clear.waiting = some (table, auxTable)) :
    ∃ t, exec .clearTableApply s = .next t ∧ Same (s.tableApplied table auxTable) t := by
  refine ⟨_, congrArg Host.Outcome.next (if_pos ⟨hw, hh, ha⟩), ?_⟩
  rw [applyClear, ht]
  exact (raiseEv_same _ _ _).trans (audit_same _ _ _)

theorem clearTableApply_applies (hw : s.power.watchOn = true) (hh : s.atHold = true)
    (ha : s.clear.waitingAt < s.time.elapsed) (ht : s.clear.waiting = some (table, auxTable)) :
    Gives .clearTableApply s fun t =>
      Same { s with
        clear := { s.clear with table := table, aux := auxTable, waiting := none }, elems := t.elems, aux := t.aux } t
        ∧ (∀ e, t.elem e = (s.elem e).onNewClear s.clear.loaded s.clearing (t.clearCode e))
        ∧ ∀ a, a < 16 →
            ((s.auxOut a).driven = false → t.auxOut a = s.auxOut a)
            ∧ ((s.auxOut a).driven = true → (t.auxOut a).state =
                if s.clear.asserted = true ∧ t.auxFollows a = true then .clear else .active) := by
  obtain ⟨t, run, same⟩ := clearTableApply_eq hw hh ha ht
  have clear : t.clear = (s.withTable table auxTable).clear := same.clear.trans (tableApplied_clear s table auxTable)
  have chans : t.chans = s.chans := same.chans.trans (tableApplied_chans s table auxTable)
  refine ⟨t, run, ?_, fun e => ?_, fun a h => ⟨fun hd => ?_, fun hd => ?_⟩⟩
  · rw [same.elems, same.aux]
    have whole := tableApplied_eq s table auxTable
    generalize s.tableApplied table auxTable = u at same whole
    rw [whole] at same
    exact same
  · rw [same.elem, tableApplied_elem, State.clearCode_congr (s := s.withTable table auxTable) clear chans]
  · rw [same.auxOut, tableApplied_auxOut s table auxTable h]
    exact followed_undriven hd
  · rw [same.auxOut, tableApplied_auxOut s table auxTable h, State.auxFollows_congr clear]
    exact followed_state hd

theorem clearTableApply_idle (h : s.clear.waiting = none) : Gives .clearTableApply s fun t => t = s := by
  refine ⟨s, congrArg Host.Outcome.next ?_, rfl⟩
  have idle : applyClear s = s := by rw [applyClear, h]
  rw [idle, ite_self]

end

end Sys2Proof.Machine
end

section
open Sys2Proof Sys2Proof.Machine

/-- Settles O6: a commit by what its shadow's check finds, a table in force at each element and each AUX output. -/
theorem clearTableCommit : Obligations.ClearTableCommit :=
  ⟨fun _ _ h => ⟨fun _ => clearCommit_refuses h, clearCommit_waits h⟩, fun _ _ _ => clearTableApply_applies,
    fun _ => clearTableApply_idle⟩

end


/-! SUPPORT. AUX outputs (R214 to R216): a command either gives one output a new state or leaves it, and the others stay as
they are. -/
section
namespace Sys2Proof.Machine

/-! ### Changes of one output -/

theorem reply_obj (ses st : Nat) (s : State) (ix sub : Nat) : (reply ses st s).obj ix sub = s.obj ix sub := by
  simp [State.obj]

theorem reply_auxOut (ses st : Nat) (s : State) (a : Nat) : (reply ses st s).auxOut a = s.auxOut a := by
  simp [State.auxOut]

theorem State.auxOut_setAux_self (s : State) (a : Nat) (x : Aux) : (s.setAux a x).auxOut a = x :=
  (State.auxOut_setAux s a x a).trans (if_pos rfl)

theorem State.auxOut_setAux_other {a b : Nat} (h : b ≠ a) (s : State) (x : Aux) :
    (s.setAux a x).auxOut b = s.auxOut b := (State.auxOut_setAux s a x b).trans (if_neg h)

/-- A change of one output without an event. -/
theorem gives_setAux {c : Instr} {a : Nat} {x : Aux} {s : State} (run : exec c s = .next (s.setAux a x)) :
    Gives c s fun t => t = { s with aux := t.aux } ∧ t.auxOut a = x :=
  ⟨_, run, rfl, State.auxOut_setAux_self s a x⟩

/-- A change of one output and its event. -/
theorem gives_setAux_raised {c : Instr} {a src : Nat} {x : Aux} {p : List Byte} {s : State}
    (run : exec c s = .next (raiseEv src p (s.setAux a x))) :
    Gives c s fun t => Same { s with aux := t.aux } t ∧ t.auxOut a = x := by
  have same := raiseEv_same src p (s.setAux a x)
  refine ⟨_, run, ?_, (same.auxOut a).trans (State.auxOut_setAux_self s a x)⟩
  rw [same.aux]
  exact same

/-- A command that acts under a condition leaves output `b` where its act does. -/
theorem auxOut_ite {p : Prop} [Decidable p] {b : Nat} {s u : State} (h : u.auxOut b = s.auxOut b) :
    (if p then u else s).auxOut b = s.auxOut b := by
  split
  · exact h
  · rfl

/-! ### AUX_CONFIG and AUX_VALUE -/

theorem auxConfigWrite_changes {ses a v : Nat} {s : State} (h : Passes ses (0x5500 + a) 1 (valBytes 1 v) s) (hv : v ≤ 3) :
    Gives (.auxConfigWrite ses a v) s fun t =>
      Does ses stOk s { s with objs := t.objs, aux := t.aux } t ∧ t.obj (0x5500 + a) 1 = v
        ∧ t.auxOut a = { s.auxOut a with
            value := 0, valueNext := [], wanted := v, changing := true, changeAt := s.time.elapsed
            before := s.auxGoal a, atClear := false } := by
  refine ⟨_, congrArg Host.Outcome.next ((gated_pass h _).trans (if_neg (Nat.not_lt.2 hv))), ?_, ?_, ?_⟩
  · rw [reply_objs, reply_aux]
    exact does_reply _ _ _ _ (SessionsStill.of_eq rfl)
  · rw [reply_obj]
    exact State.obj_setObj_self s (0x5500 + a) 1 v
  · rw [reply_auxOut, State.auxOut_setAux_self]

theorem auxValueWrite_waits {ses a v : Nat} {s : State} (h : Passes ses (0x5500 + a) 2 (valBytes 4 v) s) :
    Gives (.auxValueWrite ses a v) s fun t =>
      Does ses stOk s { s with aux := t.aux } t ∧ t.auxOut a = { s.auxOut a with
        valueNext := (v, s.time.elapsed) :: (s.auxOut a).valueNext } := by
  refine ⟨_, congrArg Host.Outcome.next (gated_pass h _), ?_, ?_⟩
  · rw [reply_aux]
    exact does_reply _ _ _ _ (SessionsStill.of_eq rfl)
  · rw [reply_auxOut, State.auxOut_setAux_self]

/-! ### The range change (R214) -/

section
variable {a : Nat} {s : State}

theorem auxDwellStart_dwells (hc : (s.auxOut a).changing = true) (ha : (s.auxOut a).changeAt < s.time.elapsed)
    (hh : s.atHold = true) (hw : s.power.watchOn = true) : Gives (.auxDwellStart a) s fun t =>
      t = { s with aux := t.aux }
        ∧ t.auxOut a = { s.auxOut a with
            state := .dwell, changing := false, dwellAt := some s.time.elapsed, switched := false, now := 0
            compliance := false, currentLimit := false, readPending := false, mismatch := false
            e1 := 0, e2 := 0, e3 := 0 } :=
  gives_setAux (congrArg Host.Outcome.next (if_pos ⟨hc, hh, hw, ha⟩))

theorem auxStageSwitch_switches {at_ : Nat} (hd : (s.auxOut a).dwellAt = some at_) (hs : (s.auxOut a).state = .dwell)
    (hc : (s.auxOut a).changing = false) (hn : (s.auxOut a).switched = false)
    (ht : at_ + 1000 * 65536 ≤ s.time.elapsed) : Gives (.auxStageSwitch a) s fun t =>
      t = { s with aux := t.aux }
        ∧ t.auxOut a = { s.auxOut a with config := (s.auxOut a).wanted, switched := true } := by
  refine gives_setAux (congrArg Host.Outcome.next ?_)
  dsimp only
  rw [hd]
  exact if_pos ⟨hs, by simp [hc], by simp [hn], ht⟩

/-- An output whose new range is enabled, at its safe value. -/
def Aux.enabled (x : Aux) (toClear : Bool) : Aux :=
  { x with
    state := if x.config = 0 then .off else if toClear then .clear else .active
    dwellAt := none, now := 0, value := (x.valueNext.map fun p => p.1).headD x.value, valueNext := []
    atClear := x.atClear && x.valueNext.isEmpty }

/-- AUX output `a` as its new range is enabled. -/
def State.rangeEnabled (s : State) (a : Nat) : Aux := (s.auxOut a).enabled (s.clear.asserted && s.auxFollows a)

theorem Aux.enabled_driven (x : Aux) (toClear : Bool) : (x.enabled toClear).driven = true ↔ x.config ≠ 0 := by
  by_cases off : x.config = 0
  · simp [Aux.enabled, Aux.driven, off]
  · cases toClear <;> simp [Aux.enabled, Aux.driven, off]

/-- The step of a driven output changes its code alone. -/
theorem auxJump_auxOut_self (a : Nat) (s : State) : (auxJump a s).auxOut a = { s.auxOut a with
    now := if (s.auxOut a).driven = true ∧ s.obj (0x5500 + a) 3 = 0 then s.auxGoal a else (s.auxOut a).now } := by
  unfold auxJump
  extract_lets x
  split
  · exact State.auxOut_setAux_self _ _ _
  · rfl

/-- What an output moves toward does not turn on the code that it drives. -/
theorem auxJump_auxGoal (a : Nat) (s : State) : (auxJump a s).auxGoal a = s.auxGoal a := by
  have out := auxJump_auxOut_self a s
  rw [auxJump_aux] at out ⊢
  simp only [State.auxGoal, out]
  rfl

theorem auxRangeEnable_eq {at_ : Nat} (hd : (s.auxOut a).dwellAt = some at_) (hs : (s.auxOut a).state = .dwell)
    (hc : (s.auxOut a).changing = false) (hn : (s.auxOut a).switched = true)
    (ht : at_ + 10000 * 65536 ≤ s.time.elapsed) : exec (.auxRangeEnable a) s =
      .next (auxJump a (s.setAux a (s.rangeEnabled a))) := by
  refine congrArg Host.Outcome.next ?_
  dsimp only
  rw [hd]
  refine (if_pos ⟨hs, by simp [hc], hn, ht⟩).trans ?_
  simp [State.rangeEnabled, Aux.enabled]

/-- The enabled output steps to its goal where it is driven and AUX_SLEW is 0, and else stays at its safe value. -/
theorem rangeEnabled_jumps : (auxJump a (s.setAux a (s.rangeEnabled a))).auxOut a = { s.rangeEnabled a with
    now := if (s.auxOut a).config ≠ 0 ∧ s.obj (0x5500 + a) 3 = 0
      then (s.setAux a (s.rangeEnabled a)).auxGoal a else 0 } := by
  have slew : (s.setAux a (s.rangeEnabled a)).obj (0x5500 + a) 3 = s.obj (0x5500 + a) 3 := rfl
  have driven : (s.rangeEnabled a).driven = true ↔ (s.auxOut a).config ≠ 0 := Aux.enabled_driven _ _
  simp only [auxJump_auxOut_self, State.auxOut_setAux_self, driven, slew]
  rfl

theorem auxRangeEnable_enables {at_ : Nat} (hd : (s.auxOut a).dwellAt = some at_) (hs : (s.auxOut a).state = .dwell)
    (hc : (s.auxOut a).changing = false) (hn : (s.auxOut a).switched = true)
    (ht : at_ + 10000 * 65536 ≤ s.time.elapsed) : Gives (.auxRangeEnable a) s fun t =>
      t = { s with aux := t.aux }
        ∧ ((s.obj (0x5500 + a) 3 ≠ 0 ∨ (s.auxOut a).config = 0) → (t.auxOut a).now = 0)
        ∧ (s.obj (0x5500 + a) 3 = 0 → (s.auxOut a).config ≠ 0 → (t.auxOut a).now = t.auxGoal a)
        ∧ t.auxOut a = { s.auxOut a with
            dwellAt := none, now := (t.auxOut a).now
            value := ((s.auxOut a).valueNext.map fun p => p.1).headD (s.auxOut a).value, valueNext := []
            atClear := (s.auxOut a).atClear && (s.auxOut a).valueNext.isEmpty
            state := if (s.auxOut a).config = 0 then .off
              else if s.clear.asserted = true ∧ s.auxFollows a = true then .clear else .active } := by
  refine ⟨_, auxRangeEnable_eq hd hs hc hn ht, auxJump_aux a (s.setAux a (s.rangeEnabled a)), fun h => ?_,
    fun h0 hr => ?_, ?_⟩
  · rw [rangeEnabled_jumps]
    exact if_neg fun k => h.elim (fun h => h k.2) k.1
  · rw [auxJump_auxGoal, rangeEnabled_jumps]
    exact if_pos ⟨hr, h0⟩
  · rw [rangeEnabled_jumps]
    simp [State.rangeEnabled, Aux.enabled]

/-! ### Faults and compliance (R216) -/

theorem auxFault_faults {c : AuxCause}
    (hd : (s.auxOut a).driven = true ∨ ((s.auxOut a).state = .dwell ∧ c ≠ .readback))
    (hp : (s.auxOut a).causePresent c = true) : Gives (.auxFault a c) s fun t =>
      Same { s with aux := t.aux } t
        ∧ t.auxOut a = { s.auxOut a with
            state := .fault, now := 0, currentLimit := decide (c = .currentLimit), changing := false, dwellAt := none
            e1 := 0, e2 := 0, e3 := 0 } :=
  gives_setAux_raised (congrArg Host.Outcome.next (if_pos ⟨hd, hp⟩))

theorem auxCompliance_marks (hd : (s.auxOut a).driven = true) (hr : (s.auxOut a).config = 3)
    (hc : (s.auxOut a).compliance = false) : Gives (.auxCompliance a) s fun t =>
      Same { s with aux := t.aux } t
        ∧ t.auxOut a = { s.auxOut a with compliance := true, complianceAt := s.time.elapsed } :=
  gives_setAux_raised (congrArg Host.Outcome.next (if_pos ⟨hd, hr, by simp [hc]⟩))

theorem auxComplianceClear_clears (hc : (s.auxOut a).compliance = true)
    (ht : (s.auxOut a).complianceAt + 1000000 * 65536 ≤ s.time.elapsed) : Gives (.auxComplianceClear a) s fun t =>
      t = { s with aux := t.aux } ∧ t.auxOut a = { s.auxOut a with compliance := false } :=
  gives_setAux (congrArg Host.Outcome.next (if_pos ⟨hc, ht⟩))

end

/-! ### The other outputs -/

section
variable {a b : Nat} (h : b ≠ a) (s : State)
include h

theorem auxDwellStart_other : Gives (.auxDwellStart a) s fun t => t.auxOut b = s.auxOut b :=
  ⟨_, rfl, auxOut_ite (State.auxOut_setAux_other h _ _)⟩

theorem auxStageSwitch_other : Gives (.auxStageSwitch a) s fun t => t.auxOut b = s.auxOut b := by
  refine ⟨_, rfl, ?_⟩
  dsimp only
  split
  · exact auxOut_ite (State.auxOut_setAux_other h _ _)
  · rfl

theorem auxJump_other (s : State) : (auxJump a s).auxOut b = s.auxOut b :=
  auxOut_ite (State.auxOut_setAux_other h _ _)

theorem auxRangeEnable_other : Gives (.auxRangeEnable a) s fun t => t.auxOut b = s.auxOut b := by
  refine ⟨_, rfl, ?_⟩
  dsimp only
  split
  · exact auxOut_ite ((auxJump_other h _).trans (State.auxOut_setAux_other h _ _))
  · rfl

/-- An event after the change of one output leaves the others. -/
theorem raised_setAux_other (src : Nat) (p : List Byte) (x : Aux) :
    (raiseEv src p (s.setAux a x)).auxOut b = s.auxOut b :=
  ((raiseEv_same _ _ _).auxOut b).trans (State.auxOut_setAux_other h s x)

theorem auxFault_other (c : AuxCause) : Gives (.auxFault a c) s fun t => t.auxOut b = s.auxOut b :=
  ⟨_, rfl, auxOut_ite (raised_setAux_other h s _ _ _)⟩

theorem auxCompliance_other : Gives (.auxCompliance a) s fun t => t.auxOut b = s.auxOut b :=
  ⟨_, rfl, auxOut_ite (raised_setAux_other h s _ _ _)⟩

theorem auxComplianceClear_other : Gives (.auxComplianceClear a) s fun t => t.auxOut b = s.auxOut b :=
  ⟨_, rfl, auxOut_ite (State.auxOut_setAux_other h _ _)⟩

end

end Sys2Proof.Machine
end

section
open Sys2Proof Sys2Proof.Machine

/-- Settles O8: each command by what it makes of the output that it names, and the others by its cases. -/
theorem auxOutputs : Obligations.AuxOutputs :=
  ⟨fun _ _ _ _ => auxConfigWrite_changes, fun _ _ => auxDwellStart_dwells, fun _ _ _ => auxStageSwitch_switches,
    fun _ _ _ => auxRangeEnable_enables, fun _ _ _ _ => auxValueWrite_waits, fun _ _ _ => auxFault_faults,
    fun _ _ => auxCompliance_marks, fun _ _ => auxComplianceClear_clears,
    fun _ _ s h => ⟨auxDwellStart_other h s, auxStageSwitch_other h s, auxRangeEnable_other h s, auxFault_other h s,
      auxCompliance_other h s, auxComplianceClear_other h s⟩⟩

end


/-! SUPPORT. Channel faults and the ladder's loss (R192, R194, R202): one pair's fault leaves the other pairs, and a lost
ladder is the fault of every pair. -/
section
namespace Sys2Proof.Machine

/-! ### One item of many -/

section
variable {β : Type} {f : Nat → State → State} {g : Nat → State → β}
  (keeps : ∀ j k s, k ≠ j → g k (f j s) = g k s)
include keeps

theorem forEach_skips {l : List Nat} {k : Nat} (h : k ∉ l) (s : State) : g k (forEach f l s) = g k s := by
  induction l generalizing s with
  | nil => rfl
  | cons j rest ih =>
    obtain ⟨hj, hrest⟩ := not_or.1 (mt List.mem_cons.2 h)
    rw [forEach, ih hrest, keeps j k s hj]

/-- What each application leaves of the other items, the whole does to an item once, from what it was. -/
theorem forEach_once {l : List Nat} (hl : l.Nodup) {k : Nat} (hk : k ∈ l) (s : State) :
    ∃ u, g k u = g k s ∧ g k (forEach f l s) = g k (f k u) := by
  induction l generalizing s with
  | nil => cases hk
  | cons j rest ih =>
    obtain ⟨hj, hrest⟩ := List.nodup_cons.1 hl
    by_cases here : k = j
    · subst here
      exact ⟨s, rfl, forEach_skips keeps hj _⟩
    · obtain ⟨u, start, stop⟩ := ih hrest ((List.mem_cons.1 hk).resolve_left here) (f j s)
      exact ⟨u, start.trans (keeps j k s here), stop⟩

end

theorem mem_allElems {e : Nat} (h : e < 11776) : e ∈ numbers 0 elemCount :=
  mem_numbers.2 ⟨Nat.zero_le e, by rwa [elemCount, Nat.zero_add]⟩

/-- Channel pair `e` and its element. -/
def State.pair (e : Nat) (s : State) : Chan × Elem := (s.chan e, s.elem e)

/-! ### A channel's fault (R202) -/

/-- A channel at level 0 without an error history, with a cause latched. -/
def Chan.faulted (c : Chan) (b : Nat) : Chan :=
  { c with causes := orBit c.causes b, e1 := 0, e2 := 0, e3 := 0, levels := [] }

/-- The state with that cause latched, before its element enters FAULTED. -/
def State.latched (s : State) (e b : Nat) : State :=
  resetErrors e (s.setChan e { s.chan e with causes := orBit (s.chan e).causes b })

/-- `t` is `s` but for elements, notch slots and channel pairs, and what `State.apart` leaves out. -/
def PairFaults (s t : State) : Prop :=
  t.apart = { s with elems := t.elems, notches := t.notches, chans := t.chans }.apart

theorem PairFaults.refl (s : State) : PairFaults s s := rfl

theorem PairFaults.trans {s t u : State} (h : PairFaults s t) (k : PairFaults t u) : PairFaults s u :=
  Eq.trans k (congrArg (fun a : State => { a with elems := u.elems, notches := u.notches, chans := u.chans }) h)

theorem PairFaults.ladder {s t : State} (h : PairFaults s t) : t.ladder = s.ladder := (congrArg State.ladder h :)

theorem PairFaults.vhv {s t : State} (h : PairFaults s t) : t.power.vhv = s.power.vhv :=
  (congrArg (fun a : State => a.power.vhv) h :)

section
variable (e b : Nat) (s : State)

theorem chanFault_enters : chanFault e b s = enterFault e 4 (s.latched e b) := rfl

theorem latched_chan (f : Nat) : (s.latched e b).chan f = if f = e then (s.chan e).faulted b else s.chan f := by
  simp only [State.latched, resetErrors, State.chan_setChan, if_true]
  split <;> rfl

theorem enterFault_chans : (enterFault e b s).chans = s.chans := (congrArg State.chans (enterFault_apart e b s) :)

theorem chanFault_chan (f : Nat) : (chanFault e b s).chan f = if f = e then (s.chan e).faulted b else s.chan f := by
  rw [← latched_chan, chanFault_enters, State.chan, enterFault_chans, ← State.chan]

theorem chanFault_pairFaults : PairFaults s (chanFault e b s) := by
  have fault := enterFault_apart e 4 (s.latched e b)
  have whole : s.latched e b = { s with chans := (s.latched e b).chans } := rfl
  rw [PairFaults, chanFault_enters, enterFault_chans]
  generalize enterFault e 4 (s.latched e b) = t at fault ⊢
  generalize s.latched e b = u at fault whole ⊢
  rw [fault, whole]

theorem chanFault_causes : ((chanFault e b s).elem e).causes = orBit (s.elem e).causes 4 :=
  enterFault_causes (s := s.latched e b)

/-- CHANNEL takes an element to FAULTED from every mode (R142). -/
theorem chanFault_mode : ((chanFault e b s).elem e).mode = .faulted := by
  rw [chanFault_enters]
  by_cases h : ((s.latched e b).elem e).latches 4
  · rw [enterFault_elem_latches h]
    exact h.resolve_right fun k => k.2 rfl
  · rw [enterFault_elem_enters h]
    rfl

variable {e}

theorem chanFault_pair_other {f : Nat} (h : f ≠ e) : (chanFault e b s).pair f = s.pair f := by
  have elem : (chanFault e b s).elem f = s.elem f := enterFault_elem_other (s := s.latched e b) h
  rw [State.pair, chanFault_chan, if_neg h, elem]
  rfl

end

theorem channelFault_faults {e : Nat} {c : ChanCause} {s : State} (hw : s.power.watchOn = true)
    (hn : (s.chan e).causes.testBit (chanBit c) = false) (hp : s.chanCausePresent e c = true) :
    Gives (.channelFault e c) s fun t =>
      t.apart = { s with elems := t.elems, notches := t.notches, chans := t.chans }.apart
        ∧ t.chan e = (s.chan e).faulted (chanBit c)
        ∧ (∀ f, f ≠ e → t.chan f = s.chan f ∧ t.elem f = s.elem f)
        ∧ (t.elem e).mode = .faulted ∧ (t.elem e).causes = orBit (s.elem e).causes 4 :=
  ⟨_, congrArg Host.Outcome.next (if_pos ⟨hw, by simp [hn], hp⟩), chanFault_pairFaults _ _ _,
    (chanFault_chan _ _ _ _).trans (if_pos rfl), fun _ h => Prod.mk.inj (chanFault_pair_other _ s h),
    chanFault_mode _ _ _, chanFault_causes _ _ _⟩

/-! ### The loss of the ladder (R194) -/

/-- The ladder has fallen: every pair has cause LADDER and every element is FAULTED. -/
def LadderFell (s t : State) : Prop :=
  t.apart = { s with ladder := t.ladder, elems := t.elems, notches := t.notches, chans := t.chans }.apart
    ∧ ∀ e, e < 11776 → (t.chan e).causes = orBit (s.chan e).causes 3 ∧ (t.elem e).mode = .faulted
        ∧ (t.elem e).causes = orBit (s.elem e).causes 4

/-- Every pair's fault by the ladder. -/
def faultAll (s : State) : State := forEach (fun e t => chanFault e 3 t) (numbers 0 elemCount) s

theorem faultAll_pairFaults (s : State) : PairFaults s (faultAll s) :=
  forEach_invariant _ (PairFaults s) (fun e t h => h.trans (chanFault_pairFaults e 3 t)) _ s (PairFaults.refl s)

theorem faultAll_pair {e : Nat} (h : e < 11776) (s : State) :
    ∃ u : State, u.pair e = s.pair e ∧ (faultAll s).pair e = (chanFault e 3 u).pair e :=
  forEach_once (f := fun e t => chanFault e 3 t) (g := State.pair) (fun _ _ t k => chanFault_pair_other 3 t k)
    (numbers_nodup 0 elemCount) (mem_allElems h) s

section
variable (n src : Nat) (p : List Byte) (s : State)

theorem ladderDown_same :
    Same (faultAll { s with ladder := { s.ladder with state := n, checking := false } }) (ladderDown n src p s) :=
  raiseEv_same _ _ _

theorem ladderDown_pairFaults :
    PairFaults { s with ladder := { s.ladder with state := n, checking := false } } (ladderDown n src p s) := by
  have same := ladderDown_same n src p s
  unfold PairFaults
  rw [same.elems, same.notches, same.chans, State.apart_of_base same.1]
  exact faultAll_pairFaults _

theorem ladderDown_ladder : (ladderDown n src p s).ladder = { s.ladder with state := n, checking := false } :=
  (ladderDown_pairFaults n src p s).ladder

theorem ladderDown_state : (ladderDown n src p s).ladder.state = n := by rw [ladderDown_ladder]

theorem ladderDown_vhv : (ladderDown n src p s).power.vhv = s.power.vhv :=
  (ladderDown_pairFaults n src p s).vhv

theorem ladderDown_fell : LadderFell s (ladderDown n src p s) := by
  have same := ladderDown_same n src p s
  refine ⟨?_, fun e h => ?_⟩
  · rw [ladderDown_ladder]
    exact ladderDown_pairFaults n src p s
  · obtain ⟨u, start, stop⟩ := faultAll_pair h { s with ladder := { s.ladder with state := n, checking := false } }
    obtain ⟨chanStart, elemStart⟩ := Prod.mk.inj start
    obtain ⟨chanStop, elemStop⟩ := Prod.mk.inj stop
    rw [same.chan, same.elem, chanStop, elemStop, chanFault_chan, if_pos rfl, chanFault_mode, chanFault_causes, chanStart,
      elemStart]
    exact ⟨rfl, rfl, rfl⟩

end

/-! ### A cell that deviates (R192) -/

/-- The ladder with the cell of a level retired. -/
def State.cellRetired (s : State) (level : Nat) : Ladder :=
  { s.ladder with
    retired := insertNum (s.ladder.wanted.getD level 0) s.ladder.retired, replacedAt := some s.time.elapsed }

/-- The spare that takes its place. -/
def State.cellSpare (s : State) (level : Nat) : Option Nat :=
  s.ladder.bestSpare level (s.ladder.wanted.getD level 0)
    ((Ladder.free { s.ladder with retired := insertNum (s.ladder.wanted.getD level 0) s.ladder.retired }) s.ladder.wanted)

section
variable {level : Nat} {s : State}

theorem retireCell_replaces {c : Nat} (h : s.cellSpare level = some c) :
    Same { s with ladder := { s.cellRetired level with
      pendingSel := some (s.ladder.wanted.set level c), spares := s.ladder.spares - 1 } } (retireCell level s) := by
  unfold retireCell
  dsimp only
  split
  · next hn => cases hn.symm.trans h
  · next k hk =>
    obtain rfl : k = c := Option.some.inj (hk.symm.trans h)
    exact raiseEv_same _ _ _

theorem retireCell_fails (h : s.cellSpare level = none) :
    ∃ p, retireCell level s = ladderDown 4 0x031 p { s with ladder := s.cellRetired level } := by
  unfold retireCell
  dsimp only
  split
  · exact ⟨_, rfl⟩
  · next hk => cases hk.symm.trans h

theorem ladderCellRetire_eq (hs : s.ladder.state = 2) (hl : level < 16) :
    exec (.ladderCellRetire level) s = .next (retireCell level s) := congrArg Host.Outcome.next (if_pos ⟨hs, hl⟩)

theorem ladderCellRetire_replaces (hs : s.ladder.state = 2) (hl : level < 16) {c : Nat} (h : s.cellSpare level = some c) :
    Gives (.ladderCellRetire level) s fun t => Same { s with ladder := { s.cellRetired level with
      pendingSel := some (s.ladder.wanted.set level c), spares := s.ladder.spares - 1 } } t :=
  ⟨_, ladderCellRetire_eq hs hl, retireCell_replaces h⟩

theorem ladderCellRetire_fails (hs : s.ladder.state = 2) (hl : level < 16) (h : s.cellSpare level = none) :
    Gives (.ladderCellRetire level) s fun t => t.ladder.state = 4 ∧ LadderFell s t := by
  obtain ⟨p, failed⟩ := retireCell_fails h
  refine ⟨_, ladderCellRetire_eq hs hl, ?_⟩
  rw [failed]
  exact ⟨ladderDown_state _ _ _ _, ladderDown_fell 4 0x031 p { s with ladder := s.cellRetired level }⟩

theorem retireCell_vhv (level : Nat) (s : State) : (retireCell level s).power.vhv = s.power.vhv := by
  cases h : s.cellSpare level with
  | some c => exact (congrArg (fun t : State => t.power.vhv) (retireCell_replaces h).1 :)
  | none =>
    obtain ⟨p, failed⟩ := retireCell_fails h
    rw [failed]
    exact ladderDown_vhv _ _ _ _

theorem ladderUv_falls (h : s.ladder.state = 1 ∨ s.ladder.state = 2) : Gives .ladderUv s fun t =>
    t.ladder.state = 3 ∧ LadderFell { s with power := { s.power with vhv := false } } t :=
  ⟨_, congrArg Host.Outcome.next (if_pos h), ladderDown_state _ _ _ _, ladderDown_fell _ _ _ _⟩

end

end Sys2Proof.Machine
end

/-! SUPPORT. The ladder's selection and its return (R191, R193, R195, R209, R210), and span changes (R211): a swap of cells,
a pair whose LADDER cause goes, the clear table's first load, and the end of a span's dwell. -/
section
namespace Sys2Proof.Machine

/-! ### Selections (R191 to R193) -/

theorem getD_map_numbers {α : Type} (f : Nat → α) (d : α) {n j : Nat} (h : j < n) :
    ((numbers 0 n).map f).getD j d = f j := by
  simp [numbers_eq_range', h]

theorem Ladder.unretire_length (l : Ladder) (js sel : List Nat) : (l.unretire js sel).1.length = sel.length := by
  induction js generalizing sel with
  | nil => rfl
  | cons j rest ih =>
    unfold Ladder.unretire
    extract_lets c
    split
    · exact ih sel
    · split
      · rfl
      · exact (ih _).trans List.length_set

theorem loadSelection_lengths (s : State) :
    (loadSelection s).1.ladder.selection.length = 16 ∧ (loadSelection s).1.ladder.levels.length = 16 :=
  ⟨Ladder.unretire_length _ _ _, rfl⟩

section
variable {s : State} {sel : List Nat} (ht : s.atTransit = true)
include ht

theorem ladderSelectionChange_cal {errs : Option (List Int)} (hc : s.ladder.calSel = some (sel, errs))
    (hh : s.atHold = true) : exec .ladderSelectionChange s = .next (swapLadder sel errs s) :=
  congrArg Host.Outcome.next ((if_neg (by simp [ht])).trans (by rw [if_pos hh, hc]))

theorem ladderSelectionChange_run {errs : List Int} (hc : s.ladder.calSel = some (sel, some errs))
    (hh : s.atHold = true) : Gives .ladderSelectionChange s fun t =>
      t = { s with ladder := { s.ladder with
        selection := sel, levels := s.calLevels, errs := errs, retired := [], spares := 8, pendingSel := none
        calSel := none, deglitchAt := some s.time.elapsed } } :=
  ⟨_, ladderSelectionChange_cal ht hc hh, rfl⟩

theorem ladderSelectionChange_clear (hc : s.ladder.calSel = some (sel, none)) (hh : s.atHold = true) :
    Gives .ladderSelectionChange s fun t =>
      t = { s with ladder := { (loadSelection s).1.ladder with
        pendingSel := none, calSel := none, deglitchAt := some s.time.elapsed } }
        ∧ t.ladder.retired = s.ladder.retired ∧ t.ladder.errs = s.ladder.errs :=
  ⟨_, ladderSelectionChange_cal ht hc hh, rfl, rfl, rfl⟩

theorem ladderSelectionChange_cell (hp : s.ladder.pendingSel = some sel) (hc : s.ladder.calSel = none ∨ s.atHold = false) :
    Gives .ladderSelectionChange s fun t =>
      t = { s with ladder := { s.ladder with
        selection := sel, levels := t.ladder.levels, pendingSel := none, deglitchAt := some s.time.elapsed } }
        ∧ ∀ j, j < 16 → t.ladder.levels.getD j 0 =
            if sel.getD j 0 = s.ladder.selection.getD j 0 then s.ladder.levels.getD j 0
            else s.cellMv j (sel.getD j 0) := by
  have noCal : (if s.atHold then s.ladder.calSel else none) = none := by
    rcases hc with hc | hc <;> simp [hc]
  have run : exec .ladderSelectionChange s = .next (swapCell sel s) :=
    congrArg Host.Outcome.next ((if_neg (by simp [ht])).trans (by rw [noCal, hp]))
  exact ⟨_, run, rfl, fun j hj => getD_map_numbers _ _ hj⟩

end

/-! ### The clear table's first load (R209) -/

/-- What changes AUX outputs alone, changes them alone over a list. -/
theorem forEach_aux {f : Nat → State → State} (h : ∀ a t, f a t = { t with aux := (f a t).aux }) (l : List Nat) (s : State) :
    forEach f l s = { s with aux := (forEach f l s).aux } :=
  forEach_invariant f (fun t : State => t = { s with aux := t.aux })
    (fun a t ht => (h a t).trans (congrArg (fun u : State => { u with aux := (f a t).aux }) ht)) l s rfl

theorem auxStart_aux (s : State) : auxStart s = { s with aux := (auxStart s).aux } := forEach_aux (fun _ _ => rfl) _ s

theorem ClearT.loaded_eq {c : ClearT} (h : c.loaded = true) : { c with loaded := true } = c := h ▸ rfl

theorem loadClear_eq (s : State) :
    loadClear s = { s with clear := { s.clear with loaded := true }, aux := (loadClear s).aux } := by
  unfold loadClear
  split
  · next h => rw [ClearT.loaded_eq h]
  · exact auxStart_aux _

theorem loadClear_ladder (s : State) : (loadClear s).ladder = s.ladder := (congrArg State.ladder (loadClear_eq s) :)

theorem loadClear_power (s : State) : (loadClear s).power = s.power := (congrArg State.power (loadClear_eq s) :)

theorem loadClear_pair (e : Nat) (s : State) : (loadClear s).pair e = s.pair e :=
  (congrArg (State.pair e) (loadClear_eq s)).trans rfl

/-! ### A pair whose LADDER cause goes (R195) -/

/-- `t` is `s` with element `e` at `x`, but for events and records. -/
def Becomes (e : Nat) (x : Elem) (s t : State) : Prop :=
  Same { s with elems := t.elems } t ∧ ∀ f, t.elem f = if f = e then x else s.elem f

section
variable {e : Nat} {x y : Elem} {s t u : State}

theorem Becomes.setElem (e : Nat) (x : Elem) (s : State) : Becomes e x s (s.setElem e x) :=
  ⟨Same.refl (s.setElem e x), State.elem_setElem s e x⟩

theorem Becomes.same (h : Becomes e x s t) (k : Same t u) : Becomes e x s u := by
  refine ⟨?_, fun f => (k.elem f).trans (h.2 f)⟩
  rw [k.elems]
  exact h.1.trans k

theorem Becomes.again (h : Becomes e x s t) (k : Becomes e y t u) : Becomes e y s u := by
  refine ⟨⟨k.1.1.trans (congrArg (fun b : State => { b with elems := u.elems }) h.1.1), h.1.2.trans k.1.2⟩, fun f => ?_⟩
  rw [k.2 f, h.2 f]
  split <;> rfl

theorem Becomes.chans (h : Becomes e x s t) : t.chans = s.chans := (congrArg State.chans h.1.1 :)

theorem Becomes.self (h : Becomes e x s t) : t.elem e = x := (h.2 e).trans (if_pos rfl)

end

theorem clearFault_becomes (e : Nat) (s : State) : Becomes e
    { s.elem e with causes := 0, clearAsked := none, toTransit := decide ((s.elem e).mode = .faulted) } s (clearFault e s) :=
  (Becomes.setElem e _ s).same (clearFault_same e s)

theorem parkAgain_becomes (e : Nat) (s : State) : Becomes e
    { s.elem e with causes := 0, clearAsked := none, mode := .parked } s (parkAgain e s) :=
  (Becomes.setElem e _ s).same (raiseEv_same _ _ _)

/-- An element without its CHANNEL cause: a FAULTED one that had no other waits to enter TRANSIT, or before the clear
table's first load is PARKED again. -/
def Elem.returned (x : Elem) (loaded : Bool) : Elem :=
  if x.mode = .faulted ∧ clrBit x.causes 4 = 0 then
    if loaded then { x with causes := 0, clearAsked := none, toTransit := true }
    else { x with causes := 0, clearAsked := none, mode := .parked }
  else { x with causes := clrBit x.causes 4 }

/-- The state with element `e` without that cause. -/
def State.uncaused (s : State) (e : Nat) : State := s.setElem e { s.elem e with causes := clrBit (s.elem e).causes 4 }

/-- The return of element `e`. -/
def returnElem (loaded : Bool) (e : Nat) (s : State) : State :=
  if (s.elem e).mode = .faulted ∧ clrBit (s.elem e).causes 4 = 0 then
    if loaded then clearFault e (s.uncaused e) else parkAgain e (s.uncaused e)
  else s.uncaused e

theorem returnElem_becomes (loaded : Bool) (e : Nat) (s : State) :
    Becomes e ((s.elem e).returned loaded) s (returnElem loaded e s) := by
  have first : Becomes e { s.elem e with causes := clrBit (s.elem e).causes 4 } s (s.uncaused e) :=
    Becomes.setElem e _ s
  unfold returnElem Elem.returned
  split
  · next free =>
    split
    · have cleared := clearFault_becomes e (s.uncaused e)
      rw [first.self] at cleared
      simpa only [free.1, decide_true] using first.again cleared
    · have parked := parkAgain_becomes e (s.uncaused e)
      rw [first.self] at parked
      exact first.again parked
  · exact first

/-- A channel without its LADDER cause. -/
def Chan.returned (c : Chan) : Chan := { c with causes := clrBit c.causes 3 }

/-- The return of pair `e`. -/
def returnPair (loaded : Bool) (e : Nat) (s : State) : State :=
  if (s.chan e).causes.testBit 3 then
    if (s.chan e).returned.causes ≠ 0 then s.setChan e (s.chan e).returned
    else returnElem loaded e (s.setChan e (s.chan e).returned)
  else s

/-- `t` is `s` but for elements, channel pairs, events and records. -/
def PairsOnly (s t : State) : Prop := Same { s with elems := t.elems, chans := t.chans } t

theorem PairsOnly.refl (s : State) : PairsOnly s s := Same.refl s

theorem PairsOnly.trans {s t u : State} (h : PairsOnly s t) (k : PairsOnly t u) : PairsOnly s u :=
  ⟨Eq.trans k.1 (congrArg (fun b : State => { b with elems := u.elems, chans := u.chans }) h.1), SessionsStill.trans h.2 k.2⟩

theorem PairsOnly.of_same {s t : State} (h : Same s t) : PairsOnly s t := by
  rw [PairsOnly, h.elems, h.chans]
  exact h

theorem PairsOnly.ladder {s t : State} (h : PairsOnly s t) : t.ladder = s.ladder := (congrArg State.ladder h.1 :)

theorem PairsOnly.clear {s t : State} (h : PairsOnly s t) : t.clear = s.clear := (congrArg State.clear h.1 :)

theorem PairsOnly.vhv {s t : State} (h : PairsOnly s t) : t.power.vhv = s.power.vhv :=
  (congrArg (fun a : State => a.power.vhv) h.1 :)

section
variable (loaded : Bool) (e : Nat) (s : State)

theorem returnPair_pairsOnly : PairsOnly s (returnPair loaded e s) := by
  unfold returnPair
  split
  · split
    · exact Same.refl (s.setChan e _)
    · have elem := returnElem_becomes loaded e (s.setChan e (s.chan e).returned)
      rw [PairsOnly, elem.chans]
      exact elem.1
  · exact PairsOnly.refl s

variable {loaded e s}

theorem returnPair_pair_other {f : Nat} (h : f ≠ e) : (returnPair loaded e s).pair f = s.pair f := by
  have chan (c : Chan) : (s.setChan e c).chan f = s.chan f := (State.chan_setChan s e c f).trans (if_neg h)
  unfold returnPair
  split
  · split
    · exact Prod.ext (chan _) rfl
    · have elem := returnElem_becomes loaded e (s.setChan e (s.chan e).returned)
      refine Prod.ext ?_ ((elem.2 f).trans (if_neg h))
      rw [State.pair, State.chan, elem.chans]
      exact chan _
  · rfl

theorem returnPair_kept (h : (s.chan e).causes.testBit 3 = false) : returnPair loaded e s = s := if_neg (by simp [h])

variable (h : (s.chan e).causes.testBit 3 = true)
include h

theorem returnPair_chan : (returnPair loaded e s).chan e = (s.chan e).returned := by
  have chan : (s.setChan e (s.chan e).returned).chan e = (s.chan e).returned :=
    (State.chan_setChan s e _ e).trans (if_pos rfl)
  rw [returnPair, if_pos h]
  split
  · exact chan
  · rw [State.chan, (returnElem_becomes _ _ _).chans]
    exact chan

theorem returnPair_elem (hc : clrBit (s.chan e).causes 3 = 0) :
    (returnPair loaded e s).elem e = (s.elem e).returned loaded := by
  have free : (s.chan e).returned.causes = 0 := hc
  rw [returnPair, if_pos h, if_neg (not_not_intro free)]
  exact (returnElem_becomes loaded e (s.setChan e (s.chan e).returned)).self

end

section
variable (s : State)

theorem ladderRestored_eq : ladderRestored s = forEach (returnPair s.clear.loaded) (numbers 0 elemCount)
    (raiseEv 0x033 [] { s with ladder := { s.ladder with state := 2, checking := false } }) := rfl

theorem ladderRestored_pairsOnly :
    PairsOnly { s with ladder := { s.ladder with state := 2, checking := false } } (ladderRestored s) := by
  rw [ladderRestored_eq]
  exact forEach_invariant _ (PairsOnly _) (fun e t h => h.trans (returnPair_pairsOnly _ e t)) _ _
    (PairsOnly.of_same (raiseEv_same _ _ _))

theorem ladderRestored_pair {e : Nat} (h : e < 11776) :
    ∃ u : State, u.pair e = s.pair e ∧ (ladderRestored s).pair e = (returnPair s.clear.loaded e u).pair e := by
  have raised := raiseEv_same 0x033 [] { s with ladder := { s.ladder with state := 2, checking := false } }
  obtain ⟨u, start, stop⟩ := forEach_once (g := State.pair)
    (fun _ _ t k => returnPair_pair_other (loaded := s.clear.loaded) (s := t) k)
    (numbers_nodup 0 elemCount) (mem_allElems h)
    (raiseEv 0x033 [] { s with ladder := { s.ladder with state := 2, checking := false } })
  exact ⟨u, start.trans (Prod.ext (raised.chan e) (raised.elem e)), stop⟩

theorem ladderRestored_state : (ladderRestored s).ladder.state = 2 := by rw [(ladderRestored_pairsOnly s).ladder]

end

/-- A pair as the ladder's return leaves it. -/
theorem ladderRestored_returns {e : Nat} (h : e < 11776) (s : State) :
    ((s.chan e).causes.testBit 3 = false → (ladderRestored s).chan e = s.chan e ∧ (ladderRestored s).elem e = s.elem e)
    ∧ ((s.chan e).causes.testBit 3 = true →
        (ladderRestored s).chan e = (s.chan e).returned
          ∧ (clrBit (s.chan e).causes 3 = 0 → (ladderRestored s).elem e = (s.elem e).returned s.clear.loaded)) := by
  obtain ⟨u, start, stop⟩ := ladderRestored_pair s h
  obtain ⟨chanStart, elemStart⟩ := Prod.mk.inj start
  obtain ⟨chanStop, elemStop⟩ := Prod.mk.inj stop
  rw [chanStop, elemStop, ← chanStart, ← elemStart]
  exact ⟨fun hb => by rw [returnPair_kept hb]; exact ⟨rfl, rfl⟩,
    fun hb => ⟨returnPair_chan hb, returnPair_elem hb⟩⟩

theorem Elem.returned_faulted {x : Elem} {loaded : Bool} (hf : x.mode = .faulted) (hc : clrBit x.causes 4 = 0) :
    (x.returned loaded).causes = 0 ∧ (loaded = true → (x.returned loaded).toTransit = true)
      ∧ (loaded = false → (x.returned loaded).mode = .parked) := by
  rw [Elem.returned, if_pos ⟨hf, hc⟩]
  cases loaded <;> simp

/-! ### The restart of the ladder (R195) -/

/-- The ladder as it restarts: one that fell before it first regulated loads its selection (R209). -/
def State.readied (s : State) : State :=
  { s with
    power := { s.power with vhv := true }
    ladder := (if s.ladder.loaded = true then s else (loadSelection s).1).ladder }

/-- The ladder as it restarts, and the level for which no cell remains. -/
def State.reselected (s : State) : State × Option Nat :=
  if s.ladder.loaded then ({ s with power := { s.power with vhv := true } }, none)
  else loadSelection { s with power := { s.power with vhv := true } }

theorem reselected_vhv (s : State) : s.reselected.1.power.vhv = true := by
  unfold State.reselected
  split <;> rfl

theorem reselected_readied {s : State} (h : s.ladder.loaded = true ∨ (loadSelection s).2 = none) :
    s.reselected = (s.readied, none) := by
  unfold State.reselected State.readied
  by_cases loaded : s.ladder.loaded = true
  · rw [if_pos loaded, if_pos loaded]
  · rw [if_neg loaded, if_neg loaded]
    exact Prod.ext rfl (h.resolve_left loaded)

theorem readied_state_ne {s : State} (h : s.ladder.state ≠ 4) : s.readied.ladder.state ≠ 4 := by
  unfold State.readied
  split <;> exact h

/-- The cells of the levels that deviate, replaced one after another while the ladder stands. -/
def retireAll (dev : List Nat) (s : State) : State :=
  forEach (fun l t => if t.ladder.state ≠ 4 ∧ l < 16 then retireCell l t else t) dev s

theorem retireAll_vhv (dev : List Nat) (s : State) : (retireAll dev s).power.vhv = s.power.vhv := by
  refine forEach_keeps _ (fun t : State => t.power.vhv) (fun l t => ?_) dev s
  split
  · exact retireCell_vhv l t
  · rfl

/-- The clear table's load after changes of pairs. -/
theorem PairsOnly.loadClear {s t : State} (h : PairsOnly s t) : Same { s with
    elems := (loadClear t).elems, chans := (loadClear t).chans, aux := (loadClear t).aux
    clear := { s.clear with loaded := true } } (loadClear t) := by
  have load := loadClear_eq t
  have clear := h.clear
  generalize Machine.loadClear t = u at load ⊢
  rw [load, clear]
  exact ⟨congrArg (fun b : State => { b with clear := { s.clear with loaded := true }, aux := u.aux }) h.1, h.2⟩

theorem readied_same (s : State) : Same { s with
    power := { s.power with vhv := true }
    elems := (loadClear (ladderRestored s.readied)).elems, chans := (loadClear (ladderRestored s.readied)).chans
    ladder := { (if s.ladder.loaded = true then s else (loadSelection s).1).ladder with state := 2, checking := false }
    aux := (loadClear (ladderRestored s.readied)).aux, clear := { s.clear with loaded := true } }
    (loadClear (ladderRestored s.readied)) := (ladderRestored_pairsOnly s.readied).loadClear

/-- Pair `e` as the ladder's return leaves it: one whose only cause was LADDER is free of faults. -/
def PairReturns (e : Nat) (s t : State) : Prop :=
  ((s.chan e).causes.testBit 3 = false → t.chan e = s.chan e ∧ t.elem e = s.elem e)
  ∧ ((s.chan e).causes.testBit 3 = true →
      t.chan e = (s.chan e).returned
        ∧ (clrBit (s.chan e).causes 3 = 0 → (s.elem e).mode = .faulted → clrBit (s.elem e).causes 4 = 0 →
            (t.elem e).causes = 0 ∧ (s.clear.loaded = true → (t.elem e).toTransit = true)
              ∧ (s.clear.loaded = false → (t.elem e).mode = .parked)))

theorem readied_pairReturns {e : Nat} (h : e < 11776) (s : State) :
    PairReturns e s (loadClear (ladderRestored s.readied)) := by
  obtain ⟨chan, elem⟩ := Prod.mk.inj (loadClear_pair e (ladderRestored s.readied))
  obtain ⟨kept, gone⟩ := ladderRestored_returns h s.readied
  rw [PairReturns, chan, elem]
  refine ⟨kept, fun hb => ⟨(gone hb).1, fun hc hf h0 => ?_⟩⟩
  rw [(gone hb).2 hc]
  exact Elem.returned_faulted hf h0

section
variable {s : State} (h3 : s.ladder.state = 3 ∨ s.ladder.checking = true)
include h3

theorem ladderRestart_guard : ¬ (s.ladder.state ≠ 3 ∧ (!s.ladder.checking) = true) := by
  rcases h3 with h | h <;> simp [h]

theorem ladderRestart_unserved (dev : List Nat) {u : State} {j : Nat} (hu : s.reselected = (u, some j)) :
    exec (.ladderRestart dev) s =
      .next (ladderDown 4 0x031 [byte (u.ladder.selection.getD j 0), byte j, 0xFF#8] u) := by
  refine congrArg Host.Outcome.next ((if_neg (ladderRestart_guard h3)).trans ?_)
  unfold State.reselected at hu
  dsimp only at hu ⊢
  rw [hu]

theorem ladderRestart_served (dev : List Nat) {u : State} (hu : s.reselected = (u, none)) :
    exec (.ladderRestart dev) s = .next (if (retireAll dev u).ladder.state ≠ 4
      then loadClear (ladderRestored (retireAll dev u)) else retireAll dev u) := by
  refine congrArg Host.Outcome.next ((if_neg (ladderRestart_guard h3)).trans ?_)
  unfold State.reselected at hu
  dsimp only at hu ⊢
  rw [hu]
  rfl

theorem ladderRestart_ends (dev : List Nat) : Gives (.ladderRestart dev) s fun t =>
    (t.ladder.state = 2 ∨ t.ladder.state = 4) ∧ t.power.vhv = true := by
  have ready := reselected_vhv s
  cases h : s.reselected with
  | mk u unserved =>
    rw [h] at ready
    cases unserved with
    | some j =>
      exact ⟨_, ladderRestart_unserved h3 dev h, .inr (ladderDown_state _ _ _ _), (ladderDown_vhv _ _ _ _).trans ready⟩
    | none =>
      refine ⟨_, ladderRestart_served h3 dev h, ?_⟩
      split
      · rw [loadClear_ladder, loadClear_power, ladderRestored_state, (ladderRestored_pairsOnly _).vhv, retireAll_vhv]
        exact ⟨.inl rfl, ready⟩
      · next failed =>
        rw [retireAll_vhv]
        exact ⟨.inr (not_not.1 failed), ready⟩

variable (h4 : s.ladder.state ≠ 4) (hl : s.ladder.loaded = true ∨ (loadSelection s).2 = none)
include h4 hl

theorem ladderRestart_restores : exec (.ladderRestart []) s = .next (loadClear (ladderRestored s.readied)) :=
  (ladderRestart_served h3 [] (reselected_readied hl)).trans (congrArg Host.Outcome.next (if_pos (readied_state_ne h4)))

theorem ladderRestart_returns : Gives (.ladderRestart []) s fun t =>
    Same { s with
      power := { s.power with vhv := true }, elems := t.elems, chans := t.chans
      ladder := { (if s.ladder.loaded = true then s else (loadSelection s).1).ladder with state := 2, checking := false }
      aux := t.aux, clear := { s.clear with loaded := true } } t
      ∧ ∀ e, e < 11776 → PairReturns e s t :=
  ⟨_, ladderRestart_restores h3 h4 hl, readied_same s, fun _ h => readied_pairReturns h s⟩

end

/-! ### The ladder first regulates (R209, R210) -/

/-- The ladder in regulation, with its selection loaded. -/
def State.regulated (s : State) : State := { s with ladder := { (loadSelection s).1.ladder with state := 2 } }

section
variable {s : State} (h1 : s.ladder.state = 1) (hk : s.ladder.checking = false)
include h1 hk

theorem ladderRegulating_guard : ¬ (s.ladder.state ≠ 1 ∨ s.ladder.checking = true) := by simp [h1, hk]

theorem ladderRegulating_unserved {j : Nat} (hj : (loadSelection s).2 = some j) :
    Gives .ladderRegulating s fun t => t.ladder.state = 4 := by
  have run : exec .ladderRegulating s = .next (ladderDown 4 0x031
      [byte ((loadSelection s).1.ladder.selection.getD j 0), byte j, 0xFF#8] (loadSelection s).1) := by
    refine congrArg Host.Outcome.next ((if_neg (ladderRegulating_guard h1 hk)).trans ?_)
    dsimp only
    rw [hj]
  exact ⟨_, run, ladderDown_state _ _ _ _⟩

variable (hs : (loadSelection s).2 = none)
include hs

theorem ladderRegulating_served : exec .ladderRegulating s = .next (if s.power.vhv then loadClear s.regulated
    else ladderDown 3 0x032 noSpare (loadSelection s).1) := by
  refine congrArg Host.Outcome.next ((if_neg (ladderRegulating_guard h1 hk)).trans ?_)
  dsimp only
  rw [hs]
  rfl

theorem ladderRegulating_regulates (hv : s.power.vhv = true) : Gives .ladderRegulating s fun t =>
    t = { s with ladder := t.ladder, clear := { s.clear with loaded := true }, aux := t.aux }
      ∧ t.ladder.state = 2 ∧ t.ladder.selection.length = 16 ∧ t.ladder.levels.length = 16 := by
  refine ⟨_, (ladderRegulating_served h1 hk hs).trans (congrArg Host.Outcome.next (if_pos hv)), ?_, ?_⟩
  · rw [loadClear_ladder]
    exact loadClear_eq s.regulated
  · rw [loadClear_ladder]
    exact ⟨rfl, loadSelection_lengths s⟩

theorem ladderRegulating_unpowered (hv : s.power.vhv = false) : Gives .ladderRegulating s fun t => t.ladder.state = 3 :=
  ⟨_, (ladderRegulating_served h1 hk hs).trans (congrArg Host.Outcome.next (if_neg (by simp [hv]))),
    ladderDown_state _ _ _ _⟩

end

/-! ### Spans (R211) -/

theorem chanSpanWrite_waits {ses e v : Nat} {s : State} (h : Passes ses (0x8000 + e) 0x30 (valBytes 1 v) s) :
    Gives (.chanSpanWrite ses e v) s fun t =>
      Does ses stOk s { s with objs := t.objs, chans := t.chans } t ∧ t.obj (0x8000 + e) 0x30 = v
        ∧ t.chan e = { s.chan e with spanNext := some v } := by
  refine ⟨_, congrArg Host.Outcome.next (gated_pass h _), ?_, ?_, ?_⟩
  · rw [reply_objs, reply_chans]
    exact does_reply _ _ _ _ (SessionsStill.of_eq rfl)
  · rw [reply_obj]
    exact State.obj_setObj_self s (0x8000 + e) 0x30 v
  · rw [reply_chan, State.chan_setChan, if_pos rfl]

/-- The state with the span of channel `e` changed. -/
def State.spanned (s : State) (e v : Nat) : State :=
  s.setChan e { s.chan e with span := v, spanNext := none, dwellAt := none }

section
variable {e at_ v : Nat} {s : State} (hd : (s.chan e).dwellAt = some at_) (hn : (s.chan e).spanNext = some v)
  (ht : at_ + 10000 * 65536 ≤ s.time.elapsed)
include hd hn ht

theorem chanSpanDwellEnd_eq : exec (.chanSpanDwellEnd e) s = .next (if (s.elem e).mode.runs then s
    else if (s.elem e).mode = .parked ∨ s.clearing then (s.spanned e v).setElem e { s.elem e with
      code := (s.spanned e v).clearCode e, nextCode := (s.spanned e v).clearCode e }
    else s.spanned e v) := by
  refine congrArg Host.Outcome.next ?_
  dsimp only
  rw [hd, hn]
  exact if_pos ht

theorem chanSpanDwellEnd_changes (hr : (s.elem e).mode.runs = false) : Gives (.chanSpanDwellEnd e) s fun t =>
    t = { s with chans := t.chans, elems := t.elems }
      ∧ t.chan e = { s.chan e with span := v, spanNext := none, dwellAt := none }
      ∧ t.elem e = (if (s.elem e).mode = .parked ∨ s.clearing = true then
          { s.elem e with code := t.clearCode e, nextCode := t.clearCode e } else s.elem e) := by
  have run := (chanSpanDwellEnd_eq hd hn ht).trans (congrArg Host.Outcome.next (if_neg (by simp [hr])))
  have chan : (s.spanned e v).chan e = { s.chan e with span := v, spanNext := none, dwellAt := none } :=
    (State.chan_setChan s e _ e).trans (if_pos rfl)
  by_cases hc : (s.elem e).mode = .parked ∨ s.clearing = true
  · rw [if_pos hc] at run
    refine ⟨_, run, rfl, chan, ?_⟩
    rw [if_pos hc]
    exact (State.elem_setElem _ _ _ _).trans (if_pos rfl)
  · rw [if_neg hc] at run
    refine ⟨_, run, rfl, chan, ?_⟩
    rw [if_neg hc]
    rfl

theorem chanSpanDwellEnd_waits (hr : (s.elem e).mode.runs = true) : Gives (.chanSpanDwellEnd e) s fun t => t = s :=
  ⟨_, (chanSpanDwellEnd_eq hd hn ht).trans (congrArg Host.Outcome.next (if_pos hr)), rfl⟩

end

end Sys2Proof.Machine
end

section
open Sys2Proof Sys2Proof.Machine

/-- Settles O7: a pair's fault, a lost ladder as the fault of every pair, its return at every pair, and the swaps and spans
by the cases of their guards. -/
theorem channelsAndLadder : Obligations.ChannelsAndLadder :=
  ⟨fun _ _ _ => channelFault_faults,
    fun _ _ hs hl => ⟨fun _ => ladderCellRetire_replaces hs hl, ladderCellRetire_fails hs hl⟩,
    fun _ _ _ hc ht => ladderSelectionChange_run ht hc, fun _ _ hc ht => ladderSelectionChange_clear ht hc,
    fun _ _ hp ht => ladderSelectionChange_cell ht hp, fun _ => ladderUv_falls,
    fun dev _ h3 => ladderRestart_ends h3 dev, fun _ h4 h3 => ladderRestart_returns h3 h4,
    fun _ => ladderRegulating_regulates, fun _ => ladderRegulating_unpowered,
    fun _ _ h1 hk => ladderRegulating_unserved h1 hk, fun _ _ _ _ => chanSpanWrite_waits,
    fun _ _ _ _ hd hn ht => ⟨chanSpanDwellEnd_changes hd hn ht, chanSpanDwellEnd_waits hd hn ht⟩⟩

end


/-! SUPPORT. Capture inputs (R248, R249): what an edge and a read make of the input that they name. -/
section
namespace Sys2Proof.Machine

theorem Same.caps {s t : State} (h : Same s t) : t.caps = s.caps := (congrArg State.caps h.1 :)

theorem Same.capture {s t : State} (h : Same s t) (i : Nat) : t.capture_ i = s.capture_ i := by
  rw [State.capture_, h.caps, ← State.capture_]

theorem State.capture_setCapture_self (s : State) (i : Nat) (x : Capture) : (s.setCapture i x).capture_ i = x :=
  (State.capture_setCapture s i x i).trans (if_pos rfl)

theorem State.capture_setCapture_other (s : State) {i k : Nat} (h : k ≠ i) (x : Capture) :
    (s.setCapture i x).capture_ k = s.capture_ k := (State.capture_setCapture s i x k).trans (if_neg h)

/-- A change of one capture input without an event. -/
theorem gives_setCapture {c : Instr} {i : Nat} {x : Capture} {s : State} (run : exec c s = .next (s.setCapture i x)) :
    Gives c s fun t => t = { s with caps := t.caps } ∧ t.capture_ i = x ∧ ∀ k, k ≠ i → t.capture_ k = s.capture_ k :=
  ⟨_, run, rfl, State.capture_setCapture_self s i x, fun _ hk => State.capture_setCapture_other s hk x⟩

/-! ### TS_IN_EDGE -/

/-- An instant comes less than 8 ns after the input's last recorded edge (R249). -/
def Capture.near (x : Capture) (at_ : Instant) : Bool :=
  match x.last with
  | none => false
  | some l => decide (l ≤ at_) && decide (at_ < l + 8 * 65536)

theorem Capture.near_of_last {x : Capture} {at_ l : Instant} (h : x.last = some l) (after : l ≤ at_)
    (before : at_ < l + 8 * 65536) : x.near at_ = true := by
  simp only [near, h, after, before, decide_true, Bool.and_self]

theorem Capture.not_near {x : Capture} {at_ : Instant}
    (h : ∀ l, x.last = some l → at_ < l ∨ l + 8 * 65536 ≤ at_) : x.near at_ = false := by
  unfold near
  split
  · rfl
  · next l hl => simpa [or_iff_not_imp_left] using h l hl

/-- An input whose FIFO was full at an edge. -/
def Capture.overflowed (x : Capture) : Capture := { x with ovf := min (x.ovf + 1) 0xFFFF, overflow := true }

theorem tsInEdge_unheeded {i : Nat} {rising : Bool} {stamp : Instant} {s : State} (hc : s.captures i rising = false) : Gives (.tsInEdge i rising stamp) s fun t => t = s :=
  ⟨_, congrArg Host.Outcome.next (if_pos (.inr (.inr (.inr (by simp [hc]))))), rfl⟩

section
variable {i : Nat} {rising : Bool} {stamp : Instant} {s : State} (hi : i < 8) (hv : s.power.vaux = true)
  (hr : s.time.running = true) (hc : s.captures i rising = true)
include hi hv hr hc

theorem tsInEdge_eq : exec (.tsInEdge i rising stamp) s = .next (
    if (s.capture_ i).near (stamp / 16384 * 16384) then
      s.setCapture i { s.capture_ i with missed := min ((s.capture_ i).missed + 1) 255 }
    else if (s.capture_ i).fifo.length < 16 then
      s.setCapture i { s.capture_ i with
        fifo := (s.capture_ i).fifo ++ [(stamp / 16384 * 16384, rising)], last := some (stamp / 16384 * 16384) }
    else if (s.capture_ i).overflow then s.setCapture i (s.capture_ i).overflowed
    else raiseEv (0x110 + i) (leBytes 4 (s.capture_ i).overflowed.ovf) (s.setCapture i (s.capture_ i).overflowed)) :=
  congrArg Host.Outcome.next (if_neg (by simp [hi, hv, hr, hc]))

theorem tsInEdge_misses {l : Instant} (hl : (s.capture_ i).last = some l) (after : l ≤ stamp / 16384 * 16384)
    (before : stamp / 16384 * 16384 < l + 8 * 65536) : Gives (.tsInEdge i rising stamp) s fun t =>
      t = { s with caps := t.caps }
        ∧ t.capture_ i = { s.capture_ i with missed := min ((s.capture_ i).missed + 1) 255 }
        ∧ ∀ k, k ≠ i → t.capture_ k = s.capture_ k :=
  gives_setCapture ((tsInEdge_eq hi hv hr hc).trans
    (congrArg Host.Outcome.next (if_pos (Capture.near_of_last hl after before))))

variable (far : ∀ l, (s.capture_ i).last = some l →
  stamp / 16384 * 16384 < l ∨ l + 8 * 65536 ≤ stamp / 16384 * 16384)
include far

theorem tsInEdge_records (room : (s.capture_ i).fifo.length < 16) : Gives (.tsInEdge i rising stamp) s fun t =>
    t = { s with caps := t.caps }
      ∧ t.capture_ i = { s.capture_ i with
          fifo := (s.capture_ i).fifo ++ [(stamp / 16384 * 16384, rising)]
          last := some (stamp / 16384 * 16384) }
      ∧ ∀ k, k ≠ i → t.capture_ k = s.capture_ k :=
  gives_setCapture ((tsInEdge_eq hi hv hr hc).trans
    (congrArg Host.Outcome.next ((if_neg (Bool.eq_false_iff.1 (Capture.not_near far))).trans (if_pos room))))

theorem tsInEdge_overflows (full : 16 ≤ (s.capture_ i).fifo.length) : Gives (.tsInEdge i rising stamp) s fun t =>
    Same { s with caps := t.caps } t
      ∧ t.capture_ i = { s.capture_ i with ovf := min ((s.capture_ i).ovf + 1) 0xFFFF, overflow := true }
      ∧ (∀ k, k ≠ i → t.capture_ k = s.capture_ k)
      ∧ ((s.capture_ i).overflow = true → t = { s with caps := t.caps })
      ∧ ((s.capture_ i).overflow = false → ∃ u, u.events = s.events ∧ u.sessions = s.sessions
          ∧ u.queues = s.queues ∧ t = raiseEv (0x110 + i) (leBytes 4 (t.capture_ i).ovf) u) := by
  have run := (tsInEdge_eq hi hv hr hc).trans (congrArg Host.Outcome.next
    ((if_neg (Bool.eq_false_iff.1 (Capture.not_near far))).trans (if_neg (Nat.not_lt.2 full))))
  by_cases noted : (s.capture_ i).overflow = true
  · rw [if_pos noted] at run
    obtain ⟨t, given, frame, self, others⟩ := gives_setCapture run
    exact ⟨t, given, frame ▸ Same.refl t, self, others, fun _ => frame, fun no => absurd noted (by simp [no])⟩
  · rw [if_neg noted] at run
    have same := raiseEv_same (0x110 + i) (leBytes 4 (s.capture_ i).overflowed.ovf)
      (s.setCapture i (s.capture_ i).overflowed)
    have self := (same.capture i).trans (State.capture_setCapture_self s i _)
    refine ⟨_, run, same.caps ▸ same, self,
      fun k hk => (same.capture k).trans (State.capture_setCapture_other s hk _), fun yes => absurd yes noted,
      fun _ => ⟨s.setCapture i (s.capture_ i).overflowed, rfl, rfl, rfl, ?_⟩⟩
    exact congrArg (fun x : Capture => raiseEv (0x110 + i) (leBytes 4 x.ovf) (s.setCapture i (s.capture_ i).overflowed))
      self.symm

end

/-! ### TIME_CAP_NS_READ -/

section
variable {i : Nat} {s : State}

theorem readCapture_empty (h : (s.capture_ i).fifo = []) :
    readCapture i s = { s with out := ⟨0xFFFFFFFF, 0, leBytes 4 0xFFFFFFFF⟩ } := by
  unfold readCapture
  dsimp only
  rw [h]

theorem readCapture_pops {e : Instant × Bool} {rest : List (Instant × Bool)} (h : (s.capture_ i).fifo = e :: rest) :
    readCapture i s = { s.setCapture i { s.capture_ i with fifo := rest, latched := some e } with
      out := ⟨e.1 / 65536 % 1000000000, 0, leBytes 4 (e.1 / 65536 % 1000000000)⟩ } := by
  unfold readCapture
  dsimp only
  rw [h]

variable (hi : i < 8) (hv : s.power.vaux = true)
include hi hv

theorem timeCapNsRead_eq : exec (.timeCapNsRead i) s = .next (readCapture i s) :=
  congrArg Host.Outcome.next (if_pos ⟨hi, hv⟩)

theorem timeCapNsRead_empty (h : (s.capture_ i).fifo = []) : Gives (.timeCapNsRead i) s fun t =>
    t = { s with out := t.out } ∧ t.out.data = 0xFFFFFFFF :=
  ⟨_, (timeCapNsRead_eq hi hv).trans (congrArg Host.Outcome.next (readCapture_empty h)), rfl, rfl⟩

theorem timeCapNsRead_pops {e : Instant × Bool} {rest : List (Instant × Bool)} (h : (s.capture_ i).fifo = e :: rest) :
    Gives (.timeCapNsRead i) s fun t =>
      t = { s with caps := t.caps, out := t.out } ∧ t.out.data = e.1 / 65536 % 1000000000
        ∧ t.capture_ i = { s.capture_ i with fifo := rest, latched := some e }
        ∧ ∀ k, k ≠ i → t.capture_ k = s.capture_ k :=
  ⟨_, (timeCapNsRead_eq hi hv).trans (congrArg Host.Outcome.next (readCapture_pops h)), rfl, rfl,
    State.capture_setCapture_self s i _, fun _ hk => State.capture_setCapture_other s hk _⟩

end

end Sys2Proof.Machine
end

section
open Sys2Proof Sys2Proof.Machine

/-- Settles O31: an edge by whether its input heeds it, its distance from the last recorded one and the room of the FIFO. -/
theorem captures : Obligations.Captures :=
  ⟨fun _ _ _ _ hi hv hr => ⟨tsInEdge_unheeded, fun _ hc => tsInEdge_misses hi hv hr hc,
      fun hc far => ⟨tsInEdge_records hi hv hr hc far, tsInEdge_overflows hi hv hr hc far⟩⟩,
    fun _ _ hi hv => ⟨timeCapNsRead_empty hi hv, fun _ _ => timeCapNsRead_pops hi hv⟩⟩

end


/-! SUPPORT. Beacons (R252, R253): ARM and its refusals, STOP, the snapshot in force and the edges of the pulses. -/
section
namespace Sys2Proof.Machine

theorem Same.beacons {s t : State} (h : Same s t) : t.beacons = s.beacons := (congrArg State.beacons h.1 :)

theorem Same.beacon {s t : State} (h : Same s t) (j : Nat) : t.beacon j = s.beacon j := by
  rw [State.beacon, h.beacons, ← State.beacon]

theorem State.beacon_setBeacon_self (s : State) (j : Nat) (b : Beacon) : (s.setBeacon j b).beacon j = b :=
  (State.beacon_setBeacon s j b j).trans (if_pos rfl)

/-- A change of one beacon without an event. -/
theorem gives_setBeacon {c : Instr} {j : Nat} {b : Beacon} {s : State} (run : exec c s = .next (s.setBeacon j b)) :
    Gives c s fun t => t = { s with beacons := t.beacons } ∧ t.beacon j = b ∧ ∀ k, k ≠ j → t.beacon k = s.beacon k :=
  ⟨_, run, rfl, State.beacon_setBeacon_self s j b, fun k hk => (State.beacon_setBeacon s j b k).trans (if_neg hk)⟩

/-- A ONE_SHOT beacon that starts too soon changes no other part of the engine. -/
theorem beaconLate_same (j : Nat) (s : State) : Same { s with beacons := (beaconLate j s).beacons } (beaconLate j s) := by
  have same := raiseEv_same (0x118 + j) [] (s.setBeacon j { s.beacon j with
    late := true, state := 0, next := none, fall := none, snapshot := none })
  rw [beaconLate, same.beacons]
  exact same

theorem beaconLate_beacon (j : Nat) (s : State) : (beaconLate j s).beacon j =
    { s.beacon j with late := true, state := 0, next := none, fall := none, snapshot := none } :=
  ((raiseEv_same (0x118 + j) [] _).beacon j).trans (State.beacon_setBeacon_self s j _)

/-! ### ARM and STOP -/

section
variable {j : Nat} {s : State} (hj : j < 8) (hv : s.power.vaux = true)
include hj hv

theorem beaconStop_stops : Gives (.beaconStop j) s fun t =>
    t = { s with beacons := t.beacons } ∧ t.beacon j = { s.beacon j with stopping := true }
      ∧ ∀ k, k ≠ j → t.beacon k = s.beacon k :=
  gives_setBeacon (congrArg Host.Outcome.next (if_pos ⟨hj, hv⟩))

variable (w : Writer)

theorem beaconArm_eq : exec (.beaconArm w j) s = .next (armBeacon w j s) :=
  congrArg Host.Outcome.next (if_pos ⟨hj, hv⟩)

theorem beaconArm_rejects (h : (s.beaconShadow j).ok = false) : Gives (.beaconArm w j) s fun t =>
    Same { s with reject := insertNum 0x30000C s.reject } t :=
  ⟨_, (beaconArm_eq hj hv w).trans (congrArg Host.Outcome.next (if_pos (by simp [h]))), rejectWrite_same _ _ _ s⟩

variable (h : (s.beaconShadow j).ok = true)
include h

theorem beaconArm_accepted : exec (.beaconArm w j) s = .next (
    if (s.beaconShadow j).mode = 1 ∧ (s.beaconShadow j).start < s.now + beaconLead then beaconLate j s
    else s.setBeacon j { s.beacon j with
      snapshot := some (s.beaconShadow j, s.now), snapAt := s.time.elapsed, stopping := false }) :=
  (beaconArm_eq hj hv w).trans (congrArg Host.Outcome.next (if_neg (by simp [h])))

theorem beaconArm_late (oneShot : (s.beaconShadow j).mode = 1)
    (soon : (s.beaconShadow j).start < s.now + 2000 * 65536) : Gives (.beaconArm w j) s fun t =>
      Same { s with beacons := t.beacons } t
        ∧ t.beacon j = { s.beacon j with late := true, state := 0, next := none, fall := none, snapshot := none } :=
  ⟨_, (beaconArm_accepted hj hv w h).trans (congrArg Host.Outcome.next (if_pos ⟨oneShot, soon⟩)),
    beaconLate_same j s, beaconLate_beacon j s⟩

theorem beaconArm_arms (inTime : (s.beaconShadow j).mode ≠ 1 ∨ s.now + 2000 * 65536 ≤ (s.beaconShadow j).start) :
    Gives (.beaconArm w j) s fun t =>
      t = { s with beacons := t.beacons }
        ∧ t.beacon j = { s.beacon j with
            snapshot := some (s.beaconShadow j, s.now), snapAt := s.time.elapsed, stopping := false }
        ∧ ∀ k, k ≠ j → t.beacon k = s.beacon k := by
  refine gives_setBeacon ((beaconArm_accepted hj hv w h).trans (congrArg Host.Outcome.next (if_neg ?_)))
  rintro ⟨oneShot, soon⟩
  exact inTime.elim (fun other => other oneShot) fun late => Nat.not_lt.2 late soon

end

/-! ### The snapshot in force -/

/-- No pulse delays the settings of a beacon whose output is inactive. -/
theorem applyBeacon_idle {j : Nat} {c : BeaconCfg} {at_ : Instant} {s : State}
    (hs : (s.beacon j).snapshot = some (c, at_)) (hf : (s.beacon j).fall = none) :
    applyBeacon j s = s.setBeacon j { s.beacon j with
      active := c, snapshot := none, realign := false, state := if c.mode = 0 then 0 else 1
      next := if c.mode = 0 then none else if c.mode = 1 then some c.start
        else some (gridPoint c.start c.period (at_ + 2000 * 65536)) } := by
  unfold applyBeacon
  dsimp only
  rw [hs]
  simp [hf, beaconLead]

theorem shadowCommitApply_beacon {j : Nat} {c : BeaconCfg} {at_ : Instant} {s : State} (hj : j < 8)
    (ht : s.atTransit = true) (hs : (s.beacon j).snapshot = some (c, at_)) (ha : (s.beacon j).snapAt < s.time.elapsed)
    (hf : (s.beacon j).fall = none) : Gives (.shadowCommitApply (.beacon j)) s fun t =>
      t = { s with beacons := t.beacons }
        ∧ t.beacon j = { s.beacon j with
            active := c, snapshot := none, realign := false, state := if c.mode = 0 then 0 else 1
            next := if c.mode = 0 then none else if c.mode = 1 then some c.start
              else some (gridPoint c.start c.period (at_ + 2000 * 65536)) }
        ∧ ∀ k, k ≠ j → t.beacon k = s.beacon k :=
  gives_setBeacon (congrArg Host.Outcome.next ((if_pos ⟨hj, ht, ha⟩).trans (applyBeacon_idle hs hf)))

/-! ### Pulses -/

section
variable {j : Nat} {at_ : Instant} {s : State} (hj : j < 8) (hr : s.time.running = true) (ht : at_ < s.nextBoundary)
include hj hr ht

theorem beaconEdge_rises (hf : (s.beacon j).fall = none) (hn : (s.beacon j).next = some at_) :
    Gives (.beaconEdge j) s fun t =>
      t = { s with beacons := t.beacons }
        ∧ t.beacon j = { s.beacon j with
            state := 2, fall := some (at_ + (s.beacon j).active.width * 65536)
            next := if (s.beacon j).active.mode = 2 then some (at_ + (s.beacon j).active.period * 65536) else none
            realigned := (s.beacon j).realigned || (s.beacon j).realign, realign := false }
        ∧ (t.beacon j).level = !(s.beacon j).active.polarity := by
  have run : exec (.beaconEdge j) s = .next (riseBeacon j at_ s) := by
    refine congrArg Host.Outcome.next ((if_neg (by simp [hj, hr])).trans ?_)
    rw [hf, hn]
    exact if_pos ht
  obtain ⟨t, given, frame, self, -⟩ := gives_setBeacon run
  exact ⟨t, given, frame, self, self ▸ rfl⟩

theorem beaconEdge_falls (hf : (s.beacon j).fall = some at_) : Gives (.beaconEdge j) s fun t =>
    t = { s with beacons := t.beacons }
      ∧ t.beacon j = { s.beacon j with
          fall := none, state := if (s.beacon j).next.isNone then 0 else (s.beacon j).state }
      ∧ (t.beacon j).level = (s.beacon j).active.polarity := by
  have run : exec (.beaconEdge j) s = .next (s.setBeacon j { s.beacon j with
      fall := none, state := if (s.beacon j).next.isNone then 0 else (s.beacon j).state }) := by
    refine congrArg Host.Outcome.next ((if_neg (by simp [hj, hr])).trans ?_)
    rw [hf]
    exact if_pos ht
  obtain ⟨t, given, frame, self, -⟩ := gives_setBeacon run
  exact ⟨t, given, frame, self, self ▸ rfl⟩

end

end Sys2Proof.Machine
end

section
open Sys2Proof Sys2Proof.Machine

/-- Settles O32: ARM by the limits of its settings and the lead of their start, and each edge by what the beacon awaits. -/
theorem beacons : Obligations.Beacons :=
  ⟨fun w _ _ hj hv => ⟨beaconArm_rejects hj hv w, beaconArm_late hj hv w, beaconArm_arms hj hv w⟩,
    fun _ _ => beaconStop_stops, fun _ _ _ _ => shadowCommitApply_beacon,
    fun _ _ _ hj hr ht => ⟨beaconEdge_rises hj hr ht, beaconEdge_falls hj hr ht⟩⟩

end


/-! SUPPORT. The event capture (R437): once started, it stays so through events and records. -/
section
namespace Sys2Proof.Machine

/-- The engine captures events. -/
def State.capturing (s : State) : Prop := s.events.started = true

/-- `t` is `s` but for events and records, and captures events where `s` does. -/
structure Told (s t : State) : Prop where
  same : Same s t
  capturing : s.capturing → t.capturing

section
variable {s t : State}

theorem State.capturing.upd (h : s.capturing) (e : t.events.started = s.events.started := by rfl) : t.capturing :=
  e.trans h

theorem State.capturing_ite {c : Prop} [Decidable c] (hs : s.capturing) (ht : t.capturing) :
    (if c then s else t).capturing := by
  split
  · exact hs
  · exact ht

/-! ### Events -/

theorem takeRecord_capturing (k q : Nat) (r : ERec) (h : s.capturing) : (takeRecord k q r s).capturing := by
  have linked (v : EvQueue) : (ringLink q (noteDelivered r.seq (s.setQueue q v))).capturing := by
    unfold ringLink
    exact State.capturing_ite h.upd h.upd
  exact State.capturing_ite (linked _).upd (linked _)

theorem raiseDepth_capturing (n src : Nat) (at_ : Instant) (fl : Nat) (p : List Byte) (h : s.capturing) :
    (raiseDepth n src at_ fl p s).capturing := by
  induction n generalizing src at_ fl p s with
  | zero => exact h
  | succ n ih =>
    unfold raiseDepth
    extract_lets _ k seq r s0 _ s1 s2 s3 _ _ s4
    have hs0 : s0.capturing := State.capturing_ite h h.upd
    have hs1 : s1.capturing := hs0.upd
    have hs2 : s2.capturing := State.capturing_ite hs1.upd hs1
    have hs3 : s3.capturing := hs2.upd
    have hs4 : s4.capturing := hs3.upd
    exact State.capturing_ite h (State.capturing_ite h
      (State.capturing_ite (takeRecord_capturing _ _ _ hs3) (State.capturing_ite (ih _ _ _ _ hs4) hs4)))

theorem raiseEv_capturing (src : Nat) (p : List Byte) (h : s.capturing) : (raiseEv src p s).capturing :=
  raiseDepth_capturing 3 src s.now 0 p h

theorem wakeForge_capturing (h : s.capturing) : (wakeForge s).capturing := State.capturing_ite h.upd h.upd

/-! ### Audit records -/

theorem ringPut_capturing (r : ARec) (h : s.capturing) : (ringPut r s).capturing :=
  State.capturing_ite h (State.capturing_ite h.upd h.upd)

theorem moveRecords_capturing (n : Nat) (h : s.capturing) : (moveRecords n s).capturing := by
  induction n generalizing s with
  | zero => exact h
  | succ n ih =>
    unfold moveRecords
    split
    · exact h
    · exact State.capturing_ite (ih (ringPut_capturing _ (State.capturing_ite h.upd h.upd))) h

theorem placeSigned_capturing (r : ARec) (s : State) (h : s.capturing) : (placeSigned r s).capturing :=
  State.capturing_ite (ringPut_capturing r h) h.upd

theorem writeCheckpoint_capturing (recs : List ARec) (n seq : Nat) (p : Bool) (h : s.capturing) :
    (writeCheckpoint recs n seq p s).capturing := by
  unfold writeCheckpoint
  extract_lets _ _ _ _ _ _ _ s1
  have hs1 : s1.capturing := forEach_invariant placeSigned State.capturing placeSigned_capturing _ s h
  exact forEach_invariant _ State.capturing (fun _ _ => raiseEv_capturing _ _) _ _ hs1.upd

theorem closeBlock_capturing (h : s.capturing) : (closeBlock s).capturing := by
  unfold closeBlock
  split
  · exact h
  · exact State.capturing_ite (writeCheckpoint_capturing _ _ _ _ h) (writeCheckpoint_capturing _ _ _ _ h)

theorem closeBlocks_capturing (n : Nat) (h : s.capturing) : (closeBlocks n s).capturing := by
  induction n generalizing s with
  | zero => exact h
  | succ n ih => exact ih (closeBlock_capturing h)

theorem closeEpoch_capturing (h : s.capturing) : (closeEpoch s).capturing := by
  unfold closeEpoch
  extract_lets s1 s2 s3
  have hs1 : s1.capturing := moveRecords_capturing _ h
  have hs3 : s3.capturing := closeBlocks_capturing _ hs1.upd
  exact hs3.upd

theorem buildRecord_capturing (b : ABody) (h : s.capturing) : (buildRecord b s).capturing :=
  State.capturing_ite (wakeForge_capturing h.upd) h.upd

theorem gapIfDue_capturing (h : s.capturing) : (gapIfDue s).capturing :=
  State.capturing_ite h (State.capturing_ite (raiseEv_capturing _ _ (buildRecord_capturing _ h.upd))
    (State.capturing_ite h (raiseEv_capturing _ _ (buildRecord_capturing _ h.upd))))

theorem turnEpoch_capturing (h : s.capturing) : (turnEpoch s).capturing :=
  State.capturing_ite (buildRecord_capturing _ (closeEpoch_capturing h).upd) h

theorem audit_capturing (ty : Nat) (p : List Byte) (h : s.capturing) : (audit ty p s).capturing := by
  have ready := gapIfDue_capturing (turnEpoch_capturing h)
  exact State.capturing_ite (State.capturing_ite h.upd h.upd)
    (State.capturing_ite h.upd (State.capturing_ite (buildRecord_capturing _ ready) ready.upd))

/-! ### What is told -/

theorem Told.refl (s : State) : Told s s := ⟨.refl s, id⟩

theorem Told.trans {u : State} (h : Told s t) (k : Told t u) : Told s u :=
  ⟨h.same.trans k.same, fun c => k.capturing (h.capturing c)⟩

theorem raiseEv_told (src : Nat) (p : List Byte) (s : State) : Told s (raiseEv src p s) :=
  ⟨raiseEv_same src p s, raiseEv_capturing src p⟩

theorem audit_told (ty : Nat) (p : List Byte) (s : State) : Told s (audit ty p s) :=
  ⟨audit_same ty p s, audit_capturing ty p⟩

end

end Sys2Proof.Machine
end


/-! SUPPORT. The servo (R228 to R232, R238): which part of the clock each of its operations steers, and what an offset, the
loss of a reference and the leap second make of the clock. -/
section
namespace Sys2Proof.Machine

/-! ### Views of the clock -/

/-- What a quality falls to when the servo unlocks. -/
def Quality.unlocked : Quality → Quality
  | .locked => .holdover
  | q => q

theorem Quality.unlocked_eq (q : Quality) : q.unlocked = if q = .locked then .holdover else q := by
  cases q <;> rfl

@[simp] theorem Quality.unlocked_unlocked (q : Quality) : q.unlocked.unlocked = q.unlocked := by
  cases q <;> rfl

/-- The clock without its frequency settings. -/
def TimeSt.untuned (c : TimeSt) : TimeSt :=
  { c with
    freqNext := 0, freqF := 0, integ := 0, holdFreq := 0, recentF := [], atLimit := false, atLimitRaised := false }

/-- The clock without these and as if unlocked. -/
def TimeSt.unlocked (c : TimeSt) : TimeSt :=
  { c with
    freqNext := 0, freqF := 0, integ := 0, holdFreq := 0, recentF := [], atLimit := false, atLimitRaised := false
    goodRun := 0, badRun := 0, locked := false, quality := c.quality.unlocked }

/-- The clock without what an offset may change of its frequency, its lock and its quality. -/
def TimeSt.unsteered (c : TimeSt) : TimeSt :=
  { c with
    freqNext := 0, freqF := 0, integ := 0, holdFreq := 0, recentF := [], atLimit := false, atLimitRaised := false
    goodRun := 0, badRun := 0, locked := false, everLocked := false, quality := .freerun }

/-- The clock without that and without what an offset may change of its reference and of a waiting step. -/
def TimeSt.unoffered (c : TimeSt) : TimeSt :=
  { c with
    freqNext := 0, freqF := 0, integ := 0, holdFreq := 0, recentF := [], atLimit := false, atLimitRaised := false
    goodRun := 0, badRun := 0, locked := false, everLocked := false, quality := .freerun
    ref := 0, noDt := true, discardNext := false, lastUsed := 0
    req := none, reqAt := 0, deferred := false, forced := false }

/-- The clock as if unlocked, without its reference and without what an Announce says of UTC. -/
def TimeSt.counter (c : TimeSt) : TimeSt :=
  { c with
    freqNext := 0, freqF := 0, integ := 0, holdFreq := 0, recentF := [], atLimit := false, atLimitRaised := false
    goodRun := 0, badRun := 0, locked := false, quality := c.quality.unlocked
    refPresent := false, noDt := true, clkActive := 0
    utcOffset := 0, utcValid := false, leap61 := false, leap59 := false }

theorem TimeSt.unlocked_untuned (c : TimeSt) : c.untuned.unlocked = c.unlocked := rfl

theorem TimeSt.unsteered_untuned (c : TimeSt) : c.untuned.unsteered = c.unsteered := rfl

theorem TimeSt.unsteered_unlocked (c : TimeSt) : c.unlocked.unsteered = c.unsteered := rfl

theorem TimeSt.unoffered_unsteered (c : TimeSt) : c.unsteered.unoffered = c.unoffered := rfl

theorem TimeSt.counter_untuned (c : TimeSt) : c.untuned.counter = c.counter := rfl

theorem TimeSt.counter_unlocked (c : TimeSt) : c.unlocked.counter = c.counter := by
  simp only [counter, unlocked, Quality.unlocked_unlocked]

theorem State.now_of_count {s t : State} (h : t.time.count = s.time.count) : t.now = s.now := by
  rw [now, now, h]

/-! ### Changes of the clock alone -/

/-- `t` is `s` but for events and records and for the clock, of which the view `f` stays. -/
structure Steers (f : TimeSt → TimeSt) (s t : State) : Prop where
  told : Told { s with time := t.time } t
  clock : f t.time = f s.time

section
variable {f g : TimeSt → TimeSt} {s t u : State}

theorem Told.setTime (h : Told s t) (c : TimeSt) : Told { s with time := c } { t with time := c } :=
  ⟨⟨congrArg (fun b : State => { b with time := c }) h.same.1, h.same.2⟩, h.capturing⟩

theorem Steers.same (h : Steers f s t) : Same { s with time := t.time } t := h.told.same

theorem Steers.refl (s : State) : Steers f s s := ⟨.refl s, rfl⟩

theorem Steers.trans (h : Steers f s t) (k : Steers f t u) : Steers f s u :=
  ⟨(h.told.setTime u.time).trans k.told, k.clock.trans h.clock⟩

theorem Steers.set {c : TimeSt} (h : f c = f s.time := by rfl) : Steers f s { s with time := c } := ⟨.refl _, h⟩

theorem Steers.after {c : TimeSt} (h : Steers f { s with time := c } t) (k : f c = f s.time := by rfl) : Steers f s t :=
  (Steers.set k).trans h

/-- A coarser view stays where a finer one does. -/
theorem Steers.coarsen (h : Steers f s t) (fine : ∀ c, g (f c) = g c) : Steers g s t :=
  ⟨h.told, by rw [← fine t.time, ← fine s.time, h.clock]⟩

theorem Steers.ite {p : Prop} [Decidable p] (ht : Steers f s t) (hu : Steers f s u) :
    Steers f s (if p then t else u) := by
  split
  · exact ht
  · exact hu

theorem Same.time (h : Same s t) : t.time = s.time := (congrArg State.time h.1 :)

theorem Steers.of_told (h : Told s t) : Steers f s t := by
  refine ⟨?_, congrArg f h.same.time⟩
  rw [h.same.time]
  exact h

theorem Steers.raise (h : Steers f s t) (src : Nat) (p : List Byte) : Steers f s (raiseEv src p t) :=
  h.trans (.of_told (raiseEv_told src p t))

theorem Steers.audit (h : Steers f s t) (ty : Nat) (p : List Byte) : Steers f s (audit ty p t) :=
  h.trans (.of_told (audit_told ty p t))

theorem Steers.regs (h : Steers f s t) : t.regs = s.regs := (congrArg State.regs h.same.1 :)

theorem Steers.over (h : Steers f s t) (o : Int) (reg : Nat) : t.over o reg = s.over o reg := by
  rw [State.over, State.reg, h.regs]
  rfl

end

/-! ### Quality and lock (R231, R232, R238) -/

theorem qualityChange_time (new : Quality) (cause : Nat) (s : State) :
    (qualityChange new cause s).time = { s.time with quality := new } := by
  unfold qualityChange
  simp only [audit_time, raiseEv_time]

theorem qualityChange_steers {f : TimeSt → TimeSt} {new : Quality}
    (cause : Nat) (s : State) (h : f { s.time with quality := new } = f s.time := by rfl) : Steers f s (qualityChange new cause s) :=
  ((Steers.set h).raise _ _).audit _ _

theorem qualityNote_told (cause : Nat) (s : State) : Told s (qualityNote cause s) := audit_told _ _ s

theorem unlock_time (cause : Nat) (s : State) : (unlock cause s).time =
    { s.time with
      locked := false, goodRun := 0, badRun := 0
      quality := if s.time.quality = .locked then .holdover else s.time.quality } := by
  unfold unlock
  split
  · rw [qualityChange_time]
  · rfl

theorem unlock_steers (cause : Nat) (s : State) : Steers TimeSt.unlocked s (unlock cause s) := by
  refine ⟨?_, ?_⟩
  · unfold unlock
    extract_lets _ s1
    have falls : Steers (fun _ => ({} : TimeSt)) s s1 := .set
    exact (Steers.ite (falls.trans (qualityChange_steers cause _)) falls).told
  · rw [unlock_time, ← Quality.unlocked_eq]
    simp only [TimeSt.unlocked, Quality.unlocked_unlocked]

/-! ### Frequency (R228, R230) -/

theorem setFreq_steers (f : Int) (lim : Bool) (s : State) :
    Steers TimeSt.untuned s { s with time := { s.time with freqNext := f, atLimit := lim } } := .set

theorem setRaised_steers (s : State) :
    Steers TimeSt.untuned s { s with time := { s.time with atLimitRaised := true } } := .set

theorem retune_steers (s : State) : Steers TimeSt.untuned s (retune s) :=
  .ite (((setFreq_steers _ _ s).trans (setRaised_steers _)).raise _ _) (setFreq_steers _ _ s)

theorem freqToHold_steers (s : State) : Steers TimeSt.untuned s (freqToHold s) := (retune_steers _).after

theorem servoLaw_steers (o : Int) (dt : Nat) (s : State) : Steers TimeSt.untuned s (servoLaw o dt s) :=
  (retune_steers _).after

theorem holdMean_steers (s : State) : Steers TimeSt.untuned s (holdMean s) := .ite .set (.refl s)

/-! ### The loss of a reference (R232) -/

theorem Steers.keeps_lock {s t : State} (h : Steers TimeSt.untuned s t) :
    t.time.refPresent = s.time.refPresent ∧ t.time.locked = s.time.locked ∧ t.time.quality = s.time.quality :=
  ⟨(congrArg TimeSt.refPresent h.clock :), (congrArg TimeSt.locked h.clock :), (congrArg TimeSt.quality h.clock :)⟩

theorem loseRef_lock (s : State) : (loseRef s).time.refPresent = false ∧ (loseRef s).time.locked = false
    ∧ (loseRef s).time.quality = (if s.time.quality = .locked then .holdover else s.time.quality) := by
  obtain ⟨refPresent, locked, quality⟩ := (freqToHold_steers (unlock 3 { s with time := { s.time with
    refPresent := false, goodRun := 0, badRun := 0 } })).keeps_lock
  rw [unlock_time] at refPresent locked quality
  exact ⟨refPresent, locked, quality⟩

theorem loseRef_steers (s : State) : Steers TimeSt.counter s (loseRef s) :=
  ((unlock_steers 3 _).coarsen TimeSt.counter_unlocked).after.trans
    ((freqToHold_steers _).coarsen TimeSt.counter_untuned)

theorem servoChanged_steers (old : Nat) (s : State) : Steers TimeSt.counter s (servoChanged old s) := by
  have tunes (u : State) : Steers TimeSt.counter u (retune u) := (retune_steers u).coarsen TimeSt.counter_untuned
  unfold servoChanged
  extract_lets c started src _ s1 _ s2
  have first : Steers TimeSt.counter s s1 := .ite .set (.ite .set (.refl s))
  have second : Steers TimeSt.counter s s2 := .ite first (first.trans .set)
  exact .ite (.ite (second.trans (loseRef_steers s2)) (second.trans (tunes s2))) (second.trans (tunes s2))

/-! ### Offsets (R229 to R231) -/

theorem setRuns_steers (good bad : Nat) (s : State) :
    Steers TimeSt.unsteered s { s with time := { s.time with goodRun := good, badRun := bad } } := .set

theorem setLocked_steers (s : State) : Steers TimeSt.unsteered s { s with time := { s.time with
    locked := true, everLocked := true, badRun := 0, atLimitRaised := false } } := .set

theorem lock_steers (s : State) : Steers TimeSt.unsteered s (qualityChange .locked 0 s) := qualityChange_steers 0 s

theorem unlock_unsteered (cause : Nat) (s : State) : Steers TimeSt.unsteered s (unlock cause s) :=
  (unlock_steers cause s).coarsen TimeSt.unsteered_unlocked

theorem countLock_steers (o : Int) (s : State) : Steers TimeSt.unsteered s (countLock o s) :=
  have counts := setRuns_steers (if s.over o 0x300044 then 0 else s.time.goodRun + 1)
    (if s.over o 0x300048 then s.time.badRun + 1 else 0) s
  .ite ((counts.trans (setLocked_steers _)).trans (lock_steers _))
    (.ite (counts.trans (unlock_unsteered 1 _)) counts)

theorem newRef_told (src : Nat) (s : State) :
    ∃ r n, Told { s with time := { s.time with ref := r, noDt := n } } (newRef src s) := by
  unfold newRef
  split
  · exact ⟨s.time.ref, s.time.noDt, .refl s⟩
  · exact ⟨src, true, qualityNote_told 4 _⟩

theorem Steers.req {s t : State} (h : Steers TimeSt.unsteered s t) : t.time.req = s.time.req :=
  (congrArg TimeSt.req h.clock :)

/-- The fall to the holdover frequency after an offset that is too large. -/
theorem unlock_freqToHold_steers (s : State) : Steers TimeSt.unsteered s (freqToHold (unlock 2 s)) :=
  (unlock_unsteered 2 s).trans ((freqToHold_steers _).coarsen TimeSt.unsteered_untuned)

theorem unlock_freqToHold_locked (s : State) : (freqToHold (unlock 2 s)).time.locked = false := by
  obtain ⟨-, locked, -⟩ := (freqToHold_steers (unlock 2 s)).keeps_lock
  rw [locked, unlock_time]

theorem requestStep_steers (o : Int) (s : State) : Steers TimeSt.unoffered s (requestStep o s) :=
  ((unlock_freqToHold_steers _).coarsen TimeSt.unoffered_unsteered).after

theorem requestStep_req (o : Int) (s : State) : (requestStep o s).time.req = some (.step o) :=
  (unlock_freqToHold_steers _).req

/-- What becomes of the clock of `s` when the servo takes an offset of `o`. -/
structure Takes (o : Int) (s t : State) : Prop where
  steers : Steers TimeSt.unoffered s t
  asks : s.time.discardNext = false → s.over o 0x300040 = true → s.time.req = none →
    t.time.req = some (.step o) ∧ t.time.locked = false
  stays : s.over o 0x300040 = false → s.time.req = none → t.time.req = none

section
variable {o : Int} {s : State}

/-- A step that waits takes the newest offset. -/
theorem redirected_takes {r : Int} (h : s.time.req = some (.step r)) :
    Takes o s { s with time := { s.time with req := some (.step o) } } :=
  ⟨.set, fun _ _ idle => absurd (h.symm.trans idle) (Option.some_ne_none _),
    fun _ idle => absurd (h.symm.trans idle) (Option.some_ne_none _)⟩

/-- The first offset after a step or load is discarded. -/
theorem discarded_takes {n : Bool} {l : Nat} (h : s.time.discardNext = true) :
    Takes o s { s with time := { s.time with discardNext := false, noDt := n, lastUsed := l } } :=
  ⟨.set, fun keep => absurd h (Bool.eq_false_iff.1 keep), fun _ => id⟩

/-- A large offset asks for a step. -/
theorem requestStep_takes (h : s.over o 0x300040 = true) : Takes o s (requestStep o s) :=
  ⟨requestStep_steers o s, fun _ _ _ => ⟨requestStep_req o s, unlock_freqToHold_locked _⟩,
    fun small => absurd h (Bool.eq_false_iff.1 small)⟩

/-- A large offset leaves a load that waits. -/
theorem unlock_takes {r : TimeReq} (h : s.over o 0x300040 = true) (hr : s.time.req = some r) :
    Takes o s (freqToHold (unlock 2 s)) :=
  ⟨(unlock_freqToHold_steers s).coarsen TimeSt.unoffered_unsteered,
    fun _ _ idle => absurd (hr.symm.trans idle) (Option.some_ne_none _), fun small => absurd h (Bool.eq_false_iff.1 small)⟩

/-- An offset within the step threshold is used: a request that waits stays. -/
theorem used_takes {t : State} {c : TimeSt} (h : Steers TimeSt.unsteered { s with time := c } t)
    (small : s.over o 0x300040 = false) (hc : c.unoffered = s.time.unoffered := by rfl)
    (req : c.req = s.time.req := by rfl) : Takes o s t :=
  ⟨(h.coarsen TimeSt.unoffered_unsteered).after hc, fun _ large => absurd large (Bool.eq_false_iff.1 small),
    fun _ idle => h.req.trans (req.trans idle)⟩

/-- The clock with a reference that gave an offset of `o`. -/
def TimeSt.offered (c : TimeSt) (o : Int) : TimeSt := { c with refPresent := true, offsetLast := satNs o }

theorem takeOffset_other {src : Nat} (h : s.wantedRef ≠ src) : takeOffset src o s = s := if_pos h

theorem Takes.keeps {t : State} (h : Takes o s t) : t.now = s.now ∧ t.time.elapsed = s.time.elapsed
    ∧ t.time.ppsLast = s.time.ppsLast ∧ t.time.refPresent = s.time.refPresent
    ∧ t.time.offsetLast = s.time.offsetLast := by
  have clock := h.steers.clock
  exact ⟨State.now_of_count (congrArg TimeSt.count clock :), (congrArg TimeSt.elapsed clock :),
    (congrArg TimeSt.ppsLast clock :), (congrArg TimeSt.refPresent clock :), (congrArg TimeSt.offsetLast clock :)⟩

theorem Takes.after {u t : State} (k : Takes o u t) (h : Steers TimeSt.unoffered s u)
    (discard : u.time.discardNext = s.time.discardNext) (req : u.time.req = s.time.req) : Takes o s t := by
  refine ⟨h.trans k.steers, ?_, ?_⟩
  · rw [← discard, ← h.over, ← req]
    exact k.asks
  · rw [← h.over, ← req]
    exact k.stays

theorem takeOffset_takes {src : Nat} (h : s.wantedRef = src) :
    Takes o { s with time := s.time.offered o } (takeOffset src o s) := by
  obtain ⟨r, n, told⟩ := newRef_told src s
  suffices taken : Takes o { newRef src s with time := (newRef src s).time.offered o } (takeOffset src o s) by
    refine taken.after ⟨told.setTime _, ?_⟩ ?_ ?_
    · exact (congrArg (fun c : TimeSt => (c.offered o).unoffered) told.same.time :)
    · exact (congrArg TimeSt.discardNext told.same.time :)
    · exact (congrArg TimeSt.req told.same.time :)
  · unfold takeOffset
    rw [if_neg (not_not.2 h)]
    extract_lets -underBinder s0 _ u
    change Takes o u _
    clear_value u
    split
    · next waits => exact redirected_takes waits
    · next req _ =>
      split
      · next discard => exact discarded_takes discard
      · split
        · next large =>
          split
          · exact requestStep_takes large
          · next busy =>
            obtain ⟨r, hr⟩ := Option.ne_none_iff_exists'.1 (mt Option.isNone_iff_eq_none.2 busy)
            exact unlock_takes large hr
        · next small =>
          extract_lets dt first _ v
          have used : Steers TimeSt.unsteered v (if first then v else servoLaw o dt v) :=
            .ite (.refl v) ((servoLaw_steers o dt v).coarsen TimeSt.unsteered_untuned)
          exact used_takes (used.trans ((countLock_steers o _).trans
            ((holdMean_steers _).coarsen TimeSt.unsteered_untuned))) (Bool.eq_false_iff.2 small)

end

/-! ### PPS_IN (R232, R244) -/

/-- An edge now comes less than 0.5 s after the last recognised one. -/
def State.ppsEarly (s : State) : Bool :=
  match s.time.ppsLast with
  | none => false
  | some t => decide (s.time.elapsed < t + 500000000 * 65536)

/-- No edge has been recognised for 1.5 s. -/
def State.ppsSilent (s : State) : Bool :=
  match s.time.ppsLast with
  | none => true
  | some t => decide (t + 1500000000 * 65536 ≤ s.time.elapsed)

/-- The offset that an edge with a stamp gives, within half a second of 0. -/
def State.ppsOffset (s : State) (stamp : Instant) : Int :=
  let raw : Int := ((stamp : Int) - bitsInt 32 (s.reg 0x300054) * 65536) % 65536000000000
  if raw < 500000000 * 65536 then raw else raw - 65536000000000

section
variable {s : State}

theorem State.ppsEarly_of_last {u : Nat} (h : s.time.ppsLast = some u) (soon : s.time.elapsed < u + 500000000 * 65536) :
    s.ppsEarly = true := by
  rw [ppsEarly, h]
  exact decide_eq_true soon

theorem State.not_ppsEarly (h : ∀ u, s.time.ppsLast = some u → u + 500000000 * 65536 ≤ s.time.elapsed) :
    s.ppsEarly = false := by
  unfold ppsEarly
  split
  · rfl
  · next u hu => exact decide_eq_false (Nat.not_lt.2 (h u hu))

theorem State.ppsSilent_of_last (h : ∀ u, s.time.ppsLast = some u → u + 1500000000 * 65536 ≤ s.time.elapsed) :
    s.ppsSilent = true := by
  unfold ppsSilent
  split
  · rfl
  · next u hu => exact decide_eq_true (h u hu)

/-- The state in which an edge has been recognised. -/
def State.ppsSeen (s : State) : State := { s with time := { s.time with ppsLast := some s.time.elapsed } }

theorem ppsInEdge_eq (stamp : Instant) (s : State) : exec (.ppsInEdge stamp) s =
    .next (if !s.time.running ∨ s.ppsEarly then s else takeOffset 3 (s.ppsOffset stamp) s.ppsSeen) := rfl

theorem ppsInEdge_early {stamp : Instant} {u : Nat} (h : s.time.ppsLast = some u)
    (soon : s.time.elapsed < u + 500000000 * 65536) : Gives (.ppsInEdge stamp) s fun t => t = s :=
  ⟨_, (ppsInEdge_eq stamp s).trans (congrArg Host.Outcome.next (if_pos (.inr (State.ppsEarly_of_last h soon)))), rfl⟩

variable {stamp : Instant} (hr : s.time.running = true)
  (h : ∀ u, s.time.ppsLast = some u → u + 500000000 * 65536 ≤ s.time.elapsed)
include hr h

theorem ppsInEdge_recognised : exec (.ppsInEdge stamp) s = .next (takeOffset 3 (s.ppsOffset stamp) s.ppsSeen) :=
  (ppsInEdge_eq stamp s).trans (congrArg Host.Outcome.next (if_neg (by simp [hr, State.not_ppsEarly h])))

theorem ppsInEdge_unwanted (hw : s.wantedRef ≠ 3) : Gives (.ppsInEdge stamp) s fun t =>
    t = { s with time := { s.time with ppsLast := some s.time.elapsed } } :=
  ⟨_, ppsInEdge_recognised hr h, takeOffset_other hw⟩

theorem ppsInEdge_offers {raw o : Int}
    (hraw : raw = ((stamp : Int) - bitsInt 32 (s.reg 0x300054) * 65536) % 65536000000000)
    (ho : o = (if raw < 500000000 * 65536 then raw else raw - 65536000000000)) (hw : s.wantedRef = 3) :
    Gives (.ppsInEdge stamp) s fun t =>
      Same { s with time := t.time } t ∧ t.now = s.now ∧ t.time.elapsed = s.time.elapsed
        ∧ t.time.ppsLast = some s.time.elapsed ∧ t.time.refPresent = true ∧ t.time.offsetLast = satNs o
        ∧ (s.time.discardNext = false → s.over o 0x300040 = true → t.time.locked = false ∨ s.time.req ≠ none)
        ∧ (s.time.discardNext = false → s.time.req = none → s.over o 0x300040 = true →
            t.time.req = some (.step o))
        ∧ (s.over o 0x300040 = false → s.time.req = none → t.time.req = none) := by
  have run := ppsInEdge_recognised (stamp := stamp) hr h
  have offset : s.ppsOffset stamp = o := by rw [ho, hraw, State.ppsOffset]
  have takes : Takes o _ (takeOffset 3 o s.ppsSeen) := takeOffset_takes hw
  rw [offset] at run
  obtain ⟨now, elapsed, ppsLast, refPresent, offsetLast⟩ := takes.keeps
  refine ⟨_, run, takes.steers.same, now, elapsed, ppsLast, refPresent, offsetLast, fun keep large => ?_,
    fun keep idle large => (takes.asks keep large idle).1, takes.stays⟩
  exact Classical.or_iff_not_imp_right.2 fun idle => (takes.asks keep large (not_not.1 idle)).2

end

theorem ppsLost_loses {s : State} (hw : s.wantedRef = 3) (hp : s.time.refPresent = true)
    (h : ∀ u, s.time.ppsLast = some u → u + 1500000000 * 65536 ≤ s.time.elapsed) : Gives .ppsLost s fun t =>
      Same { s with time := t.time } t ∧ t.time.refPresent = false ∧ t.time.locked = false
        ∧ t.time.quality = (if s.time.quality = .locked then .holdover else s.time.quality) := by
  have run : exec .ppsLost s = .next (raiseEv 0x109 [] (loseRef s)) :=
    congrArg Host.Outcome.next (if_pos ⟨hw, State.ppsSilent_of_last h, hp⟩)
  refine ⟨_, run, ((loseRef_steers s).raise _ _).same, ?_⟩
  rw [raiseEv_time]
  exact loseRef_lock s

/-! ### REFCLK_IN and the leap second (R227, R245) -/

section
variable {s : State}

theorem refclkLost_loses (h : s.time.clkActive = 1) : Gives .refclkLost s fun t =>
    Same { s with time := { s.time with clkActive := 0 } } t :=
  ⟨_, congrArg Host.Outcome.next (if_pos h), raiseEv_same _ _ _⟩

theorem refclkRestored_restores (hc : field (s.reg 0x300010) 3 2 ≠ 0) (h : s.time.clkActive = 0) :
    Gives .refclkRestored s fun t => Same { s with time := { s.time with clkActive := 1 } } t :=
  ⟨_, congrArg Host.Outcome.next (if_pos ⟨hc, h⟩), raiseEv_same _ _ _⟩

theorem utcOffsetChange_leaps (hl : s.time.leap61 ≠ s.time.leap59) (hd : s.dayEnds = true) :
    Gives .utcOffsetChange s fun t => Same { s with time := { s.time with
      utcOffset := s.time.utcOffset + (if s.time.leap61 then 1 else -1), leap61 := false, leap59 := false } } t :=
  ⟨_, congrArg Host.Outcome.next (if_neg (by simp [hl, hd])), (raiseEv_same _ _ _).trans (qualityNote_told 5 _).same⟩

theorem utcOffsetChange_waits (h : s.time.leap61 = s.time.leap59 ∨ s.dayEnds = false) :
    Gives .utcOffsetChange s fun t => t = s :=
  ⟨_, congrArg Host.Outcome.next (if_pos (h.imp_right fun no => by simp [no])), rfl⟩

end

end Sys2Proof.Machine
end

section
open Sys2Proof Sys2Proof.Machine

/-- Settles O28: an edge by its distance from the last and by what the servo does with its offset, a lost reference by the
fall to HOLDOVER, and a leap second by the end of its day. -/
theorem timeReferences : Obligations.TimeReferences :=
  ⟨fun _ _ hr => ⟨fun _ => ppsInEdge_early, fun h => ⟨ppsInEdge_unwanted hr h, fun _ _ => ppsInEdge_offers hr h⟩⟩,
    fun _ => ppsLost_loses, fun _ => ⟨refclkLost_loses, refclkRestored_restores⟩,
    fun _ => ⟨utcOffsetChange_leaps, utcOffsetChange_waits⟩⟩

end


/-! SUPPORT. PTP ports and the choice between them (R227, R239 to R242): what entering a state and choosing a port change, the
master that a port takes, and what its silence and the link's change make of the port. -/
section
namespace Sys2Proof.Machine

/-! ### One port's engine -/

theorem State.ptpPort_setPtp_self (s : State) (p : Nat) (x : PtpPort) : (s.setPtp p x).ptpPort p = x := by
  unfold ptpPort setPtp
  split
  · rfl
  · rfl

theorem State.ptpPort_setPtp_other {p : Nat} (h : p < 2) (s : State) (x : PtpPort) :
    (s.setPtp p x).ptpPort (1 - p) = s.ptpPort (1 - p) := by
  unfold ptpPort setPtp
  obtain rfl | rfl : p = 0 ∨ p = 1 := by omega
  · rfl
  · rfl

theorem State.setPtp_setPtp (s : State) (p : Nat) (x y : PtpPort) : (s.setPtp p x).setPtp p y = s.setPtp p y := by
  unfold setPtp
  split
  · rfl
  · rfl

theorem Same.ptpPort {s t : State} (h : Same s t) (p : Nat) : t.ptpPort p = s.ptpPort p := by
  have ptp0 : t.ptp0 = s.ptp0 := (congrArg State.ptp0 h.1 :)
  have ptp1 : t.ptp1 = s.ptp1 := (congrArg State.ptp1 h.1 :)
  rw [State.ptpPort, ptp0, ptp1, ← State.ptpPort]

theorem Steers.ptpSel {f : TimeSt → TimeSt} {s t : State} (h : Steers f s t) : t.ptpSel = s.ptpSel :=
  (congrArg State.ptpSel h.same.1 :)

/-! ### Changes of the selection and of the clock -/

/-- `t` is `s` but for the selection, the servo's part of the clock, events and records. -/
structure Selects (s t : State) : Prop where
  told : Told { s with ptpSel := t.ptpSel, time := t.time } t
  clock : t.time.counter = s.time.counter

/-- `t` is `s` but for the ports' engines, the selection, the servo's part of the clock, events and records. -/
structure PtpOnly (s t : State) : Prop where
  told : Told { s with ptp0 := t.ptp0, ptp1 := t.ptp1, ptpSel := t.ptpSel, time := t.time } t
  clock : t.time.counter = s.time.counter

section
variable {s t u : State}

theorem Told.setSelection (h : Told s t) (x : PtpSel) (c : TimeSt) :
    Told { s with ptpSel := x, time := c } { t with ptpSel := x, time := c } :=
  ⟨⟨congrArg (fun b : State => { b with ptpSel := x, time := c }) h.same.1, h.same.2⟩, h.capturing⟩

theorem Told.setPorts (h : Told s t) (x y : PtpPort) (z : PtpSel) (c : TimeSt) :
    Told { s with ptp0 := x, ptp1 := y, ptpSel := z, time := c } { t with ptp0 := x, ptp1 := y, ptpSel := z, time := c } :=
  ⟨⟨congrArg (fun b : State => { b with ptp0 := x, ptp1 := y, ptpSel := z, time := c }) h.same.1, h.same.2⟩, h.capturing⟩

theorem Selects.same (h : Selects s t) : Same { s with ptpSel := t.ptpSel, time := t.time } t := h.told.same

theorem PtpOnly.same (h : PtpOnly s t) :
    Same { s with ptp0 := t.ptp0, ptp1 := t.ptp1, ptpSel := t.ptpSel, time := t.time } t := h.told.same

theorem Selects.of_steers (h : Steers TimeSt.counter s t) : Selects s t := by
  refine ⟨?_, h.clock⟩
  rw [h.ptpSel]
  exact h.told

theorem Selects.of_told (h : Told s t) : Selects s t := .of_steers (.of_told h)

theorem Selects.refl (s : State) : Selects s s := .of_told (.refl s)

theorem Selects.select (s : State) (x : PtpSel) : Selects s { s with ptpSel := x } := ⟨.refl _, rfl⟩

theorem Selects.trans (h : Selects s t) (k : Selects t u) : Selects s u :=
  ⟨(h.told.setSelection _ _).trans k.told, k.clock.trans h.clock⟩

theorem Selects.ite {p : Prop} [Decidable p] (ht : Selects s t) (hu : Selects s u) : Selects s (if p then t else u) := by
  split
  · exact ht
  · exact hu

theorem Selects.ptp0 (h : Selects s t) : t.ptp0 = s.ptp0 := (congrArg State.ptp0 h.same.1 :)

theorem Selects.ptp1 (h : Selects s t) : t.ptp1 = s.ptp1 := (congrArg State.ptp1 h.same.1 :)

theorem Selects.ptpPort (h : Selects s t) (p : Nat) : t.ptpPort p = s.ptpPort p := h.same.ptpPort p

theorem PtpOnly.refl (s : State) : PtpOnly s s := ⟨.refl s, rfl⟩

theorem PtpOnly.trans (h : PtpOnly s t) (k : PtpOnly t u) : PtpOnly s u :=
  ⟨(h.told.setPorts _ _ _ _).trans k.told, k.clock.trans h.clock⟩

theorem PtpOnly.ite {p : Prop} [Decidable p] (ht : PtpOnly s t) (hu : PtpOnly s u) : PtpOnly s (if p then t else u) := by
  split
  · exact ht
  · exact hu

/-- A change of one port's engine, and then of the selection. -/
theorem Selects.ptpOnly {p : Nat} {x : PtpPort} (h : Selects (s.setPtp p x) t) : PtpOnly s t := by
  refine ⟨?_, h.clock⟩
  rw [h.ptp0, h.ptp1]
  exact h.told

theorem PtpOnly.ptpEnabled (h : PtpOnly s t) (p : Nat) : t.ptpEnabled p = s.ptpEnabled p := by
  have objs : t.objs = s.objs := (congrArg State.objs h.same.1 :)
  rw [State.ptpEnabled, State.obj, objs]
  rfl

end

/-! ### The selected port (R227, R241, R242) -/

theorem takeUtc_steers (s : State) : Steers TimeSt.counter s (takeUtc s) := by
  unfold takeUtc
  split
  · exact .refl s
  · split
    · exact .refl s
    · exact .ite (.refl s) (Steers.of_told (qualityNote_told 5 _)).after

theorem takeGm_selects (s : State) : Selects s (takeGm s) := by
  unfold takeGm
  split
  · exact .refl s
  · exact .ite (.refl s) ((Selects.select s _).trans (.of_told (raiseEv_told _ _ _)))

theorem takeGm_ptpSel (s : State) : ∃ gm, (takeGm s).ptpSel = { s.ptpSel with gm := gm } := by
  unfold takeGm
  split
  · exact ⟨_, rfl⟩
  · dsimp only
    split
    · exact ⟨_, rfl⟩
    · exact ⟨_, raiseEv_ptpSel _ _ _⟩

/-- The selected port's grandmaster and UTC part follow it. -/
theorem follow_selects (s : State) : Selects s (takeUtc (takeGm s)) :=
  (takeGm_selects s).trans (.of_steers (takeUtc_steers _))

theorem follow_selected (s : State) : (takeUtc (takeGm s)).ptpSel.selected = s.ptpSel.selected
    ∧ (takeUtc (takeGm s)).ptpSel.better = s.ptpSel.better := by
  obtain ⟨gm, sel⟩ := takeGm_ptpSel s
  rw [(takeUtc_steers _).ptpSel, sel]
  exact ⟨rfl, rfl⟩

theorem takeSelection_selects (new : Option Nat) (s : State) : Selects s (takeSelection new s) := by
  unfold takeSelection
  refine .ite (.select s _) ?_
  extract_lets port st _ s1
  have raised : Selects s s1 := (Selects.select s _).trans (.of_told (raiseEv_told _ _ _))
  exact raised.trans ((follow_selects s1).trans (.of_steers (servoChanged_steers _ _)))

theorem takeSelection_selected (new : Option Nat) (s : State) :
    (takeSelection new s).ptpSel.selected = new ∧ (takeSelection new s).ptpSel.better = none := by
  unfold takeSelection
  split
  · next h => exact ⟨h, rfl⟩
  · extract_lets port st _ s1
    obtain ⟨selected, better⟩ := follow_selected s1
    have raised : s1.ptpSel = { s.ptpSel with selected := new, better := none } := raiseEv_ptpSel _ _ _
    rw [(servoChanged_steers _ _).ptpSel, selected, better, raised]
    exact ⟨rfl, rfl⟩

theorem evalSelection_selects (s : State) : Selects s (evalSelection s) := by
  have follows (x : PtpSel) : Selects s (takeUtc (takeGm { s with ptpSel := x })) :=
    (Selects.select s x).trans (follow_selects _)
  unfold evalSelection
  extract_lets best cand b
  refine .ite (takeSelection_selects best s) (.ite (follows _) ?_)
  split
  · exact .ite (follow_selects s) (follows _)
  · exact follows _

/-- A port that is no candidate is not the best. -/
theorem State.bestPort_ne {s : State} {p : Nat} (hp : p < 2) (h : s.candidate p = false) : s.bestPort ≠ some p := by
  unfold bestPort
  obtain rfl | rfl : p = 0 ∨ p = 1 := by omega
  · rw [h]
    cases s.candidate 1 <;> simp
  · rw [h]
    cases s.candidate 0 <;> simp

/-- A selected port that is a candidate stays selected for now. -/
theorem evalSelection_stays {s : State} {q : Nat} (hs : s.ptpSel.selected = some q) (h : s.candidate q = true) :
    (evalSelection s).ptpSel.selected = some q := by
  unfold evalSelection
  extract_lets best cand b
  have serves : cand = true := by simp only [cand, hs, h]
  rw [if_neg (by simp [serves])]
  split
  · exact (follow_selected _).1.trans hs
  · split
    · split
      · exact (follow_selected _).1.trans hs
      · exact (follow_selected _).1.trans hs
    · exact (follow_selected _).1.trans hs

/-- A port that is no candidate is not selected. -/
theorem evalSelection_deselects {s : State} {p : Nat} (hp : p < 2) (h : s.candidate p = false) :
    (evalSelection s).ptpSel.selected ≠ some p := by
  by_cases serves : ∃ q, s.ptpSel.selected = some q ∧ s.candidate q = true
  · obtain ⟨q, hq, hc⟩ := serves
    rw [evalSelection_stays hq hc]
    rintro ⟨⟩
    exact absurd hc (by simp [h])
  · have anew : evalSelection s = takeSelection s.bestPort s := by
      refine if_pos ?_
      split
      · rfl
      · next q hq => simpa using fun hc => serves ⟨q, hq, hc⟩
    rw [anew, (takeSelection_selected _ s).1]
    exact State.bestPort_ne hp h

theorem ptpSelHoldExpire_selects {p at_ : Nat} {s : State} (hb : s.ptpSel.better = some (p, at_))
    (hp : s.bestPort = some p) (ht : at_ + s.obj 0x3000 4 * 65536000000000 ≤ s.time.elapsed) :
    Gives .ptpSelHoldExpire s fun t =>
      Same { s with ptpSel := t.ptpSel, time := t.time } t
        ∧ t.ptpSel.selected = some p ∧ t.ptpSel.better = none := by
  have run : exec .ptpSelHoldExpire s = .next (takeSelection (some p) s) := by
    refine congrArg Host.Outcome.next ?_
    rw [hb]
    exact if_pos ⟨hp, ht⟩
  exact ⟨_, run, (takeSelection_selects _ s).same, takeSelection_selected _ s⟩

/-! ### Port states (R239, R240) -/

/-- A port's engine as it enters a state. -/
def PtpPort.entered (x : PtpPort) (st : Nat) : PtpPort :=
  let x1 := { x with state := st }
  let x2 := if st = 8 then { x1 with delays := [], rejects := 0, offsets := 0, pendingSync := none } else x1
  if st < 8 then { x2 with master := none, utc := none, foreign := [], pendingSync := none } else x2

theorem PtpPort.entered_state (x : PtpPort) (st : Nat) : (x.entered st).state = st ∧ (x.entered st).linkUp = x.linkUp := by
  unfold entered
  dsimp only
  split <;> split <;> exact ⟨rfl, rfl⟩

section
variable {p st : Nat} {s : State}

theorem ptpEnter_stays (h : (s.ptpPort p).state = st) : ptpEnter p st s = s := if_pos h

theorem ptpEnter_eq (h : (s.ptpPort p).state ≠ st) : ptpEnter p st s =
    evalSelection (raiseEv 0x106 [byte p, byte st] (s.setPtp p ((s.ptpPort p).entered st))) := if_neg h

theorem ptpEnter_selects (h : (s.ptpPort p).state ≠ st) :
    Selects (s.setPtp p ((s.ptpPort p).entered st)) (ptpEnter p st s) := by
  rw [ptpEnter_eq h]
  exact (Selects.of_told (raiseEv_told _ _ _)).trans (evalSelection_selects _)

theorem ptpEnter_port (h : (s.ptpPort p).state ≠ st) : (ptpEnter p st s).ptpPort p = (s.ptpPort p).entered st :=
  ((ptpEnter_selects h).ptpPort p).trans (s.ptpPort_setPtp_self p _)

/-- A port that leaves SLAVE is not selected. -/
theorem ptpEnter_deselects (hp : p < 2) (h : (s.ptpPort p).state ≠ st) (h9 : st ≠ 9) :
    (ptpEnter p st s).ptpSel.selected ≠ some p := by
  rw [ptpEnter_eq h]
  refine evalSelection_deselects hp ?_
  rw [State.candidate, (raiseEv_same _ _ _).ptpPort, State.ptpPort_setPtp_self, (PtpPort.entered_state _ st).1]
  simp [h9]

theorem ptpEnter_only (p st : Nat) (s : State) : PtpOnly s (ptpEnter p st s) := by
  by_cases h : (s.ptpPort p).state = st
  · rw [ptpEnter_stays h]
    exact .refl s
  · exact (ptpEnter_selects h).ptpOnly

theorem ptpEnter_other (hp : p < 2) : (ptpEnter p st s).ptpPort (1 - p) = s.ptpPort (1 - p) := by
  by_cases h : (s.ptpPort p).state = st
  · rw [ptpEnter_stays h]
  · rw [(ptpEnter_selects h).ptpPort, State.ptpPort_setPtp_other hp]

theorem ptpEnter_state (p st : Nat) (s : State) : ((ptpEnter p st s).ptpPort p).state = st
    ∧ ((ptpEnter p st s).ptpPort p).linkUp = (s.ptpPort p).linkUp := by
  by_cases h : (s.ptpPort p).state = st
  · rw [ptpEnter_stays h]
    exact ⟨h, rfl⟩
  · rw [ptpEnter_port h]
    exact PtpPort.entered_state _ st

theorem ptpStart_only (p : Nat) (s : State) : PtpOnly s (ptpStart p s) := (ptpEnter_only p 1 s).trans (ptpEnter_only _ _ _)

theorem ptpStart_other (hp : p < 2) : (ptpStart p s).ptpPort (1 - p) = s.ptpPort (1 - p) :=
  (ptpEnter_other hp).trans (ptpEnter_other hp)

theorem ptpStart_state (p : Nat) (s : State) :
    ((ptpStart p s).ptpPort p).state = (if (s.ptpPort p).linkUp then 4 else 2)
      ∧ ((ptpStart p s).ptpPort p).linkUp = (s.ptpPort p).linkUp := by
  obtain ⟨state, link⟩ := ptpEnter_state p (if (s.ptpPort p).linkUp then 4 else 2) (ptpEnter p 1 s)
  exact ⟨state, link.trans (ptpEnter_state p 1 s).2⟩

end

/-! ### ANNOUNCE_RECEIPT_TIMEOUT -/

theorem announceReceiptTimeout_heard {p : Nat} {s : State} (hs : s.masterSilent p = false) :
    Gives (.announceReceiptTimeout p) s fun t => t = s :=
  ⟨_, congrArg Host.Outcome.next (if_neg (by simp [hs])), rfl⟩

theorem announceReceiptTimeout_silent {p : Nat} {s : State} (hp : p < 2)
    (h : (s.ptpPort p).state = 8 ∨ (s.ptpPort p).state = 9) (hs : s.masterSilent p = true) :
    Gives (.announceReceiptTimeout p) s fun t =>
      Same { s with ptp0 := t.ptp0, ptp1 := t.ptp1, ptpSel := t.ptpSel, time := t.time } t
        ∧ t.ptpPort p = { s.ptpPort p with
            state := 4, master := none, utc := none, foreign := [], pendingSync := none }
        ∧ t.ptpSel.selected ≠ some p := by
  have leaves : (s.ptpPort p).state ≠ 4 := by omega
  exact ⟨_, congrArg Host.Outcome.next (if_pos ⟨hp, h.symm, hs⟩), (ptpEnter_only p 4 s).same, ptpEnter_port leaves,
    ptpEnter_deselects hp leaves (by decide)⟩

/-! ### PTP_ANNOUNCE_RECEIVE -/

/-- A port's engine with the best of the masters that it hears. -/
def PtpPort.hears (x : PtpPort) (best : Foreign) (l : List Foreign) : PtpPort :=
  { x with foreign := l, master := some best.ds, utc := some best.utc }

/-- A port's engine that starts its measurements again. -/
def PtpPort.restarted (x : PtpPort) : PtpPort :=
  { x with state := 8, delays := [], rejects := 0, offsets := 0, pendingSync := none }

/-- A port has a master's Announces already. -/
def PtpPort.follows (x : PtpPort) (f : Foreign) : Bool :=
  match x.utc with
  | none => false
  | some u => decide (u.source = f.utc.source)

theorem PtpPort.follows_of_source {x : PtpPort} {f : Foreign} (h : ∃ u, x.utc = some u ∧ u.source = f.utc.source) :
    x.follows f = true := by
  obtain ⟨u, hu, source⟩ := h
  rw [follows, hu]
  exact decide_eq_true source

theorem PtpPort.not_follows {x : PtpPort} {f : Foreign} (h : ∀ u, x.utc = some u → u.source ≠ f.utc.source) :
    x.follows f = false := by
  unfold follows
  split
  · rfl
  · next u hu => exact decide_eq_false (h u hu)

theorem takeMaster_selects {p : Nat} {f best : Foreign} {l : List Foreign} {s : State}
    (hl : l = heard f (s.ptpPort p).foreign) (hb : best = l.foldl (s.betterMaster p) f) :
    Selects (s.setPtp p (if (s.ptpPort p).follows best then (s.ptpPort p).hears best l
      else ((s.ptpPort p).hears best l).restarted)) (takeMaster p f s) := by
  have run : takeMaster p f s = if (s.ptpPort p).follows best then evalSelection (s.setPtp p ((s.ptpPort p).hears best l))
      else if (s.ptpPort p).state = 8 then evalSelection ((s.setPtp p ((s.ptpPort p).hears best l)).setPtp p
        { (s.setPtp p ((s.ptpPort p).hears best l)).ptpPort p with
          delays := [], rejects := 0, offsets := 0, pendingSync := none })
      else ptpEnter p 8 (s.setPtp p ((s.ptpPort p).hears best l)) := by
    subst hl hb
    rfl
  have heard : (s.setPtp p ((s.ptpPort p).hears best l)).ptpPort p = (s.ptpPort p).hears best l :=
    s.ptpPort_setPtp_self p _
  rw [run]
  split
  · exact evalSelection_selects _
  · split
    · next calibrating =>
      rw [State.setPtp_setPtp, heard]
      have restarted : ((s.ptpPort p).hears best l).restarted = { (s.ptpPort p).hears best l with
          delays := [], rejects := 0, offsets := 0, pendingSync := none } := by
        rw [PtpPort.restarted, ← calibrating]
        rfl
      rw [restarted]
      exact evalSelection_selects _
    · next other =>
      have enters := ptpEnter_selects (p := p) (st := 8) (s := s.setPtp p ((s.ptpPort p).hears best l))
        (by rw [heard]; exact other)
      rw [State.setPtp_setPtp, heard] at enters
      exact enters

section
variable {p : Nat} {ds : MasterDs} {utc : UtcInfo} {s : State}

theorem ptpAnnounceReceive_ignores (h : utc.interval < -3 ∨ 4 < utc.interval) :
    Gives (.ptpAnnounceReceive p ds utc) s fun t => t = s :=
  ⟨_, congrArg Host.Outcome.next (if_pos (.inr (.inr (.inr (.inr (.inr h)))))), rfl⟩

variable (hp : p < 2) (hr : s.time.running = true) (he : s.ptpEnabled p = true) (hu : (s.ptpPort p).linkUp = true)
  (hlow : -3 ≤ utc.interval) (hhigh : utc.interval ≤ 4)
  (hstate : (s.ptpPort p).state = 4 ∨ (s.ptpPort p).state = 8 ∨ (s.ptpPort p).state = 9)
include hp hr he hu hlow hhigh hstate

theorem ptpAnnounceReceive_eq :
    exec (.ptpAnnounceReceive p ds utc) s = .next (takeMaster p ⟨ds, utc, s.time.elapsed⟩ s) := by
  refine congrArg Host.Outcome.next (if_neg ?_)
  simp only [hr, he, hu, Bool.not_true, Bool.false_eq_true, false_or, not_or]
  omega

theorem ptpAnnounceReceive_takes {l : List Foreign} {best : Foreign}
    (hl : l = heard ⟨ds, utc, s.time.elapsed⟩ (s.ptpPort p).foreign)
    (hb : best = l.foldl (s.betterMaster p) ⟨ds, utc, s.time.elapsed⟩) :
    Gives (.ptpAnnounceReceive p ds utc) s fun t =>
      Same { s with ptp0 := t.ptp0, ptp1 := t.ptp1, ptpSel := t.ptpSel, time := t.time } t
        ∧ t.ptpPort (1 - p) = s.ptpPort (1 - p)
        ∧ ((∃ u, (s.ptpPort p).utc = some u ∧ u.source = best.utc.source) →
            t.ptpPort p = { s.ptpPort p with foreign := l, master := some best.ds, utc := some best.utc })
        ∧ ((∀ u, (s.ptpPort p).utc = some u → u.source ≠ best.utc.source) →
            t.ptpPort p = { s.ptpPort p with
              foreign := l, master := some best.ds, utc := some best.utc
              state := 8, delays := [], rejects := 0, offsets := 0, pendingSync := none }) := by
  have selects := takeMaster_selects hl hb
  have port := (selects.ptpPort p).trans (s.ptpPort_setPtp_self p _)
  refine ⟨_, ptpAnnounceReceive_eq hp hr he hu hlow hhigh hstate, selects.ptpOnly.same,
    (selects.ptpPort _).trans (State.ptpPort_setPtp_other hp s _), fun known => ?_, fun new => ?_⟩
  · rw [port, if_pos (PtpPort.follows_of_source known)]
    rfl
  · rw [port, if_neg (by simp [PtpPort.not_follows new])]
    rfl

end

/-! ### MGT_LINK_CHANGE -/

/-- The state in which a link's change is noted and reported. -/
def State.linkNoted (s : State) (p : Nat) (up : Bool) : State :=
  raiseEv 0x502 [0xFF#8, byte s.takeFree.1, byte (bit up), byte p]
    (s.takeFree.2.setPtp p { s.ptpPort p with linkUp := up })

/-- The state after a link's change. -/
def State.linkChanged (s : State) (p : Nat) (up : Bool) : State :=
  if !(s.linkNoted p up).ptpEnabled p ∨ (s.ptpPort p).state = 3 then s.linkNoted p up
  else if up then (if (s.ptpPort p).state = 2 then ptpStart p (s.linkNoted p up) else s.linkNoted p up)
  else ptpEnter p 2 (s.linkNoted p up)

section
variable {p : Nat} {up : Bool} {s : State}

theorem State.linkNoted_port : (s.linkNoted p up).ptpPort p = { s.ptpPort p with linkUp := up } :=
  ((raiseEv_same _ _ _).ptpPort p).trans (State.ptpPort_setPtp_self _ p _)

theorem State.linkNoted_only : PtpOnly { s with freeCtr := s.freeCtr + 1 } (s.linkNoted p up) :=
  (Selects.of_told (raiseEv_told _ _ _)).ptpOnly (s := s.takeFree.2) (p := p)

theorem State.linkNoted_ptpEnabled : (s.linkNoted p up).ptpEnabled p = s.ptpEnabled p := State.linkNoted_only.ptpEnabled p

theorem State.linkChanged_only : PtpOnly { s with freeCtr := s.freeCtr + 1 } (s.linkChanged p up) :=
  .ite linkNoted_only (.ite (.ite (linkNoted_only.trans (ptpStart_only p _)) linkNoted_only)
    (linkNoted_only.trans (ptpEnter_only p 2 _)))

theorem State.linkChanged_linkUp : ((s.linkChanged p up).ptpPort p).linkUp = up := by
  have noted : ((s.linkNoted p up).ptpPort p).linkUp = up := by rw [linkNoted_port]
  unfold linkChanged
  split
  · exact noted
  · split
    · split
      · exact (ptpStart_state p _).2.trans noted
      · exact noted
    · exact (ptpEnter_state p 2 _).2.trans noted

theorem State.linkChanged_other (hp : p < 2) : (s.linkChanged p up).ptpPort (1 - p) = s.ptpPort (1 - p) := by
  have noted : (s.linkNoted p up).ptpPort (1 - p) = s.ptpPort (1 - p) :=
    ((raiseEv_same _ _ _).ptpPort _).trans (State.ptpPort_setPtp_other hp s.takeFree.2 _)
  unfold linkChanged
  split
  · exact noted
  · split
    · split
      · exact (ptpStart_other hp).trans noted
      · exact noted
    · exact (ptpEnter_other hp).trans noted

theorem State.linkChanged_disabled (he : s.ptpEnabled p = false) :
    ((s.linkChanged p up).ptpPort p).state = (s.ptpPort p).state := by
  rw [linkChanged, if_pos (.inl (by simp [linkNoted_ptpEnabled, he])), linkNoted_port]

theorem State.linkChanged_down (he : s.ptpEnabled p = true) (h3 : (s.ptpPort p).state ≠ 3) :
    s.linkChanged p false = ptpEnter p 2 (s.linkNoted p false) := by
  rw [linkChanged, if_neg (by simp [linkNoted_ptpEnabled, he, h3]), if_neg Bool.false_ne_true]

theorem State.linkChanged_up (he : s.ptpEnabled p = true) (h2 : (s.ptpPort p).state = 2) :
    s.linkChanged p true = ptpStart p (s.linkNoted p true) := by
  rw [linkChanged, if_neg (by simp [linkNoted_ptpEnabled, he, h2]), if_pos rfl, if_pos h2]

theorem mgtLinkChange_changes (hp : p < 2) (hv : s.power.vaux = true) (hl : (s.ptpPort p).linkUp = !up) :
    Gives (.mgtLinkChange p up) s fun t =>
      Same { s with
        ptp0 := t.ptp0, ptp1 := t.ptp1, ptpSel := t.ptpSel, time := t.time, freeCtr := s.freeCtr + 1 } t
        ∧ (t.ptpPort p).linkUp = up ∧ t.ptpPort (1 - p) = s.ptpPort (1 - p)
        ∧ (s.ptpEnabled p = false → (t.ptpPort p).state = (s.ptpPort p).state)
        ∧ (s.ptpEnabled p = true → (s.ptpPort p).state ≠ 3 → up = false →
            (t.ptpPort p).state = 2 ∧ ((s.ptpPort p).state ≠ 2 → t.ptpSel.selected ≠ some p))
        ∧ (s.ptpEnabled p = true → (s.ptpPort p).state = 2 → up = true → (t.ptpPort p).state = 4) := by
  have run : exec (.mgtLinkChange p up) s = .next (s.linkChanged p up) :=
    congrArg Host.Outcome.next (if_neg (by simp [hp, hv, hl]))
  refine ⟨_, run, State.linkChanged_only.same, State.linkChanged_linkUp, State.linkChanged_other hp,
    State.linkChanged_disabled, fun he h3 down => ?_, fun he h2 isUp => ?_⟩
  · subst down
    rw [State.linkChanged_down he h3]
    exact ⟨(ptpEnter_state p 2 _).1, fun h2 => ptpEnter_deselects hp (by rwa [State.linkNoted_port]) (by decide)⟩
  · subst isUp
    rw [State.linkChanged_up he h2, (ptpStart_state p _).1, State.linkNoted_port]
    rfl

end

end Sys2Proof.Machine
end

section
open Sys2Proof Sys2Proof.Machine

/-- Settles O30: each command by the state that its port enters, and the selection by which ports are candidates. -/
theorem ptpPortsAndSelection : Obligations.PtpPortsAndSelection :=
  ⟨fun _ _ _ _ hp hr he hu => ⟨ptpAnnounceReceive_ignores, fun _ _ hlow hhigh hstate =>
      ptpAnnounceReceive_takes hp hr he hu hlow hhigh hstate⟩,
    fun _ _ hp h => ⟨announceReceiptTimeout_silent hp h, announceReceiptTimeout_heard⟩,
    fun _ _ _ => ptpSelHoldExpire_selects, fun _ _ _ => mgtLinkChange_changes⟩

end


/-! SUPPORT. PTP messages (R229, R239, R240, R255): the offset that a Sync gives its port, path delays, and the stamps of
the transmit queue. -/
section
namespace Sys2Proof.Machine

/-! ### Changes of one port's engine -/

/-- A change of one port's engine without an event. -/
theorem gives_setPtp {c : Instr} {p : Nat} {x : PtpPort} {s : State} (run : exec c s = .next (s.setPtp p x)) :
    Gives c s fun t => t = { s with ptp0 := t.ptp0, ptp1 := t.ptp1 } ∧ t.ptpPort p = x :=
  ⟨_, run, rfl, s.ptpPort_setPtp_self p x⟩

/-- The same, and the other port. -/
theorem gives_setPtp_other {c : Instr} {p : Nat} {x : PtpPort} {s : State} (hp : p < 2)
    (run : exec c s = .next (s.setPtp p x)) : Gives c s fun t =>
      t = { s with ptp0 := t.ptp0, ptp1 := t.ptp1 } ∧ t.ptpPort p = x ∧ t.ptpPort (1 - p) = s.ptpPort (1 - p) :=
  ⟨_, run, rfl, s.ptpPort_setPtp_self p x, State.ptpPort_setPtp_other hp s x⟩

theorem Same.setPtp {s t : State} (h : Same s t) (p : Nat) (x : PtpPort) : Same (s.setPtp p x) (t.setPtp p x) :=
  ⟨congrArg (fun b : State => b.setPtp p x) h.1, h.2⟩

/-- A change of one port's engine and its event. -/
theorem gives_setPtp_raised {c : Instr} {p : Nat} {x : PtpPort} {s t : State} (run : exec c s = .next t)
    (same : Same (s.setPtp p x) t) : Gives c s fun t =>
      Same { s with ptp0 := t.ptp0, ptp1 := t.ptp1 } t ∧ t.ptpPort p = x := by
  have ptp0 : t.ptp0 = (s.setPtp p x).ptp0 := (congrArg State.ptp0 same.1 :)
  have ptp1 : t.ptp1 = (s.setPtp p x).ptp1 := (congrArg State.ptp1 same.1 :)
  refine ⟨_, run, ?_, (same.ptpPort p).trans (s.ptpPort_setPtp_self p x)⟩
  rw [ptp0, ptp1]
  exact same

theorem State.lt_of_ptpRuns {s : State} {p : Nat} (h : s.ptpRuns p = true) : p < 2 := by
  simp only [ptpRuns, Bool.and_eq_true, decide_eq_true_eq] at h
  obtain ⟨⟨port, -⟩, -⟩ := h
  exact port

/-! ### Offsets (R229) -/

/-- A port out of UNCALIBRATED does not wait for its measurements. -/
theorem calibrated_slave {p : Nat} {s : State} (h : (s.ptpPort p).state = 9) : calibrated p s = s :=
  if_neg (by simp [h])

theorem takeOffset_same (src : Nat) (o : Int) (s : State) :
    Same { s with time := (takeOffset src o s).time } (takeOffset src o s) := by
  by_cases h : s.wantedRef = src
  · exact (takeOffset_takes h).steers.same
  · rw [takeOffset_other h]
    exact .refl s

/-- A port's engine that has taken an offset. -/
def PtpPort.offsetBy (x : PtpPort) (o : Int) : PtpPort :=
  { x with offset := o, offsets := x.offsets + 1, pendingSync := none }

section
variable {p seq : Nat} {raw : Int} {s : State}

/-- An offset at a port in SLAVE goes to the servo where the port is selected. -/
theorem portOffset_slave (hp : p < 2) (h9 : (s.ptpPort p).state = 9) :
    Same { s with
      ptp0 := (portOffset p raw s).ptp0, ptp1 := (portOffset p raw s).ptp1, time := (portOffset p raw s).time }
        (portOffset p raw s)
      ∧ (s.ptpSel.selected ≠ some p → (portOffset p raw s).time = s.time)
      ∧ (portOffset p raw s).ptpPort (1 - p) = s.ptpPort (1 - p)
      ∧ (portOffset p raw s).ptpPort p = (s.ptpPort p).offsetBy
          (raw - stampLatency p 0 - (s.ptpPort p).meanDelay - s.asymmetry p) := by
  generalize ho : raw - stampLatency p 0 - (s.ptpPort p).meanDelay - s.asymmetry p = o
  let v := s.setPtp p ((s.ptpPort p).offsetBy o)
  let u := if s.ptpSel.selected = some p then takeOffset (p + 1) o v else v
  have same : Same { v with time := u.time } u := by
    unfold u
    split
    · exact takeOffset_same _ _ v
    · exact .refl v
  have port : u.ptpPort p = (s.ptpPort p).offsetBy o := (same.ptpPort p).trans (s.ptpPort_setPtp_self p _)
  have stays : portOffset p raw s = u := by
    subst ho
    exact calibrated_slave ((congrArg PtpPort.state port).trans h9)
  have ptp0 : u.ptp0 = v.ptp0 := (congrArg State.ptp0 same.1 :)
  have ptp1 : u.ptp1 = v.ptp1 := (congrArg State.ptp1 same.1 :)
  rw [stays]
  refine ⟨?_, fun other => ?_, (same.ptpPort _).trans (State.ptpPort_setPtp_other hp s _), port⟩
  · rw [ptp0, ptp1]
    exact same
  · rw [show u = v from if_neg other]
    rfl

theorem ptpSyncReceive_waits (h : s.ptpRuns p = true) : Gives (.ptpSyncReceive p true seq raw) s fun t =>
    t = { s with ptp0 := t.ptp0, ptp1 := t.ptp1 }
      ∧ t.ptpPort p = { s.ptpPort p with pendingSync := some (seq, raw) } ∧ t.ptpPort (1 - p) = s.ptpPort (1 - p) :=
  gives_setPtp_other (State.lt_of_ptpRuns h) (congrArg Host.Outcome.next (if_neg (by simp [h])))

theorem ptpSyncReceive_offsets (h : s.ptpRuns p = true) (h9 : (s.ptpPort p).state = 9) :
    Gives (.ptpSyncReceive p false seq raw) s fun t =>
      Same { s with ptp0 := t.ptp0, ptp1 := t.ptp1, time := t.time } t
        ∧ (s.ptpSel.selected ≠ some p → t.time = s.time)
        ∧ t.ptpPort (1 - p) = s.ptpPort (1 - p)
        ∧ t.ptpPort p = { s.ptpPort p with
            offset := raw - stampLatency p 0 - (s.ptpPort p).meanDelay - s.asymmetry p
            offsets := (s.ptpPort p).offsets + 1, pendingSync := none } :=
  ⟨_, congrArg Host.Outcome.next ((if_neg (by simp [h])).trans (if_neg Bool.false_ne_true)),
    portOffset_slave (State.lt_of_ptpRuns h) h9⟩

theorem ptpFollowUpReceive_eq {q : Nat} {o : Int} (h : s.ptpRuns p = true) (hs : (s.ptpPort p).pendingSync = some (q, o)) :
    exec (.ptpFollowUpReceive p seq raw) s = .next (if q = seq then portOffset p (o - raw) s else s) := by
  refine congrArg Host.Outcome.next ((if_neg (by simp [h])).trans ?_)
  rw [hs]

theorem ptpFollowUpReceive_offsets {q : Nat} {o : Int} (h : s.ptpRuns p = true) (h9 : (s.ptpPort p).state = 9)
    (hs : (s.ptpPort p).pendingSync = some (q, o)) (hq : q = seq) :
    Gives (.ptpFollowUpReceive p seq raw) s fun t =>
      Same { s with ptp0 := t.ptp0, ptp1 := t.ptp1, time := t.time } t
        ∧ (s.ptpSel.selected ≠ some p → t.time = s.time)
        ∧ t.ptpPort p = { s.ptpPort p with
            offset := o - raw - stampLatency p 0 - (s.ptpPort p).meanDelay - s.asymmetry p
            offsets := (s.ptpPort p).offsets + 1, pendingSync := none } := by
  obtain ⟨same, time, -, port⟩ := portOffset_slave (raw := o - raw) (State.lt_of_ptpRuns h) h9
  exact ⟨_, (ptpFollowUpReceive_eq h hs).trans (congrArg Host.Outcome.next (if_pos hq)), same, time, port⟩

theorem ptpFollowUpReceive_ignores {q : Nat} {o : Int} (h : s.ptpRuns p = true)
    (hs : (s.ptpPort p).pendingSync = some (q, o)) (hq : q ≠ seq) :
    Gives (.ptpFollowUpReceive p seq raw) s fun t => t = s :=
  ⟨_, (ptpFollowUpReceive_eq h hs).trans (congrArg Host.Outcome.next (if_neg hq)), rfl⟩

end

/-! ### The transmit queue (R255) -/

section
variable {p : Nat} {x : TxStamp} {s : State}

theorem pushStamp_queues (h : (s.ptpPort p).txq.length < 32) :
    pushStamp p x s = s.setPtp p { s.ptpPort p with txq := (s.ptpPort p).txq ++ [x] } := if_pos h

/-- A full queue drops the stamp and counts it. -/
theorem pushStamp_drops (h : 32 ≤ (s.ptpPort p).txq.length) :
    Same (s.setPtp p { s.ptpPort p with txOvf := min ((s.ptpPort p).txOvf + 1) 0xFFFF, txOverflow := true })
      (pushStamp p x s) := by
  unfold pushStamp
  rw [if_neg (Nat.not_lt.2 h)]
  dsimp only
  split
  · exact .refl _
  · exact raiseEv_same _ _ _

end

section
variable {seq : Nat} {msgs : List Nat} {x : TxStamp} (hseq : x.seq = seq) (hmsg : msgs.contains x.msg = true)
include hseq hmsg

theorem claim_append_none {l : List TxStamp} (h : claim seq msgs l = none) : claim seq msgs (l ++ [x]) = some (x, l) := by
  induction l with
  | nil => exact if_pos ⟨hseq, hmsg⟩
  | cons y rest ih =>
    rw [claim] at h
    split at h
    · cases h
    · next other =>
      split at h
      · next free =>
        rw [List.cons_append, claim, if_neg other, ih free]
      · cases h

theorem claim_append (l : List TxStamp) : ∃ y r, claim seq msgs (l ++ [x]) = some (y, r) := by
  induction l with
  | nil => exact ⟨x, [], if_pos ⟨hseq, hmsg⟩⟩
  | cons y rest ih =>
    obtain ⟨z, r, hz⟩ := ih
    rw [List.cons_append, claim, hz]
    split
    · exact ⟨_, _, rfl⟩
    · exact ⟨_, _, rfl⟩

end

/-- A claimed entry leaves the queue, and is of the message claimed. -/
theorem claim_spec {seq : Nat} {msgs : List Nat} {l r : List TxStamp} {y : TxStamp} (h : claim seq msgs l = some (y, r)) :
    r.length + 1 = l.length ∧ y.seq = seq ∧ msgs.contains y.msg = true := by
  induction l generalizing r with
  | nil => cases h
  | cons x rest ih =>
    rw [claim] at h
    split at h
    · next here =>
      cases h
      exact ⟨rfl, here⟩
    · split at h
      · cases h
      · next z r' hz =>
        cases h
        obtain ⟨length, message⟩ := ih hz
        exact ⟨congrArg (· + 1) length, message⟩

/-! ### Delay_Req and its answer (R239, R240) -/

section
variable {p seq : Nat} {egress : Instant} {s : State}

theorem ptpDelayReqSend_oneStep (h : s.twoStep p = false) : Gives (.ptpDelayReqSend p seq egress) s fun t => t = s :=
  ⟨_, congrArg Host.Outcome.next (if_pos (.inr (by simp [h]))), rfl⟩

theorem ptpDelayReqSend_eq (h : s.ptpRuns p = true) (h2 : s.twoStep p = true) : exec (.ptpDelayReqSend p seq egress) s =
    .next (pushStamp p (s.stampOf p (if s.obj 0x3000 1 = 1 then 2 else 1) seq egress) s) :=
  congrArg Host.Outcome.next (if_neg (by simp [h, h2]))

theorem ptpDelayReqSend_queues (h : s.ptpRuns p = true) (h2 : s.twoStep p = true)
    (room : (s.ptpPort p).txq.length < 32) : Gives (.ptpDelayReqSend p seq egress) s fun t =>
      t = { s with ptp0 := t.ptp0, ptp1 := t.ptp1 } ∧ t.ptpPort (1 - p) = s.ptpPort (1 - p)
        ∧ t.ptpPort p = { s.ptpPort p with
            txq := (s.ptpPort p).txq ++ [s.stampOf p (if s.obj 0x3000 1 = 1 then 2 else 1) seq egress] } := by
  obtain ⟨t, run, frame, port, other⟩ := gives_setPtp_other (State.lt_of_ptpRuns h)
    ((ptpDelayReqSend_eq (egress := egress) h h2).trans (congrArg Host.Outcome.next (pushStamp_queues room)))
  exact ⟨t, run, frame, other, port⟩

theorem ptpDelayReqSend_drops (h : s.ptpRuns p = true) (h2 : s.twoStep p = true)
    (full : 32 ≤ (s.ptpPort p).txq.length) : Gives (.ptpDelayReqSend p seq egress) s fun t =>
      Same { s with ptp0 := t.ptp0, ptp1 := t.ptp1 } t
        ∧ t.ptpPort p = { s.ptpPort p with txOvf := min ((s.ptpPort p).txOvf + 1) 0xFFFF, txOverflow := true } :=
  gives_setPtp_raised (ptpDelayReqSend_eq h h2) (pushStamp_drops full)

end

section
variable {p : Nat} {d : Int} {s : State}

theorem takeDelay_first (h9 : (s.ptpPort p).state = 9) (room : (s.ptpPort p).delays.length < 8) :
    takeDelay p d s = s.setPtp p { s.ptpPort p with delays := d :: (s.ptpPort p).delays } := by
  refine (if_pos room).trans (calibrated_slave ?_)
  rw [State.ptpPort_setPtp_self]
  exact h9

variable (held : 8 ≤ (s.ptpPort p).delays.length)
include held

theorem takeDelay_near (near : (d - (s.ptpPort p).meanDelay).natAbs ≤ 100 * 65536) : takeDelay p d s =
    s.setPtp p { s.ptpPort p with delays := (d :: (s.ptpPort p).delays).take 8, rejects := 0 } :=
  (if_neg (Nat.not_lt.2 held)).trans (if_pos near)

theorem takeDelay_far (far : 100 * 65536 < (d - (s.ptpPort p).meanDelay).natAbs)
    (few : (s.ptpPort p).rejects + 1 < 8) :
    takeDelay p d s = s.setPtp p { s.ptpPort p with rejects := (s.ptpPort p).rejects + 1 } :=
  (if_neg (Nat.not_lt.2 held)).trans ((if_neg (Nat.not_le.2 far)).trans (if_pos few))

end

section
variable {p seq : Nat} {delay : Int} {s : State} (h : s.ptpRuns p = true)
include h

section
variable {d : Int} (h1 : s.twoStep p = false) (hd : d = delay - (stampLatency p 0 + stampLatency p 4) / 2)
include h1 hd

theorem ptpDelayRespReceive_oneStep : exec (.ptpDelayRespReceive p seq delay) s = .next (takeDelay p d s) := by
  subst hd
  exact congrArg Host.Outcome.next ((if_neg (by simp [h])).trans (if_neg (by simp [h1])))

theorem ptpDelayRespReceive_first (h9 : (s.ptpPort p).state = 9) (room : (s.ptpPort p).delays.length < 8) :
    Gives (.ptpDelayRespReceive p seq delay) s fun t =>
      t = { s with ptp0 := t.ptp0, ptp1 := t.ptp1 }
        ∧ t.ptpPort p = { s.ptpPort p with delays := d :: (s.ptpPort p).delays } :=
  gives_setPtp ((ptpDelayRespReceive_oneStep h h1 hd).trans (congrArg Host.Outcome.next (takeDelay_first h9 room)))

variable (held : 8 ≤ (s.ptpPort p).delays.length)
include held

theorem ptpDelayRespReceive_near (near : (d - (s.ptpPort p).meanDelay).natAbs ≤ 100 * 65536) :
    Gives (.ptpDelayRespReceive p seq delay) s fun t =>
      t = { s with ptp0 := t.ptp0, ptp1 := t.ptp1 }
        ∧ t.ptpPort p = { s.ptpPort p with delays := (d :: (s.ptpPort p).delays).take 8, rejects := 0 } :=
  gives_setPtp ((ptpDelayRespReceive_oneStep h h1 hd).trans (congrArg Host.Outcome.next (takeDelay_near held near)))

theorem ptpDelayRespReceive_far (far : 100 * 65536 < (d - (s.ptpPort p).meanDelay).natAbs)
    (few : (s.ptpPort p).rejects + 1 < 8) : Gives (.ptpDelayRespReceive p seq delay) s fun t =>
      t = { s with ptp0 := t.ptp0, ptp1 := t.ptp1 }
        ∧ t.ptpPort p = { s.ptpPort p with rejects := (s.ptpPort p).rejects + 1 } :=
  gives_setPtp ((ptpDelayRespReceive_oneStep h h1 hd).trans (congrArg Host.Outcome.next (takeDelay_far held far few)))

end

theorem ptpDelayRespReceive_unclaimed (h2 : s.twoStep p = true)
    (hc : claim (seq % 65536) [1, 2] (s.ptpPort p).txq = none) :
    Gives (.ptpDelayRespReceive p seq delay) s fun t => t = s := by
  refine ⟨s, congrArg Host.Outcome.next ((if_neg (by simp [h])).trans ((if_pos h2).trans ?_)), rfl⟩
  rw [hc]

theorem ptpDelayRespReceive_claimed (h2 : s.twoStep p = true) {x : TxStamp} {l : List TxStamp}
    (hc : claim (seq % 65536) [1, 2] (s.ptpPort p).txq = some (x, l)) (h9 : (s.ptpPort p).state = 9)
    (room : (s.ptpPort p).delays.length < 8) : Gives (.ptpDelayRespReceive p seq delay) s fun t =>
      t = { s with ptp0 := t.ptp0, ptp1 := t.ptp1 }
        ∧ t.ptpPort p = { s.ptpPort p with
            txq := l
            delays := ((delay - x.stamp) / 2 - (stampLatency p 0 + stampLatency p 4) / 2) :: (s.ptpPort p).delays } := by
  have port := s.ptpPort_setPtp_self p { s.ptpPort p with txq := l }
  refine gives_setPtp (congrArg Host.Outcome.next ((if_neg (by simp [h])).trans ((if_pos h2).trans ?_)))
  rw [hc]
  refine (takeDelay_first (by rw [port]; exact h9) (by rw [port]; exact room)).trans ?_
  rw [State.setPtp_setPtp, port]
  rfl

end

/-! ### Pdelay_Req (R239, R255) -/

section
variable {p seq : Nat} {egress : Instant} {s : State}

theorem ptpPdelayReqReceive_oneStep (h : s.twoStep p = false) :
    Gives (.ptpPdelayReqReceive p seq egress) s fun t => t = s :=
  ⟨_, congrArg Host.Outcome.next (if_pos (.inr (.inr (.inr (.inr (by simp [h])))))), rfl⟩

/-- The queue's entries without the claimed one, which makes the follow-up. -/
def PtpPort.claimed (x : PtpPort) : Option (TxStamp × List TxStamp) → PtpPort
  | none => { x with followUp := none }
  | some (y, l) => { x with txq := l, followUp := some y }

variable (hp : p < 2) (he : s.ptpEnabled p = true) (hu : (s.ptpPort p).linkUp = true) (ho : s.obj 0x3000 1 = 1)
  (h2 : s.twoStep p = true)
include hp he hu ho h2

theorem ptpPdelayReqReceive_eq {u : State} (push : pushStamp p (s.stampOf p 3 seq egress) s = u) :
    exec (.ptpPdelayReqReceive p seq egress) s =
      .next (u.setPtp p ((u.ptpPort p).claimed (claim (seq % 65536) [3] (u.ptpPort p).txq))) := by
  subst push
  refine congrArg Host.Outcome.next ((if_neg (by simp [hp, he, hu, ho, h2])).trans ?_)
  dsimp only
  split
  · next free => rw [free, PtpPort.claimed]
  · next taken => rw [taken, PtpPort.claimed]

theorem ptpPdelayReqReceive_answers (room : (s.ptpPort p).txq.length < 32) :
    Gives (.ptpPdelayReqReceive p seq egress) s fun t =>
      t = { s with ptp0 := t.ptp0, ptp1 := t.ptp1 } ∧ (t.ptpPort p).txq.length = (s.ptpPort p).txq.length
        ∧ t.ptpPort p = { s.ptpPort p with txq := (t.ptpPort p).txq, followUp := (t.ptpPort p).followUp }
        ∧ (∃ u, (t.ptpPort p).followUp = some u ∧ u.seq = seq % 65536 ∧ u.msg = 3)
        ∧ (claim (seq % 65536) [3] (s.ptpPort p).txq = none →
            (t.ptpPort p).txq = (s.ptpPort p).txq ∧ (t.ptpPort p).followUp = some (s.stampOf p 3 seq egress)) := by
  obtain ⟨y, r, claims⟩ := claim_append (x := s.stampOf p 3 seq egress) (seq := seq % 65536) (msgs := [3]) rfl rfl
    (s.ptpPort p).txq
  have run := ptpPdelayReqReceive_eq hp he hu ho h2 (pushStamp_queues (x := s.stampOf p 3 seq egress) room)
  simp only [State.ptpPort_setPtp_self, State.setPtp_setPtp, claims, PtpPort.claimed] at run
  obtain ⟨t, given, frame, port⟩ := gives_setPtp run
  obtain ⟨length, message, type⟩ := claim_spec claims
  refine ⟨t, given, frame, ?_⟩
  rw [port]
  refine ⟨?_, rfl, ⟨y, rfl, message, by simpa using type⟩, fun free => ?_⟩
  · simpa using length
  · obtain ⟨⟩ := claims.symm.trans (claim_append_none (x := s.stampOf p 3 seq egress) rfl rfl free)
    exact ⟨rfl, rfl⟩

theorem ptpPdelayReqReceive_drops (full : 32 ≤ (s.ptpPort p).txq.length)
    (hc : claim (seq % 65536) [3] (s.ptpPort p).txq = none) : Gives (.ptpPdelayReqReceive p seq egress) s fun t =>
      Same { s with ptp0 := t.ptp0, ptp1 := t.ptp1 } t
        ∧ t.ptpPort p = { s.ptpPort p with
            txOvf := min ((s.ptpPort p).txOvf + 1) 0xFFFF, txOverflow := true, followUp := none } := by
  have same := pushStamp_drops (x := s.stampOf p 3 seq egress) full
  have run := ptpPdelayReqReceive_eq hp he hu ho h2 (egress := egress) (seq := seq) rfl
  simp only [same.ptpPort, State.ptpPort_setPtp_self, hc, PtpPort.claimed] at run
  have dropped := same.setPtp p { s.ptpPort p with
    txOvf := min ((s.ptpPort p).txOvf + 1) 0xFFFF, txOverflow := true, followUp := none }
  rw [State.setPtp_setPtp] at dropped
  exact gives_setPtp_raised run dropped

end

/-! ### Stale entries (R255) -/

/-- A port's engine whose entries of 1 s and more are retired. -/
def PtpPort.retired (x : PtpPort) (now : Nat) : PtpPort :=
  let keep := x.txq.filter fun t => decide (now < t.at_ + 65536000000000)
  { x with txq := keep, txStale := (x.txStale + (x.txq.length - keep.length)) % 4294967296 }

theorem txqStaleRetire_retires {p : Nat} {s : State} (hp : p < 2) : Gives (.txqStaleRetire p) s fun t =>
    t = { s with ptp0 := t.ptp0, ptp1 := t.ptp1 } ∧ t.ptpPort (1 - p) = s.ptpPort (1 - p)
      ∧ (∀ x, x ∈ (t.ptpPort p).txq ↔ x ∈ (s.ptpPort p).txq ∧ s.time.elapsed < x.at_ + 65536000000000)
      ∧ (t.ptpPort p).txStale
          = ((s.ptpPort p).txStale + ((s.ptpPort p).txq.length - (t.ptpPort p).txq.length)) % 4294967296 := by
  have eq : exec (.txqStaleRetire p) s = .next (s.setPtp p ((s.ptpPort p).retired s.time.elapsed)) :=
    congrArg Host.Outcome.next (if_neg (Nat.not_le.2 hp))
  obtain ⟨t, run, frame, port, other⟩ := gives_setPtp_other hp eq
  refine ⟨t, run, frame, other, fun x => ?_, ?_⟩
  · rw [port, PtpPort.retired, List.mem_filter, decide_eq_true_iff]
  · rw [port, PtpPort.retired]

end Sys2Proof.Machine
end

section
open Sys2Proof Sys2Proof.Machine

/-- Settles O29: each message by the offset, the delay or the stamp that it gives its port. -/
theorem ptpMessages : Obligations.PtpMessages :=
  ⟨fun _ _ _ _ h h9 => ⟨ptpSyncReceive_waits h, ptpSyncReceive_offsets h h9, fun _ _ hs =>
      ⟨ptpFollowUpReceive_ignores h hs, ptpFollowUpReceive_offsets h h9 hs⟩⟩,
    fun _ _ _ _ h => ⟨ptpDelayReqSend_oneStep, ptpDelayReqSend_queues h, ptpDelayReqSend_drops h⟩,
    fun _ _ _ _ _ h h9 h1 hd => ⟨ptpDelayRespReceive_first h h1 hd h9, ptpDelayRespReceive_near h h1 hd,
      ptpDelayRespReceive_far h h1 hd⟩,
    fun _ _ _ _ h h2 => ⟨ptpDelayRespReceive_unclaimed h h2, fun _ _ => ptpDelayRespReceive_claimed h h2⟩,
    fun _ _ _ _ hp he hu ho => ⟨ptpPdelayReqReceive_oneStep, ptpPdelayReqReceive_answers hp he hu ho,
      ptpPdelayReqReceive_drops hp he hu ho⟩,
    fun _ _ => txqStaleRetire_retires⟩

end


/-! SUPPORT. The counter (R225, R226, R233 to R238, R246, R247): its start, its reads, a step or load that waits and one that
is applied, and the calendar. -/
section
namespace Sys2Proof.Machine

/-! ### The start of the counter -/

/-- The clock as the counter starts. -/
def TimeSt.startedAt (c : TimeSt) (start : Instant) : TimeSt :=
  { c with
    running := true, count := start * 65536, ticks := start * 65536
    quality := if c.calValid then .calendarSeeded else .freerun
    holdNo := start / holdUnits, trimNo := start / trimUnits }

/-- The state as the counter starts, before the events and records of that. -/
def State.startedAt (s : State) (start : Instant) : State :=
  { s with
    time := s.time.startedAt start, events := { s.events with started := true }
    keeper := { s.keeper with alive := true } }

/-- The state in which PTP is served: the counter runs, and its start is reported. -/
def State.clockStarted (s : State) (start : Instant) : State :=
  let s1 := raiseEv 0x001 (leBytes 4 s.audit.epoch) (s.startedAt start)
  let p := s1.qualityRecord 0 (if s.time.calValid then Quality.calendarSeeded else .freerun).code 7
  let s2 := Machine.audit 0x0C p (raiseEv 0x100 (p.take 4) s1)
  if s.time.calValid then s2 else raiseEv 0x10B [] s2

theorem State.clockStarted_told (s : State) (start : Instant) : Told (s.startedAt start) (s.clockStarted start) := by
  unfold clockStarted
  extract_lets s1 p s2
  have started : Told (s.startedAt start) s1 := raiseEv_told _ _ _
  have reported : Told (s.startedAt start) s2 := (started.trans (raiseEv_told _ _ _)).trans (audit_told _ _ _)
  split
  · exact reported
  · exact reported.trans (raiseEv_told _ _ _)

theorem Quality.eq_of_unlocked {q r : Quality} (h : q.unlocked = r.unlocked) (h1 : r ≠ .locked) (h2 : r ≠ .holdover) :
    q = r := by
  have kept : r.unlocked = r := by rw [unlocked_eq, if_neg h1]
  rw [kept, unlocked_eq] at h
  split at h
  · exact absurd h.symm h2
  · exact h

theorem Same.ptpEnabled {s t : State} (h : Same s t) (p : Nat) : t.ptpEnabled p = s.ptpEnabled p := by
  have objs : t.objs = s.objs := (congrArg State.objs h.1 :)
  rw [State.ptpEnabled, State.obj, objs]
  rfl

/-- What the clock reads does not turn on the servo. -/
theorem TimeSt.counter_reads {c d : TimeSt} (h : c.counter = d.counter) :
    c.running = d.running ∧ c.count = d.count ∧ c.elapsed = d.elapsed ∧ c.holdNo = d.holdNo ∧ c.trimNo = d.trimNo
      ∧ c.quality.unlocked = d.quality.unlocked :=
  ⟨(congrArg running h :), (congrArg count h :), (congrArg elapsed h :), (congrArg holdNo h :), (congrArg trimNo h :),
    (congrArg quality h :)⟩

section
variable {p : Nat} {s : State}

theorem ptpEnableChanged_only (p : Nat) (s : State) : PtpOnly s (ptpEnableChanged p s) :=
  .ite (ptpEnter_only p 3 s) (.ite (ptpStart_only p s) (.refl s))

theorem ptpEnableChanged_other (hp : p < 2) : (ptpEnableChanged p s).ptpPort (1 - p) = s.ptpPort (1 - p) := by
  unfold ptpEnableChanged
  split
  · exact ptpEnter_other hp
  · split
    · exact ptpStart_other hp
    · rfl

/-- An enabled port starts. -/
theorem ptpEnableChanged_state (he : s.ptpEnabled p = true) (h3 : (s.ptpPort p).state = 3) :
    ((ptpEnableChanged p s).ptpPort p).state = if (s.ptpPort p).linkUp then 4 else 2 := by
  have starts : ptpEnableChanged p s = ptpStart p s := (if_neg (by simp [he])).trans (if_pos h3)
  rw [starts, (ptpStart_state p s).1]

/-- A port whose state agrees with PTP_ENABLE stays. -/
theorem ptpEnableChanged_stays (h : (s.ptpPort p).state = 3 ↔ s.ptpEnabled p = false) : ptpEnableChanged p s = s := by
  cases he : s.ptpEnabled p with
  | true => exact (if_neg (by simp [he])).trans (if_neg (by simp [h, he]))
  | false => exact (if_pos (by simp [he])).trans (ptpEnter_stays (h.2 he))

end

section
variable {s : State} {start : Nat} (hr : s.time.running = false) (hv : s.power.vaux = true)
  (hs : start = (if s.time.calValid then s.calendarNow else 0))
include hr hv hs

theorem timePllLock_eq :
    exec .timePllLock s = .next (ptpEnableChanged 1 (ptpEnableChanged 0 (s.clockStarted start))) := by
  have starts : ¬ (s.time.running = true ∨ (!s.power.vaux) = true) := by simp [hr, hv]
  subst hs
  exact congrArg Host.Outcome.next (if_neg starts)

theorem timePllLock_starts : Gives .timePllLock s fun t =>
    Same { s with
      time := t.time, ptp0 := t.ptp0, ptp1 := t.ptp1, ptpSel := t.ptpSel
      keeper := { s.keeper with alive := true } } t
    ∧ t.events.started = true ∧ t.time.running = true ∧ t.now = start ∧ t.time.count = start * 65536
    ∧ t.time.quality = (if s.time.calValid then .calendarSeeded else .freerun)
    ∧ t.time.holdNo = start / holdUnits ∧ t.time.trimNo = start / trimUnits
    ∧ t.time.elapsed = s.time.elapsed
    ∧ (∀ p, p < 2 → s.ptpEnabled p = true → (s.ptpPort p).state = 3 →
        (t.ptpPort p).state = if (s.ptpPort p).linkUp then 4 else 2)
    ∧ ((∀ p, p < 2 → ((s.ptpPort p).state = 3 ↔ s.ptpEnabled p = false)) →
        t.ptp0 = s.ptp0 ∧ t.ptp1 = s.ptp1 ∧ t.ptpSel = s.ptpSel
          ∧ t.time = { s.time with
              running := true, count := start * 65536, ticks := start * 65536
              quality := if s.time.calValid then .calendarSeeded else .freerun
              holdNo := start / holdUnits, trimNo := start / trimUnits }) := by
  have run := timePllLock_eq hr hv hs
  have told := s.clockStarted_told start
  generalize s.clockStarted start = u at run told
  have only0 := ptpEnableChanged_only 0 u
  have only := only0.trans (ptpEnableChanged_only 1 (ptpEnableChanged 0 u))
  have all := (told.setPorts _ _ _ _).trans only.told
  have time : u.time = s.time.startedAt start := told.same.time
  have port (p : Nat) : u.ptpPort p = s.ptpPort p := told.same.ptpPort p
  have enabled (p : Nat) : u.ptpEnabled p = s.ptpEnabled p :=
    told.same.ptpEnabled p
  have clock := only.clock
  rw [time] at clock
  obtain ⟨running, count, elapsed, holdNo, trimNo, quality⟩ := TimeSt.counter_reads clock
  refine ⟨_, run, all.same, all.capturing rfl, running, ?_, count, ?_, holdNo, trimNo, elapsed, fun p hp he h3 => ?_,
    fun h => ?_⟩
  · rw [State.now, count]
    exact Nat.mul_div_cancel start (by decide)
  · refine Quality.eq_of_unlocked quality ?_ ?_
    · split <;> decide
    · split <;> decide
  · obtain rfl | rfl : p = 0 ∨ p = 1 := by omega
    · rw [ptpEnableChanged_other (p := 1) (by decide), ptpEnableChanged_state, port]
      · rw [enabled, he]
      · rw [port, h3]
    · have port1 := (ptpEnableChanged_other (p := 0) (s := u) (by decide)).trans (port 1)
      rw [ptpEnableChanged_state, port1]
      · rw [only0.ptpEnabled, enabled, he]
      · rw [port1, h3]
  · have stays (p : Nat) (hp : p < 2) : ptpEnableChanged p u = u :=
      ptpEnableChanged_stays (by rw [port, enabled]; exact h p hp)
    rw [stays 0 (by decide), stays 1 (by decide)]
    exact ⟨(congrArg State.ptp0 told.same.1 :), (congrArg State.ptp1 told.same.1 :),
      (congrArg State.ptpSel told.same.1 :), time⟩

end

/-! ### Latched reads (R226) -/

theorem linkNo_injective {k l : Link} (h : linkNo k = linkNo l) : k = l := by
  cases k <;> cases l <;> grind [linkNo]

theorem readNow_latch_self (l : Link) (at_ : Instant) (s : State) :
    (readNow l at_ s).latch l = ⟨at_ / 65536000000000, at_ % 65536⟩ := mapGet_mapSet_self _ _ _ _

theorem readNow_latch_other {k l : Link} (h : k ≠ l) (at_ : Instant) (s : State) :
    (readNow l at_ s).latch k = s.latch k := mapGet_mapSet_ne _ _ _ _ _ fun same => h (linkNo_injective same)

theorem timeNowNsRead_latches {l : Link} {at_ : Instant} {s : State} (hv : s.power.vaux = true) (h1 : s.now ≤ at_)
    (h2 : at_ < s.nextBoundary) : Gives (.timeNowNsRead l at_) s fun t =>
      t = { s with time := { s.time with latches := t.time.latches }, out := t.out }
        ∧ t.out.data = at_ / 65536 % 1000000000
        ∧ t.latch l = ⟨at_ / 65536000000000, at_ % 65536⟩ ∧ ∀ k, k ≠ l → t.latch k = s.latch k := by
  have run : exec (.timeNowNsRead l at_) s = .next (readNow l at_ s) := by
    refine congrArg Host.Outcome.next ((if_neg (by simp [hv])).trans ?_)
    rw [if_pos ⟨h1, h2⟩]
  exact ⟨_, run, rfl, rfl, readNow_latch_self l at_ s, fun _ hk => readNow_latch_other hk at_ s⟩

/-! ### A waiting step or load (R234, R235) -/

section
variable {s : State}

theorem makeForced_forces (h : s.time.forced = false) :
    makeForced s = { s with time := { s.time with forced := true, reqAt := s.time.elapsed } } := if_neg (by simp [h])

theorem timeForce_forces (w : Writer) (hr : s.time.req ≠ none) (h : s.time.forced = false) :
    Gives (.timeForce w) s fun t => t = { s with time := { s.time with forced := true, reqAt := s.time.elapsed } } :=
  ⟨_, congrArg Host.Outcome.next (if_pos (Option.isSome_iff_ne_none.2 hr)), makeForced_forces h⟩

theorem timeForce_keeps (w : Writer) (h : s.time.req = none ∨ s.time.forced = true) :
    Gives (.timeForce w) s fun t => t = s := by
  refine ⟨_, rfl, ?_⟩
  unfold forceStep
  split
  · next waits =>
    obtain idle | forced := h
    · exact absurd waits (by simp [idle])
    · exact if_pos forced
  · rfl

theorem timeLoad_loads (w : Writer) (h : s.time.running = true) : Gives (.timeLoad w) s fun t =>
    t = { s with time := { s.time with
      req := some (.load s.setTime), reqAt := s.time.elapsed, deferred := false, forced := false } } :=
  ⟨_, congrArg Host.Outcome.next (if_pos h), rfl⟩

theorem stepDeferTimeout_forces (hr : s.time.req ≠ none) (hf : s.time.forced = false) (hd : s.time.deferred = true)
    (h0 : s.reg 0x300050 ≠ 0) (ht : s.time.deferSince + s.reg 0x300050 * 65536000000000 ≤ s.time.elapsed) :
    Gives .stepDeferTimeout s fun t => t = { s with time := { s.time with forced := true, reqAt := s.time.elapsed } } :=
  ⟨_, congrArg Host.Outcome.next (if_pos ⟨Option.isSome_iff_ne_none.2 hr, hd, h0, ht⟩), makeForced_forces hf⟩

end

/-! ### A step or load applied (R233 to R238) -/

theorem stagger_time (at_ : Instant) (s : State) (l : List Batch) : (stagger at_ s l).time = s.time :=
  (congrArg State.time (stagger_spec l at_ s).1 :)

theorem failBatch_time (b : Batch) (st : Nat) (s : State) : (failBatch b st s).time = s.time :=
  (congrArg State.time (failBatch_apart b st s) :)

theorem stepBatch_time (old : Instant) (b : Batch) (s : State) : (stepBatch old b s).time = s.time := by
  unfold stepBatch
  simp only [State.time_ite, State.putBatch_time, failBatch_time, ite_self]

theorem stepBatches_time (old : Instant) (s : State) : (stepBatches old s).time = s.time := by
  unfold stepBatches
  extract_lets order s1 left
  have judged : s1.time = s.time := forEach_time (stepBatch_time old) order s
  rw [replanStale_time]
  cases left with
  | nil => exact judged
  | cons b rest => exact (stagger_time b.t0 s1 rest).trans judged

theorem schedRealign_time (s : State) : (schedRealign s).time = s.time := by
  unfold schedRealign
  split
  · rfl
  · exact raiseAt_time _ _ _ _ _
  · split
    · rfl
    · exact raiseAt_time _ _ _ _ _

theorem beaconLate_time (j : Nat) (s : State) : (beaconLate j s).time = s.time := raiseEv_time _ _ _

theorem stepRunning_time (j : Nat) (s : State) : (stepRunning j s).time = s.time := by
  unfold stepRunning
  simp only [State.time_ite, State.setBeacon_time, beaconLate_time, ite_self]

theorem stepArmed_time (j : Nat) (s : State) : (stepArmed j s).time = s.time := by
  unfold stepArmed
  dsimp only
  split
  · rfl
  · simp only [State.time_ite, State.setBeacon_time, beaconLate_time, ite_self]

theorem stepBeacon_time (j : Nat) (s : State) : (stepBeacon j s).time = s.time :=
  (stepArmed_time j _).trans (stepRunning_time j s)

/-- A request that loads a time. -/
def TimeReq.loads : TimeReq → Bool
  | .step _ => false
  | .load _ => true

/-- The clock that a step or load moves to an instant by an offset. -/
def TimeSt.stepped (c : TimeSt) (at_ : Instant × Int) : TimeSt :=
  { c with
    count := at_.1 * 65536, ticks := at_.1 * 65536 + (c.ticks - c.count), req := none, deferred := false
    forced := false, discardNext := true, stepCount := (c.stepCount + 1) % 4294967296, lastStep := satNs (-at_.2) }

/-- The clock whose lock and quality are those after a step or load (R238). -/
def TimeSt.requalified (c : TimeSt) : TimeReq → TimeSt
  | .step _ => { c with quality := if c.quality = .calendarSeeded then .freerun else c.quality }
  | .load _ => { c with locked := false, goodRun := 0, badRun := 0, quality := .freerun }

theorem stepQuality_time (r : TimeReq) (s : State) : (stepQuality r.loads s).time = s.time.requalified r := by
  cases r with
  | load u => exact qualityChange_time _ _ _
  | step o =>
    show (stepQuality false s).time = _
    unfold stepQuality TimeSt.requalified
    rw [if_neg Bool.false_ne_true]
    split
    · next seeded => rw [qualityChange_time, if_pos seeded]
    · next held => rw [qualityChange_time, if_neg (by simp [held]), held]
    · next other _ => rw [if_neg other]

theorem applyStep_time (r : TimeReq) (s : State) :
    (applyStep r s).time = (s.time.stepped (r.target s.now)).requalified r := by
  unfold applyStep
  extract_lets old tgt load forced before _ s1 s2 o8 s3 s4 s5 s7 s8
  have hload : load = r.loads := by cases r <;> rfl
  have hs1 : s1.time = s.time.stepped (r.target s.now) := rfl
  have hs2 : s2 = stepQuality r.loads s1 := congrArg (stepQuality · s1) hload
  have hs3 : s3.time = s2.time := raiseEv_time 0x101 o8 s2
  have hs4 : s4.time = s2.time := by
    simp only [s4, State.time_ite, raiseEv_time, hs3, ite_self]
  have hs7 : s7.time = s2.time :=
    (schedRealign_time _).trans ((stepBatches_time old s5).trans ((audit_time _ _ s4).trans hs4))
  have hs8 : s8.time = s2.time := (forEach_time stepBeacon_time _ s7).trans hs7
  rw [← hs1, ← stepQuality_time, ← hs2, ← hs8]

section
variable {s : State}

/-- The state in which a request is applied: a load's time stands in the active registers. -/
def State.prepared (s : State) : TimeReq → State
  | .step _ => s
  | .load u => loadSet u s

theorem State.prepared_time (s : State) (r : TimeReq) : (s.prepared r).time = s.time := by
  cases r with
  | step o => rfl
  | load u => exact (setReg_time _ _ _).trans ((setReg_time _ _ _).trans (setReg_time _ _ _))

theorem timeStepApply_eq {r : TimeReq} (hr : s.time.req = some r) :
    exec .timeStepApply s = .next (if s.reqDue then applyStep r (s.prepared r) else s) := by
  refine congrArg Host.Outcome.next ?_
  rw [hr]
  cases r with
  | step o => rfl
  | load u => rfl

theorem timeStepApply_waits (h : s.reqDue = false) : Gives .timeStepApply s fun t => t = s := by
  cases hr : s.time.req with
  | none =>
    refine ⟨_, rfl, ?_⟩
    rw [hr]
  | some r => exact ⟨_, (timeStepApply_eq hr).trans (congrArg Host.Outcome.next (if_neg (by simp [h]))), rfl⟩

theorem timeStepApply_applies {r : TimeReq} (hr : s.time.req = some r) (h : s.reqDue = true) :
    Gives .timeStepApply s fun t =>
      t.now = (r.target s.now).1 ∧ t.time.req = none ∧ t.time.deferred = false ∧ t.time.forced = false
        ∧ t.time.discardNext = true ∧ t.time.stepCount = (s.time.stepCount + 1) % 4294967296
        ∧ t.time.lastStep = satNs (-(r.target s.now).2) ∧ t.time.elapsed = s.time.elapsed
        ∧ t.time.freqNow = s.time.freqNow
        ∧ (∀ u, r = .load u → t.time.quality = .freerun ∧ t.now = u)
        ∧ (∀ o, r = .step o → t.now = ((s.now : Int) - o).toNat
            ∧ t.time.quality = (if s.time.quality = .calendarSeeded then .freerun else s.time.quality)) := by
  refine ⟨_, (timeStepApply_eq hr).trans (congrArg Host.Outcome.next (if_pos h)), ?_⟩
  have time := applyStep_time r (s.prepared r)
  rw [State.now, s.prepared_time r, ← State.now] at time
  generalize applyStep r (s.prepared r) = t at time
  have now : t.now = (r.target s.now).1 := by
    rw [State.now, time]
    cases r with
    | step o => exact Nat.mul_div_cancel _ (by decide)
    | load u => exact Nat.mul_div_cancel _ (by decide)
  beta_reduce
  rw [now, time]
  cases r with
  | step o =>
    refine ⟨rfl, rfl, rfl, rfl, rfl, rfl, rfl, rfl, rfl, fun _ e => (nomatch e), fun _ e => ?_⟩
    cases e
    exact ⟨rfl, rfl⟩
  | load u =>
    refine ⟨rfl, rfl, rfl, rfl, rfl, rfl, rfl, rfl, rfl, fun _ e => ?_, fun _ e => (nomatch e)⟩
    cases e
    exact ⟨rfl, rfl⟩

theorem shadowCommitApply_timeSet {u : Instant} (hr : s.time.req = some (.load u)) :
    exec (.shadowCommitApply .timeSet) s = exec .timeStepApply s := by
  rw [timeStepApply_eq hr]
  refine congrArg Host.Outcome.next ?_
  rw [hr]
  rfl

/-! ### The calendar (R246) -/

theorem calWrite_asks (w : Writer) (hv : s.power.vaux = true) : Gives (.calWrite w) s fun t =>
    t = { s with time := { s.time with calWritePending := true } } :=
  ⟨_, congrArg Host.Outcome.next (if_pos hv), rfl⟩

theorem calendarWrite_writes (hr : s.time.running = true) (ht : s.atTransit = true) (h0 : s.now % 65536000000000 = 0)
    (hw : s.time.calWritePending = true ∨ (s.time.quality = .locked
      ∧ (s.time.calValid = false ∨ s.time.calLastWrite + 60 * 65536000000000 ≤ s.time.elapsed))) :
    Gives .calendarWrite s fun t => t = { s with time := { s.time with
      calValid := true, calValue := s.now, calLastWrite := s.time.elapsed, calWritePending := false } } :=
  ⟨_, congrArg Host.Outcome.next (if_pos ⟨hr, ht, h0, by simpa using hw⟩), rfl⟩

end

end Sys2Proof.Machine
end

section
open Sys2Proof Sys2Proof.Machine

/-- Settles O27: the counter's start by what PTP makes of the clock, and a step or load by the work that leaves it so. -/
theorem counterStartsAndSteps : Obligations.CounterStartsAndSteps :=
  ⟨fun _ _ => timePllLock_starts, fun _ _ _ => timeNowNsRead_latches,
    fun w _ => ⟨timeForce_forces w, timeForce_keeps w, timeLoad_loads w⟩, fun _ => stepDeferTimeout_forces,
    fun _ _ => timeStepApply_applies, fun _ => timeStepApply_waits, fun _ _ => shadowCommitApply_timeSet,
    fun w _ => calWrite_asks w, fun _ => calendarWrite_writes⟩

end

/-! SUPPORT. A stream of data writes to one host Hallmark channel (R263, R266): bytes fed in pieces are bytes fed at once. -/
section
namespace Sys2Proof.Machine

theorem crcFeed_append (crc : Nat) (as bs : List Byte) : crcFeed crc (as ++ bs) = crcFeed (crcFeed crc as) bs := by
  induction as generalizing crc with
  | nil => rfl
  | cons a rest ih => exact ih (crcStep crc a)

theorem runAll_cons {i : Instr} {s t : State} (h : exec i s = .next t) (l : List Instr) :
    runAll (i :: l) s = runAll l t := by
  rw [runAll, h]

/-- The data write of a value at one of the three widths, named by the bytes that it feeds. -/
def dataWrite (w : Writer) (c : Nat) (f : Nat × Word) : Instr :=
  if f.1 = 1 then .hmDataB w c f.2 else if f.1 = 2 then .hmDataH w c f.2 else .hmDataW w c f.2

section
variable {c : Nat} (hc : c = 6 ∨ c = 7) (w : Writer)
include hc

/-- A data write to an OPEN channel feeds the low bytes of its value, as many as it is wide. -/
theorem dataWrite_feeds {f : Nat × Word} (hf : f.1 = 1 ∨ f.1 = 2 ∨ f.1 = 4) {s : State} (hw : s.power.watchOn = true)
    (ho : (s.hmChan c).isOpen = true) : Gives (dataWrite w c f) s fun t =>
      t = { s with hm6 := t.hm6, hm7 := t.hm7 } ∧ t.hmChan (13 - c) = s.hmChan (13 - c)
        ∧ t.hmChan c = ⟨true, crcFeed (s.hmChan c).crc (leBytes f.1 f.2.toNat)⟩ := by
  obtain ⟨n, v⟩ := f
  obtain rfl | rfl | rfl := hf
  · exact hmFeed_feeds (i := .hmDataB w c v) hc hw rfl ho
  · exact hmFeed_feeds (i := .hmDataH w c v) hc hw rfl ho
  · exact hmFeed_feeds (i := .hmDataW w c v) hc hw rfl ho

/-- Data writes and then a read of the result give the check of the running value with all their bytes. -/
theorem runAll_dataWrites (feeds : List (Nat × Word)) (hf : ∀ f ∈ feeds, f.1 = 1 ∨ f.1 = 2 ∨ f.1 = 4) (s : State)
    (hw : s.power.watchOn = true) (ho : (s.hmChan c).isOpen = true) :
    ∃ t, runAll (feeds.map (dataWrite w c) ++ [.hmResultRead c]) s = some t
      ∧ t.out.data = crcFeed (s.hmChan c).crc (feeds.flatMap fun f => leBytes f.1 f.2.toNat) ^^^ 0xFFFFFFFF := by
  induction feeds generalizing s with
  | nil =>
    obtain ⟨t, run, -, data⟩ := hmResultRead_reads hc hw
    exact ⟨t, runAll_cons run [], data⟩
  | cons f rest ih =>
    obtain ⟨u, run, frame, -, chan⟩ := dataWrite_feeds hc w (hf f List.mem_cons_self) hw ho
    have watch : u.power.watchOn = true := by rw [frame]; exact hw
    obtain ⟨t, runs, data⟩ := ih (fun g hg => hf g (List.mem_cons_of_mem f hg)) u watch (by rw [chan])
    refine ⟨t, (runAll_cons run _).trans runs, ?_⟩
    rw [data, chan, List.flatMap_cons, crcFeed_append]

end

end Sys2Proof.Machine
end

section
open Sys2Proof Sys2Proof.Machine

/-- Settles O43: OPEN folds the context, and each data write adds its bytes to the running value. -/
theorem hallmarkFeeding : Obligations.HallmarkFeeding := by
  intro w c feeds s hc hw hf
  obtain ⟨u, run, frame, -, chan⟩ := hmOpen_opens hc hw
  have watch : u.power.watchOn = true := by rw [frame]; exact hw
  obtain ⟨t, runs, data⟩ := runAll_dataWrites hc w feeds hf u watch (by rw [chan])
  exact ⟨t, (runAll_cons run _).trans runs, by rw [data, chan, crc32c]⟩

end

section
open Sys2Proof Sys2Proof.Machine

/-- Settles O44: each value computed from the context's eight bytes and the data fed after them. -/
theorem hallmarkVectors : Obligations.HallmarkVectors := ⟨by decide +kernel, by decide +kernel⟩

end

/-! SUPPORT. The audit engine's own work (R268, R270, R276): what a record that reaches the ring, the ring's levels, a
numbered record, a GAP record, a CHECKPOINT and a SEAL make of the audit chain. -/
section
namespace Sys2Proof.Machine

/-! ### The levels of the ring (R272) -/

theorem schedToIdle_audit (r : Nat) (s : State) : (schedToIdle r s).audit = s.audit := raiseEv_audit _ _ _

theorem schedStopCheck_audit (s : State) : (schedStopCheck s).audit = s.audit := by
  unfold schedStopCheck
  split
  · split
    · exact schedToIdle_audit _ s
    · rfl
  · rfl

theorem schedStop_audit (r : Nat) (atEnd : Bool) (s : State) : (schedStop r atEnd s).audit = s.audit := by
  unfold schedStop
  split
  · rfl
  · exact schedToIdle_audit r s
  · split
    · rfl
    · split
      · split <;> rfl
      · exact schedStopCheck_audit _

/-- An event that a condition raises. -/
theorem raiseEv_ite_keeps (p : Prop) [Decidable p] (src : Nat) (bs : List Byte) (s : State) :
    (if p then raiseEv src bs s else s).apart = s.apart ∧ (if p then raiseEv src bs s else s).audit = s.audit := by
  split
  · exact ⟨raiseEv_apart src bs s, raiseEv_audit src bs s⟩
  · exact ⟨rfl, rfl⟩

theorem State.apart_setAudit (a : Audit) (s : State) : State.apart { s with audit := a } = s.apart := rfl

theorem auditLevels_apart (s : State) : (auditLevels s).apart = s.apart := by
  unfold auditLevels
  simp only
  rw [State.apart_setAudit, (raiseEv_ite_keeps _ _ _ _).1, (raiseEv_ite_keeps _ _ _ _).1]

theorem auditLevels_audit (s : State) :
    (auditLevels s).audit = { s.audit with nearFull := s.auditNearFull, full := s.auditFull } := by
  unfold auditLevels
  simp only [(raiseEv_ite_keeps _ _ _ _).2]

theorem noteBusy_apart (s : State) : (noteBusy s).apart = s.apart := rfl

theorem noteBusy_audit (s : State) : (noteBusy s).audit = s.audit := rfl

theorem ringChanged_apart (s : State) : (ringChanged s).apart = s.apart := by
  unfold ringChanged
  simp only
  split
  · exact (schedStop_apart _ _ _).trans (auditLevels_apart s)
  · exact auditLevels_apart s

theorem ringChanged_audit (s : State) :
    (ringChanged s).audit = { s.audit with nearFull := s.auditNearFull, full := s.auditFull } := by
  unfold ringChanged
  simp only
  split
  · exact (schedStop_audit _ _ _).trans (auditLevels_audit s)
  · exact auditLevels_audit s

/-! ### A record reaches the ring (R271, R272) -/

theorem mem_insertRec {q r : ARec} (l : List ARec) : q ∈ insertRec r l ↔ q = r ∨ q ∈ l := by
  induction l with
  | nil => simp [insertRec]
  | cons x rest ih =>
    rw [insertRec]
    split
    · simp
    · simp only [List.mem_cons, ih]
      tauto

theorem length_insertRec (r : ARec) (l : List ARec) : (insertRec r l).length = l.length + 1 := by
  induction l with
  | nil => rfl
  | cons x rest ih =>
    rw [insertRec]
    split
    · rfl
    · rw [List.length_cons, ih, List.length_cons]

/-- The ring after the arrival of a record for which it has room: one that is released already does not enter. -/
def Audit.arrived (a : Audit) (r : ARec) : List ARec := if r.seq ≤ a.released then a.ring else insertRec r a.ring

theorem Audit.mem_arrived {a : Audit} {q r : ARec} : q ∈ a.arrived r ↔ q ∈ a.ring ∨ (q = r ∧ a.released < r.seq) := by
  unfold Audit.arrived
  split
  · next h => simp [Nat.not_lt.2 h]
  · next h => simp [mem_insertRec, Nat.lt_of_not_le h, or_comm]

theorem Audit.length_arrived (a : Audit) (r : ARec) : (a.arrived r).length ≤ a.ring.length + 1 := by
  unfold Audit.arrived
  split
  · exact Nat.le_succ _
  · exact (length_insertRec r a.ring).le

theorem State.ringRoom_of_lt {s : State} (h : s.audit.ring.length < ringSize) : s.ringRoom = true := by
  simp [State.ringRoom, h]

theorem ringPut_audit {s : State} (h : s.audit.ring.length < ringSize) (r : ARec) :
    (ringPut r s).audit = { s.audit with ring := s.audit.arrived r } := by
  unfold ringPut Audit.arrived
  split
  · rfl
  · rw [if_pos (Or.inl h)]

/-! ### AUDIT_TRANSFER (R270) -/

/-- The first `n` buffered records, but for those released already, stand in the ring. -/
structure Transfers (s : State) (n : Nat) (t : State) : Prop where
  buffer : t.audit.buffer = s.audit.buffer.drop n
  ring : ∀ r, r ∈ t.audit.ring ↔ r ∈ s.audit.ring ∨ (r ∈ s.audit.buffer.take n ∧ s.audit.released < r.seq)
  count : t.audit.count = s.audit.count
  headHash : t.audit.headHash = s.audit.headHash

/-- The state in which a record has left the buffer and stands, unless it is covered, after the last CHECKPOINTs. -/
def State.unbuffered (r : ARec) (rest : List ARec) (s : State) : State :=
  if s.coveredTo < r.seq then addSince [r] { s with audit := { s.audit with buffer := rest } }
  else { s with audit := { s.audit with buffer := rest } }

theorem State.unbuffered_audit (r : ARec) (rest : List ARec) (s : State) :
    ∃ since signed, (s.unbuffered r rest).audit =
      { s.audit with buffer := rest, sinceCkpt := since, sinceSigned := signed } := by
  unfold State.unbuffered
  split
  · exact ⟨_, _, rfl⟩
  · exact ⟨_, _, rfl⟩

theorem moveRecords_nil {s : State} (hb : s.audit.buffer = []) (n : Nat) : moveRecords (n + 1) s = s := by
  rw [moveRecords, hb]

/-- The first buffered record moves to a ring that has room. -/
theorem moveRecords_cons {s : State} {r : ARec} {rest : List ARec} (hb : s.audit.buffer = r :: rest)
    (hr : s.audit.ring.length < ringSize) (n : Nat) :
    moveRecords (n + 1) s = moveRecords n (ringPut r (s.unbuffered r rest)) := by
  rw [moveRecords, hb]
  exact if_pos (State.ringRoom_of_lt hr)

theorem ringPut_unbuffered_audit {s : State} (hr : s.audit.ring.length < ringSize) (r : ARec) (rest : List ARec) :
    ∃ since signed, (ringPut r (s.unbuffered r rest)).audit = { s.audit with
      buffer := rest, ring := s.audit.arrived r, sinceCkpt := since, sinceSigned := signed } := by
  obtain ⟨since, signed, audit⟩ := s.unbuffered_audit r rest
  have room : (s.unbuffered r rest).audit.ring.length < ringSize := by rw [audit]; exact hr
  exact ⟨since, signed, by rw [ringPut_audit room, audit]; rfl⟩

theorem moveRecords_transfers (n : Nat) : ∀ s : State, s.audit.ring.length + n ≤ ringSize →
    Transfers s n (moveRecords n s) := by
  induction n with
  | zero => exact fun s _ => ⟨rfl, by simp [moveRecords], rfl, rfl⟩
  | succ m ih =>
    intro s room
    cases hb : s.audit.buffer with
    | nil =>
      rw [moveRecords_nil hb]
      exact ⟨by simp [hb], by simp [hb], rfl, rfl⟩
    | cons r rest =>
      have hr : s.audit.ring.length < ringSize := by omega
      have length := s.audit.length_arrived r
      obtain ⟨since, signed, audit⟩ := ringPut_unbuffered_audit hr r rest
      rw [moveRecords_cons hb hr]
      generalize ringPut r (s.unbuffered r rest) = u at *
      obtain ⟨buffer, ring, count, headHash⟩ := ih u (by rw [audit]; simp only; omega)
      rw [audit] at buffer ring count headHash
      refine ⟨by rw [buffer, hb, List.drop_succ_cons], fun q => ?_, count, headHash⟩
      rw [ring, Audit.mem_arrived, hb, List.take_succ_cons, List.mem_cons]
      constructor
      · rintro ((old | ⟨rfl, new⟩) | ⟨later, new⟩)
        · exact .inl old
        · exact .inr ⟨.inl rfl, new⟩
        · exact .inr ⟨.inr later, new⟩
      · rintro (old | ⟨rfl | later, new⟩)
        · exact .inl (.inl old)
        · exact .inl (.inr ⟨rfl, new⟩)
        · exact .inr ⟨later, new⟩

theorem auditTransfer_transfers {n : Nat} {s : State} (hr : s.auditRuns = true)
    (room : s.audit.ring.length + min n 8192 ≤ ringSize) : Gives (.auditTransfer n) s fun t =>
      t.apart = s.apart ∧ t.audit.buffer = s.audit.buffer.drop (min n 8192)
        ∧ (∀ r, r ∈ t.audit.ring ↔
            r ∈ s.audit.ring ∨ (r ∈ s.audit.buffer.take (min n 8192) ∧ s.audit.released < r.seq))
        ∧ t.audit.count = s.audit.count ∧ t.audit.headHash = s.audit.headHash := by
  obtain ⟨buffer, ring, count, headHash⟩ := moveRecords_transfers (min n 8192) s room
  have apart := State.apart_of_base (moveRecords_keeps (min n 8192) s).1
  refine ⟨_, congrArg Host.Outcome.next (if_pos hr), ?_⟩
  beta_reduce
  rw [noteBusy_apart, noteBusy_audit, ringChanged_apart, ringChanged_audit]
  exact ⟨apart, buffer, ring, count, headHash⟩

theorem auditEngine_rests {s : State} (hr : s.auditRuns = false) (n : Nat) :
    Gives (.auditTransfer n) s (fun t => t = s) ∧ Gives .checkpointSign s fun t => t = s := by
  have rests : ¬ s.auditRuns = true := by simp [hr]
  exact ⟨⟨s, congrArg Host.Outcome.next (if_neg rests), rfl⟩, ⟨s, congrArg Host.Outcome.next (if_neg rests), rfl⟩⟩

/-! ### CHECKPOINT_SIGN (R268) -/

theorem placeSigned_audit {s : State} (h : s.audit.ring.length < ringSize) (r : ARec) :
    (placeSigned r s).audit = { s.audit with ring := s.audit.arrived r } := by
  rw [placeSigned, if_pos (State.ringRoom_of_lt h), ringPut_audit h]

/-- Signed records for which the ring has room change the ring alone. -/
theorem forEach_placeSigned_audit (l : List ARec) : ∀ s : State, s.audit.ring.length + l.length ≤ ringSize →
    ∃ ring, (forEach placeSigned l s).audit = { s.audit with ring := ring } := by
  induction l with
  | nil => exact fun s _ => ⟨s.audit.ring, rfl⟩
  | cons r rest ih =>
    intro s room
    rw [List.length_cons] at room
    have placed := placeSigned_audit (s := s) (by omega) r
    have length : (placeSigned r s).audit.ring.length ≤ s.audit.ring.length + 1 := by
      rw [placed]
      exact s.audit.length_arrived r
    obtain ⟨ring, audit⟩ := ih (placeSigned r s) (by omega)
    exact ⟨ring, by rw [forEach, audit, placed]⟩

/-- Bit 4 of a CHECKPOINT's flags marks a block with a record that fails its check (R268). -/
theorem State.signFlags_testBit (s : State) (b : Bool) :
    (s.signFlags + 0 + if b then 0 else 16).testBit 4 = !b := by
  unfold State.signFlags
  cases s.life.auditKey.isSome <;> cases b <;> rfl

/-- A whole block's CHECKPOINT in a ring with room for it and its SIGNATURE records. -/
theorem writeCheckpoint_writes {s : State} (room : s.audit.ring.length + 3 ≤ ringSize) (recs : List ARec) (n seq : Nat)
    {t : State} (ht : t = writeCheckpoint recs n seq false s) :
    t.audit.sinceCkpt = s.audit.sinceCkpt.filter (fun r => decide (r.block ≠ n))
      ∧ t.audit.headHash = sha256 (s.audit.headHash ++ recs.flatMap fun r => (s.readRecord r).take 60)
      ∧ (∃ ck a b, t.audit.lastCheckpoint = [ck, a, b]
          ∧ ck.seq = seq ∧ a.seq = ck.seq + 1 ∧ b.seq = ck.seq + 2
          ∧ ck.body.type_ = 0x80 ∧ a.body.type_ = 0x81 ∧ b.body.type_ = 0x81
          ∧ ck.body.payload = t.audit.headHash ++ leBytes 4 n
          ∧ (ck.body.flags.testBit 4 = true ↔ ∃ r, r ∈ recs ∧ checkFails r.seq (s.readRecord r) = true))
      ∧ t.audit.buffer = s.audit.buffer := by
  subst ht
  have placed (l : List ARec) (h : l.length = 3) : (forEach placeSigned l s).audit.buffer = s.audit.buffer := by
    obtain ⟨ring, audit⟩ := forEach_placeSigned_audit l s (by omega)
    rw [audit]
  unfold writeCheckpoint
  simp only
  rw [forEach_keeps _ State.audit fun (r : ARec) u => raiseEv_audit 0x063 (leBytes 8 r.seq) u]
  refine ⟨rfl, rfl, ⟨_, _, _, rfl, rfl, rfl, rfl, rfl, rfl, rfl, rfl, ?_⟩, ?_⟩
  · refine (Eq.congr_left (s.signFlags_testBit _)).trans ?_
    simp [List.filter_eq_nil_iff]
  · simp only
    exact placed _ rfl

theorem checkpointSign_signs {n : Nat} {s : State} (hr : s.auditRuns = true) (hd : s.blockDue = some n)
    (room : s.audit.ring.length + 3 ≤ ringSize) : Gives .checkpointSign s fun t =>
      t.apart = s.apart ∧ t.audit.sinceCkpt = s.audit.sinceCkpt.filter (fun r => decide (r.block ≠ n))
        ∧ t.audit.headHash = sha256 (s.audit.headHash ++ (s.blockRecords n).flatMap fun r => (s.readRecord r).take 60)
        ∧ (∃ ck a b, t.audit.lastCheckpoint = [ck, a, b]
            ∧ ck.seq = auditSeq s.audit.epoch (259 * n + 256) ∧ a.seq = ck.seq + 1 ∧ b.seq = ck.seq + 2
            ∧ ck.body.type_ = 0x80 ∧ a.body.type_ = 0x81 ∧ b.body.type_ = 0x81
            ∧ ck.body.payload = t.audit.headHash ++ leBytes 4 n
            ∧ (ck.body.flags.testBit 4 = true ↔ ∃ r, r ∈ s.blockRecords n ∧ checkFails r.seq (s.readRecord r) = true))
        ∧ t.audit.buffer = s.audit.buffer := by
  have signs : signBlock s
      = writeCheckpoint (s.blockRecords n) n (auditSeq s.audit.epoch (259 * n + 256)) false s := by
    unfold signBlock
    rw [hd]
    exact if_neg fun full => by omega
  have apart := State.apart_of_base (signBlock_keeps s).1
  refine ⟨_, congrArg Host.Outcome.next (if_pos hr), ?_⟩
  beta_reduce
  rw [ringChanged_apart, ringChanged_audit]
  exact ⟨apart, writeCheckpoint_writes room _ _ _ signs⟩

/-! ### The record builder (R260, R270) -/

theorem wakeForge_audit (s : State) : (wakeForge s).audit = s.audit := by
  unfold wakeForge
  split <;> rfl

theorem buildRecord_audit (b : ABody) (s : State) : (buildRecord b s).audit = { s.audit with
    buffer := s.audit.buffer ++ [makeRecord (auditSeq s.audit.epoch s.audit.count) b]
    count := nextCount s.audit.count } := by
  unfold buildRecord
  simp only
  split
  · exact wakeForge_audit _
  · rfl

theorem nextCount_le (c : Nat) : nextCount c ≤ c + 4 := by
  unfold nextCount
  split
  · exact le_rfl
  · omega

/-- The builder takes `k` more records without a GAP record and within the epoch. -/
structure State.Builds (s : State) (k : Nat) : Prop where
  watch : s.power.watchOn = true
  epoch : s.audit.closed = false
  room : s.audit.buffer.length + k ≤ 8192
  dropped : s.audit.dropped = 0
  wasOn : s.audit.watchWasOff = false
  count : s.audit.count + 4 * k + 8 < 2 ^ 40

section
variable {s : State} {k : Nat} (h : s.Builds k)
include h

theorem State.Builds.turnEpoch_eq : turnEpoch s = s :=
  if_neg (by have := h.count; simp only [State.epochFull, decide_eq_true_eq]; omega)

theorem State.Builds.gapIfDue_eq : gapIfDue s = s := by
  unfold gapIfDue
  split
  · rfl
  · rw [if_neg (by simp [h.wasOn]), if_pos h.dropped]

end

section
variable {s : State} {k : Nat} (h : s.Builds (k + 1))
include h

theorem State.Builds.auditBody_eq (b : ABody) : auditBody b s = buildRecord b s := by
  have room : s.bufferRoom = true := by
    have := h.room
    simp only [State.bufferRoom, decide_eq_true_eq]
    omega
  unfold auditBody
  rw [if_neg (by simp [h.watch]), if_neg (by simp [h.epoch]), h.turnEpoch_eq, h.gapIfDue_eq]
  exact if_pos room

theorem State.Builds.auditBody_audit (b : ABody) : (auditBody b s).audit = { s.audit with
    buffer := s.audit.buffer ++ [makeRecord (auditSeq s.audit.epoch s.audit.count) b]
    count := nextCount s.audit.count } := by
  rw [h.auditBody_eq, buildRecord_audit]

theorem State.Builds.auditBody (b : ABody) : (auditBody b s).Builds k := by
  have count := nextCount_le s.audit.count
  have built := h.auditBody_audit b
  obtain ⟨watch, epoch, room, dropped, wasOn, epochRoom⟩ := h
  have keeps := (congrArg (fun u : State => u.power.watchOn) (auditBody_base b s) :)
  refine ⟨keeps.trans watch, ?_, ?_, ?_, ?_, ?_⟩ <;> rw [built]
  · exact epoch
  · rw [List.length_append, List.length_singleton]
    omega
  · exact dropped
  · exact wasOn
  · show nextCount s.audit.count + 4 * k + 8 < 2 ^ 40
    omega

/-- The record of a happening that comes now. -/
theorem audit_of_builds (ty : Nat) (p : List Byte) : ∃ r : ARec, (audit ty p s).audit = { s.audit with
      buffer := s.audit.buffer ++ [r], count := nextCount s.audit.count } ∧ r.body.type_ = ty :=
  ⟨_, h.auditBody_audit (s.body ty p), rfl⟩

theorem audit_builds (ty : Nat) (p : List Byte) : (audit ty p s).Builds k := h.auditBody (s.body ty p)

end

/-! ### AUDIT_GAP_RECORD (R270) -/

/-- A GAP record is written where records were dropped, and none where no record was. -/
theorem auditGapRecord_reports {s : State} (hc : s.audit.closed = false) (hw : s.power.watchOn = true)
    (hb : s.audit.buffer.length < 8192) (ho : s.audit.watchWasOff = false) :
    (s.audit.dropped = 0 → Gives .auditGapRecord s fun t => t = s)
    ∧ (s.audit.dropped ≠ 0 → Gives .auditGapRecord s fun t =>
        Same s t ∧ t.audit.dropped = 0 ∧ t.audit.count = nextCount s.audit.count
          ∧ t.audit.buffer = s.audit.buffer ++ [makeRecord (auditSeq s.audit.epoch s.audit.count)
              (s.body 0x12 (leBytes 4 s.audit.dropped ++ time96Bytes s.audit.dropFirst
                ++ time96Bytes s.audit.dropLast ++ [0#8]))]) := by
  have serves : ¬ (s.audit.closed = true ∨ (!s.power.watchOn) = true ∨ (!s.bufferRoom) = true) := by
    simp [hc, hw, State.bufferRoom, hb]
  have wasOn : ¬ s.audit.watchWasOff = true := by simp [ho]
  refine ⟨fun hd => ⟨_, rfl, ?_⟩, fun hd => ⟨_, rfl, gapIfDue_keeps s, ?_⟩⟩
  · rw [gapIfDue, if_neg serves, if_neg wasOn, if_pos hd]
  · rw [gapIfDue, if_neg serves, if_neg wasOn, if_neg hd]
    simp only [raiseEv_audit, buildRecord_audit]
    exact ⟨trivial, trivial, trivial⟩

/-! ### SEAL_COMPLETE (R276) -/

/-- The seal is no longer due. -/
def State.sealing (s : State) : State := { s with audit := { s.audit with sealDue := none, sealed := true } }

/-- The SEAL and the two halves of its signature as the builder numbers them. -/
def sealRecords (p q : List Byte) (s : State) : State :=
  audit 0x81 q (audit 0x81 p (auditBody (sealBody s).1 s.sealing))

/-- The seal's completion where the builder has room for its three records. -/
theorem sealComplete_eq {s : State} (hr : s.auditRuns = true) (hd : s.audit.sealDue ≠ none) (hb : s.Builds 3) :
    ∃ p q, exec .sealComplete s = .next (raiseEv 0x064 (leBytes 8 (auditSeq s.audit.epoch s.audit.count))
      { sealRecords p q s with audit := { (sealRecords p q s).audit with prevHead := (sealBody s).2 } }) := by
  obtain ⟨⟨k, at_⟩, hk⟩ := Option.ne_none_iff_exists'.1 hd
  have serves : ¬ ((!s.auditRuns) = true ∨ s.audit.closed = true ∨ 8192 < s.audit.buffer.length + 3) := by
    simp [hr, hb.epoch, hb.room]
  change ∃ p q, execSealComplete s = _
  unfold execSealComplete
  rw [hk]
  simp only [hb.turnEpoch_eq, hb.gapIfDue_eq]
  rw [if_neg serves]
  exact ⟨_, _, rfl⟩

theorem sealRecords_same (p q : List Byte) (s : State) : Same s (sealRecords p q s) :=
  Same.trans (Same.trans (auditBody_keeps (sealBody s).1 s.sealing) (audit_same 0x81 p _)) (audit_same 0x81 q _)

theorem sealRecords_of_builds {s : State} (hb : s.Builds 3) (p q : List Byte) : ∃ count a b,
    (sealRecords p q s).audit = { s.audit with
        sealDue := none, sealed := true, count := count
        buffer := s.audit.buffer ++ [makeRecord (auditSeq s.audit.epoch s.audit.count) (sealBody s).1, a, b] }
      ∧ a.body.type_ = 0x81 ∧ b.body.type_ = 0x81 := by
  have three : s.sealing.Builds 3 := { hb with }
  have placed := three.auditBody_audit (sealBody s).1
  have two := three.auditBody (sealBody s).1
  unfold sealRecords
  generalize auditBody (sealBody s).1 s.sealing = u at *
  obtain ⟨a, first, typeA⟩ := audit_of_builds two 0x81 p
  have one := audit_builds two 0x81 p
  generalize audit 0x81 p u = v at *
  obtain ⟨b, second, typeB⟩ := audit_of_builds one 0x81 q
  refine ⟨nextCount v.audit.count, a, b, ?_, typeA, typeB⟩
  rw [second, first, placed]
  simp only [List.append_assoc]
  rfl

theorem sealComplete_seals {s : State} (hr : s.auditRuns = true) (hd : s.audit.sealDue ≠ none) (hb : s.Builds 3) :
    Gives .sealComplete s fun t =>
      Same s t ∧ t.audit.sealDue = none ∧ t.audit.sealed = true ∧ t.audit.prevHead = (sealBody s).2
        ∧ ∃ a b, t.audit.buffer = s.audit.buffer
            ++ [makeRecord (auditSeq s.audit.epoch s.audit.count) (sealBody s).1, a, b]
          ∧ a.body.type_ = 0x81 ∧ b.body.type_ = 0x81 := by
  obtain ⟨p, q, run⟩ := sealComplete_eq hr hd hb
  obtain ⟨count, a, b, audit, first, second⟩ := sealRecords_of_builds hb p q
  have records := sealRecords_same p q s
  generalize sealRecords p q s = u at *
  have head : Same u { u with audit := { u.audit with prevHead := (sealBody s).2 } } := ⟨rfl, SessionsStill.of_eq rfl⟩
  refine ⟨_, run, Same.trans (Same.trans records head) (raiseEv_same _ _ _), ?_⟩
  rw [raiseEv_audit, audit]
  exact ⟨rfl, rfl, rfl, a, b, rfl, first, second⟩

end Sys2Proof.Machine
end

section
open Sys2Proof Sys2Proof.Machine

/-- Settles O40: each record of a transfer as it reaches the ring, a GAP and a SEAL by what the builder numbers, a
CHECKPOINT by what it writes. -/
theorem auditEngine : Obligations.AuditEngine :=
  ⟨fun _ _ => auditTransfer_transfers, fun n _ hr => auditEngine_rests hr n, fun _ => auditGapRecord_reports,
    fun _ _ => checkpointSign_signs, fun _ hr hd hc hb h0 hw hn => sealComplete_seals hr hd
      ⟨(Bool.and_eq_true_iff.1 hr).1, hc, hb, h0, hw, by omega⟩⟩

end

/-! SUPPORT. The Keeper and its Anvils (R289 to R306): what a change of its state, a declared failure, a reset and a
rebuild leave of the arbiter, of each Anvil and of the rest. -/
section
namespace Sys2Proof.Machine

/-! ### The arbiter, its Anvils and the rest -/

/-- What the arbiter holds apart from its Anvils and KPR_HISTORY. -/
def State.arbiter (s : State) : Keeper := { s.keeper with a := {}, b := {}, history := [] }

/-- `t` is `s` but for the Keeper, events and records. -/
def KeeperOnly (s t : State) : Prop := Same { s with keeper := t.keeper } t

/-- `t` is `s` but for the Keeper, the Anvils' lanes, events and records. -/
def AnvilsOnly (s t : State) : Prop := Same { s with keeper := t.keeper, lanesA := t.lanesA, lanesB := t.lanesB } t

section
variable {s t u : State}

theorem Same.arbiter (h : Same s t) : t.arbiter = s.arbiter := (congrArg State.arbiter h.1 :)

theorem Same.anvil (h : Same s t) (v : Anvil) : t.anvil v = s.anvil v := (congrArg (State.anvil · v) h.1 :)

theorem Same.objs (h : Same s t) : t.objs = s.objs := (congrArg State.objs h.1 :)

theorem KeeperOnly.of_base (h : t.base = { s with keeper := t.keeper }.base) (hs : t.sessions = s.sessions) :
    KeeperOnly s t := ⟨h, SessionsStill.of_eq hs⟩

theorem KeeperOnly.of_same (h : Same s t) : KeeperOnly s t :=
  ⟨h.1.trans (congrArg (fun b : State => { s.base with keeper := b.keeper }) h.1).symm, h.2⟩

theorem KeeperOnly.trans (h : KeeperOnly s t) (k : KeeperOnly t u) : KeeperOnly s u :=
  ⟨k.1.trans (congrArg (fun b : State => { b with keeper := u.base.keeper }) h.1), SessionsStill.trans h.2 k.2⟩

theorem KeeperOnly.elems (h : KeeperOnly s t) : t.elems = s.elems := (congrArg State.elems h.1 :)

/-- Events and records after a change of the Keeper. -/
theorem Same.keeperOnly (h : Same t u) (ht : t.base = { s with keeper := t.keeper }.base)
    (hs : t.sessions = s.sessions) : KeeperOnly s u := (KeeperOnly.of_base ht hs).trans (.of_same h)

theorem KeeperOnly.anvilsOnly (h : KeeperOnly s t) : AnvilsOnly s t := by
  have lanesA : t.lanesA = s.lanesA := Same.lanesA (s := { s with keeper := t.keeper }) h
  have lanesB : t.lanesB = s.lanesB := Same.lanesB (s := { s with keeper := t.keeper }) h
  unfold AnvilsOnly
  rw [lanesA, lanesB]
  exact h

theorem AnvilsOnly.of_base (h : t.base = { s with keeper := t.keeper, lanesA := t.lanesA, lanesB := t.lanesB }.base)
    (hs : t.sessions = s.sessions) : AnvilsOnly s t := ⟨h, SessionsStill.of_eq hs⟩

theorem AnvilsOnly.of_same (h : Same s t) : AnvilsOnly s t := (KeeperOnly.of_same h).anvilsOnly

theorem AnvilsOnly.trans (h : AnvilsOnly s t) (k : AnvilsOnly t u) : AnvilsOnly s u :=
  ⟨k.1.trans (congrArg (fun b : State => { b with
    keeper := u.base.keeper, lanesA := u.lanesA, lanesB := u.lanesB }) h.1), SessionsStill.trans h.2 k.2⟩

/-- What is `t` but for batches, the schedule and the planner is `s` but for these, the Keeper and the lanes. -/
theorem AnvilsOnly.apart (h : AnvilsOnly s t) (k : u.apart = t.apart) :
    u.apart = { s with keeper := u.keeper, lanesA := u.lanesA, lanesB := u.lanesB }.apart :=
  k.trans ((State.apart_of_base h.1).trans
    (congrArg (fun b : State => { s.apart with keeper := b.keeper, lanesA := b.lanesA, lanesB := b.lanesB }) k).symm)

end

theorem otherAnvil_otherAnvil (v : Anvil) : otherAnvil (otherAnvil v) = v := by cases v <;> rfl

section
variable (s : State) (v w : Anvil) (cause : Nat)

@[simp] theorem State.setAnvil_arbiter (x : AnvilSt) : (s.setAnvil v x).arbiter = s.arbiter := by cases v <;> rfl

theorem setAnvil_keeperOnly (x : AnvilSt) : KeeperOnly s (s.setAnvil v x) := .of_base rfl rfl

/-! ### Events about an Anvil, and a change of the Keeper's state -/

theorem anvilEvent_same (src : Nat) : Same s (anvilEvent src v cause s) := raiseEv_same _ _ _

@[simp] theorem anvilEvent_anvil (src : Nat) : (anvilEvent src v cause s).anvil w = s.anvil w :=
  (anvilEvent_same s v cause src).anvil w

@[simp] theorem anvilEvent_arbiter (src : Nat) : (anvilEvent src v cause s).arbiter = s.arbiter :=
  (anvilEvent_same s v cause src).arbiter

theorem outEvent_same : Same s (outEvent v cause s) := by
  unfold outEvent
  split
  · exact anvilEvent_same s v cause _
  · exact Same.refl s

@[simp] theorem outEvent_anvil : (outEvent v cause s).anvil w = s.anvil w := (outEvent_same s v cause).anvil w

@[simp] theorem outEvent_arbiter : (outEvent v cause s).arbiter = s.arbiter := (outEvent_same s v cause).arbiter

variable (k : KState)

/-- The Keeper in another state, its counts of drive sources with it (R289, R308). -/
def State.keeperIn : State :=
  { s with keeper := { s.keeper with
    state := k, lastCause := cause
    failovers := if sourceCode s.keeper.state.source = sourceCode k.source then s.keeper.failovers
      else (s.keeper.failovers + 1) % 4294967296
    lastFailover := if sourceCode s.keeper.state.source = sourceCode k.source then s.keeper.lastFailover else s.now } }

theorem changeState_same : Same (s.keeperIn cause k) (changeState k cause s) :=
  (raiseEv_same _ _ _).trans (audit_same _ _ _)

theorem State.keeperIn_anvil : (s.keeperIn cause k).anvil v = s.anvil v := by cases v <;> rfl

/-- Events and records after a change of the Keeper's state. -/
theorem Same.keeperIn_keeperOnly {s t : State} {cause : Nat} {k : KState} (h : Same (s.keeperIn cause k) t) :
    KeeperOnly s t := h.keeperOnly rfl rfl

theorem Same.keeperIn_state {s t : State} {cause : Nat} {k : KState} (h : Same (s.keeperIn cause k) t) :
    t.keeper.state = k := (congrArg Keeper.state h.arbiter :)

theorem Same.keeperIn_lastCause {s t : State} {cause : Nat} {k : KState} (h : Same (s.keeperIn cause k) t) :
    t.keeper.lastCause = cause := (congrArg Keeper.lastCause h.arbiter :)

theorem Same.keeperIn_anvil {s t : State} {cause : Nat} {k : KState} (h : Same (s.keeperIn cause k) t) (v : Anvil) :
    t.anvil v = s.anvil v := (h.anvil v).trans (s.keeperIn_anvil v cause k)

@[simp] theorem changeState_anvil : (changeState k cause s).anvil v = s.anvil v :=
  (changeState_same s cause k).keeperIn_anvil v

theorem changeState_keeperOnly : KeeperOnly s (changeState k cause s) :=
  (changeState_same s cause k).keeperIn_keeperOnly

/-! ### Reset, rebuild and removal of an Anvil -/

@[simp] theorem resetLanes_anvil : (resetLanes v s).anvil w = s.anvil w := by cases v <;> cases w <;> rfl

@[simp] theorem resetLanes_arbiter : (resetLanes v s).arbiter = s.arbiter := by cases v <;> rfl

theorem resetLanes_anvilsOnly : AnvilsOnly s (resetLanes v s) := by cases v <;> exact .of_base rfl rfl

@[simp] theorem resetAnvil_arbiter : (resetAnvil v s).arbiter = s.arbiter := by simp [resetAnvil]

theorem resetAnvil_self : (resetAnvil v s).anvil v = { s.anvil v with
    state := .selftest, standbySince := 0, step := 0, rebuilding := false, missed := 0, implausible := 0, implNow := 0
    odd := [], oddNow := [], lateSlots := 0, resyncStart := s.time.elapsed } := by simp [resetAnvil]

theorem resetAnvil_other (h : w ≠ v) : (resetAnvil v s).anvil w = s.anvil w := by simp [resetAnvil, h]

theorem resetAnvil_anvilsOnly : AnvilsOnly s (resetAnvil v s) :=
  (setAnvil_keeperOnly s v _).anvilsOnly.trans (resetLanes_anvilsOnly _ v)

theorem startRebuild_keeperOnly : KeeperOnly s (startRebuild v s) :=
  (anvilEvent_same _ v 9 0x205).keeperOnly rfl rfl

theorem releaseForge_anvil : (releaseForge s).anvil v = s.anvil v := by cases v <;> rfl

theorem startRebuild_arbiter : (startRebuild v s).arbiter = s.arbiter :=
  (anvilEvent_arbiter _ v 9 0x205).trans (s.setAnvil_arbiter v _)

theorem startRebuild_other (h : w ≠ v) : (startRebuild v s).anvil w = s.anvil w := by
  simp [startRebuild, releaseForge_anvil, h]

theorem rebuildIfWaiting_keeperOnly : KeeperOnly s (rebuildIfWaiting v s) := by
  unfold rebuildIfWaiting
  split
  · exact startRebuild_keeperOnly s v
  · exact .of_same (.refl s)

@[simp] theorem rebuildIfWaiting_arbiter : (rebuildIfWaiting v s).arbiter = s.arbiter := by
  unfold rebuildIfWaiting
  split
  · exact startRebuild_arbiter s v
  · rfl

theorem rebuildIfWaiting_other (h : w ≠ v) : (rebuildIfWaiting v s).anvil w = s.anvil w := by
  unfold rebuildIfWaiting
  split
  · exact startRebuild_other s v w h
  · rfl

/-- With a drive source nothing rebuilds. -/
theorem rebuildIfWaiting_driven (h : s.failStatic = false) : rebuildIfWaiting v s = s := if_neg (by simp [h])

/-! ### A failed Anvil (R296, R299) -/

variable (wait : Bool)

@[simp] theorem failAnvil_arbiter : (failAnvil v cause wait s).arbiter = s.arbiter := by
  unfold failAnvil
  simp only
  split
  · simp
  · split <;> simp

theorem failAnvil_other (h : w ≠ v) : (failAnvil v cause wait s).anvil w = s.anvil w := by
  unfold failAnvil
  simp only
  split
  · simp [h]
  · split
    · simp [h]
    · rw [resetAnvil_other _ _ _ h]
      simp [h]

theorem failAnvil_anvilsOnly : AnvilsOnly s (failAnvil v cause wait s) := by
  unfold failAnvil
  simp only
  split
  · exact (KeeperOnly.of_base rfl rfl).anvilsOnly
  · split
    · exact (KeeperOnly.of_base rfl rfl).anvilsOnly
    · exact (setAnvil_keeperOnly s v _).anvilsOnly.trans (resetAnvil_anvilsOnly _ v)

/-- A failed Anvil that does not wait for the host is out, or runs its self-test. -/
theorem failAnvil_self : ((failAnvil v cause false s).anvil v).cause = cause
    ∧ ((failAnvil v cause false s).anvil v).failTime = s.now
    ∧ ((failAnvil v cause false s).anvil v).state = if s.failsOut v then .out else .selftest := by
  unfold failAnvil
  simp only [Bool.false_eq_true, if_false]
  split
  · simp
  · rw [resetAnvil_self]
    simp

end

end Sys2Proof.Machine
end

/-! SUPPORT. The loops that an incoming Anvil takes over (R286, R294, R303): what their updates leave. -/
section
namespace Sys2Proof.Machine

/-- The Keeper without its tallies of codes (R284, R286) and KPR_HISTORY. -/
def Keeper.untallied (k : Keeper) : Keeper :=
  { k with
    heldCodes := 0, history := []
    a := { k.a with implNow := 0, oddNow := [] }, b := { k.b with implNow := 0, oddNow := [] } }

/-- The state without what the update of a loop changes, and without events and records. -/
def State.loopless (s : State) : State := { s.base with elems := [], notches := [], keeper := s.keeper.untallied }

section
variable {s t : State}

theorem State.loopless_of_base (h : t.base = s.base) : t.loopless = s.loopless :=
  congrArg (fun b : State => { b with elems := [], notches := [], keeper := b.keeper.untallied }) h

theorem State.apart_of_loopless (h : t.loopless = s.loopless) :
    t.apart = { s with keeper := t.keeper, elems := t.elems, notches := t.notches }.apart :=
  congrArg (fun b : State => { b with
    keeper := t.base.keeper, elems := t.elems, notches := t.notches
    batches := [], closed := [], lateBatches := 0, sched := {}, planner := {}, image := none, legs := [], out := {} }) h

/-- What the loops leave where the Keeper and the lanes have changed before. -/
theorem AnvilsOnly.apart_of_loopless {u : State} (h : AnvilsOnly s t) (k : u.loopless = t.loopless) :
    u.apart = { s with
      keeper := u.keeper, elems := u.elems, notches := u.notches, lanesA := u.lanesA, lanesB := u.lanesB }.apart := by
  have lanesA : u.lanesA = t.lanesA := (congrArg State.lanesA k :)
  have lanesB : u.lanesB = t.lanesB := (congrArg State.lanesB k :)
  rw [lanesA, lanesB]
  exact (State.apart_of_loopless k).trans (congrArg (fun b : State => State.apart { b with
    keeper := u.base.keeper, elems := u.elems, notches := u.notches }) h.1)

theorem State.keeper_of_loopless (h : t.loopless = s.loopless) : t.keeper.untallied = s.keeper.untallied :=
  congrArg State.keeper h

theorem State.loopless_anvil (s : State) (v : Anvil) :
    s.loopless.anvil v = { s.anvil v with implNow := 0, oddNow := [] } := by cases v <;> rfl

theorem State.anvil_of_loopless (h : t.loopless = s.loopless) (v : Anvil) :
    ({ t.anvil v with implNow := 0, oddNow := [] } : AnvilSt) = { s.anvil v with implNow := 0, oddNow := [] } := by
  rw [← t.loopless_anvil, h, s.loopless_anvil]

end

section
variable (s : State) (v : Anvil) (e : Nat)

/-! ### One update -/

theorem State.setElem_loopless (x : Elem) : (s.setElem e x).loopless = s.loopless := rfl

theorem State.putLoop_loopless (l : LoopSt) : (s.putLoop e l).loopless = s.loopless := by
  unfold State.putLoop
  split <;> rfl

theorem setAnvil_tallies_loopless (n : Nat) (l : List (Nat × Nat)) :
    (s.setAnvil v { s.anvil v with implNow := n, oddNow := l }).loopless = s.loopless := by cases v <;> rfl

theorem signCode_loopless (c written : Nat) : (signCode v e c written s).loopless = s.loopless := by
  unfold signCode
  split
  · rfl
  · exact setAnvil_tallies_loopless s v _ _

theorem countImplausible_loopless : (countImplausible v s).loopless = s.loopless :=
  setAnvil_tallies_loopless s v _ _

theorem selectCode_loopless (bad : List (Anvil × Nat × Nat)) (c : Nat) :
    (selectCode bad v e c s).loopless = s.loopless := by
  unfold selectCode
  extract_lets x o runs cv co iv both s0 s1 s2 _ s3 s4
  have h0 : s0.loopless = s.loopless := by
    refine (signCode_loopless _ _ _ _ _).trans ?_
    split
    · exact signCode_loopless _ _ _ _ _
    · rfl
  have h1 : s1.loopless = s0.loopless := by
    simp only [s1]
    split
    · exact countImplausible_loopless _ _
    · rfl
  have h2 : s2.loopless = s1.loopless := by
    simp only [s2]
    split
    · exact countImplausible_loopless _ _
    · rfl
  have h3 : s3.loopless = s2.loopless := by
    simp only [s3]
    split <;> rfl
  have h4 : s4.loopless = s3.loopless := by
    simp only [s4]
    split
    · exact State.loopless_of_base (raiseLimited_base _ _ _ _ _)
    · rfl
  exact (State.setElem_loopless _ _ _).trans (h4.trans (h3.trans (h2.trans (h1.trans h0))))

theorem updateNow_loopless (bad : List (Anvil × Nat × Nat)) : (updateNow bad v e s).loopless = s.loopless :=
  (State.setElem_loopless _ _ _).trans ((selectCode_loopless _ _ _ _ _).trans (State.putLoop_loopless _ _ _))

/-! ### The hand-overs of every loop -/

theorem takeOverElem_loopless : (takeOverElem v e s).loopless = s.loopless := by
  unfold takeOverElem
  split
  · exact (updateNow_loopless _ _ _ _).trans (State.putLoop_loopless _ _ _)
  · rfl

theorem rebuildElem_loopless : (rebuildElem v e s).loopless = s.loopless :=
  (updateNow_loopless _ _ _ _).trans (State.putLoop_loopless _ _ _)

theorem forEach_takeOverElem_loopless (l : List Nat) : (forEach (takeOverElem v) l s).loopless = s.loopless :=
  forEach_keeps _ State.loopless (fun e t => takeOverElem_loopless t v e) _ _

theorem forEach_rebuildElem_loopless (l : List Nat) : (forEach (rebuildElem v) l s).loopless = s.loopless :=
  forEach_keeps _ State.loopless (fun e t => rebuildElem_loopless t v e) _ _

end

end Sys2Proof.Machine
end

/-! SUPPORT. The loss of an Anvil (R290 to R293, R299, R301): a declared failure by who drives and whether the other
Anvil stands by, the decision of R291, and the boundary of a failover. -/
section
namespace Sys2Proof.Machine

/-! ### Declaring an Anvil failed -/

/-- A failure of either Anvil ends the revert, the swap, the removal and the decision that were due (R298). -/
def State.givenUp (s : State) : State :=
  { s with keeper := { s.keeper with
    revertAt := none, swapAsked := false, removeAfter := none, moved := false, differ := none, verdict := none } }

/-- An Anvil is commanded to drive (R293). -/
def State.driveGiven (s : State) (v : Anvil) (cause lost : Nat) : State :=
  { s with keeper := { s.keeper with takeover := some (v, cause, lost), handHold := !s.atHold } }

/-- The codes hold, and travels are noted (R301, R302). -/
def State.driveless (s : State) : State :=
  { s with keeper := { s.keeper with takeover := none, entry := s.entryTravels } }

theorem State.givenUp_anvil (s : State) (v : Anvil) : s.givenUp.anvil v = s.anvil v := by cases v <;> rfl

theorem givenUp_keeperOnly (s : State) : KeeperOnly s s.givenUp := .of_base rfl rfl

theorem State.driveGiven_base {s t : State} (h : Same s t) (v : Anvil) (cause lost : Nat) :
    (t.driveGiven v cause lost).base = (s.driveGiven v cause lost).base := by
  have hold : t.atHold = s.atHold := by rw [State.atHold, h.time, ← State.atHold]
  unfold State.driveGiven
  rw [hold]
  exact congrArg (fun b : State => { b with keeper := { b.keeper with
    takeover := some (v, cause, lost), handHold := !s.atHold } }) h.1

theorem driveGiven_keeperOnly (s : State) (v : Anvil) (cause lost : Nat) : KeeperOnly s (s.driveGiven v cause lost) :=
  .of_base rfl rfl

theorem State.driveGiven_anvil (s : State) (v w : Anvil) (cause lost : Nat) :
    (s.driveGiven v cause lost).anvil w = s.anvil w := by cases w <;> rfl

theorem driveless_keeperOnly (s : State) : KeeperOnly s s.driveless := .of_base rfl rfl

theorem enterFailStatic_same (cause : Nat) (s : State) :
    Same (s.driveless.keeperIn cause .failStatic) (enterFailStatic cause s) :=
  (changeState_same _ _ _).trans (raiseEv_same _ _ _)

theorem enterFailStatic_keeperOnly (cause : Nat) (s : State) : KeeperOnly s (enterFailStatic cause s) :=
  (driveless_keeperOnly s).trans (enterFailStatic_same cause s).keeperIn_keeperOnly

/-- The state after the failure of an Anvil. -/
def State.failed (s : State) (v : Anvil) (cause : Nat) (wait : Bool) : State := failAnvil v cause wait s.givenUp

section
variable (s : State) (v w : Anvil) (cause : Nat) (wait : Bool)

theorem failed_arbiter : (s.failed v cause wait).arbiter = s.givenUp.arbiter := failAnvil_arbiter _ _ _ _

theorem failed_anvilsOnly : AnvilsOnly s (s.failed v cause wait) :=
  (givenUp_keeperOnly s).anvilsOnly.trans (failAnvil_anvilsOnly _ v cause wait)

theorem failed_other (h : w ≠ v) : (s.failed v cause wait).anvil w = s.anvil w :=
  (failAnvil_other _ v w cause wait h).trans (s.givenUp_anvil w)

theorem failed_self : ((s.failed v cause false).anvil v).cause = cause
    ∧ ((s.failed v cause false).anvil v).failTime = s.now
    ∧ ((s.failed v cause false).anvil v).state = if s.failsOut v then .out else .selftest := by
  have out : s.givenUp.failsOut v = s.failsOut v := by
    unfold State.failsOut State.failsNow State.recentFails
    rw [s.givenUp_anvil]
    rfl
  have self := failAnvil_self s.givenUp v cause
  rw [out] at self
  exact self

end

/-- An Anvil that can be commanded to drive (R293). -/
def State.standsBy (s : State) (v : Anvil) : Bool :=
  decide ((s.anvil v).state = .standby) && decide ((s.anvil v).missed < 2)

/-- The driving Anvil has failed and another one is commanded: the state before it takes over the elements. -/
def State.commandedBy (s : State) (v : Anvil) (cause lost : Nat) : State :=
  (outEvent v cause (anvilEvent 0x203 v cause s)).driveGiven (otherAnvil v) cause lost

/-- The driving Anvil has failed with none to follow: the state before the schedule stops. -/
def State.lostDrive (s : State) (v : Anvil) (cause lost : Nat) : State :=
  outEvent v cause (rebuildIfWaiting (otherAnvil v) (anvilEvent 0x203 v cause
    (enterFailStatic cause { s with keeper := { s.keeper with lastGood := lost } })))

section
variable (s : State) (v : Anvil) (cause lost : Nat)

/-- A declared failure: of the driving Anvil with a standby, of it without one, and of another Anvil. -/
theorem declareFailed_eq : declareFailed v cause lost s =
    (let drives := decide (s.givenUp.activeAnvil = some v)
    let u := s.failed v cause (drives && decide ((s.givenUp.anvil (otherAnvil v)).state = .out))
    if drives ∧ s.givenUp.standsBy (otherAnvil v) ∧ s.givenUp.keeper.takeover.isNone then
      forEach (takeOverElem (otherAnvil v)) (u.commandedBy v cause lost).runningElems (u.commandedBy v cause lost)
    else if drives then schedStop 3 false (u.lostDrive v cause lost)
    else outEvent v cause (anvilEvent 0x203 v cause
      (if u.duplex ∧ u.keeper.takeover.isNone then changeState (simplexOf (otherAnvil v)) cause u else u))) := rfl

theorem State.givenUp_activeAnvil : s.givenUp.activeAnvil = s.activeAnvil := rfl

theorem State.givenUp_takeover : s.givenUp.keeper.takeover = s.keeper.takeover := rfl

variable {s v}

/-- The standby is commanded to drive, and takes over the elements at a boundary of their rate. -/
theorem declareFailed_commands (hd : s.activeAnvil = some v) (hs : (s.anvil (otherAnvil v)).state = .standby)
    (hm : (s.anvil (otherAnvil v)).missed < 2) (ht : s.keeper.takeover = none) :
    (declareFailed v cause lost s).loopless
      = ((s.failed v cause false).driveGiven (otherAnvil v) cause lost).loopless := by
  have commanded : (declareFailed v cause lost s).loopless
      = ((s.failed v cause false).commandedBy v cause lost).loopless := by
    rw [declareFailed_eq]
    simp only [s.givenUp_activeAnvil, s.givenUp_takeover, s.givenUp_anvil, State.standsBy, hd, hs, hm, ht]
    exact forEach_takeOverElem_loopless _ _ _
  exact commanded.trans (State.loopless_of_base (State.driveGiven_base
    ((anvilEvent_same _ v cause 0x203).trans (outEvent_same _ v cause)) _ _ _))

/-- With no standby the codes hold and the schedule stops. -/
theorem declareFailed_lostDrive (hd : s.activeAnvil = some v) (hs : (s.anvil (otherAnvil v)).state ≠ .standby) :
    ∃ wait, declareFailed v cause lost s = schedStop 3 false ((s.failed v cause wait).lostDrive v cause lost) := by
  refine ⟨decide ((s.anvil (otherAnvil v)).state = .out), ?_⟩
  rw [declareFailed_eq]
  simp [s.givenUp_activeAnvil, s.givenUp_anvil, State.standsBy, hd, hs]

/-- Beside a driving Anvil the other one is lost: SIMPLEX. -/
theorem declareFailed_simplex (hd : s.activeAnvil ≠ some v) (hx : s.duplex = true) (ht : s.keeper.takeover = none) :
    Same ((s.failed v cause false).keeperIn cause (simplexOf (otherAnvil v))) (declareFailed v cause lost s) := by
  have arbiter := failed_arbiter s v cause false
  have state : (s.failed v cause false).keeper.state = s.keeper.state := (congrArg Keeper.state arbiter :)
  have takeover : (s.failed v cause false).keeper.takeover = s.keeper.takeover := (congrArg Keeper.takeover arbiter :)
  have duplex : (s.failed v cause false).duplex = true := by rwa [State.duplex, state, ← State.duplex]
  have simplex : declareFailed v cause lost s = outEvent v cause (anvilEvent 0x203 v cause
      (changeState (simplexOf (otherAnvil v)) cause (s.failed v cause false))) := by
    rw [declareFailed_eq]
    simp [s.givenUp_activeAnvil, hd, duplex, takeover, ht]
  rw [simplex]
  exact (changeState_same _ cause _).trans ((anvilEvent_same _ v cause 0x203).trans (outEvent_same _ v cause))

/-! ### Lost without a standby (R301) -/

theorem lostDrive_arbiter : (s.lostDrive v cause lost).arbiter
    = (State.keeperIn (State.driveless { s with keeper := { s.keeper with lastGood := lost } })
        cause .failStatic).arbiter := by
  unfold State.lostDrive
  rw [outEvent_arbiter, rebuildIfWaiting_arbiter, anvilEvent_arbiter]
  exact (enterFailStatic_same _ _).arbiter

theorem failStatic_of_arbiter {u t : State} (h : t.arbiter = (u.driveless.keeperIn cause .failStatic).arbiter) :
    t.keeper.state = .failStatic ∧ t.keeper.takeover = none ∧ t.keeper.lastCause = cause :=
  ⟨(congrArg Keeper.state h :), (congrArg Keeper.takeover h :), (congrArg Keeper.lastCause h :)⟩

theorem lostDrive_keeperOnly : KeeperOnly s (s.lostDrive v cause lost) := by
  have noted : KeeperOnly s { s with keeper := { s.keeper with lastGood := lost } } := .of_base rfl rfl
  exact (noted.trans (enterFailStatic_keeperOnly cause _)).trans
    ((KeeperOnly.of_same (anvilEvent_same _ v cause 0x203)).trans
      ((rebuildIfWaiting_keeperOnly _ _).trans (.of_same (outEvent_same _ v cause))))

theorem schedStop_arbiter (r : Nat) (atEnd : Bool) (s : State) : (schedStop r atEnd s).arbiter = s.arbiter :=
  (congrArg State.arbiter (schedStop_apart r atEnd s) :)

theorem schedToIdle_state (r : Nat) (s : State) : (schedToIdle r s).sched.state = .idle := by
  rw [(schedToIdle_same r s).sched]
  rfl

/-- A schedule that is told to stop at once is idle, or waits for a moving watch. -/
theorem schedStop_stops (r : Nat) {s : State} (h : s.sched.stopNow = none) :
    (schedStop r false s).sched.state = .idle ∨ (schedStop r false s).sched.state = .stopping := by
  unfold schedStop
  split
  · next idle => exact .inl idle
  · exact .inl (schedToIdle_state r s)
  · simp only [h, Option.isSome_none, Bool.false_eq_true, if_false]
    unfold schedStopCheck
    simp only
    split
    · exact .inl (schedToIdle_state _ _)
    · exact .inr rfl

end

/-! ### Heartbeats that are missing (R290) -/

section
variable {s : State} {v : Anvil}

theorem activeAnvil_of_source (ht : s.keeper.takeover = none) (hs : s.keeper.state.source = some v) :
    s.activeAnvil = some v := by
  rw [State.activeAnvil, ht]
  exact hs

theorem duplex_of_duplexOf (h : s.keeper.state = duplexOf v) : s.duplex = true := by
  cases v <;> simp [State.duplex, h, duplexOf]

theorem source_of_duplexOf (h : s.keeper.state = duplexOf v) : s.keeper.state.source = some v := by
  rw [h]
  cases v <;> rfl

theorem activeAnvil_ne_of_duplexOf (ht : s.keeper.takeover = none) (h : s.keeper.state = duplexOf (otherAnvil v)) :
    s.activeAnvil ≠ some v := by
  rw [activeAnvil_of_source ht (source_of_duplexOf h)]
  exact fun e => otherAnvil_ne v (Option.some.inj e)

/-- Facts of a commanded take-over, whatever the loops of the elements do. -/
theorem commanded_facts {t : State} {cause lost : Nat}
    (h : t.loopless = ((s.failed v cause false).driveGiven (otherAnvil v) cause lost).loopless) :
    t.keeper.takeover = some (otherAnvil v, cause, lost) ∧ t.keeper.state = s.keeper.state
      ∧ t.keeper.mismatches = s.keeper.mismatches
      ∧ (t.anvil v).cause = cause ∧ (t.anvil v).failTime = s.now
      ∧ (t.anvil v).state = (if s.failsOut v then .out else .selftest)
      ∧ t.apart = { s with
          keeper := t.keeper, elems := t.elems, notches := t.notches,
            lanesA := t.lanesA, lanesB := t.lanesB }.apart := by
  have keeper := State.keeper_of_loopless h
  have arbiter := failed_arbiter s v cause false
  have anvil := State.anvil_of_loopless h v
  rw [State.driveGiven_anvil] at anvil
  obtain ⟨self_cause, self_time, self_state⟩ := failed_self s v cause
  refine ⟨(congrArg Keeper.takeover keeper :), (congrArg Keeper.state keeper :).trans (congrArg Keeper.state arbiter :),
    (congrArg Keeper.mismatches keeper :).trans (congrArg Keeper.mismatches arbiter :),
    (congrArg AnvilSt.cause anvil :).trans self_cause, (congrArg AnvilSt.failTime anvil :).trans self_time,
    (congrArg AnvilSt.state anvil :).trans self_state, AnvilsOnly.apart_of_loopless ?_ h⟩
  exact (failed_anvilsOnly s v cause false).trans (driveGiven_keeperOnly _ _ _ _).anvilsOnly

/-- Facts of a lost Anvil that leaves SIMPLEX. -/
theorem simplex_facts {t : State} {cause : Nat}
    (h : Same ((s.failed v cause false).keeperIn cause (simplexOf (otherAnvil v))) t) :
    t.keeper.state = simplexOf (otherAnvil v) ∧ t.keeper.mismatches = s.keeper.mismatches
      ∧ (t.anvil v).cause = cause ∧ (t.anvil v).state = (if s.failsOut v then .out else .selftest)
      ∧ t.anvil (otherAnvil v) = s.anvil (otherAnvil v) ∧ AnvilsOnly s t := by
  obtain ⟨self_cause, -, self_state⟩ := failed_self s v cause
  refine ⟨h.keeperIn_state,
    (congrArg Keeper.mismatches h.arbiter :).trans (congrArg Keeper.mismatches (failed_arbiter s v cause false) :),
    by rw [h.keeperIn_anvil, self_cause], by rw [h.keeperIn_anvil, self_state],
    (h.keeperIn_anvil _).trans (failed_other s v _ cause false (otherAnvil_ne v)),
    (failed_anvilsOnly s v cause false).trans h.keeperIn_keeperOnly.anvilsOnly⟩

variable (ha : s.keeper.alive = true) (hm : 2 ≤ (s.anvil v).missed)
include ha hm

theorem anvilHeartbeatLoss_declares (hs : (s.anvil v).state = .active ∨ (s.anvil v).state = .standby) :
    exec (.anvilHeartbeatLoss v) s = .next (declareFailed v 1 s.keeper.lastGood s) :=
  congrArg Host.Outcome.next ((if_neg (by simp [ha]; omega)).trans (if_pos hs))

theorem anvilHeartbeatLoss_commands (hs : (s.anvil v).state = .active) (ht : s.keeper.takeover = none)
    (hd : s.keeper.state.source = some v) (ho : (s.anvil (otherAnvil v)).state = .standby)
    (hb : (s.anvil (otherAnvil v)).missed < 2) : Gives (.anvilHeartbeatLoss v) s fun t =>
      t.keeper.takeover = some (otherAnvil v, 1, s.keeper.lastGood) ∧ t.keeper.state = s.keeper.state
        ∧ (t.anvil v).cause = 1 ∧ (t.anvil v).failTime = s.now
        ∧ (t.anvil v).state = (if s.failsOut v then .out else .selftest)
        ∧ t.apart = { s with
            keeper := t.keeper, elems := t.elems, notches := t.notches,
            lanesA := t.lanesA, lanesB := t.lanesB }.apart := by
  obtain ⟨takeover, state, -, facts⟩ :=
    commanded_facts (declareFailed_commands 1 s.keeper.lastGood (activeAnvil_of_source ht hd) ho hb ht)
  exact ⟨_, anvilHeartbeatLoss_declares ha hm (.inl hs), takeover, state, facts⟩

theorem anvilHeartbeatLoss_failStatic (hs : (s.anvil v).state = .active) (ht : s.keeper.takeover = none)
    (hd : s.keeper.state.source = some v) (ho : (s.anvil (otherAnvil v)).state ≠ .standby)
    (hn : s.sched.stopNow = none) : Gives (.anvilHeartbeatLoss v) s fun t =>
      t.keeper.state = .failStatic ∧ t.keeper.takeover = none ∧ t.keeper.lastCause = 1 ∧ t.elems = s.elems
        ∧ (t.sched.state = .idle ∨ t.sched.state = .stopping)
        ∧ t.apart = { s with keeper := t.keeper, lanesA := t.lanesA, lanesB := t.lanesB }.apart := by
  obtain ⟨wait, stops⟩ := declareFailed_lostDrive 1 s.keeper.lastGood (activeAnvil_of_source ht hd) ho
  have frame := (failed_anvilsOnly s v 1 wait).trans (lostDrive_keeperOnly (v := v) 1 s.keeper.lastGood).anvilsOnly
  have arbiter := lostDrive_arbiter (s := s.failed v 1 wait) (v := v) 1 s.keeper.lastGood
  generalize (s.failed v 1 wait).lostDrive v 1 s.keeper.lastGood = u at stops frame arbiter
  have apart : (schedStop 3 false u).apart = u.apart := schedStop_apart _ _ _
  obtain ⟨state, takeover, cause⟩ := failStatic_of_arbiter 1
    ((schedStop_arbiter 3 false u).trans arbiter)
  have sched : u.sched = s.sched := (congrArg State.sched frame.1 :)
  have elems : u.elems = s.elems := (congrArg State.elems frame.1 :)
  refine ⟨_, (anvilHeartbeatLoss_declares ha hm (.inl hs)).trans (congrArg Host.Outcome.next stops), ?_⟩
  exact ⟨state, takeover, cause, (congrArg State.elems apart :).trans elems,
    schedStop_stops 3 (by rw [sched, hn]), frame.apart apart⟩

theorem anvilHeartbeatLoss_simplex (hs : (s.anvil v).state = .standby) (ht : s.keeper.takeover = none)
    (hd : s.keeper.state = duplexOf (otherAnvil v)) : Gives (.anvilHeartbeatLoss v) s fun t =>
      t.keeper.state = simplexOf (otherAnvil v) ∧ (t.anvil v).cause = 1
        ∧ (t.anvil v).state = (if s.failsOut v then .out else .selftest)
        ∧ t.anvil (otherAnvil v) = s.anvil (otherAnvil v)
        ∧ Same { s with keeper := t.keeper, lanesA := t.lanesA, lanesB := t.lanesB } t := by
  obtain ⟨state, -, facts⟩ := simplex_facts (declareFailed_simplex 1 s.keeper.lastGood
    (activeAnvil_ne_of_duplexOf ht hd) (duplex_of_duplexOf hd) ht)
  exact ⟨_, anvilHeartbeatLoss_declares ha hm (.inr hs), state, facts⟩

end

/-! ### Signatures that differ (R291) -/

/-- A mismatch in DUPLEX is counted, and its decision taken. -/
def State.mismatchCounted (s : State) : State :=
  { s with keeper := { s.keeper with
    matched := 0, verdict := none, mismatches := (s.keeper.mismatches + 1) % 4294967296 } }

theorem State.mismatchCounted_anvil (s : State) (v : Anvil) : s.mismatchCounted.anvil v = s.anvil v := by
  cases v <;> rfl

theorem mismatchCounted_keeperOnly (s : State) : KeeperOnly s s.mismatchCounted := .of_base rfl rfl

section
variable {s : State} {v : Anvil} {d : SignReport} {aImpl bImpl : Nat} (ha : s.keeper.alive = true)
  (hd : s.keeper.verdict = some d) (ht : s.keeper.takeover = none) (hs : s.keeper.state = duplexOf v)
include ha hd ht hs

/-- The decision falls on the Anvil found, or else on the standby. -/
theorem signatureMismatch_decides : exec (.signatureMismatch aImpl bImpl) s = .next (match d.diverged with
    | some (w, n) => raiseEv 0x20C [byte (anvilNo w), byte n]
        (declareFailed w 2 (s.time.elapsed - 2 * s.beatUnits) s.mismatchCounted)
    | none => raiseEv 0x20C [0xFF#8, 3#8] (declareFailed (otherAnvil v) 3 s.keeper.lastGood s.mismatchCounted)) := by
  have duplex : s.duplex = true ∧ s.keeper.takeover.isNone = true := ⟨duplex_of_duplexOf hs, by simp [ht]⟩
  have source := source_of_duplexOf hs
  refine congrArg Host.Outcome.next ?_
  rw [hd]
  refine (if_neg (by simp [ha])).trans ((if_pos duplex).trans ?_)
  rw [source]
  rfl

/-- Where it falls on the standby, by its cause. -/
theorem signatureMismatch_standby (hw : d.diverged = none ∨ ∃ n, d.diverged = some (otherAnvil v, n)) :
    ∃ p lost, exec (.signatureMismatch aImpl bImpl) s = .next (raiseEv 0x20C p
      (declareFailed (otherAnvil v) (if d.diverged = none then 3 else 2) lost s.mismatchCounted)) := by
  rw [signatureMismatch_decides ha hd ht hs]
  obtain none | ⟨n, found⟩ := hw
  · simp only [none, if_true]
    exact ⟨_, _, rfl⟩
  · simp only [found, reduceCtorEq, if_false]
    exact ⟨_, _, rfl⟩

theorem signatureMismatch_simplex (hw : d.diverged = none ∨ ∃ n, d.diverged = some (otherAnvil v, n)) :
    Gives (.signatureMismatch aImpl bImpl) s fun t =>
      t.keeper.state = simplexOf v ∧ t.keeper.mismatches = (s.keeper.mismatches + 1) % 4294967296
        ∧ (t.anvil (otherAnvil v)).cause = (if d.diverged = none then 3 else 2) ∧ t.anvil v = s.anvil v
        ∧ Same { s with keeper := t.keeper, lanesA := t.lanesA, lanesB := t.lanesB } t := by
  obtain ⟨p, lost, run⟩ := signatureMismatch_standby (aImpl := aImpl) (bImpl := bImpl) ha hd ht hs hw
  have drives : s.mismatchCounted.activeAnvil ≠ some (otherAnvil v) :=
    activeAnvil_ne_of_duplexOf ht (by rw [otherAnvil_otherAnvil]; exact hs)
  obtain ⟨state, mismatches, cause, -, other, frame⟩ := simplex_facts ((declareFailed_simplex
    (if d.diverged = none then 3 else 2) lost drives (duplex_of_duplexOf hs) ht).trans (raiseEv_same 0x20C p _))
  rw [otherAnvil_otherAnvil] at state other
  exact ⟨_, run, state, mismatches, cause, other.trans (s.mismatchCounted_anvil v),
    (mismatchCounted_keeperOnly s).anvilsOnly.trans frame⟩

theorem signatureMismatch_commands {n : Nat} (hw : d.diverged = some (v, n))
    (ho : (s.anvil (otherAnvil v)).state = .standby) (hb : (s.anvil (otherAnvil v)).missed < 2) :
    Gives (.signatureMismatch aImpl bImpl) s fun t =>
      t.keeper.takeover = some (otherAnvil v, 2, s.time.elapsed - 2 * s.beatUnits)
        ∧ t.keeper.state = s.keeper.state ∧ (t.anvil v).cause = 2
        ∧ t.keeper.mismatches = (s.keeper.mismatches + 1) % 4294967296 := by
  have run : exec (.signatureMismatch aImpl bImpl) s = .next (raiseEv 0x20C [byte (anvilNo v), byte n]
      (declareFailed v 2 (s.time.elapsed - 2 * s.beatUnits) s.mismatchCounted)) := by
    rw [signatureMismatch_decides ha hd ht hs, hw]
  have drives : s.mismatchCounted.activeAnvil = some v := activeAnvil_of_source ht (source_of_duplexOf hs)
  have standby : s.mismatchCounted.anvil (otherAnvil v) = s.anvil (otherAnvil v) := s.mismatchCounted_anvil _
  obtain ⟨takeover, state, mismatches, cause, -⟩ := commanded_facts ((State.loopless_of_base
    (raiseEv_base 0x20C [byte (anvilNo v), byte n] _)).trans (declareFailed_commands 2
      (s.time.elapsed - 2 * s.beatUnits) drives (by rw [standby, ho]) (by rw [standby]; exact hb) ht))
  exact ⟨_, run, takeover, state, cause, mismatches⟩

end

theorem signatureMismatch_idle (aImpl bImpl : Nat) {s : State} (h : s.keeper.verdict = none) :
    Gives (.signatureMismatch aImpl bImpl) s fun t => t = s := by
  refine ⟨s, congrArg Host.Outcome.next ?_, rfl⟩
  simp only [h]

section
variable {d : SignReport}

theorem diverged_implausible :
    ((d.aImpl ≠ 0 ∧ d.bImpl = 0) → d.diverged = some (.a, 1))
      ∧ ((d.bImpl ≠ 0 ∧ d.aImpl = 0) → d.diverged = some (.b, 1)) :=
  ⟨fun h => if_pos h, fun h => (if_neg (by simp [h])).trans (if_pos h)⟩

/-- Where implausible codes do not decide, SELFCHECK does. -/
theorem diverged_selfcheck (h : d.aImpl = 0 ↔ d.bImpl = 0) :
    (d.aSelf = true → d.bSelf = false → d.diverged = some (.a, 2))
      ∧ (d.bSelf = true → d.aSelf = false → d.diverged = some (.b, 2)) ∧ (d.aSelf = d.bSelf → d.diverged = none) := by
  have noA : ¬ (d.aImpl ≠ 0 ∧ d.bImpl = 0) := fun c => c.1 (h.2 c.2)
  have noB : ¬ (d.bImpl ≠ 0 ∧ d.aImpl = 0) := fun c => c.1 (h.1 c.2)
  simp only [SignReport.diverged, if_neg noA, if_neg noB]
  cases d.aSelf <;> cases d.bSelf <;> decide

end

/-! ### The boundary of a failover (R293) -/

theorem sourceCode_otherAnvil_ne (v : Anvil) : sourceCode (some (otherAnvil v)) ≠ sourceCode (some v) := by
  cases v <;> decide

theorem source_simplexOf (v : Anvil) : (simplexOf v).source = some v := by cases v <;> rfl

/-- The commanded Anvil drives. -/
def State.takenOver (s : State) (v : Anvil) (lost : Nat) : State :=
  let s1 := s.setAnvil v { s.anvil v with state := .active, standbySince := 0 }
  { s1 with keeper := { s1.keeper with
    takeover := none, interruptNs := min (elapsedNs lost s.time.elapsed) 0xFFFFFFFF, moved := decide (v = .b) } }

theorem takenOver_keeperOnly (s : State) (v : Anvil) (lost : Nat) : KeeperOnly s (s.takenOver v lost) :=
  (setAnvil_keeperOnly s v _).trans (.of_base rfl rfl)

section
variable {s : State} {v : Anvil} {cause lost : Nat}

theorem takenOver_arbiter : (s.takenOver v lost).arbiter = { s.arbiter with
    takeover := none, interruptNs := min (elapsedNs lost s.time.elapsed) 0xFFFFFFFF, moved := decide (v = .b) } := by
  cases v <;> rfl

theorem takenOver_self : (s.takenOver v lost).anvil v = { s.anvil v with state := .active, standbySince := 0 } := by
  cases v <;> rfl

theorem failover_takesOver (ht : s.keeper.takeover = some (v, cause, lost))
    (hb : (if s.anyTransit then s.atTransit else s.atHold) = true)
    (hf : (s.anvil (otherAnvil v)).fails.headD 0 < s.time.elapsed) : Gives .failover s fun t =>
      t.keeper.state = simplexOf v ∧ t.keeper.takeover = none ∧ t.keeper.lastCause = cause
        ∧ (t.anvil v).state = .active
        ∧ t.keeper.interruptNs = min (elapsedNs lost s.time.elapsed) 0xFFFFFFFF
        ∧ (s.keeper.state.source = some (otherAnvil v) →
            t.keeper.failovers = (s.keeper.failovers + 1) % 4294967296 ∧ t.keeper.lastFailover = s.now)
        ∧ Same { s with keeper := t.keeper } t := by
  have run : exec .failover s = .next (changeState (simplexOf v) cause (s.takenOver v lost)) := by
    refine congrArg Host.Outcome.next ?_
    simp only [ht]
    exact if_pos ⟨hb, hf⟩
  have same := changeState_same (s.takenOver v lost) cause (simplexOf v)
  have taken : (s.takenOver v lost).arbiter = _ := takenOver_arbiter
  refine ⟨_, run, same.keeperIn_state,
    (congrArg Keeper.takeover same.arbiter :).trans (congrArg Keeper.takeover taken :),
    same.keeperIn_lastCause, ?_,
    (congrArg Keeper.interruptNs same.arbiter :).trans (congrArg Keeper.interruptNs taken :), fun other => ?_,
    (takenOver_keeperOnly s v lost).trans same.keeperIn_keeperOnly⟩
  · rw [changeState_anvil, takenOver_self]
  · have state : (s.takenOver v lost).keeper.state = s.keeper.state := (congrArg Keeper.state taken :)
    have moves : sourceCode (s.takenOver v lost).keeper.state.source ≠ sourceCode (simplexOf v).source := by
      rw [state, other, source_simplexOf]
      exact sourceCode_otherAnvil_ne v
    exact ⟨((congrArg Keeper.failovers same.arbiter :).trans (if_neg moves)).trans
        (congrArg (fun k : Keeper => (k.failovers + 1) % 4294967296) taken :),
      (congrArg Keeper.lastFailover same.arbiter :).trans (if_neg moves)⟩

end

end Sys2Proof.Machine
end

section
open Sys2Proof Sys2Proof.Machine

/-- Settles O15: a declared failure by who drives and who stands by, a mismatch by the Anvil that the report points at,
the failover at its boundary. -/
theorem anvilFailures : Obligations.AnvilFailures :=
  ⟨fun _ _ ha hm hs ht hd ho hb => anvilHeartbeatLoss_commands ha hm hs ht hd ho hb,
    fun _ _ ha hm hs ht hd ho hn => anvilHeartbeatLoss_failStatic ha hm hs ht hd ho hn,
    fun _ _ ha hm hs ht hd => anvilHeartbeatLoss_simplex ha hm hs ht hd,
    fun aImpl bImpl _ h => signatureMismatch_idle aImpl bImpl h,
    fun _ _ _ _ _ ha hd ht hs hw => signatureMismatch_simplex ha hd ht hs hw,
    fun _ _ _ _ _ _ ha hd ht hs hw ho hb => signatureMismatch_commands ha hd ht hs hw ho hb,
    fun _ => ⟨diverged_implausible.1, diverged_implausible.2, diverged_selfcheck⟩,
    fun _ _ _ _ ht hb hf => failover_takesOver ht hb hf⟩

end

/-! SUPPORT. The return of an Anvil (R296 to R298, R303, R306): its self-test, the steps of its resynchronisation, a
rebuild, and the end of INIT. -/
section
namespace Sys2Proof.Machine

/-! ### The self-test -/

/-- A wake changes the Forge alone, and not what holds it awake. -/
theorem wakeForge_eq (s : State) : ∃ f, wakeForge s = { s with forge := f } ∧ f.resyncHold = s.forge.resyncHold := by
  unfold wakeForge
  split
  · exact ⟨_, rfl, rfl⟩
  · exact ⟨_, rfl, rfl⟩

theorem State.anvil_withForge (s : State) (f : Forge) (v : Anvil) : { s with forge := f }.anvil v = s.anvil v := by
  cases v <;> rfl

/-- The Anvil in RESYNC, before its first step. -/
def State.inResync (s : State) (v : Anvil) : State :=
  s.setAnvil v { s.anvil v with state := .resync, step := 0, rebuilding := false }

theorem inResync_self (s : State) (v : Anvil) :
    (s.inResync v).anvil v = { s.anvil v with state := .resync, step := 0, rebuilding := false } := by
  simp [State.inResync]

theorem inResync_other (s : State) (v : Anvil) : (s.inResync v).anvil (otherAnvil v) = s.anvil (otherAnvil v) := by
  simp [State.inResync, otherAnvil_ne]

/-- RESYNC is entered with the Forge held awake (R296). -/
theorem enterResync_eq (v : Anvil) (s : State) :
    ∃ f, enterResync v s = { s.inResync v with forge := f } ∧ f.resyncHold = true :=
  wakeForge_eq { s.inResync v with forge := { s.forge with resyncHold := true } }

section
variable {s : State} {v : Anvil} (ht : (s.anvil v).state = .selftest) (hn : (s.anvil v).step ≠ 3)
include ht hn

theorem anvilSelftestDone_waits (hi : s.keeper.state = .init) : Gives (.anvilSelftestDone v true) s fun t =>
    t = { s with keeper := t.keeper } ∧ t.anvil v = { s.anvil v with step := 3 }
      ∧ t.anvil (otherAnvil v) = s.anvil (otherAnvil v) := by
  have run : exec (.anvilSelftestDone v true) s = .next (s.setAnvil v { s.anvil v with step := 3 }) :=
    congrArg Host.Outcome.next ((if_neg (by simp [ht, hn])).trans (if_pos hi))
  exact ⟨_, run, rfl, by simp, by simp [otherAnvil_ne]⟩

theorem anvilSelftestDone_resyncs (hi : s.keeper.state ≠ .init) (hf : s.failStatic = false) :
    Gives (.anvilSelftestDone v true) s fun t =>
      t = { s with keeper := t.keeper, forge := t.forge } ∧ (t.anvil v).state = .resync ∧ (t.anvil v).step = 0
        ∧ t.forge.resyncHold = true ∧ t.anvil (otherAnvil v) = s.anvil (otherAnvil v) := by
  have run : exec (.anvilSelftestDone v true) s = .next (enterResync v s) :=
    congrArg Host.Outcome.next ((if_neg (by simp [ht, hn])).trans ((if_neg hi).trans (if_neg (by simp [hf]))))
  obtain ⟨f, enters, hold⟩ := enterResync_eq v s
  have anvil (w : Anvil) : (enterResync v s).anvil w = (s.inResync v).anvil w := by
    rw [enters]
    exact State.anvil_withForge _ f w
  refine ⟨_, run, ?_, ?_, ?_, ?_, (anvil _).trans (inResync_other s v)⟩
  · rw [enters]
    rfl
  · rw [anvil, inResync_self]
  · rw [anvil, inResync_self]
  · rw [enters]
    exact hold

theorem anvilSelftestDone_fails (hi : s.keeper.state ≠ .init ∨ (s.anvil v).retried = true) :
    Gives (.anvilSelftestDone v false) s fun t =>
      Same { s with keeper := t.keeper } t ∧ t.anvil v = { s.anvil v with state := .out, cause := 4 } := by
  have run : exec (.anvilSelftestDone v false) s
      = .next (anvilEvent 0x20D v 4 (s.setAnvil v { s.anvil v with state := .out, cause := 4 })) := by
    refine congrArg Host.Outcome.next ((if_neg (by simp [ht, hn])).trans
      ((if_neg Bool.false_ne_true).trans (if_neg fun c => ?_)))
    obtain hi | hi := hi
    · exact hi c.1
    · simp [hi] at c
  exact ⟨_, run, (anvilEvent_same _ v 4 0x20D).keeperOnly rfl rfl, by simp⟩

end

/-! ### Resynchronisation (R296) -/

/-- A resynchronisation that fails is laid on its Anvil. -/
theorem resyncFail_facts (v : Anvil) (s : State) : ((resyncFail v s).anvil v).cause = 5
    ∧ ((resyncFail v s).anvil v).state = (if s.failsOut v then .out else .selftest)
    ∧ AnvilsOnly s (resyncFail v s) := by
  obtain ⟨cause, -, state⟩ := failAnvil_self (releaseForge s) v 5
  have self : (resyncFail v s).anvil v = (failAnvil v 5 false (releaseForge s)).anvil v := by
    unfold resyncFail
    rw [rebuildIfWaiting_other _ _ _ (otherAnvil_ne v).symm, outEvent_anvil, anvilEvent_anvil]
  have released : AnvilsOnly s (releaseForge s) := .of_base rfl rfl
  have told := (anvilEvent_same (failAnvil v 5 false (releaseForge s)) v 5 0x207).trans (outEvent_same _ v 5)
  exact ⟨by rw [self, cause], by rw [self, state]; rfl, released.trans ((failAnvil_anvilsOnly _ v 5 false).trans
    ((AnvilsOnly.of_same told).trans (rebuildIfWaiting_keeperOnly _ _).anvilsOnly))⟩

section
variable {s : State} {v : Anvil}

theorem resyncCopyDone_eq (ok : Bool) (h : s.resyncing 1 = some v) : exec (.resyncCopyDone ok) s
    = .next (if ok then s.setAnvil v { s.anvil v with step := 2 } else resyncFail v s) := by
  refine congrArg Host.Outcome.next ?_
  simp only [h]

theorem resyncLive_eq (ok : Bool) (h : s.resyncing 2 = some v) : exec (.resyncLive ok) s = .next (if ok then
    { s.setAnvil v { s.anvil v with step := 3, missed := 0, silent := 0 } with
      keeper := { (s.setAnvil v { s.anvil v with step := 3, missed := 0, silent := 0 }).keeper with matched := 0 } }
    else resyncFail v s) := by
  refine congrArg Host.Outcome.next ?_
  simp only [h]

theorem resyncCopyDone_copied (h : s.resyncing 1 = some v) : Gives (.resyncCopyDone true) s fun t =>
    t = { s with keeper := t.keeper } ∧ t.anvil v = { s.anvil v with step := 2 }
      ∧ t.anvil (otherAnvil v) = s.anvil (otherAnvil v) :=
  ⟨_, resyncCopyDone_eq true h, rfl, by simp, by simp [otherAnvil_ne]⟩

theorem resyncLive_live (h : s.resyncing 2 = some v) : Gives (.resyncLive true) s fun t =>
    t = { s with keeper := t.keeper } ∧ t.anvil v = { s.anvil v with step := 3, missed := 0, silent := 0 }
      ∧ t.keeper.matched = 0 :=
  ⟨_, resyncLive_eq true h, rfl, by cases v <;> rfl, rfl⟩

/-! ### STANDBY, and the revert hold-off (R296, R298) -/

/-- 16 hold periods have matched: the Anvil stands by, and the Forge is released. -/
def State.stoodBy (s : State) (v : Anvil) : State :=
  { s.setAnvil v { s.anvil v with
      state := .standby, step := 0, standbySince := s.now
      resyncNs := min (elapsedNs (s.anvil v).resyncStart s.time.elapsed) 0xFFFFFFFF } with
    forge := { s.forge with resyncHold := false } }

theorem stoodBy_keeperOnly (s : State) (v : Anvil) : KeeperOnly s (s.stoodBy v) :=
  (setAnvil_keeperOnly s v _).trans (.of_base rfl rfl)

theorem stoodBy_self : (s.stoodBy v).anvil v = { s.anvil v with
    state := .standby, step := 0, standbySince := s.now
    resyncNs := min (elapsedNs (s.anvil v).resyncStart s.time.elapsed) 0xFFFFFFFF } := by cases v <;> rfl

theorem stoodBy_other : (s.stoodBy v).anvil (otherAnvil v) = s.anvil (otherAnvil v) := by cases v <;> rfl

/-- A revert is due, or none. -/
def State.revertingAt (s : State) (r : Option (Instant × Nat)) : State :=
  { s with keeper := { s.keeper with revertAt := r } }

theorem revertingAt_anvil (r : Option (Instant × Nat)) : (s.revertingAt r).anvil v = s.anvil v := by cases v <;> rfl

theorem holdoff_eq (c : Prop) [Decidable c] (s : State) :
    ∃ r, (if c then startHoldoff s else s) = s.revertingAt r := by
  split
  · exact ⟨_, rfl⟩
  · exact ⟨_, rfl⟩

theorem anvilStandby_same (ha : s.keeper.alive = true) (hs : (s.anvil v).state = .resync) (hn : (s.anvil v).step = 3)
    (hm : 16 ≤ s.keeper.matched) (hb : s.atHold = true) : ∃ u r,
      Same ((s.stoodBy v).keeperIn 11 (duplexOf (otherAnvil v))) u
        ∧ exec (.anvilStandby v) s = .next (u.revertingAt r) := by
  let u := anvilEvent 0x206 v 11 (changeState (duplexOf (otherAnvil v)) 11 (s.stoodBy v))
  obtain ⟨r, hold⟩ := holdoff_eq (v = .a ∧ u.keeper.moved) u
  exact ⟨u, r, (changeState_same _ _ _).trans (anvilEvent_same _ v 11 _),
    congrArg Host.Outcome.next ((if_pos ⟨ha, hs, hn, hm, hb⟩).trans hold)⟩

theorem anvilStandby_standsBy (ha : s.keeper.alive = true) (hs : (s.anvil v).state = .resync)
    (hn : (s.anvil v).step = 3) (hm : 16 ≤ s.keeper.matched) (hb : s.atHold = true) : Gives (.anvilStandby v) s fun t =>
      Same { s with keeper := t.keeper } t ∧ t.keeper.state = duplexOf (otherAnvil v) ∧ t.keeper.lastCause = 11
        ∧ (t.anvil v).state = .standby ∧ (t.anvil v).standbySince = s.now
        ∧ (t.anvil v).resyncNs = min (elapsedNs (s.anvil v).resyncStart s.time.elapsed) 0xFFFFFFFF
        ∧ t.anvil (otherAnvil v) = s.anvil (otherAnvil v) := by
  obtain ⟨u, r, same, run⟩ := anvilStandby_same ha hs hn hm hb
  have anvil (w : Anvil) : (u.revertingAt r).anvil w = (s.stoodBy v).anvil w := by
    rw [revertingAt_anvil, same.keeperIn_anvil]
  have frame : KeeperOnly s u := (stoodBy_keeperOnly s v).trans same.keeperIn_keeperOnly
  refine ⟨_, run, frame.trans (.of_base rfl rfl), same.keeperIn_state,
    same.keeperIn_lastCause, ?_, ?_, ?_, (anvil _).trans stoodBy_other⟩
  · rw [anvil, stoodBy_self]
  · rw [anvil, stoodBy_self]
  · rw [anvil, stoodBy_self]

end

/-! ### Rebuilds (R303) -/

section
variable (s : State) (v w : Anvil)

@[simp] theorem restartFailed_arbiter : (restartFailed v s).arbiter = s.arbiter := by
  unfold restartFailed
  split
  · exact resetAnvil_arbiter s v
  · rfl

theorem restartFailed_anvilsOnly : AnvilsOnly s (restartFailed v s) := by
  unfold restartFailed
  split
  · exact resetAnvil_anvilsOnly s v
  · exact .of_same (.refl s)

theorem restartFailed_other (h : w ≠ v) : (restartFailed v s).anvil w = s.anvil w := by
  unfold restartFailed
  split
  · exact resetAnvil_other s v w h
  · rfl

/-- The Anvil restarted, read from a state with the same Anvil, clock and setting. -/
theorem restartFailed_self {t : State} (ha : t.anvil v = s.anvil v) (ht : t.time = s.time) (ho : t.objs = s.objs) :
    (restartFailed v t).anvil v
      = (if (s.anvil v).state = .failed ∧ s.obj 0x3400 5 = 1 then (resetAnvil v s).anvil v else s.anvil v) := by
  have setting : t.obj 0x3400 5 = s.obj 0x3400 5 := by rw [State.obj, ho, ← State.obj]
  unfold restartFailed
  rw [ha, setting]
  split
  · rw [resetAnvil_self, resetAnvil_self, ha, ht]
  · exact ha

/-- The rebuilt Anvil drives, and re-routes may be tried again. -/
def State.rebuilt : State :=
  let s1 := s.setAnvil v { s.anvil v with
    state := .active, rebuilding := false, missed := 0, silent := 0
    resyncNs := min (elapsedNs (s.anvil v).resyncStart s.time.elapsed) 0xFFFFFFFF }
  { s1 with
    keeper := { s1.keeper with
      interruptNs := min (elapsedNs s1.keeper.lastGood s1.time.elapsed) 0xFFFFFFFF
      moved := decide (v = .b), entry := [], lastGood := s1.time.elapsed, matched := 0 }
    planner := { s1.planner with retry := true } }

theorem rebuilt_keeperOnly : KeeperOnly { s with planner := { s.planner with retry := true } } (s.rebuilt v) :=
  .of_base rfl rfl

theorem rebuilt_self : (s.rebuilt v).anvil v = { s.anvil v with
    state := .active, rebuilding := false, missed := 0, silent := 0
    resyncNs := min (elapsedNs (s.anvil v).resyncStart s.time.elapsed) 0xFFFFFFFF } := by cases v <;> rfl

theorem rebuilt_other : (s.rebuilt v).anvil (otherAnvil v) = s.anvil (otherAnvil v) := by cases v <;> rfl

theorem rebuilt_interruptNs : (s.rebuilt v).keeper.interruptNs
    = min (elapsedNs s.keeper.lastGood s.time.elapsed) 0xFFFFFFFF := by cases v <;> rfl

/-- A rebuilt Anvil drives, and the other one is restarted: the state before the hand-overs of the elements. -/
def State.rebuildEnds : State :=
  restartFailed (otherAnvil v) (raiseEv 0x202 [] (changeState (simplexOf v) 9 (s.rebuilt v)))

theorem rebuildEnds_same :
    Same ((s.rebuilt v).keeperIn 9 (simplexOf v)) (raiseEv 0x202 [] (changeState (simplexOf v) 9 (s.rebuilt v))) :=
  (changeState_same _ _ _).trans (raiseEv_same _ _ _)

theorem rebuildEnds_arbiter : (s.rebuildEnds v).arbiter = ((s.rebuilt v).keeperIn 9 (simplexOf v)).arbiter :=
  (restartFailed_arbiter _ _).trans (rebuildEnds_same s v).arbiter

theorem rebuildEnds_self : (s.rebuildEnds v).anvil v = (s.rebuilt v).anvil v :=
  (restartFailed_other _ _ _ (otherAnvil_ne v).symm).trans
    ((rebuildEnds_same s v).keeperIn_anvil v)

theorem rebuildEnds_other : (s.rebuildEnds v).anvil (otherAnvil v)
    = (if (s.anvil (otherAnvil v)).state = .failed ∧ s.obj 0x3400 5 = 1
        then (resetAnvil (otherAnvil v) s).anvil (otherAnvil v) else s.anvil (otherAnvil v)) := by
  have same := rebuildEnds_same s v
  exact restartFailed_self s (otherAnvil v) ((same.keeperIn_anvil _).trans (rebuilt_other s v)) same.time same.objs

theorem rebuildEnds_anvilsOnly :
    AnvilsOnly { s with planner := { s.planner with retry := true } } (s.rebuildEnds v) :=
  ((rebuilt_keeperOnly s v).trans (rebuildEnds_same s v).keeperIn_keeperOnly).anvilsOnly.trans
    (restartFailed_anvilsOnly _ _)

end

section
variable {s : State} {v : Anvil} (ha : s.keeper.alive = true) (hf : s.failStatic = true)
  (hr : (s.anvil v).rebuilding = true) (hb : s.atHold = true)
include ha hf hr hb

theorem rebuildComplete_eq : exec (.rebuildComplete v) s = .next (
    if (s.rebuildEnds v).clear.asserted then s.rebuildEnds v
    else forEach (rebuildElem v) (s.rebuildEnds v).runningElems (s.rebuildEnds v)) :=
  congrArg Host.Outcome.next (if_pos ⟨ha, hf, hr, hb⟩)

theorem rebuildComplete_clearing (hc : s.clear.asserted = true) : Gives (.rebuildComplete v) s fun t =>
    Same { s with
      keeper := t.keeper, planner := { s.planner with retry := true }, lanesA := t.lanesA, lanesB := t.lanesB } t
      ∧ t.keeper.state = simplexOf v ∧ (t.anvil v).state = .active ∧ (t.anvil v).rebuilding = false
      ∧ t.anvil (otherAnvil v) = (if (s.anvil (otherAnvil v)).state = .failed ∧ s.obj 0x3400 5 = 1
          then (resetAnvil (otherAnvil v) s).anvil (otherAnvil v) else s.anvil (otherAnvil v))
      ∧ t.keeper.interruptNs = min (elapsedNs s.keeper.lastGood s.time.elapsed) 0xFFFFFFFF := by
  have frame := rebuildEnds_anvilsOnly s v
  have arbiter := rebuildEnds_arbiter s v
  have clear : (s.rebuildEnds v).clear = s.clear := (congrArg State.clear frame.1 :)
  have run := rebuildComplete_eq ha hf hr hb
  rw [if_pos (by rw [clear, hc])] at run
  refine ⟨_, run, frame, (congrArg Keeper.state arbiter :), ?_, ?_, rebuildEnds_other s v,
    (congrArg Keeper.interruptNs arbiter :).trans (rebuilt_interruptNs s v)⟩
  · rw [rebuildEnds_self, rebuilt_self]
  · rw [rebuildEnds_self, rebuilt_self]

theorem rebuildComplete_drives : Gives (.rebuildComplete v) s fun t =>
    t.keeper.state = simplexOf v ∧ (t.anvil v).state = .active
      ∧ t.apart = { s with
          keeper := t.keeper, elems := t.elems, notches := t.notches,
            lanesA := t.lanesA, lanesB := t.lanesB }.apart := by
  obtain ⟨t, run, loops⟩ : ∃ t, exec (.rebuildComplete v) s = .next t ∧ t.loopless = (s.rebuildEnds v).loopless := by
    refine ⟨_, rebuildComplete_eq ha hf hr hb, ?_⟩
    split
    · rfl
    · exact forEach_rebuildElem_loopless _ _ _
  have anvil := State.anvil_of_loopless loops v
  rw [rebuildEnds_self, rebuilt_self] at anvil
  exact ⟨t, run, (congrArg Keeper.state (State.keeper_of_loopless loops) :).trans
      (congrArg Keeper.state (rebuildEnds_arbiter s v) :),
    (congrArg AnvilSt.state anvil :), (rebuildEnds_anvilsOnly s v).apart_of_loopless loops⟩

end

/-! ### The end of INIT (R289, R306) -/

/-- A change of the Keeper at the end of INIT: the codes from now on are trusted. -/
def State.initEnding (s : State) : State :=
  { s with keeper := { s.keeper with lastGood := s.time.elapsed, matched := 0 } }

/-- Both Anvils have passed: A drives and B stands by. -/
def State.bothPassed (s : State) : State :=
  (s.initEnding.setAnvil .a { s.keeper.a with state := .active, step := 0, silent := 0 }).setAnvil .b
    { s.keeper.b with state := .standby, step := 0, silent := 0, standbySince := s.now }

theorem initEnding_keeperOnly (s : State) : KeeperOnly s s.initEnding := .of_base rfl rfl

theorem bothPassed_keeperOnly (s : State) : KeeperOnly s s.bothPassed :=
  (initEnding_keeperOnly s).trans ((setAnvil_keeperOnly _ .a _).trans (setAnvil_keeperOnly _ .b _))

theorem bothPassed_a (s : State) :
    s.bothPassed.anvil .a = { s.keeper.a with state := .active, step := 0, silent := 0 } := rfl

theorem bothPassed_b (s : State) : s.bothPassed.anvil .b
    = { s.keeper.b with state := .standby, step := 0, silent := 0, standbySince := s.now } := rfl

section
variable {s : State} (ha : s.keeper.alive = true) (hw : s.power.watchOn = true) (hi : s.keeper.state = .init)
  (hb : s.atHold = true)
include ha hw hi hb

theorem keeperLeaveInit_duplex (sa : s.keeper.a.state = .selftest) (sb : s.keeper.b.state = .selftest)
    (pa : s.keeper.a.step = 3) (pb : s.keeper.b.step = 3) : Gives .keeperLeaveInit s fun t =>
      Same { s with keeper := t.keeper } t ∧ t.keeper.state = .duplexA ∧ t.keeper.lastCause = 10
        ∧ t.keeper.a.state = .active ∧ t.keeper.b.state = .standby ∧ t.keeper.b.standbySince = s.now := by
  have known : s.keeper.a.known = true ∧ s.keeper.b.known = true := by simp [AnvilSt.known, pa, pb]
  have run : exec .keeperLeaveInit s = .next (anvilEvent 0x206 .b 10 (changeState .duplexA 10 s.bothPassed)) :=
    congrArg Host.Outcome.next ((if_pos ⟨ha, hw, hi, hb, .inl known⟩).trans
      ((if_pos (decide_eq_true ⟨sa, pa⟩)).trans (if_pos (decide_eq_true ⟨sb, pb⟩))))
  have same := (changeState_same s.bothPassed 10 .duplexA).trans (anvilEvent_same _ .b 10 0x206)
  have a := (same.keeperIn_anvil .a).trans (bothPassed_a s)
  have b := (same.keeperIn_anvil .b).trans (bothPassed_b s)
  exact ⟨_, run, (bothPassed_keeperOnly s).trans same.keeperIn_keeperOnly, same.keeperIn_state,
    same.keeperIn_lastCause, (congrArg AnvilSt.state a :), (congrArg AnvilSt.state b :),
    (congrArg AnvilSt.standbySince b :)⟩

theorem keeperLeaveInit_failStatic (sa : s.keeper.a.state = .out) (sb : s.keeper.b.state = .out) :
    Gives .keeperLeaveInit s fun t =>
      t.keeper.state = .failStatic ∧ t.elems = s.elems ∧ Same { s with keeper := t.keeper } t := by
  have known : s.keeper.a.known = true ∧ s.keeper.b.known = true := by simp [AnvilSt.known, sa, sb]
  have run : exec .keeperLeaveInit s = .next (enterFailStatic 10 s.initEnding) :=
    congrArg Host.Outcome.next ((if_pos ⟨ha, hw, hi, hb, .inl known⟩).trans
      ((if_neg (by simp [sa])).trans (if_neg (by simp [sb]))))
  have frame := (initEnding_keeperOnly s).trans (enterFailStatic_keeperOnly 10 s.initEnding)
  exact ⟨_, run, (enterFailStatic_same 10 s.initEnding).keeperIn_state, frame.elems, frame⟩

end

end Sys2Proof.Machine
end

section
open Sys2Proof Sys2Proof.Machine

/-- Settles O16: a self-test by its result and the Keeper's state, each step of a resynchronisation by its success, a
rebuild before and after the hand-overs of the elements, INIT by both results. -/
theorem anvilReturns : Obligations.AnvilReturns :=
  ⟨fun _ _ ht hn hi => anvilSelftestDone_waits ht hn hi,
    fun _ _ ht hn hi hf => anvilSelftestDone_resyncs ht hn hi hf,
    fun _ _ ht hn hi => anvilSelftestDone_fails ht hn hi,
    fun _ _ h => resyncCopyDone_copied h,
    fun _ _ h => resyncLive_live h,
    fun v s => ⟨fun h => ⟨_, resyncCopyDone_eq false h, resyncFail_facts v s⟩,
      fun h => ⟨_, resyncLive_eq false h, resyncFail_facts v s⟩⟩,
    fun _ _ ha hs hn hm hb => anvilStandby_standsBy ha hs hn hm hb,
    fun _ _ ha hf hr hb hc => rebuildComplete_clearing ha hf hr hb hc,
    fun _ _ ha hf hr hb => rebuildComplete_drives ha hf hr hb,
    fun _ ha hw hi hb sa sb pa pb => keeperLeaveInit_duplex ha hw hi hb sa sb pa pb,
    fun _ ha hw hi hb sa sb => keeperLeaveInit_failStatic ha hw hi hb sa sb⟩

end

/-! SUPPORT. Drive that moves by a revert, the host's requests to the Keeper, and the loss and return of the arbiter
(R298, R300, R305). -/
section
namespace Sys2Proof.Machine

/-! ### Drive moves (R298) -/

/-- The driving Anvil and the standby have exchanged their places. -/
def State.exchanged (s : State) (v : Anvil) : State :=
  let s1 := s.setAnvil v { s.anvil v with state := .standby, standbySince := s.now }
  let s2 := s1.setAnvil (otherAnvil v) { s1.anvil (otherAnvil v) with state := .active, standbySince := 0 }
  { s2 with keeper := { s2.keeper with moved := false, revertAt := none, swapAsked := false } }

theorem exchanged_self (s : State) (v : Anvil) :
    (s.exchanged v).anvil v = { s.anvil v with state := .standby, standbySince := s.now } := by cases v <;> rfl

theorem exchanged_other (s : State) (v : Anvil) : (s.exchanged v).anvil (otherAnvil v)
    = { s.anvil (otherAnvil v) with state := .active, standbySince := 0 } := by cases v <;> rfl

theorem exchanged_keeperOnly (s : State) (v : Anvil) : KeeperOnly s (s.exchanged v) :=
  (setAnvil_keeperOnly s v _).trans ((setAnvil_keeperOnly _ (otherAnvil v) _).trans (.of_base rfl rfl))

theorem exchange_same {s : State} {v : Anvil} (cause : Nat) (h : s.keeper.state.source = some v) :
    Same ((s.exchanged v).keeperIn cause (duplexOf (otherAnvil v))) (exchange cause s) := by
  have moves : exchange cause s
      = anvilEvent 0x206 v cause (changeState (duplexOf (otherAnvil v)) cause (s.exchanged v)) := by
    unfold exchange
    rw [h]
    rfl
  rw [moves]
  exact (changeState_same _ _ _).trans (anvilEvent_same _ v cause _)

section
variable {s : State}

theorem kprRevert_reverts {due at_ : Nat} (hr : s.keeper.revertAt = some (due, at_)) (hd : at_ ≤ s.time.elapsed)
    (hm : s.mayMove = true) (hs : s.keeper.state = .duplexB) : Gives .kprRevert s fun t =>
      Same { s with keeper := t.keeper } t ∧ t.keeper.state = .duplexA ∧ t.keeper.lastCause = 8
        ∧ t.keeper.a.state = .active ∧ t.keeper.b.state = .standby ∧ t.keeper.revertAt = none := by
  have run : exec .kprRevert s = .next (raiseEv 0x208 ((exchange 8 s).kprPayload 1 0 8) (exchange 8 s)) := by
    refine congrArg Host.Outcome.next ?_
    rw [hr]
    exact if_pos ⟨hd, hm, hs⟩
  have same := (exchange_same (v := .b) 8 (by rw [hs]; rfl)).trans
    (raiseEv_same 0x208 ((exchange 8 s).kprPayload 1 0 8) _)
  have a := (same.keeperIn_anvil .a).trans (exchanged_other s .b)
  have b := (same.keeperIn_anvil .b).trans (exchanged_self s .b)
  exact ⟨_, run, (exchanged_keeperOnly s .b).trans same.keeperIn_keeperOnly, same.keeperIn_state,
    same.keeperIn_lastCause, (congrArg AnvilSt.state a :), (congrArg AnvilSt.state b :),
    (congrArg Keeper.revertAt same.arbiter :)⟩

end

/-! ### Answers, and KPR_SWAP (R300) -/

section
variable {ses st : Nat} {s t : State}

/-- An answer after a change of the Keeper. -/
theorem KeeperOnly.does (h : KeeperOnly s t) :
    Does ses st s { s with keeper := (reply ses st t).keeper } (reply ses st t) := by
  rw [reply_keeper]
  exact does_of_same (u := { s with keeper := t.keeper }) rfl h

theorem AnvilsOnly.does (h : AnvilsOnly s t) : Does ses st s { s with
    keeper := (reply ses st t).keeper, lanesA := (reply ses st t).lanesA, lanesB := (reply ses st t).lanesB }
    (reply ses st t) := by
  rw [reply_keeper, reply_lanesA, reply_lanesB]
  exact does_of_same (u := { s with keeper := t.keeper, lanesA := t.lanesA, lanesB := t.lanesB }) rfl h

theorem reply_anvil (v : Anvil) : (reply ses st s).anvil v = s.anvil v := by cases v <;> simp [State.anvil]

end

section
variable {ses : Nat} {s : State} (h : Passes ses 0x3400 9 (valBytes 1 1) s)
include h

theorem kprSwap_refused (hr : s.keeper.alive = false ∨ s.duplex = false ∨ s.keeper.takeover ≠ none) :
    Gives (.kprSwap ses 1) s fun t => Does ses stNotEligible s s t := by
  have refused : !s.keeper.alive ∨ !s.duplex ∨ s.keeper.takeover.isSome := by
    simpa [Option.isSome_iff_ne_none] using hr
  exact gives_reply (congrArg Host.Outcome.next ((gated_pass h _).trans
    ((if_neg Nat.one_ne_zero).trans (if_pos refused))))

theorem kprSwap_asks (ha : s.keeper.alive = true) (hx : s.duplex = true) (ht : s.keeper.takeover = none) :
    Gives (.kprSwap ses 1) s fun t => Does ses stOk s { s with keeper := { s.keeper with
      swapAsked := true, swapAt := if s.keeper.swapAsked = true then s.keeper.swapAt else s.time.elapsed } } t := by
  have run : exec (.kprSwap ses 1) s = .next (reply ses stOk (askSwap none s)) :=
    congrArg Host.Outcome.next ((gated_pass h _).trans
      ((if_neg Nat.one_ne_zero).trans (if_neg (by simp [ha, hx, ht]))))
  exact ⟨_, run, does_reply _ _ _ _ (SessionsStill.of_eq rfl)⟩

end

/-! ### KPR_RESTART (R300, R309) -/

theorem cancelRevert_anvil (s : State) (v : Anvil) : (cancelRevert s).anvil v = s.anvil v := by cases v <;> rfl

theorem cancelRevert_keeperOnly (s : State) : KeeperOnly s (cancelRevert s) := .of_base rfl rfl

theorem releaseForge_keeperOnly (s : State) : KeeperOnly s (releaseForge s) := .of_base rfl rfl

theorem changeState_ite (c : Prop) [Decidable c] (k : KState) (cause : Nat) (s : State) :
    KeeperOnly s (if c then changeState k cause s else s)
      ∧ ∀ v, (if c then changeState k cause s else s).anvil v = s.anvil v := by
  split
  · exact ⟨changeState_keeperOnly _ _ _, fun v => changeState_anvil _ _ _ _⟩
  · exact ⟨.of_same (.refl s), fun v => rfl⟩

/-- The failures of an Anvil forgotten, and a swap or revert with them. -/
def State.forgiven (s : State) (v : Anvil) : State :=
  cancelRevert (s.setAnvil v { s.anvil v with fails := [], retried := false })

/-- An Anvil restarted by the host, before another one rebuilds. -/
def State.restarted (s : State) (v : Anvil) : State := releaseForge (resetAnvil v (s.forgiven v))

section
variable (s : State) (v : Anvil)

theorem restarted_self : ((s.restarted v).anvil v).state = .selftest ∧ ((s.restarted v).anvil v).fails = [] := by
  unfold State.restarted State.forgiven
  rw [releaseForge_anvil, resetAnvil_self, cancelRevert_anvil]
  simp

theorem restarted_other : (s.restarted v).anvil (otherAnvil v) = s.anvil (otherAnvil v) := by
  unfold State.restarted State.forgiven
  rw [releaseForge_anvil, resetAnvil_other _ _ _ (otherAnvil_ne v), cancelRevert_anvil]
  simp [otherAnvil_ne]

theorem restarted_failStatic : (s.restarted v).failStatic = s.failStatic := by
  have reset := (congrArg Keeper.state (resetAnvil_arbiter (s.forgiven v) v) :)
  have forgiven := (congrArg Keeper.state (s.setAnvil_arbiter v { s.anvil v with fails := [], retried := false }) :)
  exact congrArg (fun k => decide (k = .failStatic)) (reset.trans forgiven)

theorem restarted_anvilsOnly : AnvilsOnly s (s.restarted v) :=
  ((setAnvil_keeperOnly s v _).trans (cancelRevert_keeperOnly _)).anvilsOnly.trans
    ((resetAnvil_anvilsOnly (s.forgiven v) v).trans (releaseForge_keeperOnly _).anvilsOnly)

end

section
variable {ses n : Nat} {s : State} (hn : n ≤ 1) (h : Passes ses 0x3400 0x0A (valBytes 1 n) s)
include hn h

theorem kprRestart_refused (hr : s.keeper.alive = false ∨ s.drives (anvilOf n) = true) :
    Gives (.kprRestart ses n) s fun t => Does ses stNotEligible s s t :=
  gives_reply (congrArg Host.Outcome.next ((gated_pass h _).trans
    ((if_neg (by omega)).trans (if_pos (by simpa using hr)))))

/-- The Anvil is restarted, another one rebuilds where it waited, and a standby leaves SIMPLEX. -/
theorem kprRestart_eq (ha : s.keeper.alive = true) (hd : s.drives (anvilOf n) = false)
    (ho : (s.anvil (anvilOf n)).state ≠ .off) : ∃ t, exec (.kprRestart ses n) s = .next (reply ses stOk t)
      ∧ KeeperOnly (rebuildIfWaiting (otherAnvil (anvilOf n)) (s.restarted (anvilOf n))) t
      ∧ ∀ w, t.anvil w = (rebuildIfWaiting (otherAnvil (anvilOf n)) (s.restarted (anvilOf n))).anvil w :=
  ⟨_, congrArg Host.Outcome.next ((gated_pass h _).trans
    ((if_neg (by omega)).trans ((if_neg (by simp [ha, hd])).trans (if_neg ho)))), changeState_ite _ _ _ _⟩

theorem kprRestart_restarts (ha : s.keeper.alive = true) (hd : s.drives (anvilOf n) = false)
    (ho : (s.anvil (anvilOf n)).state ≠ .off) : Gives (.kprRestart ses n) s fun t =>
      Does ses stOk s { s with keeper := t.keeper, lanesA := t.lanesA, lanesB := t.lanesB } t
        ∧ (t.anvil (anvilOf n)).state = .selftest ∧ (t.anvil (anvilOf n)).fails = []
        ∧ (s.failStatic = false → t.anvil (otherAnvil (anvilOf n)) = s.anvil (otherAnvil (anvilOf n))) := by
  obtain ⟨t, run, frame, anvil⟩ := kprRestart_eq hn h ha hd ho
  have self := (anvil (anvilOf n)).trans
    (rebuildIfWaiting_other (s.restarted (anvilOf n)) (otherAnvil (anvilOf n)) _ (otherAnvil_ne _).symm)
  obtain ⟨state, fails⟩ := restarted_self s (anvilOf n)
  refine ⟨_, run, ((restarted_anvilsOnly s _).trans ((rebuildIfWaiting_keeperOnly _ _).trans frame).anvilsOnly).does,
    ?_, ?_, fun hf => ?_⟩
  · rw [reply_anvil, self, state]
  · rw [reply_anvil, self, fails]
  · rw [reply_anvil, anvil, rebuildIfWaiting_driven _ _ (by rw [restarted_failStatic, hf]), restarted_other]

end

/-! ### KPR_REMOVE (R300) -/

/-- An Anvil taken out by the host, before the Keeper's state changes. -/
def State.removed (s : State) (v : Anvil) : State :=
  cancelRevert (s.setAnvil v { s.anvil v with
    state := .out, cause := 7, standbySince := 0, step := 0, rebuilding := false })

theorem removed_self (s : State) (v : Anvil) : (s.removed v).anvil v = { s.anvil v with
    state := .out, cause := 7, standbySince := 0, step := 0, rebuilding := false } := by
  unfold State.removed
  rw [cancelRevert_anvil]
  simp

theorem removed_keeperOnly (s : State) (v : Anvil) : KeeperOnly s (s.removed v) :=
  (setAnvil_keeperOnly s v _).trans (cancelRevert_keeperOnly _)

theorem removeAnvil_eq (v : Anvil) (s : State) : ∃ u t, KeeperOnly s u ∧ KeeperOnly (u.removed v) t
    ∧ t.anvil v = (u.removed v).anvil v
    ∧ removeAnvil v s = rebuildIfWaiting (otherAnvil v) (anvilEvent 0x20D v 7 t) := by
  let u := if (s.anvil v).state = .resync then releaseForge s else s
  have released : KeeperOnly s u := by
    simp only [u]
    split
    · exact releaseForge_keeperOnly s
    · exact .of_same (.refl s)
  obtain ⟨frame, anvil⟩ := changeState_ite
    ((decide ((s.anvil v).state = .standby) && s.duplex) = true) (simplexOf (otherAnvil v)) 7 (u.removed v)
  exact ⟨u, _, released, frame, anvil v, rfl⟩

theorem removeAnvil_facts (v : Anvil) (s : State) : ((removeAnvil v s).anvil v).state = .out
    ∧ ((removeAnvil v s).anvil v).cause = 7 ∧ KeeperOnly s (removeAnvil v s) := by
  obtain ⟨u, t, released, changed, self, removes⟩ := removeAnvil_eq v s
  rw [removes, rebuildIfWaiting_other _ _ _ (otherAnvil_ne v).symm, anvilEvent_anvil, self, removed_self]
  exact ⟨rfl, rfl, released.trans ((removed_keeperOnly u v).trans (changed.trans
    ((KeeperOnly.of_same (anvilEvent_same t v 7 0x20D)).trans (rebuildIfWaiting_keeperOnly _ _))))⟩

section
variable {ses n : Nat} {s : State} (hn : n ≤ 1) (h : Passes ses 0x3400 0x0B (valBytes 1 n) s)
  (ha : s.keeper.alive = true)
include hn h ha

theorem kprRemove_removes (hd : s.drives (anvilOf n) = false) : Gives (.kprRemove ses n) s fun t =>
    Does ses stOk s { s with keeper := t.keeper } t ∧ (t.anvil (anvilOf n)).state = .out
      ∧ (t.anvil (anvilOf n)).cause = 7 := by
  have run : exec (.kprRemove ses n) s = .next (reply ses stOk (removeAnvil (anvilOf n) s)) :=
    congrArg Host.Outcome.next ((gated_pass h _).trans ((if_neg (by omega)).trans ((if_neg (by simp [ha])).trans
      (if_neg (by simp [hd])))))
  obtain ⟨state, cause, frame⟩ := removeAnvil_facts (anvilOf n) s
  refine ⟨_, run, frame.does, ?_, ?_⟩
  · rw [reply_anvil, state]
  · rw [reply_anvil, cause]

theorem kprRemove_asks (hd : s.drives (anvilOf n) = true) (ho : (s.anvil (otherAnvil (anvilOf n))).state = .standby)
    (ht : s.keeper.takeover = none) : Gives (.kprRemove ses n) s fun t =>
      Does ses stOk s { s with keeper := { s.keeper with
        swapAsked := true, swapAt := if s.keeper.swapAsked = true then s.keeper.swapAt else s.time.elapsed
        removeAfter := some (anvilOf n) } } t := by
  have run : exec (.kprRemove ses n) s = .next (reply ses stOk (askSwap (some (anvilOf n)) s)) :=
    congrArg Host.Outcome.next ((gated_pass h _).trans ((if_neg (by omega)).trans ((if_neg (by simp [ha])).trans
      ((if_pos hd).trans (if_pos ⟨ho, by simp [ht]⟩)))))
  exact ⟨_, run, does_reply _ _ _ _ (SessionsStill.of_eq rfl)⟩

end

/-! ### The arbiter lost and restored (R305) -/

/-- The arbiter is lost, and the drive selector latches its present source. -/
def State.arbiterGone (s : State) : State :=
  { s with keeper := { s.keeper with
    alive := false, latched := sourceCode s.keeper.state.source, takeover := none
    lostCount := (s.keeper.lostCount + 1) % 4294967296, checked := 0, differ := none, verdict := none
    losses := s.time.elapsed :: s.keeper.losses.filter fun t => decide (s.time.elapsed < t + hourUnits) } }

section
variable {s : State}

theorem keeperLost_same (ha : s.keeper.alive = true) :
    ∃ t, exec .keeperLost s = .next t ∧ Same s.arbiterGone t :=
  ⟨_, congrArg Host.Outcome.next (if_neg (by simp [ha])), raiseEv_same _ _ _⟩

theorem keeperLost_loses (ha : s.keeper.alive = true) : Gives .keeperLost s fun t =>
    Same { s with keeper := t.keeper } t ∧ t.keeper.alive = false ∧ t.keeper.state = s.keeper.state
      ∧ t.keeper.latched = sourceCode s.keeper.state.source
      ∧ t.keeper.lostCount = (s.keeper.lostCount + 1) % 4294967296 := by
  obtain ⟨t, run, same⟩ := keeperLost_same ha
  exact ⟨t, run, same.keeperOnly rfl rfl, (congrArg Keeper.alive same.arbiter :),
    (congrArg Keeper.state same.arbiter :), (congrArg Keeper.latched same.arbiter :),
    (congrArg Keeper.lostCount same.arbiter :)⟩

theorem noDriveSource_reports (ha : s.keeper.alive = false) (hn : s.keeper.noSource = false)
    (hm : s.latchedMissing = true) :
    Gives .noDriveSource s fun t => Same { s with keeper := { s.keeper with noSource := true } } t :=
  ⟨_, congrArg Host.Outcome.next (if_pos (by simp [ha, hn, hm])), raiseEv_same _ _ _⟩

theorem demote_keeperOnly (v : Anvil) (s : State) : KeeperOnly s (demote v s) := by
  unfold demote
  split
  · exact setAnvil_keeperOnly s v _
  · exact .of_same (.refl s)

/-- The restarted arbiter is in service, in the state that its checks match. -/
def State.arbiterBack (s : State) (k : KState) : State :=
  { s with keeper := { s.keeper with alive := true, latched := 0xFF, state := k, noSource := false, matched := 0 } }

theorem keeperRestored_same (ha : s.keeper.alive = false) (hl : s.keeper.losses ≠ [])
    (hn : s.keeper.losses.length < 3) (hc : s.arbiterChecked = true) :
    ∃ u t, KeeperOnly s u ∧ exec .keeperRestored s = .next t ∧ Same (u.arbiterBack s.matchState) t := by
  refine ⟨_, _, ?_, congrArg Host.Outcome.next (if_neg (by simp [ha, hl, hn, hc])), raiseEv_same _ _ _⟩
  split
  · exact demote_keeperOnly .b s
  · exact demote_keeperOnly .a s
  · split
    · exact .of_same (.refl s)
    · exact .of_base rfl rfl
  · exact .of_same (.refl s)

theorem keeperRestored_restores (ha : s.keeper.alive = false) (hl : s.keeper.losses ≠ [])
    (hn : s.keeper.losses.length < 3) (hc : s.arbiterChecked = true) : Gives .keeperRestored s fun t =>
      Same { s with keeper := t.keeper } t ∧ t.keeper.alive = true ∧ t.keeper.state = s.matchState
        ∧ t.keeper.latched = 0xFF := by
  obtain ⟨u, t, frame, run, same⟩ := keeperRestored_same ha hl hn hc
  exact ⟨t, run, frame.trans (same.keeperOnly rfl rfl), (congrArg Keeper.alive same.arbiter :),
    (congrArg Keeper.state same.arbiter :), (congrArg Keeper.latched same.arbiter :)⟩

theorem keeperRestored_stays (h : s.keeper.alive = true ∨ s.keeper.losses.isEmpty = true ∨ 3 ≤ s.keeper.losses.length
    ∨ (!s.arbiterChecked) = true) : Gives .keeperRestored s fun t => t = s :=
  ⟨s, congrArg Host.Outcome.next (if_pos h), rfl⟩

end

end Sys2Proof.Machine
end

section
open Sys2Proof Sys2Proof.Machine

/-- Settles O17: a revert at its boundary, each request by who drives and stands by, a loss, and a return by the losses
and the checks behind it. -/
theorem keeperRequestsAndLoss : Obligations.KeeperRequestsAndLoss :=
  ⟨fun _ _ _ hr hd hm hs => kprRevert_reverts hr hd hm hs,
    fun _ _ h => ⟨kprSwap_refused h, kprSwap_asks h⟩,
    fun _ _ _ hn h => ⟨kprRestart_refused hn h, kprRestart_restarts hn h⟩,
    fun _ _ _ hn h => ⟨kprRemove_removes hn h, kprRemove_asks hn h⟩,
    fun _ ha => keeperLost_loses ha,
    fun _ ha hn hm => noDriveSource_reports ha hn hm,
    fun _ ha hl hn hc => keeperRestored_restores ha hl hn hc,
    fun _ hc => keeperRestored_stays (.inr (.inr (.inr (by simp [hc])))),
    fun _ _ hl => keeperRestored_stays (.inr (.inr (.inl hl)))⟩

end
